-- ==== Sys2Proof/Word.lean ====
section
/-! DEFINITION. The word types of the KL6432 model: what the manual treats as bits. Counters, indexes and times are
plain natural numbers with their width stated where they wrap; see Machine/Bits.lean for the conversions. -/

namespace Sys2Proof

/-- A byte of an addressed memory, of a record or of a key. -/
abbrev Byte := BitVec 8

/-- A 32-bit word (a payload word, a hash word). -/
abbrev Word32 := BitVec 32

/-- A key of the object dictionary: index × 256 + subindex (Chapter 13). -/
abbrev Key := Nat

end Sys2Proof
end

