-- ==== Sys2Proof/Syntax.lean ====
section
/-! DEFINITION. The commands that reach the block from outside, one for each row of the table, and the types of their
operands. -/

namespace Sys2Proof

/-- The readings of one calibration of a TDC input (R169): R1 and R2, and those of the repeat R170 makes where the first
is not sound. -/
structure CalReading where
  input : Nat
  r1 : Nat
  r2 : Nat
  again : Option (Nat × Nat)
  deriving DecidableEq, Repr

/-- The signal at a chain's comparator crosses a level (R125): the coarse count and the raw reading of the crossing, the level
in 1/256 of full scale, and the sense. -/
structure Crossing where
  coarse : Nat
  raw : Nat
  level : Int
  rising : Bool
  deriving DecidableEq, Repr

/-- A calibration of TDC input 16 (R169): R1 and R2, and those of the repeat. -/
def cal16 (first : Nat × Nat) (again : Option (Nat × Nat)) : CalReading :=
  { input := 16, r1 := first.1, r2 := first.2, again := again }

/-- A calibration of input 17 or 18 (R169), and the stops of input 17 since the one before as (coarse count, raw reading). -/
structure GateReading where
  cal : CalReading
  stops : List (Nat × Nat)
  deriving DecidableEq, Repr

/-- What a direction's window yields (R22, R129, R175), as it would with INVERT of the receiving pin clear (R91): the capture,
the crossings of the signal in order of time, and the overload detector. -/
structure WindowMeas where
  samples : List Int
  crossings : List Crossing
  overload : Bool
  deriving DecidableEq, Repr

/-- What a chain shows in a window beside its capture: the crossings of its signal and its overload detector. -/
structure WindowSeen where
  crossings : List Crossing
  overload : Bool
  deriving DecidableEq, Repr

/-- A window's measurement with its capture. -/
def WindowSeen.meas (w : WindowSeen) (samples : List Int) : WindowMeas :=
  { samples := samples, crossings := w.crossings, overload := w.overload }

/-- Which shot of a group starts (R118): its first shot, an admitted dynamic retry, or an acquisition shot. -/
inductive ShotKind where
  | first
  | dynamicRetry
  | acquisition
  deriving DecidableEq, Repr

/-- An occurrence a counter may count (R586, R587): block, event code, class bit, privilege bit, master bit, address,
and how often. -/
structure Act where
  block : Nat
  event : Nat
  cls : Nat
  priv : Nat
  master : Nat
  addr : Option Nat
  times : Nat
  deriving DecidableEq, Repr

/-- The issue slots of a block in a frame that no job of the sequencers accounts for (R589): the block, 2 to 4, the class and
privilege they carry, and how many were retired, wasted and back-starved; only the application core retires or wastes here. -/
structure SlotUse where
  block : Nat
  cls : Nat
  priv : Nat
  retired : Nat
  wasted : Nat
  back : Nat
  deriving DecidableEq, Repr

/-- What only the outside knows of a frame that closes: the counted occurrences, and the issue slots that no job of the
sequencers accounts for. -/
structure FrameFigures where
  acts : List Act
  slots : List SlotUse
  deriving DecidableEq, Repr

/-- What a start finds: whether the second check of OTP fails, and the bits of the commit banks that have changed, as (bank,
offset, bits). -/
structure StartFound where
  otpFails : Bool
  damage : List (Nat × Nat × Nat)
  deriving DecidableEq, Repr

/-- What is measured with a crossing of the mains: the stop that a rising one gives on TDC input 18, and m_p and m_q in mV of
the half-cycle that it ends (R505). -/
structure CrossingMeas where
  input18 : Option (Nat × Nat)
  half : Option (Nat × Nat)
  deriving DecidableEq, Repr

/-- Where the application core's program stands when it makes an access: its program counter and privilege mode, and the
writes it has made to control and status registers since the command before (R555, R556). -/
structure CoreAt where
  pc : Nat
  user : Bool
  csrs : List (Nat × Nat)
  deriving DecidableEq, Repr

/-- The six destinations of an event (Table 1.8). -/
inductive Dest where
  | core
  | host
  | log
  | iol
  | mbus
  | pl
  deriving DecidableEq, Repr

/-- The way a request came, which is the way its answer goes: the register window of the access port, the core queue, the
SPI port, an ISDU, an M-Bus dictionary block, or the powerline session at a place. -/
inductive Via where
  | window
  | core
  | spi
  | isdu
  | mbus
  | powerline (session : Nat)
  deriving DecidableEq, Repr

/-- The port code of a way: 0 access port, 1 SPI, 2 IO-Link, 3 M-Bus, 4 powerline (Table 13.14). -/
def Via.port : Via → Nat
  | .window => 0
  | .core => 0
  | .spi => 1
  | .isdu => 2
  | .mbus => 3
  | .powerline _ => 4

/-- How a sender carries a write: as OP WRITE, as OP WRITE_AUTH with an envelope, or as a write to AUTH_ENVELOPE (R449);
an envelope has a ROLE, a COUNTER and a MAC (Table 13.4). -/
inductive Carrier where
  | plain
  | auth (role counter : Nat) (mac : List Nat)
  | enveloped (role counter : Nat) (mac : List Nat)
  deriving DecidableEq, Repr

/-- The sender of a write of one entry: the way the request comes, GEN of its header, its REQ_ID and its carrier. -/
structure Sender where
  via : Via
  gen : Nat
  id : Nat
  carrier : Carrier
  deriving DecidableEq, Repr

/-- A command: one constructor for each row of spec/opcode_table.json, with what comes from outside as its operands. -/
inductive Instr where
  /-- FRAME_BOUNDARY (R74): the stops of input 17 since its last calibration as (coarse count, raw reading), the
  ticks for which a stopped 32 768 Hz crystal has run again, the levels of ACF0 and ACF1, the occurrences and issue
  slots of the frame that no other command brings, and the occurrences of the snapshot cycle. -/
  | frameBoundary (gate : List (Nat × Nat)) (lfxTicks : Nat) (acf0 : Bool) (acf1 : Bool) (figures : FrameFigures) (edge : List Act)
  /-- SYNO_PULSE_END (R77). -/
  | synoPulseEnd
  /-- COMMIT_COMPLETE (R310): the bits in which the read-back differs from what was written. -/
  | commitComplete (diff : List (Nat × Nat))
  /-- BILLING_SNAPSHOT_WRITE (R379). -/
  | billingSnapshotWrite
  /-- SHOT_GROUP_START (R118): `due` ledger cycles after the boundary, VHD in mV, and the calibration readings of the
  inputs. -/
  | shotGroupStart (group : Nat) (kind : ShotKind) (due : Nat) (vhd : Nat) (cals : List CalReading)
  /-- VHD_RECOVERED (R103): `cyc` ledger cycles after the boundary. -/
  | vhdRecovered (group : Nat) (cyc : Nat)
  /-- HELD_SHOT_GIVEN_UP (R103): `cyc` ledger cycles after the boundary. -/
  | heldShotGivenUp (group : Nat) (cyc : Nat)
  /-- REVERSE_TRANSMISSION (R118): whether of the acquisition shot; `cyc` ledger cycles after the boundary. -/
  | reverseTransmission (ctx : Nat) (acquisition : Bool) (cyc : Nat)
  /-- WINDOW_CLOSE (R138): the direction, whether of the acquisition shot, the capture, and what the chain shows in
  the window. -/
  | windowClose (ctx : Nat) (up : Bool) (acquisition : Bool) (samples : List Int) (seen : WindowSeen)
  /-- TDC_COUNT_WRAP (R172): the direction, the stop events after the wrap. -/
  | tdcCountWrap (ctx : Nat) (up : Bool) (acquisition : Bool) (late : Nat) (cyc : Nat)
  /-- TDC_STOP_TIMEOUT (R173): the direction. -/
  | tdcStopTimeout (ctx : Nat) (up : Bool) (acquisition : Bool) (cyc : Nat)
  /-- RETRY_SLOT_START (R143): as SHOT_GROUP_START. -/
  | retrySlotStart (group : Nat) (due : Nat) (vhd : Nat) (cals : List CalReading)
  /-- CORRELATION_COMPLETE (R184): `cyc` ledger cycles after the boundary. -/
  | correlationComplete (ctx : Nat) (up : Bool) (cyc : Nat)
  /-- ACQUISITION_SEARCH_COMPLETE (R185): `cyc` ledger cycles after the boundary. -/
  | acquisitionSearchComplete (ctx : Nat) (cyc : Nat)
  /-- WAVEFORM_COPY_COMPLETE (R199): `cyc` ledger cycles after the boundary. -/
  | waveformCopyComplete (ctx : Nat) (up : Bool) (cyc : Nat)
  /-- FLOW_COMPUTATION_COMPLETE (R251): `cyc` ledger cycles after the boundary. -/
  | flowComputationComplete (cyc : Nat)
  /-- SENSOR_JOB_START (R231): `due` ledger cycles after the boundary, and the calibration of input 16. -/
  | sensorJobStart (due : Nat) (cal : CalReading)
  /-- DISCHARGE_STOP (R230): the stop as coarse count and raw reading, and R1 and R2 of the calibration before the
  next discharge and of its repeat. -/
  | dischargeStop (stop : Nat × Nat) (first : Nat × Nat) (again : Option (Nat × Nat))
  /-- DISCHARGE_STOP_LIMIT (R232): the stop events after a wrap, and the calibration before the next discharge as for
  DISCHARGE_STOP. -/
  | dischargeStopLimit (late : Nat) (first : Nat × Nat) (again : Option (Nat × Nat))
  /-- PRESSURE_CONVERSION_START (R237): `cyc` ledger cycles after the boundary. -/
  | pressureConversionStart (cyc : Nat)
  /-- PRESSURE_CONVERSION_COMPLETE (R240): the result and what the converter found: 1 open, 2 short, 6 overload,
  anything else none. -/
  | pressureConversionComplete (cyc : Nat) (code : Int) (cond : Nat)
  /-- INTERNAL_TEMP_CONVERSION (R241): the reading in mK, and whether the self-test passes. -/
  | internalTempConversion (mk : Int) (selfTest : Bool)
  /-- PLL_LOCK_LOST (R195): whether the PLL lost lock or the DLL alone. -/
  | pllLockLost (cyc : Nat) (pll : Bool) (cal : CalReading)
  /-- TM_INPUT_CALIBRATION (R169): the readings of input 17 or 18, and the stops of input 17 since its calibration
  before. -/
  | tmInputCalibration (gate : GateReading)
  /-- WICK_ENTRY_COMPLETE (R401): a wake event that arrived during the entry. -/
  | wickEntryComplete (cyc : Nat) (wake : Option Nat)
  /-- WICK_EXIT (R72): `cyc` ledger cycles after the boundary. -/
  | wickExit (cyc : Nat)
  /-- DOMAIN_READY (R402): 0 AF, 1 HD, 2 TM, 3 CE, 4 LK, 5 DP; for AF, whether VSD is within 2% of its level. -/
  | domainReady (domain : Nat) (vsd : Bool) (cyc : Nat)
  /-- REGULATOR_TIMEOUT (R403): the read-backs of a commit under way and of a final commit. -/
  | regulatorTimeout (domain : Nat) (cyc : Nat) (commit : List (Nat × Nat)) (final : List (Nat × Nat))
  /-- HF_CRYSTAL_READY (R209): µs after TM was switched on. -/
  | hfCrystalReady (cyc : Nat) (ready : Nat)
  /-- CRYSTAL_READY_TIMEOUT (R221): `cyc` ledger cycles after the boundary. -/
  | crystalReadyTimeout (cyc : Nat)
  /-- CRYSTAL_RETRY (R224). -/
  | crystalRetry
  /-- OCXO_GATE_END (R217): the OCXO periods and the compute-clock count of the gate. -/
  | ocxoGateEnd (cyc : Nat) (refs : Nat) (count : Nat)
  /-- OCXO_EDGE_LOST (R220): `cyc` ledger cycles after the boundary. -/
  | ocxoEdgeLost (cyc : Nat)
  /-- LF_CRYSTAL_STOPPED (R223). -/
  | lfCrystalStopped
  /-- SYNC_REFERENCE_EVENT (R80): `cyc` ledger cycles after the boundary. -/
  | syncReferenceEvent (cyc : Nat)
  /-- CALENDAR_SECOND (R349). -/
  | calendarSecond
  /-- TRIM_WINDOW_START (R342). -/
  | trimWindowStart
  /-- TAMPER_SAMPLE (R352): the levels of TAMP0, TAMP1 and MAGS. -/
  | tamperSample (tamp0 : Bool) (tamp1 : Bool) (mags : Bool)
  /-- KEY_PRESS (R410). -/
  | keyPress
  /-- KEY_RELEASE (R410): the duration of the press. -/
  | keyRelease (ms : Nat)
  /-- ACT_KEY_HOLD_EXPIRY (R393). -/
  | actKeyHoldExpiry
  /-- BACKUP_SWITCHOVER (R355): the supplies in mV. -/
  | backupSwitchover (vmain : Nat) (vbat : Nat) (vbkp : Nat)
  /-- VMAIN_RISE (R357): VBKP in mV, and the ticks until VMAIN reaches 2.60 V. -/
  | vmainRise (vbkp : Nat) (ticks : Nat)
  /-- BK_RETENTION_TRIP (R356). -/
  | bkRetentionTrip
  /-- BROWNOUT (R314): the last supply present, 1 VMAIN or 2 VBAT, VCAP in mV, and the read-back of a commit under
  way. -/
  | brownout (cyc : Nat) (supply : Nat) (vcap : Nat) (commit : List (Nat × Nat))
  /-- FINAL_COMMIT_COMPLETE (R314): the bits in which the read-back differs from what was written. -/
  | finalCommitComplete (diff : List (Nat × Nat))
  /-- BROWNOUT_HOLD_RECOVERY (R414). -/
  | brownoutHoldRecovery
  /-- VCAP_HOLD_LOST (R414). -/
  | vcapHoldLost
  /-- NRST_ASSERT (R631): the read-backs of a commit under way and of the final commit. -/
  | nrstAssert (cyc : Nat) (commit : List (Nat × Nat)) (final : List (Nat × Nat))
  /-- NRST_RELEASE (R631). -/
  | nrstRelease
  /-- TESTM_RELEASE (R633). -/
  | testmRelease
  /-- BACKOFF_EXPIRY (R424). -/
  | backoffExpiry
  /-- START_SEQUENCE (R417): the level of TESTM, and what the start finds. -/
  | startSequence (testm : Bool) (found : StartFound)
  /-- START_REGULATOR_TIMEOUT (R417). -/
  | startRegulatorTimeout
  /-- OPENING_BOUNDARY (R417). -/
  | openingBoundary
  /-- ACCUMULATION_START_TIMEOUT (R421). -/
  | accumulationStartTimeout
  /-- MICROCODE_ACK_TIMEOUT (R421). -/
  | microcodeAckTimeout
  /-- SNUFF_WAKE (R413): whether the wake event came before the entry was complete. -/
  | snuffWake (duringEntry : Bool)
  /-- IOL_WAKE (R406). -/
  | iolWake
  /-- SPI_SCS_WAKE (R409). -/
  | spiScsWake
  /-- MBUS_START_BIT_WAKE (R406). -/
  | mbusStartBitWake
  /-- EVENT_DELIVERY (R38): the destination that has room. -/
  | eventDelivery (dest : Dest)
  /-- EVENT_LOG_WRITE (R580). -/
  | eventLogWrite
  /-- OD_READ (R457): the way the request comes, its GEN and REQ_ID, and the entry. -/
  | odRead (via : Via) (gen : Nat) (id : Nat) (index : Nat) (sub : Nat)
  /-- OD_WRITE (R457): as OD_READ, and the bytes of the value. -/
  | odWrite (via : Via) (gen : Nat) (id : Nat) (index : Nat) (sub : Nat) (data : List Nat)
  /-- OD_WRITE_AUTH (R449): as OD_READ, and the bytes of the envelope. -/
  | odWriteAuth (via : Via) (gen : Nat) (id : Nat) (index : Nat) (sub : Nat) (data : List Nat)
  /-- AUTH_ENVELOPE (R449): as OD_READ, and the bytes of the envelope. -/
  | authEnvelope (via : Via) (gen : Nat) (id : Nat) (data : List Nat)
  /-- AUTH_LOCKOUT_EXPIRY (R448): 1 OPERATOR, 2 METROLOGY, 3 FACTORY. -/
  | authLockoutExpiry (role : Nat)
  /-- HELLO (R455): from the core or from the SPI host, with the words of its payload. -/
  | hello (core : Bool) (payload : List Nat)
  /-- HELLO_EXCHANGE (R465): as OD_READ, and the offer. -/
  | helloExchange (via : Via) (gen : Nat) (id : Nat) (data : List Nat)
  /-- MODE_CONFIG (R459): the sender. -/
  | modeConfig (by_ : Sender)
  /-- MODE_MEASURE (R460): the sender. -/
  | modeMeasure (by_ : Sender)
  /-- MODE_VERIFY (R460): the sender. -/
  | modeVerify (by_ : Sender)
  /-- SEAL_SET (R443): the sender. -/
  | sealSet (by_ : Sender)
  /-- SEAL_CLEAR (R443): the sender. -/
  | sealClear (by_ : Sender)
  /-- FACTORY_LOCK (R441): the sender. -/
  | factoryLock (by_ : Sender)
  /-- QTY_CLEAR (R317): the sender. -/
  | qtyClear (by_ : Sender)
  /-- TAPER_EXIT (R430): the sender. -/
  | taperExit (by_ : Sender)
  /-- POWER_COMMAND_RESET (R433): the sender. -/
  | powerCommandReset (by_ : Sender)
  /-- POWER_COMMAND_SNUFF (R412): the sender. -/
  | powerCommandSnuff (by_ : Sender)
  /-- RESIDENCY_CLEAR (R416): the sender. -/
  | residencyClear (by_ : Sender)
  /-- CAL_SET (R338): the sender, the DATETIME. -/
  | calSet (by_ : Sender) (datetime : Nat)
  /-- DST_COMMAND (R346): the sender, 1 sets the flag, 2 clears it. -/
  | dstCommand (by_ : Sender) (value : Nat)
  /-- TAMPER_CLEAR (R354): the sender, the latches. -/
  | tamperClear (by_ : Sender) (mask : Nat)
  /-- PASSIVE_ACTIVATE_AT (R370): the sender, the instant, 0 none. -/
  | passiveActivateAt (by_ : Sender) (seconds : Nat)
  /-- BILLING_CLOSE_NOW (R377): the sender. -/
  | billingCloseNow (by_ : Sender)
  /-- CREDIT_TOPUP (R388): the sender, TOPUP_ID and AMOUNT. -/
  | creditTopup (by_ : Sender) (topup : Nat) (amount : Int)
  /-- ACT_DISCONNECT (R393): the sender. -/
  | actDisconnect (by_ : Sender)
  /-- ACT_ARM (R393): the sender. -/
  | actArm (by_ : Sender)
  /-- ACT_CONNECT (R393): the sender. -/
  | actConnect (by_ : Sender)
  /-- ACT_CLEAR_FAULT (R393): the sender. -/
  | actClearFault (by_ : Sender)
  /-- ACTUATOR_END_REACHED (R391): `cyc` ledger cycles after the boundary. -/
  | actuatorEndReached (cyc : Nat)
  /-- ACTUATOR_DONE (R391): `cyc` ledger cycles after the boundary. -/
  | actuatorDone (cyc : Nat)
  /-- ACTUATOR_FAULT (R392): the fault of Table 11.19, and ACI in mV. -/
  | actuatorFault (kind : Nat) (aci : Nat) (cyc : Nat)
  /-- ACTUATOR_REVERSE_END (R392): `cyc` ledger cycles after the boundary. -/
  | actuatorReverseEnd (cyc : Nat)
  /-- ACTUATOR_PAUSE_END (R392): `cyc` ledger cycles after the boundary. -/
  | actuatorPauseEnd (cyc : Nat)
  /-- ZERO_CAPTURE_START (R157): the sender, the context and N. -/
  | zeroCaptureStart (by_ : Sender) (ctx : Nat) (pairs : Nat)
  /-- ZERO_CAPTURE_STOP (R158): the sender, the context. -/
  | zeroCaptureStop (by_ : Sender) (ctx : Nat)
  /-- TEMPLATE_CAPTURE_START (R188): the sender, CONTEXT, PAIRS and ANCHOR. -/
  | templateCaptureStart (by_ : Sender) (ctx : Nat) (pairs : Nat) (anchor : Nat)
  /-- TEMPLATE_CAPTURE_STOP (R188): the sender, CONTEXT. -/
  | templateCaptureStop (by_ : Sender) (ctx : Nat)
  /-- CTX_STAGE_SET (R161): the sender, the context, and the STYLE and DEFINED that the write carries. -/
  | ctxStageSet (by_ : Sender) (ctx : Nat) (low : Nat)
  /-- CTX_STAGE_APPLY (R161): the sender, the context, and the STYLE and DEFINED that the write carries. -/
  | ctxStageApply (by_ : Sender) (ctx : Nat) (low : Nat)
  /-- PERF_SEL_WRITE (R598): the sender, the counter and its configuration. -/
  | perfSelWrite (by_ : Sender) (block : Nat) (counter : Nat) (value : Nat)
  /-- PERF_OVF_CLEAR (R599): the sender, the OVF bits. -/
  | perfOvfClear (by_ : Sender) (mask : Nat)
  /-- PERF_OVERFLOW (R592). -/
  | perfOverflow (block : Nat) (counter : Nat)
  /-- FW_COMMAND_VERIFY (R573): the sender. -/
  | fwCommandVerify (by_ : Sender)
  /-- FW_COMMAND_LOADER (R573): the sender. -/
  | fwCommandLoader (by_ : Sender)
  /-- FW_BLOCK (R573): the sender, the offset and the 256 bytes. -/
  | fwBlock (by_ : Sender) (offset : Nat) (data : List Nat)
  /-- FW_MIN_VERSION (R574): the sender, the version. -/
  | fwMinVersion (by_ : Sender) (version : Nat)
  /-- KEY_CHANGE (R576): the sender, 1 OPERATOR or 2 METROLOGY, and the wrapped key. -/
  | keyChange (by_ : Sender) (role : Nat) (wrapped : List Nat)
  /-- BOOT_KEY_HASH (R577): the sender, the hash. -/
  | bootKeyHash (by_ : Sender) (hash : List Nat)
  /-- MAILBOX_IN (R568): the sender, the 32 bytes. -/
  | mailboxIn (by_ : Sender) (data : List Nat)
  /-- BOOT_VERIFY_COMPLETE (R571). -/
  | bootVerifyComplete
  /-- WFI (R557): the interrupts enabled in mie. -/
  | wfi (mie : Nat)
  /-- MTIMECMP_MATCH (R563). -/
  | mtimecmpMatch
  /-- MSIP_WRITE (R561): the word written. -/
  | msipWrite (value : Nat)
  /-- CLAIM (R562). -/
  | claim
  /-- LOCAL_ACK (R561): the word written. -/
  | localAck (value : Nat)
  /-- WDT_KICK (R564): the word written. -/
  | wdtKick (value : Nat)
  /-- CORE_WATCHDOG (R564): the core's program counter. -/
  | coreWatchdog (pc : Nat)
  /-- RESERVATION_SPENT (R559). -/
  | reservationSpent
  /-- REQ_GO (R565): the word written. -/
  | reqGo (value : Nat)
  /-- CUSTOMER_REQUEST_HELD (R566). -/
  | customerRequestHeld
  /-- CUST_DONE (R566): the word written. -/
  | custDone (value : Nat)
  /-- CUST_TIMEOUT (R567). -/
  | custTimeout
  /-- MAILBOX_TAKEN (R568). -/
  | mailboxTaken
  /-- MAILBOX (R568). -/
  | mailbox
  /-- IN_DATA_POP (R569). -/
  | inDataPop
  /-- OUT_SUBMIT (R569): the word written. -/
  | outSubmit (value : Nat)
  /-- FIREWALL_ACCESS_FAULT (R570): the access: its address, master and kind, and where the core stands. -/
  | firewallAccessFault (addr : Nat) (master : Nat) (access : Nat) (core : CoreAt)
  /-- COUNT_LO_READ (R596): the master, the offset in the reader, and whether in U-mode. -/
  | countLoRead (master : Nat) (off : Nat) (user : Bool)
  /-- SPI_STATUS (R467): the preamble bytes of the host that came before SCS rose. -/
  | spiStatus (pre : List Nat)
  /-- SPI_WRITE (R468): the preamble, and the words clocked in before SCS rises. -/
  | spiWrite (pre : List Nat) (words : List Nat)
  /-- SPI_READ (R469): the preamble, and the words clocked out before SCS rises. -/
  | spiRead (pre : List Nat) (clocked : Nat)
  /-- IOL_M_SEQUENCE (R475): whether the checksum is good, the state a master command leads to (2 PREOPERATE, 3
  OPERATE, else none), the process data output with its valid flag, and whether the message reads the pending event.
  -/
  | iolMSequence (cyc : Nat) (sound : Bool) (command : Nat) (pdOut : List Nat × Bool) (takesEvent : Bool)
  /-- IOL_ISDU (R481): write or read, the index and subindex, and the octets. -/
  | iolIsdu (wr : Bool) (index : Nat) (sub : Nat) (data : List Nat)
  /-- PARAM_UPLOAD_START (R472). -/
  | paramUploadStart
  /-- PARAM_UPLOAD_END (R472). -/
  | paramUploadEnd
  /-- PARAM_DOWNLOAD_START (R487). -/
  | paramDownloadStart
  /-- PARAM_DOWNLOAD_END (R487). -/
  | paramDownloadEnd
  /-- PARAM_DOWNLOAD_STORE (R472). -/
  | paramDownloadStore
  /-- PARAM_BREAK (R472). -/
  | paramBreak
  /-- IOL_FALLBACK (R464). -/
  | iolFallback
  /-- IOL_SESSION_TIMEOUT (R464). -/
  | iolSessionTimeout
  /-- SND_NKE (R488): the address field. -/
  | sndNke (addr : Nat)
  /-- REQ_UD2 (R493): the address field and FCB. -/
  | reqUd2 (addr : Nat) (fcb : Bool)
  /-- REQ_UD1 (R488): the address field and FCB. -/
  | reqUd1 (addr : Nat) (fcb : Bool)
  /-- MBUS_SET_PRIMARY_ADDRESS (R491): the address field, the new address and FCB. -/
  | mbusSetPrimaryAddress (addr : Nat) (value : Nat) (fcb : Bool)
  /-- MBUS_DICTIONARY_REQUEST (R495): the address field, FCB and the request block. -/
  | mbusDictionaryRequest (addr : Nat) (fcb : Bool) (op : Nat) (id : Nat) (index : Nat) (sub : Nat) (data : List Nat)
  /-- MBUS_SELECTION (R490): FCB and the secondary address. -/
  | mbusSelection (fcb : Bool) (id : Nat) (manufacturer : Nat) (version : Nat) (medium : Nat)
  /-- MBUS_APPLICATION_RESET (R488): the address field and FCB. -/
  | mbusApplicationReset (addr : Nat) (fcb : Bool)
  /-- MBUS_BAUD_CHANGE (R488): the address field, CI and FCB. -/
  | mbusBaudChange (addr : Nat) (ci : Nat) (fcb : Bool)
  /-- MBUS_FRAME_IGNORED (R488): whether the frame is faulty, and its address, C and CI fields. -/
  | mbusFrameIgnored (faulty : Bool) (addr : Nat) (c : Nat) (ci : Nat)
  /-- MBUS_SESSION_IDLE (R464). -/
  | mbusSessionIdle
  /-- MBUS_BAUD_REVERT (R489). -/
  | mbusBaudRevert
  /-- PL_ZERO_CROSSING (R502): the polarity, the time in units of the 1.048 576 MHz counter, and what is measured
  with the crossing. -/
  | plZeroCrossing (rising : Bool) (time : Nat) (meas : CrossingMeas)
  /-- PL_CROSSING_MISSED (R503). -/
  | plCrossingMissed
  /-- PL_FRAME (R512): m_p and m_q in mV of the half-cycles of each pair, from the PREAMBLE on. -/
  | plFrame (pairs : List ((Nat × Nat) × (Nat × Nat)))
  /-- PL_POLL_STATUS (R518). -/
  | plPollStatus
  /-- PL_POLL_READ (R516). -/
  | plPollRead
  /-- PL_POLL_READ_NEXT (R516). -/
  | plPollReadNext
  /-- PL_POLL_WRITE (R516). -/
  | plPollWrite
  /-- PL_POLL_WRITE_MORE (R516). -/
  | plPollWriteMore
  /-- PL_REPLY_DEADLINE (R517). -/
  | plReplyDeadline
  /-- PL_REPLY_RECEIVED (R521). -/
  | plReplyReceived
  /-- PL_POLL_TIMEOUT (R515). -/
  | plPollTimeout
  /-- PL_CYCLE_START (R521). -/
  | plCycleStart
  /-- PL_MASTER_REQUEST (R522): the sender, the 26 bytes. -/
  | plMasterRequest (by_ : Sender) (data : List Nat)
  /-- PL_WAKE_PATTERN (R407). -/
  | plWakePattern
  /-- PL_SESSION_IDLE (R520): the place of the session. -/
  | plSessionIdle (session : Nat)
  /-- PL_TRANSMISSION_END (R526). -/
  | plTransmissionEnd
  /-- DISP_UPDATE (R530): the sender, the regions. -/
  | dispUpdate (by_ : Sender) (regions : Nat)
  /-- DISPLAY_UPDATE_ADMITTED (R540): the region, and the times of its bursts in ledger cycles after the present
  boundary. -/
  | displayUpdateAdmitted (region : Nat) (starts : List Nat)
  /-- PUMP_BURST (R538): `cyc` ledger cycles after the boundary. -/
  | pumpBurst (region : Nat) (cyc : Nat)
  /-- WAVEFORM_START (R534): `cyc` ledger cycles after the boundary. -/
  | waveformStart (region : Nat) (cyc : Nat)
  /-- DRIVEN_PHASE (R538): |VEP| and |VEN| in mV. -/
  | drivenPhase (vep : Nat) (ven : Nat)
  /-- DISPLAY_DONE (R535). -/
  | displayDone (region : Nat)
  /-- LCD_FRAME_START (R549): `cyc` ledger cycles after the boundary. -/
  | lcdFrameStart (cyc : Nat)
  /-- PULSE_START (R323): `cyc` ledger cycles after the boundary. -/
  | pulseStart (output : Nat) (cyc : Nat)
  /-- PULSE_END (R323): `cyc` ledger cycles after the boundary. -/
  | pulseEnd (output : Nat) (cyc : Nat)
  /-- FTO_PULSE (R328): `cyc` ledger cycles after the boundary. -/
  | ftoPulse (cyc : Nat)
  /-- AO_POWER_UP (R417). -/
  | aoPowerUp
  /-- PL_TRANSMIT_PULSE (R506): `cyc` ledger cycles after the boundary. -/
  | plTransmitPulse (cyc : Nat)
  /-- FTO_PULSE_END (R328): `cyc` ledger cycles after the boundary. -/
  | ftoPulseEnd (cyc : Nat)
  /-- VSD_PUMP_SETTLED (R134): whether VSD has drooped by more than 5%. -/
  | vsdPumpSettled (droop : Bool)
  /-- DEBUG_COMMAND (R632): 0 halt, 1 resume, 2 read, 3 write, 4 read a register, 5 write one, and the access. -/
  | debugCommand (op : Nat) (addr : Nat) (width : Nat) (value : Nat)
  /-- CORE_MEMORY_WRITE (R26): the access, by the core or the DMA controller, and where the core stands. -/
  | coreMemoryWrite (addr : Nat) (width : Nat) (value : Nat) (dma : Bool) (last : Bool) (core : CoreAt)
  deriving DecidableEq, Repr

end Sys2Proof
end

