-- ==== Sys2Proof/Machine/Bits.lean ====
section
/-! DEFINITION. Bit fields, two's complement, byte order (R11) and rounding (R636): the helpers every engine uses. -/

namespace Sys2Proof.Machine

/-- Bits high:low of a word, as the manual writes them (Notation). -/
def field (n high low : Nat) : Nat := n / 2 ^ low % 2 ^ (high + 1 - low)

/-- One bit of a word. -/
def bitAt (n i : Nat) : Bool := n / 2 ^ i % 2 == 1

/-- A flag as the number 0 or 1. -/
def flag (b : Bool) : Nat := if b then 1 else 0

/-- A flag at its place in a word. -/
def flagAt (b : Bool) (i : Nat) : Nat := if b then 2 ^ i else 0

/-- The low `w` bits. -/
def low (w n : Nat) : Nat := n % 2 ^ w

/-- The signed value of a `w`-bit two's complement number. -/
def signed (w n : Nat) : Int :=
  if n % 2 ^ w < 2 ^ (w - 1) then ((n % 2 ^ w : Nat) : Int) else ((n % 2 ^ w : Nat) : Int) - 2 ^ w

/-- The `w`-bit two's complement form of an integer. -/
def unsigned (w : Nat) (i : Int) : Nat := (i % (2 ^ w : Int)).toNat

/-- Clamp to the range of a signed `w`-bit number. -/
def clampSigned (w : Nat) (i : Int) : Int :=
  max (-(2 ^ (w - 1) : Int)) (min i ((2 ^ (w - 1) : Int) - 1))

/-- Clamp to the range of an unsigned `w`-bit number. -/
def clampUnsigned (w : Nat) (i : Int) : Nat := min i.toNat (2 ^ w - 1)

/-- A 32-bit counter of the dictionary advances by one and wraps with its width. -/
def inc32 (n : Nat) : Nat := (n + 1) % 2 ^ 32

/-- A `w`-bit counter advances by one and wraps with its width. -/
def incW (w n : Nat) : Nat := (n + 1) % 2 ^ w

/-- A count that stops at its largest value (R38, R111). -/
def satInc (largest n : Nat) : Nat := min largest (n + 1)

/-- `k` bytes of a number, least significant first (R11). -/
def leBytes : Nat → Nat → List Nat
  | 0, _ => []
  | k + 1, n => n % 256 :: leBytes k (n / 256)

/-- The number that bytes spell, least significant first (R11). -/
def ofLe : List Nat → Nat
  | [] => 0
  | b :: bs => b % 256 + 256 * ofLe bs

/-- The number that bytes spell, most significant first (R12). -/
def ofBe (bs : List Nat) : Nat := ofLe bs.reverse

/-- `k` bytes of a number, most significant first (R12). -/
def beBytes (k n : Nat) : List Nat := (leBytes k n).reverse

/-- The 32-bit words of a byte string, least significant byte first, the last word filled with zeros (R11). -/
def wordsOf : Nat → List Nat → List Nat
  | 0, _ => []
  | k + 1, bs => ofLe (bs.take 4) :: wordsOf k (bs.drop 4)

/-- The bytes of a list of 32-bit words (R11). -/
def bytesOfWords (ws : List Nat) : List Nat := ws.flatMap (leBytes 4)

/-- Round to the nearest integer, halfway values away from zero (R636). -/
def roundAway (q : Rat) : Int :=
  if 0 ≤ q then (q + 1 / 2).floor else -((-q + 1 / 2).floor)

/-- Truncate toward zero. -/
def truncZero (q : Rat) : Int := if 0 ≤ q then q.floor else -((-q).floor)

/-- The integer square root, by the digits of base 2: `k` digits are formed. -/
def isqrtAux : Nat → Nat → Nat → Nat
  | 0, _, r => r
  | k + 1, n, r => isqrtAux k n (if (r + 2 ^ k) * (r + 2 ^ k) ≤ n then r + 2 ^ k else r)

/-- The integer square root of a number below 2^512. -/
def isqrt (n : Nat) : Nat := isqrtAux 256 n 0

/-- Change the element at a place; a place past the end changes nothing. -/
def setAt {α : Type} : List α → Nat → α → List α
  | [], _, _ => []
  | _ :: xs, 0, a => a :: xs
  | x :: xs, n + 1, a => x :: setAt xs n a

/-- Apply a function to the element at a place. -/
def modAt {α : Type} : List α → Nat → (α → α) → List α
  | [], _, _ => []
  | x :: xs, 0, f => f x :: xs
  | x :: xs, n + 1, f => x :: modAt xs n f

/-- The element at a place of a list of numbers; 0 past the end. -/
def natAt (l : List Nat) (n : Nat) : Nat := l.getD n 0

end Sys2Proof.Machine
end

