-- ==== Sys2Proof/Machine/Crypto.lean ====
section
/-! DEFINITION. The algorithms the manual names: AES-128 with CMAC (R446), AES key unwrap (R576), SHA-256 (R571, R578),
CRC-32 (R311), CRC-16 (R508) and the ECDSA P-256 check (R571). Bytes and words are numbers below 2^8 and 2^32. -/

namespace Sys2Proof.Machine

/-- Bitwise exclusive or of two byte strings. -/
def xorBytes (a b : List Nat) : List Nat := List.zipWith (fun x y => x ^^^ y) a b

/-- Doubling in the field of AES. -/
def aesDouble (x : Nat) : Nat := if 128 ≤ x then (2 * x) % 256 ^^^ 0x1B else 2 * x

/-- Product in the field of AES by the bits of the second factor. -/
def aesMulAux : Nat → Nat → Nat → Nat
  | 0, _, _ => 0
  | n + 1, x, y => (if y % 2 = 1 then x else 0) ^^^ aesMulAux n (aesDouble x) (y / 2)

/-- Product in the field of AES. -/
def aesMul (x y : Nat) : Nat := aesMulAux 8 x y

/-- The inverse in the field of AES (0 for 0): x^254 as a product of squares. -/
def aesInv (x : Nat) : Nat :=
  let x2 := aesMul x x
  let x4 := aesMul x2 x2
  let x8 := aesMul x4 x4
  let x16 := aesMul x8 x8
  let x32 := aesMul x16 x16
  let x64 := aesMul x32 x32
  let x128 := aesMul x64 x64
  aesMul x2 (aesMul x4 (aesMul x8 (aesMul x16 (aesMul x32 (aesMul x64 x128)))))

/-- Rotate a byte left. -/
def rotl8 (x n : Nat) : Nat := (x * 2 ^ n) % 256 + x / 2 ^ (8 - n)

/-- The AES substitution. -/
def aesSub (x : Nat) : Nat :=
  let i := aesInv x
  i ^^^ rotl8 i 1 ^^^ rotl8 i 2 ^^^ rotl8 i 3 ^^^ rotl8 i 4 ^^^ 0x63

/-- The inverse AES substitution. -/
def aesSubInv (y : Nat) : Nat := aesInv (rotl8 y 1 ^^^ rotl8 y 3 ^^^ rotl8 y 6 ^^^ 0x05)

/-- The next round key of AES-128 from the one before it. -/
def aesNextKey (rcon : Nat) (k : List Nat) : List Nat :=
  let w3 := k.drop 12
  let t := (w3.drop 1 ++ w3.take 1).map aesSub
  let w0 := xorBytes (k.take 4) (xorBytes t [rcon, 0, 0, 0])
  let w1 := xorBytes ((k.drop 4).take 4) w0
  let w2 := xorBytes ((k.drop 8).take 4) w1
  w0 ++ w1 ++ w2 ++ xorBytes w3 w2

/-- The round keys after a key, `n` of them. -/
def aesKeys : Nat → Nat → List Nat → List (List Nat)
  | 0, _, _ => []
  | n + 1, rcon, k => aesNextKey rcon k :: aesKeys n (aesDouble rcon) (aesNextKey rcon k)

/-- Places of the state bytes after the row shift of AES. -/
def aesShift (s : List Nat) : List Nat :=
  [0, 5, 10, 15, 4, 9, 14, 3, 8, 13, 2, 7, 12, 1, 6, 11].map (natAt s)

/-- Places of the state bytes after the inverse row shift of AES. -/
def aesShiftInv (s : List Nat) : List Nat :=
  [0, 13, 10, 7, 4, 1, 14, 11, 8, 5, 2, 15, 12, 9, 6, 3].map (natAt s)

/-- One column of the AES column mix with the given coefficients. -/
def aesColumn (c : List Nat) (a0 a1 a2 a3 : Nat) : List Nat :=
  let m := fun (i j k l : Nat) => aesMul i a0 ^^^ aesMul j a1 ^^^ aesMul k a2 ^^^ aesMul l a3
  let p := natAt c 0
  let q := natAt c 1
  let r := natAt c 2
  let s := natAt c 3
  [m p q r s, m s p q r, m r s p q, m q r s p]

/-- The AES column mix over the four columns. -/
def aesMix (c : List Nat) (s : List Nat) : List Nat :=
  [0, 1, 2, 3].flatMap fun i => aesColumn c (natAt s (4 * i)) (natAt s (4 * i + 1)) (natAt s (4 * i + 2)) (natAt s (4 * i + 3))

/-- The middle rounds and the last round of AES over the round keys. -/
def aesRounds : List (List Nat) → List Nat → List Nat
  | [], s => s
  | [k], s => xorBytes (aesShift (s.map aesSub)) k
  | k :: ks, s => aesRounds ks (xorBytes (aesMix [2, 3, 1, 1] (aesShift (s.map aesSub))) k)

/-- AES-128 encryption of one block of 16 bytes. -/
def aesEncrypt (key block : List Nat) : List Nat := aesRounds (aesKeys 10 1 key) (xorBytes block key)

/-- The rounds of AES decryption over the round keys in falling order, the first key last. -/
def aesRoundsInv : List (List Nat) → List Nat → List Nat
  | [], s => s
  | [k], s => xorBytes ((aesShiftInv s).map aesSubInv) k
  | k :: ks, s => aesRoundsInv ks (aesMix [14, 11, 13, 9] (xorBytes ((aesShiftInv s).map aesSubInv) k))

/-- AES-128 decryption of one block of 16 bytes. -/
def aesDecrypt (key block : List Nat) : List Nat :=
  match (aesKeys 10 1 key).reverse with
  | [] => block
  | k :: ks => aesRoundsInv (ks ++ [key]) (xorBytes block k)

/-- Doubling in the field of CMAC over a block read most significant byte first. -/
def cmacDouble (b : List Nat) : List Nat :=
  let n := ofBe b
  beBytes 16 (if 2 ^ 127 ≤ n then (2 * n) % 2 ^ 128 ^^^ 0x87 else 2 * n)

/-- The chain of CMAC over the blocks before the last and the prepared last block. -/
def cmacChain (key : List Nat) : Nat → List Nat → List Nat → List Nat
  | 0, x, _ => x
  | n + 1, x, m => cmacChain key n (aesEncrypt key (xorBytes x (m.take 16))) (m.drop 16)

/-- AES-CMAC of a byte string. -/
def aesCmac (key msg : List Nat) : List Nat :=
  let zero := List.replicate 16 0
  let k1 := cmacDouble (aesEncrypt key zero)
  let k2 := cmacDouble k1
  let n := (msg.length + 15) / 16 - 1
  let x := cmacChain key n zero msg
  let r := msg.drop (16 * n)
  let y := if r.length = 16 then xorBytes r k1
    else xorBytes (r ++ [0x80] ++ List.replicate (15 - r.length) 0) k2
  aesEncrypt key (xorBytes x y)

/-- One step of the AES key unwrap of two 8-byte blocks: the step number runs from 12 down to 1. -/
def unwrapSteps (key : List Nat) : Nat → List Nat → List Nat → List Nat → List Nat × List Nat × List Nat
  | 0, a, r1, r2 => (a, r1, r2)
  | t + 1, a, r1, r2 =>
    let x := beBytes 8 (ofBe a ^^^ (t + 1))
    if (t + 1) % 2 = 0 then
      let b := aesDecrypt key (x ++ r2)
      unwrapSteps key t (b.take 8) r1 (b.drop 8)
    else
      let b := aesDecrypt key (x ++ r1)
      unwrapSteps key t (b.take 8) (b.drop 8) r2

/-- RFC 3394 unwrap of a wrapped 128-bit key: the key, if the integrity value holds. -/
def keyUnwrap (key wrapped : List Nat) : Option (List Nat) :=
  let r := unwrapSteps key 12 (wrapped.take 8) ((wrapped.drop 8).take 8) (wrapped.drop 16)
  if r.1 = List.replicate 8 0xA6 then some (r.2.1 ++ r.2.2) else none

/-- Rotate a 32-bit word right. -/
def rotr32 (x n : Nat) : Nat := x / 2 ^ n + x % 2 ^ n * 2 ^ (32 - n)

/-- Add modulo 2^32. -/
def add32 (a b : Nat) : Nat := (a + b) % 2 ^ 32

/-- The largest k-th root whose power is at most x, by the bits of the root below 2^n. -/
def rootBits (k x : Nat) : Nat → Nat → Nat
  | 0, r => r
  | n + 1, r => rootBits k x n (if (r + 2 ^ n) ^ k ≤ x then r + 2 ^ n else r)

/-- The primes below 312, 64 of them. -/
def shaPrimes : List Nat :=
  (List.range 312).filter fun n => decide (1 < n) && [2, 3, 5, 7, 11, 13, 17].all fun d => n == d || n % d != 0

/-- The first 32 bits of the fraction of the k-th root of a number. -/
def rootFraction (k x : Nat) : Nat := rootBits k (x * 2 ^ (32 * k)) 37 0 % 2 ^ 32

/-- The round constants of SHA-256: the fractions of the cube roots of the first 64 primes. -/
def shaK : List Nat := shaPrimes.map (rootFraction 3)

/-- The chaining value at the start of SHA-256: the fractions of the square roots of the first 8 primes. -/
def shaStart : List Nat := (shaPrimes.take 8).map (rootFraction 2)

/-- The message schedule of SHA-256: `n` further words, the window holding the last 16, oldest first. -/
def shaSchedule : Nat → List Nat → List Nat
  | 0, _ => []
  | n + 1, w =>
    let a := natAt w 1
    let b := natAt w 14
    let s0 := rotr32 a 7 ^^^ rotr32 a 18 ^^^ a / 2 ^ 3
    let s1 := rotr32 b 17 ^^^ rotr32 b 19 ^^^ b / 2 ^ 10
    let x := (natAt w 0 + s0 + natAt w 9 + s1) % 2 ^ 32
    x :: shaSchedule n (w.drop 1 ++ [x])

/-- One round of SHA-256 on the eight working words. -/
def shaRound (v : List Nat) (k w : Nat) : List Nat :=
  let a := natAt v 0
  let b := natAt v 1
  let c := natAt v 2
  let e := natAt v 4
  let f := natAt v 5
  let g := natAt v 6
  let s1 := rotr32 e 6 ^^^ rotr32 e 11 ^^^ rotr32 e 25
  let ch := (e &&& f) ^^^ ((2 ^ 32 - 1 - e) &&& g)
  let t1 := (natAt v 7 + s1 + ch + k + w) % 2 ^ 32
  let s0 := rotr32 a 2 ^^^ rotr32 a 13 ^^^ rotr32 a 22
  let maj := (a &&& b) ^^^ (a &&& c) ^^^ (b &&& c)
  [add32 t1 (add32 s0 maj), a, b, c, add32 (natAt v 3) t1, e, f, g]

/-- The rounds of SHA-256 over constants and schedule. -/
def shaRounds : List Nat → List Nat → List Nat → List Nat
  | k :: ks, w :: ws, v => shaRounds ks ws (shaRound v k w)
  | _, _, v => v

/-- One block of SHA-256. -/
def shaBlock (h block : List Nat) : List Nat :=
  let w := (List.range 16).map fun i => ofBe ((block.drop (4 * i)).take 4)
  List.zipWith add32 h (shaRounds shaK (w ++ shaSchedule 48 w) h)

/-- The blocks of a padded message. -/
def shaBlocks : Nat → List Nat → List Nat → List Nat
  | 0, _, h => h
  | n + 1, m, h => shaBlocks n (m.drop 64) (shaBlock h (m.take 64))

/-- SHA-256 of a byte string: 32 bytes. -/
def sha256 (msg : List Nat) : List Nat :=
  let p := msg ++ [0x80] ++ List.replicate ((119 - msg.length % 64) % 64) 0 ++ beBytes 8 (8 * msg.length)
  (shaBlocks (p.length / 64) p shaStart).flatMap (beBytes 4)

/-- One bit of the reflected CRC-32. -/
def crc32Bits : Nat → Nat → Nat
  | 0, c => c
  | n + 1, c => crc32Bits n (if c % 2 = 1 then c / 2 ^^^ 0xEDB88320 else c / 2)

/-- The running CRC-32 over bytes. -/
def crc32Run : Nat → List Nat → Nat
  | c, [] => c
  | c, b :: bs => crc32Run (crc32Bits 8 (c ^^^ b % 256)) bs

/-- The CRC-32 of IEEE 802.3 (R311). -/
def crc32 (bs : List Nat) : Nat := crc32Run 0xFFFFFFFF bs ^^^ 0xFFFFFFFF

/-- The bits of one byte through a CRC-16 of polynomial 0x1021. -/
def crc16Bits : Nat → Nat → Nat
  | 0, c => c
  | n + 1, c => crc16Bits n (if 0x8000 ≤ c then (2 * c) % 65536 ^^^ 0x1021 else 2 * c)

/-- A CRC-16 of polynomial 0x1021 over bytes from a starting value, most significant bit first. -/
def crc16 : Nat → List Nat → Nat
  | c, [] => c
  | c, b :: bs => crc16 (crc16Bits 8 (c ^^^ b % 256 * 256)) bs

/-- The field prime of P-256. -/
def p256P : Nat := 0xffffffff00000001000000000000000000000000ffffffffffffffffffffffff
/-- The group order of P-256. -/
def p256N : Nat := 0xffffffff00000000ffffffffffffffffbce6faada7179e84f3b9cac2fc632551
/-- The coefficient b of P-256. -/
def p256B : Nat := 0x5ac635d8aa3a93e7b3ebbd55769886bc651d06b0cc53b0f63bce3c3e27d2604b
/-- The base point of P-256. -/
def p256G : Nat × Nat :=
  (0x6b17d1f2e12c4247f8bce6e563a440f277037d812deb33a0f4a13945d898c296,
   0x4fe342e2fe1a7f9b8ee7eb4a7c0f9e162bce33576b315ececbb6406837bf51f5)

/-- Modular power by `k` bits of the exponent. -/
def powModAux : Nat → Nat → Nat → Nat → Nat → Nat
  | 0, _, _, _, acc => acc
  | k + 1, b, e, m, acc => powModAux k (b * b % m) (e / 2) m (if e % 2 = 1 then acc * b % m else acc)

/-- The inverse modulo a prime below 2^256. -/
def invMod (a m : Nat) : Nat := powModAux 256 (a % m) (m - 2) m 1

/-- Addition on P-256; none is the point at infinity. -/
def p256Add : Option (Nat × Nat) → Option (Nat × Nat) → Option (Nat × Nat)
  | none, q => q
  | p, none => p
  | some (x1, y1), some (x2, y2) =>
    if x1 = x2 ∧ (y1 + y2) % p256P = 0 then none
    else
      let l := if x1 = x2 then (3 * x1 * x1 + p256P - 3) * invMod (2 * y1) p256P % p256P
        else (y2 + p256P - y1) * invMod (x2 + p256P - x1) p256P % p256P
      let x3 := (l * l + 2 * p256P - x1 - x2) % p256P
      some (x3, (l * (x1 + p256P - x3) + p256P - y1) % p256P)

/-- A multiple of a point by `k` bits of the factor. -/
def p256MulAux : Nat → Nat → Option (Nat × Nat) → Option (Nat × Nat) → Option (Nat × Nat)
  | 0, _, _, acc => acc
  | k + 1, n, p, acc => p256MulAux k (n / 2) (p256Add p p) (if n % 2 = 1 then p256Add acc p else acc)

/-- A multiple of a point of P-256. -/
def p256Mul (n : Nat) (p : Option (Nat × Nat)) : Option (Nat × Nat) := p256MulAux 256 n p none

/-- Whether a pair lies on P-256. -/
def p256On (x y : Nat) : Bool :=
  decide (x < p256P) && decide (y < p256P) && (y * y % p256P == (x * x * x + (p256P - 3) * x + p256B) % p256P)

/-- The ECDSA P-256 check of a signature (r, s: 64 bytes) of a hash with a public key (x, y: 64 bytes), each number
most significant byte first. -/
def ecdsaVerify (pub hash sig : List Nat) : Bool :=
  let x := ofBe (pub.take 32)
  let y := ofBe (pub.drop 32)
  let r := ofBe (sig.take 32)
  let s := ofBe (sig.drop 32)
  let w := invMod s p256N
  let u1 := ofBe hash * w % p256N
  let u2 := r * w % p256N
  p256On x y && decide (0 < r) && decide (r < p256N) && decide (0 < s) && decide (s < p256N) &&
    (match p256Add (p256Mul u1 (some p256G)) (p256Mul u2 (some (x, y))) with
     | none => false
     | some (rx, _) => rx % p256N == r)

end Sys2Proof.Machine
end

