-- ==== Sys2Proof/Config.lean ====
section
/-! DEFINITION. What one device or one implementation fixes, and the free values: constants without a body, so that no
statement can rest on a value of theirs. Each is named in the assumption log. -/

namespace Sys2Proof.Config

/-- CHIP_SERIAL of the OTP (Table 13.13); its low 64 bits are the serial. -/
opaque chipSerial : Nat

/-- The 128 bits of the FACTORY key of the OTP (Table 17.7). -/
opaque factoryKeyBits : BitVec 128

/-- The FACTORY key of the OTP, byte 0 first. -/
def factoryKey : List Nat := (List.range 16).map fun i => factoryKeyBits.toNat / 256 ^ i % 256

/-- GRADE of the OTP (Table 13.13): 1 is grade I, anything else is grade E. -/
opaque grade : Nat

/-- ROM_VERSION (Table 13.13). -/
opaque romVersion : Nat

/-- The quotient of a number by zero, where the manual states a formula and no result for a zero divisor (log 5). -/
opaque overZero : Rat → Rat

/-- The square root of a negative number, where the manual states a formula and no result for it (log 5). -/
opaque rootOfNegative : Rat → Rat

/-- The logarithm of zero or of a negative number, where the manual states a formula and no result for it (log 5). -/
opaque logOfNonPositive : Rat → Rat

/-- The value of a capture at a sample outside it, where template capture resamples (R189) and the manual states none
(log 5). -/
opaque outsideCapture : Int → Int

/-- The low bits of a result that does not fit the width of its field, where the manual states no result (log 5). -/
opaque unfit : Nat → Int → Nat

/-- The seconds counter that BK held before its state was lost, where TIME_SET (R358, Table 10.6) shows the difference to
it and the manual states none, from the counter the loss leaves (log 37). -/
opaque counterBeforeLoss : Nat → Nat

/-- The supply that FROM names in the BACKUP_SWITCHOVER of a loss of BK state (R358, Table 10.6), where no change of
supply takes place and the manual states none, from the supply in use (log 37). -/
opaque sourceBeforeLoss : Nat → Nat

/-- t_d, the comparator delay of the resistive ports, in TU: an OTP trim (R233). -/
opaque comparatorDelay : Rat

/-- The on-resistance in mΩ of the switch of a port, or of the reference as 4, at an internal temperature in mK: OTP
trims with a correction the manual does not give (R233). -/
opaque switchOhms : Nat → Int → Rat

/-- JOB of PROMISE_BROKEN for the copy of a capture that is deferred (R85, R199): Table 2.8 has no value for it (log 19). -/
opaque waveformJob : Nat

/-- The byte at an offset of the device area below the display area, from the stored entries (R25): no rule gives the places
of the entries in it. -/
opaque deviceAreaByte : List (Nat × Nat) → Nat → Nat

/-- The byte at an address of the boot ROM (R571): no rule gives its code. -/
opaque bootRomByte : Nat → Nat

end Sys2Proof.Config
end

