-- ==== Sys2Proof/Machine/Real.lean ====
section
/-! DEFINITION. Real-valued computation "in binary64 floating point or better" (R251, R308): exact rationals, with the
transcendental functions formed to 2^-128 by series whose recursion is structural, and the binary32 and binary64 forms
(IEEE 754) in which the manual publishes and keeps values. DEDUCED (log 3). -/

namespace Sys2Proof.Machine

/-- The grid on which transcendental functions are formed. -/
def fxOne : Int := 2 ^ 128

/-- A rational on the grid, toward minus infinity. -/
def toFx (q : Rat) : Int := (q * (fxOne : Rat)).floor

/-- A grid value as a rational. -/
def ofFx (i : Int) : Rat := (i : Rat) / (fxOne : Rat)

/-- Product on the grid. -/
def mulFx (a b : Int) : Int := (a * b) / fxOne

/-- Quotient on the grid; the callers divide by positive numbers only. -/
def divFx (a b : Int) : Int := (a * fxOne) / b

/-- Square root on the grid of a value that is not negative. -/
def sqrtFx (a : Int) : Int := ((isqrt (a.toNat * 2 ^ 128) : Nat) : Int)

/-- The odd series z - s z^3/3 + z^5/5 … by `fuel` terms, `p` the power reached and `n` its place; `s` is 1 for the
arc tangent, -1 for its hyperbolic form. -/
def oddSeries : Nat → Int → Int → Nat → Int → Int
  | 0, _, _, _, _ => 0
  | fuel + 1, s, z2, n, p => p / ((2 * n + 1 : Nat) : Int) + oddSeries fuel s z2 (n + 1) (-s * mulFx p z2)

/-- The arc tangent series of a small argument. -/
def atanSeries (z : Int) : Int := oddSeries 64 1 (mulFx z z) 0 z

/-- The inverse hyperbolic tangent series of a small argument. -/
def atanhSeries (z : Int) : Int := oddSeries 64 (-1) (mulFx z z) 0 z

/-- One halving of an arc tangent's argument: z / (1 + sqrt(1 + z^2)). -/
def halveTan (z : Int) : Int := divFx z (fxOne + sqrtFx (fxOne + mulFx z z))

/-- π on the grid (Machin's formula). -/
def piFx : Int := 16 * atanSeries (fxOne / 5) - 4 * atanSeries (fxOne / 239)

/-- Arc tangent on the grid. -/
def atanFx (z : Int) : Int :=
  if z < 0 then -(4 * atanSeries (halveTan (halveTan (-z))))
  else 4 * atanSeries (halveTan (halveTan z))

/-- ln 2 on the grid. -/
def ln2Fx : Int := 2 * atanhSeries (fxOne / 3)

/-- The exponential series by `fuel` terms of an argument below 1 in magnitude. -/
def expSeries : Nat → Nat → Int → Int → Int
  | 0, _, _, p => p
  | fuel + 1, n, r, p => p + expSeries fuel (n + 1) r (mulFx p r / ((n : Nat) : Int))

/-- π. -/
def piR : Rat := ofFx piFx

/-- Arc tangent. -/
def atanR (q : Rat) : Rat :=
  if q < -1 then -(piR / 2) + ofFx (atanFx (toFx (-1 / q)))
  else if 1 < q then piR / 2 - ofFx (atanFx (toFx (1 / q)))
  else ofFx (atanFx (toFx q))

/-- Square root of a value that is not negative, to 2^-128 of a value scaled to at least 1. -/
def sqrtR (q : Rat) : Rat :=
  if q ≤ 0 then 0 else ((isqrt (q.num.toNat * q.den * 2 ^ 256) : Nat) : Rat) / ((q.den * 2 ^ 128 : Nat) : Rat)

/-- Arc cosine of a value in -1 to 1. -/
def acosR (q : Rat) : Rat :=
  if q ≤ -1 then piR else if 1 ≤ q then 0 else 2 * atanR (sqrtR ((1 - q) / (1 + q)))

/-- The power of two at or below a positive rational, within one. -/
def log2Floor (q : Rat) : Int :=
  let e : Int := (q.num.toNat.log2 : Int) - (q.den.log2 : Int)
  if (if 0 ≤ e then ((2 ^ e.toNat : Nat) : Rat) else 1 / ((2 ^ (-e).toNat : Nat) : Rat)) ≤ q then e else e - 1

/-- A power of two with a signed exponent. -/
def pow2 (e : Int) : Rat := if 0 ≤ e then ((2 ^ e.toNat : Nat) : Rat) else 1 / ((2 ^ (-e).toNat : Nat) : Rat)

/-- Natural logarithm of a positive value. -/
def lnR (q : Rat) : Rat :=
  let e := log2Floor q
  let m := q / pow2 e
  ofFx (e * ln2Fx + 2 * atanhSeries (toFx ((m - 1) / (m + 1))))

/-- Decimal logarithm of a positive value. -/
def log10R (q : Rat) : Rat := lnR q / lnR 10

/-- Exponential. -/
def expR (q : Rat) : Rat :=
  let x := toFx q
  let k := x / ln2Fx
  let r := x - k * ln2Fx
  ofFx (expSeries 48 1 r fxOne) * pow2 k

/-- Integer power of a rational. -/
def powR (q : Rat) : Nat → Rat
  | 0 => 1
  | n + 1 => powR q n * q

/-- Round to the nearest integer, a tie to the even one: the rounding of IEEE 754 formats. -/
def roundEven (q : Rat) : Int :=
  let f := q.floor
  let d := q - (f : Rat)
  if d < 1 / 2 then f else if 1 / 2 < d then f + 1 else if f % 2 = 0 then f else f + 1

/-- The magnitude of a positive rational as an IEEE 754 word without its sign bit: `p` fraction bits, exponent bias
`b`; past the largest finite value the word of infinity. -/
def floatBits (p b : Nat) (q : Rat) : Nat :=
  let e0 := log2Floor q
  let e := max e0 (1 - (b : Int))
  let m := (roundEven (q / pow2 (e - (p : Int)))).toNat
  let w : Nat := (e + (b : Int) - 1).toNat * 2 ^ p + m
  min w ((2 * b + 1) * 2 ^ p)

/-- The F32 word of a value (Table 13.4, IEEE 754 binary32). -/
def toF32 (q : Rat) : Nat :=
  if q = 0 then 0 else if 0 < q then floatBits 23 127 q else 2 ^ 31 + floatBits 23 127 (-q)

/-- The value of a finite F32 word; the dictionary refuses a NaN or an infinity (R439), so no other word is read. -/
def ofF32 (w : Nat) : Rat :=
  let e : Nat := w / 2 ^ 23 % 256
  let f : Nat := w % 2 ^ 23
  let m : Rat := if e = 0 then (f : Rat) * pow2 (-149) else ((2 ^ 23 + f : Nat) : Rat) * pow2 ((e : Int) - 150)
  if w / 2 ^ 31 % 2 = 1 then -m else m

/-- Whether an F32 word is finite. -/
def finiteF32 (w : Nat) : Bool := w / 2 ^ 23 % 256 != 255

/-- The F64 word of a value (IEEE 754 binary64). -/
def toF64 (q : Rat) : Nat :=
  if q = 0 then 0 else if 0 < q then floatBits 52 1023 q else 2 ^ 63 + floatBits 52 1023 (-q)

/-- The value of a finite F64 word. -/
def ofF64 (w : Nat) : Rat :=
  let e : Nat := w / 2 ^ 52 % 2048
  let f : Nat := w % 2 ^ 52
  let m : Rat := if e = 0 then (f : Rat) * pow2 (-1074) else ((2 ^ 52 + f : Nat) : Rat) * pow2 ((e : Int) - 1075)
  if w / 2 ^ 63 % 2 = 1 then -m else m

/-- A value rounded to binary64, the form in which the engines keep a value from frame to frame. -/
def f64 (q : Rat) : Rat := ofF64 (toF64 q)

/-- A value rounded to binary32. -/
def f32 (q : Rat) : Rat := ofF32 (toF32 q)

/-- A quotient; a free value where the divisor is zero (log 5). -/
def quo (a b : Rat) : Rat := if b = 0 then Config.overZero a else a / b

/-- A square root; a free value where the argument is negative (log 5). -/
def root (a : Rat) : Rat := if a < 0 then Config.rootOfNegative a else sqrtR a

/-- A natural logarithm; a free value where the argument is not positive (log 5). -/
def ln (a : Rat) : Rat := if a ≤ 0 then Config.logOfNonPositive a else lnR a

/-- An unsigned `w`-bit field that a result is put into; a free value where it does not fit. -/
def fitU (w : Nat) (i : Int) : Nat := if 0 ≤ i ∧ i < 2 ^ w then i.toNat else Config.unfit w i % 2 ^ w

/-- A signed `w`-bit field that a result is put into; a free value where it does not fit. -/
def fitS (w : Nat) (i : Int) : Int :=
  if -(2 ^ (w - 1)) ≤ i ∧ i < 2 ^ (w - 1) then i else signed w (Config.unfit w i)

/-- Linear interpolation between two points. -/
def lerp (x0 y0 x1 y1 x : Rat) : Rat := y0 + quo ((y1 - y0) * (x - x0)) (x1 - x0)

/-- The sum of a list of rationals. -/
def sumR : List Rat → Rat
  | [] => 0
  | q :: qs => q + sumR qs

end Sys2Proof.Machine
end

