-- ==== Sys2Proof/Machine/Entries.lean ====
section
/-! DEFINITION. The object dictionary's table of entries (Chapter 13, Table 13.1): type, access role, legal relevance,
modes of writing and generation of every entry the chapters list, and the defaults. A value is held as one number: the
value's bytes read least significant first (R436); a TEXT holds no zero byte, so its length is that of the number. -/

namespace Sys2Proof.Machine

/-- Types of Table 13.2. -/
inductive Ty where
  | bool
  | u (bits : Nat)
  | i (bits : Nat)
  | f32
  | datetime
  | octets (n : Nat)
  | text (n : Nat)
  deriving DecidableEq, Repr

/-- Roles of Table 13.3. -/
inductive Role where
  | pub
  | operator
  | metrology
  | factory
  deriving DecidableEq, Repr

/-- The rank of a role (R439), its code in Table 13.3. -/
def Role.rank : Role → Nat
  | .pub => 0
  | .operator => 1
  | .metrology => 2
  | .factory => 3

/-- The role a code of Table 13.3 names; other codes name PUBLIC, which no envelope carries (R445). -/
def Role.ofCode : Nat → Role
  | 1 => .operator
  | 2 => .metrology
  | 3 => .factory
  | _ => .pub

/-- A line of the entry tables: the indices first to last and the subindices first to last that it names, the type,
whether the entry may be written, the least role that may write it (R439), whether it is legally relevant (L), the
modes in which it may be written (bit 0 CONFIG, bit 1 MEASURE, bit 2 VERIFY, Table 13.12), and the generation that
introduced it (Table 13.9). -/
structure Row where
  index : Nat
  lastIndex : Nat
  sub : Nat
  lastSub : Nat
  ty : Ty
  rw : Bool
  role : Role
  legal : Bool
  modes : Nat
  gen : Nat
  deriving DecidableEq, Repr

/-- The key of index:subindex. -/
def key (index sub : Nat) : Key := index * 256 + sub

/-- The index of a key. -/
def keyIndex (k : Key) : Nat := k / 256

/-- The subindex of a key. -/
def keySub (k : Key) : Nat := k % 256

/-- Entries of 0x0100 to 0x01FF. -/
def rows01 : List Row := [
  ⟨0x0100, 0x0100, 0x01, 0x01, .text 64, true, .factory, false, 7, 1⟩,  -- VENDOR_NAME
  ⟨0x0100, 0x0100, 0x02, 0x02, .text 64, true, .factory, false, 7, 1⟩,  -- VENDOR_TEXT
  ⟨0x0100, 0x0100, 0x03, 0x03, .text 64, true, .factory, false, 7, 1⟩,  -- PRODUCT_NAME
  ⟨0x0100, 0x0100, 0x04, 0x04, .text 64, true, .factory, false, 7, 1⟩,  -- PRODUCT_ID
  ⟨0x0100, 0x0100, 0x05, 0x05, .text 64, true, .factory, false, 7, 1⟩,  -- PRODUCT_TEXT
  ⟨0x0100, 0x0100, 0x06, 0x06, .text 16, true, .factory, false, 7, 1⟩,  -- SERIAL_NUMBER
  ⟨0x0100, 0x0100, 0x07, 0x07, .text 64, true, .factory, false, 7, 1⟩,  -- HARDWARE_REVISION
  ⟨0x0100, 0x0100, 0x08, 0x08, .text 64, true, .operator, false, 7, 1⟩,  -- FIRMWARE_REVISION
  ⟨0x0100, 0x0100, 0x09, 0x09, .text 32, true, .operator, false, 7, 1⟩,  -- APPLICATION_TAG
  ⟨0x0101, 0x0101, 0x01, 0x01, .u 16, true, .factory, false, 7, 1⟩,  -- VENDOR_ID
  ⟨0x0101, 0x0101, 0x02, 0x02, .u 32, true, .factory, false, 7, 1⟩,  -- DEVICE_ID
  ⟨0x0101, 0x0101, 0x03, 0x03, .u 64, false, .pub, false, 0, 1⟩,  -- CHIP_SERIAL
  ⟨0x0101, 0x0101, 0x04, 0x04, .u 8, false, .pub, false, 0, 1⟩,  -- SILICON_REVISION
  ⟨0x0101, 0x0101, 0x05, 0x05, .u 8, false, .pub, false, 0, 1⟩,  -- GRADE
  ⟨0x0101, 0x0101, 0x06, 0x06, .u 16, false, .pub, false, 0, 1⟩,  -- ROM_VERSION
  ⟨0x0110, 0x0110, 0x01, 0x01, .u 8, false, .pub, false, 0, 1⟩,  -- GEN_IMPLEMENTED
  ⟨0x0110, 0x0110, 0x02, 0x02, .u 8, false, .pub, false, 0, 1⟩,  -- GEN_LOWEST
  ⟨0x0110, 0x0110, 0x03, 0x03, .u 8, false, .pub, false, 0, 1⟩,  -- SESSION_GEN
  ⟨0x0111, 0x0111, 0x01, 0x05, .u 8, false, .pub, false, 0, 3⟩,  -- PORT_GEN
  ⟨0x0120, 0x0120, 0x01, 0x01, .u 8, false, .pub, false, 0, 1⟩,  -- OPERATING_MODE
  ⟨0x0120, 0x0120, 0x02, 0x02, .u 8, true, .operator, false, 7, 1⟩,  -- MODE_COMMAND
  ⟨0x0120, 0x0120, 0x03, 0x03, .u 8, false, .pub, false, 0, 1⟩,  -- MODE_PENDING
  ⟨0x0140, 0x0140, 0x01, 0x01, .u 8, true, .metrology, false, 7, 1⟩,  -- SEAL_COMMAND
  ⟨0x0140, 0x0140, 0x02, 0x02, .u 8, false, .pub, false, 0, 1⟩,  -- SEAL_STATE
  ⟨0x0140, 0x0140, 0x03, 0x03, .u 32, false, .pub, false, 0, 1⟩,  -- METROLOGY_CHANGES
  ⟨0x0140, 0x0140, 0x04, 0x04, .u 8, true, .factory, false, 7, 1⟩,  -- FACTORY_LOCK
  ⟨0x0141, 0x0141, 0x01, 0x03, .u 32, false, .pub, false, 0, 1⟩,  -- REPLAY_COUNTER
  ⟨0x0141, 0x0141, 0x04, 0x04, .u 32, false, .pub, false, 0, 1⟩,  -- AUTH_FAILS
  ⟨0x0141, 0x0141, 0x05, 0x05, .u 8, false, .pub, false, 0, 1⟩,  -- AUTH_STATUS
  ⟨0x0142, 0x0142, 0x01, 0x10, .octets 16, false, .pub, false, 0, 3⟩,  -- METRO_CHANGE_LOG
  ⟨0x0150, 0x0150, 0x01, 0x01, .octets 1044, true, .pub, false, 7, 1⟩]  -- AUTH_ENVELOPE

/-- Entries of 0x0200 to 0x02FF. -/
def rows02 : List Row := [
  ⟨0x0200, 0x0200, 0x01, 0x01, .u 8, true, .operator, false, 7, 1⟩,  -- POWER_POLICY
  ⟨0x0201, 0x0201, 0x01, 0x01, .u 8, true, .operator, false, 7, 1⟩,  -- POWER_COMMAND
  ⟨0x0201, 0x0201, 0x02, 0x02, .u 8, true, .operator, false, 7, 1⟩,  -- TAPER_EXIT
  ⟨0x0201, 0x0201, 0x03, 0x03, .u 8, true, .metrology, true, 1, 1⟩,  -- START_FAIL_LIMIT
  ⟨0x0201, 0x0201, 0x04, 0x04, .u 8, false, .pub, false, 0, 1⟩,  -- FAILED_STARTS
  ⟨0x0201, 0x0201, 0x05, 0x05, .u 8, false, .pub, false, 0, 1⟩,  -- START_STATE
  ⟨0x0201, 0x0201, 0x06, 0x06, .u 32, false, .pub, false, 0, 1⟩,  -- START_COUNT
  ⟨0x0201, 0x0201, 0x07, 0x07, .u 8, false, .pub, false, 0, 1⟩,  -- TAPER_CODE
  ⟨0x0201, 0x0201, 0x08, 0x08, .u 8, false, .pub, false, 0, 1⟩,  -- START_MODE
  ⟨0x0202, 0x0202, 0x01, 0x01, .u 32, false, .pub, false, 0, 1⟩,  -- WAKE_FAILS
  ⟨0x0202, 0x0202, 0x02, 0x02, .u 8, false, .pub, false, 0, 1⟩,  -- LAST_WAKE_SOURCE
  ⟨0x0210, 0x0210, 0x01, 0x08, .octets 16, false, .pub, false, 0, 1⟩,  -- BOOT_HISTORY
  ⟨0x0220, 0x0220, 0x01, 0x04, .u 48, false, .pub, false, 0, 1⟩,  -- RESIDENCY
  ⟨0x0221, 0x0221, 0x01, 0x04, .u 48, false, .pub, false, 0, 1⟩,  -- ENTRIES
  ⟨0x0222, 0x0222, 0x01, 0x02, .u 48, false, .pub, false, 0, 1⟩,  -- SHORT_ENTRIES
  ⟨0x0223, 0x0223, 0x01, 0x01, .u 8, true, .operator, false, 7, 3⟩,  -- RESIDENCY_CLEAR
  ⟨0x0223, 0x0223, 0x02, 0x02, .u 48, false, .pub, false, 0, 3⟩]  -- RESIDENCY_FRAME

/-- Entries of 0x0300 to 0x03FF. -/
def rows03 : List Row := [
  ⟨0x0300, 0x0300, 0x01, 0x01, .u 32, true, .metrology, true, 1, 1⟩,  -- FRAME_TICKS
  ⟨0x0300, 0x0300, 0x02, 0x02, .u 48, false, .pub, false, 0, 1⟩,  -- FRAME_NUMBER
  ⟨0x0300, 0x0300, 0x03, 0x03, .u 32, false, .pub, false, 0, 1⟩,  -- FRAME_LENGTH_LAST
  ⟨0x0300, 0x0300, 0x04, 0x04, .u 16, false, .pub, false, 0, 1⟩,  -- PLAN_CYCLE
  ⟨0x0301, 0x0301, 0x01, 0x01, .u 8, true, .operator, false, 7, 1⟩,  -- SYNC_SOURCE
  ⟨0x0301, 0x0301, 0x02, 0x02, .u 16, true, .operator, false, 7, 1⟩,  -- SYNC_EVENTS
  ⟨0x0301, 0x0301, 0x03, 0x03, .u 8, true, .operator, false, 7, 1⟩,  -- SYNC_LOSS_FRAMES
  ⟨0x0301, 0x0301, 0x04, 0x04, .u 8, false, .pub, false, 0, 1⟩,  -- SYNC_STATE
  ⟨0x0301, 0x0301, 0x05, 0x05, .i 32, false, .pub, false, 0, 1⟩,  -- SYNC_RESIDUAL
  ⟨0x0301, 0x0301, 0x06, 0x06, .u 32, false, .pub, false, 0, 1⟩,  -- SYNC_REJECTS
  ⟨0x0301, 0x0301, 0x07, 0x07, .u 8, true, .operator, false, 7, 1⟩,  -- SYNO_CONTROL
  ⟨0x0302, 0x0302, 0x01, 0x01, .u 8, false, .pub, false, 0, 1⟩,  -- LEDGER_STATE
  ⟨0x0302, 0x0302, 0x02, 0x02, .u 32, false, .pub, false, 0, 1⟩,  -- LEDGER_MIN_SLACK
  ⟨0x0302, 0x0302, 0x03, 0x03, .u 8, false, .pub, false, 0, 1⟩,  -- LEDGER_WORST_PHASE
  ⟨0x0302, 0x0302, 0x04, 0x04, .u 16, false, .pub, false, 0, 1⟩,  -- LEDGER_REFUSAL
  ⟨0x0302, 0x0302, 0x05, 0x05, .u 32, false, .pub, false, 0, 1⟩,  -- LEDGER_SHORTFALL
  ⟨0x0302, 0x0302, 0x06, 0x06, .u 8, false, .pub, false, 0, 1⟩,  -- LEDGER_REFUSED_ROW
  ⟨0x0302, 0x0302, 0x07, 0x07, .u 16, false, .pub, false, 0, 1⟩,  -- WICK_ROUND_TRIP
  ⟨0x0302, 0x0302, 0x08, 0x08, .u 32, false, .pub, false, 0, 1⟩,  -- PROMISES_BROKEN
  ⟨0x0302, 0x0302, 0x09, 0x09, .u 32, false, .pub, false, 0, 1⟩,  -- FRAME_OVERRUNS
  ⟨0x0310, 0x0310, 0x01, 0x40, .u 32, true, .metrology, true, 1, 1⟩]  -- PLAN_ROW

/-- Entries of 0x0400 to 0x04FF. -/
def rows04 : List Row := [
  ⟨0x0400, 0x0400, 0x01, 0x01, .u 8, true, .metrology, true, 1, 1⟩,  -- CLOCK_SELECT
  ⟨0x0400, 0x0400, 0x02, 0x02, .u 16, false, .pub, false, 0, 1⟩,  -- CLOCK_STATUS
  ⟨0x0400, 0x0400, 0x03, 0x03, .u 32, true, .metrology, true, 1, 1⟩,  -- XTAL_AGREE
  ⟨0x0400, 0x0400, 0x04, 0x04, .u 16, true, .operator, false, 1, 1⟩,  -- CRYSTAL_RETRY_FRAMES
  ⟨0x0401, 0x0401, 0x01, 0x01, .i 32, false, .pub, false, 0, 1⟩,  -- QUAL_K
  ⟨0x0401, 0x0401, 0x02, 0x02, .u 8, false, .pub, false, 0, 1⟩,  -- QUAL_AGE
  ⟨0x0401, 0x0401, 0x03, 0x03, .u 8, true, .metrology, true, 1, 1⟩,  -- QUAL_MIN_STAMPS
  ⟨0x0401, 0x0401, 0x04, 0x04, .u 8, true, .metrology, true, 1, 1⟩,  -- QUAL_HOLD_FRAMES
  ⟨0x0401, 0x0401, 0x05, 0x05, .i 32, false, .pub, false, 0, 1⟩,  -- TICK_SCALE
  ⟨0x0402, 0x0402, 0x01, 0x01, .u 16, true, .metrology, true, 1, 3⟩,  -- OCXO_DRIFT_MAX
  ⟨0x0402, 0x0402, 0x02, 0x02, .u 32, true, .metrology, true, 1, 3⟩,  -- OCXO_GATE
  ⟨0x0402, 0x0402, 0x03, 0x03, .u 16, true, .metrology, true, 1, 3⟩,  -- OCXO_WARM_GATES
  ⟨0x0402, 0x0402, 0x04, 0x04, .i 32, false, .pub, false, 0, 3⟩,  -- OCXO_FREQ_ERR
  ⟨0x0402, 0x0402, 0x05, 0x05, .i 32, false, .pub, false, 0, 3⟩,  -- OCXO_DRIFT
  ⟨0x0403, 0x0403, 0x01, 0x01, .u 32, false, .pub, false, 0, 1⟩]  -- CLOCK_FALLBACKS

/-- Entries of 0x0500 to 0x05FF. -/
def rows05 : List Row := [
  ⟨0x0500, 0x0500, 0x01, 0x01, .datetime, false, .pub, false, 0, 1⟩,  -- CAL_NOW
  ⟨0x0500, 0x0500, 0x02, 0x02, .datetime, true, .operator, false, 7, 1⟩,  -- CAL_SET
  ⟨0x0500, 0x0500, 0x03, 0x03, .u 48, false, .pub, false, 0, 1⟩,  -- CAL_SECONDS
  ⟨0x0500, 0x0500, 0x04, 0x04, .u 16, false, .pub, false, 0, 1⟩,  -- CAL_STATUS
  ⟨0x0500, 0x0500, 0x05, 0x05, .u 48, false, .pub, false, 0, 1⟩,  -- LAST_SET_OLD
  ⟨0x0500, 0x0500, 0x06, 0x06, .u 48, false, .pub, false, 0, 1⟩,  -- LAST_SET_NEW
  ⟨0x0500, 0x0500, 0x07, 0x07, .u 32, false, .pub, false, 0, 1⟩,  -- TIME_SET_COUNT
  ⟨0x0501, 0x0501, 0x01, 0x01, .u 8, true, .operator, false, 7, 1⟩,  -- DST_COMMAND
  ⟨0x0501, 0x0501, 0x02, 0x02, .u 8, true, .operator, false, 7, 1⟩,  -- DST_CONTROL
  ⟨0x0501, 0x0501, 0x03, 0x03, .u 32, true, .operator, false, 7, 1⟩,  -- DST_FORWARD_RULE
  ⟨0x0501, 0x0501, 0x04, 0x04, .u 32, true, .operator, false, 7, 1⟩,  -- DST_BACK_RULE
  ⟨0x0502, 0x0502, 0x01, 0x01, .i 32, true, .metrology, true, 5, 1⟩,  -- RTC_T0
  ⟨0x0502, 0x0502, 0x02, 0x02, .i 32, true, .metrology, true, 5, 1⟩,  -- RTC_K2
  ⟨0x0502, 0x0502, 0x03, 0x03, .i 32, true, .metrology, true, 5, 1⟩,  -- RTC_OFFSET
  ⟨0x0502, 0x0502, 0x04, 0x04, .u 8, true, .metrology, true, 5, 1⟩,  -- RTC_COMP_CONTROL
  ⟨0x0502, 0x0502, 0x05, 0x05, .i 32, false, .pub, false, 0, 1⟩,  -- RTC_RATE
  ⟨0x0502, 0x0502, 0x06, 0x06, .i 16, false, .pub, false, 0, 1⟩,  -- RTC_TRIM_PULSES
  ⟨0x0503, 0x0503, 0x01, 0x10, .i 16, true, .metrology, true, 5, 1⟩,  -- RTC_RESIDUAL
  ⟨0x0504, 0x0504, 0x01, 0x01, .u 48, true, .operator, false, 7, 1⟩,  -- ALARM_AT
  ⟨0x0504, 0x0504, 0x02, 0x02, .u 32, true, .operator, false, 7, 1⟩,  -- ALARM_PERIOD
  ⟨0x0505, 0x0505, 0x01, 0x03, .u 8, true, .operator, false, 7, 1⟩,  -- TAMPER_CONFIG
  ⟨0x0506, 0x0506, 0x01, 0x03, .bool, false, .pub, false, 0, 1⟩,  -- TAMPER_LATCH
  ⟨0x0507, 0x0507, 0x01, 0x03, .u 48, false, .pub, false, 0, 1⟩,  -- TAMPER_FIRST
  ⟨0x0508, 0x0508, 0x01, 0x03, .u 48, false, .pub, false, 0, 1⟩,  -- TAMPER_LAST
  ⟨0x0509, 0x0509, 0x01, 0x03, .u 32, false, .pub, false, 0, 1⟩,  -- TAMPER_COUNT
  ⟨0x050A, 0x050A, 0x01, 0x01, .u 8, true, .operator, false, 7, 1⟩,  -- TAMPER_CLEAR
  ⟨0x050B, 0x050B, 0x01, 0x01, .u 8, false, .pub, false, 0, 1⟩,  -- SUPPLY_STATUS
  ⟨0x050B, 0x050B, 0x02, 0x02, .u 32, false, .pub, false, 0, 1⟩,  -- SWITCHOVER_COUNT
  ⟨0x050B, 0x050B, 0x03, 0x03, .u 16, false, .pub, false, 0, 1⟩]  -- VMAIN_RISE

/-- Entries of 0x0800 to 0x08FF. -/
def rows08 : List Row := [
  ⟨0x0800, 0x0800, 0x01, 0x20, .u 8, true, .metrology, true, 1, 1⟩,  -- XD_CONFIG
  ⟨0x0801, 0x0801, 0x01, 0x01, .u 8, true, .metrology, true, 1, 1⟩,  -- VSD_LEVEL
  ⟨0x0801, 0x0801, 0x02, 0x02, .u 8, false, .pub, false, 0, 1⟩,  -- VSD_STATUS
  ⟨0x0801, 0x0801, 0x03, 0x03, .u 8, false, .pub, false, 0, 1⟩,  -- VHD_STATUS
  ⟨0x0801, 0x0801, 0x04, 0x04, .u 32, true, .metrology, true, 1, 1⟩,  -- RETUNE_SPAN
  ⟨0x0801, 0x0801, 0x05, 0x05, .u 32, true, .metrology, true, 1, 1⟩,  -- DRIFT_LIMIT
  ⟨0x0801, 0x0801, 0x06, 0x06, .u 8, true, .metrology, true, 1, 1⟩,  -- DRIFT_FRAMES
  ⟨0x0801, 0x0801, 0x07, 0x07, .u 8, true, .metrology, true, 1, 1⟩,  -- AGC_TARGET
  ⟨0x0810, 0x0810, 0x01, 0x0E, .u 32, true, .metrology, true, 1, 1⟩,  -- USER_CODE
  ⟨0x0820, 0x0820, 0x01, 0x10, .u 32, false, .pub, false, 0, 1⟩,  -- CHAIN_SAT_COUNT
  ⟨0x0830, 0x0830, 0x01, 0x40, .u 8, false, .pub, false, 0, 1⟩,  -- GAIN_ACTUAL
  ⟨0x0840, 0x0840, 0x01, 0x40, .i 32, false, .pub, false, 0, 1⟩,  -- SWAP_RESIDUAL
  ⟨0x0850, 0x0850, 0x01, 0x40, .u 32, false, .pub, false, 0, 1⟩]  -- DRIVE_FREQ_ACTUAL

/-- Entries of 0x0900 to 0x09FF. -/
def rows09 : List Row := [
  ⟨0x0900, 0x093F, 0x01, 0x01, .u 8, true, .metrology, true, 7, 1⟩,  -- CTX_CONTROL
  ⟨0x0900, 0x093F, 0x02, 0x02, .u 16, true, .metrology, true, 1, 1⟩,  -- PINS
  ⟨0x0900, 0x093F, 0x03, 0x03, .u 8, true, .metrology, true, 1, 1⟩,  -- CHAINS
  ⟨0x0900, 0x093F, 0x04, 0x04, .u 32, true, .metrology, true, 7, 1⟩,  -- FREQ
  ⟨0x0900, 0x093F, 0x05, 0x05, .u 32, true, .metrology, true, 7, 1⟩,  -- DRIVE
  ⟨0x0900, 0x093F, 0x06, 0x06, .u 16, true, .metrology, true, 7, 1⟩,  -- DAMP
  ⟨0x0900, 0x093F, 0x07, 0x07, .u 32, true, .metrology, true, 7, 1⟩,  -- RX
  ⟨0x0900, 0x093F, 0x08, 0x08, .u 32, true, .metrology, true, 7, 1⟩,  -- WIN_START
  ⟨0x0900, 0x093F, 0x09, 0x09, .u 16, true, .metrology, true, 7, 1⟩,  -- WIN_LEN
  ⟨0x0900, 0x093F, 0x0A, 0x0A, .u 32, true, .metrology, true, 7, 1⟩,  -- RING
  ⟨0x0900, 0x093F, 0x0B, 0x0B, .u 32, true, .metrology, true, 7, 1⟩,  -- PATH_LENGTH
  ⟨0x0900, 0x093F, 0x0C, 0x0C, .u 32, true, .metrology, true, 7, 1⟩,  -- AXIAL_LENGTH
  ⟨0x0900, 0x093F, 0x0D, 0x0D, .u 32, true, .metrology, true, 7, 1⟩,  -- NONFLUID_DELAY
  ⟨0x0900, 0x093F, 0x0E, 0x0E, .i 32, true, .metrology, true, 7, 1⟩,  -- ZERO_OFFSET
  ⟨0x0900, 0x093F, 0x0F, 0x0F, .u 16, true, .metrology, true, 7, 1⟩,  -- TEMPLATE_LEN
  ⟨0x0900, 0x093F, 0x10, 0x10, .octets 1024, true, .metrology, true, 7, 1⟩,  -- TEMPLATE
  ⟨0x0900, 0x093F, 0x11, 0x11, .u 32, true, .metrology, true, 7, 1⟩,  -- TEMPLATE_ANCHOR
  ⟨0x0900, 0x093F, 0x12, 0x12, .u 8, true, .metrology, true, 7, 1⟩,  -- GATE_AMP
  ⟨0x0900, 0x093F, 0x13, 0x13, .u 8, true, .metrology, true, 7, 1⟩,  -- GATE_PEAK_RATIO
  ⟨0x0900, 0x093F, 0x14, 0x14, .u 16, true, .metrology, true, 7, 1⟩,  -- GATE_MATCH
  ⟨0x0900, 0x093F, 0x15, 0x15, .u 8, true, .metrology, true, 7, 1⟩,  -- GATE_STAMPS
  ⟨0x0900, 0x093F, 0x16, 0x16, .u 32, true, .metrology, true, 7, 1⟩,  -- GATE_DT_JUMP
  ⟨0x0900, 0x093F, 0x17, 0x17, .u 8, true, .metrology, true, 7, 1⟩,  -- GATE_FLAGS
  ⟨0x0900, 0x093F, 0x18, 0x18, .u 8, true, .metrology, true, 7, 1⟩,  -- RETRY_BUDGET
  ⟨0x0900, 0x093F, 0x19, 0x19, .u 16, true, .metrology, true, 7, 1⟩,  -- PATH_LOST_FRAMES
  ⟨0x0900, 0x093F, 0x1A, 0x1A, .u 16, true, .metrology, true, 7, 1⟩,  -- TEMPLATE_DRIFT_MIN
  ⟨0x0900, 0x093F, 0x1B, 0x1B, .u 32, false, .pub, false, 0, 1⟩,  -- CTX_STATUS
  ⟨0x0900, 0x093F, 0x1C, 0x1C, .u 48, false, .pub, false, 0, 1⟩,  -- SHOT_COUNT
  ⟨0x0900, 0x093F, 0x1D, 0x1D, .u 48, false, .pub, false, 0, 1⟩,  -- RETRY_COUNT
  ⟨0x0900, 0x093F, 0x1E, 0x1E, .u 48, false, .pub, false, 0, 1⟩,  -- SUBST_COUNT
  ⟨0x0900, 0x093F, 0x1F, 0x1F, .u 16, true, .metrology, false, 4, 1⟩,  -- ZERO_CAPTURE
  ⟨0x0900, 0x093F, 0x20, 0x20, .i 32, false, .pub, false, 0, 1⟩,  -- ZERO_RESULT
  ⟨0x0900, 0x093F, 0x21, 0x21, .u 8, false, .pub, false, 0, 1⟩,  -- ZERO_STATUS
  ⟨0x0900, 0x093F, 0x22, 0x22, .text 16, true, .operator, false, 7, 1⟩]  -- LABEL

/-- Entries of 0x0A00 to 0x0AFF. -/
def rows0A : List Row := [
  ⟨0x0A00, 0x0A00, 0x01, 0x01, .u 8, false, .pub, false, 0, 1⟩,  -- TDC_STATUS
  ⟨0x0A00, 0x0A00, 0x02, 0x02, .u 32, false, .pub, false, 0, 1⟩,  -- CAL_FAULTS
  ⟨0x0A00, 0x0A00, 0x03, 0x03, .u 32, false, .pub, false, 0, 1⟩,  -- CLOSE_STAMPS
  ⟨0x0A00, 0x0A00, 0x04, 0x04, .u 32, false, .pub, false, 0, 1⟩,  -- ORDER_ERRORS
  ⟨0x0A00, 0x0A00, 0x05, 0x05, .u 32, false, .pub, false, 0, 1⟩,  -- TDC_OVERFLOWS
  ⟨0x0A00, 0x0A00, 0x06, 0x06, .u 32, false, .pub, false, 0, 1⟩,  -- TDC_TIMEOUTS
  ⟨0x0A01, 0x0A01, 0x01, 0x01, .u 8, true, .metrology, true, 1, 1⟩,  -- FUSION_TOL
  ⟨0x0A01, 0x0A01, 0x02, 0x02, .u 8, true, .metrology, true, 1, 1⟩,  -- FUSION_SPAN
  ⟨0x0A02, 0x0A02, 0x01, 0x13, .u 16, false, .pub, false, 0, 1⟩,  -- TDC_CAL_GAIN
  ⟨0x0A10, 0x0A10, 0x01, 0x40, .u 32, false, .pub, false, 0, 1⟩,  -- TRACK_CENTRE
  ⟨0x0A20, 0x0A20, 0x01, 0x01, .u 32, true, .metrology, false, 4, 1⟩,  -- TEMPLATE_CAPTURE
  ⟨0x0A20, 0x0A20, 0x02, 0x02, .u 8, false, .pub, false, 0, 1⟩,  -- TEMPLATE_CAPTURE_STATUS
  ⟨0x0A20, 0x0A20, 0x03, 0x03, .octets 1024, false, .pub, false, 0, 1⟩,  -- TEMPLATE_RESULT
  ⟨0x0A20, 0x0A20, 0x04, 0x04, .u 32, false, .pub, false, 0, 1⟩,  -- TEMPLATE_RESULT_ANCHOR
  ⟨0x0A30, 0x0A30, 0x01, 0x01, .u 16, true, .operator, false, 7, 2⟩,  -- WAVEFORM_SELECT
  ⟨0x0A30, 0x0A30, 0x02, 0x02, .u 32, false, .pub, false, 0, 2⟩]  -- WAVEFORM_SKIPPED

/-- Entries of 0x0B00 to 0x0BFF. -/
def rows0B : List Row := [
  ⟨0x0B00, 0x0B00, 0x01, 0x04, .u 16, true, .metrology, true, 1, 1⟩,  -- TS_CONFIG
  ⟨0x0B01, 0x0B01, 0x01, 0x04, .u 32, true, .metrology, true, 1, 1⟩,  -- TS_R0
  ⟨0x0B02, 0x0B02, 0x01, 0x04, .u 32, true, .metrology, true, 1, 1⟩,  -- TS_R_MIN
  ⟨0x0B03, 0x0B03, 0x01, 0x04, .u 32, true, .metrology, true, 1, 1⟩,  -- TS_R_MAX
  ⟨0x0B04, 0x0B04, 0x01, 0x04, .u 32, true, .metrology, true, 1, 1⟩,  -- TS_LEAD
  ⟨0x0B05, 0x0B05, 0x01, 0x04, .i 32, true, .metrology, true, 1, 1⟩,  -- TS_OFFSET
  ⟨0x0B06, 0x0B06, 0x01, 0x03, .f32, true, .metrology, true, 1, 1⟩,  -- RTD_COEF
  ⟨0x0B07, 0x0B07, 0x01, 0x0C, .f32, true, .metrology, true, 1, 1⟩,  -- NTC_COEF
  ⟨0x0B08, 0x0B08, 0x01, 0x01, .u 32, true, .metrology, true, 1, 1⟩,  -- TREF_VALUE
  ⟨0x0B08, 0x0B08, 0x02, 0x02, .u 32, true, .metrology, true, 1, 1⟩,  -- TCAP_VALUE
  ⟨0x0B08, 0x0B08, 0x03, 0x03, .u 32, true, .metrology, true, 1, 1⟩,  -- REF_TOL
  ⟨0x0B08, 0x0B08, 0x04, 0x04, .u 8, true, .metrology, true, 1, 1⟩,  -- SENSOR_HOLD
  ⟨0x0B08, 0x0B08, 0x05, 0x05, .u 8, true, .metrology, true, 1, 1⟩,  -- MEDIUM_T_SOURCE
  ⟨0x0B09, 0x0B09, 0x01, 0x04, .i 32, false, .pub, false, 0, 1⟩,  -- TS_TEMP
  ⟨0x0B0A, 0x0B0A, 0x01, 0x04, .u 32, false, .pub, false, 0, 1⟩,  -- TS_RESISTANCE
  ⟨0x0B0B, 0x0B0B, 0x01, 0x06, .u 8, false, .pub, false, 0, 1⟩,  -- SENSOR_STATUS
  ⟨0x0B0C, 0x0B0C, 0x01, 0x01, .u 32, false, .pub, false, 0, 1⟩,  -- SENSOR_FAULTS
  ⟨0x0B20, 0x0B20, 0x01, 0x01, .u 16, true, .metrology, true, 1, 1⟩,  -- P_CONTROL
  ⟨0x0B20, 0x0B20, 0x02, 0x02, .u 32, true, .metrology, true, 1, 1⟩,  -- P_MIN
  ⟨0x0B20, 0x0B20, 0x03, 0x03, .u 32, true, .metrology, true, 1, 1⟩,  -- P_MAX
  ⟨0x0B20, 0x0B20, 0x04, 0x04, .u 8, true, .metrology, true, 1, 1⟩,  -- P_T_SOURCE
  ⟨0x0B20, 0x0B20, 0x05, 0x05, .u 32, false, .pub, false, 0, 1⟩,  -- P_VALUE
  ⟨0x0B20, 0x0B20, 0x06, 0x06, .i 32, false, .pub, false, 0, 1⟩,  -- P_RAW
  ⟨0x0B21, 0x0B21, 0x01, 0x0C, .f32, true, .metrology, true, 1, 1⟩,  -- P_COEF
  ⟨0x0B40, 0x0B40, 0x01, 0x01, .i 32, false, .pub, false, 0, 1⟩,  -- INT_TEMP
  ⟨0x0B40, 0x0B40, 0x02, 0x02, .u 8, true, .operator, false, 7, 1⟩]  -- INT_TEMP_PERIOD

/-- Entries of 0x0C00 to 0x0CFF, part 1. -/
def rows0Ca : List Row := [
  ⟨0x0C00, 0x0C00, 0x01, 0x01, .u 8, true, .metrology, true, 1, 1⟩,  -- PATH_COUNT
  ⟨0x0C00, 0x0C00, 0x02, 0x02, .u 32, true, .metrology, true, 1, 1⟩,  -- PIPE_DIAMETER
  ⟨0x0C00, 0x0C00, 0x03, 0x03, .u 16, false, .pub, false, 0, 1⟩,  -- FLOW_CONFIG_FAULT
  ⟨0x0C01, 0x0C01, 0x01, 0x20, .u 16, true, .metrology, true, 1, 1⟩,  -- PATH_SLOT
  ⟨0x0C03, 0x0C03, 0x01, 0x01, .f32, true, .metrology, true, 1, 1⟩,  -- TAPER_WEIGHT
  ⟨0x0C04, 0x0C04, 0x01, 0x01, .u 8, true, .metrology, true, 1, 1⟩,  -- HOLD_FRAMES
  ⟨0x0C04, 0x0C04, 0x02, 0x02, .u 8, false, .pub, false, 0, 1⟩,  -- HOLD_COUNT
  ⟨0x0C04, 0x0C04, 0x03, 0x03, .u 8, true, .metrology, true, 1, 1⟩,  -- MIN_VALID_PATHS
  ⟨0x0C05, 0x0C05, 0x01, 0x01, .u 32, true, .metrology, true, 1, 1⟩,  -- RATIO_V_MIN
  ⟨0x0C05, 0x0C05, 0x02, 0x02, .u 8, false, .pub, false, 0, 1⟩,  -- RATIO_FRAMES
  ⟨0x0C06, 0x0C06, 0x01, 0x20, .f32, false, .pub, false, 0, 1⟩,  -- PATH_RATIO
  ⟨0x0C07, 0x0C07, 0x01, 0x01, .u 8, true, .metrology, true, 1, 1⟩,  -- RE_POINTS
  ⟨0x0C08, 0x0C08, 0x01, 0x10, .f32, true, .metrology, true, 1, 1⟩,  -- RE_POINT
  ⟨0x0C09, 0x0C09, 0x01, 0x10, .f32, true, .metrology, true, 1, 1⟩,  -- RE_FACTOR
  ⟨0x0C0A, 0x0C0A, 0x01, 0x0A, .u 16, true, .operator, true, 7, 2⟩,  -- ALARM_BAND
  ⟨0x0C0A, 0x0C0A, 0x0B, 0x0B, .u 8, true, .operator, true, 7, 2⟩,  -- ALARM_FRAMES
  ⟨0x0C0B, 0x0C0B, 0x01, 0x01, .u 8, true, .metrology, true, 1, 1⟩,  -- MEDIUM_MODE
  ⟨0x0C0B, 0x0C0B, 0x02, 0x02, .u 8, true, .metrology, true, 1, 1⟩,  -- FIXED_ENTRY
  ⟨0x0C0B, 0x0C0B, 0x03, 0x03, .u 8, true, .metrology, true, 1, 1⟩,  -- MEDIUM_CONFIRM
  ⟨0x0C0B, 0x0C0B, 0x04, 0x04, .u 8, false, .pub, false, 0, 1⟩,  -- MEDIUM_ACTIVE
  ⟨0x0C0B, 0x0C0B, 0x05, 0x05, .u 8, false, .pub, false, 0, 1⟩,  -- MEDIUM_CANDIDATE
  ⟨0x0C0B, 0x0C0B, 0x06, 0x06, .u 32, true, .metrology, true, 1, 1⟩,  -- MEDIUM_P_FIXED
  ⟨0x0C0B, 0x0C0B, 0x07, 0x07, .u 16, false, .pub, false, 0, 1⟩,  -- GLYCOL_CONC
  ⟨0x0C0B, 0x0C0B, 0x08, 0x08, .u 16, false, .pub, false, 0, 2⟩,  -- H2_FRACTION
  ⟨0x0C0B, 0x0C0B, 0x09, 0x09, .u 32, false, .pub, false, 0, 2⟩,  -- CV_EST
  ⟨0x0C0B, 0x0C0B, 0x0A, 0x0A, .u 16, true, .operator, true, 7, 2⟩,  -- H2_ALARM
  ⟨0x0C0C, 0x0C0C, 0x01, 0x01, .u 8, true, .operator, true, 7, 1⟩,  -- REVERSE_FRAMES
  ⟨0x0C0C, 0x0C0C, 0x02, 0x02, .u 8, false, .pub, false, 0, 1⟩,  -- FLOW_DIRECTION
  ⟨0x0C0D, 0x0C0D, 0x01, 0x01, .i 64, false, .pub, false, 0, 1⟩,  -- FLOW_RATE
  ⟨0x0C0D, 0x0C0D, 0x02, 0x02, .i 32, false, .pub, false, 0, 1⟩,  -- V_MEAN
  ⟨0x0C0D, 0x0C0D, 0x03, 0x03, .f32, false, .pub, false, 0, 1⟩,  -- REYNOLDS
  ⟨0x0C0D, 0x0C0D, 0x04, 0x04, .u 32, false, .pub, false, 0, 1⟩,  -- C_MEDIUM
  ⟨0x0C12, 0x0C12, 0x01, 0x01, .u 8, false, .pub, false, 0, 1⟩,  -- CREEP_STATE
  ⟨0x0C12, 0x0C12, 0x02, 0x02, .u 8, true, .operator, true, 7, 1⟩,  -- CREEP_EXIT_FRAMES
  ⟨0x0C12, 0x0C12, 0x03, 0x03, .u 32, true, .operator, true, 7, 1⟩,  -- FLOW_CUTOFF
  ⟨0x0C12, 0x0C12, 0x04, 0x04, .u 32, false, .pub, false, 0, 1⟩,  -- CREEP_ENTRIES
  ⟨0x0C20, 0x0C2F, 0x01, 0x01, .u 32, true, .metrology, true, 1, 1⟩,  -- WS_MASK
  ⟨0x0C20, 0x0C2F, 0x02, 0x21, .f32, true, .metrology, true, 1, 1⟩,  -- WS_WEIGHT
  ⟨0x0C30, 0x0C30, 0x01, 0x05, .u 16, false, .pub, false, 0, 2⟩,  -- DIAGNOSTIC
  ⟨0x0C30, 0x0C30, 0x06, 0x06, .u 8, false, .pub, false, 0, 2⟩]  -- DIAG_STATUS

/-- Entries of 0x0C00 to 0x0CFF, part 2. -/
def rows0Cb : List Row := [
  ⟨0x0C40, 0x0C40, 0x01, 0x40, .i 32, false, .pub, false, 0, 1⟩,  -- PATH_VELOCITY
  ⟨0x0C41, 0x0C41, 0x01, 0x40, .u 32, false, .pub, false, 0, 1⟩]  -- PATH_SOUND

/-- Entries of 0x0D00 to 0x0DFF. -/
def rows0D : List Row := [
  ⟨0x0D00, 0x0D0F, 0x01, 0x01, .u 8, true, .metrology, true, 1, 1⟩,  -- MEDIUM_KIND
  ⟨0x0D00, 0x0D0F, 0x02, 0x02, .text 16, true, .metrology, true, 1, 1⟩,  -- MEDIUM_NAME
  ⟨0x0D00, 0x0D0F, 0x03, 0x08, .f32, true, .metrology, true, 1, 1⟩,  -- MEDIUM_C_COEF
  ⟨0x0D00, 0x0D0F, 0x09, 0x0B, .f32, true, .metrology, true, 1, 1⟩,  -- MEDIUM_G_COEF
  ⟨0x0D00, 0x0D0F, 0x0C, 0x0C, .f32, true, .metrology, true, 1, 1⟩,  -- MEDIUM_X_MIN
  ⟨0x0D00, 0x0D0F, 0x0D, 0x0D, .f32, true, .metrology, true, 1, 1⟩,  -- MEDIUM_X_MAX
  ⟨0x0D00, 0x0D0F, 0x0E, 0x0E, .f32, true, .metrology, true, 1, 1⟩,  -- MEDIUM_C_TOL
  ⟨0x0D00, 0x0D0F, 0x0F, 0x11, .f32, true, .metrology, true, 1, 1⟩,  -- MEDIUM_VISC
  ⟨0x0D00, 0x0D0F, 0x12, 0x12, .f32, true, .metrology, true, 1, 1⟩,  -- MEDIUM_NU_X
  ⟨0x0D00, 0x0D0F, 0x13, 0x15, .f32, true, .metrology, true, 1, 1⟩,  -- MEDIUM_RHO_COEF
  ⟨0x0D00, 0x0D0F, 0x16, 0x18, .f32, true, .metrology, true, 1, 1⟩]  -- MEDIUM_CP_COEF

/-- Entries of 0x1000 to 0x10FF. -/
def rows10 : List Row := [
  ⟨0x1000, 0x1000, 0x01, 0x10, .u 96, false, .pub, false, 0, 1⟩,  -- QTY_REGISTER
  ⟨0x1000, 0x1000, 0x21, 0x30, .u 32, false, .pub, false, 0, 1⟩,  -- QTY_RESIDUE
  ⟨0x1001, 0x1001, 0x01, 0x01, .u 8, true, .metrology, true, 1, 1⟩,  -- QUANTITY_ENABLE
  ⟨0x1001, 0x1001, 0x02, 0x02, .u 8, true, .metrology, true, 1, 1⟩,  -- ENERGY_MODE
  ⟨0x1001, 0x1001, 0x03, 0x03, .u 16, true, .metrology, true, 1, 1⟩,  -- HEAT_DT_MIN
  ⟨0x1001, 0x1001, 0x04, 0x04, .u 16, true, .metrology, true, 1, 1⟩,  -- COLD_DT_MIN
  ⟨0x1001, 0x1001, 0x05, 0x05, .i 32, true, .metrology, true, 1, 1⟩,  -- COLD_T_MAX
  ⟨0x1003, 0x1003, 0x01, 0x01, .u 32, true, .metrology, true, 1, 1⟩,  -- BASE_T
  ⟨0x1003, 0x1003, 0x02, 0x02, .u 32, true, .metrology, true, 1, 1⟩,  -- BASE_P
  ⟨0x1003, 0x1003, 0x03, 0x03, .f32, true, .metrology, true, 1, 1⟩,  -- Z_BASE
  ⟨0x1004, 0x1004, 0x01, 0x08, .i 32, true, .metrology, true, 1, 1⟩,  -- Z_T
  ⟨0x1005, 0x1005, 0x01, 0x08, .u 32, true, .metrology, true, 1, 1⟩,  -- Z_P
  ⟨0x1006, 0x1006, 0x01, 0x40, .f32, true, .metrology, true, 1, 1⟩,  -- Z_VALUE
  ⟨0x1007, 0x1007, 0x01, 0x01, .u 64, false, .pub, false, 0, 1⟩,  -- COMMIT_SEQ
  ⟨0x1007, 0x1007, 0x02, 0x02, .u 32, false, .pub, false, 0, 1⟩,  -- COMMIT_FAILS
  ⟨0x1007, 0x1007, 0x03, 0x03, .u 8, false, .pub, false, 0, 1⟩,  -- QUANTITY_STATUS
  ⟨0x1007, 0x1007, 0x04, 0x04, .u 8, true, .operator, false, 7, 1⟩,  -- SNAPSHOT_DIV
  ⟨0x1007, 0x1007, 0x05, 0x05, .u 8, true, .metrology, true, 1, 1⟩,  -- QTY_CLEAR
  ⟨0x1007, 0x1007, 0x06, 0x06, .u 16, false, .pub, false, 0, 1⟩]  -- QTY_CONFIG_FAULT

/-- Entries of 0x1100 to 0x11FF. -/
def rows11 : List Row := [
  ⟨0x1100, 0x1100, 0x01, 0x08, .u 32, true, .operator, true, 7, 1⟩,  -- PO_CONFIG
  ⟨0x1101, 0x1101, 0x01, 0x08, .u 64, true, .operator, true, 7, 1⟩,  -- PO_WEIGHT
  ⟨0x1102, 0x1102, 0x01, 0x08, .u 32, false, .pub, false, 0, 1⟩,  -- PO_BACKLOG
  ⟨0x1103, 0x1103, 0x01, 0x08, .u 48, false, .pub, false, 0, 1⟩,  -- PO_COUNT
  ⟨0x1104, 0x1104, 0x01, 0x01, .u 32, true, .operator, false, 7, 1⟩,  -- PO_BACKLOG_LIMIT
  ⟨0x1110, 0x1110, 0x01, 0x01, .u 16, true, .operator, false, 5, 1⟩,  -- FTO_CONTROL
  ⟨0x1110, 0x1110, 0x02, 0x02, .u 32, true, .operator, false, 5, 1⟩,  -- FTO_CONSTANT
  ⟨0x1110, 0x1110, 0x03, 0x03, .u 48, false, .pub, false, 0, 1⟩,  -- FTO_COUNT
  ⟨0x1110, 0x1110, 0x04, 0x04, .u 32, false, .pub, false, 0, 1⟩]  -- FTO_BACKLOG

/-- Entries of 0x1200 to 0x12FF. -/
def rows12 : List Row := [
  ⟨0x1200, 0x1200, 0x01, 0x01, .u 8, false, .pub, false, 0, 1⟩,  -- ACTIVE_TARIFF
  ⟨0x1200, 0x1200, 0x02, 0x02, .u 48, true, .operator, false, 7, 1⟩,  -- PASSIVE_ACTIVATE_AT
  ⟨0x1200, 0x1200, 0x03, 0x03, .u 32, false, .pub, false, 0, 1⟩,  -- CALENDAR_ACTIVATIONS
  ⟨0x1200, 0x1200, 0x04, 0x04, .u 16, false, .pub, false, 0, 1⟩,  -- CALENDAR_FAULT
  ⟨0x1200, 0x1200, 0x05, 0x05, .u 16, true, .operator, false, 7, 1⟩,  -- TIME_ADJUST_MAX
  ⟨0x1200, 0x1200, 0x06, 0x06, .u 48, false, .pub, false, 0, 1⟩,  -- LAST_TARIFF_SWITCH
  ⟨0x1210, 0x1210, 0x01, 0x08, .u 32, false, .pub, false, 0, 1⟩,  -- ACTIVE_SEASON
  ⟨0x1211, 0x1211, 0x01, 0x08, .u 32, false, .pub, false, 0, 1⟩,  -- ACTIVE_WEEK_PROFILE
  ⟨0x1220, 0x122F, 0x01, 0x0C, .u 16, false, .pub, false, 0, 1⟩,  -- ACTIVE_SWITCH_POINT
  ⟨0x1230, 0x1230, 0x01, 0x40, .u 32, false, .pub, false, 0, 1⟩,  -- ACTIVE_SPECIAL_DAY
  ⟨0x1240, 0x1240, 0x01, 0x30, .u 96, false, .pub, false, 0, 1⟩,  -- TARIFF_REGISTER
  ⟨0x1241, 0x1241, 0x01, 0x30, .u 32, false, .pub, false, 0, 1⟩,  -- TARIFF_RESIDUE
  ⟨0x1250, 0x1250, 0x01, 0x08, .u 32, true, .operator, false, 7, 1⟩,  -- PASSIVE_SEASON
  ⟨0x1251, 0x1251, 0x01, 0x08, .u 32, true, .operator, false, 7, 1⟩,  -- PASSIVE_WEEK_PROFILE
  ⟨0x1260, 0x126F, 0x01, 0x0C, .u 16, true, .operator, false, 7, 1⟩,  -- PASSIVE_SWITCH_POINT
  ⟨0x1270, 0x1270, 0x01, 0x40, .u 32, true, .operator, false, 7, 1⟩]  -- PASSIVE_SPECIAL_DAY

/-- Entries of 0x1300 to 0x13FF. -/
def rows13 : List Row := [
  ⟨0x1300, 0x1300, 0x01, 0x01, .u 16, true, .operator, true, 1, 1⟩,  -- DEMAND_CONTROL
  ⟨0x1300, 0x1300, 0x02, 0x02, .u 64, false, .pub, false, 0, 1⟩,  -- DEMAND_LAST
  ⟨0x1300, 0x1300, 0x03, 0x03, .u 48, false, .pub, false, 0, 1⟩,  -- DEMAND_LAST_END
  ⟨0x1300, 0x1300, 0x04, 0x04, .u 8, false, .pub, false, 0, 1⟩,  -- DEMAND_LAST_FLAGS
  ⟨0x1300, 0x1300, 0x05, 0x05, .u 32, false, .pub, false, 0, 1⟩,  -- DEMAND_SKIPPED
  ⟨0x1301, 0x1301, 0x01, 0x01, .u 32, true, .operator, true, 7, 1⟩,  -- BILLING_SCHEDULE
  ⟨0x1301, 0x1301, 0x02, 0x02, .u 8, true, .operator, false, 7, 1⟩,  -- BILLING_CLOSE_NOW
  ⟨0x1301, 0x1301, 0x03, 0x03, .u 48, false, .pub, false, 0, 1⟩,  -- LAST_BILLING_CLOSE
  ⟨0x1301, 0x1301, 0x04, 0x04, .u 32, false, .pub, false, 0, 1⟩,  -- SNAP_SEQ_NEXT
  ⟨0x1302, 0x1302, 0x01, 0x08, .u 64, false, .pub, false, 0, 1⟩,  -- MAX_DEMAND
  ⟨0x1303, 0x1303, 0x01, 0x08, .u 48, false, .pub, false, 0, 1⟩,  -- MAX_DEMAND_TIME
  ⟨0x1304, 0x1304, 0x01, 0x08, .u 64, false, .pub, false, 0, 1⟩,  -- MAX_DEMAND_CLOSED
  ⟨0x1305, 0x1305, 0x01, 0x08, .u 48, false, .pub, false, 0, 1⟩,  -- MAX_DEMAND_CLOSED_TIME
  ⟨0x1310, 0x1310, 0x01, 0x18, .octets 924, false, .pub, false, 0, 1⟩]  -- SNAPSHOT_STORE

/-- Entries of 0x1400 to 0x14FF. -/
def rows14 : List Row := [
  ⟨0x1400, 0x1400, 0x01, 0x01, .u 8, true, .operator, false, 7, 1⟩,  -- PREPAY_CONTROL
  ⟨0x1400, 0x1400, 0x02, 0x02, .u 8, true, .operator, false, 7, 1⟩,  -- PRICE_SOURCE
  ⟨0x1400, 0x1400, 0x03, 0x03, .u 64, true, .operator, false, 7, 1⟩,  -- PRICE_DIVISOR
  ⟨0x1400, 0x1400, 0x04, 0x04, .i 64, true, .operator, false, 7, 1⟩,  -- CREDIT_LOW_LIMIT
  ⟨0x1400, 0x1400, 0x05, 0x05, .i 64, true, .operator, false, 7, 1⟩,  -- EMERGENCY_CREDIT
  ⟨0x1400, 0x1400, 0x06, 0x06, .u 8, true, .operator, false, 7, 1⟩,  -- FRIENDLY_MASK
  ⟨0x1400, 0x1400, 0x07, 0x07, .i 64, false, .pub, false, 0, 1⟩,  -- CREDIT_BALANCE
  ⟨0x1400, 0x1400, 0x08, 0x08, .u 8, false, .pub, false, 0, 1⟩,  -- CREDIT_STATE
  ⟨0x1401, 0x1401, 0x01, 0x08, .u 32, true, .operator, false, 7, 1⟩,  -- PRICE
  ⟨0x1402, 0x1402, 0x01, 0x01, .octets 12, true, .operator, false, 7, 1⟩,  -- CREDIT_TOPUP
  ⟨0x1402, 0x1402, 0x02, 0x02, .u 32, false, .pub, false, 0, 1⟩,  -- LAST_TOPUP_ID
  ⟨0x1402, 0x1402, 0x03, 0x03, .u 32, false, .pub, false, 0, 1⟩,  -- TOPUP_COUNT
  ⟨0x1410, 0x1410, 0x01, 0x01, .u 32, true, .operator, false, 1, 1⟩,  -- ACT_CONFIG
  ⟨0x1410, 0x1410, 0x02, 0x02, .u 16, true, .operator, false, 1, 1⟩,  -- ACI_STALL
  ⟨0x1410, 0x1410, 0x03, 0x03, .u 16, true, .operator, false, 1, 1⟩,  -- ACI_MIN
  ⟨0x1410, 0x1410, 0x04, 0x04, .u 16, true, .operator, false, 1, 1⟩,  -- ACT_KEY_HOLD
  ⟨0x1410, 0x1410, 0x05, 0x05, .u 8, true, .operator, false, 7, 1⟩,  -- ACT_COMMAND
  ⟨0x1410, 0x1410, 0x06, 0x06, .u 8, false, .pub, false, 0, 1⟩,  -- ACT_STATE
  ⟨0x1410, 0x1410, 0x07, 0x07, .u 32, false, .pub, false, 0, 1⟩,  -- ACT_FAULTS
  ⟨0x1410, 0x1410, 0x08, 0x08, .u 16, false, .pub, false, 0, 1⟩]  -- ACT_LAST_TRAVEL

/-- Entries of 0x1500 to 0x15FF. -/
def rows15 : List Row := [
  ⟨0x1500, 0x1500, 0x01, 0x01, .u 32, false, .pub, false, 0, 1⟩,  -- LOG_NEXT_SEQ
  ⟨0x1500, 0x1500, 0x02, 0x02, .octets 32, false, .pub, false, 0, 1⟩,  -- LOG_HEAD_HASH
  ⟨0x1500, 0x1500, 0x03, 0x03, .u 32, false, .pub, false, 0, 1⟩,  -- LOG_LOST
  ⟨0x1510, 0x1510, 0x01, 0x40, .u 8, true, .operator, false, 7, 1⟩,  -- EVENT_ROUTE
  ⟨0x1520, 0x1520, 0x01, 0x01, .octets 24, true, .operator, false, 7, 1⟩,  -- OPERATOR_KEY_CHANGE
  ⟨0x1520, 0x1520, 0x02, 0x02, .octets 24, true, .metrology, true, 7, 1⟩,  -- METROLOGY_KEY_CHANGE
  ⟨0x1520, 0x1520, 0x03, 0x03, .u 8, false, .pub, false, 0, 1⟩,  -- KEY_STATUS
  ⟨0x1520, 0x1520, 0x04, 0x04, .u 32, false, .pub, false, 0, 1⟩,  -- KEY_CHANGES
  ⟨0x1530, 0x1530, 0x01, 0x01, .octets 32, true, .factory, false, 7, 1⟩,  -- BOOT_KEY_HASH
  ⟨0x1540, 0x1540, 0x01, 0x01, .u 32, false, .pub, false, 0, 1⟩,  -- FIREWALL_HITS
  ⟨0x1540, 0x1540, 0x02, 0x02, .u 32, false, .pub, false, 0, 1⟩,  -- FIREWALL_LAST
  ⟨0x1540, 0x1540, 0x03, 0x03, .u 8, false, .pub, false, 0, 1⟩,  -- FIREWALL_MASTER
  ⟨0x1580, 0x15FF, 0x01, 0x10, .octets 32, false, .pub, false, 0, 1⟩]  -- LOG_ENTRY

/-- Entries of 0x1800 to 0x18FF. -/
def rows18 : List Row := [
  ⟨0x1800, 0x1800, 0x01, 0x05, .u 32, false, .pub, false, 0, 1⟩,  -- LINK_ERRORS
  ⟨0x1801, 0x1801, 0x01, 0x01, .octets 20, true, .pub, false, 7, 1⟩,  -- HELLO_EXCHANGE
  ⟨0x1802, 0x1802, 0x01, 0x01, .u 16, true, .operator, false, 1, 1⟩,  -- IOL_CONFIG
  ⟨0x1802, 0x1802, 0x02, 0x02, .u 8, false, .pub, false, 0, 1⟩,  -- IOL_STATE
  ⟨0x1802, 0x1802, 0x03, 0x03, .u 32, false, .pub, false, 0, 1⟩,  -- IOL_CYCLE_LAST
  ⟨0x1802, 0x1802, 0x04, 0x04, .u 16, false, .pub, false, 0, 1⟩,  -- IOL_LAST_ABORT
  ⟨0x1802, 0x1802, 0x05, 0x05, .u 8, false, .pub, false, 0, 1⟩,  -- IOL_MIN_CYCLE
  ⟨0x1803, 0x1803, 0x01, 0x10, .u 32, true, .operator, false, 1, 1⟩,  -- IOL_DS_LIST
  ⟨0x1803, 0x1803, 0x11, 0x11, .u 8, true, .metrology, true, 1, 1⟩,  -- IOL_DS_ROLE
  ⟨0x1804, 0x1804, 0x01, 0x08, .u 32, true, .operator, false, 1, 1⟩,  -- PD_IN_MAP
  ⟨0x1804, 0x1804, 0x09, 0x09, .octets 32, false, .pub, false, 0, 1⟩,  -- PD_OUT
  ⟨0x1804, 0x1804, 0x0A, 0x0A, .u 8, false, .pub, false, 0, 1⟩,  -- PD_OUT_STATUS
  ⟨0x1804, 0x1804, 0x0B, 0x0B, .octets 20, false, .pub, false, 0, 1⟩,  -- IOL_LAST_EVENT
  ⟨0x1808, 0x1808, 0x01, 0x01, .u 8, true, .operator, false, 7, 1⟩,  -- MBUS_PRIMARY
  ⟨0x1808, 0x1808, 0x02, 0x02, .u 32, true, .operator, false, 1, 1⟩,  -- MBUS_ID
  ⟨0x1808, 0x1808, 0x03, 0x03, .u 16, true, .factory, false, 7, 1⟩,  -- MBUS_MANUFACTURER
  ⟨0x1808, 0x1808, 0x04, 0x04, .u 8, true, .factory, false, 7, 1⟩,  -- MBUS_VERSION
  ⟨0x1808, 0x1808, 0x05, 0x05, .u 8, true, .operator, false, 1, 1⟩,  -- MBUS_MEDIUM
  ⟨0x1808, 0x1808, 0x06, 0x06, .u 8, true, .operator, false, 7, 1⟩,  -- MBUS_BAUD
  ⟨0x1808, 0x1808, 0x07, 0x07, .u 16, true, .operator, false, 7, 1⟩,  -- MBUS_RECORDS
  ⟨0x1808, 0x1808, 0x08, 0x08, .u 16, true, .operator, false, 7, 1⟩,  -- MBUS_SESSION_IDLE
  ⟨0x1808, 0x1808, 0x09, 0x09, .u 8, false, .pub, false, 0, 1⟩,  -- MBUS_ACCESS_NO
  ⟨0x1810, 0x1810, 0x01, 0x01, .u 16, true, .operator, false, 7, 1⟩,  -- SPI_RESULT_SELECT
  ⟨0x1810, 0x1810, 0x02, 0x02, .u 32, false, .pub, false, 0, 1⟩]  -- SPI_DROPPED

/-- Entries of 0x1900 to 0x19FF. -/
def rows19 : List Row := [
  ⟨0x1900, 0x1900, 0x01, 0x01, .u 8, true, .operator, false, 1, 1⟩,  -- PL_CONFIG
  ⟨0x1900, 0x1900, 0x02, 0x02, .u 16, true, .operator, false, 1, 1⟩,  -- PL_OFFSET
  ⟨0x1900, 0x1900, 0x03, 0x03, .u 16, true, .operator, false, 1, 1⟩,  -- PL_WIDTH
  ⟨0x1900, 0x1900, 0x04, 0x04, .u 16, true, .operator, false, 7, 1⟩,  -- PL_ADDRESS
  ⟨0x1900, 0x1900, 0x05, 0x05, .u 16, true, .operator, false, 1, 1⟩,  -- PL_RX_THRESHOLD
  ⟨0x1900, 0x1900, 0x06, 0x06, .u 16, true, .operator, false, 1, 1⟩,  -- PL_ERASE_LEVEL
  ⟨0x1900, 0x1900, 0x07, 0x07, .u 8, true, .operator, false, 7, 1⟩,  -- PL_RETRIES
  ⟨0x1900, 0x1900, 0x08, 0x08, .u 16, true, .operator, false, 7, 1⟩,  -- PL_SESSION_IDLE
  ⟨0x1900, 0x1900, 0x09, 0x09, .u 16, true, .operator, false, 7, 1⟩,  -- PL_CYCLE
  ⟨0x1901, 0x1901, 0x01, 0x01, .u 8, false, .pub, false, 0, 1⟩,  -- PL_STATE
  ⟨0x1901, 0x1901, 0x02, 0x02, .u 32, false, .pub, false, 0, 1⟩,  -- PL_MAINS_FREQ
  ⟨0x1901, 0x1901, 0x03, 0x03, .u 32, false, .pub, false, 0, 1⟩,  -- PL_TX_FRAMES
  ⟨0x1901, 0x1901, 0x04, 0x04, .u 32, false, .pub, false, 0, 1⟩,  -- PL_RX_FRAMES
  ⟨0x1901, 0x1901, 0x05, 0x05, .u 32, false, .pub, false, 0, 1⟩,  -- PL_CRC_ERRORS
  ⟨0x1901, 0x1901, 0x06, 0x06, .u 32, false, .pub, false, 0, 1⟩,  -- PL_ERASED
  ⟨0x1901, 0x1901, 0x07, 0x07, .u 32, false, .pub, false, 0, 1⟩,  -- PL_TX_REFUSED
  ⟨0x1901, 0x1901, 0x08, 0x08, .u 32, false, .pub, false, 0, 1⟩,  -- PL_ZC_REJECTS
  ⟨0x1910, 0x1910, 0x01, 0x18, .u 32, false, .pub, false, 0, 1⟩,  -- PL_SESSION
  ⟨0x1920, 0x1920, 0x01, 0x18, .u 16, true, .operator, false, 1, 1⟩,  -- PL_SLAVE
  ⟨0x1921, 0x1921, 0x01, 0x01, .octets 26, true, .operator, false, 7, 1⟩,  -- PL_MASTER_REQUEST
  ⟨0x1921, 0x1921, 0x02, 0x02, .octets 26, false, .pub, false, 0, 1⟩,  -- PL_MASTER_RESPONSE
  ⟨0x1922, 0x1922, 0x01, 0x18, .octets 24, false, .pub, false, 0, 1⟩]  -- PL_SLAVE_STATUS

/-- Entries of 0x1A00 to 0x1AFF. -/
def rows1A : List Row := [
  ⟨0x1A00, 0x1A00, 0x01, 0x01, .u 16, true, .operator, false, 1, 1⟩,  -- DISP_CONFIG
  ⟨0x1A00, 0x1A00, 0x02, 0x02, .u 8, true, .operator, false, 7, 1⟩,  -- LCD_VLCD
  ⟨0x1A00, 0x1A00, 0x03, 0x03, .u 16, false, .pub, false, 0, 1⟩,  -- DISP_STATUS
  ⟨0x1A00, 0x1A00, 0x04, 0x04, .u 8, false, .pub, false, 0, 1⟩,  -- PUMP_CREDIT
  ⟨0x1A01, 0x1A01, 0x01, 0x10, .u 96, true, .operator, false, 1, 1⟩,  -- REGION_MASK
  ⟨0x1A02, 0x1A02, 0x01, 0x01, .octets 24, true, .operator, false, 7, 1⟩,  -- DISP_TARGET
  ⟨0x1A02, 0x1A02, 0x02, 0x02, .u 16, true, .operator, false, 7, 1⟩,  -- DISP_UPDATE
  ⟨0x1A02, 0x1A02, 0x03, 0x03, .octets 24, false, .pub, false, 0, 1⟩,  -- DISP_LEVELS
  ⟨0x1A03, 0x1A03, 0x01, 0x07, .i 32, true, .operator, false, 1, 1⟩,  -- BAND_EDGE
  ⟨0x1A03, 0x1A03, 0x08, 0x08, .u 16, true, .operator, false, 1, 1⟩,  -- BAND_HYST
  ⟨0x1A03, 0x1A03, 0x09, 0x09, .u 8, false, .pub, false, 0, 1⟩,  -- BAND_NOW
  ⟨0x1A03, 0x1A03, 0x0A, 0x19, .u 8, false, .pub, false, 0, 1⟩,  -- BAND_LATCHED
  ⟨0x1A10, 0x1A17, 0x01, 0x10, .octets 9, true, .operator, false, 1, 1⟩,  -- WAVEFORM
  ⟨0x1A20, 0x1A20, 0x01, 0x60, .i 32, false, .pub, false, 0, 1⟩,  -- DC_LEDGER
  ⟨0x1A21, 0x1A21, 0x01, 0x01, .u 96, false, .pub, false, 0, 1⟩,  -- BAL_DUE
  ⟨0x1A30, 0x1A30, 0x01, 0x01, .octets 96, true, .operator, false, 7, 1⟩,  -- LCD_DATA
  ⟨0x1A30, 0x1A30, 0x02, 0x02, .octets 96, true, .operator, false, 7, 1⟩,  -- LCD_BLINK
  ⟨0x1A40, 0x1A40, 0x01, 0x01, .octets 96, true, .operator, false, 1, 1⟩,  -- DISP_FAULT_PATTERN
  ⟨0x1A40, 0x1A40, 0x02, 0x02, .octets 28, true, .operator, false, 1, 1⟩,  -- DISP_DIGIT_MAP
  ⟨0x1A50, 0x1A50, 0x01, 0x01, .u 32, false, .pub, false, 0, 1⟩,  -- DISP_UPDATES
  ⟨0x1A50, 0x1A50, 0x02, 0x02, .u 32, false, .pub, false, 0, 1⟩,  -- DISP_SUPERSEDED
  ⟨0x1A50, 0x1A50, 0x03, 0x03, .u 32, false, .pub, false, 0, 1⟩,  -- DISP_BAL_PHASES
  ⟨0x1A50, 0x1A50, 0x04, 0x04, .u 32, false, .pub, false, 0, 1⟩]  -- DISP_INTERRUPTED

/-- Entries of 0x1C00 to 0x1CFF. -/
def rows1C : List Row := [
  ⟨0x1C00, 0x1C00, 0x01, 0x01, .u 8, true, .operator, false, 7, 3⟩,  -- PERF_SNAPSHOT_DIV
  ⟨0x1C00, 0x1C00, 0x02, 0x02, .u 8, false, .pub, false, 0, 3⟩,  -- PERF_STATUS
  ⟨0x1C00, 0x1C00, 0x03, 0x03, .u 48, false, .pub, false, 0, 3⟩,  -- PERF_FRAME
  ⟨0x1C01, 0x1C01, 0x01, 0x01, .u 32, true, .operator, false, 7, 3⟩,  -- RANGE_BASE_0
  ⟨0x1C01, 0x1C01, 0x02, 0x02, .u 32, true, .operator, false, 7, 3⟩,  -- RANGE_LIMIT_0
  ⟨0x1C01, 0x1C01, 0x03, 0x03, .u 32, true, .operator, false, 7, 3⟩,  -- RANGE_BASE_1
  ⟨0x1C01, 0x1C01, 0x04, 0x04, .u 32, true, .operator, false, 7, 3⟩,  -- RANGE_LIMIT_1
  ⟨0x1C10, 0x1C15, 0x01, 0x08, .u 32, true, .operator, false, 7, 3⟩,  -- PERF_SEL
  ⟨0x1C20, 0x1C25, 0x01, 0x08, .u 64, false, .pub, false, 0, 3⟩,  -- PERF_VALUE
  ⟨0x1C30, 0x1C30, 0x01, 0x01, .u 48, true, .operator, false, 7, 3⟩]  -- PERF_OVF_CLEAR

/-- Entries of 0x1D00 to 0x1DFF. -/
def rows1D : List Row := [
  ⟨0x1D00, 0x1D00, 0x01, 0x01, .u 8, false, .pub, false, 0, 1⟩,  -- CORE_STATE
  ⟨0x1D00, 0x1D00, 0x02, 0x02, .u 16, false, .pub, false, 0, 1⟩,  -- BOOT_STATUS
  ⟨0x1D00, 0x1D00, 0x03, 0x03, .u 32, false, .pub, false, 0, 1⟩,  -- CORE_RESETS
  ⟨0x1D00, 0x1D00, 0x04, 0x04, .u 8, true, .operator, false, 7, 1⟩,  -- FW_COMMAND
  ⟨0x1D00, 0x1D00, 0x05, 0x05, .octets 260, true, .operator, false, 7, 1⟩,  -- FW_BLOCK
  ⟨0x1D00, 0x1D00, 0x06, 0x06, .u 32, true, .operator, false, 7, 1⟩,  -- FW_MIN_VERSION
  ⟨0x1D00, 0x1D00, 0x07, 0x07, .u 32, false, .pub, false, 0, 1⟩,  -- FW_SEC_VERSION
  ⟨0x1D01, 0x1D01, 0x01, 0x01, .u 16, true, .operator, false, 7, 1⟩,  -- CUST_REQ_US
  ⟨0x1D01, 0x1D01, 0x02, 0x02, .u 16, true, .operator, false, 7, 1⟩,  -- CUST_TIMEOUT
  ⟨0x1D01, 0x1D01, 0x03, 0x03, .u 32, false, .pub, false, 0, 1⟩,  -- CUST_TIMEOUTS
  ⟨0x1D01, 0x1D01, 0x04, 0x04, .u 16, true, .operator, false, 7, 1⟩,  -- CORE_RESULT_SELECT
  ⟨0x1D01, 0x1D01, 0x05, 0x05, .u 32, false, .pub, false, 0, 1⟩,  -- CORE_DROPPED
  ⟨0x1D02, 0x1D02, 0x01, 0x01, .octets 32, true, .operator, false, 7, 1⟩,  -- MAILBOX_IN
  ⟨0x1D02, 0x1D02, 0x02, 0x02, .octets 32, false, .pub, false, 0, 1⟩]  -- MAILBOX_OUT

/-- The entries of one range of Table 13.1, by the high byte of the index. -/
def rowsOf (page : Nat) : List Row :=
  match page with
  | 0x01 => rows01
  | 0x02 => rows02
  | 0x03 => rows03
  | 0x04 => rows04
  | 0x05 => rows05
  | 0x08 => rows08
  | 0x09 => rows09
  | 0x0A => rows0A
  | 0x0B => rows0B
  | 0x0C => rows0Ca ++ rows0Cb
  | 0x0D => rows0D
  | 0x10 => rows10
  | 0x11 => rows11
  | 0x12 => rows12
  | 0x13 => rows13
  | 0x14 => rows14
  | 0x15 => rows15
  | 0x18 => rows18
  | 0x19 => rows19
  | 0x1A => rows1A
  | 0x1C => rows1C
  | 0x1D => rows1D
  | _ => []

/-- Defaults other than zero of 0x0100 to 0x01FF. -/
def defaults01 : List (Nat × Nat × Nat × Nat × Nat) := [
  (0x0100, 0x0100, 0x01, 0x01, 0x6f746e656e72614a),
  (0x0100, 0x0100, 0x03, 0x03, 0x323334364c4b),
  (0x0100, 0x0100, 0x07, 0x07, 0x3042),
  (0x0101, 0x0101, 0x01, 0x01, 0xa6e),
  (0x0101, 0x0101, 0x02, 0x02, 0x64320)]

/-- Defaults other than zero of 0x0200 to 0x02FF. -/
def defaults02 : List (Nat × Nat × Nat × Nat × Nat) := [
  (0x0200, 0x0200, 0x01, 0x01, 1),
  (0x0201, 0x0201, 0x03, 0x03, 3)]

/-- Defaults other than zero of 0x0300 to 0x03FF. -/
def defaults03 : List (Nat × Nat × Nat × Nat × Nat) := [
  (0x0300, 0x0300, 0x01, 0x01, 0x4000),
  (0x0301, 0x0301, 0x02, 0x02, 1),
  (0x0301, 0x0301, 0x03, 0x03, 4),
  (0x0301, 0x0301, 0x07, 0x07, 1)]

/-- Defaults other than zero of 0x0400 to 0x04FF. -/
def defaults04 : List (Nat × Nat × Nat × Nat × Nat) := [
  (0x0400, 0x0400, 0x03, 0x03, 0xc8),
  (0x0400, 0x0400, 0x04, 0x04, 0x100),
  (0x0401, 0x0401, 0x03, 0x03, 8),
  (0x0401, 0x0401, 0x04, 0x04, 0x10),
  (0x0402, 0x0402, 0x01, 0x01, 5),
  (0x0402, 0x0402, 0x02, 0x02, 0x8000),
  (0x0402, 0x0402, 0x03, 0x03, 0x3c)]

/-- Defaults other than zero of 0x0500 to 0x05FF. -/
def defaults05 : List (Nat × Nat × Nat × Nat × Nat) := [
  (0x0501, 0x0501, 0x03, 0x03, 0x77880),
  (0x0501, 0x0501, 0x04, 0x04, 0x1578c0),
  (0x0502, 0x0502, 0x01, 0x01, 0x61a8),
  (0x0502, 0x0502, 0x02, 0x02, 0xffffffde),
  (0x0502, 0x0502, 0x04, 0x04, 1),
  (0x0505, 0x0505, 0x01, 0x03, 2)]

/-- Defaults other than zero of 0x0800 to 0x08FF. -/
def defaults08 : List (Nat × Nat × Nat × Nat × Nat) := [
  (0x0801, 0x0801, 0x01, 0x01, 0x32),
  (0x0801, 0x0801, 0x04, 0x04, 0xc350),
  (0x0801, 0x0801, 0x05, 0x05, 0x7530),
  (0x0801, 0x0801, 0x06, 0x06, 0x10),
  (0x0801, 0x0801, 0x07, 0x07, 0x40)]

/-- Defaults other than zero of 0x0900 to 0x09FF. -/
def defaults09 : List (Nat × Nat × Nat × Nat × Nat) := [
  (0x0900, 0x093F, 0x02, 0x02, 0x809),
  (0x0900, 0x093F, 0x03, 0x03, 1),
  (0x0900, 0x093F, 0x04, 0x04, 0xf4240),
  (0x0900, 0x093F, 0x05, 0x05, 0xd000000),
  (0x0900, 0x093F, 0x06, 0x06, 0x4608),
  (0x0900, 0x093F, 0x07, 0x07, 0x3c80d210),
  (0x0900, 0x093F, 0x08, 0x08, 0x11940),
  (0x0900, 0x093F, 0x09, 0x09, 0x780),
  (0x0900, 0x093F, 0x0F, 0x0F, 0x100),
  (0x0900, 0x093F, 0x12, 0x12, 8),
  (0x0900, 0x093F, 0x13, 0x13, 0x18),
  (0x0900, 0x093F, 0x14, 0x14, 0x599a),
  (0x0900, 0x093F, 0x15, 0x15, 4),
  (0x0900, 0x093F, 0x18, 0x18, 1),
  (0x0900, 0x093F, 0x19, 0x19, 0x40),
  (0x0900, 0x093F, 0x1A, 0x1A, 0x7333)]

/-- Defaults other than zero of 0x0A00 to 0x0AFF. -/
def defaults0A : List (Nat × Nat × Nat × Nat × Nat) := [
  (0x0A01, 0x0A01, 0x01, 0x01, 0x40),
  (0x0A01, 0x0A01, 0x02, 0x02, 2)]

/-- Defaults other than zero of 0x0B00 to 0x0BFF. -/
def defaults0B : List (Nat × Nat × Nat × Nat × Nat) := [
  (0x0B01, 0x0B01, 0x01, 0x04, 0xf4240),
  (0x0B02, 0x0B02, 0x01, 0x04, 0xc3500),
  (0x0B03, 0x0B03, 0x01, 0x04, 0x16e360),
  (0x0B06, 0x0B06, 0x01, 0x01, 0x3b801132),
  (0x0B06, 0x0B06, 0x02, 0x02, 0xb51b057f),
  (0x0B06, 0x0B06, 0x03, 0x03, 0xac932d1d),
  (0x0B08, 0x0B08, 0x01, 0x01, 0xf4240),
  (0x0B08, 0x0B08, 0x02, 0x02, 0x186a0),
  (0x0B08, 0x0B08, 0x03, 0x03, 0xc350),
  (0x0B08, 0x0B08, 0x04, 0x04, 4),
  (0x0B08, 0x0B08, 0x05, 0x05, 4),
  (0x0B20, 0x0B20, 0x01, 0x01, 0x3070),
  (0x0B20, 0x0B20, 0x03, 0x03, 0x989680),
  (0x0B20, 0x0B20, 0x04, 0x04, 4),
  (0x0B40, 0x0B40, 0x02, 0x02, 0x3c)]

/-- Defaults other than zero of 0x0C00 to 0x0CFF, part 1. -/
def defaults0Ca : List (Nat × Nat × Nat × Nat × Nat) := [
  (0x0C00, 0x0C00, 0x01, 0x01, 1),
  (0x0C00, 0x0C00, 0x02, 0x02, 0x3a98),
  (0x0C01, 0x0C01, 0x01, 0x01, 0),
  (0x0C01, 0x0C01, 0x02, 0x02, 1),
  (0x0C01, 0x0C01, 0x03, 0x03, 2),
  (0x0C01, 0x0C01, 0x04, 0x04, 3),
  (0x0C01, 0x0C01, 0x05, 0x05, 4),
  (0x0C01, 0x0C01, 0x06, 0x06, 5),
  (0x0C01, 0x0C01, 0x07, 0x07, 6),
  (0x0C01, 0x0C01, 0x08, 0x08, 7),
  (0x0C01, 0x0C01, 0x09, 0x09, 8),
  (0x0C01, 0x0C01, 0x0A, 0x0A, 9),
  (0x0C01, 0x0C01, 0x0B, 0x0B, 0xa),
  (0x0C01, 0x0C01, 0x0C, 0x0C, 0xb),
  (0x0C01, 0x0C01, 0x0D, 0x0D, 0xc),
  (0x0C01, 0x0C01, 0x0E, 0x0E, 0xd),
  (0x0C01, 0x0C01, 0x0F, 0x0F, 0xe),
  (0x0C01, 0x0C01, 0x10, 0x10, 0xf),
  (0x0C01, 0x0C01, 0x11, 0x11, 0x10),
  (0x0C01, 0x0C01, 0x12, 0x12, 0x11),
  (0x0C01, 0x0C01, 0x13, 0x13, 0x12),
  (0x0C01, 0x0C01, 0x14, 0x14, 0x13),
  (0x0C01, 0x0C01, 0x15, 0x15, 0x14),
  (0x0C01, 0x0C01, 0x16, 0x16, 0x15),
  (0x0C01, 0x0C01, 0x17, 0x17, 0x16),
  (0x0C01, 0x0C01, 0x18, 0x18, 0x17),
  (0x0C01, 0x0C01, 0x19, 0x19, 0x18),
  (0x0C01, 0x0C01, 0x1A, 0x1A, 0x19),
  (0x0C01, 0x0C01, 0x1B, 0x1B, 0x1a),
  (0x0C01, 0x0C01, 0x1C, 0x1C, 0x1b),
  (0x0C01, 0x0C01, 0x1D, 0x1D, 0x1c),
  (0x0C01, 0x0C01, 0x1E, 0x1E, 0x1d),
  (0x0C01, 0x0C01, 0x1F, 0x1F, 0x1e),
  (0x0C01, 0x0C01, 0x20, 0x20, 0x1f),
  (0x0C03, 0x0C03, 0x01, 0x01, 0x3f800000),
  (0x0C04, 0x0C04, 0x01, 0x01, 8),
  (0x0C04, 0x0C04, 0x03, 0x03, 1),
  (0x0C05, 0x0C05, 0x01, 0x01, 0xc350),
  (0x0C09, 0x0C09, 0x01, 0x10, 0x3f800000),
  (0x0C0A, 0x0C0A, 0x02, 0x02, 0xffff)]

/-- Defaults other than zero of 0x0C00 to 0x0CFF, part 2. -/
def defaults0Cb : List (Nat × Nat × Nat × Nat × Nat) := [
  (0x0C0A, 0x0C0A, 0x04, 0x04, 0xffff),
  (0x0C0A, 0x0C0A, 0x05, 0x05, 0x8001),
  (0x0C0A, 0x0C0A, 0x06, 0x06, 0x7fff),
  (0x0C0A, 0x0C0A, 0x08, 0x08, 0xffff),
  (0x0C0A, 0x0C0A, 0x0A, 0x0A, 0xffff),
  (0x0C0A, 0x0C0A, 0x0B, 0x0B, 0x10),
  (0x0C0B, 0x0C0B, 0x03, 0x03, 8),
  (0x0C0B, 0x0C0B, 0x06, 0x06, 0x18bcd),
  (0x0C0B, 0x0C0B, 0x0A, 0x0A, 0x7d0),
  (0x0C0C, 0x0C0C, 0x01, 0x01, 4),
  (0x0C12, 0x0C12, 0x02, 0x02, 4),
  (0x0C12, 0x0C12, 0x03, 0x03, 0x7d0),
  (0x0C20, 0x0C20, 0x02, 0x02, 0x3f800000)]

/-- Defaults other than zero of 0x0D00 to 0x0DFF, part 1. -/
def defaults0Da : List (Nat × Nat × Nat × Nat × Nat) := [
  (0x0D00, 0x0D00, 0x01, 0x01, 1),
  (0x0D00, 0x0D00, 0x02, 0x02, 0x5245544157),
  (0x0D00, 0x0D00, 0x03, 0x03, 0x44af4c52),
  (0x0D00, 0x0D00, 0x04, 0x04, 0x40a13df5),
  (0x0D00, 0x0D00, 0x05, 0x05, 0xbd6d8859),
  (0x0D00, 0x0D00, 0x06, 0x06, 0x39ac5776),
  (0x0D00, 0x0D00, 0x07, 0x07, 0xb5bbbff3),
  (0x0D00, 0x0D00, 0x08, 0x08, 0x313f948d),
  (0x0D00, 0x0D00, 0x0E, 0x0E, 0x40400000),
  (0x0D00, 0x0D00, 0x0F, 0x0F, 0x32fce33f),
  (0x0D00, 0x0D00, 0x10, 0x10, 0x43fdf0a4),
  (0x0D00, 0x0D00, 0x11, 0x11, 0x43154ccd),
  (0x0D01, 0x0D01, 0x01, 0x01, 2),
  (0x0D01, 0x0D01, 0x02, 0x02, 0x4c4f43594c472d485445),
  (0x0D01, 0x0D01, 0x03, 0x03, 0x44af4c52),
  (0x0D01, 0x0D01, 0x04, 0x04, 0x40a13df5),
  (0x0D01, 0x0D01, 0x05, 0x05, 0xbd6d8859),
  (0x0D01, 0x0D01, 0x06, 0x06, 0x39ac5776),
  (0x0D01, 0x0D01, 0x07, 0x07, 0xb5bbbff3),
  (0x0D01, 0x0D01, 0x08, 0x08, 0x313f948d),
  (0x0D01, 0x0D01, 0x09, 0x09, 0x43c80000),
  (0x0D01, 0x0D01, 0x0A, 0x0A, 0xc0800000),
  (0x0D01, 0x0D01, 0x0C, 0x0C, 0x3d4ccccd),
  (0x0D01, 0x0D01, 0x0D, 0x0D, 0x3f19999a),
  (0x0D01, 0x0D01, 0x0E, 0x0E, 0x40400000),
  (0x0D01, 0x0D01, 0x0F, 0x0F, 0x32fce33f),
  (0x0D01, 0x0D01, 0x10, 0x10, 0x43fdf0a4),
  (0x0D01, 0x0D01, 0x11, 0x11, 0x43154ccd),
  (0x0D01, 0x0D01, 0x12, 0x12, 0x40800000),
  (0x0D01, 0x0D01, 0x13, 0x13, 0x3e0f5c29),
  (0x0D01, 0x0D01, 0x16, 0x16, 0xbef5c28f),
  (0x0D02, 0x0D02, 0x01, 0x01, 2),
  (0x0D02, 0x0D02, 0x02, 0x02, 0x4c4f43594c472d504f5250),
  (0x0D02, 0x0D02, 0x03, 0x03, 0x44af4c52),
  (0x0D02, 0x0D02, 0x04, 0x04, 0x40a13df5),
  (0x0D02, 0x0D02, 0x05, 0x05, 0xbd6d8859),
  (0x0D02, 0x0D02, 0x06, 0x06, 0x39ac5776),
  (0x0D02, 0x0D02, 0x07, 0x07, 0xb5bbbff3),
  (0x0D02, 0x0D02, 0x08, 0x08, 0x313f948d),
  (0x0D02, 0x0D02, 0x09, 0x09, 0x43af0000)]

/-- Defaults other than zero of 0x0D00 to 0x0DFF, part 2. -/
def defaults0Db : List (Nat × Nat × Nat × Nat × Nat) := [
  (0x0D02, 0x0D02, 0x0A, 0x0A, 0xc0900000),
  (0x0D02, 0x0D02, 0x0C, 0x0C, 0x3d4ccccd),
  (0x0D02, 0x0D02, 0x0D, 0x0D, 0x3f19999a),
  (0x0D02, 0x0D02, 0x0E, 0x0E, 0x40400000),
  (0x0D02, 0x0D02, 0x0F, 0x0F, 0x32fce33f),
  (0x0D02, 0x0D02, 0x10, 0x10, 0x43fdf0a4),
  (0x0D02, 0x0D02, 0x11, 0x11, 0x43154ccd),
  (0x0D02, 0x0D02, 0x12, 0x12, 0x40b00000),
  (0x0D02, 0x0D02, 0x13, 0x13, 0x3d75c28f),
  (0x0D02, 0x0D02, 0x16, 0x16, 0xbec28f5c),
  (0x0D03, 0x0D03, 0x01, 0x01, 4),
  (0x0D03, 0x0D03, 0x02, 0x02, 0x5341472d4c41525554414e),
  (0x0D03, 0x0D03, 0x03, 0x03, 0x418b3333),
  (0x0D03, 0x0D03, 0x04, 0x04, 0x42140000),
  (0x0D03, 0x0D03, 0x05, 0x05, 0xb1f084a7),
  (0x0D03, 0x0D03, 0x06, 0x06, 0x4c16ae38),
  (0x0D03, 0x0D03, 0x07, 0x07, 0x4b427928),
  (0x0D03, 0x0D03, 0x0E, 0x0E, 0x40800000),
  (0x0D03, 0x0D03, 0x0F, 0x0F, 0x35906b14),
  (0x0D03, 0x0D03, 0x10, 0x10, 0x4345cccd),
  (0x0D04, 0x0D04, 0x01, 0x01, 3),
  (0x0D04, 0x0D04, 0x02, 0x02, 0x454e414854454d4f4942),
  (0x0D04, 0x0D04, 0x03, 0x03, 0x41873333),
  (0x0D04, 0x0D04, 0x04, 0x04, 0x420f3333),
  (0x0D04, 0x0D04, 0x05, 0x05, 0xb1f084a7),
  (0x0D04, 0x0D04, 0x06, 0x06, 0x4c103210),
  (0x0D04, 0x0D04, 0x0E, 0x0E, 0x40400000),
  (0x0D04, 0x0D04, 0x0F, 0x0F, 0x35906b14),
  (0x0D04, 0x0D04, 0x10, 0x10, 0x4345cccd),
  (0x0D05, 0x0D05, 0x01, 0x01, 3),
  (0x0D05, 0x0D05, 0x02, 0x02, 0x524941),
  (0x0D05, 0x0D05, 0x03, 0x03, 0x41e7b852),
  (0x0D05, 0x0D05, 0x04, 0x04, 0x41e8f5c3),
  (0x0D05, 0x0D05, 0x0E, 0x0E, 0x40000000),
  (0x0D05, 0x0D05, 0x0F, 0x0F, 0x35c3b080),
  (0x0D05, 0x0D05, 0x10, 0x10, 0x42dccccd),
  (0x0D06, 0x0D06, 0x01, 0x01, 3),
  (0x0D06, 0x0D06, 0x02, 0x02, 0x4e45474f5254494e),
  (0x0D06, 0x0D06, 0x03, 0x03, 0x41e01aa0),
  (0x0D06, 0x0D06, 0x04, 0x04, 0x41e8f5c3)]

/-- Defaults other than zero of 0x0D00 to 0x0DFF, part 3. -/
def defaults0Dc : List (Nat × Nat × Nat × Nat × Nat) := [
  (0x0D06, 0x0D06, 0x0E, 0x0E, 0x40000000),
  (0x0D06, 0x0D06, 0x0F, 0x0F, 0x35bcb5cb),
  (0x0D06, 0x0D06, 0x10, 0x10, 0x42de0000),
  (0x0D07, 0x0D0F, 0x0E, 0x0E, 0x3f800000)]

/-- Defaults other than zero of 0x1000 to 0x10FF. -/
def defaults10 : List (Nat × Nat × Nat × Nat × Nat) := [
  (0x1001, 0x1001, 0x03, 0x03, 0xc8),
  (0x1001, 0x1001, 0x04, 0x04, 0xc8),
  (0x1001, 0x1001, 0x05, 0x05, 0x4650),
  (0x1003, 0x1003, 0x01, 0x01, 0x46596),
  (0x1003, 0x1003, 0x02, 0x02, 0x18bcd),
  (0x1003, 0x1003, 0x03, 0x03, 0x3f800000),
  (0x1004, 0x1004, 0x01, 0x01, 0xffffb1e0),
  (0x1004, 0x1004, 0x02, 0x02, 0xffffd8f0),
  (0x1004, 0x1004, 0x03, 0x03, 0),
  (0x1004, 0x1004, 0x04, 0x04, 0x2710),
  (0x1004, 0x1004, 0x05, 0x05, 0x4e20),
  (0x1004, 0x1004, 0x06, 0x06, 0x7530),
  (0x1004, 0x1004, 0x07, 0x07, 0x9c40),
  (0x1004, 0x1004, 0x08, 0x08, 0xc350),
  (0x1005, 0x1005, 0x01, 0x01, 0x186a0),
  (0x1005, 0x1005, 0x02, 0x02, 0x7a120),
  (0x1005, 0x1005, 0x03, 0x03, 0xf4240),
  (0x1005, 0x1005, 0x04, 0x04, 0x1e8480),
  (0x1005, 0x1005, 0x05, 0x05, 0x2dc6c0),
  (0x1005, 0x1005, 0x06, 0x06, 0x3d0900),
  (0x1005, 0x1005, 0x07, 0x07, 0x5b8d80),
  (0x1005, 0x1005, 0x08, 0x08, 0x7a1200),
  (0x1006, 0x1006, 0x01, 0x40, 0x3f800000)]

/-- Defaults other than zero of 0x1100 to 0x11FF. -/
def defaults11 : List (Nat × Nat × Nat × Nat × Nat) := [
  (0x1100, 0x1100, 0x01, 0x08, 0x32),
  (0x1101, 0x1101, 0x01, 0x08, 0xf4240),
  (0x1104, 0x1104, 0x01, 0x01, 0x3e8),
  (0x1110, 0x1110, 0x01, 0x01, 0x600),
  (0x1110, 0x1110, 0x02, 0x02, 0x3e8)]

/-- Defaults other than zero of 0x1200 to 0x12FF. -/
def defaults12 : List (Nat × Nat × Nat × Nat × Nat) := [
  (0x1200, 0x1200, 0x05, 0x05, 0xa),
  (0x1210, 0x1210, 0x01, 0x01, 0x88400000),
  (0x1220, 0x122F, 0x01, 0x01, 0x8000),
  (0x1250, 0x1250, 0x01, 0x01, 0x88400000),
  (0x1260, 0x126F, 0x01, 0x01, 0x8000)]

/-- Defaults other than zero of 0x1300 to 0x13FF. -/
def defaults13 : List (Nat × Nat × Nat × Nat × Nat) := [
  (0x1300, 0x1300, 0x01, 0x01, 0x4107),
  (0x1301, 0x1301, 0x01, 0x01, 0x44200000)]

/-- Defaults other than zero of 0x1400 to 0x14FF. -/
def defaults14 : List (Nat × Nat × Nat × Nat × Nat) := [
  (0x1400, 0x1400, 0x03, 0x03, 0x3b9aca00),
  (0x1400, 0x1400, 0x04, 0x04, 0x1388),
  (0x1410, 0x1410, 0x01, 0x01, 0x320a10),
  (0x1410, 0x1410, 0x02, 0x02, 0x96),
  (0x1410, 0x1410, 0x03, 0x03, 0xa),
  (0x1410, 0x1410, 0x04, 0x04, 0x3e8)]

/-- Defaults other than zero of 0x1500 to 0x15FF, part 1. -/
def defaults15a : List (Nat × Nat × Nat × Nat × Nat) := [
  (0x1510, 0x1510, 0x02, 0x02, 6),
  (0x1510, 0x1510, 0x03, 0x03, 6),
  (0x1510, 0x1510, 0x04, 0x04, 6),
  (0x1510, 0x1510, 0x05, 0x05, 6),
  (0x1510, 0x1510, 0x06, 0x06, 6),
  (0x1510, 0x1510, 0x08, 0x08, 6),
  (0x1510, 0x1510, 0x0A, 0x0A, 6),
  (0x1510, 0x1510, 0x0B, 0x0B, 6),
  (0x1510, 0x1510, 0x10, 0x10, 6),
  (0x1510, 0x1510, 0x11, 0x11, 6),
  (0x1510, 0x1510, 0x13, 0x13, 6),
  (0x1510, 0x1510, 0x14, 0x14, 6),
  (0x1510, 0x1510, 0x15, 0x15, 6),
  (0x1510, 0x1510, 0x16, 0x16, 6),
  (0x1510, 0x1510, 0x17, 0x17, 6),
  (0x1510, 0x1510, 0x18, 0x18, 6),
  (0x1510, 0x1510, 0x1A, 0x1A, 6),
  (0x1510, 0x1510, 0x1B, 0x1B, 6),
  (0x1510, 0x1510, 0x1D, 0x1D, 6),
  (0x1510, 0x1510, 0x1E, 0x1E, 6),
  (0x1510, 0x1510, 0x1F, 0x1F, 6),
  (0x1510, 0x1510, 0x20, 0x20, 6),
  (0x1510, 0x1510, 0x22, 0x22, 6),
  (0x1510, 0x1510, 0x23, 0x23, 6),
  (0x1510, 0x1510, 0x24, 0x24, 6),
  (0x1510, 0x1510, 0x25, 0x25, 6),
  (0x1510, 0x1510, 0x26, 0x26, 6),
  (0x1510, 0x1510, 0x27, 0x27, 6),
  (0x1510, 0x1510, 0x28, 0x28, 6),
  (0x1510, 0x1510, 0x2E, 0x2E, 6),
  (0x1510, 0x1510, 0x33, 0x33, 6),
  (0x1510, 0x1510, 0x34, 0x34, 6),
  (0x1510, 0x1510, 0x35, 0x35, 6),
  (0x1510, 0x1510, 0x36, 0x36, 6),
  (0x1510, 0x1510, 0x39, 0x39, 6),
  (0x1510, 0x1510, 0x3A, 0x3A, 6),
  (0x1510, 0x1510, 0x3B, 0x3B, 6),
  (0x1510, 0x1510, 0x3C, 0x3C, 6),
  (0x1510, 0x1510, 0x3E, 0x3E, 6),
  (0x1510, 0x1510, 0x40, 0x40, 6)]

/-- Defaults other than zero of 0x1500 to 0x15FF, part 2. -/
def defaults15b : List (Nat × Nat × Nat × Nat × Nat) := [
  (0x1510, 0x1510, 0x01, 0x40, 2)]

/-- Defaults other than zero of 0x1800 to 0x18FF. -/
def defaults18 : List (Nat × Nat × Nat × Nat × Nat) := [
  (0x1808, 0x1808, 0x05, 0x05, 7),
  (0x1808, 0x1808, 0x06, 0x06, 3),
  (0x1808, 0x1808, 0x07, 0x07, 0x1fff),
  (0x1808, 0x1808, 0x08, 0x08, 0x258),
  (0x1810, 0x1810, 0x01, 0x01, 0x1c)]

/-- Defaults other than zero of 0x1900 to 0x19FF. -/
def defaults19 : List (Nat × Nat × Nat × Nat × Nat) := [
  (0x1900, 0x1900, 0x02, 0x02, 0xc8),
  (0x1900, 0x1900, 0x03, 0x03, 0x190),
  (0x1900, 0x1900, 0x05, 0x05, 0x14),
  (0x1900, 0x1900, 0x06, 0x06, 0xa),
  (0x1900, 0x1900, 0x07, 0x07, 2),
  (0x1900, 0x1900, 0x08, 0x08, 0x258),
  (0x1900, 0x1900, 0x09, 0x09, 0x3c)]

/-- Defaults other than zero of 0x1A00 to 0x1AFF. -/
def defaults1A : List (Nat × Nat × Nat × Nat × Nat) := [
  (0x1A00, 0x1A00, 0x01, 0x01, 0x50),
  (0x1A00, 0x1A00, 0x02, 0x02, 0x21),
  (0x1A03, 0x1A03, 0x01, 0x01, 0),
  (0x1A03, 0x1A03, 0x02, 0x02, 0x1388),
  (0x1A03, 0x1A03, 0x03, 0x03, 0x2710),
  (0x1A03, 0x1A03, 0x04, 0x04, 0x3a98),
  (0x1A03, 0x1A03, 0x05, 0x05, 0x4e20),
  (0x1A03, 0x1A03, 0x06, 0x06, 0x7530),
  (0x1A03, 0x1A03, 0x07, 0x07, 0x9c40),
  (0x1A03, 0x1A03, 0x08, 0x08, 0x1f4),
  (0x1A40, 0x1A40, 0x01, 0x01, 0xffffffffffffffffffffffffffffffffffffffffffffffffffffffff)]

/-- Defaults other than zero of 0x1D00 to 0x1DFF. -/
def defaults1D : List (Nat × Nat × Nat × Nat × Nat) := [
  (0x1D01, 0x1D01, 0x01, 0x01, 0xc8),
  (0x1D01, 0x1D01, 0x02, 0x02, 0x3e8)]


/-- The defaults of one range of Table 13.1, by the high byte of the index. -/
def defaultsOf (page : Nat) : List (Nat × Nat × Nat × Nat × Nat) :=
  match page with
  | 0x01 => defaults01
  | 0x02 => defaults02
  | 0x03 => defaults03
  | 0x04 => defaults04
  | 0x05 => defaults05
  | 0x08 => defaults08
  | 0x09 => defaults09
  | 0x0A => defaults0A
  | 0x0B => defaults0B
  | 0x0C => defaults0Ca ++ defaults0Cb
  | 0x0D => defaults0Da ++ defaults0Db ++ defaults0Dc
  | 0x10 => defaults10
  | 0x11 => defaults11
  | 0x12 => defaults12
  | 0x13 => defaults13
  | 0x14 => defaults14
  | 0x15 => defaults15a ++ defaults15b
  | 0x18 => defaults18
  | 0x19 => defaults19
  | 0x1A => defaults1A
  | 0x1D => defaults1D
  | _ => []

/-- The line of the tables that lists an entry. -/
def rowOf (k : Key) : Option Row :=
  (rowsOf (keyIndex k / 256)).find? fun r =>
    decide (r.index ≤ keyIndex k) && decide (keyIndex k ≤ r.lastIndex) && decide (r.sub ≤ keySub k) &&
      decide (keySub k ≤ r.lastSub)

/-- Whether an index exists at all (R435), customer entries apart. -/
def indexExists (index : Nat) : Bool :=
  (rowsOf (index / 256)).any fun r => decide (r.index ≤ index) && decide (index ≤ r.lastIndex)

/-- The highest subindex of an index in a generation (R434, R456). -/
def highestSub (index gen : Nat) : Nat :=
  ((rowsOf (index / 256)).filter fun r =>
    decide (r.index ≤ index) && decide (index ≤ r.lastIndex) && decide (r.gen ≤ gen)).foldl (fun m r => max m r.lastSub) 0

/-- The number of bytes of a type; the longest a TEXT may be. -/
def Ty.bytes : Ty → Nat
  | .bool => 1
  | .u b => b / 8
  | .i b => b / 8
  | .f32 => 4
  | .datetime => 8
  | .octets n => n
  | .text n => n

/-- The hexadecimal digit of a number below 16, as its code. -/
def hexDigit (n : Nat) : Nat := if n < 10 then 48 + n else 55 + n

/-- CHIP_SERIAL as 16 hexadecimal digits, the default of SERIAL_NUMBER (Table 13.13). -/
def serialText (serial : Nat) : Nat :=
  ofLe ((List.range 16).map fun i => hexDigit (serial / 16 ^ (15 - i) % 16))

/-- The order code of a grade (Table 0.4), the default of PRODUCT_ID. -/
def orderCode (grade : Nat) : Nat :=
  ofLe ([75, 76, 54, 52, 51, 50, 45, 70, 66, 50, 56, 57, 45] ++ [if grade = 1 then 73 else 69])

/-- The default of an entry (the Default columns of the entry tables). -/
def defaultOf (k : Key) : Nat :=
  if k = key 0x0100 0x04 then orderCode Config.grade
  else if k = key 0x0100 0x06 then serialText (Config.chipSerial % 2 ^ 64)
  else
    match (defaultsOf (keyIndex k / 256)).find? fun d =>
        decide (d.1 ≤ keyIndex k) && decide (keyIndex k ≤ d.2.1) && decide (d.2.2.1 ≤ keySub k) &&
          decide (keySub k ≤ d.2.2.2.1) with
    | some d => d.2.2.2.2
    | none => 0

end Sys2Proof.Machine
end

