-- ==== Sys2Proof/Machine/Store.lean ====
section
/-! DEFINITION. Sparse stores in one canonical form (keys strictly rising, no pair equal to what an unlisted key reads
as), and the addressed memory of Table 1.4 and Table 1.11 built on them. -/

namespace Sys2Proof.Machine

/-- A sparse store: pairs of a key and a value. -/
abbrev Pairs (β : Type) := List (Nat × β)

/-- The value listed for a key, if any. -/
def Pairs.find {β : Type} : Pairs β → Nat → Option β
  | [], _ => none
  | (k, v) :: m, key => if k = key then some v else Pairs.find m key

/-- The store without a key. -/
def Pairs.drop {β : Type} : Pairs β → Nat → Pairs β
  | [], _ => []
  | p :: m, key => if p.1 = key then Pairs.drop m key else p :: Pairs.drop m key

/-- Put a pair before the first larger key. -/
def Pairs.place {β : Type} (key : Nat) (v : β) : Pairs β → Pairs β
  | [] => [(key, v)]
  | p :: m => if key < p.1 then (key, v) :: p :: m else p :: Pairs.place key v m

/-- What a key reads as: its listed value, or the value every unlisted key has. -/
def Pairs.get {β : Type} (unlisted : Nat → β) (m : Pairs β) (key : Nat) : β := (m.find key).getD (unlisted key)

/-- Write a key: the canonical form is kept by listing nothing where the value is the unlisted one. -/
def Pairs.set {β : Type} [DecidableEq β] (unlisted : Nat → β) (m : Pairs β) (key : Nat) (v : β) : Pairs β :=
  if v = unlisted key then m.drop key else Pairs.place key v (m.drop key)

/-- The keys rise strictly. -/
def Pairs.rising {β : Type} : Pairs β → Bool
  | [] => true
  | [_] => true
  | p :: q :: m => decide (p.1 < q.1) && Pairs.rising (q :: m)

/-- The canonical form of a store. -/
def Pairs.wf {β : Type} [DecidableEq β] (unlisted : Nat → β) (m : Pairs β) : Bool :=
  m.rising && m.all (fun p => !(decide (p.2 = unlisted p.1)))

/-- The addressed memory: bytes of the application core's map (Table 1.4: application FRAM, core SRAM, backup RAM). -/
abbrev Memory := List Host.Cell

/-- What a byte that nothing has written reads as. DESIGN CHOICE (log 2): the manual gives no contents after
manufacture; the model fixes 0. -/
def Memory.unlisted (_ : Nat) : BitVec 8 := 0

/-- One byte of memory. -/
def Memory.read (m : Memory) (a : Nat) : BitVec 8 := Pairs.get Memory.unlisted m a

/-- Write one byte of memory. -/
def Memory.write (m : Memory) (a : Nat) (b : BitVec 8) : Memory := Pairs.set Memory.unlisted m a b

/-- Write bytes at rising addresses. -/
def Memory.writeBytes (m : Memory) (a : Nat) : List Nat → Memory
  | [] => m
  | b :: bs => Memory.writeBytes (Memory.write m a (BitVec.ofNat 8 b)) (a + 1) bs

/-- Read `n` bytes at rising addresses. -/
def Memory.readBytes (m : Memory) (a : Nat) : Nat → List Nat
  | 0 => []
  | n + 1 => (Memory.read m a).toNat :: Memory.readBytes m (a + 1) n

/-- The canonical form of the memory: addresses strictly rising, no byte equal to what an unlisted address reads as. -/
def Memory.wf (m : Memory) : Bool := Pairs.wf Memory.unlisted m

end Sys2Proof.Machine
end

