-- ==== Sys2Proof/Machine/State.lean ====
section
/-! DEFINITION. The state of the block as plain data: everything the spec gives the KL6432, the queue of waiting
commands, and the values at reset. INVENTORY.md lists each piece with its rule. -/

namespace Sys2Proof.Machine

open Sys2Proof

/-- Reasons for which the block would stop. The manual stops the block for none: the type has no constructor that a
meaning of this model raises; `impossible` keeps it inhabited (safe: no command answers with it). -/
inductive Fault where
  /-- Raised by no command. Safe. -/
  | impossible
  deriving DecidableEq, Repr

/-- Reasons for which a command is refused by the model. -/
inductive Refusal where
  /-- Raised by an arm of `exec` whose command has no meaning yet. Safe: nothing is claimed of such a command. -/
  | notModelled (mnemonic : String)
  deriving DecidableEq, Repr

/-- Operating modes (Table 13.11). -/
inductive Mode where
  | config
  | measure
  | verify
  | taper
  deriving DecidableEq, Repr

/-- Power states (Table 12.1), with the states of the device outside them: in reset with a start to come, and in the
brownout hold of R414. -/
inductive PState where
  | run
  | doze
  | wick
  | snuff
  | dark
  | starting     -- in reset or in the start sequence: no boundary has opened
  | hold         -- brownout hold: AO fed from VCAP
  deriving DecidableEq, Repr


/-! ### Device Organisation: records and the event controller -/

/-- A Heruk record (Table 1.5): the header fields and the payload words. -/
structure Record where
  type : Nat
  gen : Nat
  cls : Nat
  src : Nat
  qual : Nat
  frame : Nat
  payload : List Nat
  deriving DecidableEq, Repr

/-- An event pending for one destination (R37, R38, R40). -/
structure Pend where
  dest : Dest
  ev : Nat
  count : Nat
  code : Nat
  arg : Nat
  src : Nat
  cls : Nat
  latched : Bool
  offered : Bool          -- its pending bit is set in the core's interrupt controller (R562)
  frame : Nat             -- frame number at the raising, or of the delivery under LATCHED
  tick : Nat              -- RTC ticks since the boundary, or the prescaler under LATCHED
  at_ : Nat               -- RTC ticks since the reset at the raising: events of one tick are ordered by number (R37)
  seconds : Nat           -- seconds counter at the raising (Table 17.8)
  deriving DecidableEq, Repr

/-- An event as a block raises it: number, CODE, ARG, SRC and CLASS. -/
structure Raised where
  ev : Nat
  code : Nat
  arg : Nat
  src : Nat
  cls : Nat
  deriving DecidableEq, Repr

/-- A latch entry of BK for an event raised while AO is unpowered (R21). -/
structure BkLatch where
  ev : Nat
  count : Nat
  seconds : Nat
  prescaler : Nat
  code : Nat
  arg : Nat
  deriving DecidableEq, Repr

/-! ### Settings -/

/-- When an accepted write takes effect: at the next boundary, or at the next boundary that opens an even frame
(R162), or once no powerline transmission is in progress (R527). -/
inductive When where
  | boundary
  | evenBoundary
  | txEnd
  deriving DecidableEq, Repr

/-- An accepted write that waits for its boundary (R162, R462). -/
structure Edit where
  key : Nat
  value : Nat
  due : When
  deriving DecidableEq, Repr

/-- The entries that hold a written value: what a read returns, what the engines use, and the writes that wait. -/
structure Settings where
  stored : List (Nat × Nat)
  eff : List (Nat × Nat)
  edits : List Edit
  deriving DecidableEq, Repr

/-! ### The Frame Contract -/

/-- A shot placed in the frame: its group, its kind (0 first shot, 1 to 3 reserved retry r, 4 reserved acquisition shot, 5
admitted dynamic retry, 6 admitted acquisition search of the context group - 64), its members, its planned start, its latest
planned start and its length, in eighths of a nanosecond (R57, R67, R85). -/
structure Planned where
  group : Nat
  kind : Nat
  members : List Nat
  start : Nat
  latest : Nat
  length : Nat
  deriving DecidableEq, Repr

/-- A dynamic job (R66): kind 0 retry of a group, 1 acquisition search of a context, 2 display update of a region,
3 core-served request of a port, 4 copy of a waveform (R199); and the job's number, for a copy twice the context and 1 for up. -/
structure DynJob where
  kind : Nat
  job : Nat
  deriving DecidableEq, Repr

/-- The frame sequencer (R43 to R52, R74 to R77). Times inside a frame
are counted from its opening boundary: `cyc` in ledger cycles, planned times in eighths of a nanosecond, 125 to a ledger
cycle. -/
structure Frame where
  running : Bool          -- frames run: false until the opening boundary, and in SNUFF and DARK
  number : Nat            -- FRAME_NUMBER, 48 bits
  length : Nat            -- L_k in ticks
  lengthLast : Nat        -- FRAME_LENGTH_LAST
  base : Nat              -- time of the opening boundary since the start, in eighths of a ledger cycle
  cyc : Nat               -- time since the boundary, ledger cycles
  done : Nat              -- RTC ticks of the frame that the slow counters have counted
  committing : Bool       -- the commit slot, until COMMIT_COMPLETE
  lantern : Bool          -- level of LANTERN (R76)
  synoActive : Bool       -- SYNO at its active level (R77)
  planned : List Planned  -- shots of the frame still to be fired
  dynamic : List DynJob   -- dynamic jobs waiting, in order of request
  tried : List DynJob     -- those of them considered in the frame and not admitted (R69)
  waiting : List DynJob   -- Ochre jobs admitted and not yet finished, in order of admission
  pulsesSent : Nat        -- powerline pulses started in the frame
  ceCyc : Nat             -- compute cycles of the frame up to ceFrom (R589)
  ceFrom : Nat            -- ledger cycles since the boundary up to which they are counted
  workSlots : List Nat    -- issue slots of the correlator and of the flow engine that have done work in the frame
  corFree : Nat           -- when the correlator last ended a job, ledger cycles
  corEnd : Nat            -- end of the correlations placed so far in the frame
  acEnd : Nat             -- end of the shots, sensor job and reservations placed so far
  flowStarted : Bool
  flowDone : Bool
  flowCyc : Nat           -- start of the flow computation
  cause : Nat             -- cause of Table 2.8 of the last restoration, 0 none
  chainDone : List Nat    -- end of the last correlation on each receive chain
  deriving DecidableEq, Repr

/-- Sync (R78 to R84). Times of reference events are eighths of a ledger cycle since the start. -/
structure Sync where
  state : Nat             -- SYNC_STATE
  residual : Int          -- SYNC_RESIDUAL
  rejects : Nat           -- SYNC_REJECTS
  started : Bool          -- an event has started the index
  last : Nat              -- last accepted event
  index : Nat             -- index of the last accepted event
  intervals : List Rat    -- the accepted intervals, as many as K can be at most, each divided by its n, newest first
  aligned : List Nat      -- aligned events not older than one frame, newest first
  tight : Nat             -- run of frames with a residual within 1 tick
  loose : Nat             -- run of frames with a larger residual
  failRun : Nat           -- run of frames in which the capture condition failed
  correction : Int        -- c of the frame that opened
  deriving DecidableEq, Repr

/-- The ledger's report (R61, R64). -/
structure Ledger where
  state : Nat
  minSlack : Nat
  worstPhase : Nat
  refusal : Nat
  shortfall : Nat
  refusedRow : Nat
  planCycle : Nat
  broken : Nat            -- PROMISES_BROKEN
  overruns : Nat          -- FRAME_OVERRUNS
  deriving DecidableEq, Repr

/-! ### Path contexts, transducer ports and time measurement -/

/-- One direction of one attempt, from its firing to its fusion (R168 to R193). -/
structure DirRun where
  fired : Bool
  at_ : Nat               -- its firing instant, F or F2, 1/32 ns since the boundary
  closed : Bool           -- its window has closed
  closedAt : Nat          -- when, ledger cycles since the boundary
  correlated : Bool       -- its correlation has completed
  corAt : Nat             -- when its correlation started, ledger cycles since the boundary
  chain : Nat
  gain : Nat
  r1 : Nat                -- calibration readings of the input
  r2 : Nat
  faulty : Bool           -- the calibration failed twice (R170)
  amp : Nat               -- largest absolute sample
  sat : Bool
  stamps : List Nat       -- usable stamps, TU, oldest first
  close : Nat
  order : Nat
  firstLost : Bool        -- the first stamp was an order error (R178)
  missing : Bool          -- overflow or timeout (R172 to R174)
  lockLost : Bool         -- R195
  fitted : Bool           -- the regression kept two stamps or more
  period : Rat            -- P of R179, TU
  anchor : Rat            -- a of R179, TU
  freq : Nat              -- 0.01 Hz
  fmeas : Rat             -- the same before rounding, Hz (R106)
  hasPeak : Bool
  matchQ : Nat            -- rho at the main peak, Q1.15
  ratio : Nat             -- 1/16
  chosen : Bool           -- fusion chose a candidate
  lag : Nat
  fuse : Int              -- fusion residual, TU
  hasTime : Bool
  time : Nat              -- transit time, TU
  reason : Nat            -- Table 4.4
  value : Nat             -- measured value of the failed gate
  deriving DecidableEq, Repr

/-- An attempt of a context (R141): its number, whether it is a dynamic retry or an acquisition shot, the two
directions, and its outcome. -/
structure Attempt where
  number : Nat
  start : Nat             -- when its group started, ledger cycles since the boundary
  dynamic : Bool
  acquisition : Bool
  slots : Nat             -- correlator slots held pending until the outcome is settled (R590)
  up : DirRun
  dn : DirRun
  decided : Bool
  valid : Bool
  reason : Nat            -- context-level reason, or the reason of R146
  value : Nat
  hasDt : Bool
  dt : Int
  deriving DecidableEq, Repr

/-- What the even frame of a pair leaves for the boundary that closes the pair (R106, R122, R127, R157). -/
structure PairHalf where
  fired : Bool
  valid : Bool
  subst : Bool
  retried : Bool
  gain : Nat
  dt : Int
  peak : Nat
  windowed : Bool         -- a window of an attempt has closed in the frame
  freqs : List Rat        -- f_meas of the directions that passed, Hz
  badArrival : Bool       -- invalid with ARRIVAL or PEAK_RATIO (R152)
  deriving DecidableEq, Repr

/-- The runtime state of a path context. -/
structure Ctx where
  g : Nat                 -- gain code in use (R126)
  m : Rat                 -- SWAP_RESIDUAL before rounding (R122)
  h : Nat                 -- half-period, 31.25 ps units (R93, R106)
  driftRun : Nat          -- frame pairs with the deviation beyond DRIFT_LIMIT (R108)
  driftRaised : Bool
  dtRef : Option Int      -- R140
  acqRequested : Bool     -- R152
  acqServed : Bool        -- a search has served the context in this frame
  everFound : Bool        -- the last search found the signal
  centreUp : Nat          -- TRACK_CENTRE (R184)
  centreDn : Nat
  attempts : Nat          -- attempts fired in the frame
  current : Option Attempt    -- the attempt under way or the last one
  result : Option Attempt     -- the first valid attempt of the frame
  acq : Option Attempt        -- the acquisition shot under way (R185)
  givenUp : Bool          -- its shot was given up in the frame (R148)
  wantsRetry : Bool       -- waits for a dynamic retry (R144)
  half : PairHalf         -- the even frame of the pair
  scores : List Nat      -- the sums of MATCH_UP and MATCH_DN of the last 64 values of R155, newest first
  driftArmed : Bool
  shots : Nat             -- SHOT_COUNT
  retries : Nat           -- RETRY_COUNT
  substs : Nat            -- SUBST_COUNT
  kept : Nat × Nat × Nat  -- the three counters as stored at the last boundary (R637)
  invalidRun : Nat
  lastReason : Nat
  lost : Bool
  validLast : Bool
  acquiredShown : Bool    -- ACQUIRED and IN_PLAN of CTX_STATUS, as of the last boundary (R165)
  inPlanShown : Bool
  satLowering : Bool      -- a saturation in the frame (R130)
  peak : Nat              -- largest absolute sample in the windows of the frame's attempts (R127)
  windowed : Bool         -- such a window has closed
  staged : List (Nat × Nat)   -- staged writes (R161)
  zeroStatus : Nat        -- ZERO_STATUS
  zeroPairs : Nat         -- N of ZERO_CAPTURE
  zeroSeen : Nat
  zeroGood : Nat
  zeroSum : Int           -- sum of the frame Δt of qualifying pairs
  zeroResult : Int
  zeroLive : Bool         -- an even frame has opened since the start of the measurement
  deriving DecidableEq, Repr

/-- Template capture (R188 to R190). -/
structure Capture where
  status : Nat
  ctx : Nat
  pairs : Nat
  anchor : Nat
  used : Nat
  seen : Nat
  live : Bool
  sum : List Rat
  half : List Rat         -- contributions of the pair so far
  goods : Nat             -- directions of the pair that may be used, 0 to 4
  result : List Int
  resultAnchor : Nat
  deriving DecidableEq, Repr

/-- A group in flight: the shot between its start and its last window (Table 3.7). -/
structure Flight where
  group : Nat
  kind : Nat
  members : List Nat
  start : Nat
  held : Bool             -- held for VHD (R103)
  latest : Nat            -- latest planned start, ledger cycles
  deriving DecidableEq, Repr

/-- The excitation of a pin (R94, R98 to R101, R112, R113). Times are in units of 1/32 ns: 31.25 ps, that of the
half-period. -/
structure Drive where
  pin : Nat
  ctx : Nat
  at_ : Nat               -- the firing instant, since the boundary
  half : Nat              -- h
  chips : List Bool       -- the code bits of the chips sent: true where shifted by half a period
  periods : Nat           -- carrier periods of a chip
  level : Nat             -- drive level, mV
  dampHalf : Nat          -- anti-phase half-cycles
  dampLevel : Nat         -- their amplitude, eighths of a mV
  clamp : Nat             -- periods of the active clamp
  invert : Bool           -- INVERT of the pin (R91)
  deriving DecidableEq, Repr

/-- A span in which the crossbar connects a pin to a chain (Table 3.7, R117), 1/32 ns since the boundary. -/
structure Link where
  pin : Nat
  ctx : Nat
  chain : Nat
  opens : Nat             -- the pin is connected from here
  ends : Nat              -- up to here
  deriving DecidableEq, Repr

/-- A segment of stamps of TDC input 17 or 18 (R181): a span in which TM stays on. -/
structure GateSeg where
  stamps : List Int       -- TU from the start of the timebase's count, oldest first
  edges : Nat             -- the coarse count of the last stop, with the wraps of its 40 bits
  r1 : Nat                -- the calibration in force
  r2 : Nat
  deriving DecidableEq, Repr

/-- A waveform whose copy is admitted and not finished (R198, R199). -/
structure WaveCopy where
  ctx : Nat
  up : Bool
  dir : DirRun            -- the direction of the first attempt
  samples : List Int      -- its capture
  deriving DecidableEq, Repr

/-- The acoustic front end, the TDC and the correlator. -/
structure Acoustic where
  ctx : List Ctx                  -- 64 path contexts
  captures : List (List Int)      -- acoustic RAM: the capture of each receive chain (R22)
  flight : List Flight
  crossbar : List (Nat × Nat)     -- the chain that a pin's switch leads to (R115, R116)
  links : List Link               -- the spans in which switches are closed
  drives : List Drive             -- the pins fired in the shot under way
  hdEnd : Option Nat              -- when HD goes off (R105), 1/32 ns since the boundary
  chainSat : List Nat             -- CHAIN_SAT_COUNT
  vsdGood : Bool
  vsdDroop : Bool
  vhdAbove5 : Bool
  vhdLow : Bool
  calGain : List Nat              -- TDC_CAL_GAIN, inputs 0 to 18
  calR : List (Nat × Nat)         -- last R1 and R2 of each input
  calFaulty : List Nat            -- inputs marked faulty
  calFaults : Nat
  closeStamps : Nat
  orderErrors : Nat
  overflows : Nat
  timeouts : Nat
  pllLocked : Bool
  dllLocked : Bool
  capture : Capture
  waveSkipped : Nat
  waves : List WaveCopy           -- copies admitted
  gate17 : List GateSeg           -- segments of input 17 in the frame, newest first (R181)
  gate18 : List GateSeg           -- those of input 18, over its gate (R182, R502)
  deriving DecidableEq, Repr



/-! ### Record queues and ports -/

/-- A record queued for the SPI host, and whether it asserts SIRQ (R471). -/
structure OutRec where
  record : Record
  sirq : Bool
  deriving DecidableEq, Repr

/-- The record queues of the SPI port (R467 to R471) and of the core (R569), and the counters of the ports. Port codes:
0 access port, 1 SPI, 2 IO-Link, 3 M-Bus, 4 powerline. -/
structure Queues where
  spiIn : List Record       -- records received and not yet served, oldest first
  spiOut : List OutRec      -- records queued for the host, oldest first
  spiHeld : List OutRec     -- answers waiting for room (R39)
  spiError : Bool           -- ERROR of the status preamble
  status : List Nat         -- the status preamble of the last transaction (Table 14.3), the 8 bytes sent
  sent : List Nat           -- the words the last READ sent
  coreIn : List Nat         -- words of the IN queue, oldest first
  coreHeld : List Record    -- answers waiting for room (R39)
  coreOut : List Nat        -- words pushed to OUT_DATA and not yet submitted
  popped : Nat              -- the word the last read of IN_DATA returned
  gens : List Nat           -- session generation of ports 0 to 3; 0 where no session is open
  linkErrors : List Nat     -- LINK_ERRORS of the five ports (R466)
  spiDropped : Nat
  coreDropped : Nat
  deriving DecidableEq, Repr

/-- A snapshot buffer of the counter reader (R594, Table 18.5). -/
structure PerfSnap where
  frame : Nat
  reconfig : Bool
  counts : List Nat       -- 48 counters, (b, i) at 8b + i
  ovf : List Bool
  deriving DecidableEq, Repr

/-- The performance counters (R583 to R602). -/
structure Perf where
  counts : List Nat
  ovf : List Bool
  clear : Nat             -- pending PERF_OVF_CLEAR (R599)
  cur : PerfSnap          -- the buffer that is read
  idle : PerfSnap         -- the other buffer
  latches : List (Nat × Nat × Nat)  -- latched words: master, offset, value (R596)
  uen : Bool
  deriving DecidableEq, Repr


/-! ### Clock Sources and References -/

/-- Clock sources and qualification (R203 to R227). -/
structure Clocks where
  ref : Nat               -- HF reference in use: 0 HF crystal, 1 OCXO, 2 HF RC
  hfxFailed : Bool
  hfxReady : Bool         -- the crystal runs
  trial : Bool            -- on trial (R224)
  trying : Bool           -- the failed crystal is being started again
  trialReady : Bool       -- it was ready in time and waits for an even boundary
  trialFailed : Bool      -- the trial failed and the PLL goes back to the HF RC
  disagreeRun : Nat       -- gates with |K| beyond XTAL_AGREE (R221)
  agreeRun : Nat          -- gates within it, on trial (R224)
  retryIn : Nat           -- frames until the next trial of a failed crystal
  rtcOnLfrc : Bool
  ocxoWarm : Bool
  warmCount : Nat
  overDrift : Nat         -- gates in a row with a drift beyond 4 × OCXO_DRIFT_MAX
  gates : List (Nat × Int) -- last 8 gates: end time in ticks, error in ppb; newest first
  freqErr : Int           -- OCXO_FREQ_ERR
  drift : Int             -- OCXO_DRIFT
  qualK : Int
  qualAge : Nat
  tickScale : Int
  fallbacks : Nat
  fusionBlock : Nat       -- frames for which R215 fails every direction after a forced fallback
  deriving DecidableEq, Repr

/-! ### Power States, Wake and Start-Up -/

/-- A switched domain: on, its regulator ready, and whether its first time-out has passed (R402, R403). -/
structure Domain where
  on : Bool
  ready : Bool
  retried : Bool
  since : Nat             -- when it was first switched on, eighths of a ledger cycle since the start
  deriving DecidableEq, Repr

/-- A BOOT_HISTORY entry (Table 12.7). -/
structure BootEntry where
  time : Nat
  startReason : Nat
  outcome : Nat
  endReason : Nat
  flags : Nat
  frames : Nat
  fails : Nat
  deriving DecidableEq, Repr

/-- Residency counters (R415): RUN, DOZE, WICK and SNUFF, and the short entries into WICK and SNUFF. -/
structure Residency where
  ticks : List Nat
  entries : List Nat
  short : List Nat
  deriving DecidableEq, Repr

/-- The power manager, with the parts of it that BK holds (R397 to R433). -/
structure Power where
  state : PState
  doms : List Domain      -- AF, HD, TM, CE, LK, DP
  mtime : Nat             -- MTIME (R563), 64 bits
  wickStart : Nat         -- when the last WICK entry began, eighths of a ledger cycle since the start
  finalDue : Bool         -- a frame was open at the last reset, so that its final commit was due (R314)
  wakePending : Option Nat  -- a wake event that arrived during an entry (R73, R404)
  lastWake : Nat          -- LAST_WAKE_SOURCE
  wakeFails : Nat
  res : Residency
  resSnap : Residency
  resFrame : Nat          -- RESIDENCY_FRAME
  resClear : Bool         -- RESIDENCY_CLEAR pending
  command : Nat           -- POWER_COMMAND pending
  taperExit : Bool        -- TAPER_EXIT pending
  startMode : Nat         -- START_MODE
  failedStarts : Nat
  startCount : Nat
  taperLatchBk : Bool
  taperLatchMetro : Bool
  taperCode : Nat
  boundaries : Nat        -- boundaries counted since the opening boundary, to 4 (R420)
  succeeded : Bool
  history : List BootEntry  -- newest first, 8
  open_ : Bool            -- the newest entry is open
  endReason : Nat         -- reason of the reset that leads to the next start
  backoff : Nat           -- ticks of back-off left (R424)
  nrst : Bool             -- NRST asserted
  testm : Bool            -- TESTM asserted at the release of NRST
  resumed : Bool          -- the TAPER latch was set at the start
  wakeFailReplay : Option (Nat × Nat) -- CODE and ARG of the WAKE_FAIL to raise again (R431)
  keyDown : Bool
  keySince : Nat          -- MTIME at the qualified press (R393)
  vddio : List Bool       -- VDDIO1 and VDDIO2 are present (R628)
  deriving DecidableEq, Repr



/-! ### Calendar and Backup Domain -/

/-- A tamper input and its latch (R352, R353), with the copies in the metrology partition. -/
structure Tamper where
  run : Nat               -- consecutive active samples, to 8
  latch : Bool
  first : Nat
  last : Nat
  count : Nat
  copyFirst : Nat
  copyLast : Nat
  copyCount : Nat
  deriving DecidableEq, Repr

/-- A setting of the time or a DST change since the last boundary, for the billing engine (R364, R382 to R386). -/
structure TimeChange where
  set : Bool              -- a setting, else a DST change
  auto : Bool             -- a DST change by a rule
  old : Nat               -- seconds counter before
  new : Nat               -- and after
  dstOld : Bool
  dstNew : Bool
  deriving DecidableEq, Repr

/-- The calendar and the supply switch of BK (R333 to R361). -/
structure Cal where
  seconds : Nat           -- CAL_SECONDS, 48 bits, standard time
  prescaler : Nat         -- 0 to 32 767 within the second
  dst : Bool
  calend : Bool
  uncertain : Bool
  invalid : Bool
  bkLost : Bool           -- BK_LOST of CAL_STATUS
  lossDue : Bool          -- BK state has been lost; R358 acts at the next start
  changes : List TimeChange   -- since the last boundary, oldest first
  lastOld : Nat
  lastNew : Nat
  setCount : Nat
  rate : Rat              -- c of R341, ppb, as last formed
  carry : Int             -- carry of R342, 2^-16 pulse
  trim : Int              -- n_j of the current window
  owed : Nat              -- steps of the prescaler beyond its last value, which wait for the second edge
  window : Nat            -- crystal periods since the start of the window
  tamper : List Tamper    -- TAMP0, TAMP1, MAGS
  vmain : Bool            -- VMAIN present (Table 10.4)
  vbat : Bool
  vbkp : Bool
  source : Nat            -- BK source: 1 VMAIN, 2 VBAT, 3 VBKP
  vbkpMv : Nat            -- VBKP at the last change, mV
  switchovers : Nat
  vmainRise : Nat
  deriving DecidableEq, Repr


/-! ### Temperature and Pressure Inputs -/

/-- A measured value: a port, the pressure or the internal temperature (R234, R243 to R247). -/
structure Sensed where
  code : Nat              -- fault code, Table 7.6
  value : Int             -- last fault-free value: mK, or Pa
  run : Nat               -- consecutive faulty measurements
  armed : Bool            -- the next fault raises its event (R244)
  measured : Bool         -- a measurement has been made since the start
  named8 : Bool           -- carries code 8 under R250
  updated : Bool          -- updated in the present frame
  prov : Bool             -- PROVREF of the SENSOR_RESULT that published the value (R33)
  history : List Int      -- last fault-free values of the mean of R234, newest first
  deriving DecidableEq, Repr

/-- The sensor job under way (R231): the port being discharged, none for the reference. -/
structure SensorJob where
  start : Nat             -- ledger cycles since the boundary
  row : Nat
  current : Option Nat
  left : List Nat         -- ports still to come
  r1 : Nat
  r2 : Nat
  faulty : Bool           -- the calibration of the discharge under way is not sound
  tref : Nat              -- t_ref, TU; 0 while not known
  refCode : Nat           -- 0, or the failure of the reference: 1, 2, 5 or 6
  since : Nat             -- when the discharge under way began to charge, ledger cycles since the boundary (Table 7.2)
  deriving DecidableEq, Repr

/-- The sensor blocks. -/
structure Sensors where
  vals : List Sensed      -- ports 0 to 3, pressure, internal
  res : List Nat          -- TS_RESISTANCE
  faults : Nat            -- SENSOR_FAULTS
  refArmed : Bool
  rows : List Nat         -- SENSOR rows of the frame still to run
  job : Option SensorJob
  limitHit : Bool         -- a discharge of the frame reached its stop limit
  exciting : Bool         -- bridge excitation and conversion
  converted : Bool        -- the frame has had its pressure conversion
  raw : Int               -- P_RAW
  pub : List (Int × Nat)  -- values as the present frame uses them (R235), with 0 live, 1 held, 2 beyond the hold
  deriving DecidableEq, Repr


/-! ### Flow, Profile and Medium -/

/-- What the flow computation of a frame yields (R266, R269, R287). -/
structure FlowOut where
  q : Int                 -- Q handed to the quantity engine, nL/s
  qc : Int                -- computed flow before creep suppression, nL/s
  vMean : Rat             -- m/s
  cMed : Rat              -- c_m, m/s
  mask : Nat
  method : Nat
  set : Nat
  creep : Bool
  theta : Int             -- medium temperature used, mK
  press : Nat             -- medium pressure used, Pa
  tStand : Nat            -- 0 live, 1 held, 2 beyond the hold
  pStand : Nat
  re : Rat
  kRe : Rat
  concHeld : Bool
  medium : Nat
  candidate : Nat
  reverse : Bool
  mismatch : Bool
  ready : Bool            -- path ratios ready
  diag : List Nat
  conc : Rat              -- x
  h2 : Rat                -- y
  cv : Rat                -- J/m³
  good : Bool             -- a good frame (R262)
  speeds : List Nat       -- v_s of the slots, F32
  subst : Bool
  valid : Bool
  deriving DecidableEq, Repr

/-- A band alarm of a diagnostic (R272). -/
structure BandRun where
  outside : Nat
  inside : Nat
  standing : Bool
  deriving DecidableEq, Repr

/-- The flow engine (R251 to R289). -/
structure Flow where
  held : Rat              -- v_mean of the last frame under methods 0 to 2
  holdCount : Nat
  dir : Nat               -- FLOW_DIRECTION
  dirRun : Nat
  creep : Bool
  creepRun : Nat          -- frames above 0.8 × V_CUT
  lastMag : Rat           -- |v_mean| of the previous frame, m/s
  creepEntries : Nat
  ring : List (List Nat)  -- the last good frames, F32, newest first
  ringHead : Nat          -- the place of the next one among the 64 of the area (R262)
  turb : List (List Rat)  -- per slot, the last 16 velocities, newest first
  diag : List Nat         -- DIAGNOSTIC
  stale : Bool
  bands : List BandRun
  active : Nat            -- MEDIUM_ACTIVE
  known : Nat             -- last known medium
  candidate : Nat
  candRun : Nat           -- consecutive frames with the candidate
  mismatch : Bool
  cMed : Rat
  conc : Rat              -- x
  h2 : Rat                -- y
  h2Over : Bool           -- CODE 1 of H2_LIMIT has been raised
  h2OverGone : Nat        -- frames without its condition
  h2Top : Nat             -- consecutive frames at 0.40
  h2TopRaised : Bool
  h2TopGone : Nat
  velocity : List Int     -- PATH_VELOCITY
  sound : List Nat        -- PATH_SOUND
  fault : Nat             -- FLOW_CONFIG_FAULT
  out : Option FlowOut    -- of the present frame
  last : Option FlowOut   -- of the frame before
  deriving DecidableEq, Repr


/-! ### Quantities, Accumulation and Outputs -/

/-- A register of R293: a 96-bit value and its residue in 2^-32 LSB. -/
structure Reg where
  value : Nat
  residue : Nat
  deriving DecidableEq, Repr

/-- The accounting of a frame by family (Table 9.2): the families in error. -/
structure Acct where
  vol : Bool
  base : Bool
  mass : Bool
  thermal : Bool
  gas : Bool
  deriving DecidableEq, Repr

/-- A pulse output (R322 to R326). Ticks are counted since the start. -/
structure PulseOut where
  acc : Nat               -- A
  backlog : Nat
  count : Nat             -- PO_COUNT
  high : Bool             -- a pulse in progress
  dirLevel : Bool         -- active under MODE 2
  edge : Option Nat       -- tick of the last leading edge
  spacing : Nat           -- of the present frame, ticks
  first : Nat             -- first tick at which a pulse of the frame may start
  told : Bool             -- PULSE_BACKLOG raised and the backlog not yet empty
  ends : Nat              -- tick at which the pulse in progress ends
  deriving DecidableEq, Repr

/-- The test output FTO (R327 to R329). -/
structure Fto where
  acc : Nat               -- B
  backlog : Nat           -- FTO_BACKLOG
  count : Nat             -- FTO_COUNT
  owed : Nat              -- n of the present frame
  begun : Nat             -- pulses begun in the frame
  spacing : Nat           -- s, compute cycles
  high : Bool
  rose : Nat              -- rising edge of the pulse in progress, eighths of a compute cycle since the start
  falls : Nat             -- its end, in the same unit
  told : Bool
  deriving DecidableEq, Repr

/-- FLOW_STATE of a commit record, with the ring its head makes part of it (Table 9.5). -/
structure FlowState where
  active : Nat
  known : Nat
  dir : Nat
  creep : Bool
  holdCount : Nat
  dirRun : Nat
  creepRun : Nat
  held : Rat
  conc : Rat
  h2 : Rat
  ring : List (List Nat)
  ringHead : Nat
  deriving DecidableEq, Repr

/-- A group of billing closes (R378, Table 11.12). -/
structure Group where
  first : Nat
  count : Nat
  flags : Nat
  deriving DecidableEq, Repr

/-- A maximum demand, or the last demand: value, end instant, flags of Table 11.9. -/
structure MaxD where
  value : Nat
  ends : Nat
  flags : Nat
  deriving DecidableEq, Repr

/-- BILLING_STATE (Table 11.21). -/
structure BillState where
  tariff : Nat
  credit : Nat            -- CREDIT_STATE
  act : Nat               -- actuator state, Table 11.18
  creditDisc : Bool       -- the last disconnect was a credit disconnect
  bank : Bool             -- calendar bank active
  uncertain : Bool        -- UNCERTAIN in the period
  subst : Bool
  provref : Bool
  seqNext : Nat           -- SNAP_SEQ_NEXT
  lastDemandEnd : Nat
  lastSwitch : Nat
  lastClose : Nat
  activateAt : Nat
  subStart : Nat
  subOpen : Nat
  subs : List Nat         -- closed subintervals, newest first
  skipped : Nat
  maxCur : List MaxD
  maxClosed : List MaxD
  balance : Int
  topupId : Nat
  topupCount : Nat
  last : MaxD             -- DEMAND_LAST
  deriving DecidableEq, Repr

/-- A commit record (Table 9.5). -/
structure Commit where
  seq : Nat
  frame : Nat
  partial_ : Bool
  lost : Bool
  seconds : Nat
  tick : Nat
  group : Option Group    -- PENDING
  regs : List Reg
  flow : FlowState
  sensors : List Int      -- ports 0 to 3, internal, pressure
  pulses : List (Nat × Nat)   -- backlog and accumulator of each output
  bill : BillState
  deriving DecidableEq, Repr

/-- The quantity engine and the outputs (R292 to R332). -/
structure Qty where
  regs : List Reg         -- 64: quantities 0 to 15, then the tariff registers
  acct : Acct             -- accounting of the last frame
  gained : List (Nat × Nat)   -- increments of the last frame: quantity and fixed-point increment (R308)
  gainedTime : Rat        -- d_k of the last frame, s (R295)
  banks : List (Option Commit)    -- the two commit banks; none where the CRC or a reserved field does not check
  writing : Option Commit -- a commit under way
  lost : Bool
  oneBank : Bool
  failed : Bool           -- the last commit failed
  fails : Nat             -- COMMIT_FAILS
  failRun : Nat
  clearing : Bool         -- an accepted QTY_CLEAR waits
  fault : Nat             -- QTY_CONFIG_FAULT
  outs : List PulseOut
  fto : Fto
  deriving DecidableEq, Repr


/-! ### Tariffs, Billing and Prepayment -/

/-- A slot of the snapshot ring (R378): whether its writing was completed, its SNAP_SEQ, its words and the CRC-32 after
them. -/
structure Slot where
  ok : Bool
  seq : Nat
  words : List Nat
  crc : Nat
  deriving DecidableEq, Repr

/-- An actuator movement (R391, R392): phase 0 drive, 1 overdrive, 2 reverse drive, 3 pause. -/
structure Movement where
  target : Nat
  cause : Nat
  start : Nat             -- eighths of a ledger cycle since the start
  travel : Nat            -- ms, once the end is reached
  used : Nat              -- retries used
  phase : Nat
  since : Nat             -- when the phase began, likewise
  deriving DecidableEq, Repr

/-- The billing engine (R362 to R394). -/
structure Billing where
  st : BillState
  upTo : Option Nat       -- seconds counter up to which instants have been reached
  frozen : Bool           -- INVALID or CALEND stood at the last boundary
  short : Bool            -- the present demand interval lacks time
  repeatTo : Nat          -- end of a repeated span (R383, R385), seconds counter
  closeFloor : Nat        -- end of a span in which no scheduled close repeats (R385)
  activateNow : Bool      -- PASSIVE_ACTIVATE_AT was not in the future when written
  heldAt : Option Nat     -- PASSIVE_ACTIVATE_AT accepted since the last complete commit, in FRAM (R452)
  activations : Nat
  calFault : Nat          -- CALENDAR_FAULT
  closeNow : Bool
  topups : List (Nat × Int)   -- accepted, not yet added
  group : Option Group    -- closes whose snapshots are not yet written
  groupInsts : List Nat   -- their nominal instants
  groupRec : Option Commit    -- the record of the boundary that executed them
  closedHere : List Nat   -- instants of the closes executed at the last boundary
  groupDue : Bool         -- the commit that carries the group is complete
  slots : List Slot       -- 24
  move : Option Movement
  command : Nat           -- accepted ACT_COMMAND, 0 none
  keyConnect : Bool       -- KEY held for ACT_KEY_HOLD in READY
  asked : Bool            -- the credit disconnect of this exhaustion has been requested
  faults : Nat            -- ACT_FAULTS
  lastTravel : Nat
  deriving DecidableEq, Repr


/-! ### The Object Dictionary -/

/-- A request to the dictionary (Table 13.6): OP 1 READ, 2 WRITE, 3 WRITE_AUTH. -/
structure Request where
  via : Via
  gen : Nat               -- session generation at its reception
  hdr : Nat               -- GEN of its header; the session generation where it came without one
  bad : Bool              -- its LENGTH disagrees with its LEN (R450)
  op : Nat
  index : Nat
  sub : Nat
  id : Nat                -- REQ_ID
  data : List Nat
  deriving DecidableEq, Repr

/-- A METRO_CHANGE_LOG entry (Table 13.14). -/
structure Change where
  index : Nat
  sub : Nat
  port : Nat
  count : Nat
  time : Nat
  deriving DecidableEq, Repr

/-- The security block's part of the dictionary (R434 to R463, R575 to R577). Lists of three are by role 1 to 3. -/
structure Access where
  sealed : Bool
  sealedOnce : Bool
  factoryEnded : Bool
  factoryLock : Bool
  changes : Nat           -- METROLOGY_CHANGES
  changeLog : List Change -- newest first, 16
  replay : List Nat       -- REPLAY_COUNTER
  fails : Nat             -- AUTH_FAILS
  failRun : List Nat      -- consecutive failures, in BK
  lockout : List Nat      -- RTC ticks of lockout left, in BK
  failsOf : List Nat      -- AUTH_FAILS by port code (R484)
  operatorKey : Option (List Nat)
  metrologyKey : Option (List Nat)
  keyChanges : Nat
  bootHash : Option (List Nat)
  waiting : List Request  -- requests that wait for the end of the commit slot (R452)
  customer : List Request -- customer requests that wait to be admitted or held (R560, R566)
  firewallHits : Nat
  firewallLast : Nat
  firewallMaster : Nat
  deriving DecidableEq, Repr

/-- An event log entry (Table 17.8): bytes 0x00 to 0x17, and CHAIN. -/
structure LogEntry where
  seq : Nat
  body : List Nat
  chain : List Nat
  deriving DecidableEq, Repr

/-- The event log (R578 to R580). -/
structure EventLog where
  nextSeq : Nat
  head : List Nat         -- LOG_HEAD_HASH
  lost : Nat              -- LOG_LOST
  entries : List LogEntry -- newest first, 2048
  due : List Pend         -- occurrences delivered to LOG, not yet written
  lostBk : Nat            -- entries lost at a reset, kept in BK until the next start
  deriving DecidableEq, Repr


/-! ### Application Core and Security -/

/-- The registers of the application core (R555, R556). What firmware does to them between two commands comes with the
next one. -/
structure Csr where
  x : List Nat            -- the 32 general registers of RV32I
  pc : Nat
  user : Bool             -- user mode
  mstatus : Nat
  mie : Nat
  mtvec : Nat
  mscratch : Nat
  mepc : Nat
  mcause : Nat
  mtval : Nat
  mcounteren : Nat
  cycles : Nat            -- mcycle less the compute cycles of the present frame
  instret : Nat           -- minstret
  pmpcfg : List Nat       -- 16 bytes
  pmpaddr : List Nat      -- 16
  deriving DecidableEq, Repr

/-- The application core's surroundings: boot, interrupts, timer, watchdog, access port and queues (R555 to R582). -/
structure AppCore where
  state : Nat             -- CORE_STATE
  csr : Csr
  icache : List Nat       -- base addresses of the valid lines of the instruction cache, newest first (R26, R558)
  dmaActive : Bool        -- a transfer of the DMA controller is under way
  dmaError : Bool         -- its error flag (R18)
  debugData : Nat         -- what the last read of the debug module returned (R632)
  failedStep : Nat        -- BOOT_STATUS bits 3:0
  secVersion : Nat        -- FW_SEC_VERSION
  resets : Nat            -- CORE_RESETS
  wfi : Option Nat        -- waiting in WFI with these interrupts enabled (mie)
  halted : Bool           -- halted by the debug module
  l16 : Bool              -- local interrupts
  l17 : Bool
  l18 : Bool
  withheld : Bool         -- 16 and 17 withheld until the boundary (R560)
  msip : Bool
  enable : Nat            -- ENABLE1:ENABLE0
  priority : List Nat     -- 64
  threshold : Nat
  claim : Nat             -- CLAIM as last read
  claimInfo : Nat
  claimArg : Nat
  claimFrame : Nat
  mtimecmp : Nat
  mtip : Bool             -- machine timer interrupt taken
  wdt : Nat               -- WDT_CTRL
  wdtCount : Nat
  hold : Bool             -- a reservation holds CE out of WICK (R559)
  reqHdr : Nat
  reqLen : Nat
  reqBusy : Bool
  reqResult : Nat         -- REQ_RESULT without BUSY
  reqData : List Nat      -- 1044 bytes
  custHdr : Nat
  custInfo : Nat
  custResult : Nat
  custData : List Nat     -- 1044 bytes
  held : Option Request   -- the held customer request
  heldAt : Nat            -- the time of its hold, eighths of a ledger cycle since the start
  custTimeouts : Nat
  mailOut : List Nat      -- the MAILBOX_OUT register
  mailPublished : List Nat    -- the MAILBOX_OUT entry
  mailUnread : Bool
  fwMin : Nat             -- FW_MIN_VERSION
  deriving DecidableEq, Repr


/-! ### Field Links -/

/-- The IO-Link device (R472 to R487). -/
structure IoLink where
  state : Nat             -- IOL_STATE
  config : Nat            -- IOL_CONFIG in force since the wake-up
  cycleLast : Nat         -- µs
  lastStart : Option Nat  -- start of the last master message, eighths of a ledger cycle since the start
  lastAbort : Nat
  hello : List Nat        -- answer to the last offer, 20 bytes
  heard : Nat             -- the last valid master message, or the session's begin, eighths of a ledger cycle since the start
  pdIn : List Nat         -- the buffer the master reads
  pdNext : Option (List Nat × Bool)   -- the idle buffer until its swap, and whether it is filled within the session
  pdValid : Bool          -- a boundary has filled it in the session
  pdOut : List Nat        -- 32 bytes
  pdOutValid : Bool       -- the master's valid flag
  pdOutNew : Bool
  events : List Pend      -- pending IO-Link events, oldest first
  lastEvent : List Nat    -- 20 bytes
  response : Option (Nat × List Nat)  -- answer to the last ISDU: ErrorType, 0 for none, and data
  busy : Bool             -- the ISDU waits for the core
  downloading : Bool
  download : List (Nat × Nat × List Nat)  -- index, subindex and bytes of the writes of a download
  uploading : Bool
  uploadFlag : Bool       -- State_Property
  reply : List Nat        -- octets of the device's answer to the last M-sequence
  deriving DecidableEq, Repr

/-- The wired M-Bus slave (R488 to R496). -/
structure MBus where
  baud : Nat
  heard : Nat             -- tick of the last frame addressed to the device
  session : Bool
  fcb : Option Nat        -- FCB of the last request with FCV set
  selected : Bool
  telegram : Nat          -- telegram of the standard records to send next
  pages : List (List Nat) -- the records of the answer under way, by telegram
  last : List Nat         -- the RSP_UD last sent, user data
  sent : List Nat         -- the answer to the last frame; empty for none
  accessNo : Nat
  flags : Nat             -- error flags
  shown : Nat             -- flags an RSP_UD has carried
  request : Option Request    -- dictionary request pending
  answer : List Nat       -- the dictionary response block; empty while there is none
  hello : List Nat
  deriving DecidableEq, Repr


/-! ### Display Engine -/

/-- An update of a region from its request to its end (R530 to R544). Levels and plans are by segment. -/
structure DispRun where
  target : List Nat       -- requested levels of the 96 segments
  credit0 : Nat           -- c0: the credit when it began to wait (R539)
  bursts : Nat            -- N, once admitted
  at_ : List Nat          -- their planned starts (R540), eighths of a ledger cycle since the reset
  done : Nat              -- bursts of it that have run
  started : Bool          -- its first burst has started (R532)
  waving : Bool           -- S has passed
  band : Nat              -- band of the plan; latched at S (R537)
  first : Nat             -- phase of the phase clock at S
  nbal : Nat              -- n_bal
  length : Nat            -- phases of the run
  plan : List (Nat × List Nat)  -- phase codes of each segment of the region
  low : Bool              -- a phase found the pump low (R541)
  deriving DecidableEq, Repr

/-- An update region (R529, R531, R537). -/
structure Region where
  run : Option DispRun        -- waiting admission, admitted or running
  queued : Option (List Nat)  -- the targets of the queued update
  latched : Nat               -- BAND_LATCHED
  deriving DecidableEq, Repr

/-- The display engine (R528 to R554). -/
structure Display where
  regions : List Region   -- 16
  levels : List Nat       -- DISP_LEVELS, 96
  dc : List Int           -- DC_LEDGER, 96
  balDue : List Bool      -- BAL_DUE, 96
  credit : Nat            -- PUMP_CREDIT
  clock : Nat             -- tick at which the phase clock started
  phase : Nat             -- the next phase of the clock
  driven : List Nat       -- phase codes at the 96 segment pins: 0, 1 or 2
  pumping : Bool          -- the pump drives VEP and VEN
  band : Nat              -- BAND_NOW
  pumpLow : Bool          -- bit 2 of DISP_STATUS
  interrupted : List Nat  -- regions of bit 3 of DISP_STATUS
  updates : Nat
  superseded : Nat
  balPhases : Nat
  interrupts : Nat
  lcdShown : List Nat     -- pixel data of the LCD frame under way, 96 bytes
  lcdOn : List Nat        -- pixels on in it, the blinking ones as they stand
  lcdPolarity : Bool
  lcdAt : Option Nat      -- tick at which the LCD frame under way started
  deriving DecidableEq, Repr


/-! ### Powerline Link -/

/-- What a powerline session holds of a dictionary request that is not finished, or finished and not yet delivered
(R517): nothing, a request under way, or its finished response. -/
inductive PlWait where
  | none
  | busy (op seg : Nat)
  | ready (reply : List Nat)
  deriving DecidableEq, Repr

/-- A powerline session (R514 to R521). -/
structure PlSession where
  address : Nat           -- partner address, 0 where the session is free
  gen : Nat
  lost : Bool
  tog : Nat
  reply : Option (List Nat)   -- the kept REPLY's payload (R514)
  told : Nat              -- events the kept REPLY carries (R518)
  copy : Option (List Nat)    -- the value of the last READ (R516)
  assembly : Option (Nat × Nat × Nat × List Nat)  -- index, subindex, TOTAL and the bytes so far of a WRITE
  seg : Nat               -- next SEG of the assembly
  wait : PlWait
  hello : List Nat        -- answer to the last offer
  heard : Nat             -- tick of the last frame of the partner
  deriving DecidableEq, Repr

/-- What a transmission carries: a frame's header, addresses and payload, or the wake pattern. -/
structure PlTx where
  bytes : List Nat        -- empty for the wake pattern
  halves : List Bool      -- the pulses in order: true in the first half-cycle of its pair
  sent : Nat              -- pulses sent
  admitted : Bool         -- admitted under R525
  after : Nat             -- the next pulse's pair starts at the first rising crossing predicted after this time
  deriving DecidableEq, Repr

/-- A master's transaction: the slave being polled, the payload sent, and the repeats (R515, R521). -/
structure PlPoll where
  slave : Nat
  payload : List Nat
  repeats : Nat
  request : Bool          -- it carries the waiting PL_MASTER_REQUEST
  deriving DecidableEq, Repr

/-- The powerline link (R500 to R527). Times are units of the 1.048 576 MHz counter. -/
structure Powerline where
  rising : List Nat       -- last 16 accepted crossings of each polarity, oldest first
  falling : List Nat
  period18 : Option (Rat × Nat) -- the period of TDC input 18 and the frame of it
  locked : Bool
  goodRun : Nat           -- consecutive accepted rising crossings, to 16
  badRun : Nat            -- consecutive rising crossings missing or rejected, to 8
  quietPos : List Nat     -- last 8 m_q of non-erased half-cycles of each polarity, newest first
  quietNeg : List Nat
  sensed : List (Bool × Bool) -- the half-cycles sensed, newest first: positive, and whether with a pulse (R407, R509)
  sessions : List PlSession   -- 24, by slave index in the master role
  inbox : List (List Nat) -- POLL frames taken and not yet served: header to payload, oldest first
  events : List Pend      -- the queue of 8 of events routed PL (R518), oldest first
  tx : Option PlTx        -- the transmission admitted or waiting
  txNext : Option PlTx    -- the POLL that follows a wake pattern
  pulseAt : Option Nat    -- start of the pulse that drives PLD, eighths of a ledger cycle since the start
  ple : Bool
  poll : Option PlPoll    -- the master's transaction under way
  cycleOn : Bool          -- a cycle is under way
  cycleAt : Option Nat    -- tick at which the last cycle started
  request : Option (Nat × List Nat)   -- waiting PL_MASTER_REQUEST: slave index and payload
  response : List Nat     -- PL_MASTER_RESPONSE, 26 bytes
  status : List (List Nat)    -- PL_SLAVE_STATUS, 24 times 24 bytes
  txFrames : Nat
  rxFrames : Nat
  crcErrors : Nat
  erased : Nat
  refused : Nat
  rejects : Nat
  deriving DecidableEq, Repr

/-! ### Values at reset -/

/-- A direction that has not fired. -/
def DirRun.blank : DirRun :=
  { fired := false, at_ := 0, closed := false, closedAt := 0, correlated := false, corAt := 0, chain := 0, gain := 0, r1 := 0, r2 := 0,
    faulty := false, amp := 0, sat := false, stamps := [], close := 0, order := 0, firstLost := false, missing := false,
    lockLost := false, fitted := false, period := 0, anchor := 0, freq := 0, fmeas := 0, hasPeak := false, matchQ := 0, ratio := 0,
    chosen := false, lag := 0, fuse := 0, hasTime := false, time := 0, reason := 0, value := 0 }

/-- An even frame that left nothing. -/
def PairHalf.blank : PairHalf :=
  { fired := false, valid := false, subst := false, retried := false, gain := 0, dt := 0, peak := 0, windowed := false, freqs := [],
    badArrival := false }

/-- The runtime state of a path context at reset (R637); g and f_real are set from the settings at every start. -/
def Ctx.reset : Ctx :=
  { g := 60, m := 0, h := 16000, driftRun := 0, driftRaised := false, dtRef := none, acqRequested := true,
    acqServed := false, everFound := false, centreUp := 0, centreDn := 0, attempts := 0, current := none, result := none, acq := none,
    givenUp := false, wantsRetry := false, half := PairHalf.blank, scores := [], driftArmed := true, shots := 0,
    retries := 0, substs := 0, kept := (0, 0, 0), invalidRun := 0, lastReason := 0, lost := false, validLast := false, acquiredShown := false, inPlanShown := false, satLowering := false, peak := 0, windowed := false,
    staged := [], zeroStatus := 0, zeroPairs := 0, zeroSeen := 0, zeroGood := 0, zeroSum := 0, zeroResult := 0,
    zeroLive := false }

/-- Template capture at reset (R190). -/
def Capture.reset : Capture :=
  { status := 0, ctx := 0, pairs := 0, anchor := 0, used := 0, seen := 0, live := false, sum := [], half := [],
    goods := 0, result := [], resultAnchor := 0 }

/-- The acoustic blocks at reset. -/
def Acoustic.reset : Acoustic :=
  { ctx := List.replicate 64 Ctx.reset, captures := List.replicate 16 [], flight := [], crossbar := [], links := [], drives := [], hdEnd := none,
    chainSat := List.replicate 16 0, vsdGood := false, vsdDroop := false, vhdAbove5 := false, vhdLow := false,
    calGain := List.replicate 19 0, calR := List.replicate 19 (0, 0), calFaulty := [], calFaults := 0, closeStamps := 0,
    orderErrors := 0, overflows := 0, timeouts := 0, pllLocked := false, dllLocked := false, capture := Capture.reset,
    waveSkipped := 0, waves := [], gate17 := [], gate18 := [] }

/-- The frame sequencer at reset. -/
def Frame.reset : Frame :=
  { running := false, number := 0, done := 0, length := 16384, lengthLast := 0, base := 0, cyc := 0, committing := false,
    lantern := false, synoActive := false, planned := [], dynamic := [], tried := [], waiting := [], pulsesSent := 0, ceCyc := 0, ceFrom := 0,
    workSlots := [0, 0], corFree := 0, corEnd := 0, acEnd := 0,
    flowStarted := false, flowDone := false, flowCyc := 0, cause := 0, chainDone := List.replicate 16 0 }

/-- Sync at reset. -/
def Sync.reset : Sync :=
  { state := 0, residual := 0, rejects := 0, started := false, last := 0, index := 0, intervals := [], aligned := [],
    tight := 0, loose := 0, failRun := 0, correction := 0 }

/-- The ledger's report at reset. -/
def Ledger.reset : Ledger :=
  { state := 0, minSlack := 0, worstPhase := 0, refusal := 0, shortfall := 0, refusedRow := 0, planCycle := 1,
    broken := 0, overruns := 0 }

/-- An empty counter snapshot. -/
def PerfSnap.blank : PerfSnap :=
  { frame := 0, reconfig := false, counts := List.replicate 48 0, ovf := List.replicate 48 false }

/-- The performance counters at reset (R584). -/
def Perf.reset : Perf :=
  { counts := List.replicate 48 0, ovf := List.replicate 48 false, clear := 0, cur := PerfSnap.blank,
    idle := PerfSnap.blank, latches := [], uen := false }

/-- The clock sources at reset. -/
def Clocks.reset : Clocks :=
  { ref := 0, hfxFailed := false, hfxReady := false, trial := false, trying := false, trialReady := false,
    trialFailed := false, disagreeRun := 0, agreeRun := 0,
    retryIn := 0, rtcOnLfrc := false, ocxoWarm := false,
    warmCount := 0, overDrift := 0, gates := [], freqErr := 0, drift := 0, qualK := 0, qualAge := 255,
    tickScale := 0, fallbacks := 0, fusionBlock := 0 }

/-- Residency counters at an AO power-up. -/
def Residency.zero : Residency :=
  { ticks := List.replicate 4 0, entries := List.replicate 4 0, short := List.replicate 2 0 }

/-- A domain that is off. -/
def Domain.off : Domain := { on := false, ready := false, retried := false, since := 0 }

/-- The power manager right after an AO power-up, before the start sequence. -/
def Power.reset : Power :=
  { state := .starting, doms := List.replicate 6 Domain.off, mtime := 0, wickStart := 0, finalDue := false, wakePending := none, lastWake := 255,
    wakeFails := 0, res := Residency.zero, resSnap := Residency.zero, resFrame := 0, resClear := false, command := 0,
    taperExit := false, startMode := 0, failedStarts := 0, startCount := 0, taperLatchBk := false,
    taperLatchMetro := false, taperCode := 0, boundaries := 0, succeeded := false, history := [], open_ := false,
    endReason := 1, backoff := 0, nrst := false, testm := false, resumed := false, wakeFailReplay := none,
    keyDown := false, keySince := 0, vddio := [true, true] }



/-- The record queues at reset. -/
def Queues.reset : Queues :=
  { spiIn := [], spiOut := [], spiHeld := [], spiError := false, status := [], sent := [], coreIn := [], coreHeld := [],
    coreOut := [], popped := 0, gens := [0, 0, 0, 0], linkErrors := [0, 0, 0, 0, 0], spiDropped := 0, coreDropped := 0 }


/-- A value not measured yet (Table 7.7). -/
def Sensed.reset : Sensed :=
  { code := 8, value := 0, run := 0, armed := true, measured := false, named8 := false, updated := false, prov := false, history := [] }

/-- The sensor blocks at reset. -/
def Sensors.reset : Sensors :=
  { vals := List.replicate 6 Sensed.reset, res := [0, 0, 0, 0], faults := 0, refArmed := true, rows := [], job := none,
    limitHit := false, exciting := false, converted := false, raw := 0, pub := List.replicate 6 (0, 1) }


/-- A tamper input at the first BK power-on. -/
def Tamper.reset : Tamper :=
  { run := 0, latch := false, first := 0, last := 0, count := 0, copyFirst := 0, copyLast := 0, copyCount := 0 }

/-- The calendar at the first BK power-on, with VMAIN present: R358 acts at the start to come. -/
def Cal.reset : Cal :=
  { seconds := 0, prescaler := 0, owed := 0, dst := false, calend := false, uncertain := false, invalid := false, bkLost := false,
    lossDue := true, changes := [], lastOld := 0, lastNew := 0, setCount := 0, rate := 0, carry := 0, trim := 0, window := 0,
    tamper := List.replicate 3 Tamper.reset, vmain := true, vbat := false, vbkp := false, source := 1, vbkpMv := 0,
    switchovers := 0, vmainRise := 0 }


/-- A band with nothing counted. -/
def BandRun.zero : BandRun := { outside := 0, inside := 0, standing := false }

/-- The flow engine at reset, where no valid record exists (R268, Table 8.8). -/
def Flow.reset : Flow :=
  { held := 0, holdCount := 0, dir := 0, dirRun := 0, creep := true, creepRun := 0, lastMag := 0, creepEntries := 0,
    ring := [], ringHead := 0, turb := List.replicate 32 [], diag := [0xFFFF, 0xFFFF, 0x8000, 0xFFFF, 0xFFFF], stale := true,
    bands := List.replicate 5 BandRun.zero, active := 0xFF, known := 0xFF, candidate := 0xFF, candRun := 0,
    mismatch := false, cMed := 0, conc := 0, h2 := 0, h2Over := false, h2OverGone := 0, h2Top := 0,
    h2TopRaised := false, h2TopGone := 0, velocity := List.replicate 64 0, sound := List.replicate 64 0, fault := 0,
    out := none, last := none }


/-- A pulse output at rest. -/
def PulseOut.reset : PulseOut :=
  { acc := 0, backlog := 0, count := 0, high := false, dirLevel := false, edge := none, spacing := 1, first := 0, told := false, ends := 0 }

/-- FTO at rest. -/
def Fto.reset : Fto :=
  { acc := 0, backlog := 0, count := 0, owed := 0, begun := 0, spacing := 640, high := false, rose := 0, falls := 0, told := false }

/-- A frame with nothing in error. -/
def Acct.none_ : Acct := { vol := false, base := false, mass := false, thermal := false, gas := false }

/-- The quantity engine at reset: both commit banks blank (R313 acts at the start to come). -/
def Qty.reset : Qty :=
  { regs := List.replicate 64 { value := 0, residue := 0 }, acct := Acct.none_, gained := [], gainedTime := 0, banks := [none, none], writing := none,
    lost := false, oneBank := false, failed := false, fails := 0, failRun := 0, clearing := false, fault := 0,
    outs := List.replicate 8 PulseOut.reset, fto := Fto.reset }

/-- No demand. -/
def MaxD.zero : MaxD := { value := 0, ends := 0, flags := 0 }

/-- BILLING_STATE where no record exists. -/
def BillState.reset : BillState :=
  { tariff := 0, credit := 0, act := 0, creditDisc := false, bank := false, uncertain := false, subst := false,
    provref := false, seqNext := 0, lastDemandEnd := 0, lastSwitch := 0, lastClose := 0, activateAt := 0, subStart := 0,
    subOpen := 0, subs := [], skipped := 0, maxCur := List.replicate 8 MaxD.zero,
    maxClosed := List.replicate 8 MaxD.zero, balance := 0, topupId := 0, topupCount := 0, last := MaxD.zero }

/-- The billing engine at reset. -/
def Billing.reset : Billing :=
  { st := BillState.reset, upTo := none, frozen := false, short := true, repeatTo := 0, closeFloor := 0,
    activateNow := false, heldAt := none, activations := 0, calFault := 0, closeNow := false, topups := [], group := none, groupInsts := [],
    groupRec := none, closedHere := [], groupDue := false, slots := List.replicate 24 { ok := false, seq := 0, words := [], crc := 0 },
    move := none, command := 0, keyConnect := false, asked := false, faults := 0, lastTravel := 0 }


/-- A region with no update. -/
def Region.reset : Region := { run := none, queued := none, latched := 0 }

/-- The display engine at reset. -/
def Display.reset : Display :=
  { regions := List.replicate 16 Region.reset, levels := List.replicate 96 0, dc := List.replicate 96 0,
    balDue := List.replicate 96 false, credit := 0, clock := 0, phase := 0, driven := List.replicate 96 0,
    pumping := false, band := 0, pumpLow := false, interrupted := [], updates := 0, superseded := 0, balPhases := 0,
    interrupts := 0, lcdShown := List.replicate 96 0, lcdOn := List.replicate 96 0, lcdPolarity := false, lcdAt := none }


/-- A free powerline session. -/
def PlSession.free : PlSession :=
  { address := 0, gen := 1, lost := false, tog := 0, reply := none, told := 0, copy := none, assembly := none, seg := 0,
    wait := .none, hello := List.replicate 20 0, heard := 0 }

/-- The powerline link at reset. -/
def Powerline.reset : Powerline :=
  { rising := [], falling := [], period18 := none, locked := false, goodRun := 0, badRun := 0, quietPos := [],
    quietNeg := [], sensed := [], sessions := List.replicate 24 PlSession.free, inbox := [], events := [], tx := none, txNext := none,
    pulseAt := none, ple := false, poll := none, cycleOn := false, cycleAt := none, request := none,
    response := List.replicate 26 0, status := List.replicate 24 (List.replicate 24 0), txFrames := 0, rxFrames := 0,
    crcErrors := 0, erased := 0, refused := 0, rejects := 0 }


/-- The security block's part of the dictionary at reset of a device as it left manufacture. -/
def Access.reset : Access :=
  { sealed := false, sealedOnce := false, factoryEnded := false, factoryLock := false, changes := 0, changeLog := [],
    replay := [0, 0, 0], fails := 0, failRun := [0, 0, 0], lockout := [0, 0, 0], failsOf := [0, 0, 0, 0, 0],
    operatorKey := none, metrologyKey := none, keyChanges := 0, bootHash := none, waiting := [], customer := [],
    firewallHits := 0, firewallLast := 0, firewallMaster := 0 }

/-- The event log of a device as it left manufacture. -/
def EventLog.reset : EventLog :=
  { nextSeq := 0, head := List.replicate 32 0, lost := 0, entries := [], due := [], lostBk := 0 }

/-- The core's registers at a reset: machine mode, at the first address of the boot ROM. DESIGN CHOICE (log 91). -/
def Csr.reset : Csr :=
  { x := List.replicate 32 0, pc := 0, user := false, mstatus := 0, mie := 0, mtvec := 0, mscratch := 0, mepc := 0, mcause := 0,
    mtval := 0, mcounteren := 0, cycles := 0, instret := 0, pmpcfg := List.replicate 16 0,
    pmpaddr := List.replicate 16 0 }

/-- The application core's surroundings at reset. -/
def AppCore.reset : AppCore :=
  { state := 0, csr := Csr.reset, icache := [], dmaActive := false, dmaError := false, debugData := 0, failedStep := 0, secVersion := 0, resets := 0, wfi := none, halted := false, l16 := false, l17 := false,
    l18 := false, withheld := false, msip := false, enable := 0, priority := List.replicate 64 0, threshold := 0,
    claim := 0, claimInfo := 0, claimArg := 0, claimFrame := 0, mtimecmp := 2 ^ 64 - 1, mtip := false, wdt := 0, wdtCount := 0,
    hold := false, reqHdr := 0, reqLen := 0, reqBusy := false, reqResult := 0, reqData := List.replicate 1044 0,
    custHdr := 0, custInfo := 0, custResult := 0, custData := List.replicate 1044 0, held := none, heldAt := 0, custTimeouts := 0,
    mailOut := List.replicate 32 0, mailPublished := List.replicate 32 0, mailUnread := false, fwMin := 0 }

/-- The IO-Link device at reset. -/
def IoLink.reset : IoLink :=
  { state := 0, config := 0, cycleLast := 0, lastStart := none, lastAbort := 0, hello := List.replicate 20 0,
    heard := 0, pdIn := List.replicate 32 0, pdNext := none, pdValid := false, pdOut := List.replicate 32 0, pdOutValid := false, pdOutNew := false,
    events := [], lastEvent := List.replicate 20 0, response := none, busy := false, downloading := false, download := [],
    uploading := false, uploadFlag := false, reply := [] }

/-- The M-Bus slave at reset. -/
def MBus.reset : MBus :=
  { baud := 3, heard := 0, session := false, fcb := none, selected := false, telegram := 1, pages := [], last := [],
    sent := [], accessNo := 0, flags := 0, shown := 0, request := none, answer := [], hello := List.replicate 20 0 }

/-- The state of the block. -/
structure State where
  mode : Mode  -- OPERATING_MODE (Table 13.11)
  modePending : Option Mode  -- MODE_PENDING (R461)
  events : List Pend  -- the event controller's pending occurrences (R37 to R39)
  bkLatches : List BkLatch  -- events latched in BK (R21)
  set : Settings  -- the written entries (R452)
  q : Queues
  frame : Frame
  sync : Sync
  ledger : Ledger
  ac : Acoustic
  sen : Sensors
  flow : Flow
  qty : Qty
  bill : Billing
  clk : Clocks
  pwr : Power
  perf : Perf
  cal : Cal
  acc : Access
  log : EventLog
  core : AppCore
  iol : IoLink
  mbus : MBus
  pl : Powerline
  disp : Display
  mem : Memory  -- application FRAM, core SRAM and backup RAM (Table 1.4)
  pending : List Instr  -- commands waiting, first in, first out
  deriving DecidableEq, Repr

/-- The block right after an AO power-up of a device as it left manufacture: in reset, the start sequence to come.
The registers without a stated reset value are named in the assumption log. -/
def State.reset : State :=
  { mode := .config,
    modePending := none,
    events := [],
    bkLatches := [],
    set := { stored := [], eff := [], edits := [] },
    q := Queues.reset,
    frame := Frame.reset,
    sync := Sync.reset,
    ledger := Ledger.reset,
    ac := Acoustic.reset,
    sen := Sensors.reset,
    flow := Flow.reset,
    qty := Qty.reset,
    bill := Billing.reset,
    clk := Clocks.reset,
    pwr := Power.reset,
    perf := Perf.reset,
    cal := Cal.reset,
    acc := Access.reset,
    log := EventLog.reset,
    core := AppCore.reset,
    iol := IoLink.reset,
    mbus := MBus.reset,
    pl := Powerline.reset,
    disp := Display.reset,
    mem := [],
    pending := [] }

end Sys2Proof.Machine
end

