-- ==== Sys2Proof/Machine/Ops.lean ====
section
/-! DEFINITION. The named operations every command shares: reading and writing settings, time within the frame, raising
an event, counting for the performance counters, and the power domains. Each changes only the parts of the state it
names. -/

namespace Sys2Proof.Machine

open Sys2Proof

/-! ### Settings (R452, R462) -/

/-- The value a write has stored for an entry, or its default. -/
def State.get (s : State) (k : Key) : Nat := Pairs.get defaultOf s.set.stored k

/-- The value of an entry that the engines use now. -/
def State.eff (s : State) (k : Key) : Nat := Pairs.get defaultOf s.set.eff k

/-- The stored value of index:subindex. -/
def State.at_ (s : State) (index sub : Nat) : Nat := s.get (key index sub)

/-- The value in force of index:subindex. -/
def State.on_ (s : State) (index sub : Nat) : Nat := s.eff (key index sub)

/-- Store a value without changing what the engines use. -/
def Settings.store (c : Settings) (k : Key) (v : Nat) : Settings :=
  { c with stored := Pairs.set defaultOf c.stored k v }

/-- Make a value the one in force. -/
def Settings.force (c : Settings) (k : Key) (v : Nat) : Settings :=
  { c with eff := Pairs.set defaultOf c.eff k v }

/-- Store a value and make it the one in force at once. -/
def Settings.write (c : Settings) (k : Key) (v : Nat) : Settings := (c.store k v).force k v

/-- Store a value that takes effect at a boundary. -/
def Settings.edit (c : Settings) (k : Key) (v : Nat) (w : When) : Settings :=
  { c.store k v with edits := c.edits ++ [{ key := k, value := v, due := w }] }

/-- The routes that wait for the boundary come into force: they apply to the events raised from it on (R35). -/
def Settings.routesNow (c : Settings) : Settings :=
  (c.edits.filter fun e => keyIndex e.key == 0x1510 && decide (e.due = .boundary)).foldl
    (fun acc e => acc.force e.key e.value) c

/-- The view of the stored settings that the ledger and the validity rules read. -/
abbrev View := Key → Nat

/-- A view with one value changed: the settings as they would be after a write. -/
def View.with (v : View) (k : Key) (x : Nat) : View := fun a => if a = k then x else v a

/-- A view with several values changed, later pairs over earlier ones. -/
def View.withAll (v : View) : List (Nat × Nat) → View
  | [] => v
  | p :: ps => View.withAll (View.with v p.1 p.2) ps

/-- The key of a subindex of a path context (Table 4.1). -/
def ck (n sub : Nat) : Key := key (0x0900 + n) sub

/-! ### Time within the frame (R51) -/

/-- RTC ticks since the boundary: 8 ticks are 15 625 ledger cycles (R204). -/
def Frame.tick (f : Frame) : Nat := f.cyc * 8 / 15625

/-- The ledger cycles of a frame, up to the tick edge that ends it. -/
def Frame.endCyc (f : Frame) : Nat := (f.length * 15625 + 7) / 8

/-- A command that states its time moves the frame's time there; time never runs back, nor past the end of the frame. -/
def Frame.at_ (f : Frame) (cyc : Nat) : Frame := { f with cyc := max f.cyc (if f.running then min cyc f.endCyc else cyc) }

/-- The time since the reset, in eighths of a ledger cycle. -/
def Frame.now (f : Frame) : Nat := f.base + 8 * f.cyc

/-- The RTC tick of the present time, counted since the reset. -/
def Frame.absTick (f : Frame) : Nat := f.now / 15625

/-- Ticks since the start at the boundary that opened the frame. -/
def Frame.baseTick (f : Frame) : Nat := f.base / 15625

/-- The first whole ledger cycle of the frame at or after a tick since the start. -/
def Frame.cycOfTick (f : Frame) (t : Nat) : Nat := ((t - f.baseTick) * 15625 + 7) / 8

/-- The first tick since the start at or after a ledger cycle of the frame. -/
def Frame.tickFrom (f : Frame) (cyc : Nat) : Nat := f.baseTick + (cyc * 8 + 15624) / 15625

/-! ### Events (R34 to R41) -/

/-- The events whose LOG bit is forced (Table 1.10). -/
def forcedLog (ev : Nat) : Bool :=
  [1, 2, 3, 5, 7, 10, 18, 20, 25, 26, 28, 29, 31, 33, 34, 35, 36, 37, 38, 51, 52, 56, 57, 58, 59, 61, 63].contains ev

/-- The wake events (Table 1.10). -/
def wakeEvent (ev : Nat) : Bool := [0, 32, 36, 40, 42, 43, 44, 54, 56, 57].contains ev

/-- The destinations a route word names (Table 1.8), the forced LOG bit included. -/
def routeDests (route : Nat) (ev : Nat) : List Dest :=
  (if bitAt route 0 then [Dest.core] else []) ++ (if bitAt route 1 then [Dest.host] else []) ++
  (if bitAt route 2 || forcedLog ev then [Dest.log] else []) ++ (if bitAt route 3 then [Dest.iol] else []) ++
  (if bitAt route 4 then [Dest.mbus] else []) ++ (if bitAt route 5 then [Dest.pl] else [])

/-- Whether a pending occurrence is of an event for a destination. -/
def Pend.is (p : Pend) (d : Dest) (ev : Nat) : Bool := decide (p.dest = d) && p.ev == ev

/-- A further occurrence coalesces into the pending one (R38). -/
def Pend.again (p : Pend) (e : Raised) : Pend :=
  { p with count := satInc 255 p.count, code := e.code, arg := e.arg, src := e.src, cls := e.cls }

/-- Put a new occurrence in its place: in order of raising, those of one RTC tick in ascending EV number (R37). Ticks are told
apart by their count since the reset, so that the tick of the opening boundary is another one than those of the start. -/
def placePend (p : Pend) : List Pend → List Pend
  | [] => [p]
  | q :: qs =>
    if q.dest = p.dest ∧ q.latched = false ∧ q.at_ = p.at_ ∧ p.ev < q.ev then p :: q :: qs
    else q :: placePend p qs

/-- A further occurrence coalesces into the last one that waits: only two TAMPER occurrences latched in BK can wait as two
(R21). -/
def Pend.coalesce (d : Dest) (e : Raised) : List Pend → List Pend
  | [] => []
  | p :: ps =>
    if p.is d e.ev && !(ps.any fun q => q.is d e.ev) then p.again e :: ps else p :: Pend.coalesce d e ps

/-- One more occurrence for one destination (R37, R38), stamped from the frame and the seconds counter. -/
def pendFor (d : Dest) (f : Frame) (seconds : Nat) (e : Raised) (l : List Pend) : List Pend :=
  if l.any (fun p => p.is d e.ev) then Pend.coalesce d e l
  else placePend { dest := d, ev := e.ev, count := 1, code := e.code, arg := e.arg, src := e.src, cls := e.cls,
                   latched := false, offered := false, frame := f.number, tick := f.tick, at_ := f.absTick,
                   seconds := seconds } l

/-- One more occurrence for each destination of a route. -/
def pendAll (ds : List Dest) (f : Frame) (seconds : Nat) (e : Raised) (l : List Pend) : List Pend :=
  ds.foldl (fun acc d => pendFor d f seconds e acc) l

/-- The BK latch an event has (R21): TAMPER of TAMP0 and of TAMP1 each have their own, told apart by bit 0 of CODE. -/
def sameLatch (l : BkLatch) (e : Raised) : Bool := l.ev == e.ev && (e.ev != 56 || l.code % 2 == e.code % 2)

/-- BK still holds the latch of an event (R21). -/
def State.latchHeld (s : State) (e : Raised) : Bool := s.bkLatches.any fun x => sameLatch x e

/-- Latch an occurrence in BK while AO is unpowered (R21). -/
def latchBk (seconds prescaler : Nat) (e : Raised) (l : List BkLatch) : List BkLatch :=
  if l.any (fun x => sameLatch x e) then
    l.map (fun x => if sameLatch x e then { x with count := satInc 255 x.count, code := e.code, arg := e.arg } else x)
  else l ++ [{ ev := e.ev, count := 1, seconds := seconds, prescaler := prescaler, code := e.code, arg := e.arg }]

/-- Whether AO is unpowered or held in reset, by NRST or in the brownout hold, so that only BK can hold an event. -/
def Power.aoDown (p : Power) : Bool := decide (p.state = .dark) || decide (p.state = .hold) || p.nrst

/-- The events that BK latches (R21). -/
def bkEvent (ev : Nat) : Bool := [32, 34, 35, 56, 57].contains ev

/-- What a wake event does to the power state as it is raised (R36): DOZE ends; in WICK and SNUFF the exit is due and
remembers the event. -/
def Power.wake (p : Power) (ev : Nat) : Power :=
  if !wakeEvent ev then p
  else match p.state with
    | .doze => { p with state := .run, res := { p.res with entries := modAt p.res.entries 0 (satInc (2 ^ 48 - 1)) } }
    | .wick => { p with wakePending := some (p.wakePending.getD ev) }
    | .snuff => { p with wakePending := some (p.wakePending.getD ev) }
    | _ => p

/-- An event of BK goes to its latch: while AO is unpowered, and as long as the latch is still held (R21). -/
def State.latches (s : State) (e : Raised) : Bool := bkEvent e.ev && (s.pwr.aoDown || s.latchHeld e)

/-- Raise an event: pending for every destination of its route (R37, R38), latched in BK while AO is unpowered or its latch
is still held (R21), and a wake where Table 1.10 says so (R36). -/
def State.raise (e : Raised) (s : State) : State :=
  { s with
    events := if s.pwr.aoDown || s.latches e then s.events
      else pendAll (routeDests (s.on_ 0x1510 (e.ev + 1)) e.ev) s.frame s.cal.seconds e s.events
    bkLatches := if s.latches e then latchBk s.cal.seconds s.cal.prescaler e s.bkLatches else s.bkLatches
    pwr := s.pwr.wake e.ev }

/-- Raise events in order. -/
def State.raiseAll (es : List Raised) (s : State) : State := es.foldl (fun acc e => acc.raise e) s

/-- Raise an event where a condition holds. -/
def State.raiseIf (c : Bool) (e : Raised) (s : State) : State := if c then s.raise e else s

/-! ### Power domains (Table 1.2) -/

/-- A domain of the state: 0 AF, 1 HD, 2 TM, 3 CE, 4 LK, 5 DP. -/
def Power.dom (p : Power) (d : Nat) : Domain := p.doms.getD d Domain.off

/-- The domains a domain requires (Table 1.2). -/
def domRequires : Nat → List Nat
  | 0 => [2]
  | 1 => [0, 2]
  | _ => []

/-- Apply a function to some domains. -/
def Power.setDoms (p : Power) (ds : List Nat) (f : Domain → Domain) : Power :=
  { p with doms := ds.foldl (fun l x => modAt l x f) p.doms }

/-- Switch a domain on at a time, with every domain it requires (R19); its regulator is not ready yet. -/
def Power.switchOn (now : Nat) (p : Power) (d : Nat) : Power :=
  p.setDoms (domRequires d ++ [d]) (fun q => if q.on then q else { on := true, ready := false, retried := false, since := now })

/-- Switch a domain on and take it as ready. -/
def Power.powered (p : Power) (d : Nat) : Power :=
  p.setDoms (domRequires d ++ [d]) (fun q => { on := true, ready := true, retried := false, since := q.since })

/-- Switch a domain off, after the domains that require it (R19). -/
def Power.switchOff (p : Power) (d : Nat) : Power :=
  p.setDoms ((if d = 2 then [1, 0] else if d = 0 then [1] else []) ++ [d]) (fun _ => Domain.off)

/-! ### Performance counters (R585 to R593) -/

/-- The domain of a counter block (R583): AF, TM, CE, CE, CE, LK. -/
def blockDomain (b : Nat) : Nat := [0, 2, 3, 3, 3, 4].getD b 3

/-- Whether an address lies in a range (R586). -/
def inRange (base limit a : Nat) : Bool := decide (base ≤ a) && decide (a ≤ limit)

/-- Whether a mask field lets an attribute bit through; a mask of zero is all ones (R586). -/
def passes (mask bitNo : Nat) : Bool := mask == 0 || bitAt mask bitNo

/-- How often an occurrence counts in a counter of the given configuration (R586). -/
def actCounts (sel : Nat) (r0 r1 : Nat × Nat) (a : Act) : Nat :=
  let hit := match a.addr with
    | none => true
    | some x =>
      let m := match field sel 15 14 with
        | 1 => inRange r0.1 r0.2 x
        | 2 => inRange r1.1 r1.2 x
        | 3 => inRange r0.1 r0.2 x || inRange r1.1 r1.2 x
        | _ => true
      if field sel 15 14 = 0 then true else m != bitAt sel 13
  if bitAt sel 31 && !bitAt sel 30 && field sel 7 0 == a.event && a.event != 0 && passes (field sel 26 24) a.cls &&
      passes (field sel 23 21) a.priv && passes (field sel 20 16) a.master && hit then a.times else 0

/-- One pass over the eight counters of a block from counter `i` up, `carry` being the wraps of the counter before:
the counters, their OVF bits and the PERF_OVERFLOW events (R592). -/
def countBlock (b : Nat) (sel : Nat → Nat) (amount : Nat → Nat) :
    Nat → Nat → Nat → List Nat → List Bool → List Nat × List Bool × List Raised
  | 0, _, _, cs, os => (cs, os, [])
  | n + 1, i, carry, cs, os =>
    let add := if bitAt (sel i) 31 && bitAt (sel i) 30 then carry else amount i
    let v := natAt cs (8 * b + i) + add
    let wraps := v / 2 ^ 48
    let cs1 := setAt cs (8 * b + i) (v % 2 ^ 48)
    let os1 := if wraps = 0 then os else setAt os (8 * b + i) true
    let r := countBlock b sel amount n (i + 1) wraps cs1 os1
    let chained := decide (i < 7) && bitAt (sel (i + 1)) 31 && bitAt (sel (i + 1)) 30
    (r.1, r.2.1,
      if wraps = 0 then r.2.2
      else r.2.2 ++ [{ ev := 60, code := flagAt chained 7 + 16 * b + i,
                       arg := if chained then natAt r.1 (8 * b + i + 1) % 2 ^ 32 else 0, src := 0x53, cls := 2 }])

/-- The configuration of counter (b, i) in force. -/
def State.perfSel (s : State) (b i : Nat) : Nat := s.on_ (0x1C10 + b) (i + 1)

/-- Count one occurrence in the counters of its block, while the block's domain is on (R583). -/
def State.count1 (a : Act) (s : State) : State :=
  let r := countBlock a.block (s.perfSel a.block)
    (fun i => actCounts (s.perfSel a.block i) (s.on_ 0x1C01 1, s.on_ 0x1C01 2) (s.on_ 0x1C01 3, s.on_ 0x1C01 4) a)
    8 0 0 s.perf.counts s.perf.ovf
  if (s.pwr.dom (blockDomain a.block)).on then
    { s with perf := { s.perf with counts := r.1, ovf := r.2.1 } }.raiseAll r.2.2
  else s

/-- Count occurrences. -/
def State.count (acts : List Act) (s : State) : State := acts.foldl (fun acc a => acc.count1 a) s

/-- An occurrence of the metrology fabric: master sequencer, privilege engine, no address (R587). -/
def seqAct (block event cls times : Nat) : Act :=
  { block := block, event := event, cls := cls, priv := 2, master := 3, addr := none, times := times }

/-- An occurrence of a link engine. -/
def linkAct (event times : Nat) : Act :=
  { block := 5, event := event, cls := 2, priv := 2, master := 2, addr := none, times := times }

/-! ### Time that passes (R415, R563, R583) -/

/-- The place of a power state among the residency counters (R415). -/
def PState.slot : PState → Option Nat
  | .run => some 0
  | .doze => some 1
  | .wick => some 2
  | .snuff => some 3
  | _ => none

/-- Residency over some ticks in a power state (R415). -/
def Residency.pass (p : PState) (n : Nat) (r : Residency) : Residency :=
  match p.slot with
  | none => r
  | some i => { r with ticks := modAt r.ticks i fun t => min (2 ^ 48 - 1) (t + n) }

/-- An entry into a power state (R415). -/
def Residency.enter (p : PState) (r : Residency) : Residency :=
  match p.slot with
  | none => r
  | some i => { r with entries := modAt r.entries i (satInc (2 ^ 48 - 1)) }

/-- The master of a block's events that are no accesses (Table 18.1): 0 core, 2 link engine, 3 sequencer. -/
def blockMaster (b : Nat) : Nat := if b = 4 then 0 else if b = 5 then 2 else 3

/-- ON_TICKS of every block over some ticks. -/
def onTicks (n : Nat) : List Act :=
  (List.range 6).map fun b =>
    { block := b, event := 1, cls := 2, priv := 2, master := blockMaster b, addr := none, times := n }

/-- Some RTC ticks pass for AO: MTIME, the residency counters, the back-off (R424) and ON_TICKS. -/
def State.passTicks (n : Nat) (s : State) : State :=
  State.count (onTicks n)
    { s with pwr := { s.pwr with
        mtime := if s.pwr.state = PState.dark then s.pwr.mtime else (s.pwr.mtime + n) % 2 ^ 64
        res := s.pwr.res.pass s.pwr.state n
        backoff := s.pwr.backoff - n } }

/-- Crystal periods of a trim window (R342). -/
def trimPeriods : Nat := 8388608

/-- How many of the corrections of a window fall on its first `w` periods (R342): those m below k for which
floor(m × 8 388 608 / k) is below w. -/
def trimCount (k w : Nat) : Nat := min k ((w * k + trimPeriods - 1) / trimPeriods)

/-- The prescaler steps of the next `n` crystal periods, with the corrections that fall on them (R342). -/
def Cal.stepsIn (n : Nat) (c : Cal) : Nat :=
  let k := c.trim.natAbs
  let d := trimCount k (c.window + n) - trimCount k c.window
  if 0 < c.trim then n + d else n - d

/-- The prescaler at a count of steps within the second: past its last value it waits for the second edge, which a command
or an idle tick brings, and the steps beyond wait with it (R333). -/
def Cal.count (total : Nat) (c : Cal) : Cal := { c with prescaler := min 32767 total, owed := total - 32767 }

/-- Some crystal periods pass for the calendar (R333, R342). -/
def Cal.pass (n : Nat) (c : Cal) : Cal :=
  { c.count (c.prescaler + c.owed + c.stepsIn n) with window := c.window + n }

/-- Some RTC ticks pass: those of AO, the crystal periods of the calendar, and the lockouts of the roles, which BK counts
(R448). -/
def State.elapseBy (n : Nat) (s : State) : State :=
  if n = 0 then s
  else State.passTicks n { s with
    cal := s.cal.pass n
    acc := { s.acc with lockout := s.acc.lockout.map fun x => x - n } }

/-- The ticks of the frame that the slow counters have not counted yet pass. -/
def State.elapse (s : State) : State :=
  let t := s.frame.tick
  { s with frame := { s.frame with done := max s.frame.done t } }.elapseBy (t - s.frame.done)

/-- Issue slots of a block that take a class (R589 to R591): they count as SLOTS and under the class, with one set of
attributes; the correlator makes 32 multiply-accumulates in each that did work. -/
def slotActs (block event cls priv times : Nat) : List Act :=
  let a : Act := { block := block, event := event, cls := cls, priv := priv, master := if block = 4 then 0 else 3, addr := none,
                   times := times }
  [{ a with event := 0x30 }, a] ++
    (if block = 2 ∧ (event = 0x31 ∨ event = 0x32) then [{ a with event := 0x35, times := 32 * times }] else [])

/-- The slots of settled work (R590): retired where its result is used, wasted otherwise. -/
def workActs (block : Nat) (used : Bool) (times : Nat) : List Act := slotActs block (if used then 0x31 else 0x32) 0 2 times

/-- Slots that did work are held pending, and known as work of the frame. -/
def Frame.work (i n : Nat) (f : Frame) : Frame := { f with workSlots := modAt f.workSlots i fun x => x + n }

/-- The compute cycles of the frame up to the present time (R589): the compute clock runs in RUN alone (Table 12.1). -/
def Frame.clocked (p : PState) (f : Frame) : Frame :=
  { f with ceCyc := f.ceCyc + (if p = PState.run then f.cyc - f.ceFrom else 0), ceFrom := f.cyc }

/-- The compute cycles of the frame up to the present time, which mcycle counts (R204, R555). -/
def State.cyclesNow (s : State) : Nat := (s.frame.clocked s.pwr.state).ceCyc

/-- The power state changes at the present time of the frame; entering RUN, DOZE, WICK or SNUFF is counted (R415). -/
def State.toPower (p : PState) (s : State) : State :=
  let s0 := s.elapse
  let s1 := { s0 with frame := s0.frame.clocked s0.pwr.state }
  if s1.pwr.state = p then s1 else { s1 with pwr := { s1.pwr with state := p, res := s1.pwr.res.enter p } }

/-- An update runs (R532). -/
def Display.running (d : Display) : Bool := d.regions.any fun g => (g.run.map fun u => u.started).getD false

/-- An update is queued or waits. -/
def Display.waits (d : Display) : Bool :=
  d.regions.any fun g => g.queued.isSome || (g.run.map fun u => !u.started).getD false

/-- An e-paper update is running, queued or waiting. -/
def Display.busy (d : Display) : Bool := d.running || d.waits

/-- DP is needed: the LCD is driven, or an update runs or waits (R400, R538). -/
def State.dpNeeded (s : State) : Bool := field (s.on_ 0x1A00 1) 1 0 == 2 || s.disp.busy

/-- WICK ends (R401, R411, R415): CE, TM, AF and LK are switched on, their regulators not yet ready, DP where the
display needs it; the event that ended the stay is recorded, and an exit that starts within the round trip of the entry counts as a
short entry. -/
def State.leaveWick (source : Nat) (s : State) : State :=
  if s.pwr.state = .wick then
    let short := decide (s.frame.now < s.pwr.wickStart + 8 * 9600)
    let s1 := s.toPower .run
    let on_ := ([3, 0, 4] : List Nat).foldl (Power.switchOn s1.frame.now) s1.pwr
    let p := if s.dpNeeded then on_.switchOn s1.frame.now 5 else on_
    { s1 with pwr := { p with
        wakePending := none, lastWake := source
        res := if short then { p.res with short := modAt p.res.short 0 (satInc (2 ^ 48 - 1)) } else p.res } }
  else s

/-- HD goes off once the last damping phase that needs it has ended (R105), and the crossbar is open again once the last
member of the group has ended (R116). -/
def State.settlePins (s : State) : State :=
  let t := 500 * s.frame.cyc
  let off := (s.ac.hdEnd.map fun e => decide (e ≤ t)).getD false
  let open_ := s.ac.flight.isEmpty && s.ac.links.all fun l => decide (l.ends ≤ t)
  let a := if off then { s.ac with hdEnd := none } else s.ac
  { s with
    pwr := if off then s.pwr.switchOff 1 else s.pwr
    ac := if open_ then { a with crossbar := [], links := [], drives := [] } else a }

/-- The state at a stated time of the frame; work of the frame ends DOZE (R399), and WICK, whose planned exit it implies
(R72). -/
def State.atCyc (s : State) (cyc : Nat) : State :=
  let s1 := ({ s with frame := s.frame.at_ cyc } : State).settlePins
  if s1.pwr.state = .doze then s1.toPower .run else s1.leaveWick (s1.pwr.wakePending.getD 255)

end Sys2Proof.Machine
end

