-- ==== Sys2Proof/Machine/CommitRecord.lean ====
section
/-! DEFINITION. The bytes of a commit record (Table 9.5, Table 11.21) and the check of a record that is read (R310, R311,
R313). -/

namespace Sys2Proof.Machine

open Sys2Proof

/-- ACT_STATE (Table 11.18). -/
def BillState.actWord (b : BillState) : Nat := b.act + flagAt b.creditDisc 4

/-- The bytes 0x000 to 0x41F of a commit record: SEQ to REGISTERS. -/
def Commit.head (c : Commit) : List Nat :=
  leBytes 8 c.seq ++ leBytes 6 c.frame ++ leBytes 2 (flag c.partial_ + flagAt c.lost 1) ++
  leBytes 8 (c.seconds * 65536 + c.tick % 32768) ++
  leBytes 8 (match c.group with
    | none => 0
    | some g => g.flags % 32 * 2 ^ 56 + min 255 g.count * 2 ^ 48 + g.first % 2 ^ 48) ++
  c.regs.flatMap fun r => leBytes 12 r.value ++ leBytes 4 r.residue

/-- FLOW_STATE, 32 bytes: its parts in the order of Table 9.5. DESIGN CHOICE (log 39): the table gives them no offsets. -/
def FlowState.bytes (f : FlowState) : List Nat :=
  [f.active, f.known, f.dir, flag f.creep, f.holdCount, f.dirRun, f.creepRun].map (· % 256) ++ leBytes 8 (toF64 f.held) ++
  leBytes 4 (toF32 f.conc) ++ leBytes 4 (toF32 f.h2) ++ [f.ringHead % 256, f.ring.length % 256] ++ List.replicate 7 0

/-- A maximum: value, end and flags, 16 bytes. -/
def MaxD.bytes (m : MaxD) : List Nat := leBytes 8 m.value ++ leBytes 6 m.ends ++ leBytes 2 m.flags

/-- Eight bytes of a U48, with two zero bytes. -/
def u48Bytes (n : Nat) : List Nat := leBytes 6 n ++ [0, 0]

/-- BILLING_STATE, 804 bytes (Table 11.21). The closed subintervals stand oldest first from the start of the ring. DESIGN
CHOICE (log 39): no rule says where the ring begins. -/
def BillState.bytes (b : BillState) : List Nat :=
  let subs := b.subs.take 15
  [b.tariff % 256, b.credit % 256, b.actWord % 256, flag b.bank + flagAt b.uncertain 1 + flagAt b.subst 2 + flagAt b.provref 3] ++
  leBytes 4 b.seqNext ++ u48Bytes b.lastDemandEnd ++ u48Bytes b.lastSwitch ++ u48Bytes b.lastClose ++ u48Bytes b.activateAt ++
  u48Bytes b.subStart ++ leBytes 8 b.subOpen ++
  (subs.reverse ++ List.replicate (15 - subs.length) 0).flatMap (leBytes 8) ++
  [subs.length % 15, subs.length, 0, 0] ++ leBytes 4 b.skipped ++
  ((List.range 8).map fun t => b.maxCur.getD t ⟨0, 0, 0⟩).flatMap MaxD.bytes ++
  ((List.range 8).map fun t => b.maxClosed.getD t ⟨0, 0, 0⟩).flatMap MaxD.bytes ++
  leBytes 8 (unsigned 64 b.balance) ++ leBytes 4 b.topupId ++ leBytes 4 b.topupCount ++ b.last.bytes ++ List.replicate 332 0

/-- The bytes 0x000 to 0x7FB of a commit record (Table 9.5). -/
def Commit.body (c : Commit) : List Nat :=
  c.head ++ c.flow.bytes ++ ((List.range 6).flatMap fun i => leBytes 4 (unsigned 32 (c.sensors.getD i 0))) ++
  ((List.range 8).flatMap fun i =>
    let p := c.pulses.getD i (0, 0)
    leBytes 4 p.1 ++ [0, 0, 0, 0] ++ leBytes 8 p.2) ++
  c.bill.bytes

/-- The 2048 bytes of a commit record, with its CRC-32 (R311). -/
def Commit.bytes (c : Commit) : List Nat := c.body ++ leBytes 4 (crc32 c.body)

/-- Reserved bits of a commit record: offset and mask (R313). -/
def commitReserved : List (Nat × Nat) :=
  [(0x0E, 0xFC), (0x0F, 0xFF), (0x11, 0x80), (0x1F, 0xE0)] ++
  ((List.range 8).flatMap fun i => (List.range 4).map fun j => (0x458 + 16 * i + 4 + j, 0xFF)) ++
  [(0x4DB, 0xF0)] ++
  ((List.range 5).flatMap fun i => [(0x4E6 + 8 * i, 0xFF), (0x4E7 + 8 * i, 0xFF)]) ++
  [(0x58A, 0xFF), (0x58B, 0xFF)] ++ (List.range 332).map fun i => (0x6B0 + i, 0xFF)

/-- Bytes that differ from what was written: each pair is an offset and the bits that have changed there. -/
def differ (bytes : List Nat) (diff : List (Nat × Nat)) : List Nat :=
  diff.foldl (fun l d => modAt l d.1 fun b => b ^^^ d.2 % 256) bytes

/-- A record that is read checks: its CRC is right and its reserved fields are zero (R310, R313). -/
def Commit.checks (diff : List (Nat × Nat)) (c : Commit) : Bool :=
  let b := differ c.bytes diff
  b.drop 2044 == leBytes 4 (crc32 (b.take 2044)) && commitReserved.all fun m => natAt b m.1 &&& m.2 == 0

end Sys2Proof.Machine
end

