-- ==== Sys2Proof/Machine/Ledger.lean ====
section
/-! DEFINITION. The ledger (R51 to R70): job costs, placement, admission, the refusal report, dynamic jobs and the order
in which promises are broken. Times are in eighths of a nanosecond: 125 to a ledger cycle, 8000 to a microsecond, so that
every cost of Table 2.4 is a whole number. -/

namespace Sys2Proof.Machine

open Sys2Proof

/-- A microsecond in the ledger's unit. -/
def us (n : Nat) : Nat := 8000 * n

/-- Ledger cycles in the ledger's unit. -/
def cycles (n : Nat) : Nat := 125 * n

/-- 7T/8 for a period of `ticks` RTC ticks, a multiple of 64 (R43). -/
def sevenEighths (ticks : Nat) : Nat := ticks * 7 * 15625 * 125 / 64

/-- E_k (R52) in the ledger's unit, a whole number of cycles, for period T and frame length L in ticks. -/
def closingLimit (t l : Nat) : Nat := (sevenEighths t / 125 + (l - t) * 15625 / 8) * 125

/-! ### What a context costs (Table 2.4) -/

/-- DEFINED of Table 4.2. -/
def ctxDefined (v : View) (n : Nat) : Bool := bitAt (v (ck n 0x01)) 0
/-- STYLE of Table 4.2: sequential firing. -/
def ctxSequential (v : View) (n : Nat) : Bool := bitAt (v (ck n 0x01)) 1
/-- PIN_A of Table 4.3. -/
def ctxPinA (v : View) (n : Nat) : Nat := field (v (ck n 0x02)) 12 8
/-- PIN_B of Table 4.3. -/
def ctxPinB (v : View) (n : Nat) : Nat := field (v (ck n 0x02)) 4 0
/-- C0 of Table 4.3. -/
def ctxC0 (v : View) (n : Nat) : Nat := field (v (ck n 0x03)) 7 4
/-- C1 of Table 4.3. -/
def ctxC1 (v : View) (n : Nat) : Nat := field (v (ck n 0x03)) 3 0
/-- The sample period of the RX word's RATE, ns (R124). -/
def ctxPeriodNs (v : View) (n : Nat) : Nat := [200, 100, 50, 25].getD (field (v (ck n 0x07)) 15 14) 25
/-- WS, ns. -/
def ctxWs (v : View) (n : Nat) : Nat := v (ck n 0x08)
/-- WIN_LEN, samples. -/
def ctxWinLen (v : View) (n : Nat) : Nat := v (ck n 0x09)
/-- WL, ns: the window length over the ADC rate. -/
def ctxWl (v : View) (n : Nat) : Nat := ctxWinLen v n * ctxPeriodNs v n
/-- RING, ns. -/
def ctxRing (v : View) (n : Nat) : Nat := v (ck n 0x0A)
/-- TEMPLATE_LEN, samples. -/
def ctxTemplateLen (v : View) (n : Nat) : Nat := v (ck n 0x0F)
/-- RETRY_BUDGET. -/
def ctxBudget (v : View) (n : Nat) : Nat := v (ck n 0x18)

/-- E_i of Table 2.4. -/
def costE (v : View) (n : Nat) : Nat :=
  if ctxSequential v n then 8 * (2 * (ctxWs v n + ctxWl v n + 2000) + ctxRing v n)
  else 8 * (ctxWs v n + ctxWl v n + 2000)

/-- A tracking correlation of Table 2.4. -/
def costCor (v : View) (n : Nat) : Nat := cycles (2 * ((ctxTemplateLen v n * 129 + 31) / 32 + 64))

/-- The flow computation of Table 2.4 for P contexts. -/
def costFlow (p : Nat) : Nat := cycles (1600 + 350 * p)

/-- The worst-case discharge time in µs for a resistance in mΩ (R232). -/
def dischargeUs (v : View) (milliohm : Nat) : Nat :=
  (11 * milliohm * v (key 0x0B08 2) + 10 ^ 10 - 1) / 10 ^ 10

/-- The charge of a sensor job for the ports of a row (R231, R232): the reference and every port named. -/
def costSensor (v : View) (ports : Nat) : Nat :=
  us (dischargeUs v (v (key 0x0B08 1)) + 10) +
    (((List.range 4).filter (bitAt ports)).map fun n => us (dischargeUs v (v (key 0x0B03 (n + 1))) + 10)).sum

/-! ### Plan rows (Tables 2.2 and 2.3) -/

/-- A plan row, 0 to 63. -/
def planRow (v : View) (r : Nat) : Nat := v (key 0x0310 (r + 1))
/-- KIND. -/
def rowKind (w : Nat) : Nat := field w 31 28
/-- Whether the row runs in phase p. -/
def rowRuns (w p : Nat) : Bool := p % 2 ^ field w 27 24 == field w 23 16
/-- GROUP of a SHOT row. -/
def rowGroup (w : Nat) : Nat := field w 15 10
/-- RSV_RETRY of a SHOT row. -/
def rowRsv (w : Nat) : Nat := field w 9 8
/-- CONTEXT of a SHOT row. -/
def rowCtx (w : Nat) : Nat := field w 5 0

/-- Whether a row is well formed on its own (R53). -/
def rowOk (w : Nat) : Bool :=
  decide (rowKind w ≤ 6) && decide (field w 27 24 ≤ 8) && decide (field w 23 16 < 2 ^ field w 27 24) &&
  (match rowKind w with
   | 0 => true
   | 1 => field w 7 6 == 0
   | 2 => field w 15 4 == 0
   | 3 => field w 15 0 == 0
   | 4 => true
   | 5 => field w 15 4 == 0 && decide (1 ≤ field w 3 0) && decide (field w 3 0 ≤ 8)
   | _ => field w 15 4 == 0 && decide (1 ≤ field w 3 0))

/-- The rows, 0 to 63, of a kind that run in phase p. -/
def rowsRunning (v : View) (kind p : Nat) : List Nat :=
  (List.range 64).filter fun r => rowKind (planRow v r) == kind && rowRuns (planRow v r) p

/-- The rows of a kind in any phase. -/
def rowsOfKind (v : View) (kind : Nat) : List Nat := (List.range 64).filter fun r => rowKind (planRow v r) == kind

/-- The contexts the plan names (IN_PLAN of Table 4.6). -/
def planContexts (v : View) : List Nat := (rowsOfKind v 1).map fun r => rowCtx (planRow v r)

/-- D, the largest DIV in use (R54). -/
def planD (v : View) : Nat :=
  (((List.range 64).map (planRow v)).filter (fun w => rowKind w != 0)).foldl (fun m w => max m (field w 27 24)) 0

/-- The plan cycle (R54). -/
def planCycleOf (v : View) : Nat := 2 ^ planD v

/-- The groups that run in phase p, ascending, each with its rows. -/
def groupsRunning (v : View) (p : Nat) : List (Nat × List Nat) :=
  let rs := rowsRunning v 1 p
  ((List.range 64).map fun g => (g, rs.filter fun r => rowGroup (planRow v r) == g)).filter fun x => !x.2.isEmpty

/-- G_g (Table 2.4) of the contexts of a group. -/
def costGroup (v : View) (members : List Nat) : Nat := us 6 + members.foldl (fun m n => max m (costE v n)) 0

/-- The chains of a context, each with its WS. -/
def ctxChains (v : View) (n : Nat) : List (Nat × Nat) := [(ctxC0 v n, 8 * ctxWs v n), (ctxC1 v n, 8 * ctxWs v n)]

/-- R638: the context with the largest acquisition charge, the lowest-numbered of equals. -/
def acqContext (v : View) : Option Nat :=
  ((List.range 64).filter fun n => (planContexts v).contains n).foldl
    (fun best n => match best with
      | none => some n
      | some b => if costGroup v [b] + 16 * costCor v b < costGroup v [n] + 16 * costCor v n then some n else best) none

/-! ### Placement (R57) -/

/-- A shot to be placed: group, kind (0 first, 1 to 3 reserved retry, 4 acquisition), members, row for a report, its
length, the time of its correlations, and its chains with the WS on each. -/
structure Shot where
  group : Nat
  kind : Nat
  members : List Nat
  row : Nat
  len : Nat
  cor : Nat
  chains : List (Nat × Nat)
  deriving DecidableEq, Repr

/-- The shot of a group. -/
def groupShot (v : View) (g kind : Nat) (rows : List Nat) : Shot :=
  let ms := rows.map fun r => rowCtx (planRow v r)
  let first := rows.foldl (fun best r => if rowCtx (planRow v r) < rowCtx (planRow v best) then r else best)
    (rows.headD 0)
  { group := g, kind := kind, members := ms, row := first + 1, len := costGroup v ms,
    cor := (ms.map (costCor v)).sum, chains := ms.flatMap (ctxChains v) }

/-- The acquisition shot of a phase (R57, R638): it uses every chain that any SHOT row uses, with the smallest WS. -/
def acqShot (v : View) (row : Nat) : Shot :=
  let cs := planContexts v
  let ws := cs.foldl (fun m n => min m (8 * ctxWs v n)) (us 16000)
  match acqContext v with
  | none => { group := 64, kind := 4, members := [], row := row + 1, len := 0, cor := 0, chains := [] }
  | some n => { group := 64, kind := 4, members := [], row := row + 1, len := costGroup v [n], cor := 16 * costCor v n,
                chains := (cs.flatMap fun c => [ctxC0 v c, ctxC1 v c]).map fun c => (c, ws) }

/-- The shots of a phase in the order of R57. -/
def phaseShots (v : View) (p : Nat) : List Shot :=
  let gs := groupsRunning v p
  let retriesOf := fun (rs : List Nat) => rs.foldl (fun m r => max m (rowRsv (planRow v r))) 0
  (gs.map fun g => groupShot v g.1 0 g.2) ++
  ([1, 2, 3].flatMap fun r => (gs.filter fun g => decide (r ≤ retriesOf g.2)).map fun g => groupShot v g.1 r g.2) ++
  ((rowsRunning v 3 p).take 1).map (acqShot v)

/-- Where the placement of R57 stands: end of the shots, of the correlations, of those the flow computation waits for,
and of the last correlation on each chain. -/
structure Placement where
  ac : Nat
  cor : Nat
  corFlow : Nat
  done : List Nat
  deriving DecidableEq, Repr

/-- The start of a frame: the commit slot has passed (R52). -/
def Placement.start : Placement := { ac := us 60, cor := us 60, corFlow := us 60, done := List.replicate 16 0 }

/-- The start of a shot (R57, R58). -/
def shotStart (pl : Placement) (s : Shot) : Nat :=
  s.chains.foldl (fun m c => max m (natAt pl.done c.1 - us 6 - c.2)) pl.ac

/-- Place one shot. -/
def placeShot (pl : Placement) (s : Shot) : Placement :=
  let ac := shotStart pl s + s.len
  let cor := max pl.cor ac + s.cor
  { ac := ac, cor := cor, corFlow := if s.kind = 4 then pl.corFlow else cor,
    done := s.chains.foldl (fun d c => setAt d c.1 cor) pl.done }

/-- A job for the report of R64: its end, its row and its resource (Table 2.5). -/
abbrev Job := Nat × Nat × Nat

/-- Place shots in order, each with the placement after it and its jobs. -/
def placeShots : Placement → List Shot → Placement × List (Shot × Nat) × List Job
  | pl, [] => (pl, [], [])
  | pl, s :: ss =>
    let q := placeShot pl s
    let r := placeShots q ss
    (r.1, (s, shotStart pl s) :: r.2.1, (q.ac, s.row, 1) :: (q.cor, s.row, 3) :: r.2.2)

/-- The sensor, powerline and display charges of a phase in order, each with its row and resource. -/
def phaseReserves (v : View) (p : Nat) : List (Nat × Nat × Nat) :=
  (rowsRunning v 2 p).map (fun r => (costSensor v (field (planRow v r) 3 0), r + 1, 2)) ++
  (rowsRunning v 5 p).map (fun r => (field (planRow v r) 3 0 * (us (v (key 0x1900 3)) + us 40), r + 1, 7)) ++
  (rowsRunning v 6 p).map (fun r => (field (planRow v r) 3 0 * us 200, r + 1, 6))

/-- The ends of charges laid one after another from a time. -/
def layCharges : Nat → List (Nat × Nat × Nat) → Nat × List Job
  | t, [] => (t, [])
  | t, c :: cs => let r := layCharges (t + c.1) cs; (r.1, (t + c.1, c.2.1, c.2.2) :: r.2)

/-- A phase as placed: its end, its shots with their starts, the end of the flow computation, and its jobs in placement
order. -/
structure Phase where
  end_ : Nat
  acEnd : Nat
  corEnd : Nat
  done : List Nat
  shots : List (Shot × Nat)
  jobs : List Job
  deriving DecidableEq, Repr

/-- Place a phase (R57). -/
def placePhase (v : View) (p : Nat) : Phase :=
  let r := placeShots Placement.start (phaseShots v p)
  let l := layCharges r.1.ac (phaseReserves v p)
  let flow := r.1.corFlow + costFlow (rowsRunning v 1 p).length
  { end_ := max l.1 (max r.1.cor flow), acEnd := l.1, corEnd := r.1.cor, done := r.1.done, shots := r.2.1,
    jobs := r.2.2 ++ l.2 ++ [(flow, 0, 4)] }

/-- core(p) (R57). -/
def coreTime (v : View) (p : Nat) : Nat := ((rowsRunning v 4 p).map fun r => us (field (planRow v r) 15 0)).sum

/-! ### Validity and admission (R55, R59 to R65) -/

/-- The pins of a context. -/
def ctxPins (v : View) (n : Nat) : List Nat := [ctxPinA v n, ctxPinB v n]

/-- The fault of a SHOT row against the rows before it (R55): 1 invalid row, 2 pin or chain conflict, 3 group larger
than 8; 0 none. DEDUCED (log 12): of two rows that conflict, the later is the invalid one. -/
def rowFault (v : View) (r : Nat) : Nat :=
  let w := planRow v r
  if rowKind w ≠ 1 then 0
  else
    let before := (List.range r).filter fun q => rowKind (planRow v q) == 1
    let n := rowCtx w
    let mates := (before.filter fun q => rowGroup (planRow v q) == rowGroup w).map fun q => rowCtx (planRow v q)
    if !ctxDefined v n || before.any (fun q => rowCtx (planRow v q) == n) || decide (ctxBudget v n < rowRsv w) then 1
    else if 8 ≤ mates.length then 3
    else if mates.any (fun m => (ctxPins v m).any (ctxPins v n).contains ||
        [ctxC0 v m, ctxC1 v m].any [ctxC0 v n, ctxC1 v n].contains) then 2
    else 0

/-- What the ledger answers for a plan: admitted with its slack and worst phase, or refused with CODE, shortfall in
cycles and row. -/
inductive Verdict where
  | admitted (slack phase : Nat)
  | refused (code shortfall row : Nat)
  deriving DecidableEq, Repr

/-- Whether a verdict admits. -/
def Verdict.ok : Verdict → Bool
  | .admitted _ _ => true
  | .refused _ _ _ => false

/-- A time in whole cycles, parts of a cycle counting as one. -/
def toCycles (q : Nat) : Nat := (q + 124) / 125

/-- The first row that is invalid, in row order (R65). -/
def firstFault (v : View) : Option (Nat × Nat) :=
  ((List.range 64).map fun r => (r, rowFault v r)).find? fun x => x.2 != 0

/-- The check of one phase: end[p] before core(p) (R65). -/
def phaseCheck (v : View) (limit p : Nat) : Option Verdict :=
  let ph := placePhase v p
  if limit < ph.end_ then
    match ph.jobs.find? (fun j => decide (limit < j.1)) with
    | some j => some (.refused (j.2.2 * 4096 + p % 256) (toCycles (ph.end_ - limit)) j.2.1)
    | none => some (.refused (p % 256) (toCycles (ph.end_ - limit)) 0)
  else if limit - us 60 < coreTime v p then
    some (.refused (5 * 4096 + p % 256) (toCycles (coreTime v p - (limit - us 60))) ((rowsRunning v 4 p).headD 0 + 1))
  else none

/-- The phases from `p` up: the first failure, or the smallest slack and its phase, of equals the lowest (DESIGN CHOICE,
log 17). -/
def checkPhases (v : View) (limit : Nat) : Nat → Nat → Nat → Nat → Verdict
  | 0, _, slack, worst => .admitted slack worst
  | n + 1, p, slack, worst =>
    match phaseCheck v limit p with
    | some r => r
    | none =>
      let here := (limit - (placePhase v p).end_) / 125
      if here < slack then checkPhases v limit n (p + 1) here p else checkPhases v limit n (p + 1) slack worst

/-- The ledger's verdict on the plan of a view (R59 to R65). -/
def verdict (v : View) : Verdict :=
  match firstFault v with
  | some (r, f) => .refused (f * 256) 0 (r + 1)
  | none =>
    let limit := sevenEighths (v (key 0x0300 1))
    checkPhases v limit (planCycleOf v) 0 (2 ^ 32 - 1) 0

/-- The ledger's report after a compilation at a mode change (R60, R61, R64). -/
def Ledger.compiled (l : Ledger) (v : View) : Ledger :=
  match verdict v with
  | .admitted s p => { l with state := 1, minSlack := s, worstPhase := p % 256, planCycle := planCycleOf v }
  | .refused c sh r => { l with state := 2, refusal := c, shortfall := sh % 2 ^ 32, refusedRow := r }

/-- The ledger's report after a recompilation for a write in MEASURE or VERIFY (R62). -/
def Ledger.recompiled (l : Ledger) (v : View) : Ledger :=
  match verdict v with
  | .admitted s p => { l with minSlack := s, worstPhase := p % 256 }
  | .refused c sh r => { l with refusal := c, shortfall := sh % 2 ^ 32, refusedRow := r }

/-- LEDGER_REFUSED (EV1) of a verdict (R64). -/
def Verdict.event : Verdict → List Raised
  | .admitted _ _ => []
  | .refused c sh _ => [{ ev := 1, code := c, arg := sh % 2 ^ 32, src := 0x40, cls := 2 }]

/-! ### The frame's own plan -/

/-- The phase of a frame number. -/
def framePhase (v : View) (number : Nat) : Nat := number % planCycleOf v

/-- The powerline and display charges of a phase: the latest planned start of a shot is its start and these (R85). -/
def lateAllowance (v : View) (p : Nat) : Nat :=
  (((phaseReserves v p).filter fun c => c.2.2 != 2).map fun c => c.1).sum

/-- The fixed plan of TAPER (R63): context 0 alone, where it is defined. -/
def taperShots (v : View) : List Planned :=
  if ctxDefined v 0 then
    [{ group := 0, kind := 0, members := [0], start := us 60, latest := us 60, length := costGroup v [0] }] else []

/-- The shots planned for a frame (R57). -/
def plannedShots (v : View) (number : Nat) : List Planned :=
  let p := framePhase v number
  (placePhase v p).shots.map fun x =>
    { group := x.1.group, kind := x.1.kind, members := x.1.members, start := x.2,
      latest := x.2 + lateAllowance v p, length := x.1.len }

/-! ### Broken promises (R85 to R87) -/

/-- PROMISE_BROKEN (EV2) of Table 2.8. -/
def promiseBroken (stepNo cause job arg cls : Nat) : Raised :=
  { ev := 2, code := stepNo * 4096 + cause * 256 + job, arg := arg % 2 ^ 32, src := 0x40, cls := cls }

end Sys2Proof.Machine
end

