-- ==== Sys2Proof/Machine/Contexts.lean ====
section
/-! DEFINITION. Path contexts: the validity of a context (R92 to R123, R136), templates (R154), what an applied edit and
a start do to a context's runtime state (R162, R637), and its status (Table 4.6). -/

namespace Sys2Proof.Machine

open Sys2Proof

/-! ### Excitation and receive words (Tables 3.3, 3.4, 3.8) -/

/-- FREQ, Hz. -/
def ctxFreq (v : View) (n : Nat) : Nat := v (ck n 0x04)
/-- COUNT of the DRIVE word. -/
def drvCount (v : View) (n : Nat) : Nat := field (v (ck n 0x05)) 31 24
/-- CODE_SEL of the DRIVE word. -/
def drvCode (v : View) (n : Nat) : Nat := field (v (ck n 0x05)) 23 20
/-- CHIP_PERIODS of the DRIVE word. -/
def drvPeriods (v : View) (n : Nat) : Nat := field (v (ck n 0x05)) 19 18
/-- RETUNE of the DRIVE word. -/
def drvRetune (v : View) (n : Nat) : Bool := bitAt (v (ck n 0x05)) 17
/-- HD_LEVEL of the DRIVE word. -/
def drvLevel (v : View) (n : Nat) : Nat := field (v (ck n 0x05)) 15 8
/-- HALF_CYCLES of the DAMP word. -/
def dampHalf (v : View) (n : Nat) : Nat := field (v (ck n 0x06)) 15 12
/-- CLAMP_PERIODS of the DAMP word. -/
def dampClamp (v : View) (n : Nat) : Nat := field (v (ck n 0x06)) 5 0
/-- GAIN of the RX word. -/
def rxGain (v : View) (n : Nat) : Nat := field (v (ck n 0x07)) 31 24
/-- AGC of the RX word. -/
def rxAgc (v : View) (n : Nat) : Bool := bitAt (v (ck n 0x07)) 23
/-- B_OFFSET of the RX word, dB. -/
def rxBOffset (v : View) (n : Nat) : Int := signed 4 (field (v (ck n 0x07)) 19 16)

/-- The half-period of a frequency in 31.25 ps units (R93). -/
def halfPeriod (f : Rat) : Nat := (roundAway (quo (16 * 10 ^ 9) f)).toNat

/-- The realised frequency of a half-period, Hz (R93). -/
def realFreq (h : Nat) : Rat := quo (16 * 10 ^ 9) h

/-- T_tx in 1/32 of a nanosecond (R94) at the half-period h in use: the carrier period is h/16 ns. -/
def txTime (v : View) (n h : Nat) : Nat :=
  (2 * drvCount v n * (drvPeriods v n + 1) + dampHalf v n + 2 * dampClamp v n) * h

/-- Whether a pin is a high-drive pin (Table 3.1). -/
def highDrive (pin : Nat) : Bool := decide (pin < 8)

/-- How many of a context's pins are high-drive pins: 0 standard, 1 mixed, 2 high-drive (Table 3.6). -/
def pairKind (v : View) (n : Nat) : Nat := ((ctxPins v n).filter highDrive).length

/-- Whether a pin is enabled (R91). -/
def pinEnabled (v : View) (pin : Nat) : Bool := bitAt (v (key 0x0800 (pin + 1))) 0

/-- The pairing rules of Table 3.6 and R99, R101, R111 to R113. -/
def pairingOk (v : View) (n : Nat) : Bool :=
  match pairKind v n with
  | 0 => decide (1 ≤ drvCount v n) && decide (drvCount v n ≤ 32) && drvLevel v n == 0 && !drvRetune v n &&
      (drvCode v n != 0 || drvCount v n == 13)
  | 1 => decide (1 ≤ drvCount v n) && decide (drvCount v n ≤ 32) && drvCode v n == 1 && drvPeriods v n == 0 &&
      decide (4 ≤ drvLevel v n) && decide (drvLevel v n ≤ 64) && ctxSequential v n && !drvRetune v n
  | _ => decide (1 ≤ drvCount v n) && drvCode v n == 1 && drvPeriods v n == 0 && decide (4 ≤ drvLevel v n) &&
      decide (drvLevel v n ≤ 64) && ctxSequential v n

/-- HPF corner, Hz (Table 3.8); 6 and 7 are reserved. -/
def hpfHz (c : Nat) : Nat := [50000, 100000, 200000, 400000, 800000, 1600000].getD c 0
/-- LPF corner, Hz (Table 3.8); 5 to 7 are reserved. -/
def lpfHz (c : Nat) : Nat := [500000, 1000000, 2000000, 4000000, 8000000].getD c 0

/-- The reserved codes and fields of the DRIVE word (Table 3.3). -/
def driveWordOk (w : Nat) : Bool :=
  !bitAt w 16 && field w 7 0 == 0 && decide (1 ≤ field w 31 24) &&
    (field w 15 8 == 0 || (decide (4 ≤ field w 15 8) && decide (field w 15 8 ≤ 64)))

/-- The reserved codes and fields of the DAMP word (Table 3.4). -/
def dampWordOk (w : Nat) : Bool := field w 8 6 == 0 && decide (field w 15 12 ≤ 8)

/-- The reserved codes and fields of the RX word (Table 3.8). -/
def rxWordOk (w : Nat) : Bool :=
  field w 22 20 == 0 && decide (field w 31 24 ≤ 132) && decide (field w 13 11 ≤ 5) && decide (field w 10 8 ≤ 4) &&
    field w 7 0 != 0

/-- The conditions of R123 that join the RX word to the frequency and the window. -/
def rxFits (v : View) (n : Nat) : Bool :=
  let w := v (ck n 0x07)
  let rate := 10 ^ 9 / ctxPeriodNs v n
  decide (2 * hpfHz (field w 13 11) ≤ ctxFreq v n) && decide (2 * ctxFreq v n ≤ lpfHz (field w 10 8)) &&
    decide (10 * lpfHz (field w 10 8) ≤ 4 * rate) && decide (ctxWinLen v n ≤ 2048)

/-- The range of one subindex of a context (Table 4.1), taken alone. -/
def ctxFieldOk (sub w : Nat) : Bool :=
  let within := fun (a b : Nat) => decide (a ≤ w) && decide (w ≤ b)
  match sub with
  | 0x01 => within 0 7
  | 0x02 => field w 15 13 == 0 && field w 7 5 == 0
  | 0x04 => within 100000 4000000
  | 0x05 => driveWordOk w
  | 0x06 => dampWordOk w
  | 0x07 => rxWordOk w
  | 0x08 => within 2000 16000000
  | 0x09 => within 16 2048
  | 0x0A => within 0 16000000
  | 0x0B => within 1 20000000
  | 0x0C => within 0 20000000
  | 0x0F => within 32 512 && w % 32 == 0
  | 0x12 => within 1 127
  | 0x13 => within 16 255
  | 0x15 => within 2 32
  | 0x17 => within 0 1
  | 0x18 => within 0 3
  | 0x19 => within 1 65535
  | 0x1F => within 0 4096
  | _ => true

/-- The sum of TEMPLATE_LEN over the defined contexts (R154). -/
def templateSum (v : View) : Nat :=
  (((List.range 64).filter (ctxDefined v)).map (ctxTemplateLen v)).sum

/-- The firing style's conditions (R119, R120, R136); T_tx is in 1/32 ns, at f_real of R93. -/
def styleOk (v : View) (n : Nat) : Bool :=
  let tx := txTime v n (halfPeriod (ctxFreq v n))
  if ctxSequential v n then
    decide (2000 ≤ ctxWs v n) && decide (tx + 64000 ≤ 32 * (ctxWs v n + ctxWl v n + 2000 + ctxRing v n))
  else ctxRing v n == 0 && decide (tx + 64000 ≤ 32 * ctxWs v n)

/-- Whether a defined context is valid (R136, R92, R95, R153). -/
def ctxValid (v : View) (n : Nat) : Bool :=
  ((List.range 0x1B).all fun i => i == 0 || ctxFieldOk i (v (ck n i))) &&
  (ctxPins v n).all (pinEnabled v) && ctxPinA v n != ctxPinB v n && ctxC0 v n != ctxC1 v n &&
  pairingOk v n && rxFits v n && styleOk v n &&
  decide (ctxTemplateLen v n + 128 ≤ ctxWinLen v n) && decide (templateSum v ≤ 16384) &&
  decide (ctxWs v n + ctxWl v n ≤ 16000000) && v (ck n 0x0B) != 0 && decide (v (ck n 0x0C) ≤ v (ck n 0x0B)) &&
  decide (v (ck n 0x11) < 65536 * ctxTemplateLen v n)

/-- A context passes when it is not defined or is valid. -/
def ctxPasses (v : View) (n : Nat) : Bool := !ctxDefined v n || ctxValid v n

/-! ### Templates (R154) -/

/-- Samples of a TEMPLATE value. -/
def templateSamples (w len : Nat) : List Int := (List.range len).map fun j => signed 16 (w / 2 ^ (16 * j) % 65536)

/-- The TEMPLATE value of samples. -/
def templateValue (xs : List Int) : Nat := ofLe (xs.flatMap fun x => leBytes 2 (unsigned 16 x))

/-- The largest absolute value of a list. -/
def maxAbs (xs : List Int) : Nat := xs.foldl (fun m x => max m x.natAbs) 0

/-- What the template store keeps and a read returns (R154): the samples at 8 bits, 128 × s_j. -/
def storedTemplate (w len : Nat) : Nat :=
  let xs := templateSamples w len
  let big := maxAbs xs
  templateValue (xs.map fun x => if big = 0 then 0 else 128 * roundAway ((127 * x : Int) / (big : Rat)))

/-! ### Edits and starts -/

/-- Whether a change of a subindex requests an acquisition (R152); for CTX_CONTROL it is the change of STYLE, and the
definition of the context. -/
def requestsAcq (sub old new : Nat) : Bool :=
  if sub = 0x01 then bitAt old 1 != bitAt new 1 || (!bitAt old 0 && bitAt new 0)
  else old != new && [0x02, 0x03, 0x04, 0x05, 0x06, 0x07, 0x08, 0x09, 0x0F, 0x10, 0x11].contains sub

/-- What an edit of a subindex does to the runtime state as it takes effect (R110, R111, R122, R126, R155, R162, R163). -/
def Ctx.edited (v : View) (n sub old new : Nat) (c : Ctx) : Ctx :=
  { c with
    g := rxGain v n, m := 0
    h := if sub = 0x04 ∨ pairKind v n = 0 then halfPeriod (ctxFreq v n) else c.h
    dtRef := none
    acqRequested := c.acqRequested || requestsAcq sub old new
    scores := [], driftArmed := true
    zeroStatus := if c.zeroStatus = 1 then 3 else c.zeroStatus }

/-- The runtime state of a context at a start (R637, R158); the three counters continue from their stored values. -/
def Ctx.started (v : View) (n : Nat) (c : Ctx) : Ctx :=
  { Ctx.reset with
    g := rxGain v n, h := halfPeriod (ctxFreq v n), shots := c.kept.1, retries := c.kept.2.1, substs := c.kept.2.2,
    kept := c.kept }

/-- A context of the acoustic blocks. -/
def Acoustic.ctxAt (a : Acoustic) (n : Nat) : Ctx := a.ctx.getD n Ctx.reset

/-- Change a context. -/
def Acoustic.modCtx (a : Acoustic) (n : Nat) (f : Ctx → Ctx) : Acoustic := { a with ctx := modAt a.ctx n f }

/-- ACQUIRED of Table 4.6. -/
def Ctx.acquired (c : Ctx) : Bool := c.everFound && !c.acqRequested

/-- CTX_STATUS (Table 4.6). -/
def Ctx.status (c : Ctx) : Nat :=
  min 65535 c.invalidRun * 65536 + c.lastReason * 4096 + flagAt (!c.staged.isEmpty) 4 + flagAt c.lost 3 +
    flagAt c.acquiredShown 2 + flagAt c.validLast 1 + flag c.inPlanShown

/-- The gain of a direction: the down direction is received at B (R126). -/
def dirGain (v : View) (n g : Nat) (up : Bool) : Nat :=
  if up then g else (max 0 (min 132 ((g : Int) + 2 * rxBOffset v n))).toNat

/-- The chain that carries a direction in a frame (R121). -/
def dirChain (v : View) (n frame : Nat) (up : Bool) : Nat :=
  if up == (frame % 2 == 0) then ctxC0 v n else ctxC1 v n

/-- An edit of a subindex of a path context takes effect (R162, R163, R190): the value in force and the runtime state, and a
template capture of the context fails. -/
def State.forceCtx (k : Key) (value : Nat) (s : State) : State :=
  let n := keyIndex k - 0x0900
  let sub := keySub k
  let v1 : View := View.with s.eff k value
  { s with
    set := s.set.force k value
    ac := { s.ac.modCtx n (Ctx.edited v1 n sub (s.eff k) value) with
            capture := if s.ac.capture.status = 1 ∧ s.ac.capture.ctx = n then { s.ac.capture with status := 3 }
              else s.ac.capture } }

/-- A stored write takes effect: an edit of a path context under R162, any other by its value alone. -/
def State.force (k : Key) (value : Nat) (s : State) : State :=
  if 0x0900 ≤ keyIndex k ∧ keyIndex k ≤ 0x093F then s.forceCtx k value
  else { s with set := s.set.force k value }

/-- The edits due at a boundary take effect in the order of their acceptance (R162, R163, R462). -/
def State.applyEdits (even : Bool) (s : State) : State :=
  let now := fun (e : Edit) => decide (e.due = .boundary) || (even && decide (e.due = .evenBoundary))
  let due := s.set.edits.filter now
  let rest := s.set.edits.filter fun e => !now e
  due.foldl (fun acc e => acc.force e.key e.value) { s with set := { s.set with edits := rest } }

end Sys2Proof.Machine
end

