-- ==== Sys2Proof/Machine/Tdc.lean ====
section
/-! DEFINITION. Time measurement (Chapter 5): calibration, stamps, the regression, the correlator, interpolation, fusion
and the gates of Table 4.4, as functions of one direction's data. -/

namespace Sys2Proof.Machine

open Sys2Proof

/-! ### Calibration and stamps (R168 to R178) -/

/-- A calibration is sound (R170). -/
def calSound (r1 r2 : Nat) : Bool := decide (r1 + 448 ≤ r2) && decide (r2 ≤ r1 + 576)

/-- The readings that stand after a calibration, its repeat included, whether it is faulty, how many calibrations ran
and how many were not sound (R169, R170). -/
def calOutcome (c : CalReading) : (Nat × Nat) × Bool × Nat × Nat :=
  if calSound c.r1 c.r2 then ((c.r1, c.r2), false, 1, 0)
  else match c.again with
    | none => ((c.r1, c.r2), true, 1, 1)
    | some (a, b) => if calSound a b then ((a, b), false, 2, 1) else ((a, b), true, 2, 2)

/-- What a calibration does to the TDC's state (R169, R170): the readings, TDC_CAL_GAIN, the fault mark and CAL_FAULTS. -/
def Acoustic.calibrate (c : CalReading) (a : Acoustic) : Acoustic :=
  let o := calOutcome c
  { a with
    calR := setAt a.calR c.input o.1
    calGain := setAt a.calGain c.input (o.1.2 - o.1.1)
    calFaulty := if o.2.1 then (if a.calFaulty.contains c.input then a.calFaulty else a.calFaulty ++ [c.input])
      else a.calFaulty.filter fun i => i != c.input
    calFaults := if o.2.1 then satInc (2 ^ 32 - 1) a.calFaults else a.calFaults }

/-- The time of a stamp from its start, TU (R168). -/
def stampTime (r1 r2 : Nat) (stop : Nat × Nat) : Int :=
  65536 * (stop.1 : Int) -
    roundAway (quo (65536 * (((16 * stop.2 : Nat) : Int) - (r1 : Int) : Int)) (((r2 : Int) - (r1 : Int) : Int)))

/-- The stamps of a measurement, judged one after another (R175 to R177). -/
structure Stamping where
  usable : List Nat       -- oldest first
  last : Int              -- the event the next stamp is judged against
  seen : Nat
  close : Nat
  order : Nat
  firstLost : Bool
  early : Nat             -- by how much the first discarded stamp came before its predecessor, TU
  deriving DecidableEq, Repr

/-- Judge one stamp: an order error is discarded, a close stamp is flagged, any other is usable. -/
def Stamping.step (r1 r2 : Nat) (st : Stamping) (stop : Nat × Nat) : Stamping :=
  let t := stampTime r1 r2 stop
  if t < st.last then
    { st with seen := st.seen + 1, order := st.order + 1, firstLost := st.firstLost || st.seen == 0,
              early := if st.order = 0 then (st.last - t).toNat else st.early }
  else if t - st.last < 131072 then { st with seen := st.seen + 1, close := st.close + 1, last := t }
  else { st with seen := st.seen + 1, usable := st.usable ++ [t.toNat], last := t }

/-- The comparator at one crossing (R125, Table 3.8): armed or not afterwards, and whether the crossing stamps. It stamps on
COMP in the sense of its sign, and is armed again once the signal has crossed back by 1/256 of full scale. -/
def comparatorStep (comp : Int) (armed : Bool) (c : Crossing) : Bool × Bool :=
  let up := decide (0 < comp)
  let back := if up then 2 * comp - 1 else 2 * comp + 1
  if armed && c.level == 2 * comp && c.rising == up then (false, true)
  else (armed || (c.level == back && c.rising != up), false)

/-- The stops that the comparator makes of the crossings of its window. -/
def comparatorStops (comp : Int) : Bool → List Crossing → List (Nat × Nat)
  | _, [] => []
  | armed, c :: cs =>
    let r := comparatorStep comp armed c
    (if r.2 then [(c.coarse, c.raw)] else []) ++ comparatorStops comp r.1 cs

/-- COMP of the RX word. -/
def ctxComp (v : View) (n : Nat) : Int := signed 8 (field (v (ck n 0x07)) 7 0)

/-- INVERT of a pin (Table 3.2). -/
def pinInvert (v : View) (pin : Nat) : Bool := bitAt (v (key 0x0800 (pin + 1))) 1

/-- The pin that receives a direction: A receives up (R121). -/
def rxPin (v : View) (n : Nat) (up : Bool) : Nat := if up then ctxPinA v n else ctxPinB v n

/-- A sample of the 12-bit converter (R22). -/
def adcSample (x : Int) : Int := max (-2048) (min 2047 x)

/-- A pin with INVERT set gives its chain the signal with the opposite sign (R91). -/
def WindowMeas.inverted (m : WindowMeas) : WindowMeas :=
  { m with
    samples := m.samples.map fun x => adcSample (-x)
    crossings := m.crossings.map fun c => { c with level := -c.level, rising := !c.rising } }

/-- The crossings between the coarse edge on which a window opens and, not included, the one on which it closes (R175). -/
def inWindow (v : View) (n : Nat) (cs : List Crossing) : List Crossing :=
  cs.filter fun c => decide (ctxWs v n ≤ c.coarse) && decide (c.coarse < ctxWs v n + ctxWl v n)

/-- The stops of a direction's window: the comparator is armed when the window opens (R125). -/
def windowStops (v : View) (n : Nat) (cs : List Crossing) : List (Nat × Nat) :=
  comparatorStops (ctxComp v n) true (inWindow v n cs)

/-- The stamps of a measurement from its start; at most 32 are taken (R175). -/
def stampAll (r1 r2 : Nat) (stops : List (Nat × Nat)) : Stamping :=
  (stops.take 32).foldl (Stamping.step r1 r2)
    { usable := [], last := 0, seen := 0, close := 0, order := 0, firstLost := false, early := 0 }

/-! ### The regression (R179 to R181) -/

/-- Assign cycle indices to the stamps after the first (R179): the kept pairs of index and stamp. -/
def indexStamps (pNom : Rat) : Nat → Rat → List Rat → List (Nat × Rat)
  | _, _, [] => []
  | nPrev, prev, s :: ss =>
    let k := roundAway (quo (s - prev) pNom)
    let e := (s - prev) - (k : Rat) * pNom
    if k < 1 ∨ pNom / 4 < (if e < 0 then -e else e) then indexStamps pNom nPrev prev ss
    else (nPrev + k.toNat, s) :: indexStamps pNom (nPrev + k.toNat) s ss

/-- The kept stamps of a gate with their indices. -/
def keptStamps (pNom : Rat) : List Rat → List (Nat × Rat)
  | [] => []
  | s :: ss => (0, s) :: indexStamps pNom 0 s ss

/-- The means of the indices and of the stamps. -/
def meansOf (ks : List (Nat × Rat)) : Rat × Rat :=
  let n : Rat := ((ks.length : Nat) : Rat)
  (quo (sumR (ks.map fun k => ((k.1 : Nat) : Rat))) n, quo (sumR (ks.map fun k => k.2)) n)

/-- Numerator and denominator of the slope of one segment about its own means (R179, R181). -/
def slopeParts (ks : List (Nat × Rat)) : Rat × Rat :=
  let m := meansOf ks
  (sumR (ks.map fun k => (((k.1 : Nat) : Rat) - m.1) * (k.2 - m.2)),
   sumR (ks.map fun k => (((k.1 : Nat) : Rat) - m.1) * (((k.1 : Nat) : Rat) - m.1)))

/-- The regression of one gate of one segment: period and time of cycle 0, if two stamps are kept (R179, R180). -/
def regress (pNom : Rat) (stamps : List Rat) : Option (Rat × Rat) :=
  let ks := keptStamps pNom stamps
  if ks.length < 2 then none
  else
    let p := quo (slopeParts ks).1 (slopeParts ks).2
    some (p, (meansOf ks).2 - p * (meansOf ks).1)

/-- The pooled period over segments, with the number of kept stamps (R181). -/
def regressPooled (pNom : Rat) (segments : List (List Rat)) : Option Rat × Nat :=
  let kss := segments.map (keptStamps pNom)
  let num := sumR (kss.map fun ks => (slopeParts ks).1)
  let den := sumR (kss.map fun ks => (slopeParts ks).2)
  (if den = 0 then none else some (quo num den), (kss.map fun ks => ks.length).sum)

/-- A stop enters the segment of the gate timebase that runs (R181): its 40-bit coarse count is taken as the next one after
that of the stop before. -/
def GateSeg.add (g : GateSeg) (stop : Nat × Nat) : GateSeg :=
  let c := stop.1 % 2 ^ 40 + (g.edges + 2 ^ 40 - 1 - stop.1 % 2 ^ 40) / 2 ^ 40 * 2 ^ 40
  { g with stamps := g.stamps ++ [stampTime g.r1 g.r2 (c, stop.2)], edges := c }

/-- A segment begins as TM is switched on; its input is yet to be calibrated (R169, R181). -/
def GateSeg.fresh : GateSeg := { stamps := [], edges := 0, r1 := 0, r2 := 0 }

/-- The stops of an input since its last calibration, converted with the readings then in force. They belong to the newest
segment that has been calibrated. -/
def gateStops (stops : List (Nat × Nat)) : List GateSeg → List GateSeg
  | [] => []
  | g :: gs => if g.r2 = 0 then g :: gateStops stops gs else stops.foldl GateSeg.add g :: gs

/-- A calibration of the input applies from here on to the segment that runs. -/
def gateCal (r : Nat × Nat) : List GateSeg → List GateSeg
  | [] => [{ GateSeg.fresh with r1 := r.1, r2 := r.2 }]
  | g :: gs => { g with r1 := r.1, r2 := r.2 } :: gs

/-- TM has been switched off: what comes after it is another segment. -/
def gateCut : List GateSeg → List GateSeg
  | [] => [GateSeg.fresh]
  | g :: gs => if g.r2 = 0 then g :: gs else GateSeg.fresh :: g :: gs

/-- The segments as stamps for the regression, oldest first. -/
def gateStamps (gs : List GateSeg) : List (List Rat) := gs.reverse.map fun g => g.stamps.map fun t => ((t : Int) : Rat)

/-- A new gate begins inside the segment that runs. -/
def gateNext (gs : List GateSeg) : List GateSeg := (gs.take 1).map fun g => { g with stamps := [] }

/-- The segments cut to their last n stamps. -/
def gateLast : Nat → List GateSeg → List GateSeg
  | _, [] => []
  | n, g :: gs =>
    { g with stamps := g.stamps.drop (g.stamps.length - n) } ::
      (if n ≤ g.stamps.length then [] else gateLast (n - g.stamps.length) gs)

/-- The nominal carrier period of a half-period h, TU: 65 536 × h/16 (Table 5.3). -/
def carrierTu (h : Nat) : Rat := 4096 * (h : Rat)

/-! ### The correlator (R183 to R187) -/

/-- The sample of a list at a place, 0 outside. -/
def sampleAt (xs : List Int) (i : Nat) : Int := xs.getD i 0

/-- The inner product of two sample lists. -/
def dot : List Int → List Int → Int
  | a :: as, b :: bs => a * b + dot as bs
  | _, _ => 0

/-- c(l) of R183. -/
def correl (w x : List Int) (l : Nat) : Int := dot w (x.drop l)

/-- The lags of a search from `first` to `last`, inside 0 to N - L (R184, R185). -/
def searchLags (n len : Nat) (first last : Int) : List Nat :=
  (List.range (n - len + 1)).filter fun l => decide (first ≤ (l : Int)) && decide ((l : Int) ≤ last) && decide (len ≤ n)

/-- A local maximum of a search over lags in order (R186): the lag with its c and its neighbours'. -/
def localMaxima : List (Nat × Int) → List (Nat × Int × Int × Int)
  | (_, a) :: (l, b) :: (m, c) :: rest =>
    (if a < b ∧ c ≤ b then [(l, a, b, c)] else []) ++ localMaxima ((l, b) :: (m, c) :: rest)
  | _ => []

/-- The peak with the largest c, the earliest of equals. -/
def mainPeak (ps : List (Nat × Int × Int × Int)) : Option (Nat × Int × Int × Int) :=
  ps.foldl (fun best p => match best with
    | none => some p
    | some b => if b.2.2.1 < p.2.2.1 then some p else best) none

/-- The lag with the largest c of a search, the earliest of equals. -/
def bestLag (cs : List (Nat × Int)) : Option Nat :=
  (cs.foldl (fun (best : Option (Nat × Int)) p => match best with
    | none => some p
    | some b => if b.2 < p.2 then some p else best) none).map fun b => b.1

/-- The normalised correlation at a lag in Q1.15 (R186): negative values read zero, and it saturates at 0x7FFF.
DEDUCED (log 13): it is rounded to nearest. -/
def rho (w x : List Int) (l : Nat) (c : Int) : Nat :=
  let ex := dot ((x.drop l).take w.length) ((x.drop l).take w.length)
  (max 0 (min 0x7FFF (roundAway (quo (32768 * (c : Rat)) (root ((dot w w * ex : Int) : Rat)))))).toNat

/-- d_q of R187. -/
def subSample (cm c0 cp : Int) : Int :=
  let q : Rat := quo (cm + cp : Int) (2 * c0 : Int)
  let d : Rat :=
    if -1 < q ∧ q < 1 then
      quo (atanR (quo (cp - cm : Int) ((2 * c0 : Int) * sqrtR (1 - q * q)))) (acosR q)
    else quo (cp - cm : Int) (2 * (2 * c0 - cm - cp) : Int)
  roundAway ((max (-1 / 2) (min (1 / 2) d)) * 65536)

/-- The ratio of the main peak to the largest other, in 1/16, saturating at 255 (Table 5.7). -/
def peakRatio (main : Int) (other : Option Int) : Nat :=
  match other with
  | none => 255
  | some o => if o ≤ 0 then 255 else (max 0 (min 255 (16 * main / o))).toNat

/-! ### One direction -/

/-- What the correlation and fusion of a direction need: settings of the context, its half-period, the frame's scale
correction, and whether fusion may pass at all (R178, R195, R214, R215). -/
structure FuseIn where
  ws : Nat
  period : Nat            -- D, ns
  template : List Int
  anchor : Nat            -- TEMPLATE_ANCHOR, Q16.16
  gateMatch : Nat
  gateRatio : Nat
  tol : Nat
  span : Nat
  h : Nat
  scale : Option Int      -- K where R194 applies it
  blocked : Bool
  deriving DecidableEq, Repr

/-- R194: a time corrected by K. -/
def scaled (k : Option Int) (t : Int) : Int :=
  match k with
  | none => t
  | some k => t + roundAway (quo ((t * k : Int) : Rat) (2 ^ 32))

/-- R194: a frequency corrected in the same proportion as the period it comes from. DEDUCED (log 13). -/
def scaledFreq (k : Option Int) (p : Rat) : Rat :=
  match k with
  | none => quo (65536 * 10 ^ 9) p
  | some k => quo (65536 * 10 ^ 9) (p * (1 + quo (k : Rat) (2 ^ 32)))

/-- Close a window: amplitude, saturation, stamps, regression and the early gates in the order of Table 4.4. -/
def DirRun.close_ (v : View) (n h frameCyc : Nat) (scale : Option Int) (m : WindowMeas) (d : DirRun) :
    DirRun × Stamping :=
  let st := stampAll d.r1 d.r2 (windowStops v n m.crossings)
  let amp := maxAbs m.samples
  let sat := m.overload || m.samples.any fun x => x ≤ -2048 || 2047 ≤ x
  let fit := if d.faulty then none else regress (carrierTu h) (st.usable.map fun t => ((t : Nat) : Rat))
  let missing := d.missing || st.seen == 0
  let reason :=
    if missing then 5
    else if sat && !bitAt (v (ck n 0x17)) 0 then 4
    else if amp < 16 * v (ck n 0x12) then 1
    else if st.usable.length < v (ck n 0x15) then 6
    else 0
  ({ d with
     closed := true, closedAt := frameCyc, amp := min 2048 amp, sat := sat, stamps := st.usable, close := st.close,
     order := st.order, firstLost := st.firstLost, missing := missing, fitted := fit.isSome,
     period := (fit.map fun f => f.1).getD 0, anchor := (fit.map fun f => f.2).getD 0,
     freq := (fit.map fun f => (roundAway (100 * scaledFreq scale f.1)).toNat % 2 ^ 32).getD 0
     fmeas := (fit.map fun f => scaledFreq scale f.1).getD 0, reason := reason
     value := if reason = 1 then amp / 16 else if reason = 6 then st.usable.length else 0 }, st)

/-- Choose the candidate whose anchor time lies nearest, the earlier of equals (R191). -/
def nearest (a : Rat) : List (Nat × Int × Rat) → Option (Nat × Int × Rat)
  | [] => none
  | c :: cs =>
    match nearest a cs with
    | none => some c
    | some b =>
      let dc := if c.2.2 < a then a - c.2.2 else c.2.2 - a
      let db := if b.2.2 < a then a - b.2.2 else b.2.2 - a
      if db < dc then some b else some c

/-- Correlate a direction that passed its early gates over the lags of a search, and decide the late gates in the order
of Table 4.4 (R184 to R194). -/
def DirRun.correlate (f : FuseIn) (capture : List Int) (lags : List Nat) (d : DirRun) : DirRun :=
  let len := f.template.length
  let cs := lags.map fun l => (l, correl f.template capture l)
  let peaks := localMaxima cs
  let best := bestLag cs
  let edge := best == lags.head? || best == lags.getLast?
  match mainPeak peaks with
  | none => { d with correlated := true, reason := 7, value := 0 }
  | some (l, a, b, c) =>
    let r := rho f.template capture l b
    let others := peaks.filter fun p => p.1 != l
    let other := (mainPeak others).map fun p => p.2.2.1
    let ratio := peakRatio b other
    let d1 := { d with correlated := true, hasPeak := true, matchQ := r, ratio := ratio }
    if edge || decide (l < 64) || decide (capture.length < l + len + 64) then { d1 with reason := 7, value := 0 }
    else if r < f.gateMatch then { d1 with reason := 3, value := r }
    else if (match other with | none => false | some o => decide (16 * b < f.gateRatio * o)) then
      { d1 with reason := 2, value := ratio }
    else
      let spanS := quo ((f.span * f.h : Nat) : Rat) ((16 * f.period : Nat) : Rat)
      let near := (l, a, b, c) :: others.filter fun p =>
        decide (((((p.1 : Int) - (l : Int)).natAbs : Nat) : Rat) ≤ spanS)
      let cands := near.map fun p =>
        let dq := subSample p.2.1 p.2.2.1 p.2.2.2
        (p.1, dq, (((65536 * (f.ws : Int) + ((p.1 : Int) * 65536 + dq + (f.anchor : Int)) * (f.period : Int)) : Int) : Rat))
      let ordered := (List.range (capture.length + 1)).flatMap fun i => cands.filter fun q => q.1 == i
      if f.blocked || !d.fitted || d.firstLost || d.faulty || d.lockLost then { d1 with reason := 8, value := 0 }
      else match nearest d.anchor ordered with
        | none => { d1 with reason := 8, value := 0 }
        | some (lj, dq, ta) =>
          let res := ta - d.anchor
          let tol := quo ((f.tol : Rat) * carrierTu f.h) 256
          let rj := rho f.template capture lj (correl f.template capture lj)
          let t := scaled f.scale (65536 * ((f.ws : Int) + (lj : Int) * (f.period : Int)) + dq * (f.period : Int))
          let d2 := { d1 with chosen := true, lag := lj, fuse := roundAway res }
          if (if res < 0 then -res else res) ≤ tol ∧ f.gateMatch ≤ rj then
            { d2 with hasTime := true, time := t.toNat % 2 ^ 48, reason := 0, value := 0 }
          else { d2 with reason := 8, value := 0 }

/-! ### One attempt -/

/-- The place of a reason in the order of Table 4.4. -/
def reasonRank (r : Nat) : Nat := [99, 2, 6, 5, 1, 0, 3, 4, 7, 8, 9, 10].getD r 99

/-- Whether a reason is one Table 4.4 retries. -/
def reasonRetried (r : Nat) : Bool := [1, 2, 3, 5, 6, 7, 8, 9].contains r

/-- A direction is settled when it failed an early gate or its correlation has completed. -/
def DirRun.settled (d : DirRun) : Bool := d.closed && (d.reason != 0 || d.correlated)

/-- The reason and value of R146 for two directions: the first in the order of Table 4.4; of equals the down direction's
value. SAT has no value, and is reported with 0 (DESIGN CHOICE, log 25). -/
def attemptReason (up dn : DirRun) : Nat × Nat :=
  if up.reason = 0 then (dn.reason, dn.value)
  else if dn.reason = 0 then (up.reason, up.value)
  else if reasonRank up.reason < reasonRank dn.reason then (up.reason, up.value)
  else (dn.reason, dn.value)

/-- Decide an attempt whose directions are both settled: Δt (R193), the DT_JUMP gate (R140) and NOT_ACQUIRED (R152). -/
def Attempt.judge (gateJump : Nat) (dtRef : Option Int) (notAcquired : Bool) (a : Attempt) : Attempt :=
  let both := a.up.reason == 0 && a.dn.reason == 0
  let dt := (a.up.time : Int) - (a.dn.time : Int)
  let formed := both && decide (-(2 ^ 31) ≤ dt) && decide (dt < 2 ^ 31)
  let up := if both && !formed then { a.up with reason := 8, value := 0, hasTime := false } else a.up
  let dn := if both && !formed then { a.dn with reason := 8, value := 0, hasTime := false } else a.dn
  let jump := match dtRef with
    | none => 0
    | some r => (dt - r).natAbs
  let jumped := formed && gateJump != 0 && dtRef.isSome && Nat.blt gateJump jump
  let r := if notAcquired then (10, 0) else if jumped then (9, jump) else attemptReason up dn
  { a with up := up, dn := dn, decided := true, valid := formed && !jumped && !notAcquired, reason := r.1, value := r.2,
           hasDt := formed, dt := if formed then dt else 0 }

end Sys2Proof.Machine
end

