-- ==== Sys2Proof/Machine/Mains.lean ====
section
/-! DEFINITION. What the ledger and the powerline crossing tracker give the rest of the block: the frame's period and limit
(R52), the fit of the mains crossings (R502), the blocks that powerline pulses make (R524), and the room that an admitted
transmission sets aside (R525). -/

namespace Sys2Proof.Machine

open Sys2Proof

/-- The device measures: a frame runs in MEASURE, VERIFY or TAPER. -/
def State.measuring (s : State) : Bool := s.frame.running && decide (s.mode ≠ .config)

/-- The period T in force: FRAME_TICKS, or 32 768 in TAPER (Table 12.8). -/
def State.period (s : State) : Nat := if s.mode = .taper then 32768 else s.on_ 0x0300 1

/-- E_k of the present frame, in eighths of a nanosecond (R52). -/
def State.limit (s : State) : Nat := closingLimit s.period s.frame.length

/-! ### The fit of the mains crossings (R502) -/

/-- P_m of PL_CONFIG MAINS in units of the 1.048 576 MHz counter (R502). -/
def State.mainsPeriod (s : State) : Rat := if bitAt (s.on_ 0x1900 1) 5 then quo 1048576 60 else quo 1048576 50

/-- The accepted crossings of a polarity. -/
def Powerline.crossings (p : Powerline) (rising : Bool) : List Nat := if rising then p.rising else p.falling

/-- The fitted line of a polarity: its period, its time at index 0 and the index of the last accepted crossing, from the
third accepted crossing on. A fresh period of TDC input 18 replaces the slope. -/
def State.zcLine (s : State) (rising : Bool) : Option (Rat × Rat × Nat) :=
  let xs := (s.pl.crossings rising).map fun x => ((x : Nat) : Rat)
  let ks := keptStamps s.mainsPeriod xs
  let last := (ks.getLast?.map Prod.fst).getD 0
  if xs.length < 3 then none
  else match regress s.mainsPeriod xs with
    | none => none
    | some (p, a) =>
      match s.pl.period18 with
      | some q =>
        if s.frame.number ≤ q.2 + 16 then some (q.1, (meansOf ks).2 - q.1 * (meansOf ks).1, last) else some (p, a, last)
      | none => some (p, a, last)

/-- The period of the rising fit in use, counter units (R502, R503). -/
def State.zcPeriod (s : State) : Option Rat := (s.zcLine true).map fun l => l.1

/-- The first crossing that a line predicts after a time. -/
def crossingAfter (period anchor t : Rat) : Rat := anchor + period * (((quo (t - anchor) period).floor + 1 : Int) : Rat)

/-- A time of the crossing counter in eighths of a ledger cycle: 15 625 to 32 units. -/
def unitsToNow (u : Rat) : Nat := (u * quo 15625 32).floor.toNat

/-! ### Blocks of the pulses (R524) -/

/-- Eighths of a ledger cycle in a number of microseconds. -/
def usNow (n : Nat) : Nat := 512 * n

/-- The predicted start of the next pulse of the admitted transmission. -/
def State.nextPulse (s : State) : Option Nat :=
  match s.pl.tx, s.zcLine true with
  | some t, some r =>
    if t.admitted && decide (t.sent < t.halves.length) then
      let up := crossingAfter r.1 r.2.1 t.after
      let here := if t.halves.getD t.sent true then up
        else match s.zcLine false with
          | some f => crossingAfter f.1 f.2.1 up
          | none => up + r.1 / 2
      some (unitsToNow here + usNow (s.on_ 0x1900 2))
    else none
  | _, _ => none

/-- The blocks of the pulse under way and of the next one, as spans of ledger cycles from the boundary. -/
def State.pulseBlocks (s : State) : List (Nat × Nat) :=
  ((s.pl.pulseAt.map fun p => [p]).getD [] ++ (s.nextPulse.map fun p => [p]).getD []).map fun p =>
    ((p - usNow 20 - s.frame.base) / 8, (p + usNow (s.on_ 0x1900 3 + 20) - s.frame.base + 7) / 8)

/-- A job of a length, all in ledger cycles, starts clear of the blocks: at the end of a block that it would overlap. -/
def clearOf (len : Nat) (blocks : List (Nat × Nat)) (cyc : Nat) : Nat :=
  blocks.foldl (fun t b => if t < b.2 ∧ b.1 < t + len then b.2 else t) cyc

/-- The start of a shot group or discharge that is due at a time (R524); its length is in the ledger's unit. -/
def State.heldStart (s : State) (len cyc : Nat) : Nat := clearOf (toCycles len) s.pulseBlocks cyc

/-! ### The room of a transmission (R525) -/

/-- n_max: the most pulses that fall in a frame. -/
def State.mostPulses (s : State) : Nat := 9 * s.period * (if bitAt (s.on_ 0x1900 1) 5 then 60 else 50) / (8 * 32768) + 1

/-- c_w in the ledger's unit. -/
def State.pulseBlock (s : State) : Nat := us (s.on_ 0x1900 3 + 40)

/-- W_p: the windows of the PL_RESERVE rows of a phase. -/
def plWindows (v : View) (p : Nat) : Nat := ((rowsRunning v 5 p).map fun r => field (planRow v r) 3 0).sum

/-- The longest discharge charge of a phase. -/
def longestDischarge (v : View) (p : Nat) : Nat :=
  let ports := (rowsRunning v 2 p).flatMap fun r => (List.range 4).filter (bitAt (field (planRow v r) 3 0))
  if (rowsRunning v 2 p).isEmpty then 0
  else ports.foldl (fun m n => max m (us (dischargeUs v (v (key 0x0B03 (n + 1))) + 10)))
    (us (dischargeUs v (v (key 0x0B08 1)) + 10))

/-- H_p: the longest shot group charge or discharge charge of a phase; zero in CONFIG. -/
def State.longestJob (s : State) (p : Nat) : Nat :=
  if s.mode = .config then 0
  else if s.mode = .taper then (if ctxDefined s.eff 0 then costGroup s.eff [0] else 0)
  else (phaseShots s.eff p).foldl (fun m x => max m x.len) (longestDischarge s.eff p)

/-- end[p] of the plan in force: 60 µs in CONFIG, the fixed plan in TAPER. -/
def State.plannedEnd (s : State) (p : Nat) : Nat :=
  if s.mode = .config then us 60
  else if s.mode = .taper then
    (if ctxDefined s.eff 0 then us 60 + costGroup s.eff [0] + costCor s.eff 0 + costFlow 1 else us 60)
  else (placePhase s.eff p).end_

/-- W_p of the plan in force: no rows run in CONFIG and in TAPER. -/
def State.windowsOf (s : State) (p : Nat) : Nat :=
  if s.mode = .config ∨ s.mode = .taper then 0 else plWindows s.eff p

/-- R525: the ledger admits a transmission whole. -/
def State.admitsPulses (s : State) : Bool :=
  let phases := if s.mode = .config ∨ s.mode = .taper then 1 else planCycleOf s.eff
  (List.range phases).all fun p =>
    decide (s.mostPulses * (s.pulseBlock + s.longestJob p) + s.plannedEnd p ≤
      s.windowsOf p * s.pulseBlock + sevenEighths s.period)

/-- What an admitted transmission sets aside of the slack of the frame, in the ledger's unit. -/
def State.plSetAside (s : State) : Nat :=
  let p := framePhase s.eff s.frame.number
  if (s.pl.tx.map fun t => t.admitted).getD false then
    s.mostPulses * (s.pulseBlock + s.longestJob p) - s.windowsOf p * s.pulseBlock
  else 0

/-! ### The link at rest (R500) -/

/-- Change the powerline link. -/
def State.modPl (f : Powerline → Powerline) (s : State) : State := { s with pl := f s.pl }

/-- The link is silent: no transmission, PLD and PLE low. -/
def Powerline.silent (p : Powerline) : Powerline := { p with tx := none, txNext := none, pulseAt := none, ple := false }

/-- With ENABLE clear the tracker, the receiver and the engine stop (R500, R502). -/
def State.plRest (s : State) : State :=
  if bitAt (s.on_ 0x1900 1) 7 then s
  else s.modPl fun p =>
    { p.silent with rising := [], falling := [], locked := false, goodRun := 0, badRun := 0, quietPos := [], quietNeg := [],
                    inbox := [], poll := none, cycleOn := false, cycleAt := none }

end Sys2Proof.Machine
end

