-- ==== Sys2Proof/Machine/Pins.lean ====
section
/-! DEFINITION. The transducer pins during a shot (R91 to R118, R132): what a firing sends, when the crossbar connects a pin,
the state of a pin at a time, and the spans in which the high-drive supply and the receive chains are on. Times are in units
of 1/32 ns since the boundary: 500 to a ledger cycle, 32 000 to a microsecond. -/

namespace Sys2Proof.Machine

open Sys2Proof

/-- Microseconds in units of 1/32 ns. -/
def us32 (n : Nat) : Nat := 32000 * n

/-- The first ledger cycle at or after a time in 1/32 ns. -/
def cycOf32 (t : Nat) : Nat := (t + 499) / 500

/-! ### Excitation (R98 to R101, R112, R113) -/

/-- The code word that CODE_SEL selects (R99): the 13-chip code, none, or a user code. -/
def codeWord (v : View) (n : Nat) : Nat :=
  match drvCode v n with
  | 0 => 0x0A60
  | 1 => 0
  | m => v (key 0x0810 (m - 1))

/-- The code bits of the chips sent: those below COUNT (R98, R100). A resonant train is COUNT chips in the reference phase
(R101), since CODE_SEL is 1 there. -/
def codeChips (v : View) (n : Nat) : List Bool := (List.range (drvCount v n)).map (bitAt (codeWord v n))

/-- The drive level of an end of a context, mV: HD_LEVEL at a high-drive pin, VSD_LEVEL at a standard one (R96, R112). -/
def driveLevel (v : View) (n pin : Nat) : Nat :=
  if highDrive pin then 500 * drvLevel v n else 100 * v (key 0x0801 1)

/-- FRACTION of the DAMP word, in eighths less one. -/
def dampFraction (v : View) (n : Nat) : Nat := field (v (ck n 0x06)) 11 9

/-- What a pin of a context sends when it fires, at half-period h (R94, R98 to R101, R112, R113). -/
def driveOf (v : View) (n h pin at_ : Nat) : Drive :=
  { pin := pin, ctx := n, at_ := at_, half := h, chips := codeChips v n, periods := drvPeriods v n + 1,
    level := driveLevel v n pin, dampHalf := dampHalf v n, dampLevel := driveLevel v n pin * (dampFraction v n + 1),
    clamp := dampClamp v n, invert := pinInvert v pin }

/-- The half-periods of a burst or train. -/
def Drive.burstHalves (d : Drive) : Nat := 2 * d.periods * d.chips.length

/-- When the burst or train of a firing ends. -/
def Drive.burstEnd (d : Drive) : Nat := d.at_ + d.burstHalves * d.half

/-- When its damping phase ends. -/
def Drive.dampEnd (d : Drive) : Nat := d.burstEnd + d.dampHalf * d.half

/-- When its active clamp ends: T_tx after the firing (R94). -/
def Drive.clampEnd (d : Drive) : Nat := d.dampEnd + 2 * d.clamp * d.half

/-- The half-bridge is at its drive level in a half-period of the burst (R98): the carrier starts high in the reference phase
(DEDUCED, log 87), a code bit of 1 shifts its chip by half a period, and INVERT swaps the two levels (R91). -/
def Drive.high (d : Drive) (k : Nat) : Bool :=
  (k % 2 == 0) != ((d.chips.getD (k / (2 * d.periods)) (d.chips.getLast?.getD false)) != d.invert)

/-- The level of a pin that fires, in eighths of a millivolt above AGX, `k` half-periods after its firing: the burst, then
the damping half-cycles at the set fraction, in anti-phase to the carrier as the last chip would continue it. -/
def Drive.levelAt (d : Drive) (k : Nat) : Nat :=
  if k < d.burstHalves then (if d.high k then 8 * d.level else 0)
  else (if d.high k then 0 else d.dampLevel)

/-! ### The states of the pins (Table 3.9) -/

/-- The states of an XD pin (Table 3.9): the 1 kΩ clamp, driven to a level in eighths of a millivolt, the 5 Ω active clamp, or
released to its chain. -/
inductive XdState where
  | clamped
  | driven (eighths : Nat)
  | active
  | released
  deriving DecidableEq, Repr

/-- What a firing does to its pin at a time; none before it and after its clamp. -/
def Drive.stateAt (d : Drive) (t : Nat) : Option XdState :=
  if t < d.at_ ∨ d.clampEnd ≤ t then none
  else if t < d.dampEnd then some (.driven (d.levelAt ((t - d.at_) / max 1 d.half)))
  else some .active

/-- A link connects its pin at a time. -/
def Link.on (l : Link) (t : Nat) : Bool := decide (l.opens ≤ t) && decide (t < l.ends)

/-- The pins that path context 0 names are in use in TAPER, all others rest on their clamps (Table 3.9). -/
def State.pinUsed (s : State) (pin : Nat) : Bool :=
  pinEnabled s.eff pin && (decide (s.mode ≠ .taper) || (ctxPins s.eff 0).contains pin)

/-- The state of an XD pin at a time of the frame (R132): the 1 kΩ clamp is passive and holds wherever nothing else does. -/
def State.xdPin (s : State) (pin t : Nat) : XdState :=
  if s.pwr.aoDown || !s.frame.running || !(s.pwr.dom 0).on || !s.pinUsed pin then .clamped
  else match (s.ac.drives.filter fun d => d.pin == pin).findSome? fun d => d.stateAt t with
    | some x => x
    | none => if s.ac.links.any fun l => l.pin == pin && l.on t then .released else .clamped

/-- The chain to which the crossbar connects a pin at a time (R115, R117). -/
def State.pinChain (s : State) (pin t : Nat) : Option Nat :=
  (s.ac.links.find? fun l => l.pin == pin && l.on t).map Link.chain

/-- A receive chain is powered (R116): AF is on, and no group is under way that leaves the chain unused. -/
def State.chainPowered (s : State) (chain : Nat) : Bool :=
  (s.pwr.dom 0).on && (s.ac.crossbar.isEmpty || s.ac.crossbar.any fun x => x.2 == chain)

/-! ### The times of a member (R94, R118) -/

/-- The window of a context measured from its firing instant, up to its close, in 1/32 ns. -/
def windowEnd (v : View) (n : Nat) : Nat := 32 * (ctxWs v n + ctxWl v n)

/-- F2 of a sequential member after its firing instant F (Table 3.7). -/
def reverseAt (v : View) (n f : Nat) : Nat := f + windowEnd v n + us32 2 + 32 * ctxRing v n

/-- The crossbar's routes of a member in a frame (R115, R121). -/
def memberRoutes (v : View) (n frame : Nat) : List (Nat × Nat) :=
  [(ctxPinA v n, dirChain v n frame true), (ctxPinB v n, dirChain v n frame false)]

/-- The spans in which the pins of a member are connected (Table 3.7, R117), with h in use and its firing instant f. -/
def memberLinks (v : View) (n h frame f : Nat) : List Link :=
  let link := fun (up : Bool) (opens ends : Nat) =>
    ({ pin := rxPin v n up, ctx := n, chain := dirChain v n frame up, opens := opens, ends := ends } : Link)
  let tx := txTime v n h + us32 2
  if ctxSequential v n then
    let f2 := reverseAt v n f
    let last := f2 + windowEnd v n + us32 2
    [link false f (f + windowEnd v n + us32 2), link true (f + tx) last, link false (f2 + tx) last]
  else
    [link true (f + tx) (f + windowEnd v n + us32 2), link false (f + tx) (f + windowEnd v n + us32 2)]

/-- The firings of a member at its firing instant f: both pins, or A then B at F2 (Table 3.7). -/
def memberDrives (v : View) (n h f : Nat) : List Drive :=
  [driveOf v n h (ctxPinA v n) f, driveOf v n h (ctxPinB v n) (if ctxSequential v n then reverseAt v n f else f)]

/-- The end of the last damping phase of a high-drive pin among some firings (R105); none where no pin is high-drive. -/
def hdSpan (ds : List Drive) : Option Nat :=
  match ds.filter fun d => highDrive d.pin with
  | [] => none
  | d :: l => some (l.foldl (fun m x => max m x.dampEnd) d.dampEnd)

end Sys2Proof.Machine
end

