-- ==== Sys2Proof/Machine/Jobs.lean ====
section
/-! DEFINITION. The jobs of a frame as the sequencer and the ledger see them while it runs (R66 to R70, R85 to R87): which
contexts a shot concerns, the correlator's queue, the placement of what is still to run, the admission of dynamic jobs, and
how a promise is broken. Times are in the ledger's unit unless they are named cycles. -/

namespace Sys2Proof.Machine

open Sys2Proof

/-! ### References (Table 6.3) -/

/-- The TDC is timed against a provisional reference (R194, R206, R214). -/
def Clocks.provisional (c : Clocks) : Bool := c.ref == 2 || c.trial

/-- K is qualified (R213). -/
def State.qualified (s : State) : Bool := decide (s.clk.qualAge ≤ s.on_ 0x0401 4)

/-- K where R194 applies it (Table 6.3). -/
def State.scaleK (s : State) : Option Int :=
  if s.clk.provisional && !s.clk.rtcOnLfrc && s.qualified then some s.clk.qualK else none

/-- Every direction of the frame fails FUSION (R214, R215). -/
def State.fusionBlocked (s : State) : Bool :=
  decide (0 < s.clk.fusionBlock) || (s.clk.provisional && (s.clk.rtcOnLfrc || !s.qualified))

/-! ### The contexts of a frame -/

/-- The plan row of a context. -/
def rowOfCtx (v : View) (n : Nat) : Option Nat := (rowsOfKind v 1).find? fun r => rowCtx (planRow v r) == n

/-- The context fires in the present frame (Table 2.2, R63). -/
def State.scheduled (s : State) (n : Nat) : Bool :=
  if s.mode = .taper then n == 0 && ctxDefined s.eff 0
  else s.measuring && match rowOfCtx s.eff n with
    | none => false
    | some r => rowRuns (planRow s.eff r) (framePhase s.eff s.frame.number)

/-- P: the contexts whose SHOT rows run in the frame (Table 2.4). -/
def State.shotContexts (s : State) : List Nat := (List.range 64).filter s.scheduled

/-- RSV_RETRY of a context's row; none in TAPER (R63). -/
def State.reservedRetries (s : State) (n : Nat) : Nat :=
  if s.mode = .taper then 0 else ((rowOfCtx s.eff n).map fun r => rowRsv (planRow s.eff r)).getD 0

/-- The group of a context. -/
def State.groupOf (s : State) (n : Nat) : Nat :=
  if s.mode = .taper then 0 else ((rowOfCtx s.eff n).map fun r => rowGroup (planRow s.eff r)).getD 0

/-- The rows of a group that run in the frame, as a shot for the ledger (R55, R67). -/
def State.shotOf (s : State) (g : Nat) : Shot :=
  if s.mode = .taper then
    { group := 0, kind := 0, members := [0], row := 0, len := costGroup s.eff [0], cor := costCor s.eff 0,
      chains := ctxChains s.eff 0 }
  else groupShot s.eff g 0
    ((rowsRunning s.eff 1 (framePhase s.eff s.frame.number)).filter fun r => rowGroup (planRow s.eff r) == g)

/-- The acquisition shot of one context (R66, R152). -/
def searchShot (v : View) (n : Nat) : Shot :=
  { group := 64 + n, kind := 4, members := [n], row := 0, len := costGroup v [n], cor := 16 * costCor v n, chains := ctxChains v n }

/-- A context waits for an acquisition search that can serve it. -/
def State.awaitsSearch (s : State) (n : Nat) : Bool :=
  ctxDefined s.eff n && (s.ac.ctxAt n).acqRequested && !(s.ac.ctxAt n).acqServed &&
    (if s.mode = .taper then n == 0 else (planContexts s.eff).contains n)

/-- The searches admitted beside the reserved slot. -/
def Frame.searchAdmitted (f : Frame) (n : Nat) : Bool := f.planned.any fun p => p.kind == 6 && p.group == 64 + n

/-- The context the reserved acquisition slot serves: the lowest-numbered that waits and has no search of its own (R152). -/
def State.nextAcq (s : State) : Option Nat :=
  (List.range 64).find? fun n => s.awaitsSearch n && !s.frame.searchAdmitted n

/-- The members of a group that a reserved retry slot re-fires (R143). -/
def State.retryMembers (s : State) (ms : List Nat) : List Nat :=
  ms.filter fun n =>
    let c := s.ac.ctxAt n
    decide (c.attempts ≤ s.reservedRetries n) && decide (1 ≤ c.attempts) && c.result.isNone && !c.acqRequested &&
      match c.current with
      | none => false
      | some a => reasonRetried a.up.reason || reasonRetried a.dn.reason || (a.decided && a.reason == 9)

/-- The contexts that a planned shot would fire as matters stand; their promise is the one that breaks where it is given up
or displaced (R87, R103). -/
def State.concerned (s : State) (p : Planned) : List Nat :=
  if p.kind = 0 then p.members
  else if p.kind = 4 then s.nextAcq.toList
  else if p.kind = 5 then p.members.filter fun n => (s.ac.ctxAt n).wantsRetry
  else if p.kind = 6 then p.members.filter s.awaitsSearch
  else s.retryMembers p.members

/-- A planned shot may still have to run: a retry slot while a member of its group has no valid attempt and a reserved
retry left. -/
def State.mayRun (s : State) (p : Planned) : Bool :=
  if 1 ≤ p.kind ∧ p.kind ≤ 3 then
    p.members.any fun n => (s.ac.ctxAt n).result.isNone && !(s.ac.ctxAt n).acqRequested &&
      decide ((s.ac.ctxAt n).attempts ≤ s.reservedRetries n)
  else !(s.concerned p).isEmpty

/-- The time since the boundary in the ledger's unit. -/
def Frame.nowQ (f : Frame) : Nat := cycles f.cyc

/-! ### The correlator (R58, R183 to R185) -/

/-- A correlation that waits or runs: the context, whether it is the search of an acquisition shot, the direction, when its
windows had closed, in cycles, and its cost. -/
structure CorJob where
  ctx : Nat
  acq : Bool
  up : Bool
  due : Nat
  cost : Nat
  deriving DecidableEq, Repr

/-- A direction waits for its tracking correlation. -/
def DirRun.awaits (d : DirRun) : Bool := d.closed && d.reason == 0 && !d.correlated

/-- The correlations that a context waits for. -/
def State.corJobsOf (s : State) (n : Nat) : List CorJob :=
  let dir := fun (up : Bool) (d : DirRun) =>
    if d.awaits then
      [({ ctx := n, acq := false, up := up, due := d.closedAt, cost := costCor s.eff n / 2 } : CorJob)] else []
  (match (s.ac.ctxAt n).current with
   | none => []
   | some a => dir false a.dn ++ dir true a.up) ++
  match (s.ac.ctxAt n).acq with
  | none => []
  | some a =>
    if a.up.closed && a.dn.closed then
      [{ ctx := n, acq := true, up := false, due := max a.up.closedAt a.dn.closedAt, cost := 16 * costCor s.eff n }]
    else []

/-- Put a correlation in its place: in the order in which the windows closed. -/
def CorJob.place (j : CorJob) : List CorJob → List CorJob
  | [] => [j]
  | q :: qs => if j.due ≤ q.due then j :: q :: qs else q :: CorJob.place j qs

/-- The correlator's queue; its head runs. -/
def State.corQueue (s : State) : List CorJob := ((List.range 64).flatMap s.corJobsOf).foldr CorJob.place []

/-- When the correlation at the head of the queue started, in cycles. -/
def Frame.corStart (f : Frame) (j : CorJob) : Nat := max j.due f.corFree

/-! ### What is still to run -/

/-- A correlation is placed on the correlator after those before it, for captures that stand from a time on; the flow
computation waits for it where it is a tracking correlation. -/
def Placement.correlate (pl : Placement) (due cost : Nat) (tracking : Bool) (chains : List Nat) : Placement :=
  let e := max pl.cor due + cost
  { pl with cor := e, corFlow := if tracking then e else pl.corFlow,
            done := chains.foldl (fun d c => setAt d c e) pl.done }

/-- The chains of a context. -/
def chainsOf (v : View) (n : Nat) : List Nat := [ctxC0 v n, ctxC1 v n]

/-- The correlation time that a member of a shot in flight will still need. -/
def State.flightCor (s : State) (kind n : Nat) : Nat :=
  if kind = 4 then
    match (s.ac.ctxAt n).acq with
    | none => 0
    | some a => if a.up.closed && a.dn.closed then 0 else 16 * costCor s.eff n
  else match (s.ac.ctxAt n).current with
    | none => costCor s.eff n
    | some a => (flag (!a.up.closed) + flag (!a.dn.closed)) * (costCor s.eff n / 2)

/-- Where the placement of the rest of the frame begins, where the chains are free from `t0` on: after the shots in flight,
the correlations that wait, and those of the shots in flight. -/
def State.workStart (s : State) (t0 : Nat) : Placement :=
  let base : Placement := { ac := max t0 (us 60), cor := cycles s.frame.corFree, corFlow := s.frame.nowQ,
                            done := List.replicate 16 0 }
  let queued := s.corQueue.foldl (fun pl j => pl.correlate (cycles j.due) j.cost (!j.acq) (chainsOf s.eff j.ctx)) base
  (s.ac.flight.filter fun f => !f.held).foldl (fun pl f =>
    let e := cycles f.start + costGroup s.eff f.members
    f.members.foldl (fun q n => q.correlate e (s.flightCor f.kind n) (f.kind != 4) (chainsOf s.eff n))
      { pl with ac := max pl.ac e }) queued

/-- A planned shot as the ledger places it. -/
def State.plannedShot (s : State) (p : Planned) : Shot :=
  let ms := if p.kind = 4 then s.nextAcq.toList else p.members
  let acq := p.kind == 4 || p.kind == 6
  { group := p.group, kind := if acq then 4 else p.kind, members := ms, row := 0, len := p.length,
    cor := (ms.map (costCor s.eff)).sum * (if acq then 16 else 1), chains := ms.flatMap (ctxChains s.eff) }

/-- Lay the planned shots one after another: none starts before its plan, nor while the chains or their captures are in
use (R57, R58). -/
def State.layShots (s : State) : Placement → List Planned → Placement × List Planned
  | pl, [] => (pl, [])
  | pl, p :: ps =>
    let sh := s.plannedShot p
    let st := max p.start (shotStart pl sh)
    let r := State.layShots s (placeShot { pl with ac := st } sh) ps
    (r.1, { p with start := st } :: r.2)

/-- The time the sensor jobs of the frame still need: their charges, less the time the one under way has run. -/
def State.sensorLeft (s : State) : Nat :=
  (s.sen.rows.map fun r => costSensor s.eff (field (planRow s.eff r) 3 0)).sum +
    match s.sen.job with
    | none => 0
    | some j => costSensor s.eff (field (planRow s.eff j.row) 3 0) - cycles (s.frame.cyc - j.start)

/-- The time that the pulses of an admitted transmission may still take from the chains in the frame (R524, R525). -/
def State.pulsesLeft (s : State) : Nat :=
  if (s.pl.tx.map fun t => t.admitted).getD false then
    (s.mostPulses - s.frame.pulsesSent) * (s.pulseBlock + s.longestJob (framePhase s.eff s.frame.number))
  else 0

/-- The display job of a region. -/
def dispJob (r : Nat) : DynJob := { kind := 2, job := r }

/-- The bursts of a region's update that are to run in the frame from now on. -/
def State.burstsOf (s : State) (r : Nat) : Nat :=
  match (s.disp.regions.getD r Region.reset).run with
  | none => 0
  | some u => (u.at_.filter fun t => decide (s.frame.now ≤ t) &&
      decide (t < s.frame.base + 8 * s.frame.endCyc)).length

/-- The charge of an Ochre job in the frame: bursts of 200 µs, the core's time for a request, or the copy of a capture
(R199, R539, R560). -/
def State.jobCharge (s : State) (j : DynJob) : Nat :=
  if j.kind = 2 then s.burstsOf j.job * us 200
  else if j.kind = 3 then us (s.on_ 0x1D01 1)
  else cycles ((ctxWinLen s.eff (j.job / 2) + 1) / 2)

/-- The charges of the jobs of a kind among some. -/
def State.chargeOf (s : State) (kind : Nat) (js : List DynJob) : Nat :=
  ((js.filter fun j => j.kind == kind).map s.jobCharge).sum

/-- The bursts of the updates that have started, which are Indigo work (R532). -/
def State.startedBursts (s : State) : Nat :=
  ((List.range 16).map fun r =>
    if ((s.disp.regions.getD r Region.reset).run.map fun u => u.started).getD false then s.burstsOf r * us 200 else 0).sum

/-- Core time from the end of the commit slot: core(p) of the frame (R57). -/
def State.coreStart (s : State) : Nat :=
  max s.frame.nowQ
    (us 60 + (if s.mode = .measure ∨ s.mode = .verify then coreTime s.eff (framePhase s.eff s.frame.number) else 0))

/-- When the flow computation ends, after the last tracking correlation (R251). -/
def State.flowEnd (s : State) (cor : Nat) : Nat :=
  if s.frame.flowDone then 0
  else (if s.frame.flowStarted then cycles s.frame.flowCyc else cor) + costFlow s.shotContexts.length

/-- When everything still to run in the frame ends, with the chains free from `t0` on (R85): shots and their correlations,
sensor jobs, pulses, bursts, the flow computation, the copies and the core's requests. -/
def State.workEnd (s : State) (planned : List Planned) (ochre : List DynJob) (t0 : Nat) : Nat :=
  let l := (s.layShots (s.workStart t0) planned).1
  let ac := l.ac + s.sensorLeft + s.pulsesLeft + s.startedBursts + s.chargeOf 2 ochre
  let core := if ochre.any fun j => j.kind == 3 then s.coreStart + s.chargeOf 3 ochre else 0
  max (max ac (s.flowEnd l.corFlow)) (max (l.cor + s.chargeOf 4 ochre) core)

/-- The frame can hold the work. -/
def State.holds (s : State) (planned : List Planned) (ochre : List DynJob) (t0 : Nat) : Bool :=
  decide (s.workEnd planned ochre t0 ≤ s.limit)

/-! ### Admission of dynamic jobs (R66 to R70) -/

/-- The ledger places a shot of a dynamic job after all admitted work (R67): the shot as it is planned, and the frame with
the room taken, if the job ends by E_k; with `moveFlow` also the flow computation after it, which must not have started. -/
def State.admitChains (s : State) (sh : Shot) (kind : Nat) (moveFlow : Bool) : Option Frame :=
  let f := s.frame
  let pl : Placement := { ac := max f.acEnd f.nowQ, cor := f.corEnd, corFlow := f.corEnd, done := f.chainDone }
  let q := placeShot pl sh
  let st := shotStart pl sh
  let flow := if moveFlow then q.cor + costFlow s.shotContexts.length else q.cor
  if max q.ac flow + s.plSetAside ≤ s.limit ∧ (moveFlow && f.flowStarted) = false then
    some { f with acEnd := q.ac, corEnd := q.cor, chainDone := q.done
                  planned := f.planned ++ [{ group := sh.group, kind := kind, members := sh.members, start := st,
                                             latest := st, length := sh.len }] }
  else none

/-- A job waits, behind those requested before it. -/
def Frame.request (f : Frame) (j : DynJob) : Frame :=
  if f.dynamic.contains j || f.waiting.contains j then f else { f with dynamic := f.dynamic ++ [j] }

/-- A waiting job has been considered in the frame and is not admitted (R69). -/
def Frame.refuse (f : Frame) (j : DynJob) : Frame := { f with tried := f.tried ++ [j] }

/-- A waiting job is admitted. -/
def Frame.accept (f : Frame) (j : DynJob) : Frame :=
  { f with dynamic := f.dynamic.filter (fun x => x != j), tried := f.tried.filter (fun x => x != j),
           waiting := f.waiting ++ [j] }

/-- A job is finished or withdrawn. -/
def Frame.finish (f : Frame) (j : DynJob) : Frame :=
  { f with dynamic := f.dynamic.filter (fun x => x != j), tried := f.tried.filter (fun x => x != j),
           waiting := f.waiting.filter (fun x => x != j) }

/-- A dynamic retry of a group is considered once, at its request (R66 to R69, R144). -/
def State.considerRetry (s : State) (g : Nat) : State :=
  let job : DynJob := { kind := 0, job := g }
  if s.frame.tried.contains job || s.frame.planned.any (fun p => p.kind == 5 && p.group == g) then s
  else
    let f := s.frame.request job
    match ({ s with frame := f } : State).admitChains (s.shotOf g) 5 true with
    | some a => { s with frame := a.finish job }
    | none => { s with frame := f.refuse job }

/-- A member's dynamic retry is requested (R144). -/
def State.requestRetry (s : State) (n : Nat) : State :=
  State.considerRetry { s with ac := s.ac.modCtx n fun c => { c with wantsRetry := true } } (s.groupOf n)

/-- A search beside the reserved slot is considered (R152). -/
def State.considerSearch (s : State) (n : Nat) : State :=
  let job : DynJob := { kind := 1, job := n }
  let f := s.frame.request job
  match ({ s with frame := f } : State).admitChains (searchShot s.eff n) 6 false with
  | some a => { s with frame := a.finish job }
  | none => { s with frame := f.refuse job }

/-- The dynamic job of the customer request of a port, of which at most one waits or is held (R560, R566). -/
def custJob (port : Nat) : DynJob := { kind := 3, job := port }

/-- The core work of a customer request is considered: after the frame's core time and the requests admitted before, it ends
by E_k (R67, R560). -/
def State.considerCustomer (s : State) (port : Nat) : State :=
  let job := custJob port
  let f := s.frame.request job
  if s.coreStart + s.chargeOf 3 s.frame.waiting + us (s.on_ 0x1D01 1) ≤ s.limit then { s with frame := f.accept job }
  else { s with frame := f.refuse job }

/-- The Ochre jobs that wait are considered again as a frame opens, in order of request (R68, R69). A display update is
admitted by the command that brings its bursts. -/
def State.reconsider (s : State) : State :=
  (s.frame.dynamic.filter fun j => j.kind == 3).foldl (fun acc j => acc.considerCustomer j.job)
    { s with frame := { s.frame with tried := s.frame.tried.filter fun j => j.kind == 1 } }

/-- What a closed frame leaves to the next of its dynamic jobs (R69): a retry expires with its frame, a search is requested
anew, the others wait on or stay admitted; a copy has lost its capture. -/
def Frame.carried (f : Frame) : Frame :=
  { f with
    dynamic := f.dynamic.filter fun j => j.kind == 2 || j.kind == 3
    waiting := f.waiting.filter fun j => j.kind == 2 || j.kind == 3
    tried := [] }

/-- A reserved retry slot of the member's group is still to come and the member has a reserved retry left (R143). -/
def State.reservedWaits (s : State) (n : Nat) : Bool :=
  decide ((s.ac.ctxAt n).attempts ≤ s.reservedRetries n) &&
    s.frame.planned.any fun p => p.group == s.groupOf n && decide (1 ≤ p.kind) && decide (p.kind ≤ 3)

/-- A failed member asks for a dynamic retry where no reserved slot can serve it and retries are left (R142, R144). -/
def State.failed (s : State) (n : Nat) : State :=
  let c := s.ac.ctxAt n
  if c.acqRequested || c.result.isSome || s.reservedWaits n || decide (ctxBudget s.eff n < c.attempts) ||
      c.wantsRetry || s.frame.flowStarted then s
  else s.requestRetry n

/-! ### The start of the flow computation -/

/-- The flow computation may start: no shot of the frame but an acquisition shot is to fire or in flight, and every attempt
is decided (R67, R251). -/
def State.flowReady (s : State) : Bool :=
  (s.frame.planned.all fun p => p.kind == 4 || p.kind == 6 || (s.concerned p).isEmpty) &&
    (s.ac.flight.all fun f => f.kind == 4) &&
    (List.range 64).all fun n => match (s.ac.ctxAt n).current with
      | none => true
      | some a => a.decided

/-- Start the flow computation after the last tracking correlation of the frame (R251). -/
def State.startFlow (s : State) : State :=
  if s.measuring && !s.frame.flowStarted && !s.frame.committing && s.flowReady then
    { s with frame := { s.frame with flowStarted := true, flowCyc := s.frame.cyc } }
  else s

/-! ### Broken promises (R85 to R87) -/

/-- Members in ascending context number. -/
def ascending (ms : List Nat) : List Nat := (List.range 64).filter ms.contains

/-- The promises of some members break (R87): the events in ascending context number, and their count. -/
def State.breakPromises (s : State) (stepNo cause arg : Nat) (ms : List Nat) : State :=
  (State.raiseAll ((ascending ms).map fun n => promiseBroken stepNo cause n arg 0)
    { s with ledger := { s.ledger with broken := min (2 ^ 32 - 1) (s.ledger.broken + (ascending ms).length) } }).count
    [seqAct 0 (if stepNo = 2 then 0x15 else 0x16) 0 (ascending ms).length]

/-- A shot of some contexts is given up (R87): each that has no valid attempt is invalid with GIVEN_UP (R148). An
acquisition shot is no attempt. -/
def State.giveUpShot (s : State) (cause : Nat) (acquisition : Bool) (ms : List Nat) : State :=
  State.breakPromises
    (if acquisition then s
     else { s with ac := ms.foldl (fun a n => a.modCtx n fun c => { c with givenUp := true, wantsRetry := false }) s.ac })
    3 cause 0 ms

/-- A planned shot is given up. -/
def State.giveUpPlanned (cause : Nat) (s : State) (p : Planned) : State :=
  s.giveUpShot cause (p.kind == 4 || p.kind == 6) (s.concerned p)

/-- A shot of some contexts fires later than its latest planned start (step 2 of R85): `late` in the ledger's unit. -/
def State.displaceShot (s : State) (cause late : Nat) (ms : List Nat) : State := s.breakPromises 2 cause (toCycles late) ms

/-- The core has begun a customer request: it has acknowledged local interrupt 16. -/
def State.custStarted (s : State) (port : Nat) : Bool :=
  !s.core.l16 && (s.core.held.map fun r => r.via.port == port).getD false

/-- The copy at the head of the queue runs once the correlator has no other work. -/
def State.copyStarted (s : State) (j : DynJob) : Bool :=
  s.corQueue.isEmpty && (s.frame.waiting.find? fun x => x.kind == 4) == some j

/-- An admitted Ochre job has not started (R85). -/
def State.deferrable (s : State) (j : DynJob) : Bool :=
  !s.frame.tried.contains j &&
    (if j.kind = 3 then !s.custStarted j.job else if j.kind = 4 then !s.copyStarted j else true)

/-- JOB of Table 2.8 of an Ochre job: a display update, a request not yet with the core, or core work; the table has none
for the copy of a capture (log 19). -/
def State.jobCode (s : State) (j : DynJob) : Nat :=
  if j.kind = 2 then 0x80
  else if j.kind = 3 then (if (s.core.held.map fun r => r.via.port == j.job).getD false then 0x82 else 0x81)
  else Config.waveformJob % 256

/-- An Ochre job is deferred to the next frame (step 1 of R85): an update and a request wait again, ahead of the jobs
requested later; core work withholds local interrupts 16 and 17 (R560); a copy is not made (R199). -/
def State.deferJob (cause : Nat) (s : State) (j : DynJob) : State :=
  let f := s.frame.finish j
  let back : Frame := { f with dynamic := j :: f.dynamic, tried := j :: f.tried }
  let s1 : State := { s with ledger := { s.ledger with broken := satInc (2 ^ 32 - 1) s.ledger.broken } }
  let s2 : State :=
    if j.kind = 2 then
      { s1 with
        frame := back
        disp := { s1.disp with regions := modAt s1.disp.regions j.job fun g =>
          { g with run := g.run.map fun u => { u with at_ := [] } } } }
    else if j.kind = 3 then
      if (s.core.held.map fun r => r.via.port == j.job).getD false then
        { s1 with frame := { s1.frame with tried := j :: s1.frame.tried }, core := { s1.core with withheld := true } }
      else { s1 with frame := back }
    else
      { s1 with
        frame := f
        ac := { s1.ac with waves := s1.ac.waves.filter fun w => w.ctx != j.job / 2 || flag w.up != j.job % 2
                           waveSkipped := satInc (2 ^ 32 - 1) s1.ac.waveSkipped } }
  s2.raise (promiseBroken 1 cause (s.jobCode j) 0 2)

/-- The Ochre jobs to defer, latest admitted first, until the frame holds the work. -/
def deferOchre (holds : List DynJob → Bool) (deferrable : DynJob → Bool) : Nat → List DynJob → List DynJob
  | 0, _ => []
  | n + 1, js =>
    if holds js then []
    else match (js.filter deferrable).getLast? with
      | none => []
      | some j => j :: deferOchre holds deferrable n (js.erase j)

/-- The planned shots to give up, last planned first, until the frame holds the work (step 3 of R85): those kept and those
given up, last first. -/
def giveUpLast (holds : List Planned → Bool) : Nat → List Planned → List Planned × List Planned
  | 0, ps => (ps, [])
  | n + 1, ps =>
    if holds ps then (ps, [])
    else match ps.getLast? with
      | none => ([], [])
      | some p => let r := giveUpLast holds n ps.dropLast; (r.1, p :: r.2)

/-- Restore the feasibility of the frame where the chains are free from `t0` on (R85): defer Ochre jobs, displace shots, give
up shots, each only as far as needed; what remains is placed anew. -/
def State.restore (s : State) (cause t0 : Nat) : State :=
  let live := s.frame.planned.filter s.mayRun
  let deferred := deferOchre (fun js => s.holds live js t0) s.deferrable s.frame.waiting.length s.frame.waiting
  let s1 := deferred.foldl (State.deferJob cause) { s with frame := { s.frame with cause := cause } }
  let gv := giveUpLast (fun ps => s1.holds ps (s.frame.waiting.filter fun j => !deferred.contains j) t0) live.length live
  let s2 := gv.2.foldl (State.giveUpPlanned cause) s1
  let laid := s2.layShots (s2.workStart t0) gv.1
  let s3 := laid.2.foldl (fun acc p =>
    if p.latest < p.start then acc.displaceShot cause (p.start - p.latest) (s2.concerned p) else acc) s2
  State.startFlow { s3 with frame := { s3.frame with
    planned := laid.2.map fun p => { p with latest := max p.latest p.start }
    acEnd := max s3.frame.acEnd laid.1.ac, corEnd := max s3.frame.corEnd laid.1.cor
    chainDone := List.zipWith max s3.frame.chainDone laid.1.done } }

/-- The shots that a frame leaves unfired as it ends are given up (R85, R87); a held one with CAUSE 3 (R103). -/
def State.giveUpUnfired (s : State) : State :=
  let held := s.ac.flight.filter fun f => f.held
  let s1 := held.foldl (fun acc f => acc.giveUpShot 3 (f.kind == 4) f.members) s
  let s2 := s1.frame.planned.foldl (fun acc p => State.giveUpPlanned s1.frame.cause acc p) s1
  { s2 with
    ac := { s2.ac with flight := s2.ac.flight.filter fun f => !f.held }
    frame := { s2.frame with planned := [] } }

/-! ### The next job (R71) -/

/-- The display bursts to come, as cycles of the frame. -/
def State.burstTimes (s : State) : List Nat :=
  ((List.range 16).flatMap fun r => ((s.disp.regions.getD r Region.reset).run.map fun u => u.at_).getD []).filterMap fun t =>
    if s.frame.now ≤ t then some ((t - s.frame.base) / 8) else none

/-- When the next job of the frame starts, or the boundary comes, in ledger cycles: a planned shot that will fire, a sensor
job, a burst or a pulse (R71). A sensor job that waits follows the shots at once. -/
def State.nextJob (s : State) : Nat :=
  let shots := (s.frame.planned.filter s.mayRun).map fun p => p.start / 125
  let sensor := if s.sen.rows.isEmpty then [] else [s.frame.cyc]
  let pulse := match s.nextPulse with
    | some t => [(t - s.frame.base) / 8]
    | none => []
  (shots ++ s.burstTimes ++ pulse ++ (if shots.isEmpty then sensor else [])).foldl min s.frame.endCyc

/-- Work of the frame runs: a shot, a correlation, a copy, a sensor job or the flow computation. -/
def State.working (s : State) : Bool :=
  !s.ac.flight.isEmpty || !s.corQueue.isEmpty || !s.ac.waves.isEmpty || s.sen.job.isSome ||
    (s.frame.flowStarted && !s.frame.flowDone)

end Sys2Proof.Machine
end

