-- ==== Sys2Proof/Machine/Acoustic.lean ====
section
/-! DEFINITION. The acoustic sequencer's commands (Chapters 3 to 5): shot groups, held shots, windows, retries,
correlations, acquisition searches, waveforms, and what a context does at the boundary that closes its frame. -/

namespace Sys2Proof.Machine

open Sys2Proof

/-! ### Shots (R115 to R121, R145, R169) -/

/-- A direction as its shot fires at F. -/
def State.newDir (s : State) (f n : Nat) (up fired : Bool) : DirRun :=
  let ch := dirChain s.eff n s.frame.number up
  let cal := s.ac.calR.getD ch (0, 0)
  { DirRun.blank with
    fired := fired, at_ := f, chain := ch, gain := dirGain s.eff n (s.ac.ctxAt n).g up, r1 := cal.1, r2 := cal.2,
    faulty := s.ac.calFaulty.contains ch }

/-- An attempt as its shot fires at F: sequential members fire their up direction later (Table 3.7). -/
def State.newAttempt (s : State) (f n : Nat) (dynamic acq : Bool) : Attempt :=
  { number := if acq then 0 else (s.ac.ctxAt n).attempts, start := (f - us32 6) / 500, dynamic := dynamic, acquisition := acq, slots := 0,
    up := s.newDir f n true (!ctxSequential s.eff n), dn := s.newDir f n false true, decided := false, valid := false,
    reason := 0, value := 0, hasDt := false, dt := 0 }

/-- SHOT_RETRY (EV8) as a retry fires (R146, Table 4.5). -/
def retryEvent (n number : Nat) (dynamic : Bool) (a : Attempt) : Raised :=
  let r := if a.decided then (a.reason, a.value) else attemptReason a.up a.dn
  let ctxLevel := r.1 == 9
  { ev := 8, code := number * 16384 + flagAt dynamic 13 + r.1 * 256 + flagAt (ctxLevel || a.up.reason != 0) 1 +
      flag (ctxLevel || a.dn.reason != 0), arg := r.2, src := n, cls := 0 }

/-- Fire one member at F. -/
def State.fireMember (f : Nat) (dynamic acq : Bool) (s : State) (n : Nat) : State :=
  let c := s.ac.ctxAt n
  let a := s.newAttempt f n dynamic acq
  if acq then { s with ac := s.ac.modCtx n fun c => { c with acq := some a, acqServed := true } }
  else
    let s1 := { s with ac := s.ac.modCtx n fun c =>
      { c with current := some a, attempts := c.attempts + 1, wantsRetry := false, shots := satInc (2 ^ 48 - 1) c.shots,
               retries := if c.attempts = 0 then c.retries else satInc (2 ^ 48 - 1) c.retries } }
    match c.attempts, c.current with
    | 0, _ => s1
    | k + 1, some b => s1.raise (retryEvent n (k + 1) dynamic b)
    | _, none => s1

/-- The inputs a group uses: the chains of its members. -/
def groupInputs (v : View) (ms : List Nat) : List Nat := ms.flatMap fun n => [ctxC0 v n, ctxC1 v n]

/-- The inputs of a group are calibrated in its set-up (R169). -/
def State.calibrated (s : State) (ms : List Nat) (cals : List CalReading) : State :=
  let used := cals.filter fun c => (groupInputs s.eff ms).contains c.input
  let ran := (used.map fun c => (calOutcome c).2.2.1).sum
  let bad := (used.map fun c => (calOutcome c).2.2.2).sum
  { s with ac := used.foldl (fun a c => a.calibrate c) s.ac }.count [seqAct 1 0x23 0 ran, seqAct 1 0x24 0 bad]

/-- The crossbar's routes of a shot (R115, R116). -/
def State.route (s : State) (fl : Flight) : State :=
  { s with ac := { s.ac with crossbar := fl.members.flatMap fun n => memberRoutes s.eff n s.frame.number } }

/-- HD is on for the set-up of a shot that uses a high-drive pin (R105). -/
def State.hdSetUp (s : State) (fl : Flight) : State :=
  if fl.members.any fun n => (ctxPins s.eff n).any highDrive then
    { s with pwr := s.pwr.powered 1, ac := { s.ac with hdEnd := none } }
  else s

/-- The set-up of a shot group (R105, R116, R169): crossbar, HD, and the calibration of its inputs. -/
def State.setUp (s : State) (fl : Flight) (cals : List CalReading) : State :=
  ((s.calibrated fl.members cals).route fl).hdSetUp fl

/-- The pins of a shot fire at F (Table 3.7): what they send, when their chains are connected, and when HD goes off. -/
def State.firePins (s : State) (fl : Flight) (f : Nat) : State :=
  let h := fun (n : Nat) => (s.ac.ctxAt n).h
  let ds := fl.members.flatMap fun n => memberDrives s.eff n (h n) f
  { s with ac := { s.ac with
    drives := ds, links := fl.members.flatMap fun n => memberLinks s.eff n (h n) s.frame.number f, hdEnd := hdSpan ds } }

/-- A shot that has been set up fires at F, in 1/32 ns: its members, its pins and the counts (R118). -/
def State.fireAt (s0 : State) (fl : Flight) (f : Nat) : State :=
  let s := s0.firePins fl f
  let s1 := { s with ac := { s.ac with flight := s.ac.flight.filter (fun q => q != fl) ++ [{ fl with held := false }] } }
  let acq := fl.kind == 4
  let s2 := fl.members.foldl (fun acc n => acc.fireMember f (fl.kind == 5) acq n) s1
  let k := fl.members.length
  s2.count ([seqAct 0 0x13 0 1] ++
    (if acq then [] else [seqAct 0 0x10 0 k]) ++
    (if fl.kind = 5 then [seqAct 0 0x12 0 k]
     else if 1 ≤ fl.kind ∧ fl.kind ≤ 3 then [seqAct 0 0x11 0 k] else []))

/-- A shot is set up at the present time and fires 6 µs later (R118). -/
def State.fire (s : State) (fl : Flight) (cals : List CalReading) : State :=
  (s.setUp fl cals).fireAt fl (500 * s.frame.cyc + us32 6)

/-- The VHD threshold of a shot, mV (R102); 0 where no member names a high-drive pin. -/
def vhdThreshold (v : View) (ms : List Nat) : Nat :=
  ms.foldl (fun m n => if (ctxPins v n).any highDrive then max m (500 * drvLevel v n + 3000) else m) 0

/-- VHD_STATUS after the comparison of R102 (Table 3.10): the sample of bit 0 is the one the comparison takes (DESIGN CHOICE,
log 88). -/
def Acoustic.sampleVhd (vhd threshold : Nat) (a : Acoustic) : Acoustic :=
  { a with vhdAbove5 := decide (5000 < vhd), vhdLow := decide (vhd < threshold) }

/-- Start a shot, or hold it, set up and calibrated, while VHD is below the threshold (R102, R103). -/
def State.startShot (s : State) (fl : Flight) (vhd : Nat) (cals : List CalReading) : State :=
  let th := vhdThreshold s.eff fl.members
  if th = 0 then s.fire fl cals
  else
    let s1 := { s with ac := s.ac.sampleVhd vhd th }
    if vhd < th then
      let s2 := s1.setUp fl cals
      { s2 with ac := { s2.ac with flight := s2.ac.flight ++ [{ fl with held := true }] } }
    else s1.fire fl cals

/-- A planned shot starts at the present time (R85, R118): the contexts it fires. One that fires after its latest planned
start is displaced; with VHD to compare, a shot held through no fault of its own is compared at its start (R102). -/
def State.startPlanned (s : State) (p : Planned) (vhd : Nat) (cals : List CalReading) : State :=
  let ms := s.concerned p
  let s1 := { s with frame := { s.frame with planned := s.frame.planned.erase p } }
  if ms.isEmpty then s1.startFlow
  else
    let late := s.frame.nowQ - p.latest
    let s2 := if late = 0 then s1 else s1.displaceShot s.frame.cause late ms
    s2.startShot { group := p.group, kind := if p.kind = 6 then 4 else p.kind, members := ms, start := s.frame.cyc,
                   held := false, latest := p.latest / 125 } vhd cals

/-- The planned shot that a start names: the first shot of a group, its admitted dynamic retry, or the acquisition shot that
is next, the reserved one before those admitted beside it (R152). -/
def State.plannedFor (s : State) (g : Nat) : ShotKind → Option Planned
  | .first => s.frame.planned.find? fun p => p.group == g && p.kind == 0
  | .dynamicRetry => s.frame.planned.find? fun p => p.group == g && p.kind == 5
  | .acquisition => (s.frame.planned.find? fun p => p.kind == 4 && !(s.concerned p).isEmpty).or
      (s.frame.planned.find? fun p => p.kind == 6)

/-- When a planned shot that is due starts (R102, R524): one that compares VHD at its latest planned start, any other as it is
due, clear of the powerline pulses. -/
def State.startTime (s : State) (p : Planned) (due : Nat) : Nat :=
  s.heldStart p.length (if vhdThreshold s.eff (s.concerned p) = 0 then due else max due (p.latest / 125))

/-- A planned shot of the frame starts. -/
def State.startDue (s : State) (p : Planned) (due vhd : Nat) (cals : List CalReading) : State :=
  (s.atCyc (s.startTime p due)).startPlanned p vhd cals

/-- SHOT_GROUP_START (R118): a group due at a time starts clear of the powerline pulses (R524). -/
def shotGroupStart (g : Nat) (kind : ShotKind) (due vhd : Nat) (cals : List CalReading) (s : State) : State :=
  if !s.measuring then s.atCyc due
  else match s.plannedFor g kind with
    | none => s.atCyc due
    | some p => s.startDue p due vhd cals

/-- RETRY_SLOT_START (R143): every member with a known retried failure and a reserved retry left is fired again; where
none qualifies the slot is left as slack. -/
def retrySlotStart (g due vhd : Nat) (cals : List CalReading) (s : State) : State :=
  match s.frame.planned.find? (fun p => p.group == g && decide (1 ≤ p.kind) && decide (p.kind ≤ 3)) with
  | none => s.atCyc due
  | some p => s.startDue p due vhd cals

/-- The up direction of a sequential member fires at F2 (Table 3.7). -/
def Attempt.reverse (v : View) (n : Nat) (a : Attempt) : Attempt :=
  { a with up := { a.up with fired := true, at_ := reverseAt v n a.dn.at_ } }

/-- An attempt whose down direction has fired and whose up direction has not. -/
def Attempt.oneWay (a : Attempt) : Bool := a.dn.fired && !a.up.fired

/-- The attempt a command names. -/
def Ctx.attempt (acq : Bool) (c : Ctx) : Option Attempt := if acq then c.acq else c.current

/-- REVERSE_TRANSMISSION (R118): a sequential member fires its second burst at F2, where that has come, and its TDC restarts
there. VHD is not compared again (R102, R104). -/
def reverseTransmission (n : Nat) (acq : Bool) (cyc : Nat) (s0 : State) : State :=
  match (s0.ac.ctxAt n).attempt acq with
  | none => s0.atCyc cyc
  | some a =>
    let b := a.reverse s0.eff n
    if !(ctxSequential s0.eff n) || !a.oneWay || decide (cyc < cycOf32 b.up.at_) then s0.atCyc cyc
    else
      let s := s0.atCyc (cycOf32 b.up.at_)
      { s with ac := s.ac.modCtx n fun c => if acq then { c with acq := some b } else { c with current := some b } }

/-- A held shot of a group. -/
def State.heldFlight (s : State) (g : Nat) : Option Flight := s.ac.flight.find? fun f => f.group == g && f.held

/-- VHD_RECOVERED (R103): the held shot fires, displaced with CAUSE 3, and the rest of the frame is restored (R85). Its set-up
has been made, so that F is the moment of the recovery. -/
def vhdRecovered (g cyc : Nat) (s0 : State) : State :=
  let s := s0.atCyc cyc
  match s.heldFlight g with
  | none => s
  | some f =>
    let s1 := { s with
      frame := { s.frame with cause := 3 }
      ac := { s.ac with flight := s.ac.flight.filter fun q => q != f } }
    let s2 := s1.fireAt { f with start := s.frame.cyc - 384 } (500 * s.frame.cyc)
    let s3 := if f.latest < s.frame.cyc then s2.displaceShot 3 (cycles (s.frame.cyc - f.latest)) f.members else s2
    s3.restore 3 s.frame.nowQ

/-- HELD_SHOT_GIVEN_UP (R103): once the held shot can no longer end by E_k it is given up with CAUSE 3. -/
def heldShotGivenUp (g cyc : Nat) (s0 : State) : State :=
  let s := s0.atCyc cyc
  match s.heldFlight g with
  | none => s
  | some f =>
    if s.frame.nowQ + costGroup s.eff f.members ≤ s.limit + us 6 then s
    else
      (State.giveUpShot { s with
        pwr := s.pwr.switchOff 1
        ac := { s.ac with flight := s.ac.flight.filter fun q => q != f } } 3 (f.kind == 4) f.members).startFlow

/-! ### Windows, correlations and gates -/

/-- Apply a function to the attempt a command names: the acquisition shot or the attempt under way. -/
def Ctx.modAttempt (acq : Bool) (f : Attempt → Attempt) (c : Ctx) : Ctx :=
  if acq then { c with acq := c.acq.map f } else { c with current := c.current.map f }

/-- One direction of an attempt. -/
def Attempt.dir (up : Bool) (a : Attempt) : DirRun := if up then a.up else a.dn

/-- Replace one direction of an attempt. -/
def Attempt.setDir (up : Bool) (d : DirRun) (a : Attempt) : Attempt := if up then { a with up := d } else { a with dn := d }

/-- JOB, INPUT, DIR and ATTEMPT of Table 5.10. -/
def tdcCode (n : Nat) (acq up : Bool) (input number : Nat) : Nat :=
  ((if acq then 0x40 + n else n) % 256) * 256 + input * 8 + flagAt up 2 + (if acq then 0 else number % 4)

/-- Short-window mode (R171): the stop limit is at most 65 535 coarse periods. -/
def shortWindow (v : View) (n : Nat) : Bool := decide (ctxWs v n + ctxWl v n ≤ 65535)

/-- The contribution of one valid attempt to the template drift test (R155): the mean of the last 64 values (MATCH_UP +
MATCH_DN)/2, and the event where it falls below TEMPLATE_DRIFT_MIN. The rule names neither the rounding of the mean in CODE,
taken to nearest, nor ARG, taken as 0 (DESIGN CHOICE, log 89). -/
def Ctx.addScore (n driftMin score : Nat) (c : Ctx) : Ctx × List Raised :=
  let sc := (score :: c.scores).take 64
  let mean := (roundAway (quo (sc.sum : Rat) 128)).toNat
  if sc.length < 64 then ({ c with scores := sc }, [])
  else if c.driftArmed && decide (sc.sum < 128 * driftMin) then
    ({ c with scores := sc, driftArmed := false }, [{ ev := 15, code := mean, arg := 0, src := n, cls := 0 }])
  else ({ c with scores := sc, driftArmed := c.driftArmed || decide (128 * (driftMin + 0x0400) < sc.sum) }, [])

/-- A decided attempt acts on its context (R140, R141, R155, R184). -/
def Ctx.decided (v : View) (n : Nat) (a : Attempt) (c : Ctx) : Ctx × List Raised :=
  let c1 := { c with current := some a, dtRef := if a.hasDt then some a.dt else c.dtRef }
  if a.valid then
    { c1 with result := some (c1.result.getD a), centreUp := a.up.lag, centreDn := a.dn.lag }.addScore n
      (v (ck n 0x1A)) (a.up.matchQ + a.dn.matchQ)
  else (c1, [])

/-- After a direction of an attempt has settled: decide the attempt when both have, settle its issue slots, and ask for a retry
where it failed (R141, R144, R590). -/
def State.settle (s : State) (n : Nat) : State :=
  let c := s.ac.ctxAt n
  match c.current with
  | none => s
  | some a =>
    if a.decided then s
    else if a.up.settled && a.dn.settled then
      let b := { a.judge (s.eff (ck n 0x16)) c.dtRef c.acqRequested with slots := 0 }
      let r := c.decided s.eff n b
      let s1 := ({ s with ac := s.ac.modCtx n fun _ => r.1 }.raiseAll r.2).count (workActs 2 b.valid a.slots)
      if b.valid then s1
      else if reasonRetried b.up.reason || reasonRetried b.dn.reason || b.reason == 9 then s1.failed n else s1
    else if reasonRetried a.up.reason || reasonRetried a.dn.reason then s.failed n
    else s

/-- The capture of a window: WIN_LEN samples (R22). -/
def captureOf (len : Nat) (xs : List Int) : List Int := (List.range len).map fun i => adcSample (sampleAt xs i)

/-- A member of a shot in flight still has a window to close. -/
def Acoustic.open_ (a : Acoustic) (kind n : Nat) : Bool :=
  match (a.ctxAt n).attempt (kind == 4) with
  | none => false
  | some x => !x.up.closed || !x.dn.closed

/-- The shots whose windows have all closed have ended; the crossbar opens and HD goes off in their own time
(State.settlePins). -/
def State.endShots (s : State) : State :=
  { s with ac := { s.ac with flight := s.ac.flight.filter fun f => f.held || f.members.any fun n => s.ac.open_ f.kind n } }

/-- The events of a closed window: AFE_SATURATED (R129), TDC_OVF or TDC_TIMEOUT (R172 to R174) and STAMP_ORDER (R177). -/
def windowEvents (v : View) (n : Nat) (acq up : Bool) (number satSamples early : Nat) (wasMissing : Bool)
    (d : DirRun) : List Raised :=
  (if d.sat then [{ ev := 14, code := d.chain * 16 + flag (!up) + flagAt acq 1, arg := satSamples, src := n, cls := 0 }]
   else []) ++
  (if d.missing && !wasMissing then
     [if shortWindow v n then { ev := 11, code := tdcCode n acq up d.chain number, arg := 0, src := 0x44, cls := 0 }
      else { ev := 12, code := tdcCode n acq up d.chain number, arg := ctxWs v n + ctxWl v n, src := 0x44, cls := 0 }]
   else []) ++
  (if 0 < d.order then
     [{ ev := 13, code := tdcCode n acq up d.chain number, arg := min early (2 ^ 32 - 1), src := 0x44, cls := 0 }]
   else [])

/-- Add to a saturating 32-bit counter. -/
def satAdd32 (n k : Nat) : Nat := min (2 ^ 32 - 1) (n + k)

/-- What a window yields at the chain: WIN_LEN samples, with the sign that the receiving pin gives them (R22, R91). -/
def windowOf (v : View) (n : Nat) (up : Bool) (m : WindowMeas) : WindowMeas :=
  let x := { m with samples := captureOf (ctxWinLen v n) m.samples }
  if pinInvert v (rxPin v n up) then WindowMeas.inverted x else x

/-- The ledger cycle by which the window of a fired direction has closed (Table 3.7). -/
def DirRun.closeCyc (v : View) (n : Nat) (d : DirRun) : Nat := cycOf32 (d.at_ + windowEnd v n)

/-- WINDOW_CLOSE (R138): the capture is kept, the measurement of the direction ends and its early gates are decided. -/
def windowClose (n : Nat) (up acq : Bool) (m : WindowMeas) (s0 : State) : State :=
  match (s0.ac.ctxAt n).attempt acq with
  | none => s0
  | some a =>
    let d0 := a.dir up
    if !d0.fired || d0.closed then s0
    else
      let s := s0.atCyc (d0.closeCyc s0.eff n)
      let meas := windowOf s.eff n up m
      let r := d0.close_ s.eff n (s.ac.ctxAt n).h s.frame.cyc s.scaleK meas
      let d := r.1
      let st := r.2
      let newMissing := d.missing && !d0.missing
      let satN := (meas.samples.filter fun x => decide (x ≤ -2048) || decide (2047 ≤ x)).length
      let ac1 := s.ac.modCtx n fun c =>
        { c.modAttempt acq (Attempt.setDir up d) with
          satLowering := c.satLowering || d.sat, peak := if acq then c.peak else max c.peak d.amp
          windowed := c.windowed || !acq }
      let s1 := { s with ac := { ac1 with
        captures := setAt ac1.captures d.chain meas.samples
        chainSat := if d.sat then modAt ac1.chainSat d.chain (satInc (2 ^ 32 - 1)) else ac1.chainSat
        closeStamps := satAdd32 ac1.closeStamps st.close
        orderErrors := satAdd32 ac1.orderErrors st.order
        overflows := if newMissing && shortWindow s.eff n then satAdd32 ac1.overflows 1 else ac1.overflows
        timeouts := if newMissing && !shortWindow s.eff n then satAdd32 ac1.timeouts 1 else ac1.timeouts } }
      let s2 := (s1.raiseAll (windowEvents s.eff n acq up a.number satN st.early d0.missing d)).count
        [seqAct 1 0x20 0 st.seen, seqAct 1 0x21 0 st.close, seqAct 1 0x22 0 st.order,
         seqAct 1 0x25 0 (flag newMissing), seqAct 0 0x14 0 (flag d.sat)]
      let s3 := s2.endShots
      if acq then s3 else (s3.settle n).startFlow

/-- TDC_STOP_TIMEOUT (R173) of an acoustic direction: no stop by the timeout. -/
def acousticMissing (ev : Nat) (n : Nat) (up acq : Bool) (arg cyc : Nat) (s0 : State) : State :=
  let s := s0.atCyc cyc
  match (s.ac.ctxAt n).attempt acq with
  | none => s
  | some a =>
    let d := a.dir up
    if !d.fired || d.closed || d.missing then s
    else
      let ac1 := s.ac.modCtx n (Ctx.modAttempt acq (Attempt.setDir up { d with missing := true }))
      let s1 := { s with ac := { ac1 with
        overflows := if ev = 11 then satAdd32 ac1.overflows 1 else ac1.overflows
        timeouts := if ev = 12 then satAdd32 ac1.timeouts 1 else ac1.timeouts } }
      (s1.raise { ev := ev, code := tdcCode n acq up d.chain a.number, arg := min arg (2 ^ 32 - 1), src := 0x44, cls := 0 }).count
        [seqAct 1 0x25 0 1]

/-- The settings fusion needs (R191), with FUSION_TOL and FUSION_SPAN in force. -/
def State.fuseIn (s : State) (n : Nat) : FuseIn :=
  { ws := ctxWs s.eff n, period := ctxPeriodNs s.eff n,
    template := templateSamples (s.eff (ck n 0x10)) (ctxTemplateLen s.eff n), anchor := s.eff (ck n 0x11),
    gateMatch := s.eff (ck n 0x14), gateRatio := s.eff (ck n 0x13), tol := s.on_ 0x0A01 1, span := s.on_ 0x0A01 2,
    h := (s.ac.ctxAt n).h, scale := s.scaleK, blocked := s.fusionBlocked }

/-- The ledger cycles of the two tracking correlations of a context (Table 2.4). -/
def corCycles (v : View) (n : Nat) : Nat := costCor v n / 125

/-- CORRELATION_COMPLETE (R184): the tracking search of a direction, fusion and the late gates. -/
def correlationComplete (n : Nat) (up : Bool) (cyc : Nat) (s0 : State) : State :=
  let s := s0.atCyc cyc
  let c := s.ac.ctxAt n
  match c.current with
  | none => s
  | some a =>
    let d := a.dir up
    if !d.closed || d.correlated || d.reason != 0 then s
    else
      let f := s.fuseIn n
      let cap := s.ac.captures.getD d.chain []
      let centre : Int := if up then c.centreUp else c.centreDn
      let d1 := d.correlate f cap (searchLags cap.length f.template.length (centre - 64) (centre + 64))
      let s1 : State := { s with
        ac := s.ac.modCtx n fun c => c.modAttempt false fun b =>
          { b.setDir up { d1 with corAt := max d.closedAt s.frame.corFree } with slots := b.slots + corCycles s.eff n / 2 }
        frame := { s.frame.work 0 (corCycles s.eff n / 2) with corFree := s.frame.cyc } }
      ((s1.count [seqAct 2 0x37 0 (flag (d1.reason == 8))]).settle n).startFlow

/-- ACQUISITION_SEARCH_COMPLETE (R185): both directions of the acquisition shot are searched over ±1024 lags; on success
the tracking centres move and the request ends. -/
def acquisitionSearchComplete (n cyc : Nat) (s0 : State) : State :=
  let s := s0.atCyc cyc
  let c := s.ac.ctxAt n
  match c.acq with
  | none => s
  | some a =>
    if !a.up.closed || !a.dn.closed then s
    else
      let f := s.fuseIn n
      let run := fun (d : DirRun) =>
        let cap := s.ac.captures.getD d.chain []
        let lw : Int := ((cap.length - f.template.length) / 2 : Nat)
        if d.reason != 0 then d
        else d.correlate f cap (searchLags cap.length f.template.length (lw - 1024) (lw + 1024))
      let u := run a.up
      let d := run a.dn
      let ok := u.reason == 0 && d.reason == 0
      let s1 := { s with ac := s.ac.modCtx n fun c =>
        if ok then { c with acq := none, centreUp := u.lag, centreDn := d.lag, everFound := true, acqRequested := false }
        else { c with acq := none, everFound := false } }
      State.count (seqAct 2 0x36 0 1 :: workActs 2 ok (16 * corCycles s.eff n))
        { s1 with frame := { s1.frame.work 0 (16 * corCycles s.eff n) with corFree := s1.frame.cyc } }

/-- A direction of a shot in which lock was lost (R195) fails FUSION: as it is correlated, or now where it had passed. -/
def DirRun.loseLock (d : DirRun) : DirRun :=
  { d with lockLost := true, hasTime := false
           reason := if d.closed && d.correlated && d.reason == 0 then 8 else d.reason }

/-- An attempt of a shot in which lock was lost: every direction measured in the shot fails, and it is decided anew. -/
def Attempt.loseLock (a : Attempt) : Attempt :=
  { a with up := a.up.loseLock, dn := a.dn.loseLock, decided := false, valid := false, hasDt := false, dt := 0 }

/-- A context with a shot in which lock was lost: a valid attempt of that shot does not stand. -/
def Ctx.loseLock (kind : Nat) (c : Ctx) : Ctx :=
  if kind = 4 then { c with acq := c.acq.map Attempt.loseLock }
  else { c with
    current := c.current.map Attempt.loseLock
    result := c.result.filter fun a => (c.current.map Attempt.number) != some a.number }

/-- PLL_LOCK_LOST (R195) for the acoustic directions: the shots under way. -/
def Acoustic.loseLock (pll : Bool) (a : Acoustic) : Acoustic :=
  { (a.flight.filter fun f => !f.held).foldl (fun x f => f.members.foldl (fun y n => y.modCtx n (Ctx.loseLock f.kind)) x) a with
    pllLocked := a.pllLocked && !pll, dllLocked := false }

/-- The attempts that a loss of lock leaves with both directions settled are decided. -/
def State.settleAll (s : State) : State := (List.range 64).foldl State.settle s

/-- TM_INPUT_CALIBRATION (R169, R181): an input that calibrates by itself, 17 or 18, once TM is on. The stops of input 17 since
the calibration before stand under that one. -/
def tmInputCalibration (c : CalReading) (stops : List (Nat × Nat)) (s : State) : State :=
  let cal := (calOutcome c).1
  let act := [seqAct 1 0x23 2 (calOutcome c).2.2.1, seqAct 1 0x24 2 (calOutcome c).2.2.2]
  if c.input = 17 then
    { s with ac := { s.ac.calibrate c with gate17 := gateCal cal (gateStops stops s.ac.gate17) } }.count act
  else if c.input = 18 then
    { s with ac := { s.ac.calibrate c with gate18 := gateCal cal s.ac.gate18 } }.count act
  else s

/-- TM is switched off: the PLL and the DLL lose lock, and the stamps to come form another segment (R181, R208). -/
def Acoustic.tmOff (a : Acoustic) : Acoustic :=
  { a with pllLocked := false, dllLocked := false, gate17 := gateCut a.gate17, gate18 := gateCut a.gate18 }

end Sys2Proof.Machine
end

