-- ==== Sys2Proof/Machine/Records.lean ====
section
/-! DEFINITION. Heruk records (R27 to R33) and the queues that carry them: the SPI output queue (R470), the IN queue of
the core (R569), and the result records a boundary queues (R75). -/

namespace Sys2Proof.Machine

open Sys2Proof

/-- The header of a record as two words, the low word first (Table 1.5, R11). -/
def Record.header (r : Record) : List Nat :=
  [r.frame % 65536 * 65536 + r.payload.length % 1024,
   r.type % 256 * 2 ^ 24 + r.gen % 16 * 2 ^ 20 + r.cls % 16 * 2 ^ 16 + r.src % 256 * 256 + r.qual % 256]

/-- The words of a record. -/
def Record.words (r : Record) : List Nat := r.header ++ r.payload

/-- The length of a record in words. -/
def Record.size (r : Record) : Nat := 2 + r.payload.length

/-- A record from its two header words and its payload. -/
def Record.ofWords (lo hi : Nat) (payload : List Nat) : Record :=
  { type := field hi 31 24, gen := field hi 23 20, cls := field hi 19 16, src := field hi 15 8, qual := field hi 7 0,
    frame := field lo 31 16, payload := payload }

/-- Records of a content longer than 1023 words (R32): `fuel` bounds their number. -/
def Record.split : Nat → Record → List Record
  | 0, r => [{ r with payload := r.payload.take 1023 }]
  | fuel + 1, r =>
    if r.payload.length ≤ 1023 then [r]
    else { r with payload := r.payload.take 1023 } :: Record.split fuel { r with payload := r.payload.drop 1023 }

/-- The bit of SPI_RESULT_SELECT that selects a record type (R470); the types without one are not result records. -/
def resultBit : Nat → Option Nat
  | 0x01 => some 0
  | 0x03 => some 1
  | 0x02 => some 2
  | 0x04 => some 3
  | 0x0B => some 4
  | 0x0A => some 5
  | 0x09 => some 6
  | _ => none

/-- The generation that introduced a record type (Table 13.9). -/
def typeGen : Nat → Nat
  | 0x09 => 2
  | 0x0A => 3
  | _ => 1

/-- Words of the records queued for the host. -/
def Queues.spiWords (q : Queues) : Nat := (q.spiOut.map fun o => o.record.size).sum

/-- Words of the records the SPI input queue holds. -/
def Queues.spiInWords (q : Queues) : Nat := (q.spiIn.map Record.size).sum

/-- The generation of a port's session. -/
def Queues.gen (q : Queues) (port : Nat) : Nat := natAt q.gens port

/-- Queue records for the host that may wait for room (R39, R470): in order, behind those that wait. -/
def Queues.toHost (rs : List OutRec) (q : Queues) : Queues :=
  rs.foldl (fun q o =>
    if q.spiHeld.isEmpty && decide (q.spiWords + o.record.size ≤ 2048) then { q with spiOut := q.spiOut ++ [o] }
    else { q with spiHeld := q.spiHeld ++ [o] }) q

/-- Move waiting answers into the room that has become free (R39). -/
def Queues.refillHost : Nat → Queues → Queues
  | 0, q => q
  | fuel + 1, q =>
    match q.spiHeld with
    | [] => q
    | o :: os =>
      if q.spiWords + o.record.size ≤ 2048 then
        Queues.refillHost fuel { q with spiOut := q.spiOut ++ [o], spiHeld := os }
      else q

/-- Queue an answer for the core, or hold it until it fits (R569, R39). -/
def Queues.toCore (r : Record) (q : Queues) : Queues :=
  if q.coreHeld.isEmpty && decide (q.coreIn.length + r.size ≤ 1024) then { q with coreIn := q.coreIn ++ r.words }
  else { q with coreHeld := q.coreHeld ++ [r] }

/-- Move waiting answers into the IN queue. -/
def Queues.refillCore : Nat → Queues → Queues
  | 0, q => q
  | fuel + 1, q =>
    match q.coreHeld with
    | [] => q
    | r :: rs =>
      if q.coreIn.length + r.size ≤ 1024 then
        Queues.refillCore fuel { q with coreIn := q.coreIn ++ r.words, coreHeld := rs }
      else q

/-- A result record for the host: queued where it is selected, its type exists in the session and it fits; counted in
SPI_DROPPED where it does not fit (R470, R456). -/
def Queues.resultHost (select : Nat) (sirq : Bool) (r : Record) (q : Queues) : Queues :=
  match resultBit r.type with
  | none => q
  | some b =>
    if bitAt select b && decide (typeGen r.type ≤ q.gen 1) then
      let parts := (Record.split 4 { r with gen := q.gen 1 }).map fun x => ({ record := x, sirq := sirq } : OutRec)
      if q.spiWords + (parts.map fun o => o.record.size).sum ≤ 2048 then { q with spiOut := q.spiOut ++ parts }
      else { q with spiDropped := satInc (2 ^ 32 - 1) q.spiDropped }
    else q

/-- A result record for the core (R569): generation 3, counted in CORE_DROPPED where it does not fit. -/
def Queues.resultCore (select : Nat) (r : Record) (q : Queues) : Queues :=
  match resultBit r.type with
  | none => q
  | some b =>
    if bitAt select b then
      let ws := (Record.split 4 { r with gen := 3 }).flatMap Record.words
      if q.coreIn.length + ws.length ≤ 1024 then { q with coreIn := q.coreIn ++ ws }
      else { q with coreDropped := satInc (2 ^ 32 - 1) q.coreDropped }
    else q

/-- Queue a result record where it is selected: for the host (0x1810:01) and for the core (0x1D01:04). The host's copy
asserts SIRQ (R74, R471). -/
def State.emit (r : Record) (s : State) : State :=
  { s with q := (s.q.resultHost (s.on_ 0x1810 1) true r).resultCore (s.on_ 0x1D01 4) r }

/-- Queue result records in order. -/
def State.emitAll (rs : List Record) (s : State) : State := rs.foldl (fun acc r => acc.emit r) s

/-- SIRQ is asserted (R471). -/
def Queues.sirq (q : Queues) : Bool := q.spiOut.any OutRec.sirq

/-- Link errors of a port (R466): the count saturates. -/
def Queues.error (port : Nat) (q : Queues) : Queues :=
  { q with linkErrors := modAt q.linkErrors port (satInc (2 ^ 32 - 1)) }

/-- One link error of a port, counted for the performance counters as well. -/
def State.linkError (port : Nat) (s : State) : State :=
  { s with q := s.q.error port }.count [linkAct 0x62 1]

end Sys2Proof.Machine
end

