-- ==== Sys2Proof/Machine/Close.lean ====
section
/-! DEFINITION. What the path contexts do at the boundary that closes a frame: their results and PATH_RESULT records
(R147 to R149, R196, R197), the frame-pair updates (R106, R108, R122, R127, R130, R152, R157), template capture (R189,
R190), abandoned jobs (R88) and WAVEFORM records (R198, R199). -/

namespace Sys2Proof.Machine

open Sys2Proof

/-! ### PATH_RESULT (R196, R197) -/

/-- The attempt a PATH_RESULT reports: the first valid one, or else the last one fired (R141, R147). -/
def Ctx.reported (c : Ctx) : Option Attempt :=
  match c.result with
  | some a => some a
  | none => c.current

/-- The reason of a context for the frame: 0 where it is valid, GIVEN_UP under R148, else that of the last attempt. -/
def Ctx.frameReason (c : Ctx) : Nat :=
  if c.result.isSome then 0
  else if c.givenUp then 11
  else match c.current with
    | none => if c.acqRequested then 10 else 0
    | some a => if a.decided then a.reason else (attemptReason a.up a.dn).1

/-- The REASON field of one direction: the context-level reasons 9, 10 and 11 stand in both (R197). -/
def dirReason (frameReason : Nat) (d : DirRun) : Nat := if 9 ≤ frameReason then frameReason else d.reason

/-- A direction reached the correlation and has a main peak (R197). -/
def DirRun.peaked (d : DirRun) : Bool := d.correlated && d.hasPeak

/-- The payload of Table 5.7 for an attempt. -/
def pathPayload (v : View) (n : Nat) (oddFrame : Bool) (reason : Nat) (a : Attempt) : List Nat :=
  let u := a.up
  let d := a.dn
  let on := fun (b : Bool) (x : Nat) => if b then x else 0
  let tu := on u.hasTime u.time
  let td := on d.hasTime d.time
  let fuse := fun (x : DirRun) => on x.chosen (unsigned 16 (max (-32767) (min 32767 (roundAway (quo (1000 * (x.fuse : Rat)) 65536)))))
  [low 32 tu, field td 47 32 * 65536 + field tu 47 32, low 32 td, unsigned 32 (if a.hasDt then a.dt else 0),
   on u.fitted u.freq, on d.fitted d.freq, on u.closed u.amp * 65536 + on d.closed d.amp,
   on u.peaked u.matchQ * 65536 + on d.peaked d.matchQ, fuse u * 65536 + fuse d,
   on u.closed u.stamps.length * 2 ^ 24 + on d.closed d.stamps.length * 65536 + dirReason reason u % 16 * 4096 +
     dirReason reason d % 16 * 256 + a.number % 4 * 64 + flagAt oddFrame 5 + flagAt (ctxSequential v n) 4,
   on u.fired u.gain * 2 ^ 24 + on d.fired d.gain * 65536 + on u.peaked u.ratio * 256 + on d.peaked d.ratio,
   min 15 (on u.closed u.close) * 2 ^ 28 + min 15 (on d.closed d.close) * 2 ^ 24 + min 15 (on u.closed u.order) * 2 ^ 20 +
     min 15 (on d.closed d.order) * 65536]

/-- QUAL of a PATH_RESULT (Table 1.6, Table 4.4, R147, R129, R177). -/
def pathQual (provisional : Bool) (c : Ctx) : Nat :=
  let valid := c.result.isSome
  let dirs := match c.reported with
    | none => []
    | some a => [a.up, a.dn]
  let has := fun (x : Nat) => !valid && dirs.any fun d => d.reason == x
  let retried := if valid then (c.result.map fun a => a.number).getD 0 != 0 else decide (1 < c.attempts)
  flag valid + flagAt (!valid) 1 + flagAt retried 2 + flagAt (has 1) 3 + flagAt (dirs.any fun d => d.sat) 4 +
    flagAt (dirs.any fun d => decide (0 < d.order)) 5 + flagAt (has 5) 6 +
    flagAt provisional 7

/-- The PATH_RESULT of a context that fires in the frame. -/
def pathRecord (v : View) (n frame : Nat) (provisional : Bool) (c : Ctx) : Record :=
  { type := 0x01, gen := 0, cls := 0, src := n, qual := pathQual provisional c, frame := frame % 65536,
    payload := match c.reported with
      | some a => pathPayload v n (frame % 2 == 1) c.frameReason a
      | none => (List.replicate 9 0) ++ [c.frameReason % 16 * 4096 + c.frameReason % 16 * 256 +
          flagAt (frame % 2 == 1) 5 + flagAt (ctxSequential v n) 4, 0, 0] }

/-! ### The frame of a context -/

/-- f_meas of the directions of the reported attempt that passed their gates, Hz (R106, R179). -/
def Ctx.passedFreqs (c : Ctx) : List Rat :=
  match c.reported with
  | none => []
  | some a => ([a.up, a.dn].filter fun d => d.closed && d.correlated && d.reason == 0 && d.fmeas != 0).map DirRun.fmeas

/-- What the frame leaves for its pair. -/
def Ctx.halfOf (c : Ctx) : PairHalf :=
  { fired := true, valid := c.result.isSome, subst := c.result.isNone,
    retried := match c.result with
      | some a => a.number != 0
      | none => decide (1 < c.attempts)
    gain := c.g, dt := (c.result.map fun a => a.dt).getD 0, peak := c.peak, windowed := c.windowed, freqs := c.passedFreqs,
    badArrival := c.result.isNone && match c.reported with
      | none => false
      | some a => [a.up, a.dn].any fun d => d.reason == 7 || d.reason == 2 }

/-- The mean of some numbers. -/
def meanR (xs : List Rat) : Rat := quo (sumR xs) ((xs.length : Nat) : Rat)

/-- The retuned half-period (R106). -/
def retuned (v : View) (n h : Nat) (mean : Rat) : Nat :=
  let fr := realFreq h
  let nom : Rat := ctxFreq v n
  let span : Rat := quo (v (key 0x0801 4)) 1000000
  let next := fr + (mean - fr) / 8
  halfPeriod (min (max next (nom * (1 - span))) (nom * (1 + span)))

/-- RESONANCE_DRIFT over one frame pair (R108). -/
def Ctx.drift (v : View) (n : Nat) (mean : Option Rat) (c : Ctx) : Ctx × List Raised :=
  match mean with
  | none => ({ c with driftRun := 0, driftRaised := false }, [])
  | some m =>
    let nom : Rat := ctxFreq v n
    let dev := m - nom
    let mag := if dev < 0 then -dev else dev
    if nom * (v (key 0x0801 5) : Rat) < mag * 1000000 then
      let run := satInc 255 c.driftRun
      let now := decide (v (key 0x0801 6) ≤ run) && !c.driftRaised
      ({ c with driftRun := run, driftRaised := c.driftRaised || now },
        if now then [{ ev := 23, code := unsigned 16 (clampSigned 16 (roundAway (quo (dev * 10000) nom))),
                       arg := (roundAway (100 * m)).toNat % 2 ^ 32, src := n, cls := 0 }] else [])
    else ({ c with driftRun := 0, driftRaised := false }, [])

/-- The AGC step of a frame pair (R127). -/
def agcStep (target peak : Nat) : Int :=
  if peak = 0 then 12
  else max (-12) (min 12 (roundAway (40 * log10R (quo ((16 * target : Nat) : Rat) ((peak : Nat) : Rat)))))

/-- A saturation lowers the gain of a context with AGC (R130). -/
def Ctx.lowered (v : View) (n : Nat) (c : Ctx) : Ctx :=
  if rxAgc v n && c.satLowering then { c with g := c.g - 24 } else c

/-- The update of a zero-offset measurement at the end of a pair (R157). -/
def Ctx.zeroPair (e o : PairHalf) (c : Ctx) : Ctx :=
  if c.zeroStatus = 1 ∧ c.zeroLive = true then
    let good := e.fired && e.valid && o.valid && !e.retried && !o.retried
    let k := c.zeroGood + flag good
    let sum := if good then c.zeroSum + e.dt + o.dt else c.zeroSum
    let c1 := { c with zeroSeen := c.zeroSeen + 1, zeroGood := k, zeroSum := sum }
    if k = c.zeroPairs then
      { c1 with zeroStatus := 2, zeroResult := roundAway (quo (sum : Rat) ((2 * c.zeroPairs : Nat) : Rat)) }
    else if 4 * c.zeroPairs ≤ c1.zeroSeen then { c1 with zeroStatus := 3 }
    else c1
  else c

/-- The end of a frame pair: mismatch, gain, retuning, drift, zero capture and the request of R152. P of R127 is taken from the
windows of attempts; without any in the pair g stands (DESIGN CHOICE, log 22). -/
def Ctx.closePair (v : View) (n : Nat) (c : Ctx) (o : PairHalf) : Ctx × List Raised :=
  let e := c.half
  let both := e.fired && e.valid && o.valid && decide (e.gain = o.gain)
  let fs := e.freqs ++ o.freqs
  let mean := if fs.isEmpty then none else some (meanR fs)
  let c1 := { c with
    m := if both then c.m + (((e.dt - o.dt : Int) : Rat) / 2 - c.m) / 16 else c.m
    g := if rxAgc v n && (e.windowed || o.windowed) then
           (max 0 (min 132 ((c.g : Int) + agcStep (v (key 0x0801 7)) (max e.peak o.peak)))).toNat else c.g
    h := match mean with
      | some m => if drvRetune v n then retuned v n c.h m else c.h
      | none => c.h
    acqRequested := c.acqRequested || (e.fired && e.badArrival && o.badArrival)
    half := PairHalf.blank }
  (c1.zeroPair e o).drift v n mean

/-- SHOT_SUBST and PATH_LOST of a context that fired in the frame (R147, R149). -/
def Ctx.frameEvents (v : View) (n : Nat) (c : Ctx) : Ctx × List Raised :=
  if c.result.isSome then
    ({ c with invalidRun := 0, validLast := true, lost := false, lastReason := 0 }, [])
  else
    let r := c.frameReason
    let run := satInc (2 ^ 32 - 1) c.invalidRun
    let bad := fun (d : DirRun) => 9 ≤ r || d.reason != 0
    let bits := if r = 10 ∨ r = 11 then 0 else match c.current with
      | some a => flagAt (bad a.up) 1 + flag (bad a.dn)
      | none => 0
    let lost := decide (v (ck n 0x19) ≤ run)
    ({ c with invalidRun := run, validLast := false, lastReason := r, lost := c.lost || lost,
              substs := satInc (2 ^ 48 - 1) c.substs },
      { ev := 9, code := c.attempts % 8 * 8192 + r % 16 * 256 + bits, arg := run, src := n, cls := 0 } ::
        (if lost && !c.lost then [{ ev := 10, code := r % 16 * 256, arg := run, src := n, cls := 0 }] else []))

/-- A context with nothing of the closed frame left. -/
def Ctx.fresh (c : Ctx) : Ctx :=
  { c with attempts := 0, current := none, result := none, acq := none, acqServed := false, givenUp := false,
           wantsRetry := false, satLowering := false, peak := 0, windowed := false }

/-- A context that fires at the boundary that closes its frame: its runtime state, its events and its record. -/
def Ctx.close (v : View) (n frame : Nat) (provisional : Bool) (c : Ctx) : Ctx × List Raised × Record :=
  let r := c.frameEvents v n
  let half := r.1.halfOf
  let p := if frame % 2 = 1 then r.1.closePair v n half else ({ r.1 with half := half }, [])
  ((p.1.lowered v n).fresh, r.2 ++ p.2, pathRecord v n frame provisional c)

/-- A context that does not fire in the frame: an odd frame still ends its pair, of which the even frame may have fired, and a
saturation of an acquisition shot lowers its gain (R130). -/
def Ctx.idle (v : View) (n frame : Nat) (c : Ctx) : Ctx × List Raised :=
  let p := if frame % 2 = 0 then (c, [])
    else if c.half.fired then c.closePair v n PairHalf.blank
    else (c.zeroPair PairHalf.blank PairHalf.blank, [])
  ({ (p.1.lowered v n).fresh with half := PairHalf.blank }, p.2)

/-- What CTX_STATUS shows from a boundary on (R165, Table 4.6). -/
def Ctx.show (inPlan : Bool) (c : Ctx) : Ctx := { c with acquiredShown := c.acquired, inPlanShown := inPlan }

/-- A SHOT row of the admitted plan names the context (Table 4.6). -/
def State.inPlan (s : State) (n : Nat) : Bool :=
  (decide (s.mode = .measure) || decide (s.mode = .verify)) && (planContexts s.eff).contains n

/-- Close the contexts of the frame, in ascending order (R75, R165); `old` is the state as its frame ends, and the events
are raised at the boundary. -/
def State.closeContexts (old s : State) : State × List Record :=
  (List.range 64).foldl (fun acc n =>
    if old.scheduled n then
      let r := (old.ac.ctxAt n).close old.eff n old.frame.number old.clk.provisional
      ({ acc.1 with ac := acc.1.ac.modCtx n fun _ => r.1.show (old.inPlan n) }.raiseAll r.2.1, acc.2 ++ [r.2.2])
    else
      let r := (old.ac.ctxAt n).idle old.eff n old.frame.number
      ({ acc.1 with ac := acc.1.ac.modCtx n fun _ => r.1.show (old.inPlan n) }.raiseAll r.2, acc.2)) (s, [])

/-! ### Template capture (R188 to R190) -/

/-- A capture resampled by linear interpolation, position `u` falling on sample `anchor` (R189). -/
def resample (capture : List Int) (len anchor : Nat) (u : Rat) : List Rat :=
  let at_ := fun (i : Int) => if 0 ≤ i ∧ i.toNat < capture.length then sampleAt capture i.toNat else Config.outsideCapture i
  (List.range len).map fun i =>
    let x := u + (i : Rat) - (anchor : Rat)
    let k := x.floor
    let t := x - (k : Rat)
    ((at_ k : Int) : Rat) * (1 - t) + ((at_ (k + 1) : Int) : Rat) * t

/-- Add two sums of samples; an empty one counts as zeros. -/
def addSamples (a b : List Rat) : List Rat := if a.isEmpty then b else List.zipWith (fun x y => x + y) a b

/-- One direction of a first attempt contributes to the running capture where it may (R189). -/
def Capture.take (v : View) (n : Nat) (capture : List Int) (d : DirRun) (c : Capture) : Capture :=
  if c.status = 1 ∧ c.ctx = n ∧ c.live = true ∧ d.reason = 0 ∧ d.sat = false ∧ d.fitted = true then
    let u := quo (d.anchor - 65536 * (ctxWs v n : Rat)) (65536 * (ctxPeriodNs v n : Rat))
    { c with half := addSamples c.half (resample capture (ctxTemplateLen v n) c.anchor u), goods := c.goods + 1 }
  else c

/-- A sum scaled so that its largest absolute sample is 16 383 (R189). The rule names neither the rounding, taken to nearest with
halves away from zero, nor the result for a sum of zeros, taken as zeros (DESIGN CHOICE, log 90). -/
def scaledTemplate (xs : List Rat) : List Int :=
  let big := xs.foldl (fun m x => max m (if x < 0 then -x else x)) 0
  if big = 0 then xs.map fun _ => 0 else xs.map fun x => roundAway (quo (16383 * x) big)

/-- Template capture at the boundary that closes a frame (R189, R190). -/
def Capture.closeFrame (frame : Nat) (c : Capture) : Capture :=
  if c.status = 1 ∧ c.live = true ∧ frame % 2 = 1 then
    let good := c.goods == 4
    let c1 := { c with seen := c.seen + 1, used := c.used + flag good, half := [], goods := 0,
                       sum := if good then addSamples c.sum c.half else c.sum }
    if c1.used = c.pairs then
      { c1 with status := 2, live := false, result := scaledTemplate c1.sum, resultAnchor := c.anchor * 65536 }
    else if 4 * c.pairs ≤ c1.seen then { c1 with status := 3, live := false }
    else c1
  else c

/-- The opening of an even frame starts what was waiting for it (R157, R189). -/
def Acoustic.openFrame (frame : Nat) (a : Acoustic) : Acoustic :=
  if frame % 2 = 0 then
    { a with ctx := a.ctx.map fun c => if c.zeroStatus = 1 then { c with zeroLive := true } else c
             capture := if a.capture.status = 1 then { a.capture with live := true } else a.capture }
  else a

/-- The device leaves VERIFY (R158, R190). -/
def Acoustic.leaveVerify (a : Acoustic) : Acoustic :=
  { a with ctx := a.ctx.map fun c => if c.zeroStatus = 1 then { c with zeroStatus := 3 } else c
           capture := if a.capture.status = 1 then { a.capture with status := 3, live := false } else a.capture }

/-! ### Abandoned jobs (R88) -/

/-- FRAME_OVERRUN with KIND, JOB and the time the job has run. -/
def overrun (kind job arg : Nat) : Raised :=
  { ev := 3, code := kind * 4096 + job % 256, arg := arg % 2 ^ 32, src := 0x40, cls := 0 }

/-- The tracking correlations of an attempt that run at the boundary: from the start of the first of the two on. A context
whose correlations had not started is none. `head` is the correlation that runs, with its start. -/
def Attempt.correlating (n : Nat) (head : Option (CorJob × Nat)) (a : Attempt) : Option Nat :=
  let own := head.bind fun h => if h.1.ctx = n ∧ h.1.acq = false then some h.2 else none
  if [a.up, a.dn].any DirRun.awaits then
    match [a.up, a.dn].find? fun d => d.correlated with
    | some d => some d.corAt
    | none => own
  else none

/-- The jobs of a context still running at the boundary, `now` ledger cycles into the frame: a shot, a tracking correlation,
and an acquisition search from the start of its shot on. -/
def Ctx.abandoned (n now : Nat) (head : Option (CorJob × Nat)) (c : Ctx) : List Raised :=
  (match c.current with
   | none => []
   | some a =>
     (if (a.up.closed && a.dn.closed) = false then [overrun 1 n (now - a.start)] else []) ++
     match a.correlating n head with
     | some t => [overrun 2 n (now - t)]
     | none => []) ++
  match c.acq with
  | none => []
  | some a => [overrun 3 n (now - a.start)]

/-- The abandoned shots, correlations and searches of the frame. -/
def State.abandonedShots (s : State) (now : Nat) : List Raised :=
  let head := s.corQueue.head?.bind fun j =>
    if s.frame.corStart j < now then some (j, s.frame.corStart j) else none
  (List.range 64).flatMap fun n => (s.ac.ctxAt n).abandoned n now head

/-! ### WAVEFORM (R198, R199) -/

/-- The directions WAVEFORM_SELECT selects for a context in the present mode; up is 1. -/
def State.waveSelected (s : State) (n : Nat) (up : Bool) : Bool :=
  let w := s.on_ 0x0A30 1
  decide (s.mode = .verify) && bitAt w 15 && field w 5 0 == n && (if up then bitAt w 14 else bitAt w 13)

/-- Ledger cycles of the copy of a capture (R199). -/
def copyCycles (v : View) (n : Nat) : Nat := (ctxWinLen v n + 1) / 2

/-- The dynamic job of the copy of a capture. -/
def waveJob (n : Nat) (up : Bool) : DynJob := { kind := 4, job := 2 * n + flag up }

/-- The window of the next planned shot on a chain opens at this time of the frame, in the ledger's unit (R22, R199). -/
def State.nextWindow (s : State) (chain : Nat) : Option Nat :=
  ((s.frame.planned.filter s.mayRun).filterMap fun p =>
    ((s.plannedShot p).chains.find? fun c => c.1 == chain).map fun c => p.start + us 6 + c.2).min?

/-- The waveform of a frame is not sent (R199). -/
def State.skipWave (s : State) : State :=
  { s with ac := { s.ac with waveSkipped := satInc (2 ^ 32 - 1) s.ac.waveSkipped } }

/-- A window of a first attempt closed: its copy is requested as an Ochre job, to end by E_k and before the next window on
its chain opens, or the waveform of the frame is skipped (R199). -/
def State.requestWave (s : State) (n : Nat) (up : Bool) (d : DirRun) : State :=
  if s.waveSelected n up then
    let f := s.frame
    let endQ := max f.corEnd f.nowQ + cycles (copyCycles s.eff n)
    if endQ ≤ s.limit ∧ ((s.nextWindow d.chain).map fun t => decide (endQ ≤ t)).getD true = true then
      { s with
        frame := { f with corEnd := endQ, waiting := f.waiting ++ [waveJob n up] }
        ac := { s.ac with waves := s.ac.waves ++
          [{ ctx := n, up := up, dir := d, samples := s.ac.captures.getD d.chain [] }] } }
    else s.skipWave
  else s

/-- The copies whose capture the window that opens on a chain takes are not sent (R22, R199). -/
def State.dropWaves (s : State) (chain : Nat) : State :=
  let gone := s.ac.waves.filter fun w => w.dir.chain == chain
  gone.foldl (fun acc _ => acc.skipWave) { s with
    frame := { s.frame with waiting := s.frame.waiting.filter fun j => !(gone.any fun w => waveJob w.ctx w.up == j) }
    ac := { s.ac with waves := s.ac.waves.filter fun w => w.dir.chain != chain } }

/-- Two samples to a word, the earlier in the low half (Table 5.9). -/
def sampleWords (len : Nat) (xs : List Int) : List Nat :=
  (List.range ((len + 1) / 2)).map fun i =>
    unsigned 16 (if 2 * i + 1 < len then sampleAt xs (2 * i + 1) else 0) * 65536 + unsigned 16 (sampleAt xs (2 * i))

/-- The WAVEFORM record of a direction (Table 5.9). -/
def waveRecord (v : View) (n frame : Nat) (up : Bool) (capture : List Int) (d : DirRun) : Record :=
  let len := ctxWinLen v n
  { type := 0x09, gen := 0, cls := 2, src := n,
    qual := flag (d.reason == 0) + flagAt (d.reason == 1) 3 + flagAt d.sat 4 + flagAt (d.reason == 5) 6,
    frame := frame % 65536,
    payload := [n * 2 ^ 26 + flagAt up 25 + d.chain % 16 * 2 ^ 21 + field (v (ck n 0x07)) 15 14 * 2 ^ 19,
                len * 65536 + d.gain * 256, ctxWs v n] ++ sampleWords len capture }

/-- WAVEFORM_COPY_COMPLETE (R199): the copy ends and the record of the first attempt is emitted; a copy that was not admitted
or has been deferred has no effect. -/
def waveformCopyComplete (n : Nat) (up : Bool) (cyc : Nat) (s0 : State) : State :=
  let s := s0.atCyc cyc
  match s.ac.waves.find? fun w => w.ctx == n && w.up == up with
  | none => s
  | some w =>
    State.emit (waveRecord s.eff n s.frame.number up w.samples w.dir) { s with
      frame := { s.frame.finish (waveJob n up) with corFree := s.frame.cyc }
      ac := { s.ac with waves := s.ac.waves.filter fun x => x.ctx != n || x.up != up } }

/-- WINDOW_CLOSE with the work on the first attempt's capture: the template capture and the waveform copy. The window that
closes had taken the capture RAM of its chain as it opened. -/
def windowCloseAll (n : Nat) (up acq : Bool) (m : WindowMeas) (s0 : State) : State :=
  match (s0.ac.ctxAt n).attempt acq with
  | none => s0
  | some b =>
    let d0 := b.dir up
    if !d0.fired || d0.closed then s0
    else
      let s := windowClose n up acq m (s0.dropWaves d0.chain)
      if acq || b.number != 0 then s
      else match (s.ac.ctxAt n).attempt acq with
        | none => s
        | some a =>
          let d := a.dir up
          State.requestWave { s with ac := { s.ac with
            capture := s.ac.capture.take s.eff n (s.ac.captures.getD d.chain []) d } } n up d

end Sys2Proof.Machine
end

