-- ==== Sys2Proof/Machine/Sensors.lean ====
section
/-! DEFINITION. Temperature and pressure inputs (Chapter 7): the discharges of a sensor job, the conversion to
temperature and pressure, fault codes, holds, and the SENSOR_RESULT record. -/

namespace Sys2Proof.Machine

open Sys2Proof

/-! ### Values and faults (R243 to R247) -/

/-- A value of the state: 0 to 3 ports, 4 pressure, 5 internal. -/
def Sensors.val (x : Sensors) (i : Nat) : Sensed := x.vals.getD i Sensed.reset

/-- Change a value. -/
def Sensors.modVal (x : Sensors) (i : Nat) (f : Sensed → Sensed) : Sensors := { x with vals := modAt x.vals i f }

/-- A value beyond its hold (R246, R250). -/
def Sensed.beyond (hold : Nat) (v : Sensed) : Bool := v.named8 || (v.measured && v.code != 0 && decide (hold < v.run))

/-- A value held under R245 or R247. -/
def Sensed.held (hold : Nat) (v : Sensed) : Bool :=
  !v.beyond hold && (!v.measured || (v.code != 0 && decide (v.run ≤ hold)))

/-- The hold of a value: SENSOR_HOLD measurements, but for the internal sensor, whose last good value is used until it
recovers (R244). -/
def Sensors.holdOf (hold i : Nat) (x : Sensors) : Nat := if i = 5 then (x.val 5).run else hold

/-- 0 live, 1 held, 2 beyond the hold. -/
def Sensors.standing (hold i : Nat) (x : Sensors) : Nat :=
  let h := x.holdOf hold i
  if (x.val i).beyond h then 2 else if (x.val i).held h then 1 else 0

/-- SENSOR_STATUS (Table 7.7). -/
def Sensors.status (hold i : Nat) (x : Sensors) : Nat :=
  let v := x.val i
  flagAt (v.measured && v.held (x.holdOf hold i)) 7 + v.code % 16

/-- What the next frame uses (R235). -/
def Sensors.publish (hold : Nat) (x : Sensors) : Sensors :=
  { x with pub := (List.range 6).map fun i => ((x.val i).value, x.standing hold i) }

/-- SENSOR_FAULT with its source, fault code and ARG (R244). -/
def sensorFault (source code arg : Nat) : Raised :=
  { ev := 20, code := source % 16 * 4096 + code % 16 * 256, arg := arg, src := 0x46, cls := 0 }

/-- A faulty measurement of a value: its code, the hold, SENSOR_FAULTS and the event where the value was fault-free.
`quiet` is the code 5 a port takes from its reference. -/
def State.sensorFails (i code : Nat) (quiet : Bool) (e : Raised) (s : State) : State :=
  let v := s.sen.val i
  { s with sen := { s.sen.modVal i fun v =>
      { v with code := code, run := v.run + 1, armed := false, measured := true, updated := true } with
        faults := satInc (2 ^ 32 - 1) s.sen.faults } }.raiseIf (v.armed && !quiet) e

/-- A fault-free measurement of a value. -/
def Sensed.good (value : Int) (history : List Int) (v : Sensed) : Sensed :=
  { v with code := 0, value := value, run := 0, armed := true, measured := true, named8 := false, updated := true,
           history := history }

/-- A fault of the reference discharge (R244): one event with source 6. -/
def State.referenceFails (code : Nat) (s : State) : State :=
  { s with sen := { s.sen with faults := satInc (2 ^ 32 - 1) s.sen.faults, refArmed := false } }.raiseIf s.sen.refArmed
    (sensorFault 6 code 0)

/-! ### Resistance and temperature (R233, R234) -/

/-- TYPE of a port (Table 7.8). -/
def portType (v : View) (i : Nat) : Nat := field (v (key 0x0B00 (i + 1))) 1 0

/-- R_x in mΩ from the discharge times in TU (R233). -/
def resistance (v : View) (die : Int) (i tref tx : Nat) : Rat :=
  quo ((tx : Rat) - Config.comparatorDelay) ((tref : Rat) - Config.comparatorDelay) *
      ((v (key 0x0B08 1) : Rat) + Config.switchOhms 4 die) -
    Config.switchOhms i die - (v (key 0x0B04 (i + 1)) : Rat)

/-- The IEC 60751 relation, with the C term only below 0 °C. -/
def rtdOhms (r0 a b c θ : Rat) : Rat :=
  r0 * (1 + a * θ + b * θ * θ + (if θ < 0 then c * (θ - 100) * θ * θ * θ else 0))

/-- Its derivative. -/
def rtdSlope (r0 a b c θ : Rat) : Rat :=
  r0 * (a + 2 * b * θ + (if θ < 0 then c * (4 * θ * θ * θ - 300 * θ * θ) else 0))

/-- Newton iteration to a step below 0.01 mK, at most `fuel` steps (R234, Table 7.6 code 9). -/
def newton (r0 a b c r : Rat) : Nat → Rat → Option Rat
  | 0, _ => none
  | fuel + 1, θ =>
    let d := rtdSlope r0 a b c θ
    if d = 0 then none
    else
      let step := f64 ((rtdOhms r0 a b c θ - r) / d)
      let θ1 := f64 (θ - step)
      if (if step < 0 then -step else step) * 100000 < 1 then some θ1 else newton r0 a b c r fuel θ1

/-- All of some words are finite F32 values. -/
def allFinite (ws : List Nat) : Bool := ws.all finiteF32

/-- The temperature in mK of an RTD of resistance `r` mΩ; none where the conversion fails. -/
def rtdTemp (v : View) (i : Nat) (r : Rat) : Option Rat :=
  let w := [v (key 0x0B06 1), v (key 0x0B06 2), v (key 0x0B06 3)]
  let r0 : Rat := v (key 0x0B01 (i + 1))
  let a := ofF32 (v (key 0x0B06 1))
  if !allFinite w || r0 = 0 || a = 0 then none
  else (newton r0 a (ofF32 (v (key 0x0B06 2))) (ofF32 (v (key 0x0B06 3))) r 32 (f64 ((r / r0 - 1) / a))).map fun θ => 1000 * θ

/-- The temperature in mK of an NTC. -/
def ntcTemp (v : View) (i : Nat) (r : Rat) : Option Rat :=
  let w := [v (key 0x0B07 (3 * i + 1)), v (key 0x0B07 (3 * i + 2)), v (key 0x0B07 (3 * i + 3))]
  if !allFinite w || r ≤ 0 then none
  else
    let l := lnR (r / 1000)
    let y := ofF32 (v (key 0x0B07 (3 * i + 1))) + ofF32 (v (key 0x0B07 (3 * i + 2))) * l +
      ofF32 (v (key 0x0B07 (3 * i + 3))) * l * l * l
    if y = 0 then none else some (1000 / y - 273150)

/-- The temperature of a port, whole mK, with TS_OFFSET (R234); none where it is not finite or does not fit. -/
def portTemp (v : View) (i : Nat) (r : Rat) : Option Int :=
  let t := if portType v i = 1 then rtdTemp v i r else ntcTemp v i r
  t.map fun x => roundAway (x + ((signed 32 (v (key 0x0B05 (i + 1))) : Int) : Rat))

/-- The mean of R234 over the last fault-free values. -/
def meanInt (xs : List Int) : Int :=
  roundAway (quo ((xs.foldl (fun a b => a + b) 0 : Int) : Rat) ((xs.length : Nat) : Rat))

/-- A port whose discharge stopped normally, with a good reference: LOW, HIGH, CONVERSION or a value. -/
def State.portMeasured (i tref tx : Nat) (s : State) : State :=
  let r := resistance s.eff (s.sen.val 5).value i tref tx
  let arg := fitU 32 (roundAway r)
  if r < (s.eff (key 0x0B02 (i + 1)) : Rat) then s.sensorFails i 3 false (sensorFault i 3 arg)
  else if (s.eff (key 0x0B03 (i + 1)) : Rat) < r then s.sensorFails i 4 false (sensorFault i 4 arg)
  else match portTemp s.eff i r with
    | none => s.sensorFails i 9 false (sensorFault i 9 arg)
    | some t =>
      let avg := 2 ^ field (s.eff (key 0x0B00 (i + 1))) 10 8
      let h := (t :: (s.sen.val i).history).take avg
      { s with sen := { s.sen.modVal i (Sensed.good (fitS 32 (meanInt h)) h) with
                        res := setAt s.sen.res i arg } }

/-! ### The sensor job (R230 to R232, R248) -/

/-- CODE of Table 5.10 for a sensor job on input 16. -/
def sensorTdcCode : Nat := 0x80 * 256 + 16 * 8

/-- The stop limit of a discharge in coarse periods (R232): 1000 to a microsecond. -/
def stopLimit (v : View) (port : Option Nat) : Nat :=
  1000 * dischargeUs v (match port with
    | none => v (key 0x0B08 1)
    | some i => v (key 0x0B03 (i + 1)))

/-- The time of a stop of input 16: 10 µs after its discharge begins to charge, and its coarse count (Table 7.2). -/
def SensorJob.stopCyc (j : SensorJob) (coarse : Nat) : Nat := j.since + us 10 / 125 + (coarse * 8 + 124) / 125

/-- The next discharge of the job, which begins at `now`, or its end. -/
def SensorJob.next (now : Nat) (cal : CalReading) (j : SensorJob) : Option SensorJob :=
  match j.left with
  | [] => none
  | i :: is =>
    let o := calOutcome cal
    some { j with current := some i, left := is, r1 := o.1.1, r2 := o.1.2, faulty := o.2.1, since := now }

/-- A calibration of input 16 before a discharge (R169). -/
def State.calibrate16 (cal : CalReading) (s : State) : State :=
  let c := { cal with input := 16 }
  { s with ac := s.ac.calibrate c }.count
    [seqAct 1 0x23 0 (calOutcome c).2.2.1, seqAct 1 0x24 0 (calOutcome c).2.2.2]

/-- The discharge under way is over, with an outcome code of Table 7.6 and its time: the reference or a port. -/
def State.discharged (code t : Nat) (j : SensorJob) (s : State) : State × SensorJob :=
  match j.current with
  | none =>
    let v := s.eff
    let nominal : Rat := quo ((v (key 0x0B08 1) * v (key 0x0B08 2) : Nat) : Rat) 1000000 * 65536
    let off := (t : Rat) - nominal
    let code1 := if code = 0 ∧ nominal * (v (key 0x0B08 3) : Rat) < (if off < 0 then -off else off) * 1000000 then 5 else code
    if code1 = 0 then ({ s with sen := { s.sen with refArmed := true } }, { j with tref := t, refCode := 0 })
    else (s.referenceFails code1, { j with tref := t, refCode := code1 })
  | some i =>
    if code != 0 then (s.sensorFails i code false (sensorFault i code 0), j)
    else if j.refCode != 0 then (s.sensorFails i 5 true (sensorFault i 5 0), j)
    else (s.portMeasured i j.tref t, j)

/-- The discharge under way ends and the next one starts. -/
def State.nextDischarge (code t : Nat) (cal : CalReading) (j : SensorJob) (s : State) : State :=
  let r := s.discharged code t j
  let n := r.2.next s.frame.cyc cal
  let s1 := { r.1 with sen := { r.1.sen with job := n } }
  if n.isSome then s1.calibrate16 cal else s1

/-- SENSOR_JOB_START (R231): the next SENSOR row of the frame starts with the reference, clear of the powerline pulses
(R524). -/
def sensorJobStart (due : Nat) (cal : CalReading) (s0 : State) : State :=
  let s := s0.atCyc (s0.heldStart (us (dischargeUs s0.eff (s0.on_ 0x0B08 1) + 10)) due)
  match s.sen.job, s.sen.rows with
  | none, r :: rs =>
    if !s.measuring then s
    else
      let o := calOutcome cal
      let ports := (List.range 4).filter fun i => bitAt (planRow s.eff r) i && portType s.eff i != 0
      { s with
        sen := { s.sen with
          rows := rs
          job := some { start := s.frame.cyc, row := r, current := none, left := ports, r1 := o.1.1, r2 := o.1.2,
                        faulty := o.2.1, tref := 0, refCode := 0, since := s.frame.cyc } } }.calibrate16 cal
  | _, _ => s

/-- A stop of a discharge is taken: in a short window up to its stop limit, a count of 0xFFFF included, and in a long one
before the timeout edge (R172, R173). DEDUCED (log 94): Table 5.2 ends a short window at its stop limit. -/
def stopTaken (limit coarse : Nat) : Bool := if limit ≤ 65535 then decide (coarse ≤ limit) else decide (coarse < limit)

/-- DISCHARGE_STOP (R230): the comparator stops the discharge under way, at the time its count tells; a stop before its start is
an order error, one within 2.0 ns of it a close stamp (R176, R177), a calibration fault makes the measurement a timing fault.
One that comes when the measurement has ended is not stamped (R172, R173). -/
def dischargeStop (stop : Nat × Nat) (cal : CalReading) (s0 : State) : State :=
  match s0.sen.job with
  | none => s0
  | some j =>
    if !stopTaken (stopLimit s0.eff j.current) stop.1 then s0 else
    let s := s0.atCyc (j.stopCyc stop.1)
    let t := stampTime j.r1 j.r2 stop
    let s1 := s.count [seqAct 1 0x20 0 1]
    if t < 0 then
      let s2 := { s1 with ac := { s1.ac with orderErrors := satAdd32 s1.ac.orderErrors 1 } }.raise
        { ev := 13, code := sensorTdcCode, arg := min (2 ^ 32 - 1) (-t).toNat, src := 0x44, cls := 0 }
      (s2.count [seqAct 1 0x22 0 1]).nextDischarge 6 0 cal j
    else if t < 131072 then
      let s2 := { s1 with ac := { s1.ac with closeStamps := satAdd32 s1.ac.closeStamps 1 } }.count [seqAct 1 0x21 0 1]
      s2.nextDischarge (if j.faulty then 6 else 2) 0 cal j
    else s1.nextDischarge (if j.faulty then 6 else 0) t.toNat cal j

/-- A discharge that has not stopped: reported OPEN, with TDC_OVF or TDC_TIMEOUT by its window mode (R171 to R173, R232).
The measurement ends at its stop limit (Table 7.2); `late` counts the stop events after a wrap. -/
def dischargeMissing (late : Nat) (cal : CalReading) (s0 : State) : State :=
  match s0.sen.job with
  | none => s0
  | some j =>
    let limit := stopLimit s0.eff j.current
    let s := s0.atCyc (j.stopCyc limit)
    let short := decide (limit ≤ 65535)
    let s1 := { s with
      ac := { s.ac with overflows := if short then satAdd32 s.ac.overflows 1 else s.ac.overflows
                        timeouts := if short then s.ac.timeouts else satAdd32 s.ac.timeouts 1 }
      sen := { s.sen with limitHit := true } }
    let s2 := (s1.raise { ev := if short then 11 else 12, code := sensorTdcCode,
                          arg := if short then min (2 ^ 32 - 1) late else limit, src := 0x44, cls := 0 }).count
      [seqAct 1 0x25 0 1]
    s2.nextDischarge 1 0 cal j

/-- PLL_LOCK_LOST (R195, R248): every direction under measurement fails FUSION; a discharge in progress ends with code
6 and the job goes on. -/
def pllLockLost (cyc : Nat) (pll : Bool) (cal : CalReading) (s0 : State) : State :=
  let s := s0.atCyc cyc
  let s1 := State.settleAll { s with ac := s.ac.loseLock pll }
  match s1.sen.job with
  | none => s1
  | some j => s1.nextDischarge 6 0 cal j

/-! ### Pressure (R237 to R240) -/

/-- ENABLE of P_CONTROL. -/
def pEnabled (v : View) : Bool := bitAt (v (key 0x0B20 1)) 15

/-- A frame in which a conversion runs (R237, R247). -/
def State.pressureFrame (s : State) : Bool :=
  s.measuring && decide (s.mode ≠ .taper) && pEnabled s.eff &&
    s.frame.number % 2 ^ field (s.eff (key 0x0B20 1)) 11 8 == 0

/-- PRESSURE_CONVERSION_START (R237). -/
def pressureConversionStart (cyc : Nat) (s0 : State) : State :=
  let s := s0.atCyc cyc
  if s.pressureFrame && !s.sen.exciting && !s.sen.converted then
    { s with sen := { s.sen with exciting := true } }
  else s

/-- The temperature a source names, with its standing: ports 0 to 3, or the internal sensor as 4. -/
def State.sourceTemp (s : State) (source : Nat) : Int × Nat :=
  let i := if source = 4 then 5 else source
  ((s.sen.val i).value, if s.mode = .taper ∧ source ≠ 4 then 2 else s.sen.standing (s.on_ 0x0B08 4) i)

/-- The polynomial of R240 in x and θ. -/
def pressurePoly (v : View) (x θ : Rat) : Rat :=
  sumR ((List.range 3).flatMap fun j => (List.range 4).map fun i =>
    ofF32 (v (key 0x0B21 (4 * j + i + 1))) * powR x i * powR θ j)

/-- The outcome of a conversion of code `k`: a fault code, and the pressure in Pa. -/
def State.pressureOutcome (s : State) (k : Int) (cond : Nat) : Nat × Nat :=
  let v := s.eff
  let t := s.sourceTemp (v (key 0x0B20 4))
  let x : Rat := quo (k : Rat) ((2 ^ (23 + field (v (key 0x0B20 1)) 6 4) : Nat) : Rat)
  let p := pressurePoly v x (quo ((t.1 - 20000 : Int) : Rat) 1000)
  let pa := (roundAway p).toNat
  if cond = 1 ∨ cond = 2 ∨ cond = 6 then (cond, 0)
  else if t.2 = 2 then (5, 0)
  else if !allFinite ((List.range 12).map fun i => v (key 0x0B21 (i + 1))) then (9, 0)
  else if pa < v (key 0x0B20 2) then (3, pa)
  else if v (key 0x0B20 3) < pa then (4, pa)
  else (0, pa)

/-- PRESSURE_CONVERSION_COMPLETE (R240, R243, R244): `cond` is what the converter found, 1 open, 2 short, 6 overload,
anything else none. -/
def pressureConversionComplete (cyc : Nat) (k : Int) (cond : Nat) (s0 : State) : State :=
  let s := s0.atCyc cyc
  if !s.sen.exciting then s
  else
    let raw := max (-(2 ^ 23)) (min (2 ^ 23 - 1) k)
    let s1 := { s with sen := { s.sen with exciting := false, converted := true, raw := raw } }
    let r := s1.pressureOutcome raw cond
    if r.1 = 0 then { s1 with sen := s1.sen.modVal 4 (Sensed.good r.2 []) }
    else if r.1 = 3 ∨ r.1 = 4 then
      s1.sensorFails 4 r.1 false { ev := 21, code := r.1 - 2, arg := fitU 32 r.2, src := 0x46, cls := 0 }
    else s1.sensorFails 4 r.1 false (sensorFault 4 r.1 0)

/-! ### The internal sensor (R241, R244) -/

/-- The steps of 10 mK in which the internal sensor reports. -/
def tenths (mk : Int) : Int := 10 * roundAway (quo (mk : Rat) 10)

/-- A conversion is due: AO is powered and the calendar second is a multiple of INT_TEMP_PERIOD (R241). -/
def State.intTempDue (s : State) : Bool := !s.pwr.aoDown && s.cal.seconds % (max 1 (s.on_ 0x0B40 2)) == 0

/-- INTERNAL_TEMP_CONVERSION (R241): on calendar seconds that are multiples of the period, with AO powered. -/
def internalTempConversion (mk : Int) (selfTest : Bool) (s : State) : State :=
  if !s.intTempDue then s
  else if selfTest then { s with sen := s.sen.modVal 5 (Sensed.good (fitS 32 (tenths mk)) []) }
  else s.sensorFails 5 6 false (sensorFault 5 6 0)

/-! ### The boundary -/

/-- A sensor job still running at the boundary is abandoned (R88, R248): every port not yet measured takes code 7. -/
def State.abandonSensors (now : Nat) (s : State) : State × List Raised :=
  match s.sen.job with
  | none => (s, [])
  | some j =>
    let ports := (match j.current with
      | none => []
      | some i => [i]) ++ j.left
    let s1 := ports.foldl (fun acc i => acc.sensorFails i 7 false (sensorFault i 7 0)) s
    ({ s1 with sen := { s1.sen with job := none } }, [overrun 4 0x80 (now - j.start)])

/-- The SENSOR_RESULT of the frame (R242, Table 7.5); none where no value was updated. -/
def State.sensorRecord (s : State) : Option Record :=
  let x := s.sen
  let hold := s.on_ 0x0B08 4
  let bit := fun (i base : Nat) (f : Sensed → Bool) => flagAt (f (x.val i)) (base + i)
  if x.vals.any fun v => v.updated then
    some
      { type := 0x03, gen := 0, cls := 0, src := 0x46,
        qual := flag (x.vals.all fun v => !v.updated || v.code == 0) + flagAt x.limitHit 6 + flagAt s.clk.provisional 7,
        frame := s.frame.number % 65536,
        payload :=
          [((List.range 5).map fun i => bit i 27 (Sensed.held hold)).sum +
             ((List.range 6).map fun i => bit i 21 fun v => v.updated).sum + (x.val 4).code % 16 * 65536 +
             ((List.range 4).map fun i => (x.val i).code % 16 * 16 ^ i).sum] ++
          ((List.range 4).map fun i => unsigned 32 (x.val i).value) ++
          [unsigned 32 (x.val 4).value, unsigned 32 (x.val 5).value] }
  else none

/-- The values updated in the frame carry PROVREF of its SENSOR_RESULT (R33, R194). -/
def Sensors.noteProv (provisional : Bool) (x : Sensors) : Sensors :=
  { x with vals := x.vals.map fun (v : Sensed) => { v with prov := if v.updated then provisional else v.prov } }

/-- The values that take code 8 in MEASURE and VERIFY (R250): ports with a TYPE that no SENSOR row names, and pressure that
is not enabled. -/
def unmeasured (v : View) : List Nat :=
  ((List.range 4).filter fun i => portType v i != 0 && !((rowsOfKind v 2).any fun r => bitAt (planRow v r) i)) ++
    (if pEnabled v then [] else [4])

/-- One value takes code 8, counted once and with its event where it counted as fault-free (R244), or is measured again.
Pressure that has never been enabled carries code 8 from the start and takes it from nothing. -/
def Sensors.nameOne (bad : Bool) (i : Nat) (x : Sensors) : Sensors × List Raised :=
  let v := x.val i
  let old := i == 4 && v.code == 8
  if bad then
    if v.named8 then (x, [])
    else
      ({ x.modVal i (fun q => { q with code := 8, named8 := true, armed := q.armed && old }) with
          faults := if old then x.faults else satInc (2 ^ 32 - 1) x.faults },
        if v.armed && !old then [sensorFault i 8 0] else [])
  else if v.named8 then (x.modVal i fun q => { q with named8 := false, measured := false }, [])
  else (x, [])

/-- Every value that takes code 8, in ascending order. -/
def Sensors.nameUnmeasured (v : View) (x : Sensors) : Sensors × List Raised :=
  (List.range 5).foldl (fun acc i =>
    let r := acc.1.nameOne ((unmeasured v).contains i) i
    (r.1, acc.2 ++ r.2)) (x, [])

/-- The sensor blocks as a frame opens: the rows that run, and the values its flow computation uses (R235). -/
def State.openSensors (s : State) : State :=
  let run := s.measuring && decide (s.mode ≠ .taper)
  let r : Sensors × List Raised := if run then s.sen.nameUnmeasured s.eff else (s.sen, [])
  let x := r.1
  let y : Sensors := { x with
    vals := x.vals.map (fun (v : Sensed) => { v with updated := false }),
    rows := if run then rowsRunning s.eff 2 (framePhase s.eff s.frame.number) else [],
    limitHit := false, exciting := false, converted := false }
  { s with sen := y.publish (s.on_ 0x0B08 4) }.raiseAll r.2

/-- The sensor blocks at a start (R247): the last fault-free values of the restored commit count as held. -/
def Sensors.started (values : List Int) (x : Sensors) : Sensors :=
  { Sensors.reset with
    vals := (List.range 6).map fun i => { Sensed.reset with value := values.getD i 0 }
    res := x.res, faults := x.faults }

end Sys2Proof.Machine
end

