-- ==== Sys2Proof/Machine/Calendar.lean ====
section
/-! DEFINITION. The calendar and the backup domain (Chapter 10): Gregorian fields, second edges, settings, rate
compensation, daylight saving, the alarm, tamper latches and the supply switch. -/

namespace Sys2Proof.Machine

open Sys2Proof

/-! ### Gregorian fields (R333 to R337) -/

/-- The last supported second (R337). -/
def calLast : Nat := 12622780799

/-- Days of the 400-year cycle. -/
def daysOfCycle : Nat := 146097

/-- Year, month and day of a day number; day 0 is 2000-01-01 (R336). -/
def civil (days : Nat) : Nat × Nat × Nat :=
  let z := days + 146037
  let era := z / daysOfCycle
  let doe := z % daysOfCycle
  let yoe := (doe - doe / 1460 + doe / 36524 - doe / 146096) / 365
  let doy := doe - (365 * yoe + yoe / 4 - yoe / 100)
  let mp := (5 * doy + 2) / 153
  let day := doy - (153 * mp + 2) / 5 + 1
  let month := if mp < 10 then mp + 3 else mp - 9
  (yoe + 1600 + 400 * era + flag (decide (month ≤ 2)), month, day)

/-- A leap year (R336). -/
def leapYear (y : Nat) : Bool := y % 4 == 0 && (y % 100 != 0 || y % 400 == 0)

/-- The length of a month (R336). -/
def monthLength (y m : Nat) : Nat :=
  if m = 2 then (if leapYear y then 29 else 28) else if m = 4 ∨ m = 6 ∨ m = 9 ∨ m = 11 then 30 else 31

/-- The day number of a date of 2000 or later (R336). -/
def dayNumber (y m d : Nat) : Nat :=
  let y1 := if m ≤ 2 then y - 1 else y
  let era := y1 / 400
  let yoe := y1 % 400
  let mp := (m + 9) % 12
  let doy := (153 * mp + 2) / 5 + d - 1
  era * daysOfCycle + yoe * 365 + yoe / 4 - yoe / 100 + doy - (4 * daysOfCycle + 146037)

/-- The weekday of a day number: 1 Monday to 7 Sunday; 2000-01-01 is a Saturday. -/
def weekday (days : Nat) : Nat := (days + 5) % 7 + 1

/-- A local time in fields. -/
structure Fields where
  year : Nat
  month : Nat
  day : Nat
  hour : Nat
  minute : Nat
  second : Nat
  wday : Nat
  deriving DecidableEq, Repr

/-- The fields of a time counted in seconds from 2000-01-01 00:00:00. -/
def Fields.of (t : Nat) : Fields :=
  let d := civil (t / 86400)
  let r := t % 86400
  { year := d.1, month := d.2.1, day := d.2.2, hour := r / 3600, minute := r / 60 % 60, second := r % 60,
    wday := weekday (t / 86400) }

/-- The seconds that fields count to. -/
def Fields.seconds (f : Fields) : Nat :=
  dayNumber f.year f.month f.day * 86400 + f.hour * 3600 + f.minute * 60 + f.second

/-- Local time in seconds (R334), frozen at the end of the range (R337). -/
def Cal.localTime (c : Cal) : Nat := if c.calend then calLast else c.seconds + 3600 * flag c.dst

/-- The local fields. -/
def Cal.fields (c : Cal) : Fields := Fields.of c.localTime

/-- A DATETIME word from fields (Table 10.1). -/
def datetimeWord (f : Fields) (dst uncertain calend : Bool) (tick : Nat) : Nat :=
  (f.year - 2000) % 512 * 2 ^ 55 + f.month % 16 * 2 ^ 51 + f.day % 32 * 2 ^ 46 + f.hour % 32 * 2 ^ 41 +
    f.minute % 64 * 2 ^ 35 + f.second % 64 * 2 ^ 29 + f.wday % 8 * 2 ^ 26 + flagAt dst 25 + flagAt uncertain 24 +
    flagAt calend 23 + tick % 32768

/-- CAL_NOW. -/
def Cal.now (c : Cal) : Nat :=
  datetimeWord c.fields c.dst c.uncertain c.calend c.prescaler

/-- The fields a DATETIME word carries. -/
def fieldsOfWord (w : Nat) : Fields :=
  { year := 2000 + field w 63 55, month := field w 54 51, day := field w 50 46, hour := field w 45 41,
    minute := field w 40 35, second := field w 34 29, wday := field w 28 26 }

/-- The fields lie in their ranges and the reserved bits are zero (R339). -/
def datetimeOk (w : Nat) : Bool :=
  let f := fieldsOfWord w
  decide (f.year ≤ 2399) && decide (1 ≤ f.month) && decide (f.month ≤ 12) && decide (1 ≤ f.day) &&
    decide (f.day ≤ monthLength f.year f.month) && decide (f.hour ≤ 23) && decide (f.minute ≤ 59) &&
    decide (f.second ≤ 59) && field w 22 15 == 0 && decide (w < 2 ^ 64) &&
    decide (3600 * flag (bitAt w 25) ≤ f.seconds)

/-- The standard time a DATETIME word gives. -/
def standardOf (w : Nat) : Nat := (fieldsOfWord w).seconds - 3600 * flag (bitAt w 25)

/-! ### Daylight saving (R346 to R348) -/

/-- A rule word is in range (R348). -/
def ruleOk (w : Nat) : Bool :=
  field w 31 21 == 0 && decide (1 ≤ field w 20 17) && decide (field w 20 17 ≤ 12) && decide (1 ≤ field w 16 14) &&
    decide (field w 16 14 ≤ 5) && decide (1 ≤ field w 13 11) && decide (field w 13 11 ≤ 7) &&
    decide (field w 10 6 ≤ 23) && decide (field w 5 0 ≤ 59)

/-- The moment of a rule in a year, in seconds of the local time it shows (Table 10.2). -/
def ruleMoment (w year : Nat) : Nat :=
  let m := field w 20 17
  let first := dayNumber year m 1
  let offset := (field w 13 11 + 7 - weekday first) % 7
  let len := monthLength year m
  let day := if field w 16 14 = 5 then offset + 7 * ((len - 1 - offset) / 7) else offset + 7 * (field w 16 14 - 1)
  (first + day) * 86400 + field w 10 6 * 3600 + field w 5 0 * 60

/-- The state the rules give at a standard time: that of the last moment reached, forward or back. A moment early on 1 January
of the next year may lie in the standard year. -/
def ruleState (forward back t : Nat) : Bool :=
  let y := (Fields.of t).year
  let years := (if y ≤ 2000 then [] else [y - 1]) ++ [y, y + 1]
  let moments := years.flatMap fun y => [(ruleMoment forward y, true), (ruleMoment back y - 3600, false)]
  let past := moments.filter fun m => decide (m.1 ≤ t)
  match past with
  | [] => decide (ruleMoment back y < ruleMoment forward y)
  | p :: ps => (ps.foldl (fun best m => if best.1 < m.1 then m else best) p).2

/-- A DST rule fires at a second edge (R347, R349). -/
def ruleFires (forward back : Nat) (c : Cal) : Bool :=
  let y := (Fields.of c.localTime).year
  if c.dst then c.localTime == ruleMoment back y else c.localTime == ruleMoment forward y

/-- DST_APPLIED (Table 10.6). -/
def dstEvent (auto forward : Bool) (seconds : Nat) : Raised :=
  { ev := 34, code := flagAt auto 8 + (if forward then 1 else 2), arg := seconds % 2 ^ 32, src := 0x51, cls := 2 }

/-- RTC_ALARM (Table 10.6). -/
def alarmEvent (missed at_ : Nat) : Raised :=
  { ev := 32, code := min 0xFFFF missed, arg := at_ % 2 ^ 32, src := 0x51, cls := 2 }

/-! ### Second edges (R349) -/

/-- The second edge of the calendar alone: the counter, the end of range and the prescaler. -/
def Cal.edge (c : Cal) : Cal :=
  { c.count (c.owed - 1) with
    seconds := (c.seconds + 1) % 2 ^ 48, calend := c.calend || decide (calLast < c.seconds + 1) }

/-- A rule is applied where it fires (R347); none does while CALEND stands (R337). -/
def State.applyRule (s : State) : State :=
  if bitAt (s.on_ 0x0501 2) 0 && !s.cal.calend && ruleFires (s.on_ 0x0501 3) (s.on_ 0x0501 4) s.cal then
    { s with cal := { s.cal with
        dst := !s.cal.dst
        changes := s.cal.changes ++ [({ set := false, auto := true, old := s.cal.seconds, new := s.cal.seconds,
                                         dstOld := s.cal.dst, dstNew := !s.cal.dst } : TimeChange)] } }.raise
      (dstEvent true (!s.cal.dst) s.cal.seconds)
  else s

/-- A due alarm fires (R350). -/
def State.fireAlarm (s : State) : State :=
  let a := s.on_ 0x0504 1
  if a ≠ 0 ∧ a = s.cal.seconds then
    { s with set := s.set.write (key 0x0504 1) ((a + s.on_ 0x0504 2) % 2 ^ 48) }.raise (alarmEvent 0 a)
  else s

/-- The second edge: the steps that waited for it are steps of the new second. -/
def State.secondEdge (s : State) : State := ({ s with cal := s.cal.edge }.applyRule).fireAlarm

/-- The crystal periods until the prescaler has made all the steps of the second (R333, R342): the least number whose steps
are enough. -/
def Cal.periodsLeft (c : Cal) : Nat :=
  let r := 32768 - (c.prescaler + c.owed)
  let d := c.stepsIn r - r
  ((List.range 64).find? fun i => decide (r ≤ c.stepsIn (r - d + i))).map (fun i => r - d + i) |>.getD r

/-- Some RTC ticks pass with no command that states its time: the frame's time moves with them, to the frame's end at most,
and they are counted at once. -/
def State.runTicks (n : Nat) (s : State) : State :=
  let s1 := s.elapse
  let t := s1.frame.done + n
  { s1 with frame := { s1.frame.at_ ((t * 15625 + 7) / 8) with done := t } }.elapseBy n

/-- CALENDAR_SECOND (R349): what is left of the second passes, and its edge comes. -/
def calendarSecond (s : State) : State := ((s.elapse).runTicks (s.elapse).cal.periodsLeft).secondEdge

/-! ### Rate compensation (R341 to R344) -/

/-- The residual at a temperature in mK (R341). -/
def residual (v : View) (θ : Int) : Rat :=
  let r := fun (i : Nat) => ((signed 16 (v (key 0x0503 (i + 1))) : Int) : Rat)
  if θ ≤ -40000 then r 0
  else if 110000 ≤ θ then r 15
  else
    let i := ((θ + 40000) / 10000).toNat
    lerp 0 (r i) 10000 (r (i + 1)) (((θ + 40000 - 10000 * (i : Int)) : Int) : Rat)

/-- c of R341, ppb, at a reading in mK. -/
def rateOf (v : View) (θ : Int) : Rat :=
  let d : Rat := quo ((θ - signed 32 (v (key 0x0502 1)) : Int) : Rat) 1000
  let e := ((signed 32 (v (key 0x0502 3)) : Int) : Rat) + ((signed 32 (v (key 0x0502 2)) : Int) : Rat) * d * d +
    residual v θ
  min (max (-e) (-500000)) 500000

/-- The c in force: zero while compensation is off or the RTC clock runs on the LF RC (R344). -/
def State.rtcRate (s : State) : Rat :=
  if bitAt (s.on_ 0x0502 4) 0 && !s.clk.rtcOnLfrc then s.cal.rate else 0

/-- A reading at second 0 of a minute forms c (R341, R344). -/
def State.formRate (s : State) : State :=
  if s.cal.seconds % 60 = 0 ∧ (s.sen.val 5).code = 0 then
    { s with cal := { s.cal with rate := rateOf s.eff (s.sen.val 5).value } }
  else s

/-- INTERNAL_TEMP_CONVERSION with the rate it forms. -/
def internalTempAll (mk : Int) (selfTest : Bool) (s : State) : State :=
  if s.intTempDue then (internalTempConversion mk selfTest s).formRate else s

/-- TRIM_WINDOW_START (R342): the number of corrections and the carry; the periods that have passed beyond the window that
ends are the first of the new one, with the corrections that fall on them. -/
def trimWindowStart (s : State) : State :=
  let x := quo (s.rtcRate * (trimPeriods : Rat)) 1000000000 + quo (s.cal.carry : Rat) 65536
  let n := roundAway x
  let gone := s.cal.window - trimPeriods
  let c := { s.cal with trim := n, carry := roundAway (65536 * (x - (n : Rat))), window := 0 }
  let total := s.cal.prescaler + s.cal.owed + c.stepsIn gone - gone
  { s with cal := { c.count total with window := gone } }

/-- What the calendar does by itself once its time has come: the window that is over is followed by the next, and the second
edge that is due comes. -/
def State.calendarDue (s : State) : State :=
  let s1 := if trimPeriods ≤ s.cal.window then trimWindowStart s else s
  if 0 < s1.cal.owed then s1.secondEdge else s1

/-- One crystal period of the calendar on its own. -/
def State.calendarTick (s : State) : State := { s with cal := s.cal.pass 1 }.calendarDue

/-! ### Setting the time (R338 to R340) -/

/-- R339: a DATETIME may be set. -/
def State.calSetOk (s : State) (w : Nat) : Bool :=
  datetimeOk w && (!bitAt (s.on_ 0x0501 2) 0 ||
    ruleState (s.on_ 0x0501 3) (s.on_ 0x0501 4) (standardOf w) == bitAt w 25)

/-- TIME_SET (Table 10.6). -/
def timeSetEvent (cause old new_ : Nat) : Raised :=
  { ev := 33, code := cause * 4096 + flag (decide (new_ < old)),
    arg := unsigned 32 (clampSigned 32 ((new_ : Int) - (old : Int))), src := 0x51, cls := 2 }

/-- A setting that carries the counter past alarm times raises the alarm once (R350). -/
def State.alarmPassed (old : Nat) (s : State) : State :=
  let a := s.on_ 0x0504 1
  let p := s.on_ 0x0504 2
  if a ≠ 0 ∧ old < a ∧ a ≤ s.cal.seconds then
    let k := if p = 0 then 1 else (s.cal.seconds - a) / p + 1
    { s with set := s.set.write (key 0x0504 1) ((a + k * p) % 2 ^ 48) }.raise (alarmEvent k a)
  else s

/-- The calendar takes a local time (R338, R340). -/
def State.setTime (w : Nat) (s : State) : State :=
  let old := s.cal.seconds
  let new_ := standardOf w
  let s1 := { s with cal := { s.cal with
    seconds := new_, prescaler := field w 14 0, owed := 0, dst := bitAt w 25, uncertain := false, invalid := false,
    bkLost := false, calend := false,
    changes := s.cal.changes ++ [({ set := true, auto := false, old := old, new := new_, dstOld := s.cal.dst,
                                     dstNew := bitAt w 25 } : TimeChange)],
    lastOld := old, lastNew := new_,
    setCount := satInc (2 ^ 32 - 1) s.cal.setCount } }
  (s1.raise (timeSetEvent 1 old new_)).alarmPassed old

/-- DST_COMMAND is refused with RANGE (R346). -/
def State.dstCommandOk (s : State) (v : Nat) : Bool :=
  !bitAt (s.on_ 0x0501 2) 0 && ((v == 1 && !s.cal.dst) || (v == 2 && s.cal.dst))

/-- DST_COMMAND (R346). -/
def State.dstCommand (v : Nat) (s : State) : State :=
  { s with cal := { s.cal with
      dst := v == 1
      changes := s.cal.changes ++ [({ set := false, auto := false, old := s.cal.seconds, new := s.cal.seconds,
                                       dstOld := s.cal.dst, dstNew := v == 1 } : TimeChange)] } }.raise (dstEvent false (v == 1) s.cal.seconds)

/-! ### Tamper latches (R352 to R354) -/

/-- TAMPER or MAGNET (Table 10.6). -/
def tamperEvent (loss : Bool) (input count : Nat) : Raised :=
  { ev := if input = 2 then 57 else 56, code := flagAt loss 8 + input, arg := count, src := 0x51, cls := 2 }

/-- One sample of an input: the input after it, and whether an activation qualified. -/
def Tamper.sample (config seconds : Nat) (level : Bool) (t : Tamper) : Tamper × Bool :=
  if !bitAt config 7 then ({ t with run := 0 }, false)
  else if level != bitAt config 3 then ({ t with run := 0 }, false)
  else
    let need := field config 2 0
    let run := min 8 (t.run + 1)
    if need ≤ run ∧ (t.run < need ∨ t.latch = false) then
      ({ t with run := run, latch := true, last := seconds, first := if t.latch then t.first else seconds,
                count := satInc (2 ^ 32 - 1) t.count }, true)
    else ({ t with run := run }, false)

/-- One input of TAMPER_SAMPLE. -/
def State.sampleTamper (levels : List Bool) (s : State) (i : Nat) : State :=
  let t := s.cal.tamper.getD i Tamper.reset
  let r := t.sample (s.on_ 0x0505 (i + 1)) s.cal.seconds (levels.getD i false)
  { s with cal := { s.cal with tamper := setAt s.cal.tamper i r.1 } }.raiseIf r.2 (tamperEvent false i r.1.count)

/-- TAMPER_SAMPLE (R352, R353): the levels of TAMP0, TAMP1 and MAGS. -/
def tamperSample (levels : List Bool) (s : State) : State := (List.range 3).foldl (State.sampleTamper levels) s

/-- TAMPER_CLEAR (R354). -/
def State.tamperClear (w : Nat) (s : State) : State :=
  { s with cal := { s.cal with
      tamper := (List.range 3).map fun i =>
        let t := s.cal.tamper.getD i Tamper.reset
        if bitAt w i then { t with latch := false, first := 0 } else t } }

/-- The copies of the tamper data in the metrology partition (R353). -/
def Cal.copyTamper (c : Cal) : Cal :=
  { c with tamper := c.tamper.map fun t => { t with copyFirst := t.first, copyLast := t.last, copyCount := t.count } }

/-! ### Supply switchover (R355 to R358) -/

/-- A supply with its thresholds (Table 10.4), mV. -/
def supplyPresent (was : Bool) (rises falls mv : Nat) : Bool :=
  if rises < mv then true else if mv < falls then false else was

/-- The source BK takes: the highest-priority supply present (R355). -/
def bkSource (vmain vbat : Bool) : Nat := if vmain then 1 else if vbat then 2 else 3

/-- BACKUP_SWITCHOVER (Table 10.6). -/
def switchEvent (lost : Bool) (from_ to_ vbkp : Nat) : Raised :=
  { ev := 35, code := flagAt lost 8 + from_ * 16 + to_, arg := vbkp, src := 0x51, cls := 2 }

/-- BACKUP_SWITCHOVER (R355): the supply voltages in mV after a threshold crossing. -/
def backupSwitchover (vmainMv vbatMv vbkpMv : Nat) (s : State) : State :=
  let c := s.cal
  let vm := supplyPresent c.vmain 2600 2500 vmainMv
  let vb := supplyPresent c.vbat 2100 2000 vbatMv
  let to_ := bkSource vm vb
  let c1 := { c with vmain := vm, vbat := vb, vbkp := decide (1500 ≤ vbkpMv) }
  if to_ = c.source then { s with cal := c1 }
  else
    { s with cal := { c1 with source := to_, vbkpMv := vbkpMv, switchovers := satInc (2 ^ 32 - 1) c.switchovers } }.raise
      (switchEvent false c.source to_ vbkpMv)

/-- BK state is lost (R356, R357): what only BK holds is gone, and R358 acts at the start to come. -/
def State.loseBk (s : State) : State :=
  if s.cal.lossDue then s
  else
    { s with
      bkLatches := []
      cal := { s.cal with lossDue := true }
      pwr := { s.pwr with history := [], open_ := false, failedStarts := 0, startCount := 0, taperLatchBk := false }
      acc := { s.acc with failRun := [0, 0, 0], lockout := [0, 0, 0] }
      log := { s.log with lostBk := 0 } }

/-- VMAIN_RISE (R357): VBKP in mV as VMAIN passes 0.5 V, and the ticks until it reaches 2.60 V. -/
def vmainRise (vbkpMv ticks : Nat) (s : State) : State :=
  if s.cal.source = 3 then
    let ok := decide (1800 ≤ vbkpMv)
    let s1 := { s with cal := { s.cal with vmainRise := flagAt ok 15 + min 32767 ticks } }
    if ok || decide (ticks ≤ 68) then s1 else s1.loseBk
  else s

/-- BK_RETENTION_TRIP (R356). -/
def bkRetentionTrip (s : State) : State := s.loseBk

/-- What a start does after a loss of BK state (R358): the restored TIME, if a valid record exists. -/
def State.bkLoss (time : Option Nat) (s : State) : State :=
  let c := s.cal
  let t := time.getD 0
  let tampers := c.tamper.map fun x =>
    { Tamper.reset with latch := true, first := x.copyFirst, last := t, count := x.copyCount, copyFirst := x.copyFirst,
                        copyLast := x.copyLast, copyCount := x.copyCount }
  let s1 := { s with
    cal := { Cal.reset with
      seconds := t, invalid := true, uncertain := true, bkLost := true, lossDue := false, tamper := tampers,
      vmain := c.vmain, vbat := c.vbat, vbkp := c.vbkp, source := c.source, vbkpMv := c.vbkpMv, vmainRise := c.vmainRise,
      lastOld := c.lastOld, lastNew := c.lastNew, setCount := c.setCount, switchovers := c.switchovers }
    set := (s.set.write (key 0x0501 2) 0).write (key 0x0504 1) 0
    mem := s.mem.filter fun p => !(decide (0x30000000 ≤ p.1) && decide (p.1 ≤ 0x300000FF)) }
  s1.raiseAll ([switchEvent true (Config.sourceBeforeLoss c.source % 16) c.source c.vbkpMv,
      timeSetEvent 2 (Config.counterBeforeLoss c.seconds % 2 ^ 48) t] ++
    (List.range 3).map fun i => tamperEvent true i (tampers.getD i Tamper.reset).count)

/-- CAL_STATUS (Table 10.5). -/
def State.calStatus (s : State) : Nat :=
  flagAt s.cal.bkLost 7 + flagAt s.cal.invalid 6 + flagAt s.cal.uncertain 5 + flagAt s.cal.calend 4 +
    flagAt s.clk.rtcOnLfrc 3 + flagAt s.cal.dst 2 + flagAt (bitAt (s.on_ 0x0501 2) 0) 1 + flag (s.rtcRate != 0)

/-- SUPPLY_STATUS (Table 10.7). -/
def Cal.supplyStatus (c : Cal) : Nat := c.source + flagAt c.vmain 2 + flagAt c.vbat 3 + flagAt c.vbkp 4

end Sys2Proof.Machine
end

