-- ==== Sys2Proof/Machine/Clock.lean ====
section
/-! DEFINITION. Clock sources and references (Chapter 6): the HF reference and its changes, qualification against the RTC
clock, the OCXO, failures, fallbacks and trials. -/

namespace Sys2Proof.Machine

open Sys2Proof

/-- CLOCK_FALLBACK (Table 6.4). -/
def clockEvent (kind ref arg : Nat) : Raised :=
  { ev := 38, code := kind * 4096 + ref, arg := arg % 2 ^ 32, src := 0x45, cls := 2 }

/-- The OCXO heater output is high (R216). -/
def State.heater (s : State) : Bool :=
  s.on_ 0x0400 1 == 1 && decide (s.mode ≠ .taper) &&
    (match s.pwr.state with
     | .run => true
     | .doze => true
     | .wick => true
     | _ => false)

/-- The PLL locks to its reference. -/
def Acoustic.relock (a : Acoustic) : Acoustic := { a with pllLocked := true, dllLocked := true }

/-- A PLL lock acquisition, counted (Table 18.3). -/
def State.relocked (s : State) : State := { s with ac := s.ac.relock }.count [seqAct 1 0x26 2 1]

/-- A forced fallback to the HF RC (R222, R215): measurements in progress fail, CLOCK_FALLBACK is raised and counted,
and the PLL relocks within 20 µs. -/
def State.fallback (kind arg blocked : Nat) (s : State) : State :=
  let s0 := State.settleAll { s with ac := s.ac.loseLock true }
  let s1 := { s0 with
    clk := { s.clk with ref := 2, trial := false, trialReady := false, trialFailed := false, disagreeRun := 0,
                        agreeRun := 0, warmCount := 0, fallbacks := satInc (2 ^ 32 - 1) s.clk.fallbacks,
                        fusionBlock := blocked } }
  (s1.raise (clockEvent kind 2 arg)).relocked

/-- A forced fallback inside a frame: what can no longer end by E_k gives way with CAUSE 2 (R222, R85). -/
def State.fallbackNow (kind arg : Nat) (s : State) : State :=
  let s1 := s.fallback kind arg 2
  if s.measuring then s1.restore 2 (s.frame.nowQ + us 20) else s1

/-- HF_CRYSTAL_READY (R208, R209, R224), `ready` µs after TM was switched on: the PLL locks to the crystal where that is its
reference, on trial too; a late one delays the jobs of the frame (CAUSE 1); a failed crystal that is tried goes on trial at
the next even boundary. -/
def hfCrystalReady (cyc ready : Nat) (s0 : State) : State :=
  let s := s0.atCyc cyc
  if s.on_ 0x0400 1 = 2 ∧ s.mode ≠ .taper ∨ 2000 < ready ∨ (s.pwr.dom 2).on = false then s
  else if s.clk.hfxFailed && !s.clk.trial then
    if s.clk.trying then
      { s with clk := { s.clk with hfxReady := true, trying := false, trialReady := true } }
    else s
  else
    let s1 := { s with clk := { s.clk with hfxReady := true } }
    let s2 := if s.clk.ref = 0 then s1.relocked else s1
    if 100 < ready ∧ s.measuring = true then s2.restore 1 (s.frame.nowQ + us 30) else s2

/-- CRYSTAL_READY_TIMEOUT (R221, R224): the crystal is not ready within 2 ms of its start: it is declared failed and the PLL
falls back, on trial too; a crystal that is only tried stays failed. -/
def crystalReadyTimeout (cyc : Nat) (s0 : State) : State :=
  let s := s0.atCyc cyc
  if s.frame.now < (s.pwr.dom 2).since + usNow 2000 then s
  else if s.clk.hfxFailed && !s.clk.trial then { s with clk := { s.clk with trying := false } }
  else if s.clk.hfxReady || (s.on_ 0x0400 1 == 2 && decide (s.mode ≠ .taper)) || !(s.pwr.dom 2).on then s
  else
    { s with clk := { s.clk with hfxFailed := true, retryIn := s.on_ 0x0400 4 } }.fallbackNow 1 2000

/-- CRYSTAL_RETRY (R224): a failed crystal is started again at the next TM switch-on. -/
def crystalRetry (s : State) : State :=
  if s.clk.hfxFailed && !s.clk.trial && !s.clk.trialReady && s.clk.retryIn == 0 then
    { s with clk := { s.clk with trying := true, retryIn := s.on_ 0x0400 4 } }
  else s

/-- OCXO_EDGE_LOST (R220): a warm OCXO is lost and the PLL falls back at once. -/
def ocxoEdgeLost (cyc : Nat) (s0 : State) : State :=
  let s := s0.atCyc cyc
  if s.clk.ocxoWarm then { s with clk := { s.clk with ocxoWarm := false, overDrift := 0 } }.fallbackNow 3 0 else s

/-- LF_CRYSTAL_STOPPED (R223): the RTC clock moves to the LF RC and the calendar's time is uncertain. -/
def lfCrystalStopped (s : State) : State :=
  if s.clk.rtcOnLfrc || s.pwr.aoDown then s
  else
    { s with clk := { s.clk with rtcOnLfrc := true }, cal := { s.cal with uncertain := true } }.raise
      (clockEvent 5 s.clk.ref 0)

/-! ### The OCXO (R216 to R220) -/

/-- The frequency error of a gate in ppb: `n` OCXO cycles in `c` coarse periods, 100 of them to a nominal cycle. -/
def gateError (n c : Nat) : Int := roundAway (quo (10 ^ 9 * (((100 * n : Nat) : Int) - (c : Int) : Int)) (c : Rat))

/-- Time units of `Frame.now` in a minute. -/
def nowPerMinute : Nat := 8 * 64000000 * 60

/-- The slope of the gate errors against gate end time, ppb per minute, once 8 gates are held (R217). -/
def driftOf (gates : List (Nat × Int)) : Option Rat :=
  if gates.length < 8 then none
  else
    let p := slopeParts (gates.map fun g => (g.1, ((g.2 : Int) : Rat)))
    some (quo (p.1 * (nowPerMinute : Rat)) p.2)

/-- The absolute value of a rational. -/
def absR (q : Rat) : Rat := if q < 0 then -q else q

/-- OCXO_WARM (R218). -/
def ocxoWarmEvent (err : Int) : Raised := { ev := 39, code := 0, arg := unsigned 32 err, src := 0x45, cls := 2 }

/-- OCXO_GATE_END (R217 to R220). The gates run on in WICK (R207), so that the end of one is no wake. -/
def ocxoGateEnd (cyc n c : Nat) (s0 : State) : State :=
  let s := { s0 with frame := s0.frame.at_ cyc }
  if !s.heater then s
  else
    let err := fitS 32 (gateError n c)
    let gates := ((s.frame.now, err) :: s.clk.gates).take 8
    let k := { s.clk with gates := gates, freqErr := err }
    match driftOf gates with
    | none => { s with clk := k }
    | some d =>
      let k1 := { k with drift := fitS 32 (roundAway d) }
      let max_ : Rat := s.on_ 0x0402 1
      if s.clk.ocxoWarm then
        let beyond : Nat := if 4 * max_ < absR d then k1.overDrift + 1 else 0
        if 2 ≤ beyond then
          { s with clk := { k1 with ocxoWarm := false, overDrift := 0, warmCount := 0 } }.raise (clockEvent 4 (if k.hfxFailed then 2 else 0) 0)
        else { s with clk := { k1 with overDrift := beyond } }
      else
        let warm : Nat := if absR d ≤ max_ then k1.warmCount + 1 else 0
        if s.on_ 0x0402 3 ≤ warm then
          { s with clk := { k1 with ocxoWarm := true, overDrift := 0, warmCount := warm } }.raise (ocxoWarmEvent err)
        else { s with clk := { k1 with warmCount := warm } }

/-! ### Qualification at a boundary (R211 to R215) -/

/-- p_nom of R211, TU, at a rate correction in ppb. -/
def qualNominal (rate : Rat) : Rat := 2000000000 * (1 + quo rate 1000000000)

/-- K of a gate (R211, R212): none where too few stamps are kept. -/
def qualK (least : Nat) (rate : Rat) (segments : List (List Rat)) : Option Int :=
  let pn := qualNominal rate
  let r := regressPooled pn segments
  match r.1 with
  | none => none
  | some p => if least ≤ r.2 then some (fitS 32 (roundAway (quo ((2 ^ 32 : Nat) * (pn - p)) p))) else none

/-- |K| in ppm. -/
def kPpm (k : Int) : Rat := quo ((1000000 * k.natAbs : Nat) : Rat) ((2 ^ 32 : Nat) : Rat)

/-- The gate of the closed frame: QUAL_K and QUAL_AGE, published for the frame that opens (R212, R213). -/
def State.qualify (segments : List (List Rat)) (s : State) : State × Option Int :=
  let k := if s.ac.calFaulty.contains 17 then none else qualK (s.on_ 0x0401 3) s.rtcRate segments
  ({ s with clk := match k with
      | some x => { s.clk with qualK := x, qualAge := 0 }
      | none => { s.clk with qualAge := satInc 255 s.clk.qualAge } }, k)

/-- The comparison of K with XTAL_AGREE (Table 6.3, R221, R224): a disagreement in four consecutive gates fails the HF crystal,
with a fallback where it is the reference; a warm OCXO stays the reference (DEDUCED, log 29). On trial, four gates within it
restore the crystal and one beyond it ends the trial. -/
def State.judgeCrystal (k : Option Int) (s : State) : State :=
  match k with
  | none => s
  | some x =>
    let far := decide (((s.on_ 0x0400 3 : Nat) : Rat) < kPpm x)
    if s.clk.ref == 2 || s.clk.rtcOnLfrc || (s.clk.ref == 1 && s.clk.hfxFailed) then s
    else if s.clk.trial then
      if far then { s with clk := { s.clk with agreeRun := 0, trialFailed := true, retryIn := s.on_ 0x0400 4 } }
      else if s.clk.agreeRun + 1 < 4 then { s with clk := { s.clk with agreeRun := s.clk.agreeRun + 1 } }
      else
        { s with clk := { s.clk with agreeRun := 0, trial := false, hfxFailed := false, disagreeRun := 0 } }.raise
          (clockEvent 8 0 0)
    else if far then
      if s.clk.disagreeRun + 1 < 4 then { s with clk := { s.clk with disagreeRun := s.clk.disagreeRun + 1 } }
      else
        let s1 := { s with clk := { s.clk with hfxFailed := true, retryIn := s.on_ 0x0400 4 } }
        if s.clk.ref = 1 then
          { s1 with clk := { s1.clk with disagreeRun := 0 } }.raise (clockEvent 2 1 (roundAway (kPpm x)).toNat)
        else s1.fallback 2 (roundAway (kPpm x)).toNat 1
    else { s with clk := { s.clk with disagreeRun := 0 } }

/-- The HF reference the settings and the sources call for (R205, R220, R224, R225). -/
def Clocks.wanted (select : Nat) (taper : Bool) (c : Clocks) : Nat :=
  let crystal := if c.hfxFailed && !c.trialReady && !(c.trial && !c.trialFailed) then 2 else 0
  if taper then crystal
  else if select = 2 then 2
  else if select = 1 ∧ c.ocxoWarm = true then 1
  else crystal

/-- A change of reference other than a forced fallback, at a boundary that opens an even frame (R210, R219). -/
def State.moveReference (s : State) : State :=
  let w := s.clk.wanted (s.on_ 0x0400 1) (decide (s.mode = .taper))
  if w = s.clk.ref then s
  else
    { s with clk := { s.clk with
        ref := w, trial := w == 0 && s.clk.hfxFailed, trialReady := false, trialFailed := false, agreeRun := 0,
        disagreeRun := 0, warmCount := 0 } }.relocked

/-- The 32 768 Hz crystal has run again for 1 s: the RTC clock returns to it (R223). -/
def State.restoreLf (lfxTicks : Nat) (s : State) : State :=
  if s.clk.rtcOnLfrc && decide (32768 ≤ lfxTicks) then
    { s with clk := { s.clk with rtcOnLfrc := false } }.raise (clockEvent 9 s.clk.ref 0)
  else s

/-- The clocks at a boundary: `gate` holds the input-17 stamps of the closed frame by segment, TU, and `lfxTicks` how long
a stopped 32 768 Hz crystal has run again. -/
def State.closeClocks (gate : List (List Rat)) (lfxTicks : Nat) (evenOpens : Bool) (s : State) : State :=
  let s1 := { s with clk := { s.clk with fusionBlock := s.clk.fusionBlock - 1, retryIn := s.clk.retryIn - 1 } }
  let q := s1.qualify gate
  let s2 := (q.1.judgeCrystal q.2).restoreLf lfxTicks
  let s3 := if evenOpens then s2.moveReference else s2
  { s3 with clk := { s3.clk with
      tickScale := if s3.clk.ref = 0 ∧ s3.clk.trial = false ∧ s3.clk.rtcOnLfrc = true then fitS 32 (-s3.clk.qualK) else 0 } }

/-- CLOCK_STATUS (Table 6.6). -/
def State.clockStatus (s : State) : Nat :=
  flagAt s.clk.trial 8 + flagAt s.clk.hfxFailed 7 + flagAt s.clk.rtcOnLfrc 6 + flagAt s.qualified 5 +
    flagAt s.heater 4 + flagAt s.clk.ocxoWarm 3 + s.clk.ref

end Sys2Proof.Machine
end

