-- ==== Sys2Proof/Machine/Medium.lean ====
section
/-! DEFINITION. The water tables (R300) and the medium table (R274 to R286): properties, identification, glycol and
hydrogen estimates. Temperatures are in °C, pressures in Pa. -/

namespace Sys2Proof.Machine

open Sys2Proof

/-! ### Water (R300) -/

/-- The pressure points, Pa. -/
def waterPressures : List Rat := [100000, 600000, 1000000, 1600000, 2500000, 4000000]

/-- The terms of region 1 of IAPWS-IF97: I, J, and n as a whole number and the decimals to shift it by. PRESUMED (log 95): the
manual names the formulation (R300) and does not print it. -/
def if97Terms : List (Nat × Int × Int × Nat) :=
  [(0, -2, 14632971213167, 14), (0, -1, -84548187169114, 14), (0, 0, -3756360367204, 12), (0, 1, 33855169168385, 13),
  (0, 2, -95791963387872, 14), (0, 3, 15772038513228, 14), (0, 4, -16616417199501, 15), (0, 5, 81214629983568, 17),
  (1, -9, 28319080123804, 17), (1, -7, -60706301565874, 17), (1, -1, -18990068218419, 15), (1, 0, -32529748770505, 15),
  (1, 1, -21841717175414, 15), (1, 3, -5283835796993, 17), (2, -3, -47184321073267, 17), (2, 0, -30001780793026, 17),
  (2, 1, 47661393906987, 18), (2, 3, -44141845330846, 19), (2, 17, -72694996297594, 29), (3, -4, -31679644845054, 18),
  (3, 0, -28270797985312, 19), (3, 6, -85205128120103, 23), (4, -5, -22425281908, 16), (4, -2, -65171222895601, 20),
  (4, 10, -14341729937924, 26), (5, -8, -40516996860117, 20), (8, -11, -12734301741641, 22), (8, -6, -17424871230634, 23),
  (21, -29, -68762131295531, 32), (23, -31, 14478307828521, 33), (29, -38, 26335781662795, 36),
  (30, -39, -11947622640071, 36), (31, -40, 18228094581404, 37), (32, -41, -93537087292458, 39)]

/-- A whole power of a number. -/
def zpow (x : Rat) (n : Int) : Rat := if 0 ≤ n then powR x n.toNat else quo 1 (powR x (-n).toNat)

/-- Sum of the terms of region 1 at a temperature in K and a pressure in Pa, each by a factor, with the exponents of
7.1 - π and of τ - 1.222 lowered. -/
def if97Sum (t p : Rat) (di : Nat) (dj : Int) (factor : Nat → Int → Rat) : Rat :=
  let a := 71 / 10 - p / 16530000
  let b := quo 1386 t - 1222 / 1000
  sumR (if97Terms.map fun (i, j, m, e) =>
    if factor i j = 0 then 0 else quo (m : Rat) ((10 ^ e : Nat) : Rat) * factor i j * powR a (i - di) * zpow b (j - dj))

/-- R of IF97, J/(kg·K). -/
def if97R : Rat := 461526 / 1000

/-- ROM table of the water density, kg/m³, at a pressure point and a whole temperature in °C (R300). -/
def waterDensity (p : Rat) (θ : Int) : Rat :=
  let t := (θ : Rat) + 27315 / 100
  f64 (quo 16530000 (if97R * t * if97Sum t p 1 0 fun i _ => -(i : Rat)))

/-- ROM table of the water specific enthalpy, J/kg (R300). -/
def waterEnthalpy (p : Rat) (θ : Int) : Rat :=
  let t := (θ : Rat) + 27315 / 100
  f64 (if97R * 1386 * if97Sum t p 0 1 fun _ j => (j : Rat))

/-- ROM table of the water specific heat capacity, J/(kg·K) (R300). -/
def waterHeat (p : Rat) (θ : Int) : Rat :=
  let t := (θ : Rat) + 27315 / 100
  let τ := quo 1386 t
  f64 (-(if97R * τ * τ * if97Sum t p 0 2 fun _ j => (j : Rat) * ((j : Rat) - 1)))

/-- Cubic interpolation through four points one apart, the first at 0, at `t` (R300). -/
def cubic4 (y0 y1 y2 y3 t : Rat) : Rat :=
  -y0 * (t - 1) * (t - 2) * (t - 3) / 6 + y1 * t * (t - 2) * (t - 3) / 2 - y2 * t * (t - 1) * (t - 3) / 2 +
    y3 * t * (t - 1) * (t - 2) / 6

/-- Cubic interpolation over the four nearest temperature points, -40 °C to 200 °C. -/
def waterAt (table : Int → Rat) (θ : Rat) : Rat :=
  let first := max (-40) (min 197 (θ.floor - 1))
  cubic4 (table first) (table (first + 1)) (table (first + 2)) (table (first + 3)) (θ - (first : Rat))

/-- Linear interpolation in pressure between the points, with p clamped (R300). -/
def waterTable (table : Rat → Int → Rat) (θ p : Rat) : Rat :=
  let q := min 4000000 (max 100000 p)
  let i := ((waterPressures.drop 1).take 4).foldl (fun n x => if x ≤ q then n + 1 else n) 0
  let at_ := fun (k : Nat) => waterPressures.getD k 0
  lerp (at_ i) (waterAt (table (at_ i)) θ) (at_ (i + 1)) (waterAt (table (at_ (i + 1))) θ) q

/-- ρ_w, kg/m³. -/
def rhoWater (θ p : Rat) : Rat := waterTable waterDensity θ p
/-- c_pw, J/(kg·K). -/
def cpWater (θ p : Rat) : Rat := waterTable waterHeat θ p
/-- h_w, J/kg. -/
def hWater (θ p : Rat) : Rat := waterTable waterEnthalpy θ p

/-- A temperature lies in the water table for a kind of liquid (R300). -/
def inWater (kind : Nat) (θ : Rat) : Bool := decide ((if kind = 2 then -40 else 0) ≤ θ) && decide (θ ≤ 200)

/-- The temperature clamped to the table (R300). -/
def clampWater (kind : Nat) (θ : Rat) : Rat := min 200 (max (if kind = 2 then -40 else 0) θ)

/-! ### Entries (R274 to R276) -/

/-- The gas constant of R275. -/
def gasR : Rat := 8314462618 / 1000000000

/-- A coefficient of an entry. -/
def medF (v : View) (e sub : Nat) : Rat := ofF32 (v (key (0x0D00 + e) sub))
/-- KIND of an entry; unknown media have none. -/
def medKind (v : View) (e : Nat) : Nat := if e < 16 then v (key (0x0D00 + e) 1) else 0

/-- c_base(θ): the polynomial of subindices 0x03 to 0x08. -/
def cBase (v : View) (e : Nat) (θ : Rat) : Rat :=
  sumR ((List.range 6).map fun k => medF v e (3 + k) * powR θ k)

/-- g(θ) of a kind 2 entry. -/
def gOf (v : View) (e : Nat) (θ : Rat) : Rat := medF v e 0x09 + medF v e 0x0A * θ + medF v e 0x0B * θ * θ

/-- M and cp of a gas with hydrogen fraction y (Table 8.7a). -/
def gasMix (v : View) (e : Nat) (y : Rat) : Rat × Rat :=
  if medKind v e = 4 then
    ((1 - y) * medF v e 3 + y * (201588 / 100000), (1 - y) * medF v e 4 + y * (2884 / 100))
  else (medF v e 3, medF v e 4)

/-- The speed of sound of a gas (Table 8.7a). -/
def gasSound (v : View) (e : Nat) (θ p y : Rat) : Rat :=
  let t := θ + 27315 / 100
  let g := gasMix v e y
  let κ := quo g.2 (g.2 - gasR)
  root (quo (κ * gasR * t) (g.1 / 1000)) * (1 + medF v e 5 * p)

/-- The kinematic viscosity of an entry (Table 8.7a), m²/s. -/
def viscosity (v : View) (e : Nat) (θ p x y : Rat) : Rat :=
  let t := θ + 27315 / 100
  if medKind v e ≤ 2 then
    medF v e 0x0F * expR (quo (medF v e 0x10) (t - medF v e 0x11)) *
      (if medKind v e = 2 then expR (medF v e 0x12 * x) else 1)
  else
    let μ := quo (medF v e 0x0F * root (t * t * t)) (t + medF v e 0x10)
    let ρ := quo (p * (gasMix v e y).1) (1000 * gasR * t)
    quo μ ρ

/-- The density of a liquid (R275), kg/m³. -/
def liquidDensity (v : View) (e : Nat) (θ p x : Rat) : Rat :=
  if medKind v e = 2 then
    rhoWater θ p * (1 + medF v e 0x13 * x + medF v e 0x14 * x * θ + medF v e 0x15 * x * x)
  else rhoWater θ p

/-- The specific heat capacity of a liquid (R275), J/(kg·K). -/
def liquidHeat (v : View) (e : Nat) (θ p x : Rat) : Rat :=
  cpWater θ p * (1 + medF v e 0x16 * x + medF v e 0x17 * x * θ + medF v e 0x18 * x * x)

/-- A medium entry may stand (R276). -/
def mediumOk (v : View) (e : Nat) : Bool :=
  let k := v (key (0x0D00 + e) 1)
  let floats := (List.range 0x16).map fun i => v (key (0x0D00 + e) (3 + i))
  decide (k ≤ 4) && allFinite floats && decide (0 < medF v e 0x0E) && decide (medF v e 0x0C ≤ medF v e 0x0D) &&
    decide (0 ≤ medF v e 0x0C) && decide (medF v e 0x0D ≤ 1) &&
    (!(decide (3 ≤ k)) || (decide (0 < medF v e 3) && decide (gasR < medF v e 4)))

/-! ### Identification (R277) -/

/-- The distance from a speed of sound to a band between two values, in tolerances. -/
def bandDistance (c a b tol : Rat) : Rat :=
  let lo := min a b
  let hi := max a b
  quo (if c < lo then lo - c else if hi < c then c - hi else 0) tol

/-- The distance d of an entry from c_m; none for an unused entry. -/
def mediumDistance (v : View) (e : Nat) (c θ p : Rat) : Option Rat :=
  let tol := medF v e 0x0E
  match medKind v e with
  | 1 => some (bandDistance c (cBase v e θ) (cBase v e θ) tol)
  | 2 => some (bandDistance c (cBase v e θ + medF v e 0x0C * gOf v e θ) (cBase v e θ + medF v e 0x0D * gOf v e θ) tol)
  | 3 => some (bandDistance c (gasSound v e θ p 0) (gasSound v e θ p 0) tol)
  | 4 => some (bandDistance c (gasSound v e θ p 0) (gasSound v e θ p (2 / 5)) tol)
  | _ => none

/-- The candidate: the matching entry with the least distance, the lower of equals; 0xFF with no match. -/
def candidateOf (v : View) (c θ p : Rat) : Nat :=
  let best := (List.range 16).foldl (fun (acc : Option (Nat × Rat)) e =>
    match mediumDistance v e c θ p with
    | none => acc
    | some d =>
      if 1 < d then acc
      else match acc with
        | none => some (e, d)
        | some b => if d < b.2 then some (e, d) else acc) none
  match best with
  | none => 0xFF
  | some b => b.1

/-- Bisection of c(T, p, y) = c_m for y in 0 to 0.40 (R284): each step halves the interval. -/
def bisectH2 (v : View) (e : Nat) (θ p c : Rat) : Nat → Rat → Rat → Rat
  | 0, lo, hi => (lo + hi) / 2
  | n + 1, lo, hi =>
    let mid := (lo + hi) / 2
    if gasSound v e θ p mid < c then bisectH2 v e θ p c n mid hi else bisectH2 v e θ p c n lo mid

/-- The unsmoothed hydrogen fraction, limited to 0 to 0.40 (R284). -/
def solveH2 (v : View) (e : Nat) (θ p c : Rat) : Rat :=
  if c ≤ gasSound v e θ p 0 then 0
  else if gasSound v e θ p (2 / 5) ≤ c then 2 / 5
  else bisectH2 v e θ p c 16 0 (2 / 5)

/-- The calorific value (R284), J/m³ of base volume. -/
def calorific (v : View) (e : Nat) (y : Rat) : Rat :=
  match medKind v e with
  | 4 => (1 - y) * medF v e 6 + y * medF v e 7
  | 3 => medF v e 6
  | _ => 0

end Sys2Proof.Machine
end

