-- ==== Sys2Proof/Machine/Flow.lean ====
section
/-! DEFINITION. The flow engine (Chapter 8): path velocities, the integration methods, path ratios, the Reynolds
correction, creep, direction, diagnostics, the medium of the frame, and the FLOW_RESULT record. -/

namespace Sys2Proof.Machine

open Sys2Proof

/-! ### The path pattern (R252 to R259, R264) -/

/-- PATH_COUNT. -/
def pathCount (v : View) : Nat := v (key 0x0C00 1)
/-- The context of a slot. -/
def slotCtx (v : View) (sl : Nat) : Nat := field (v (key 0x0C01 (sl + 1))) 5 0
/-- A mark of a slot: bits 15 to 10 of PATH_SLOT. -/
def slotMark (v : View) (sl bit : Nat) : Bool := bitAt (v (key 0x0C01 (sl + 1))) bit
/-- MASK of a weight set. -/
def setMask (v : View) (n : Nat) : Nat := v (key (0x0C20 + n) 1)
/-- The word of a weight. -/
def weightWord (v : View) (n sl : Nat) : Nat := v (key (0x0C20 + n) (sl + 2))
/-- A weight. -/
def weight (v : View) (n sl : Nat) : Rat := ofF32 (weightWord v n sl)
/-- A flow slot: its weight in the primary set is not zero (R253). -/
def flowSlot (v : View) (sl : Nat) : Bool := weight v 0 sl != 0
/-- The slots in use. -/
def slotsOf (v : View) : List Nat := List.range (min 32 (pathCount v))

/-- A weight set meets the conditions of R259 that do not depend on PATH_COUNT or the primary set. -/
def setAlone (v : View) (n : Nat) : Bool :=
  ((List.range 32).all fun sl => finiteF32 (weightWord v n sl)) &&
  (if n = 0 then setMask v 0 == 0
   else if setMask v n = 0 then (List.range 32).all fun sl => weight v n sl == 0
   else ((List.range 32).all fun sl => !bitAt (setMask v n) sl || weight v n sl == 0) &&
     (List.range 16).all fun m => m == n || m == 0 || setMask v m != setMask v n)

/-- The conditions of R259 that R255 checks. -/
def setFits (v : View) (n : Nat) : Bool :=
  (n == 0 || setMask v n == 0 || ((List.range 32).all fun sl =>
    !bitAt (setMask v n) sl || (decide (sl < pathCount v) && flowSlot v sl))) &&
  ((n != 0 && setMask v n == 0) || (List.range 32).all fun sl => decide (sl < pathCount v) || weight v n sl == 0) &&
  (n != 0 || (slotsOf v).any (flowSlot v))

/-- The Reynolds table (R264). -/
def reynoldsOk (v : View) : Bool :=
  let n := v (key 0x0C07 1)
  decide (n ≤ 16) && (List.range n).all fun j =>
    let x := v (key 0x0C08 (j + 1))
    let k := v (key 0x0C09 (j + 1))
    finiteF32 x && finiteF32 k && decide (0 < ofF32 x) && decide (1 / 2 ≤ ofF32 k) && decide (ofF32 k ≤ 2) &&
      (j == 0 || decide (ofF32 (v (key 0x0C08 j)) < ofF32 x))

/-- A slot meets R254. -/
def slotOk (v : View) (sl : Nat) : Bool :=
  let n := slotCtx v sl
  let both := fun (a b : Nat) => slotMark v sl a && slotMark v sl b
  ctxDefined v n && ((rowsOfKind v 1).any fun r => rowCtx (planRow v r) == n && field (planRow v r) 27 24 == 0) &&
    (!flowSlot v sl || v (ck n 0x0C) != 0) && ((slotsOf v).all fun t => t == sl || slotCtx v t != n) &&
    !both 15 14 && !both 13 12 && !both 11 10

/-- The first fault of the flow configuration as FLOW_CONFIG_FAULT shows it (R255, R279); 0 where it is valid. -/
def flowFault (v : View) : Nat :=
  match (slotsOf v).find? fun sl => !slotOk v sl with
  | some sl => 0x100 + sl
  | none =>
    match (List.range 16).find? fun n => !(setAlone v n && setFits v n) with
    | some n => 0x200 + n
    | none =>
      if !reynoldsOk v then 0x300
      else if v (key 0x0C0B 1) = 1 ∧ medKind v (v (key 0x0C0B 2)) = 0 then 0x400 else 0

/-! ### Path velocities (R256) -/

/-- What one context yields in a frame: speed of sound and velocity, m/s; none where it is invalid. -/
def pathSpeeds (v : View) (n : Nat) (a : Attempt) : Option (Rat × Rat) :=
  let tu0 : Int := (a.up.time : Int) - (v (ck n 0x0D) : Int)
  let td0 : Int := (a.dn.time : Int) - (v (ck n 0x0D) : Int)
  if tu0 ≤ 0 ∨ td0 ≤ 0 then none
  else
    let unit : Rat := 65536 * 1000000000
    let tu : Rat := quo (tu0 : Rat) unit
    let td : Rat := quo (td0 : Rat) unit
    let dt : Rat := quo ((a.dt - signed 32 (v (ck n 0x0E)) : Int) : Rat) unit
    let l : Rat := quo (v (ck n 0x0B) : Rat) 1000000
    let x : Rat := quo (v (ck n 0x0C) : Rat) 1000000
    some (l / 2 * (quo 1 tu + quo 1 td), if x = 0 then 0 else quo (l * l * dt) (2 * x * tu * td))

/-- A slot of the pattern in a frame. -/
structure SlotVal where
  slot : Nat
  ctx : Nat
  isFlow : Bool
  w : Rat                 -- weight in the primary set
  got : Option (Rat × Rat)
  deriving DecidableEq, Repr

/-- The pattern with the results of the frame (R252, R289). -/
def State.pattern (s : State) : List SlotVal :=
  let v := s.eff
  let res := fun (n : Nat) => (s.ac.ctxAt n).result.bind (pathSpeeds v n)
  if s.mode = .taper then
    [{ slot := 0, ctx := 0, isFlow := true, w := ofF32 (v (key 0x0C03 1)),
       got := if v (ck 0 0x0C) = 0 then none else res 0 }]
  else (slotsOf v).map fun sl =>
    { slot := sl, ctx := slotCtx v sl, isFlow := flowSlot v sl, w := weight v 0 sl, got := res (slotCtx v sl) }

/-- The velocity of a slot, 0 where it has none. -/
def SlotVal.v (x : SlotVal) : Rat := (x.got.map fun g => g.2).getD 0

/-- The missing mask (R260). -/
def missingMask (ps : List SlotVal) : Nat :=
  ((ps.filter fun p => p.isFlow && p.got.isNone).map fun p => 2 ^ p.slot).sum

/-! ### Path ratios (R262, R263) -/

/-- The mean velocity of a ring entry over the flow slots. -/
def ringMean (slots : List Nat) (e : List Nat) : Rat :=
  quo (sumR (slots.map fun sl => ofF32 (natAt e sl))) ((slots.length : Nat) : Rat)

/-- The sign of a rational. -/
def signR (q : Rat) : Rat := if q < 0 then -1 else if q = 0 then 0 else 1

/-- r_s of a slot over the ring. -/
def ratioOf (slots : List Nat) (ring : List (List Nat)) (sl : Nat) : Rat :=
  quo (sumR (ring.map fun e => ofF32 (natAt e sl) * signR (ringMean slots e)))
    (sumR (ring.map fun e => absR (ringMean slots e)))

/-- PATH_RATIO of a slot, F32; 0 until the ring holds a frame. -/
def pathRatio (v : View) (f : Flow) (sl : Nat) : Nat :=
  let slots := (slotsOf v).filter (flowSlot v)
  if f.ring.isEmpty || !slots.contains sl then 0 else toF32 (ratioOf slots f.ring sl)

/-! ### Integration (R260 to R263, R265) -/

/-- The weighted velocity of the frame, if a method of 0 to 2 applies: method, set, v_w (Table 8.3). -/
def integrate (v : View) (taper : Bool) (f : Flow) (ps : List SlotVal) : Option (Nat × Nat × Rat) :=
  let m := missingMask ps
  let fl := ps.filter fun p => p.isFlow
  let good := fl.filter fun p => p.got.isSome
  if m = 0 then some (0, 0, sumR (fl.map fun p => p.w * p.v))
  else if taper || good.isEmpty then none
  else
    match (List.range 16).find? fun n => n != 0 && setMask v n == m with
    | some n => some (1, n, sumR (good.map fun p => weight v n p.slot * p.v))
    | none =>
      if f.ring.length = 64 ∧ v (key 0x0C04 3) ≤ good.length then
        let slots := (slotsOf v).filter (flowSlot v)
        let r := fun (sl : Nat) => ratioOf slots f.ring sl
        let est := quo (sumR (good.map fun p => p.v)) (sumR (good.map fun p => r p.slot))
        some (2, 0, sumR (fl.map fun p => p.w * (if p.got.isSome then p.v else r p.slot * est)))
      else none

/-- K(Re) (R265). -/
def reynoldsK (v : View) (re : Rat) : Rat :=
  let n := v (key 0x0C07 1)
  let x := fun (j : Nat) => ofF32 (v (key 0x0C08 (j + 1)))
  let k := fun (j : Nat) => ofF32 (v (key 0x0C09 (j + 1)))
  if n = 0 then 1
  else if re ≤ x 0 then k 0
  else if x (n - 1) ≤ re then k (n - 1)
  else
    let j := (((List.range n).filter fun i => decide (x i ≤ re)).length) - 1
    lerp (log10R (x j)) (k j) (log10R (x (j + 1))) (k (j + 1)) (log10R re)

/-! ### The medium of the frame (R273, R277 to R286) -/

/-- The medium temperature in mK and its standing (R273, R235, R247). -/
def State.mediumTemp (s : State) : Int × Nat :=
  let src := s.on_ 0x0B08 5
  let p := s.sen.pub.getD (if src = 4 then 5 else src) (0, 1)
  if s.mode = .taper ∧ src ≠ 4 then (p.1, 2) else p

/-- The medium pressure in Pa and its standing. -/
def State.mediumPress (s : State) : Nat × Nat :=
  if pEnabled s.eff then
    let p := s.sen.pub.getD 4 (0, 1)
    (p.1.toNat, if s.mode = .taper then 2 else p.2)
  else (s.on_ 0x0C0B 6, 0)

/-- MEDIUM_CHANGED (R280). -/
def mediumEvent (new_ old : Nat) (mismatch : Bool) (c : Rat) : Raised :=
  { ev := 18, code := new_ * 256 + old, arg := flagAt mismatch 31 + (roundAway (1000 * c)).toNat % 2 ^ 31, src := 0x48,
    cls := 0 }

/-- The active medium changes: the estimates start afresh (R281, R282, R284). -/
def Flow.activate (v : View) (e : Nat) (f : Flow) : Flow :=
  { f with active := e, known := if e = 0xFF then f.known else e,
           conc := if medKind v e = 2 then (medF v e 0x0C + medF v e 0x0D) / 2 else f.conc,
           h2 := if medKind v e = 4 then 0 else f.h2, h2Top := 0 }

/-- Identification in a frame with a valid slot (R277 to R280): c_m, the candidate and what it confirms; in TAPER the active
medium stays (R289). -/
def Flow.identify (v : View) (taper : Bool) (c θ p : Rat) (f : Flow) : Flow × List Raised :=
  let cand := candidateOf v c θ p
  let run := if cand = f.candidate then f.candRun + 1 else 1
  let f1 := { f with cMed := c, candidate := cand, candRun := run }
  let confirmed := decide (v (key 0x0C0B 3) ≤ run)
  if !confirmed then (f1, [])
  else if v (key 0x0C0B 1) = 1 then
    let fixed := v (key 0x0C0B 2)
    if cand = fixed then ({ f1 with mismatch := false }, [])
    else ({ f1 with mismatch := true }, if f.mismatch then [] else [mediumEvent cand fixed true c])
  else if taper || cand = f.active then (f1, [])
  else (f1.activate v cand, [mediumEvent cand f.active false c])

/-- A run of frames without a condition re-arms its event (R286): raised flag, frames gone. -/
def rearm (confirm : Nat) (raised : Bool) (gone : Nat) : Bool × Nat :=
  if gone + 1 < confirm then (raised, gone + 1) else (false, gone + 1)

/-- x in 0.01 % or 0.01 mol%. -/
def hundredths (x : Rat) : Nat := (roundAway (10000 * x)).toNat

/-- H2_LIMIT in a frame with an estimate (R286): `yf` is the unsmoothed solution. -/
def Flow.h2Limits (v : View) (yf : Rat) (f : Flow) : Flow × List Raised :=
  let confirm := v (key 0x0C0B 3)
  let arg := hundredths f.h2
  let high := decide ((v (key 0x0C0B 0x0A) : Rat) < 10000 * f.h2)
  let top := if yf = 2 / 5 then f.h2Top + 1 else 0
  let e1 := high && !f.h2Over
  let e2 := decide (confirm ≤ top) && !f.h2TopRaised
  let r1 := if high then (true, 0) else rearm confirm f.h2Over f.h2OverGone
  let r2 := if yf = 2 / 5 then (f.h2TopRaised || e2, 0) else rearm confirm f.h2TopRaised f.h2TopGone
  ({ f with h2Over := r1.1, h2OverGone := r1.2, h2Top := top, h2TopRaised := r2.1, h2TopGone := r2.2 },
    (if e1 then [{ ev := 22, code := 1, arg := arg, src := 0x48, cls := 0 }] else []) ++
    (if e2 then [{ ev := 22, code := 2, arg := arg, src := 0x48, cls := 0 }] else []))

/-- A frame in which the medium is of no kind 4 has neither condition of H2_LIMIT (R286). -/
def Flow.h2Absent (v : View) (f : Flow) : Flow :=
  let confirm := v (key 0x0C0B 3)
  let r1 := rearm confirm f.h2Over f.h2OverGone
  let r2 := rearm confirm f.h2TopRaised f.h2TopGone
  { f with h2Over := r1.1, h2OverGone := r1.2, h2Top := 0, h2TopRaised := r2.1, h2TopGone := r2.2 }

/-- The concentration of a kind 2 medium is held (R282): |g(θ)| is below 100 m/s. -/
def Flow.concHeld (v : View) (θ : Rat) (f : Flow) : Bool :=
  medKind v f.active == 2 && decide (absR (gOf v f.active θ) < 100)

/-- The estimates of a frame with a valid slot (R282, R284, R286). -/
def Flow.estimate (v : View) (θ p : Rat) (f0 : Flow) : Flow × List Raised :=
  let f := if medKind v f0.active = 4 then f0 else f0.h2Absent v
  match medKind v f.active with
  | 2 =>
    let g := gOf v f.active θ
    if absR g < 100 then (f, [])
    else
      let xf := max (medF v f.active 0x0C) (min (medF v f.active 0x0D) (quo (f.cMed - cBase v f.active θ) g))
      ({ f with conc := f64 (f.conc + (xf - f.conc) / 16) }, [])
  | 4 =>
    let yf := solveH2 v f.active θ p f.cMed
    { f with h2 := f64 (f.h2 + (yf - f.h2) / 16) }.h2Limits v yf
  | _ => (f, [])

/-- ν of the medium that K(Re) uses: the last known one; 0 where none has been known (R281). -/
def Flow.nu (v : View) (θ p : Rat) (f : Flow) : Rat :=
  if f.known = 0xFF then 0 else viscosity v f.known θ p f.conc f.h2

/-! ### Creep and direction (R267 to R270) -/

/-- |v_mean| in µm/s, as events report it. -/
def magMicro (x : Rat) : Nat := (roundAway (1000000 * absR x)).toNat % 2 ^ 32

/-- The creep state after a frame, and whether the frame was in creep (R268, R270). -/
def Flow.creepStep (v : View) (vMean : Rat) (f : Flow) : Flow × Bool × List Raised :=
  let cut : Rat := (v (key 0x0C12 3) : Rat)
  let mag := 1000000 * absR vMean
  let before := 1000000 * f.lastMag
  let f1 := { f with lastMag := absR vMean }
  let enter := fun (code : Nat) =>
    ({ f1 with creep := true, creepRun := 0, creepEntries := satInc (2 ^ 32 - 1) f.creepEntries }, true,
      [({ ev := 17, code := code, arg := magMicro vMean, src := 0x48, cls := 0 } : Raised)])
  if cut = 0 then ({ f1 with creep := false, creepRun := 0 }, false, [])
  else if f.creep then
    let run := if 4 * cut < 5 * mag then f.creepRun + 1 else 0
    if v (key 0x0C12 2) ≤ run then ({ f1 with creep := false, creepRun := 0 }, true, [])
    else ({ f1 with creepRun := run }, true, [])
  else if 5 * mag < 4 * cut then enter 1
  else if mag < cut ∧ cut ≤ before then enter 2
  else (f1, false, [])

/-- The direction state after a frame (R267). -/
def Flow.directionStep (v : View) (q : Int) (vMean : Rat) (f : Flow) : Flow × List Raised :=
  if q = 0 then (f, [])
  else
    let d := flag (decide (q < 0))
    if d = f.dir then ({ f with dirRun := 0 }, [])
    else if v (key 0x0C0C 1) ≤ f.dirRun + 1 then
      ({ f with dir := d, dirRun := 0 }, [{ ev := 16, code := d, arg := magMicro vMean, src := 0x48, cls := 0 }])
    else ({ f with dirRun := f.dirRun + 1 }, [])

/-! ### Diagnostics (R271, R272) -/

/-- A U16 diagnostic: it saturates at 0xFFFE. -/
def diagU16 (q : Rat) : Nat := if 65534 < q then 0xFFFE else fitU 16 (roundAway q)

/-- The mean of the velocities of the slots with a mark; none for an empty group. -/
def groupMean (v : View) (bit : Nat) (ps : List SlotVal) : Option Rat :=
  let g := ps.filter fun p => p.isFlow && slotMark v p.slot bit
  if g.isEmpty then none else some (meanR (g.map SlotVal.v))

/-- The ratio of two group means in 1/10 000. -/
def ratioDiag (a b : Option Rat) : Nat :=
  match a, b with
  | some x, some y => if y = 0 then 0xFFFF else diagU16 (quo (10000 * x) y)
  | _, _ => 0xFFFF

/-- SWIRL. -/
def swirlDiag (a b : Option Rat) : Nat :=
  match a, b with
  | some x, some y =>
    if absR x + absR y = 0 then 0x8000
    else unsigned 16 (max (-32767) (min 32767 (roundAway (quo (10000 * (x - y)) (absR x + absR y)))))
  | _, _ => 0x8000

/-- The population standard deviation of 16 values. -/
def deviation (xs : List Rat) : Rat :=
  let m := meanR xs
  root (sumR (xs.map fun x => (x - m) * (x - m)) / 16)

/-- TURBULENCE, 0.01 %. -/
def turbulenceDiag (turb : List (List Rat)) (ps : List SlotVal) (vBar : Rat) : Nat :=
  let hs := (ps.filter fun p => p.isFlow).map fun p => turb.getD p.slot []
  if hs.isEmpty || hs.any (fun h => h.length != 16) || vBar = 0 then 0xFFFF
  else diagU16 (quo (10000 * meanR (hs.map deviation)) (absR vBar))

/-- SOUND_SPREAD, ppm, over the slots with a speed of sound. -/
def spreadDiag (ps : List SlotVal) : Nat :=
  let cs := ps.filterMap fun p => p.got.map fun g => g.1
  match cs with
  | [] => 0xFFFF
  | c :: _ =>
    let m := meanR cs
    if m = 0 then 0xFFFF else diagU16 (quo (1000000 * (cs.foldl max c - cs.foldl min c)) m)

/-- The value of a diagnostic for the band test: SWIRL is signed. -/
def diagValue (d w : Nat) : Int := if d = 3 then signed 16 w else (w : Int)

/-- The UNDEFINED code of a diagnostic. -/
def diagUndefined (d : Nat) : Nat := if d = 3 then 0x8000 else 0xFFFF

/-- One band test of diagnostic `d`, 1 to 5 (R272). -/
def bandStep (v : View) (d w : Nat) (b : BandRun) : BandRun × List Raised :=
  let lo := v (key 0x0C0A (2 * d - 1))
  let hi := v (key 0x0C0A (2 * d))
  let need := v (key 0x0C0A 0x0B)
  if w = diagUndefined d then (b, [])
  else
    let x := diagValue d w
    let low_ := decide (x < diagValue d lo)
    let high := decide (diagValue d hi < x)
    if (low_ || high) && !(lo == 0 && hi == 0xFFFF) then
      let n := b.outside + 1
      let now := decide (need ≤ n) && !b.standing
      ({ outside := n, inside := 0, standing := b.standing || now },
        if now then [{ ev := 19, code := d * 4096 + flag high, arg := unsigned 32 x, src := 0x48, cls := 0 }] else [])
    else
      let n := b.inside + 1
      ({ outside := 0, inside := n, standing := b.standing && decide (n < need) }, [])

/-- The diagnostics of a computed frame. -/
def Flow.diagnose (v : View) (ps : List SlotVal) (vBar : Rat) (f : Flow) : Flow × List Raised :=
  let turb := (List.range 32).map fun sl =>
    match ps.find? fun p => p.slot == sl && p.isFlow with
    | none => f.turb.getD sl []
    | some p => (p.v :: f.turb.getD sl []).take 16
  let diag := [ratioDiag (groupMean v 15 ps) (groupMean v 14 ps), ratioDiag (groupMean v 13 ps) (groupMean v 12 ps),
    swirlDiag (groupMean v 11 ps) (groupMean v 10 ps), turbulenceDiag turb ps vBar, spreadDiag ps]
  let bs := (List.range 5).map fun i => bandStep v (i + 1) (natAt diag i) (f.bands.getD i BandRun.zero)
  ({ f with turb := turb, diag := diag, stale := false, bands := bs.map fun b => b.1 }, bs.flatMap fun b => b.2)

/-! ### The flow computation (R251, R288) -/

/-- The pipe area, m² (R266). -/
def pipeArea (v : View) : Rat :=
  let d : Rat := quo (v (key 0x0C00 2) : Rat) 1000000
  piR * d * d / 4

/-- A flow rate in nL/s (R266). -/
def rateNl (v : View) (vMean : Rat) : Int := fitS 64 (roundAway (pipeArea v * vMean * 1000000000000))

/-- PATH_VELOCITY and PATH_SOUND of the contexts valid in the frame (R256). -/
def State.publishPaths (s : State) (f : Flow) : Flow :=
  let soundOnly := ((slotsOf s.eff).filter fun sl => !flowSlot s.eff sl).map (slotCtx s.eff)
  (List.range 64).foldl (fun acc n =>
    match (s.ac.ctxAt n).result.bind (pathSpeeds s.eff n) with
    | none => acc
    | some g =>
      { acc with
        sound := setAt acc.sound n (fitU 32 (roundAway (1000000 * g.1)))
        velocity := if s.eff (ck n 0x0C) = 0 || soundOnly.contains n then acc.velocity
          else setAt acc.velocity n (fitS 32 (roundAway (1000000 * g.2))) }) f

/-- The speed of sound of the medium (R277); none in a frame with no valid slot. -/
def mediumSound (v : View) (ps : List SlotVal) : Option Rat :=
  let ok := ps.filterMap fun p => p.got.map fun g => ((v (ck p.ctx 0x0B) : Rat), g.1)
  if ok.isEmpty then none else some (quo (sumR (ok.map fun x => x.1 * x.2)) (sumR (ok.map fun x => x.1)))

/-- The ports of ROLE flow and return with their temperatures in mK and standings (R301). -/
def State.flowReturn (s : State) : Option ((Int × Nat) × (Int × Nat)) :=
  let port := fun (role : Nat) => (List.range 4).find? fun i =>
    field (s.on_ 0x0B00 (i + 1)) 5 4 == role && portType s.eff i != 0
  match port 1, port 2 with
  | some a, some b =>
    let t := fun (i : Nat) =>
      let p := s.sen.pub.getD i (0, 1)
      if s.mode = .taper then (p.1, 2) else p
    some (t a, t b)
  | _, _ => none

/-- The frame forms its quantities with a held flow or return temperature (R245, R287): thermal energy is formed, the
medium `e` is a liquid, and a value stands as held. -/
def State.heldFlowReturn (s : State) (e : Nat) : Bool :=
  s.on_ 0x1001 2 != 0 && (medKind s.eff e == 1 || medKind s.eff e == 2) &&
    match s.flowReturn with
    | none => false
    | some p => p.1.2 != 0 || p.2.2 != 0

/-- The flow computation of a frame: the engine after it, and its events in the order formed. -/
def State.flowCompute (s : State) : Flow × List Raised :=
  let v := s.eff
  let taper := decide (s.mode = .taper)
  let ps := s.pattern
  let t := s.mediumTemp
  let p := s.mediumPress
  let θ : Rat := quo (t.1 : Rat) 1000
  let pr : Rat := (p.1 : Rat)
  let f0 := s.publishPaths s.flow
  let idn := match mediumSound v ps with
    | none => (f0, [])
    | some c => f0.identify v taper c θ pr
  let est := match mediumSound v ps with
    | none => (if medKind v idn.1.active = 4 then idn.1 else idn.1.h2Absent v, [])
    | some _ => idn.1.estimate v θ pr
  let f1 := est.1
  let got := integrate v taper f1 ps
  let vw := (got.map fun g => g.2.2).getD 0
  let nu := f1.nu v θ pr
  let re := quo (absR vw * quo (v (key 0x0C00 2) : Rat) 1000000) nu
  let kRe : Rat := if f1.known = 0xFF then 1 else reynoldsK v re
  let hold := f1.holdCount + 1
  let method := match got with
    | some g => g.1
    | none => if hold ≤ v (key 0x0C04 1) then 3 else 4
  let vMean := if got.isSome then f64 (kRe * vw) else f1.held
  let f2 := { f1 with held := vMean, holdCount := if got.isSome then 0 else hold }
  let cr := f2.creepStep v vMean
  let qc := rateNl v vMean
  let q : Int := if cr.2.1 then 0 else qc
  let dr := cr.1.directionStep v q vMean
  let fl := ps.filter fun x => x.isFlow
  let vBar := if fl.isEmpty then 0 else meanR (fl.map SlotVal.v)
  let computed := method == 0 && !cr.2.1 && !taper && decide ((v (key 0x0C05 1) : Rat) ≤ 1000000 * absR vBar)
  let dg := if computed then dr.1.diagnose v ps vBar else ({ dr.1 with stale := true }, [])
  let f3 := dg.1
  let out : FlowOut :=
    { q := q, qc := qc, vMean := vMean, cMed := f3.cMed, mask := missingMask ps, method := method,
      set := (got.map fun g => g.2.1).getD 0, creep := cr.2.1, theta := t.1, press := p.1, tStand := t.2, pStand := p.2,
      re := if got.isSome then re else 0, kRe := if got.isSome then kRe else 1, concHeld := f3.concHeld v θ,
      medium := f3.active, candidate := f3.candidate, reverse := f3.dir == 1, mismatch := f3.mismatch,
      ready := f3.ring.length == 64, diag := f3.diag, conc := f3.conc, h2 := f3.h2,
      cv := calorific v f3.active f3.h2, good := computed,
      speeds := (List.range 32).map fun sl => match ps.find? fun x => x.slot == sl with
        | none => 0
        | some x => toF32 x.v
      subst := decide (1 ≤ method) || t.2 != 0 || p.2 != 0 ||
        s.heldFlowReturn (if f3.active = 0xFF then f3.known else f3.active)
      valid := method != 4 }
  ({ f3 with out := some out }, idn.2 ++ est.2 ++ cr.2.2 ++ dr.2 ++ dg.2)

/-- FLOW_COMPUTATION_COMPLETE (R251, R288). -/
def flowComputationComplete (cyc : Nat) (s0 : State) : State :=
  let s := s0.atCyc cyc
  if s.measuring && !s.frame.flowDone && (s.frame.flowStarted || s.flowReady) then
    let r := s.flowCompute
    let subst := match r.1.out with
      | some o => decide (1 ≤ o.method)
      | none => false
    let slots := costFlow s.shotContexts.length / 125
    ({ s with flow := r.1, frame := { s.frame.work 1 slots with flowStarted := true, flowDone := true } }.raiseAll r.2).count
      ([seqAct 3 0x40 0 1, seqAct 3 0x41 0 (flag subst)] ++ workActs 3 true slots)
  else s

/-! ### The boundary (R262, R287, R88) -/

/-- The result of a frame whose computation was not complete (R88, Table 8.3): method 5 repeats the previous flow. -/
def FlowOut.repeated (o : FlowOut) : FlowOut :=
  { o with method := 5, set := 0, mask := 0, subst := true, good := false }

/-- The result where no frame came before. -/
def Flow.blankOut (f : Flow) : FlowOut :=
  { q := 0, qc := 0, vMean := 0, cMed := f.cMed, mask := 0, method := 5, set := 0, creep := f.creep, theta := 0,
    press := 0, tStand := 0, pStand := 0, re := 0, kRe := 1, concHeld := false, medium := f.active,
    candidate := f.candidate, reverse := f.dir == 1, mismatch := f.mismatch, ready := false, diag := f.diag,
    conc := f.conc, h2 := f.h2, cv := 0, good := false, speeds := [], subst := true, valid := false }

/-- The flow result the boundary takes (R309): that of the frame, or method 5; no flow where the engine did not run
(R296). -/
def State.frameFlow (s : State) : FlowOut :=
  if !s.measuring then { s.flow.blankOut with creep := false, subst := false }
  else match s.flow.out with
  | some o => o
  | none => match s.flow.last with
    | some o => o.repeated
    | none => s.flow.blankOut

/-- PROVREF of the sensor results that the flow computation of the frame uses: the medium temperature, and the pressure where
it is measured (R33, R273). -/
def State.mediumProv (s : State) : Bool :=
  let src := s.on_ 0x0B08 5
  (s.sen.val (if src = 4 then 5 else src)).prov || (pEnabled s.eff && (s.sen.val 4).prov)

/-- PROVREF of the flow and return temperatures, where thermal energy is formed (R33, R301). -/
def State.thermalProv (s : State) : Bool :=
  s.on_ 0x1001 2 != 0 && (List.range 4).any fun i =>
    let role := field (s.on_ 0x0B00 (i + 1)) 5 4
    (role == 1 || role == 2) && (s.sen.val i).prov

/-- SUBST, RETRY, LOWAMP, SAT and PROVREF over the PATH_RESULTs of the slot contexts of the frame, and PROVREF of the sensor
results it uses (R287, R33). -/
def State.slotFlags (s : State) : Nat :=
  let quals := ((if s.mode = .taper then [0] else (slotsOf s.eff).map (slotCtx s.eff)).filter s.scheduled).map fun n =>
    pathQual s.clk.provisional (s.ac.ctxAt n)
  let any := fun (b : Nat) => quals.any fun q => bitAt q b
  flagAt (any 1) 1 + flagAt (any 2) 2 + flagAt (any 3) 3 + flagAt (any 4) 4 + flagAt (any 7 || s.mediumProv) 7

/-- QUAL of a FLOW_RESULT. -/
def flowQual (slotFlags : Nat) (o : FlowOut) : Nat :=
  flag o.valid + flagAt (bitAt slotFlags 1 || o.subst) 1 + flagAt (bitAt slotFlags 2) 2 + flagAt (bitAt slotFlags 3) 3 +
    flagAt (bitAt slotFlags 4) 4 + flagAt (bitAt slotFlags 7) 7

/-- The FLOW_RESULT of a frame (Table 8.9). -/
def flowRecord (v : View) (frame qual : Nat) (o : FlowOut) : Record :=
  let q := unsigned 64 o.q
  { type := 0x02, gen := 0, cls := 0, src := 0x48, qual := qual, frame := frame % 65536,
    payload :=
      [low 32 q, q / 2 ^ 32, unsigned 32 (fitS 32 (roundAway (1000000 * o.vMean))),
       fitU 32 (roundAway (1000000 * o.cMed)), o.mask,
       o.method % 16 * 2 ^ 28 + o.set % 16 * 2 ^ 24 + o.medium % 256 * 65536 + o.candidate % 256 * 256 +
         flagAt o.creep 7 + flagAt o.reverse 6 + flagAt (o.tStand != 0) 5 + flagAt (o.pStand != 0) 4 +
         flagAt o.concHeld 3 + flagAt o.mismatch 2 + flagAt o.ready 1,
       toF32 o.re, toF32 o.kRe, natAt o.diag 0 * 65536 + natAt o.diag 1, natAt o.diag 2 * 65536 + natAt o.diag 3,
       (if medKind v o.medium = 2 then hundredths o.conc else 0) % 65536 * 65536 +
         (if medKind v o.medium = 4 then hundredths o.h2 else 0) % 65536,
       fitU 32 (roundAway o.cv), unsigned 32 o.theta, o.press % 2 ^ 32] }

/-- The flow engine as the frame closes: good frames enter the ring, and the result becomes the last one; a
frame under method 5 computed no diagnostics (R271). -/
def Flow.closeFrame (o : FlowOut) (f : Flow) : Flow :=
  { f with ring := if o.good then (o.speeds :: f.ring).take 64 else f.ring
           ringHead := if o.good then (f.ringHead + 1) % 64 else f.ringHead
           stale := f.stale || o.method == 5, out := none, last := some o }

/-- Under MEDIUM_MODE 1 the active medium is FIXED_ENTRY (R279, R280). -/
def Flow.fixMedium (v : View) (f : Flow) : Flow × List Raised :=
  let fixed := v (key 0x0C0B 2)
  if v (key 0x0C0B 1) = 1 ∧ f.active ≠ fixed then (f.activate v fixed, [mediumEvent fixed f.active false f.cMed])
  else (f, [])

/-- FLOW_CONFIG accepted (R261, R268, R271, R279, R280): the commanded entry into MEASURE or VERIFY from CONFIG. -/
def Flow.accept (v : View) (f : Flow) : Flow × List Raised :=
  let f1 := { f with held := 0, holdCount := 0, creep := v (key 0x0C12 3) != 0, creepRun := 0, lastMag := 0,
                     turb := List.replicate 32 [], candRun := 0, mismatch := false, last := none, out := none, fault := 0 }
  f1.fixMedium v

end Sys2Proof.Machine
end

