-- ==== Sys2Proof/Machine/Quantity.lean ====
section
/-! DEFINITION. The quantity engine (Chapter 9): the increments of a frame and their accounting, the registers, the commit
and its banks, QUANTITY_SNAPSHOT, the pulse outputs and FTO. -/

namespace Sys2Proof.Machine

open Sys2Proof

/-! ### Registers (R293, R308) -/

/-- An increment as fixed point with 32 fraction bits (R308). -/
def fixed (x : Rat) : Nat := fitU 128 (roundAway (x * ((2 ^ 32 : Nat) : Rat)))

/-- The addition of R308. -/
def Reg.add (inc : Nat) (r : Reg) : Reg :=
  let sum := r.residue + inc % 2 ^ 32
  { value := (r.value + inc / 2 ^ 32 + sum / 2 ^ 32) % 2 ^ 96, residue := sum % 2 ^ 32 }

/-- A register cleared. -/
def Reg.zero : Reg := { value := 0, residue := 0 }

/-- Register `i` of the 64. -/
def Qty.reg (q : Qty) (i : Nat) : Reg := q.regs.getD i Reg.zero

/-- Add fixed-point increments to registers. -/
def addRegs (incs : List (Nat × Nat)) (regs : List Reg) : List Reg :=
  incs.foldl (fun rs p => modAt rs p.1 (Reg.add p.2)) regs

/-- The increment a list gives a quantity. -/
def incOf (incs : List (Nat × Nat)) (i : Nat) : Nat := ((incs.filter fun p => p.1 == i).map fun p => p.2).sum

/-! ### Forming the increments (R295 to R307) -/

/-- d_k, s (R295). -/
def frameSeconds (ticks : Nat) (scale : Int) : Rat :=
  quo (ticks : Rat) 32768 * (1 + quo (scale : Rat) ((2 ^ 32 : Nat) : Rat))

/-- Z_T in mK, or Z_P in Pa. -/
def zPoint (v : View) (t : Bool) (i : Nat) : Rat :=
  if t then ((signed 32 (v (key 0x1004 (i + 1))) : Int) : Rat) else (v (key 0x1005 (i + 1)) : Rat)

/-- The place of a point among eight ascending points, 0 to 6. -/
def zPlace (pts : Nat → Rat) (x : Rat) : Nat :=
  (List.range 6).foldl (fun n i => if pts (i + 1) ≤ x then i + 1 else n) 0

/-- Z at a temperature in mK and a pressure (R302), and whether the point lies in the table. -/
def zFactor (v : View) (θ p : Rat) : Rat × Bool :=
  let zt := zPoint v true
  let zp := zPoint v false
  let x := min (zt 7) (max (zt 0) θ)
  let y := min (zp 7) (max (zp 0) p)
  let i := zPlace zt x
  let j := zPlace zp y
  let z := fun (a b : Nat) => ofF32 (v (key 0x1006 (8 * a + b + 1)))
  let at_ := fun (a : Nat) => lerp (zp j) (z a j) (zp (j + 1)) (z a (j + 1)) y
  (lerp (zt i) (at_ i) (zt (i + 1)) (at_ (i + 1)) x,
    decide (zt 0 ≤ θ) && decide (θ ≤ zt 7) && decide (zp 0 ≤ p) && decide (p ≤ zp 7))

/-- The integral of c_p of a kind 2 medium by the Simpson rule over 16 intervals (R301). -/
def simpsonHeat (v : View) (e : Nat) (p x from_ to_ : Rat) : Rat :=
  let h := (to_ - from_) / 16
  h / 3 * sumR ((List.range 17).map fun i =>
    (if i = 0 ∨ i = 16 then 1 else if i % 2 = 1 then 4 else 2) * liquidHeat v e (from_ + (i : Rat) * h) p x)

/-- HEAT and COLD of a frame, mJ (R301), from its mass in mg and the two temperatures in mK. -/
def thermal (v : View) (e : Nat) (mass p x : Rat) (tf tr : Int) : Rat × Rat :=
  let kind := medKind v e
  let c := fun (t : Int) => clampWater kind (quo (t : Rat) 1000)
  let dh := if kind = 2 then simpsonHeat v e p x (c tr) (c tf) else hWater (c tf) p - hWater (c tr) p
  let de := mass / 1000000 * dh * 1000
  let mode := v (key 0x1001 2)
  (if bitAt mode 0 && decide ((v (key 0x1001 3) : Int) ≤ tf - tr) then de else 0,
   if bitAt mode 1 && decide ((v (key 0x1001 4) : Int) ≤ tr - tf) && decide (tf ≤ signed 32 (v (key 0x1001 5))) then -de
   else 0)

/-- The medium a frame's quantities are formed with: the active one, or the last known one (R298). -/
def State.frameMedium (s : State) (o : FlowOut) : Nat := if o.medium = 0xFF then s.flow.known else o.medium

/-- The accounting of a frame (R297, Table 9.2, Table 9.3): a family that does not apply to the kind of the active
medium is in no error, and while that medium is unknown every enabled family is (R281). The flow and return temperatures count
where thermal energy is formed (log 40). -/
def State.account (s : State) (o : FlowOut) : Acct :=
  let v := s.eff
  let e := s.frameMedium o
  let kind := medKind v e
  let liquid := kind == 1 || kind == 2
  let gas := kind == 3 || kind == 4
  let en := v (key 0x1001 1)
  let θ : Rat := quo (o.theta : Rat) 1000
  let fr := s.flowReturn
  let stand := match fr with
    | none => 0
    | some p => max p.1.2 p.2.2
  let lost := o.method == 4
  let unknown := o.medium == 0xFF
  let beyond := o.tStand == 2 || o.pStand == 2
  let zOut := gas && !(zFactor v (o.theta : Rat) (o.press : Rat)).2
  let mOut := liquid && !inWater kind θ
  let tOut := mOut || (liquid && match fr with
    | none => false
    | some p => !inWater kind (quo (p.1.1 : Rat) 1000) || !inWater kind (quo (p.2.1 : Rat) 1000))
  let any := lost || unknown || beyond || zOut
  let heat := v (key 0x1001 2) != 0
  { vol := lost,
    base := bitAt en 1 && (unknown || (!liquid && any)),
    mass := bitAt en 0 && (any || mOut || (heat && tOut)),
    thermal := heat && (unknown ||
      (!gas && fr.isSome && (lost || (beyond && stand != 0) || stand == 2 || tOut))),
    gas := bitAt en 2 && (unknown || (!liquid && any)) }

/-- A frame has a family in error. -/
def Acct.any (a : Acct) : Bool := a.vol || a.base || a.mass || a.thermal || a.gas

/-- The amounts of a frame by family: mass in mg, base volume in µL, HEAT, COLD and gas energy in mJ (R299 to R305). -/
structure Amounts where
  mass : Rat
  base : Rat
  heat : Rat
  cold : Rat
  gas : Rat
  deriving DecidableEq, Repr

/-- The amounts of a frame of ΔV = `dv` µL in magnitude; energy only with positive net flow. -/
def State.amounts (s : State) (o : FlowOut) (dv : Rat) : Amounts :=
  let v := s.eff
  let e := s.frameMedium o
  let kind := medKind v e
  let θ : Rat := quo (o.theta : Rat) 1000
  let p : Rat := (o.press : Rat)
  if kind = 1 ∨ kind = 2 then
    let mass := liquidDensity v e (clampWater kind θ) p o.conc * dv / 1000
    let hc := match s.flowReturn with
      | none => (0, 0)
      | some t => if 0 < o.q then thermal v e mass p o.conc t.1.1 t.2.1 else (0, 0)
    { mass := mass, base := 0, heat := hc.1, cold := hc.2, gas := 0 }
  else if kind = 3 ∨ kind = 4 then
    let t := θ + 27315 / 100
    let z := (zFactor v (o.theta : Rat) p).1
    let base := dv * quo p (v (key 0x1003 2) : Rat) * quo (quo (v (key 0x1003 1) : Rat) 1000) t *
      quo (ofF32 (v (key 0x1003 3))) z
    { mass := quo (dv / 1000 * p * (gasMix v e o.h2).1 / 1000) (z * gasR * t), base := base, heat := 0, cold := 0,
      gas := if 0 < o.q then base / 1000000000 * calorific v e o.h2 * 1000 else 0 }
  else { mass := 0, base := 0, heat := 0, cold := 0, gas := 0 }

/-- The increments of a frame of `d` seconds: quantity and fixed-point increment (R296, R298, R306, R307). -/
def State.increments (s : State) (o : FlowOut) (d : Rat) (a : Acct) : List (Nat × Nat) :=
  let v := s.eff
  let en := v (key 0x1001 1)
  let kind := medKind v (s.frameMedium o)
  let dv := absR ((o.q : Rat) * d / 1000)
  let m := s.amounts o dv
  let fwd := decide (0 < o.q)
  let moving := decide (o.q ≠ 0)
  let put := fun (c : Bool) (i : Nat) (x : Rat) => if c then [(i, fixed x)] else []
  let gasKind := kind == 3 || kind == 4
  put o.creep 12 (absR ((o.qc : Rat) * d / 1000)) ++
  (if moving && !a.vol then [(if fwd then 0 else 1, fixed dv), (if fwd then 13 else 15, fixed d)] else []) ++
  put (moving && bitAt en 1 && gasKind && !a.base) (if fwd then 3 else 4) m.base ++
  put (moving && bitAt en 0 && !a.mass) (if fwd then 5 else 6) m.mass ++
  put (v (key 0x1001 2) != 0 && !a.thermal) 7 m.heat ++
  put (v (key 0x1001 2) != 0 && !a.thermal) 8 m.cold ++
  put (bitAt en 2 && !a.gas) 9 m.gas ++
  put (a.vol || a.base || a.mass) 2 dv ++
  put (a.thermal || a.gas) 10
    ((if a.thermal then m.heat + m.cold else 0) + (if a.gas then m.gas else 0)) ++
  put a.any 14 d

/-! ### Accumulation (R309) -/

/-- The tariffed quantities in the order of R372. -/
def tariffed : List Nat := [0, 3, 5, 7, 8, 9]

/-- What the accumulation of a frame hands on: the fixed-point increments, and each register's integer change. -/
structure Gain where
  incs : List (Nat × Nat)
  ints : List Nat         -- quantities 0 to 15
  deriving DecidableEq, Repr

/-- No gain. -/
def Gain.none_ : Gain := { incs := [], ints := List.replicate 16 0 }

/-- Accumulate a frame or a partial frame of some ticks (R296, R313): the state after it and what it gained. A frame of
method 5 takes the accounting of the frame before (R88). -/
def State.accumulate (o : FlowOut) (ticks : Nat) (s : State) : State × Gain :=
  if s.qty.lost || decide (s.mode = .config) then
    ({ s with qty := { s.qty with acct := Acct.none_, gained := [], gainedTime := frameSeconds ticks s.clk.tickScale } }, Gain.none_)
  else
    let a := if o.method = 5 then s.qty.acct else s.account o
    let incs := s.increments o (frameSeconds ticks s.clk.tickScale) a
    let regs := addRegs incs s.qty.regs
    ({ s with qty := { s.qty with regs := regs, acct := a, gained := incs, gainedTime := frameSeconds ticks s.clk.tickScale } },
     { incs := incs,
       ints := (List.range 16).map fun i => (regs.getD i Reg.zero).value - (s.qty.reg i).value })

/-- The tariff registers take the increments of their quantities (R372). -/
def addTariff (tariff : Nat) (incs : List (Nat × Nat)) (regs : List Reg) : List Reg :=
  addRegs ((List.range 6).map fun j => (16 + 6 * tariff + j, incOf incs (natAt tariffed j))) regs

/-! ### Pulse outputs (R320 to R326) -/

/-- MODE of an output. -/
def poMode (w : Nat) : Nat := field w 31 30

/-- The width of a pulse in ticks (R323). -/
def poTicks (w : Nat) : Nat := (roundAway (quo (32768 * field w 9 0 : Nat) 1000)).toNat

/-- PULSE_BACKLOG (R324): raised for output `n`, or 8 for FTO. -/
def backlogEvent (n backlog : Nat) (full : Bool) : Raised :=
  { ev := 53, code := n + flagAt full 4, arg := backlog, src := 0x42, cls := 0 }

/-- The event of a backlog that has grown, and whether it has been told. -/
def backlogTold (limit n owed : Nat) (told : Bool) : Bool × List Raised :=
  let full := decide (2 ^ 32 ≤ owed)
  let b := min (2 ^ 32 - 1) owed
  if full || (decide (limit < b) && !told) then (true, [backlogEvent n b full]) else (told && b != 0, [])

/-- The step of Table 9.4 for one output: its accumulator takes the change of its source (R322). -/
def PulseOut.gain (v : View) (n : Nat) (ints : List Nat) (o : PulseOut) : PulseOut × List Raised :=
  let w := v (key 0x1100 (n + 1))
  if poMode w = 1 then
    let weight := v (key 0x1101 (n + 1))
    let a := o.acc + natAt ints (field w 20 16)
    let owed := o.backlog + a / (max 1 weight)
    let t := backlogTold (v (key 0x1104 1)) n owed o.told
    ({ o with acc := a % (max 1 weight), backlog := min (2 ^ 32 - 1) owed, told := t.1 }, t.2)
  else (o, [])

/-- An output as a frame opens at a tick since the start: spacing and first tick of R323, and the level of MODE 2. -/
def PulseOut.open_ (v : View) (n dir length tick : Nat) (o : PulseOut) : PulseOut :=
  let w := v (key 0x1100 (n + 1))
  let two := 2 * poTicks w
  { o with spacing := if bitAt w 29 && decide (0 < o.backlog) then max two (length / o.backlog) else two,
           first := tick + 1, dirLevel := poMode w == 2 && dir == 1 }

/-- A change of an output's configuration takes effect (R325). -/
def PulseOut.reconfigure (old new : Nat) (weightChanged : Bool) (o : PulseOut) : PulseOut :=
  if poMode new = 0 then { o with acc := 0, backlog := 0, count := 0, told := false, dirLevel := false }
  else if field old 20 16 ≠ field new 20 16 ∨ weightChanged = true then { o with acc := 0 }
  else o

/-- The output sinks (R320). -/
def PulseOut.level (o : PulseOut) : Bool := o.high || o.dirLevel

/-- Change an output. -/
def State.modOut (n : Nat) (f : PulseOut → PulseOut) (s : State) : State :=
  { s with qty := { s.qty with outs := modAt s.qty.outs n f } }

/-- PULSE_START (R323): output `n` starts a pulse on a tick edge. -/
def pulseStart (n cyc : Nat) (s0 : State) : State :=
  let s := { s0 with frame := s0.frame.at_ cyc }
  let o := s.qty.outs.getD n PulseOut.reset
  let t := s.frame.absTick
  if (s.frame.running || decide (s.pwr.state = .snuff)) = true ∧ poMode (s.on_ 0x1100 (n + 1)) = 1 ∧ 0 < o.backlog ∧ o.high = false ∧ o.first ≤ t ∧
      (o.edge.map fun e => e + o.spacing).getD 0 ≤ t then
    s.modOut n fun o =>
      { o with backlog := o.backlog - 1, high := true, edge := some t, ends := t + poTicks (s.on_ 0x1100 (n + 1))
               told := o.told && o.backlog != 1 }
  else s

/-- PULSE_END (R323): w ticks after its leading edge the pulse ends. -/
def pulseEnd (n cyc : Nat) (s0 : State) : State :=
  let o := s0.qty.outs.getD n PulseOut.reset
  let s := { s0 with frame := s0.frame.at_ (min cyc (s0.frame.cycOfTick o.ends)) }
  if o.high && decide (o.ends ≤ s.frame.absTick) then
    s.modOut n fun o => { o with high := false, count := (o.count + 1) % 2 ^ 48 }
  else { s0 with frame := s0.frame.at_ cyc }

/-! ### FTO (R327 to R329) -/

/-- FTO is enabled in VERIFY (R327). -/
def State.ftoActive (s : State) : Bool := s.frame.running && decide (s.mode = .verify) && bitAt (s.on_ 0x1110 1) 15

/-- FTO cleared (R329). -/
def Fto.cleared (f : Fto) : Fto :=
  { f with acc := 0, backlog := 0, count := 0, owed := 0, begun := 0, high := false, told := false }

/-- The pulses not started by a boundary go to FTO_BACKLOG (R328). -/
def Fto.park (f : Fto) : Fto := { f with backlog := min (2 ^ 32 - 1) (f.backlog + (f.owed - f.begun)), owed := 0, begun := 0 }

/-- The step of Table 9.4 for FTO (R328), after `Fto.park`: `cycles` is the length of the frame now open. -/
def Fto.gain (control constant limit : Nat) (ints : List Nat) (cycles : Nat) (f : Fto) : Fto × List Raised :=
  let t := backlogTold limit 8 f.backlog f.told
  let b := f.acc + natAt ints (field control 4 0) * constant
  let scale := 10 ^ field control 11 8
  let n := b / scale + f.backlog
  ({ f with acc := b % scale, backlog := 0, owed := n, begun := 0,
            spacing := max 640 ((cycles - 4096) / (max 1 n)), told := t.1 }, t.2)

/-- FTO_PULSE (R328): a rising edge at its place on the compute clock, from 64 µs on, where that has come. -/
def ftoPulse (cyc : Nat) (s0 : State) : State :=
  let f := s0.qty.fto
  let edge := 4096 + f.begun * f.spacing
  if s0.ftoActive && decide (f.begun < f.owed) && !f.high && decide (edge < s0.frame.endCyc) && decide (edge ≤ cyc) then
    let s := { s0 with frame := s0.frame.at_ edge }
    { s with qty := { s.qty with
        fto := { f with begun := f.begun + 1, high := true, rose := s.frame.now, falls := s.frame.now + 8 * (f.spacing / 2)
                        count := (f.count + 1) % 2 ^ 48 } } }
  else { s0 with frame := s0.frame.at_ cyc }

/-- FTO_PULSE_END (R328): after half the spacing the output returns low. -/
def ftoPulseEnd (cyc : Nat) (s0 : State) : State :=
  let f := s0.qty.fto
  let s := { s0 with frame := s0.frame.at_ (min cyc ((f.falls - s0.frame.base + 7) / 8)) }
  if f.high && decide (f.falls ≤ s.frame.now) then { s with qty := { s.qty with fto := { f with high := false } } }
  else { s0 with frame := s0.frame.at_ cyc }

/-! ### QUANTITY_SNAPSHOT (R318, R319) -/

/-- The record of a frame. -/
def State.quantityRecord (s : State) (frame length : Nat) (o : FlowOut) (flowQ : Nat) : Record :=
  { type := 0x04, gen := 0, cls := 0, src := 0x49,
    qual := flag (!s.qty.failed) + flagAt (bitAt flowQ 1) 1 + flagAt (bitAt flowQ 7) 7, frame := frame % 65536,
    payload :=
      [frame % 2 ^ 32,
       flagAt s.qty.failed 31 + flagAt s.qty.acct.any 30 + flagAt o.creep 29 + flagAt (decide (o.q < 0)) 28 +
         frame / 2 ^ 32 % 65536,
       length % 2 ^ 32] ++
      ((List.range 16).flatMap fun i =>
        let r := (s.qty.reg i).value
        [r % 2 ^ 32, r / 2 ^ 32 % 2 ^ 32, r / 2 ^ 64 % 2 ^ 32]) }

/-- Whether a frame has one (R318). -/
def snapshotDue (div frame : Nat) : Bool := decide (div < 16) && frame % 2 ^ div == 0

/-! ### Commit (R310 to R313) -/

/-- The banks with the latest valid record first. -/
def Qty.latest (q : Qty) : Option (Nat × Commit) :=
  match q.banks.getD 0 none, q.banks.getD 1 none with
  | some a, some b => if a.seq < b.seq then some (1, b) else some (0, a)
  | some a, none => some (0, a)
  | none, some b => some (1, b)
  | none, none => none

/-- SEQ of the latest valid record (COMMIT_SEQ); 0 where there is none. -/
def Qty.seq (q : Qty) : Nat := match q.latest with
  | none => 0
  | some p => p.2.seq

/-- The bank the next commit writes. -/
def Qty.nextBank (q : Qty) : Nat := match q.latest with
  | none => 0
  | some p => 1 - p.1

/-- FLOW_STATE as it is committed; HOLD_COUNT saturates (R261). -/
def Flow.saved (f : Flow) : FlowState :=
  { active := f.active, known := f.known, dir := f.dir, creep := f.creep, holdCount := min 255 f.holdCount,
    dirRun := f.dirRun, creepRun := f.creepRun, held := f.held, conc := f32 f.conc, h2 := f32 f.h2, ring := f.ring, ringHead := f.ringHead }

/-- SENSOR_STATE as it is committed: ports 0 to 3, internal, pressure. -/
def Sensors.saved (x : Sensors) : List Int := ([0, 1, 2, 3, 5, 4] : List Nat).map fun i => (x.val i).value

/-- The commit record of the present state (Table 9.5). -/
def State.record (s : State) (frame : Nat) (partial_ : Bool) (group : Option Group) : Commit :=
  { seq := (s.qty.seq + 1) % 2 ^ 64, frame := frame, partial_ := partial_, lost := s.qty.lost, seconds := s.cal.seconds,
    tick := s.cal.prescaler, group := group, regs := s.qty.regs, flow := s.flow.saved, sensors := s.sen.saved,
    pulses := s.qty.outs.map fun o => (o.backlog, o.acc), bill := s.bill.st }

/-- Start writing a record into the bank that does not hold the latest valid one (R310). -/
def Qty.write (c : Commit) (q : Qty) : Qty :=
  { q with writing := some c }

/-- COMMIT_FAIL (Table 9.6). -/
def commitFail (kind seq cls : Nat) : Raised := { ev := 25, code := kind, arg := seq % 2 ^ 32, src := 0x49, cls := cls }

/-- The record under way checks when it is read back with some differences (R310). -/
def Qty.wroteWell (diff : List (Nat × Nat)) (q : Qty) : Bool := (q.writing.map (Commit.checks diff)).getD true

/-- The read-back of a commit: the bank it wrote holds the record, or nothing valid. -/
def Qty.readBack (ok : Bool) (q : Qty) : Qty :=
  match q.writing with
  | none => q
  | some c => { q with writing := none, banks := setAt q.banks q.nextBank (if ok then some c else none) }

/-- The banks as a start reads them, with the bits of each that have changed since they were written: bank, offset, bits
(R313). -/
def Qty.readBanks (damage : List (Nat × Nat × Nat)) (q : Qty) : Qty :=
  { q with banks := (List.range 2).map fun i =>
      (q.banks.getD i none).filter (Commit.checks ((damage.filter fun d => d.1 == i).map fun d => d.2)) }

/-- COMMIT_COMPLETE for the quantity engine (R310, R312): the events in the order raised. -/
def Qty.judge (ok : Bool) (q : Qty) : Qty × List Raised :=
  let q1 := q.readBack ok
  if ok then
    ({ q1 with failed := false, failRun := 0, oneBank := false },
      [{ ev := 24, code := 0, arg := q1.seq % 2 ^ 32, src := 0x49, cls := 0 }])
  else
    let run := q1.failRun + 1
    ({ q1 with failed := true, failRun := run, fails := satInc (2 ^ 32 - 1) q1.fails },
      [commitFail 1 q1.seq 0] ++ (if run % 8 = 0 then [commitFail 2 q1.seq 0] else []))

/-- The engine's state as a start restores it from a record (R313, R247, R326). -/
def State.restoreRecord (c : Commit) (s : State) : State :=
  let f := c.flow
  let x := c.sensors
  { s with
    qty := { s.qty with
      regs := c.regs
      outs := (List.range 8).map fun i =>
        let p := c.pulses.getD i (0, 0)
        { s.qty.outs.getD i PulseOut.reset with
          backlog := p.1, acc := p.2, high := false, dirLevel := false, edge := none, told := false } }
    flow := { s.flow with
      active := f.active, known := f.known, dir := f.dir, creep := f.creep, holdCount := f.holdCount, dirRun := f.dirRun,
      creepRun := f.creepRun, held := f.held, conc := f.conc, h2 := f.h2, ring := f.ring,
      ringHead := f.ringHead }
    sen := s.sen.started ([0, 1, 2, 3, 5, 4].map fun i => x.getD i 0)
    bill := { s.bill with st := c.bill } }

/-- A start without a valid record, or with LOST, is in creep (R268); FLOW_CUTOFF 0 disables it. -/
def State.startInCreep (s : State) : State :=
  { s with flow := { s.flow with creep := s.on_ 0x0C12 3 != 0, creepRun := 0 } }

/-- Commit restoration at a start (R313): the restored record, the flags and the events. -/
def State.restoreBanks (s : State) : State × Option Commit × List Raised :=
  match s.qty.latest with
  | none =>
    (State.startInCreep { s with qty := { s.qty with
        lost := true, oneBank := false, regs := List.replicate 64 Reg.zero, writing := none } }, none, [commitFail 3 0 2])
  | some p =>
    let one := s.qty.banks.any Option.isNone
    let s1 := if p.2.lost then (s.restoreRecord p.2).startInCreep else s.restoreRecord p.2
    ({ s1 with qty := { s1.qty with lost := p.2.lost, oneBank := one, writing := none } }, some p.2,
      if one then [commitFail 4 p.2.seq 2] else [])

/-! ### QTY_CLEAR (R317) -/

/-- The clear takes effect for the quantity engine and the outputs. -/
def Qty.cleared (q : Qty) : Qty :=
  { q with regs := List.replicate 64 Reg.zero, lost := false, clearing := false,
           outs := q.outs.map fun o => { o with acc := 0, backlog := 0, told := false },
           fto := { q.fto with acc := 0, backlog := 0, owed := 0, begun := 0, told := false } }

/-- QUANTITY_STATUS (Table 9.7). -/
def Qty.status (q : Qty) : Nat :=
  flag q.lost + flagAt q.oneBank 1 + flagAt q.failed 2 + flagAt q.acct.any 3

/-! ### The checks of R332 -/

/-- The subindex of the later point of the first pair that does not increase; 0 for none. -/
def zDescent (pts : Nat → Rat) : Nat :=
  match (List.range 7).find? fun i => decide (pts (i + 1) ≤ pts i) with
  | none => 0
  | some i => i + 2

/-- The first fault of the quantity configuration as QTY_CONFIG_FAULT shows it; 0 for none. -/
def quantityFault (v : View) : Nat :=
  let en := v (key 0x1001 1)
  let roles := fun (r : Nat) => (List.range 4).filter fun i => field (v (key 0x0B00 (i + 1))) 5 4 == r
  let one := fun (r : Nat) => (roles r).length == 1 && (roles r).all fun i => portType v i != 0
  let zt := zDescent (zPoint v true)
  let zp := zDescent (zPoint v false)
  if v (key 0x1001 2) ≠ 0 ∧ (one 1 && one 2) = false then 0x100
  else if bitAt en 2 && !bitAt en 1 then 0x200
  else if en % 8 ≠ 0 ∧ zt ≠ 0 then 0x300 + zt
  else if en % 8 ≠ 0 ∧ zp ≠ 0 then 0x500 + zp
  else match (List.range 64).find? fun i => decide (ofF32 (v (key 0x1006 (i + 1))) ≤ 0) with
    | some i => 0x400 + i + 1
    | none => if ofF32 (v (key 0x1003 3)) ≤ 0 then 0x600 else 0

end Sys2Proof.Machine
end

