-- ==== Sys2Proof/Machine/Tariff.lean ====
section
/-! DEFINITION. Tariff calendars (Tables 11.1 to 11.5): layout, validity, the tariff at a local time, and the switch
points and scheduled closes between two times. Local times are seconds from 2000-01-01 00:00:00. -/

namespace Sys2Proof.Machine

open Sys2Proof

/-- The index at which a calendar is stored: the two calendars keep their places, and the bank says which is active. -/
def calBase (bank active : Bool) : Nat := if bank = active then 0x1250 else 0x1210

/-- The stored index of an entry of Table 11.1 as a request names it: 0x1210 to 0x123F names the active calendar, 0x1250
to 0x127F the passive one. -/
def calIndex (bank : Bool) (index : Nat) : Nat :=
  if 0x1210 ≤ index ∧ index ≤ 0x123F then index - 0x1210 + calBase bank true
  else if 0x1250 ≤ index ∧ index ≤ 0x127F then index - 0x1250 + calBase bank false
  else index

/-- SEASON n of the calendar stored at a base. -/
def calSeason (v : View) (base n : Nat) : Nat := v (key base (n + 1))
/-- WEEK_PROFILE n. -/
def calWeek (v : View) (base n : Nat) : Nat := v (key (base + 1) (n + 1))
/-- Switch point i of day profile n. -/
def calPoint (v : View) (base n i : Nat) : Nat := v (key (base + 0x10 + n) (i + 1))
/-- SPECIAL_DAY n. -/
def calSpecial (v : View) (base n : Nat) : Nat := v (key (base + 0x20) (n + 1))

/-- The used seasons. -/
def seasons (v : View) (base : Nat) : List Nat := ((List.range 8).map (calSeason v base)).filter fun w => bitAt w 31

/-- The start of a season within the year, MONTH × 32 + DAY. -/
def seasonStart (w : Nat) : Nat := field w 30 27 * 32 + field w 26 22

/-- The season with the latest start among some. -/
def latestSeason : List Nat → Option Nat
  | [] => none
  | w :: ws => match latestSeason ws with
    | none => some w
    | some x => if seasonStart x < seasonStart w then some w else some x

/-- The used switch points of a day profile: second of the day and tariff, in subindex order. -/
def dayPoints (v : View) (base n : Nat) : List (Nat × Nat) :=
  (((List.range 12).map (calPoint v base n)).filter fun w => bitAt w 15).map fun w =>
    (field w 14 10 * 3600 + field w 9 4 * 60, field w 2 0)

/-- The day profile of a local date (R367). -/
def dayProfile (v : View) (base : Nat) (f : Fields) : Nat :=
  let days := (List.range 64).map (calSpecial v base)
  let names := fun (w : Nat) => bitAt w 31 && field w 21 18 == f.month && field w 17 13 == f.day
  match days.find? fun w => names w && field w 30 22 == f.year - 2000 with
  | some w => field w 3 0
  | none => match days.find? fun w => names w && field w 30 22 == 511 with
    | some w => field w 3 0
    | none =>
      let used := seasons v base
      let before := used.filter fun w => decide (seasonStart w ≤ f.month * 32 + f.day)
      match latestSeason (if before.isEmpty then used else before) with
      | none => 0
      | some w => field (calWeek v base (field w 2 0)) (4 * (f.wday - 1) + 3) (4 * (f.wday - 1))

/-- The switch point of a day in force at a second of the day: the latest at or before it (R367). -/
def pointAt (points : List (Nat × Nat)) (second : Nat) : Nat × Nat :=
  points.foldl (fun best p => if p.1 ≤ second ∧ best.1 ≤ p.1 then p else best) (0, 0)

/-- The tariff at a local time (R367). -/
def tariffAt (v : View) (base t : Nat) : Nat :=
  (pointAt (dayPoints v base (dayProfile v base (Fields.of t))) (t % 86400)).2

/-- The last switch point at or before a local time. -/
def lastPoint (v : View) (base t : Nat) : Nat :=
  t / 86400 * 86400 + (pointAt (dayPoints v base (dayProfile v base (Fields.of t))) (t % 86400)).1

/-- The switch points in the local span (a, b], ascending. -/
def pointsIn (v : View) (base a b : Nat) : List Nat :=
  (((List.range (b / 86400 + 1 - a / 86400)).map fun k => a / 86400 + k).flatMap fun d =>
    (dayPoints v base (dayProfile v base (Fields.of (d * 86400)))).map fun p => d * 86400 + p.1).filter fun t =>
      decide (a < t) && decide (t ≤ b)

/-! ### Validity (R368) -/

/-- A season word alone. -/
def seasonOk (w : Nat) : Bool :=
  field w 21 3 == 0 && (!bitAt w 31 || (decide (1 ≤ field w 30 27) && decide (field w 30 27 ≤ 12) &&
    decide (1 ≤ field w 26 22) && decide (field w 26 22 ≤ monthLength 2001 (field w 30 27))))

/-- The ranges of Table 11.5, which a write of a passive special day is held to; whether its date exists is asked when the
calendar is to be activated (R368). -/
def specialRange (w : Nat) : Bool :=
  let y := field w 30 22
  field w 12 4 == 0 && (!bitAt w 31 || ((decide (y ≤ 399) || y == 511) && decide (1 ≤ field w 21 18) &&
    decide (field w 21 18 ≤ 12) && decide (1 ≤ field w 17 13)))

/-- A special day alone. -/
def specialOk (w : Nat) : Bool :=
  let y := field w 30 22
  field w 12 4 == 0 && (!bitAt w 31 || ((decide (y ≤ 399) || y == 511) && decide (1 ≤ field w 21 18) &&
    decide (field w 21 18 ≤ 12) && decide (1 ≤ field w 17 13) &&
    decide (field w 17 13 ≤ monthLength (if y = 511 then 2001 else 2000 + y) (field w 21 18))))

/-- A switch point alone. -/
def pointOk (w : Nat) : Bool :=
  !bitAt w 3 && (!bitAt w 15 || (decide (field w 14 10 ≤ 23) && decide (field w 9 4 ≤ 59)))

/-- A list of times strictly ascends. -/
def ascends : List Nat → Bool
  | [] => true
  | [_] => true
  | a :: b :: cs => decide (a < b) && ascends (b :: cs)

/-- A day profile that is named: used points from subindex 1 without a gap, the first at 00:00, strictly ascending. -/
def dayOk (v : View) (base n : Nat) : Bool :=
  let ws := (List.range 12).map (calPoint v base n)
  let used := ws.takeWhile fun w => bitAt w 15
  let times := used.map fun w => field w 14 10 * 60 + field w 9 4
  !used.isEmpty && used.length == (ws.filter fun w => bitAt w 15).length && times.headD 1 == 0 && ascends times

/-- The first fault of a calendar as CALENDAR_FAULT shows it (R368); 0 for a valid one. Season, week profile, day
profile and special day faults are looked for in that order. -/
def calendarFault (v : View) (base : Nat) : Nat :=
  let ss := (List.range 8).map (calSeason v base)
  let used := fun (w : Nat) => bitAt w 31
  let seasonBad := fun (n : Nat) =>
    !seasonOk (natAt ss n) ||
      (used (natAt ss n) && (List.range n).any fun m => used (natAt ss m) && seasonStart (natAt ss m) == seasonStart (natAt ss n))
  let sp := (List.range 64).map (calSpecial v base)
  let specialBad := fun (n : Nat) =>
    !specialOk (natAt sp n) ||
      (used (natAt sp n) && (List.range n).any fun m =>
        used (natAt sp m) && field (natAt sp m) 30 13 == field (natAt sp n) 30 13)
  let weeks := (ss.filter used).map fun w => field w 2 0
  let named := (weeks.flatMap fun w => (List.range 7).map fun d => field (calWeek v base w) (4 * d + 3) (4 * d)) ++
    (sp.filter used).map fun w => field w 3 0
  let dayBad := fun (n : Nat) =>
    !((List.range 12).all fun i => pointOk (calPoint v base n i)) || (named.contains n && !dayOk v base n)
  match (if (ss.filter used).isEmpty then some 0 else (List.range 8).find? seasonBad) with
  | some n => 0x100 + n
  | none => match (List.range 8).find? fun n => field (calWeek v base n) 31 28 != 0 with
    | some n => 0x200 + n
    | none => match (List.range 16).find? dayBad with
      | some n => 0x300 + n
      | none => match (List.range 64).find? specialBad with
        | some n => 0x400 + n
        | none => 0

/-! ### Billing schedule (R377, Table 11.10) -/

/-- BILLING_SCHEDULE is in range. -/
def scheduleOk (w : Nat) : Bool :=
  let m := field w 29 26
  field w 9 1 == 0 && decide (1 ≤ m) && decide (m ≤ if field w 31 30 = 2 then 3 else 12) &&
    decide (1 ≤ field w 25 21) && decide (field w 25 21 ≤ 28) && decide (field w 20 16 ≤ 23) && decide (field w 15 10 ≤ 59)

/-- A month, counted from January 2000, has a scheduled close. -/
def monthCloses (w month : Nat) : Bool :=
  match field w 31 30 with
  | 1 => true
  | 2 => (month + 13 - field w 29 26) % 3 == 0
  | 3 => month % 12 + 1 == field w 29 26
  | _ => false

/-- The local time of the close of a month. -/
def closeOfMonth (w month : Nat) : Nat :=
  dayNumber (2000 + month / 12) (month % 12 + 1) (field w 25 21) * 86400 + field w 20 16 * 3600 + field w 15 10 * 60

/-- The month of a local time, counted from January 2000. -/
def monthOf (t : Nat) : Nat :=
  let f := Fields.of t
  (f.year - 2000) * 12 + f.month - 1

/-- The local times of the scheduled closes in (a, b], ascending. -/
def closesIn (w a b : Nat) : List Nat :=
  if b ≤ a then []
  else
    ((((List.range (monthOf b + 1 - monthOf a)).map fun k => monthOf a + k).filter (monthCloses w)).map
      (closeOfMonth w)).filter fun t => decide (a < t) && decide (t ≤ b)

/-- The local time of the next scheduled close after a local time; the time itself where nothing is scheduled. -/
def nextClose (w t : Nat) : Nat :=
  match ((List.range 26).map fun k => closeOfMonth w (monthOf t + k)).find? fun c =>
      decide (t < c) && monthCloses w (monthOf c) with
  | none => t
  | some c => c

end Sys2Proof.Machine
end

