-- ==== Sys2Proof/Machine/Billing.lean ====
section
/-! DEFINITION. The billing engine (Chapter 11): work at the boundary, demand, billing closes and their snapshots,
catch-up at a start, settings of the clock, prepayment and the supply actuator. The flags of an instant are kept as in
Table 11.9: bit 0 UNCERTAIN, bit 1 LATE, bit 2 FORCED. -/

namespace Sys2Proof.Machine

open Sys2Proof

/-- Change BILLING_STATE. -/
def State.modBill (f : BillState → BillState) (s : State) : State := { s with bill := { s.bill with st := f s.bill.st } }

/-- An event of the billing engine. -/
def billEvent (ev code arg : Nat) : Raised := { ev := ev, code := code, arg := arg % 2 ^ 32, src := 0x4A, cls := 0 }

/-! ### Local time of past and future instants -/

/-- The rules are in force (R346). -/
def State.autoDst (s : State) : Bool := bitAt (s.on_ 0x0501 2) 0

/-- Whether daylight saving holds at a standard time: by the rules, or as it stands. -/
def State.dstAt (s : State) (t : Nat) : Bool :=
  if s.autoDst then ruleState (s.on_ 0x0501 3) (s.on_ 0x0501 4) t else s.cal.dst

/-- The local time of a standard time. -/
def State.localOf (s : State) (t : Nat) : Nat := t + 3600 * flag (s.dstAt t)

/-- The standard time of a local time. -/
def State.standardOfLocal (s : State) (l : Nat) : Nat := if s.dstAt (l - 3600) then l - 3600 else l

/-! ### Demand (R373 to R376) -/

/-- DEMAND_CONTROL is in range (R373). -/
def demandOk (w : Nat) : Bool :=
  let n := field w 11 8
  field w 7 5 == 0 && decide (field w 14 12 ≠ 7) && decide (n ≠ 0) &&
    ([60, 120, 300, 600, 900, 1800, 3600].getD (field w 14 12) 0) % (max 1 n) == 0 && tariffed.contains (field w 4 0)

/-- LENGTH in seconds. -/
def demandLength (w : Nat) : Nat := [60, 120, 300, 600, 900, 1800, 3600].getD (field w 14 12) 60

/-- s, the length of a subinterval in seconds; 0 while demand is off. -/
def subLength (w : Nat) : Nat := if bitAt w 15 then demandLength w / max 1 (field w 11 8) else 0

/-- Demand restarts at a time. -/
def State.restartDemand (at_ : Nat) (s : State) : State :=
  { s with bill := { s.bill with
      short := true
      st := { s.bill.st with subOpen := 0, subs := [], subStart := at_ } } }

/-- A demand end (R374 to R376). -/
def State.demandEnd (inst flags : Nat) (s : State) : State :=
  let w := s.on_ 0x1300 1
  let st := s.bill.st
  let n := field w 11 8
  let have_ := st.subs.length + 1
  let dq := ((st.subOpen :: st.subs).take n).sum
  let d := fitU 64 (roundAway (quo ((dq * 1000 : Nat) : Rat) (demandLength w : Rat)))
  let short := bitAt flags 4 || decide (have_ < n) || (have_ == n && s.bill.short)
  let cur := st.maxCur.getD st.tariff MaxD.zero
  let f := flags % 8 + flagAt (decide (inst ≤ st.lastDemandEnd)) 3 + flagAt short 4 + flagAt (decide (cur.value < d)) 5
  let m : MaxD := { value := d, ends := inst, flags := f }
  (s.modBill fun st =>
    { st with
      maxCur := if cur.value < d then setAt st.maxCur st.tariff m else st.maxCur
      last := m
      lastDemandEnd := max st.lastDemandEnd inst
      subs := (st.subOpen :: st.subs).take 15
      subOpen := 0
      subStart := inst }).raise (billEvent 27 (st.tariff * 4096 + f) (min (2 ^ 32 - 1) d))

/-! ### Tariff switches and activation (R370, R371) -/

/-- The tariff of the active calendar at a local time. -/
def State.tariffOf (s : State) (local_ : Nat) : Nat := tariffAt s.get (calBase s.bill.st.bank true) local_

/-- A tariff switch to the tariff of a local time (R371); bit 3 of the flags is REPEAT. -/
def State.switchTariff (inst local_ cause flags : Nat) (s : State) : State :=
  let new_ := s.tariffOf local_
  let old := s.bill.st.tariff
  if new_ = old then s
  else (s.modBill fun st => { st with tariff := new_, lastSwitch := inst }).raise
    (billEvent 26 (cause * 4096 + flags % 16 * 256 + old * 16 + new_) inst)

/-- A calendar activation (R370). -/
def State.activateCalendar (inst flags : Nat) (s : State) : State :=
  { s with bill := { s.bill with
      activateNow := false
      activations := satInc (2 ^ 32 - 1) s.bill.activations
      st := { s.bill.st with bank := !s.bill.st.bank, activateAt := 0 } } }.raise (billEvent 29 (flags % 8) inst)

/-! ### Billing closes (R377, R378) -/

/-- A billing close: bit 3 of the flags is ACTIVATION, bit 4 COMMANDED. A scheduled close at or before the last one, or
in a repeated hour, does not execute (R383, R385); closes of one instant at one boundary make one (R377). The closed maxima
are those of the first close of a group; every close leaves the current maxima zero (R375, R378). -/
def State.billingClose (inst flags : Nat) (s : State) : State :=
  let b := s.bill
  if flags / 8 = 0 ∧ (inst ≤ b.st.lastClose ∨ inst ≤ b.closeFloor) then s
  else if b.closedHere.contains inst then
    { s with bill := { b with group := b.group.map fun g => { g with flags := g.flags ||| flags } } }
  else
    let st := { b.st with
      seqNext := (b.st.seqNext + 1) % 2 ^ 32
      lastClose := max b.st.lastClose inst
      maxCur := List.replicate 8 MaxD.zero }
    match b.group with
    | some g =>
      { s with bill := { b with
          group := some { g with count := g.count + 1, flags := g.flags ||| flags }
          groupInsts := b.groupInsts ++ [inst]
          closedHere := b.closedHere ++ [inst]
          st := st } }
    | none =>
      { s with bill := { b with
          group := some { first := inst, count := 1, flags := flags }
          groupInsts := [inst]
          groupDue := false
          closedHere := b.closedHere ++ [inst]
          st := { st with maxClosed := b.st.maxCur } } }

/-! ### Instants (R363 to R365) -/

/-- Insert into an ascending list. -/
def insertNat (x : Nat) : List Nat → List Nat
  | [] => [x]
  | y :: ys => if x ≤ y then x :: y :: ys else y :: insertNat x ys

/-- Sort a list of numbers. -/
def sortNat : List Nat → List Nat
  | [] => []
  | x :: xs => insertNat x (sortNat xs)

/-- The demand ends in (a, b]. -/
def demandEnds (sub a b : Nat) : List Nat :=
  if sub = 0 then [] else (List.range (b / sub - a / sub)).map fun k => (a / sub + 1 + k) * sub

/-- The instants in a span, each as instant × 4 + kind: 0 demand end, 2 switch point, 3 scheduled close; in the order of
R365. Local instants reach to `lb`. -/
def State.instants (a b lb : Nat) (dst : Bool) (s : State) : List Nat :=
  let off := 3600 * flag dst
  sortNat (((demandEnds (subLength (s.on_ 0x1300 1)) a b).map fun t => 4 * t) ++
    ((pointsIn s.get (calBase s.bill.st.bank true) (a + off) (lb + off)).map fun l => 4 * (l - off) + 2) ++
    ((closesIn (s.on_ 0x1301 1) (a + off) (lb + off)).map fun l => 4 * (l - off) + 3))

/-- Execute one instant. -/
def State.instant (dst : Bool) (flags x : Nat) (s : State) : State :=
  let t := x / 4
  match x % 4 with
  | 0 => s.demandEnd t flags
  | 2 => s.switchTariff t (t + 3600 * flag dst) 1 (flags % 8 + flagAt (decide (t ≤ s.bill.repeatTo)) 3)
  | _ => s.billingClose t (flags % 8)

/-- Execute instants in order. -/
def State.runInstants (dst : Bool) (flags : Nat) (xs : List Nat) (s : State) : State :=
  xs.foldl (fun acc x => acc.instant dst flags x) s

/-- The instant of an activation reached in (a, b] (R363, R370), if there is one. -/
def Billing.activation (b : Billing) (from_ to_ : Nat) : Option Nat :=
  let a := b.st.activateAt
  if a ≠ 0 ∧ from_ < a ∧ a ≤ to_ ∧ b.activateNow = false then some a else none

/-- The activation of the end of a boundary's work: one that lay at or before the current time takes the seconds counter of the
boundary as its instant (R370). -/
def Billing.activationNow (b : Billing) (from_ now : Nat) : Option Nat :=
  let a := b.st.activateAt
  if a ≠ 0 ∧ (b.activateNow = true ∨ a ≤ from_) then some now else b.activation from_ now

/-- The instants reached in (a, b] on one time scale, an activation among them. -/
def State.span (a b lb : Nat) (dst : Bool) (act : Option Nat) (flags : Nat) (s : State) : State :=
  match act with
  | none => s.runInstants dst flags (s.instants a b lb dst)
  | some t =>
    let s1 := s.runInstants dst flags ((s.instants a b lb dst).filter fun x => decide (x ≤ 4 * t))
    let s2 := (s1.activateCalendar t flags).switchTariff t (t + 3600 * flag dst) 2 (flags % 8)
    let s3 := if bitAt (s.on_ 0x1301 1) 0 then s2.billingClose t (flags % 8 + 8) else s2
    s3.runInstants dst flags ((s3.instants a b lb dst).filter fun x => decide (4 * t < x))

/-! ### Settings and DST changes (R382 to R386) -/

/-- A setting is an adjustment (R382). -/
def State.isAdjustment (old new_ : Nat) (dst : Bool) (s : State) : Bool :=
  let lo := min old new_
  let hi := max old new_
  let off := 3600 * flag dst
  let a := s.bill.st.activateAt
  decide (hi - lo ≤ s.on_ 0x1200 5) && (demandEnds (subLength (s.on_ 0x1300 1)) lo hi).isEmpty &&
    (closesIn (s.on_ 0x1301 1) (lo + off) (hi + off)).isEmpty && !(a != 0 && decide (lo < a) && decide (a ≤ hi))

/-- Scheduled closes after one standard time and at or before another, by the rules of DST in force. -/
def State.closesOver (a b : Nat) (s : State) : List Nat :=
  ((closesIn (s.on_ 0x1301 1) (s.localOf a - 3600) (s.localOf b + 3600)).map s.standardOfLocal).filter fun t =>
    decide (a < t) && decide (t ≤ b)

/-- One instant of a span that the clock passes at once: 0 the open demand end, SHORT; 1 an activation; 2 its close; 3 a
scheduled close. At a setting forward, which is FORCED, the switch of the activation executes with it (R371); at a start the
tariff is set once, at the end (R381). -/
def State.passInstant (flags x : Nat) (s : State) : State :=
  match x % 4 with
  | 0 => s.demandEnd (x / 4) (flags % 8 + 16)
  | 1 =>
    let s1 := s.activateCalendar (x / 4) flags
    if bitAt flags 2 then s1.switchTariff (x / 4) (s1.localOf (x / 4)) 2 (flags % 8) else s1
  | 2 => s.billingClose (x / 4) (flags % 8 + 8)
  | _ => s.billingClose (x / 4) (flags % 8)

/-- A span that the clock passes at once, at a start or at a setting forward (R365, R381, R384): in ascending order the
demand interval left open closes at its nominal end, where that is reached or `always`, an activation executes, and the
closes; the intervals wholly passed are skipped, and demand restarts. -/
def State.passSpan (from_ to_ : Nat) (act : Option Nat) (always : Bool) (flags : Nat) (s : State) : State :=
  let n := subLength (s.on_ 0x1300 1)
  let e := (from_ / n + 1) * n
  let ends := if n ≠ 0 ∧ (always = true ∨ e ≤ to_) then [4 * e] else []
  let acts := match act with
    | none => []
    | some a => [4 * a + 1] ++ (if bitAt (s.on_ 0x1301 1) 0 then [4 * a + 2] else [])
  let s1 := (sortNat (ends ++ acts ++ (s.closesOver from_ to_).map fun t => 4 * t + 3)).foldl
    (fun acc x => acc.passInstant flags x) s
  if n = 0 then s1
  else (s1.modBill fun st => { st with skipped := min (2 ^ 32 - 1) (st.skipped + (to_ / n - e / n)) }).restartDemand to_

/-- A setting forward that is no adjustment (R384). -/
def State.setForward (old new_ flags : Nat) (s : State) : State :=
  let a := s.bill.st.activateAt
  s.passSpan old new_ (if a ≠ 0 ∧ old < a ∧ a ≤ new_ then some a else none) true (flags ||| 4)

/-- A setting back that is no adjustment (R383). -/
def State.setBack (old new_ flags : Nat) (s : State) : State :=
  if subLength (s.on_ 0x1300 1) = 0 then s
  else (s.demandEnd old (flags % 8 + 16)).restartDemand new_

/-- A setting in its place (R382 to R384, R386). -/
def State.billSetting (old new_ : Nat) (stopped dstOld dstNew : Bool) (flags : Nat) (s : State) : State :=
  let adj := !stopped && s.isAdjustment old new_ dstOld
  let s1 := if new_ < old then { s with bill := { s.bill with repeatTo := max s.bill.repeatTo old } } else s
  let s2 := if adj then s1 else if new_ < old then s1.setBack old new_ flags else s1.setForward old new_ flags
  s2.switchTariff new_ (new_ + 3600 * flag dstNew) 3 (flags % 8 + flagAt (decide (old < new_)) 2)

/-- A DST change in its place (R385). -/
def State.billDst (at_ : Nat) (auto forward : Bool) (flags : Nat) (s : State) : State :=
  let s1 :=
    if forward then
      let pts := pointsIn s.get (calBase s.bill.st.bank true) at_ (at_ + 3600)
      let cls := closesIn (s.on_ 0x1301 1) at_ (at_ + 3600)
      cls.foldl (fun acc _ => acc.billingClose at_ (flags % 8))
        (pts.foldl (fun acc l => acc.switchTariff at_ l 1 (flags % 8)) s)
    else
      let t := at_ + 3600 - flag auto
      { s with bill := { s.bill with repeatTo := max s.bill.repeatTo t, closeFloor := max s.bill.closeFloor t } }
  s1.switchTariff at_ (at_ + 3600 * flag forward) 4 (flags % 8)

/-- The billing engine has come to a time. -/
def State.reached (t : Nat) (s : State) : State := { s with bill := { s.bill with upTo := some t, frozen := false } }

/-- A setting or DST change made during the frame (R364): the instants before it, then the change. -/
def State.billChange (flags : Nat) (s : State) (c : TimeChange) : State :=
  let p := s.bill.upTo.getD c.old
  if s.bill.frozen || decide (calLast < c.old) then
    if c.set then (s.billSetting p c.new true c.dstOld c.dstNew flags).reached c.new else s
  else
    let unseen := !c.set && c.auto && c.dstOld
    let s1 := s.span p c.old (c.old - flag unseen) c.dstOld (s.bill.activation p c.old) flags
    let s2 := if c.set then s1.billSetting c.old c.new false c.dstOld c.dstNew flags
      else s1.billDst c.old c.auto c.dstNew flags
    s2.reached c.new

/-- Step 2 of R364: every instant reached since the last boundary. -/
def State.billInstants (s : State) : State :=
  let flags := flag s.cal.uncertain
  let s1 := s.cal.changes.foldl (State.billChange flags) s
  let s2 := { s1 with cal := { s1.cal with changes := [] } }
  let now := s2.cal.seconds
  if s2.cal.invalid || s2.cal.calend then
    { s2 with bill := { s2.bill with frozen := true, upTo := some (s2.bill.upTo.getD now) } }
  else
    let from_ := s2.bill.upTo.getD now
    let s3 := (s2.span from_ now now s2.cal.dst (s2.bill.activationNow from_ now) flags).reached now
    if s3.bill.closeNow then
      { s3 with bill := { s3.bill with closeNow := false } }.billingClose now (flags + 16)
    else s3

/-! ### Snapshots (R378 to R380) -/

/-- The payload of a snapshot (Table 11.11). -/
def snapshotWords (c : Commit) (seq inst exec flags : Nat) (first : Bool) : List Nat :=
  let r := fun (i : Nat) =>
    let x := (c.regs.getD i Reg.zero).value
    [x % 2 ^ 32, x / 2 ^ 32 % 2 ^ 32, x / 2 ^ 64 % 2 ^ 32]
  let b := unsigned 64 c.bill.balance
  [seq % 2 ^ 32, inst / 2 ^ 32 % 65536 * 65536 + exec / 2 ^ 32 % 65536, inst % 2 ^ 32, exec % 2 ^ 32,
    flags % 32 * 2 ^ 24, b % 2 ^ 32, b / 2 ^ 32] ++
  (List.range 64).flatMap r ++
  (List.range 8).flatMap fun t =>
    let m := if first then c.bill.maxClosed.getD t MaxD.zero else MaxD.zero
    [m.value % 2 ^ 32, m.value / 2 ^ 32 % 2 ^ 32, m.ends % 2 ^ 32, m.flags % 64 * 65536 + m.ends / 2 ^ 32 % 65536]

/-- The nominal instants of a group that a start completes: after the first they follow the schedule (R378). -/
def State.groupInstants (s : State) : Nat → Nat → List Nat
  | 0, _ => []
  | n + 1, t => t :: s.groupInstants n (s.standardOfLocal (nextClose (s.on_ 0x1301 1) (s.localOf t)))

/-- QUAL of a BILLING_SNAPSHOT (R378). -/
def snapshotQual (b : BillState) : Nat := flag (!b.uncertain) + flagAt b.subst 1 + flagAt b.provref 7

/-- The bytes of a snapshot, which its CRC-32 covers (R311, R378). -/
def snapshotBytes (words : List Nat) : List Nat := words.flatMap (leBytes 4)

/-- A slot as it is written. -/
def Slot.holding (seq : Nat) (words : List Nat) : Slot :=
  { ok := true, seq := seq, words := words, crc := crc32 (snapshotBytes words) }

/-- The slot has a correct CRC and holds a SNAP_SEQ (R380). -/
def Slot.holds (seq : Nat) (x : Slot) : Bool :=
  x.ok && x.seq == seq && crc32 (snapshotBytes x.words) == x.crc

/-- Write the last 24 snapshots of a group from a record (R379, R380): the slots, the event and the records. `insts` are the
nominal instants, `next` is the SNAP_SEQ_NEXT that belongs to the group. -/
def State.writeGroup (c : Commit) (g : Group) (insts : List Nat) (next exec : Nat) (s : State) : State :=
  let n := min 24 g.count
  let parts := (List.range n).map fun k =>
    let i := g.count - n + k
    let seq := (next + 2 ^ 32 - (g.count - i)) % 2 ^ 32
    (seq, snapshotWords c seq (insts.getD i g.first) exec g.flags (i == 0))
  let slots := parts.foldl (fun l p => setAt l (p.1 % 24) (Slot.holding p.1 p.2)) s.bill.slots
  let s1 := { s with bill := { s.bill with slots := slots } }.raise
    (billEvent 28 (min 255 g.count * 256 + g.flags % 32) ((next + 2 ^ 32 - 1) % 2 ^ 32))
  s1.emitAll (parts.map fun p =>
    { type := 0x0B, gen := 0, cls := 0, src := 0x4A, qual := snapshotQual c.bill, frame := c.frame % 65536, payload := p.2 })

/-- A boundary forms its commit record: it is the record of the closes executed there, whose writing waits for it to be
complete (R378, R379). -/
def Billing.noteRecord (c : Commit) (b : Billing) : Billing :=
  { b with groupDue := false, groupRec := if b.closedHere.isEmpty then b.groupRec else some c }

/-- The record of the boundary that executed the closes, where one was formed there (R378). -/
def Billing.executed (b : Billing) (c : Commit) : Commit := b.groupRec.getD c

/-- BILLING_SNAPSHOT_WRITE (R379). -/
def billingSnapshotWrite (s : State) : State :=
  match s.bill.group, s.qty.latest with
  | some g, some p =>
    if s.bill.groupDue then
      let c := s.bill.executed p.2
      let s1 := s.writeGroup c g s.bill.groupInsts c.bill.seqNext c.seconds
      { s1 with bill := { s1.bill with group := none, groupInsts := [], groupRec := none, groupDue := false } }
    else s
  | _, _ => s

/-- A group whose writing a loss of power cuts leaves its next slot with a bad CRC (R380). -/
def Billing.torn (b : Billing) : Billing :=
  match b.group with
  | none => b
  | some g =>
    if b.groupDue then
      let seq := (b.st.seqNext + 2 ^ 32 - min 24 g.count) % 2 ^ 32
      { b with slots := modAt b.slots (seq % 24) fun x => { x with ok := false } }
    else b

/-- The stored snapshots, the most recent first (SNAPSHOT_STORE). -/
def Billing.stored (b : Billing) : List (List Nat) :=
  let seqs := (List.range 24).map fun i => (b.st.seqNext + 2 ^ 32 - 1 - i) % 2 ^ 32
  (seqs.filterMap fun q => b.slots.find? (Slot.holds q)).map Slot.words

/-- Completion of an incomplete group at a start (R380): the banks in ascending SEQ. -/
def State.completeGroups (s : State) : State :=
  let a := s.qty.banks.getD 0 none
  let b := s.qty.banks.getD 1 none
  let recs := match a, b with
    | some x, some y => if x.seq < y.seq then [x, y] else [y, x]
    | some x, none => [x]
    | none, some y => [y]
    | none, none => []
  recs.foldl (fun acc c =>
    match c.group with
    | none => acc
    | some g =>
      let last := (c.bill.seqNext + 2 ^ 32 - 1) % 2 ^ 32
      let slot := acc.bill.slots.getD (last % 24) { ok := false, seq := 0, words := [], crc := 0 }
      if slot.holds last then acc
      else
        let from_ := ((recs.find? fun r => !r.partial_ && r.group == some g && r.bill.seqNext == c.bill.seqNext).getD
          (recs.getLast?.getD c))
        acc.writeGroup from_ { g with flags := g.flags ||| 2 } (acc.groupInstants g.count g.first) c.bill.seqNext acc.cal.seconds) s

/-- Catch-up at a start (R381) from the restored TIME: it runs before EV0 of the first frame. -/
def State.catchUp (from_ : Option Nat) (s : State) : State :=
  let now := s.cal.seconds
  let s0 := { s with cal := { s.cal with changes := [] }
                     bill := { s.bill with closedHere := [], group := none, groupInsts := [], groupDue := false } }
  if s.cal.invalid || s.cal.calend then
    { s0 with bill := { s0.bill with frozen := true, short := true, upTo := some (from_.getD now) } }
  else
    let flags := flag s.cal.uncertain + 2
    let t := from_.getD now
    let s3 := s0.passSpan t now (s0.bill.activation t now) false flags
    let l := s3.localOf now
    let p := lastPoint s3.get (calBase s3.bill.st.bank true) l
    (s3.switchTariff (s3.standardOfLocal p) l 5 flags).reached now

/-! ### Prepayment (R387 to R390) -/

/-- The frame's cost goes to CREDIT_SPENT and the balance falls (R387); the change of CREDIT_SPENT joins the gain. -/
def State.charge (g : Gain) (s : State) : State × Gain :=
  if bitAt (s.on_ 0x1400 1) 0 then
    let inc := incOf g.incs (s.on_ 0x1400 2)
    let price := s.on_ 0x1401 (s.bill.st.tariff + 1)
    let cost := (roundAway (quo ((inc * price : Nat) : Rat) (s.on_ 0x1400 3 : Rat))).toNat
    let r := (s.qty.reg 11).add cost
    let rise := r.value - (s.qty.reg 11).value
    ({ s with qty := { s.qty with regs := setAt s.qty.regs 11 r } }.modBill fun st =>
        { st with balance := fitS 64 (st.balance - (rise : Int)) },
     { g with ints := setAt g.ints 11 rise })
  else (s, g)

/-- Accepted top-ups are added (R388). -/
def State.addTopups (s : State) : State :=
  let st := s.bill.topups.foldl (fun (st : BillState) p =>
    { st with balance := st.balance + p.2, topupId := p.1, topupCount := satInc (2 ^ 32 - 1) st.topupCount }) s.bill.st
  { s with bill := { s.bill with st := st, topups := [] } }

/-- A top-up is refused (R388): the ID is not new, the amount is zero, or the balance would leave the I64 range. -/
def State.topupOk (id : Nat) (amount : Int) (s : State) : Bool :=
  let last := s.bill.topups.foldl (fun m p => max m p.1) s.bill.st.topupId
  let total := s.bill.topups.foldl (fun m p => m + p.2) s.bill.st.balance + amount
  decide (last < id) && decide (amount ≠ 0) && decide (-(2 ^ 63) ≤ total) && decide (total < 2 ^ 63)

/-- The credit state of a balance (Table 11.15). -/
def creditState (enable : Bool) (low_ emergency balance : Int) : Nat :=
  if !enable then 0 else if low_ < balance then 1 else if 0 < balance then 2 else if -emergency < balance then 3 else 4

/-- Step 3 of R364 (R389). -/
def State.judgeCredit (s : State) : State :=
  let st := s.bill.st
  let new_ := creditState (bitAt (s.on_ 0x1400 1) 0) (signed 64 (s.on_ 0x1400 4)) (signed 64 (s.on_ 0x1400 5)) st.balance
  let arg := unsigned 32 (clampSigned 32 st.balance)
  let e := if st.credit < new_ then
      (match new_ with
       | 2 => [billEvent 30 1 arg]
       | 3 => [billEvent 31 1 arg]
       | 4 => [billEvent 31 2 arg]
       | _ => [])
    else []
  (s.modBill fun st => { st with credit := new_ }).raiseAll e

/-! ### The supply actuator (R391 to R394) -/

/-- An actuator event (R393: CLASS 2). -/
def actEvent (ev code arg : Nat) : Raised := { ev := ev, code := code, arg := arg % 2 ^ 32, src := 0x4A, cls := 2 }

/-- A movement starts (R391): target 1 connected or 3 disconnected. -/
def State.startMove (target cause : Nat) (s : State) : State :=
  { s with bill := { s.bill with
      move := some { target := target, cause := cause, start := s.frame.now, travel := 0, used := 0, phase := 0, since := s.frame.now }
      st := { s.bill.st with
        act := if target = 3 then 2 else 5
        creditDisc := if target = 3 ∧ cause ≠ 4 then cause == 2 else s.bill.st.creditDisc } } }

/-- The state that the feedback shows; none where it shows no one end. -/
def feedbackState (config : Nat) (acf0 acf1 : Bool) : Option Nat :=
  let pol := bitAt config 30
  let c := acf0 == pol
  let d := acf1 == pol
  if c && !d then some 1 else if d && !c then some 3 else none

/-- An accepted ACT_COMMAND takes effect (R393). -/
def State.actCommand (acf0 acf1 : Bool) (s : State) : State :=
  let a := s.bill.st.act
  let s1 := { s with bill := { s.bill with command := 0 } }
  match s.bill.command with
  | 1 => if [1, 4, 5, 6].contains a then s1.startMove 3 1 else s1
  | 2 => if a = 3 then s1.modBill fun st => { st with act := 4 } else s1
  | 3 => if [3, 4, 6].contains a then s1.startMove 1 1 else s1
  | 4 => if a = 6 then s1.modBill fun st => { st with act := (feedbackState (s.on_ 0x1410 1) acf0 acf1).getD 6 } else s1
  | _ => s1

/-- Prepayment stands exhausted with the disconnect enabled (R390). -/
def State.creditCut (s : State) : Bool := s.bill.st.credit == 4 && bitAt (s.on_ 0x1400 1) 1

/-- Step 4 of R364 (R390, R393): the levels of ACF0 and ACF1 at the boundary. -/
def State.decideActuator (acf0 acf1 : Bool) (s : State) : State :=
  let cfg := s.on_ 0x1410 1
  let cut := s.creditCut
  let due := cut && !bitAt (s.on_ 0x1400 6) s.bill.st.tariff && !s.bill.asked
  if !bitAt cfg 31 then { s with bill := { s.bill with move := none, command := 0, keyConnect := false } }.modBill
      fun st => { st with act := 0 }
  else if s.bill.st.act = 0 then s.modBill fun st => { st with act := (feedbackState cfg acf0 acf1).getD 6 }
  else if s.mode = .taper then { s with bill := { s.bill with command := 0, keyConnect := false } }
  else
    let s1 := { s with bill := { s.bill with asked := (s.bill.asked && cut) || due } }
    let s2 := if due && [1, 4, 5, 6].contains s.bill.st.act then
        { s1 with bill := { s1.bill with command := 0 } }.startMove 3 2
      else s1.actCommand acf0 acf1
    let s3 := if s2.bill.keyConnect && s2.bill.st.act == 4 then s2.startMove 1 3 else s2
    let s4 := { s3 with bill := { s3.bill with keyConnect := false } }
    if s4.bill.st.creditDisc && s4.bill.st.act == 3 && decide (0 < s4.bill.st.balance) then
      s4.modBill fun st => { st with act := 4 }
    else s4

/-- Whether an ACT_COMMAND is refused with STATE (R393, R394). -/
def State.actRefused (c : Nat) (s : State) : Bool :=
  let a := s.bill.st.act
  let cut := s.creditCut
  decide (s.mode = .taper) || !(match c with
    | 1 => [1, 3, 4, 5, 6].contains a
    | 2 => a == 3 && !cut
    | 3 => [3, 4, 6].contains a && !cut && !s.bill.st.creditDisc && !bitAt (s.on_ 0x1410 1) 29
    | 4 => a == 6
    | _ => false)

/-- Eighths of a ledger cycle in a number of milliseconds. -/
def msUnits (ms : Nat) : Nat := ms * 512000

/-- Milliseconds of a movement up to now. -/
def State.travelMs (m : Movement) (s : State) : Nat := (s.frame.now - m.start) / msUnits 1

/-- A number of milliseconds has passed in the present phase of a movement. -/
def State.phaseRan (m : Movement) (ms : Nat) (s : State) : Bool := decide (m.since + msUnits ms ≤ s.frame.now)

/-- The end is still looked for: TRAVEL_MAX has not passed (Table 11.19). -/
def State.inTravel (m : Movement) (s : State) : Bool :=
  decide (s.frame.now ≤ m.start + msUnits (100 * field (s.on_ 0x1410 1) 23 16))

/-- ACTUATOR_END_REACHED (R391). -/
def actuatorEndReached (cyc : Nat) (s0 : State) : State :=
  let s := { s0 with frame := s0.frame.at_ cyc }
  match s.bill.move with
  | none => s
  | some m =>
    if m.phase = 0 ∧ s.inTravel m = true then
      { s with bill := { s.bill with move := some { m with phase := 1, since := s.frame.now, travel := s.travelMs m } } }
    else s

/-- ACTUATOR_DONE (R391, R393): OVERDRIVE has passed since the end was reached. -/
def actuatorDone (cyc : Nat) (s0 : State) : State :=
  let s := { s0 with frame := s0.frame.at_ cyc }
  match s.bill.move with
  | none => s
  | some m =>
    if m.phase = 1 ∧ s.phaseRan m (10 * field (s.on_ 0x1410 1) 15 8) = true then
      ({ s with bill := { s.bill with move := none, lastTravel := min 65535 m.travel } }.modBill fun st =>
        { st with act := m.target }).raise (actEvent 51 (m.cause * 4096 + m.target) m.travel)
    else s

/-- Twenty samples of ACI, the first 50 ms after the drive started and one each 1 ms, can have been taken (R391). -/
def State.aciSampled (m : Movement) (s : State) : Bool := decide (m.start + msUnits 69 ≤ s.frame.now)

/-- The condition of a fault of Table 11.19, with ACI in mV, as far as the state shows it. -/
def State.faultStands (kind aci : Nat) (s : State) : Bool :=
  match s.bill.move with
  | some m =>
    (kind == 1 && m.phase == 0 && !s.inTravel m) ||
      (kind == 2 && m.phase == 0 && s.aciSampled m && decide (s.on_ 0x1410 2 < aci)) ||
      (kind == 3 && decide (m.phase ≤ 1) && s.aciSampled m && decide (aci < s.on_ 0x1410 3)) || kind == 4
  | none => (kind == 4 || kind == 5) && [1, 3, 4].contains s.bill.st.act

/-- ACTUATOR_FAULT (R392): a fault of Table 11.19 with ACI in mV. A STALL or TIMEOUT with retries left reverses the drive; any
other stops it and sets FAULT. -/
def actuatorFault (kind aci cyc : Nat) (s0 : State) : State :=
  let s := { s0 with frame := s0.frame.at_ cyc }
  if s.faultStands kind aci then
    let m := s.bill.move
    let used := (m.map Movement.used).getD 0
    let again := decide (kind ≤ 2) && decide (used < field (s.on_ 0x1410 1) 7 4)
    let s1 := if again then
        { s with bill := { s.bill with move := m.map fun y => { y with phase := 2, since := s.frame.now, used := y.used + 1 } } }
      else { s with bill := { s.bill with move := none } }.modBill fun st => { st with act := 6 }
    { s1 with bill := { s1.bill with faults := satInc (2 ^ 32 - 1) s1.bill.faults } }.raise
      (actEvent 52 (kind % 16 * 4096 + used * 256 + (m.map Movement.target).getD 0)
        (if kind = 1 then (m.map fun y => s.travelMs y).getD 0 else aci))
  else s

/-- ACTUATOR_REVERSE_END (R392): the drive has run in reverse for 200 ms. -/
def actuatorReverseEnd (cyc : Nat) (s0 : State) : State :=
  let s := { s0 with frame := s0.frame.at_ cyc }
  match s.bill.move with
  | none => s
  | some m =>
    if m.phase = 2 ∧ s.phaseRan m 200 = true then
      { s with bill := { s.bill with move := some { m with phase := 3, since := s.frame.now } } }
    else s

/-- ACTUATOR_PAUSE_END (R392): after a pause of 500 ms the movement restarts. -/
def actuatorPauseEnd (cyc : Nat) (s0 : State) : State :=
  let s := { s0 with frame := s0.frame.at_ cyc }
  match s.bill.move with
  | none => s
  | some m =>
    if m.phase = 3 ∧ s.phaseRan m 500 = true then
      { s with bill := { s.bill with move := some { m with phase := 0, start := s.frame.now, since := s.frame.now } } }
    else s

/-- ACA and ACB (R391, R392): ACA high drives toward disconnected, ACB high toward connected. -/
def Billing.drive (b : Billing) : Bool × Bool :=
  match b.move with
  | none => (false, false)
  | some m =>
    let dis := m.target == 3
    match m.phase with
    | 0 => (dis, !dis)
    | 1 => (dis, !dis)
    | 2 => (!dis, dis)
    | _ => (false, false)

/-- KEY has been held active for ACT_KEY_HOLD: a qualified press was active for 20 ms when it qualified (R410). DEDUCED (log
53): the hold counts from the first active sample. -/
def State.keyHeld (s : State) : Bool :=
  s.pwr.keyDown && decide ((s.on_ 0x1410 4 - 20) * 32768 ≤ (s.pwr.mtime + 1 - s.pwr.keySince) * 1000)

/-- ACT_KEY_HOLD_EXPIRY (R393). -/
def actKeyHoldExpiry (s : State) : State :=
  if s.bill.st.act = 4 ∧ s.keyHeld = true ∧ s.mode ≠ .taper then
    { s with bill := { s.bill with keyConnect := true } }
  else s

/-! ### Work at the boundary (R362, R364) -/

/-- The flags of the period take those of the frame (R378). -/
def State.notePeriod (flowQ : Nat) (s : State) : State :=
  let b := s.bill.st
  let old := fun (x : Bool) => x && s.bill.closedHere.isEmpty
  { s with bill := { s.bill with
      closedHere := []
      st := { b with uncertain := old b.uncertain || s.cal.uncertain, subst := old b.subst || bitAt flowQ 1,
                     provref := old b.provref || bitAt flowQ 7 } } }

/-- What the billing engine takes from the increments of a frame (R309, R364 step 1): tariff registers, cost and the open
subinterval. -/
def State.billGain (g : Gain) (s : State) : State × Gain :=
  let s1 := { s with qty := { s.qty with regs := addTariff s.bill.st.tariff g.incs s.qty.regs } }
  let r := s1.charge g
  let w := s.on_ 0x1300 1
  let add := if bitAt w 15 then natAt g.ints (field w 4 0) else 0
  (r.1.modBill fun st => { st with subOpen := (st.subOpen + add) % 2 ^ 64 }, r.2)

/-- Step 1 of R364, with the top-ups. -/
def State.billStep1 (g : Gain) (s : State) : State × Gain := ((s.billGain g).1.addTopups, (s.billGain g).2)

/-- The billing engine's work at a boundary: the state after it and the gain with CREDIT_SPENT. -/
def State.billBoundary (g : Gain) (flowQ : Nat) (acf0 acf1 : Bool) (s : State) : State × Gain :=
  let r := (s.notePeriod flowQ).billStep1 g
  ((r.1.billInstants.judgeCredit).decideActuator acf0 acf1, r.2)

/-- The movement that an AO reset interrupts restarts at the opening boundary (R394). -/
def State.restartMove (s : State) : State :=
  if s.mode = .taper || !bitAt (s.on_ 0x1410 1) 31 then s
  else if s.bill.st.act = 2 then s.startMove 3 4
  else if s.bill.st.act = 5 then s.startMove 1 4
  else s

end Sys2Proof.Machine
end

