-- ==== Sys2Proof/Machine/Display.lean ====
section
/-! DEFINITION. Display Engine (Chapter 16): regions and overlapping updates, admission of the pump bursts, waveforms and
the phase clock, the DC ledger, the display state area, the LCD and the fault pattern of TAPER. -/

namespace Sys2Proof.Machine

open Sys2Proof

/-! ### The panel -/

/-- MODE of DISP_CONFIG in force (Table 16.1). -/
def State.dispMode (s : State) : Nat := field (s.on_ 0x1A00 1) 1 0

/-- An event of the display engine (R553). -/
def dispEvent (ev code arg cls : Nat) : Raised := { ev := ev, code := code, arg := arg, src := 0x50, cls := cls }

/-- The levels a packed value holds: two bits per segment. -/
def levelsOf (n : Nat) : List Nat := (List.range 96).map fun i => field n (2 * i + 1) (2 * i)

/-- Levels packed two bits per segment. -/
def packLevels : List Nat → Nat
  | [] => 0
  | l :: ls => l % 4 + 4 * packLevels ls

/-- The segments of a region (R529). -/
def State.regionSegs (s : State) (r : Nat) : List Nat := (List.range 96).filter fun i => bitAt (s.on_ 0x1A01 (r + 1)) i

/-- A region of the state. -/
def Display.region (d : Display) (r : Nat) : Region := d.regions.getD r Region.reset

/-- Change a region. -/
def Display.modRegion (d : Display) (r : Nat) (f : Region → Region) : Display := { d with regions := modAt d.regions r f }

/-- Change the display engine. -/
def State.modDisp (f : Display → Display) (s : State) : State := { s with disp := f s.disp }

/-! ### Requests (R530, R531) -/

/-- An update that begins to wait for admission, with the credit of that moment (R539). -/
def DispRun.wait (target : List Nat) (credit : Nat) : DispRun :=
  { target := target, credit0 := credit, bursts := 0, at_ := [], done := 0, started := false, waving := false, band := 0, first := 0,
    nbal := 0, length := 0, plan := [], low := false }

/-- A region's update begins to wait, and DP is on while one does (R400). -/
def State.awaitUpdate (r : Nat) (target : List Nat) (s : State) : State :=
  { s with
    disp := s.disp.modRegion r fun g => { g with run := some (DispRun.wait target s.disp.credit) }
    frame := (s.frame.finish (dispJob r)).request (dispJob r)
    pwr := s.pwr.switchOn s.frame.now 5 }

/-- A request for a region (R531). -/
def State.requestUpdate (target : List Nat) (s : State) (r : Nat) : State :=
  let g := s.disp.region r
  match g.run with
  | none => s.awaitUpdate r target
  | some u =>
    if !u.started then
      ((s.awaitUpdate r target).modDisp fun d => { d with superseded := satInc (2 ^ 32 - 1) d.superseded }).raise
        (dispEvent 49 (256 + r) 0 2)
    else
      let again := g.queued.isSome
      (s.modDisp fun d =>
        { (d.modRegion r fun g => { g with queued := some target }) with
          superseded := if again then satInc (2 ^ 32 - 1) d.superseded else d.superseded }).raise
        (dispEvent 49 (512 + flagAt again 8 + r) 0 2)

/-- DISP_UPDATE names a region with an empty mask (R530). -/
def State.updateEmpty (s : State) (w : Nat) : Bool := (List.range 16).any fun r => bitAt w r && s.on_ 0x1A01 (r + 1) == 0

/-- DISP_UPDATE (R530): a request for each region named, on an e-paper panel. -/
def State.dispUpdate (w : Nat) (s : State) : State :=
  if s.dispMode = 1 then
    ((List.range 16).filter fun r => bitAt w r).foldl (State.requestUpdate (levelsOf (s.at_ 0x1A02 1))) s
  else s

/-! ### Waveforms and the plan of a run (R533 to R535, R544) -/

/-- The phase codes of waveform (band, previous, next). -/
def State.waveform (s : State) (band p n : Nat) : List Nat :=
  let w := s.on_ (0x1A10 + band) (4 * p + n + 1)
  (List.range (min 32 (field w 7 0))).map fun j => field w (9 + 2 * j) (8 + 2 * j)

/-- n_bal of a segment (R544). -/
def balPhases (l : Int) (due : Bool) : Nat := if due then min 32 ((l.natAbs - 1000 + 74) / 75) else 0

/-- The plan of a run in a band: n_bal, the number of phases, and the phase codes of each segment. -/
def State.planRun (s : State) (r : Nat) (target : List Nat) (band : Nat) : Nat × Nat × List (Nat × List Nat) :=
  let segs := s.regionSegs r
  let bal := fun (i : Nat) => balPhases (s.disp.dc.getD i 0) (s.disp.balDue.getD i false)
  let nbal := segs.foldl (fun m i => max m (bal i)) 0
  let wave := fun (i : Nat) => s.waveform band (natAt s.disp.levels i) (natAt target i)
  let len := segs.foldl (fun m i => max m (wave i).length) 0
  (nbal, nbal + len, segs.map fun i =>
    (i, List.replicate (bal i) (if 0 < s.disp.dc.getD i 0 then 2 else 1) ++ List.replicate (nbal - bal i) 0 ++ wave i))

/-- The code a segment's plan drives in a phase of the run: 0 once its codes have ended. -/
def codeAt (codes : List Nat) (j : Nat) : Nat := natAt codes j

/-- A phase of the run drives a segment. -/
def DispRun.drives (u : DispRun) (j : Nat) : Bool := decide (j < u.length) && u.plan.any fun p => codeAt p.2 j != 0

/-- The contribution of a phase code to the DC integral, V·ms (R533). -/
def codeDc (c : Nat) : Int := if c = 1 then 75 else if c = 2 then -75 else 0

/-- The driven phases of a run before a phase of it. -/
def DispRun.drivenBefore (u : DispRun) (j : Nat) : Nat := ((List.range (min j u.length)).filter u.drives).length

/-- The bursts of the pre-charge (R539). -/
def DispRun.pre (u : DispRun) : Nat := 8 - u.credit0

/-- The tick at which phase j of a phase clock starts (R534). -/
def phaseTick (clock j : Nat) : Nat := clock + (roundAway (quo ((16384 * j : Nat) : Rat) 100)).toNat

/-- The first phase of the clock that starts at or after a tick. -/
def phaseFrom (clock t : Nat) : Nat :=
  let g := (t - clock) * 100 / 16384
  if t ≤ phaseTick clock g then g else if t ≤ phaseTick clock (g + 1) then g + 1 else g + 2

/-- A run still has phases to come: the phase clock runs (R534). -/
def Display.clockRuns (d : Display) : Bool :=
  d.regions.any fun g => (g.run.map fun u => u.waving && decide (d.phase < u.first + u.length)).getD false

/-- Other updates whose phases the ledger plans with these: those that run their waveform or are admitted. -/
def Display.othersDrive (d : Display) (r phase : Nat) : Bool :=
  (List.range 16).any fun q => q != r &&
    (((d.region q).run.map fun u => decide (u.first ≤ phase) && (u.waving || u.bursts != 0) && u.drives (phase - u.first)).getD false)

/-! ### Admission (R539, R540) -/

/-- The shots that the frame `m` frames ahead places, as far as they are still to run. -/
def State.shotsAhead (s : State) (m : Nat) : List Planned :=
  if m = 0 then s.frame.planned
  else match s.mode with
    | .config => []
    | .taper => taperShots s.eff
    | _ => plannedShots s.eff (s.frame.number + m)

/-- The frame, counted from the present one, and the time in it, of a time counted from the present frame's boundary. -/
def State.frameAt (s : State) (cyc : Nat) : Nat × Nat :=
  let l := s.frame.length * 15625 / 8
  let t := s.period * 15625 / 8
  if cyc < l then (0, cyc) else (1 + (cyc - l) / max 1 t, (cyc - l) % max 1 t)

/-- A pump burst in ledger cycles: 200 µs. -/
def burstCycles : Nat := 12800

/-- Where a burst that cannot be placed at a time may be tried next; none where it fits (R540): it lies outside the commit
slot, ends by E_k of its frame, and neither an admitted shot nor another burst stands in its way. -/
def State.burstBlocked (s : State) (taken : List Nat) (cyc : Nat) : Option Nat :=
  let fr := s.frameAt cyc
  let limit := if fr.1 = 0 then s.limit else closingLimit s.period s.period
  let len := if fr.1 = 0 then s.frame.length * 15625 / 8 else s.period * 15625 / 8
  if fr.2 < 3840 then some (cyc + (3840 - fr.2))
  else if limit < (fr.2 + burstCycles) * 125 + s.plSetAside then some (cyc + (len - fr.2) + 3840)
  else (((s.shotsAhead fr.1).find? fun p =>
      decide (fr.2 * 125 < p.start + p.length) && decide (p.start < (fr.2 + burstCycles) * 125)).map fun p =>
    cyc + (toCycles (p.start + p.length) - fr.2)).or
    ((taken.find? fun t => decide (cyc < t + burstCycles) && decide (t < cyc + burstCycles)).map fun t => t + burstCycles)

/-- The earliest time from `cyc` on at which a burst can be placed, over a number of trials. -/
def State.earliestBurst (s : State) (taken : List Nat) : Nat → Nat → Option Nat
  | 0, _ => none
  | n + 1, cyc =>
    match s.burstBlocked taken cyc with
    | none => some cyc
    | some t => if t ≤ cyc then none else State.earliestBurst s taken n t

/-- The trials of one burst: past every shot of some frames. -/
def burstTrials : Nat := 1024

/-- The pre-charge bursts of an update, one after another at the earliest times (R539, R540). -/
def State.placePre (s : State) (taken : List Nat) : Nat → Nat → Option (List Nat)
  | 0, _ => some []
  | n + 1, cyc =>
    match s.earliestBurst taken burstTrials cyc with
    | none => none
    | some t => (State.placePre s taken n (t + burstCycles)).map fun l => t :: l

/-- The in-run bursts, each at the earliest time in its span (R539, R540): from the start of the i-th added driven phase on,
ending before the start of the (8 + i)-th. -/
def State.placeRun (s : State) (taken : List Nat) (start : Nat → Nat) (added : List Nat) : Nat → Nat → Nat → Option (List Nat)
  | 0, _, _ => some []
  | n + 1, i, cyc =>
    match s.earliestBurst taken burstTrials (max cyc (start (natAt added i))) with
    | none => none
    | some t =>
      if t + burstCycles ≤ start (natAt added (8 + i)) then
        (State.placeRun s taken start added n (i + 1) (t + burstCycles)).map fun l => t :: l
      else none

/-- The phases of a run that add a driven phase to those planned, in order. -/
def Display.addedPhases (d : Display) (r : Nat) (u : DispRun) : List Nat :=
  (List.range u.length).filter fun j => u.drives j && !d.othersDrive r (u.first + j)

/-- The plan of a waiting update whose pre-charge bursts are placed: the run, its phase clock, and the driven phases that it
adds. -/
def State.planUpdate (s : State) (r : Nat) (u : DispRun) (pre : List Nat) : DispRun × Nat × List Nat :=
  let p := s.planRun r u.target s.disp.band
  let preEnd := match pre.getLast? with
    | some b => b + burstCycles
    | none => s.frame.cyc
  let t := s.frame.tickFrom preEnd
  let clock := if s.disp.clockRuns then s.disp.clock else t
  let first := if s.disp.clockRuns then phaseFrom clock t else 0
  let u1 := { u with band := s.disp.band, first := first, nbal := p.1, length := p.2.1, plan := p.2.2 }
  let added := s.disp.addedPhases r u1
  ({ u1 with bursts := u.pre + (added.length - 8) }, clock, added)

/-- The times of the bursts that the other admitted or running updates still have to run, in cycles of the frame. -/
def State.otherBursts (s : State) (r : Nat) : List Nat :=
  ((List.range 16).filter fun q => q != r).flatMap fun q =>
    ((s.disp.region q).run.map fun u => (u.at_.filter fun t => decide (s.frame.now ≤ t)).map fun t => (t - s.frame.base) / 8).getD []

/-- The update's plan with every burst at its place, where each can be placed (R540). -/
def State.placeUpdate (s : State) (r : Nat) (u : DispRun) : Option (DispRun × List Nat) :=
  match s.placePre (s.otherBursts r) u.pre s.frame.cyc with
  | none => none
  | some pre =>
    let q := s.planUpdate r u pre
    let start := fun (j : Nat) => s.frame.cycOfTick (phaseTick q.2.1 (q.1.first + j))
    (s.placeRun (s.otherBursts r) start q.2.2 (q.2.2.length - 8) 0 s.frame.cyc).map fun run => (q.1, pre ++ run)

/-- The bursts of all updates that fall in a frame, counted from the present one. -/
def State.burstsIn (s : State) (m : Nat) (ts : List Nat) : Nat := (ts.filter fun t => (s.frameAt t).1 == m).length

/-- The bursts that DISPLAY_RESERVE rows of the frame hold room for (R540). -/
def State.reservedBursts (s : State) : Nat :=
  if s.mode = .measure ∨ s.mode = .verify then
    ((rowsRunning s.eff 6 (framePhase s.eff s.frame.number)).map fun r => field (planRow s.eff r) 3 0).sum
  else 0

/-- The room that bursts take from the slack of the frame: those beyond its DISPLAY_RESERVE rows (R540). -/
def State.burstSlack (s : State) (ts : List Nat) : Nat := (s.burstsIn 0 ts - s.reservedBursts) * us 200

/-- No display update that was requested earlier and has not been considered in the frame waits (R68, R69). -/
def State.updateNext (s : State) (r : Nat) : Bool :=
  (s.frame.dynamic.takeWhile fun j => j != dispJob r).all fun j => j.kind != 2 || s.frame.tried.contains j

/-- DISPLAY_UPDATE_ADMITTED (R540): the update of a region that waits, next in order, is admitted whole where each of its
bursts can be placed; the command names the ledger's times, from the present boundary. One that cannot be placed waits for
the next boundary. -/
def displayUpdateAdmitted (r : Nat) (starts : List Nat) (s : State) : State :=
  match (s.disp.region r).run with
  | none => s
  | some u =>
    if u.started || !s.frame.dynamic.contains (dispJob r) || s.frame.tried.contains (dispJob r) || !s.updateNext r ||
        s.dispMode != 1 || !s.frame.running then s
    else match s.placeUpdate r u with
      | none => { s with frame := s.frame.refuse (dispJob r) }
      | some (v, ts) =>
        let extra := s.burstSlack (ts ++ s.otherBursts r) - s.burstSlack (s.otherBursts r)
        if s.limit < max s.frame.acEnd s.frame.nowQ + extra + s.plSetAside then { s with frame := s.frame.refuse (dispJob r) }
        else if starts = ts then
          { s with
            disp := s.disp.modRegion r fun g => { g with run := some { v with at_ := ts.map fun t => s.frame.base + 8 * t } }
            frame := { s.frame.accept (dispJob r) with acEnd := s.frame.acEnd + extra } }
        else s

/-! ### Bursts and phases (R538, R541, R542) -/

/-- The update of a region is admitted or has started. -/
def State.updateOn (s : State) (r : Nat) (u : DispRun) : Bool := u.started || s.frame.waiting.contains (dispJob r)

/-- A burst of the update may run now: the pre-charge before S, an in-run burst in its span (R539). -/
def Display.burstDue (d : Display) (u : DispRun) : Bool :=
  decide (u.done < u.bursts) &&
    (if u.done < u.pre then !u.waving
     else u.waving && decide (u.done - u.pre < u.drivenBefore (d.phase - u.first)) &&
      decide (u.drivenBefore (d.phase - u.first) < 9 + (u.done - u.pre)))

/-- The first burst of an update starts it: it is Indigo from then on (R532). -/
def State.startUpdate (r : Nat) (f : DispRun → DispRun) (s : State) : State :=
  { s with
    disp := s.disp.modRegion r fun g => { g with run := g.run.map fun u => { f u with started := true } }
    frame := { s.frame with waiting := s.frame.waiting.filter fun j => j != dispJob r } }

/-- The next burst of the update runs at the time at which the ledger has placed it (R540); one that a change of band since
then has added has no place (log 77). -/
def DispRun.burstTime (u : DispRun) (now : Nat) : Bool := (u.at_[u.done]?.map fun t => t == now).getD true

/-- PUMP_BURST (R538, R541): a burst of the update of a region at a time of the frame. -/
def pumpBurst (r cyc : Nat) (s : State) : State :=
  match (s.disp.region r).run with
  | none => s
  | some u =>
    if s.updateOn r u && s.disp.burstDue u && u.burstTime (s.frame.base + 8 * cyc) then
      (({ s with frame := s.frame.at_ cyc }.startUpdate r fun u => { u with done := u.done + 1 }).modDisp fun d =>
        { d with credit := min 8 (d.credit + 1), pumping := true }).count [seqAct 0 0x17 1 200]
    else s

/-! ### The display state area (R545, R546) -/

/-- The first address of the area. -/
def areaBase : Nat := 0x1005FE00

/-- What is left of a run's DC contributions to a segment from a phase on. -/
def dcLeft (codes : List Nat) (j : Nat) : Int := ((codes.drop j).map codeDc).sum

/-- The updates whose waveform runs. -/
def Display.waving (d : Display) : List (Nat × DispRun) :=
  (List.range 16).filterMap fun r => (d.region r).run.bind fun u => if u.waving then some (r, u) else none

/-- The state that the running updates will leave at their end: levels, ledger and balance-due marks. -/
def Display.outcome (d : Display) : List Nat × List Int × List Bool :=
  d.waving.foldl (fun acc ru =>
    ru.2.plan.foldl (fun a p =>
      let l := a.2.1.getD p.1 0 + dcLeft p.2 (d.phase - ru.2.first)
      (setAt a.1 p.1 (natAt ru.2.target p.1), setAt a.2.1 p.1 l, setAt a.2.2 p.1 (decide (2000 < l.natAbs)))) acc)
    (d.levels, d.dc, d.balDue)

/-- The number whose bits are the given marks, bit 0 first. -/
def maskOf : List Bool → Nat
  | [] => 0
  | b :: bs => flag b + 2 * maskOf bs

/-- A DC integral as an I16; its value where it does not fit is open (log 5). -/
def dcWord (l : Int) : Nat := if -32768 ≤ l ∧ l ≤ 32767 then unsigned 16 l else Config.unfit 16 l % 65536

/-- The bytes of the area (Table 16.3). -/
def Display.area (d : Display) : List Nat :=
  let o := d.outcome
  let body := leBytes 24 (packLevels o.1) ++ o.2.1.flatMap (fun l => leBytes 2 (dcWord l)) ++ leBytes 12 (maskOf o.2.2) ++
    leBytes 2 (d.waving.foldl (fun m ru => m + 2 ^ ru.1) 0) ++ [1] ++ List.replicate 277 0
  body ++ leBytes 4 (crc32 body)

/-- The engine writes the area. -/
def State.saveDisplay (s : State) : State := { s with mem := s.mem.writeBytes areaBase s.disp.area }

/-- The first tick at or after the end of an update's pre-charge (R534): 200 µs after the start of its last burst; with no
burst to run before S, the first tick from the command's time on. -/
def State.preTick (s : State) (u : DispRun) (cyc : Nat) : Nat :=
  if u.pre = 0 then s.frame.tickFrom cyc
  else ((u.at_[u.pre - 1]?.getD s.frame.now) + 8 * burstCycles + 15624) / 15625

/-- S of an update (R534): its phase of the clock, and its tick. -/
def State.startPhase (s : State) (u : DispRun) (cyc : Nat) : Nat × Nat :=
  let t := s.preTick u cyc
  if s.disp.clockRuns then
    let j := max s.disp.phase (phaseFrom s.disp.clock t)
    (j, phaseTick s.disp.clock j)
  else (0, t)

/-- WAVEFORM_START (R534, R535, R544, R545): S of the update of a region, with the pre-charge ended; the command's time is
within the tick that ends at S. The balancing phases of the run count at S (DESIGN CHOICE, log 77). -/
def waveformStart (r cyc : Nat) (s0 : State) : State :=
  match (s0.disp.region r).run with
  | none => s0
  | some u =>
    let start := s0.startPhase u cyc
    if s0.updateOn r u && decide (u.pre ≤ u.done) && !u.waving && s0.dispMode == 1 && s0.frame.tickFrom cyc == start.2 then
      let s := { s0 with frame := s0.frame.at_ cyc }
      let p := s.planRun r u.target s.disp.band
      let runs := s.disp.clockRuns
      let u1 := { u with waving := true, band := s.disp.band, first := start.1, nbal := p.1, length := p.2.1, plan := p.2.2 }
      let u2 := { u1 with bursts := u.pre + ((s.disp.addedPhases r u1).length - 8) }
      ((s.startUpdate r fun _ => u2).modDisp fun d =>
        { (d.modRegion r fun g => { g with latched := s.disp.band }) with
          clock := if runs then d.clock else start.2
          phase := if runs then d.phase else 0
          balPhases := min (2 ^ 32 - 1) (d.balPhases + p.1) }).saveDisplay
    else s0

/-- The segments that the phase drives, with their codes. -/
def Display.codesNow (d : Display) : List (Nat × Nat) :=
  d.waving.flatMap fun ru =>
    if d.phase < ru.2.first then [] else ru.2.plan.map fun p => (p.1, codeAt p.2 (d.phase - ru.2.first))

/-- DRIVEN_PHASE (R534, R538, R541, R542): one step of the phase clock, with |VEP| and |VEN| in mV at its start. -/
def drivenPhase (vep ven : Nat) (s : State) : State :=
  let t := phaseTick s.disp.clock s.disp.phase
  if s.disp.clockRuns && decide (t ≤ s.frame.baseTick + s.frame.length) then
    let codes : List (Nat × Nat) := s.disp.codesNow
    let driven := codes.any fun c => c.2 != 0
    let low := driven && (decide (vep < 13500) || decide (ven < 13500))
    State.modDisp (s := { s with frame := s.frame.at_ (s.frame.cycOfTick t) }) fun d =>
      { d with
        driven := codes.foldl (fun l c => setAt l c.1 c.2) d.driven
        dc := codes.foldl (fun l c => modAt l c.1 fun x => x + codeDc c.2) d.dc
        credit := if driven then d.credit - 1 else d.credit
        pumpLow := d.pumpLow || low
        phase := d.phase + 1
        regions := d.regions.map fun (g : Region) => { g with run := g.run.map fun (u : DispRun) =>
          { u with low := u.low || (low && u.waving && decide (u.first ≤ d.phase) && u.drives (d.phase - u.first)) } } }
  else s

/-! ### The end of a run (R535, R543) -/

/-- The segment with the largest |L|, the lowest of equals. -/
def worstSegment (dc : List Int) (segs : List Nat) : Nat :=
  segs.foldl (fun best i => if (dc.getD best 0).natAbs < (dc.getD i 0).natAbs then i else best) (segs.headD 0)

/-- DP is off when no update is running or waiting and the panel is no LCD; the credit is then zero (R538, R400). -/
def State.powerDisplay (s : State) : State :=
  if s.dpNeeded then (if (s.pwr.dom 5).on then s else { s with pwr := s.pwr.switchOn s.frame.now 5 })
  else { s with pwr := s.pwr.switchOff 5, disp := { s.disp with credit := 0, pumping := false, lcdAt := none } }

/-- A queued update begins to wait (R532). -/
def State.nextUpdate (r : Nat) (s : State) : State :=
  match (s.disp.region r).queued with
  | none => s
  | some t => (s.modDisp fun d => d.modRegion r fun g => { g with queued := none }).awaitUpdate r t

/-- DISPLAY_DONE (R535, R543, R545): the run of a region has reached its end. -/
def displayDone (r : Nat) (s : State) : State :=
  match (s.disp.region r).run with
  | none => s
  | some u =>
    let last := u.first + u.length
    if u.waving && decide (last ≤ s.disp.phase) &&
        decide (phaseTick s.disp.clock last ≤ s.frame.baseTick + s.frame.length) then
      let segs := u.plan.map Prod.fst
      let far := segs.filter fun i => decide (2000 < (s.disp.dc.getD i 0).natAbs)
      let worst := worstSegment s.disp.dc far
      let s1 := { s with frame := s.frame.at_ (s.frame.cycOfTick (phaseTick s.disp.clock last)) }.modDisp fun d =>
        { (d.modRegion r fun g => { g with run := none }) with
          levels := segs.foldl (fun l i => setAt l i (natAt u.target i)) d.levels
          balDue := segs.foldl (fun l i => setAt l i (far.contains i)) d.balDue
          driven := segs.foldl (fun l i => setAt l i 0) d.driven
          pumpLow := d.pumpLow && u.low
          interrupted := d.interrupted.filter fun x => x != r
          updates := satInc (2 ^ 32 - 1) d.updates }
      ((((s1.raise (dispEvent 48 (flagAt u.low 9 + flagAt (u.nbal != 0) 8 + r) (5 * u.length) 1)).raiseIf (!far.isEmpty)
        (dispEvent 50 (256 * far.length + worst) (unsigned 32 (s.disp.dc.getD worst 0)) 2)).saveDisplay).nextUpdate
          r).powerDisplay
    else s

/-! ### Temperature bands (R536, R537) -/

/-- BAND_EDGE of 1 to 7, mK. -/
def State.bandEdge (s : State) (b : Nat) : Int := signed 32 (s.on_ 0x1A03 b)

/-- The band that contains a temperature. -/
def State.bandOf (s : State) (θ : Int) : Nat :=
  ((List.range 7).filter fun b => decide (s.bandEdge (b + 1) ≤ θ)).length

/-- The band after a reading, and TEMP_BAND where it changes (R536). -/
def State.reband (θ : Int) (s : State) : State :=
  let b := s.disp.band
  let h : Int := (s.on_ 0x1A03 8 : Int)
  if (0 < b ∧ θ < s.bandEdge b - h) ∨ (b < 7 ∧ s.bandEdge (b + 1) + h ≤ θ) then
    let n := s.bandOf θ
    if n = b then s
    else { s with disp := { s.disp with band := n } }.raise
      (dispEvent 55 (flagAt s.disp.running 8 + 16 * b + n) (unsigned 32 θ) 2)
  else s

/-- INTERNAL_TEMP_CONVERSION (R241, R341, R536): the reading in mK, and whether the sensor's self-test passes. -/
def internalTemp (mk : Int) (selfTest : Bool) (s : State) : State :=
  if s.intTempDue then
    let s1 := internalTempAll mk selfTest s
    if selfTest then s1.reband (s1.sen.val 5).value else s1
  else s

/-! ### Stop and start (R546, R552) -/

/-- The pins are driven to 0 V and no update stands (R546). -/
def Display.stop (d : Display) : Display :=
  { d with regions := d.regions.map (fun g => { g with run := none, queued := none }), driven := List.replicate 96 0,
           pumping := false, credit := 0, lcdAt := none }

/-- What a start in MODE 1 takes from the area (R546). -/
def State.restoreDisplay (s : State) : State :=
  if s.dispMode = 1 then
    let a := s.mem.readBytes areaBase 512
    if ofLe (a.drop 0x1FC) = crc32 (a.take 0x1FC) then
      let running := ofLe ((a.drop 0xE4).take 2)
      s.modDisp fun d =>
        { d with
          levels := levelsOf (ofLe (a.take 24))
          dc := (List.range 96).map fun i => signed 16 (ofLe ((a.drop (0x18 + 2 * i)).take 2))
          balDue := (List.range 96).map fun i => bitAt (ofLe ((a.drop 0xD8).take 12)) i
          interrupted := (List.range 16).filter fun r => bitAt running r
          interrupts := if running = 0 then d.interrupts else satInc (2 ^ 32 - 1) d.interrupts }
    else
      (s.modDisp fun d => { d with levels := List.replicate 96 0, dc := List.replicate 96 0,
                                   balDue := List.replicate 96 false }).raise (dispEvent 50 32768 0 2)
  else s

/-- The segments a to g that a digit lights. -/
def digitSegments (n : Nat) : List Nat :=
  [[0, 1, 2, 3, 4, 5], [1, 2], [0, 1, 3, 4, 6], [0, 1, 2, 3, 6], [1, 2, 5, 6], [0, 2, 3, 5, 6], [0, 2, 3, 4, 5, 6],
   [0, 1, 2], [0, 1, 2, 3, 4, 5, 6], [0, 1, 2, 3, 5, 6]].getD n []

/-- The digit segments of DISP_DIGIT_MAP in use: segment, common, and whether the two digits of TAPER_CODE light it. -/
def State.digits (s : State) : List (Nat × Nat × Bool) :=
  let code := s.pwr.taperCode % 100
  (List.range 14).filterMap fun i =>
    let w := field (s.on_ 0x1A40 2) (16 * i + 15) (16 * i)
    if field w 7 0 = 255 then none
    else some (field w 7 0, field w 10 8, (digitSegments (if i < 7 then code / 10 else code % 10)).contains (i % 7))

/-- The levels of the fault pattern on e-paper (R552). -/
def State.faultLevels (s : State) : List Nat :=
  s.digits.foldl (fun l d => setAt l d.1 (if d.2.2 then 3 else 0)) (levelsOf (s.on_ 0x1A40 1))

/-- In TAPER the opening boundary of a start asks for the fault pattern on every region (R552). -/
def State.taperDisplay (s : State) : State :=
  if s.dispMode = 1 ∧ s.mode = .taper then
    ((List.range 16).filter fun r => s.on_ 0x1A01 (r + 1) != 0).foldl (State.requestUpdate s.faultLevels) s
  else s

/-! ### Multiplexed LCD (R548 to R551) -/

/-- The 96 bytes of a pixel entry. -/
def pixelBytes (n : Nat) : List Nat := leBytes 96 n

/-- A bit of a byte set or cleared. -/
def putBit (b i : Nat) (on : Bool) : Nat := b - flagAt (bitAt b i) i + flagAt on i

/-- The pixel data to show: LCD_DATA, and in TAPER the fault pattern with the digits. -/
def State.lcdData (s : State) : List Nat :=
  if s.mode = .taper then
    s.digits.foldl (fun l d => modAt l d.1 fun b => putBit b d.2.1 d.2.2) (pixelBytes (s.on_ 0x1A40 1))
  else pixelBytes (s.at_ 0x1A30 1)

/-- The pixels that blink: LCD_BLINK, and in TAPER the digit segments. -/
def State.lcdBlink (s : State) : List Nat :=
  if s.mode = .taper then s.digits.foldl (fun l d => modAt l d.1 fun b => putBit b d.2.1 true) (List.replicate 96 0)
  else pixelBytes (s.at_ 0x1A30 2)

/-- The first half of the blink period (R550); in TAPER the digits blink at 1 Hz. -/
def State.blinkOn (s : State) : Bool :=
  match if s.mode = .taper then 1 else field (s.on_ 0x1A00 1) 7 6 with
  | 0 => s.cal.seconds % 2 == 0
  | 1 => decide (s.cal.prescaler < 16384)
  | 2 => !bitAt s.cal.prescaler 13
  | _ => !bitAt s.cal.prescaler 12

/-- RTC ticks of an LCD frame (R548). -/
def State.lcdTicks (s : State) : Nat := 1024 / 2 ^ field (s.on_ 0x1A00 1) 5 4

/-- Commons in use: four, or eight (Table 16.1). -/
def State.lcdCommons (s : State) : Nat := if bitAt (s.on_ 0x1A00 1) 2 then 8 else 4

/-- The common whose slot it is at a tick of the LCD frame under way (R548); none where no frame is. -/
def State.lcdSlot (s : State) (tick : Nat) : Option Nat :=
  s.disp.lcdAt.bind fun t =>
    if t ≤ tick ∧ tick < t + s.lcdTicks then some ((tick - t) / (s.lcdTicks / s.lcdCommons)) else none

/-- VLCD in mV, and the step between its levels as a divisor of it (R548, Table 16.1). -/
def State.lcdBias (s : State) : Nat × Nat := (100 * s.on_ 0x1A00 2, if bitAt (s.on_ 0x1A00 1) 3 then 4 else 3)

/-- The tick at which an LCD frame may start from a time on: the end of the one under way, or the next tick (R548). -/
def State.lcdDue (s : State) (cyc : Nat) : Nat :=
  (s.disp.lcdAt.map fun t => t + s.lcdTicks).getD (s.frame.tickFrom cyc)

/-- LCD_FRAME_START (R548 to R550): where the frame under way has ended, new data apply, the polarity inverts and the blink
state is taken. -/
def lcdFrameStart (cyc : Nat) (s0 : State) : State :=
  if s0.dispMode = 2 ∧ s0.frame.running ∧ s0.lcdDue cyc ≤ s0.frame.tickFrom cyc then
    let s := { s0 with frame := s0.frame.at_ cyc }.elapse
    let shown := s.lcdData
    s.modDisp fun d =>
      { d with
        lcdAt := some (s0.lcdDue cyc)
        lcdShown := shown
        lcdOn := if s.blinkOn then shown else List.zipWith (fun a b => a &&& (255 ^^^ b)) shown s.lcdBlink
        lcdPolarity := !d.lcdPolarity }
  else s0

/-- DISP_STATUS (Table 16.7). -/
def Display.status (d : Display) : Nat :=
  flag d.running + flagAt d.waits 1 + flagAt d.pumpLow 2 + flagAt (!d.interrupted.isEmpty) 3

end Sys2Proof.Machine
end

