-- ==== Sys2Proof/Machine/Values.lean ====
section
/-! DEFINITION. What a read of an entry returns (Chapters 2 to 18): the read-only entries of each chapter as a function of
the state, and the entries whose reads differ from what was written. A value is a number, its bytes least significant
first. -/

namespace Sys2Proof.Machine

open Sys2Proof

/-- OPERATING_MODE (Table 13.11). -/
def Mode.code : Mode → Nat
  | .config => 1
  | .measure => 2
  | .verify => 3
  | .taper => 4

/-! ### Chapters 2 to 4 -/

/-- 0x0300 to 0x0302. -/
def State.frameValue (s : State) (index sub : Nat) : Nat :=
  match index, sub with
  | 0x0300, 2 => s.frame.number
  | 0x0300, 3 => s.frame.lengthLast
  | 0x0300, 4 => planCycleOf s.eff
  | 0x0301, 4 => s.sync.state
  | 0x0301, 5 => unsigned 32 s.sync.residual
  | 0x0301, 6 => s.sync.rejects
  | 0x0302, 1 => s.ledger.state
  | 0x0302, 2 => s.ledger.minSlack
  | 0x0302, 3 => s.ledger.worstPhase
  | 0x0302, 4 => s.ledger.refusal
  | 0x0302, 5 => s.ledger.shortfall
  | 0x0302, 6 => s.ledger.refusedRow
  | 0x0302, 7 => 150
  | 0x0302, 8 => s.ledger.broken
  | 0x0302, 9 => s.ledger.overruns
  | _, _ => 0

/-- 0x0801 to 0x0850. -/
def State.portValue (s : State) (index sub : Nat) : Nat :=
  match index with
  | 0x0801 => if sub = 2 then flag (s.ac.vsdGood && (s.pwr.dom 0).on) + flagAt s.ac.vsdDroop 1 else flag s.ac.vhdAbove5 + flagAt s.ac.vhdLow 1
  | 0x0820 => natAt s.ac.chainSat (sub - 1)
  | 0x0830 => if !ctxDefined s.eff (sub - 1) then 0 else (s.ac.ctxAt (sub - 1)).g
  | 0x0840 => if !ctxDefined s.eff (sub - 1) then 0 else unsigned 32 (fitS 32 (roundAway (s.ac.ctxAt (sub - 1)).m))
  | 0x0850 => if !ctxDefined s.eff (sub - 1) then 0 else fitU 32 (roundAway (100 * realFreq (s.ac.ctxAt (sub - 1)).h))
  | _ => 0

/-- A path context (Table 4.1). -/
def State.ctxValue (s : State) (n sub : Nat) : Nat :=
  let c := s.ac.ctxAt n
  if !ctxDefined s.eff n && !([0x1C, 0x1D, 0x1E].contains sub) then 0 else
  match sub with
  | 0x1B => c.status
  | 0x1C => c.shots
  | 0x1D => c.retries
  | 0x1E => c.substs
  | 0x20 => unsigned 32 c.zeroResult
  | 0x21 => c.zeroStatus
  | _ => 0

/-! ### Chapters 5 to 7 -/

/-- 0x0A00 to 0x0A30. -/
def State.tdcValue (s : State) (index sub : Nat) : Nat :=
  match index, sub with
  | 0x0A00, 1 => flag s.ac.pllLocked + flagAt s.ac.dllLocked 1 + flagAt s.clk.provisional 2 + flagAt (!s.ac.calFaulty.isEmpty) 3
  | 0x0A00, 2 => s.ac.calFaults
  | 0x0A00, 3 => s.ac.closeStamps
  | 0x0A00, 4 => s.ac.orderErrors
  | 0x0A00, 5 => s.ac.overflows
  | 0x0A00, 6 => s.ac.timeouts
  | 0x0A02, i => natAt s.ac.calGain (i - 1)
  | 0x0A10, i => (s.ac.ctxAt (i - 1)).centreUp * 65536 + (s.ac.ctxAt (i - 1)).centreDn
  | 0x0A20, 2 => s.ac.capture.status
  | 0x0A20, 3 => templateValue s.ac.capture.result
  | 0x0A20, 4 => s.ac.capture.resultAnchor
  | 0x0A30, 2 => s.ac.waveSkipped
  | _, _ => 0

/-- 0x0400 to 0x0403. -/
def State.clockValue (s : State) (index sub : Nat) : Nat :=
  match index, sub with
  | 0x0400, 2 => s.clockStatus
  | 0x0401, 1 => unsigned 32 s.clk.qualK
  | 0x0401, 2 => s.clk.qualAge
  | 0x0401, 5 => unsigned 32 s.clk.tickScale
  | 0x0402, 4 => unsigned 32 s.clk.freqErr
  | 0x0402, 5 => unsigned 32 s.clk.drift
  | 0x0403, 1 => s.clk.fallbacks
  | _, _ => 0

/-- 0x0B00 to 0x0B40. SENSOR_STATUS lists ports, pressure, internal. -/
def State.sensorValue (s : State) (index sub : Nat) : Nat :=
  match index, sub with
  | 0x0B09, i => unsigned 32 (s.sen.val (i - 1)).value
  | 0x0B0A, i => natAt s.sen.res (i - 1)
  | 0x0B0B, i => s.sen.status (s.on_ 0x0B08 4) (i - 1)
  | 0x0B0C, _ => s.sen.faults
  | 0x0B20, 5 => unsigned 32 (s.sen.val 4).value
  | 0x0B20, 6 => unsigned 32 s.sen.raw
  | 0x0B40, 1 => unsigned 32 (s.sen.val 5).value
  | _, _ => 0

/-! ### Chapters 8 to 11 -/

/-- The last flow result, as the last boundary published it. -/
def State.published (s : State) : FlowOut := s.flow.last.getD s.flow.blankOut

/-- 0x0C00 to 0x0C41. -/
def State.flowValue (s : State) (index sub : Nat) : Nat :=
  let o := s.published
  match index, sub with
  | 0x0C00, 3 => s.flow.fault
  | 0x0C04, 2 => min 255 s.flow.holdCount
  | 0x0C05, 2 => s.flow.ring.length
  | 0x0C06, i => pathRatio s.eff s.flow (i - 1)
  | 0x0C0B, 4 => s.flow.active
  | 0x0C0B, 5 => s.flow.candidate
  | 0x0C0B, 7 => hundredths s.flow.conc % 65536
  | 0x0C0B, 8 => hundredths s.flow.h2 % 65536
  | 0x0C0B, 9 => fitU 32 (roundAway o.cv)
  | 0x0C0C, 2 => s.flow.dir
  | 0x0C0D, 1 => unsigned 64 o.q
  | 0x0C0D, 2 => unsigned 32 (fitS 32 (roundAway (1000000 * o.vMean)))
  | 0x0C0D, 3 => toF32 o.re
  | 0x0C0D, 4 => fitU 32 (roundAway (1000000 * s.flow.cMed))
  | 0x0C12, 1 => flag s.flow.creep
  | 0x0C12, 4 => s.flow.creepEntries
  | 0x0C30, 6 => flagAt s.flow.stale 7 +
      ((List.range 5).map fun d => flagAt (s.flow.bands.getD d BandRun.zero).standing (d + 1)).sum
  | 0x0C30, d => natAt s.flow.diag (d - 1)
  | 0x0C40, i => unsigned 32 (fitS 32 (s.flow.velocity.getD (i - 1) 0))
  | 0x0C41, i => natAt s.flow.sound (i - 1)
  | _, _ => 0

/-- A register as the last complete commit holds it (R294). -/
def State.committedReg (s : State) (i : Nat) : Reg :=
  match s.qty.latest with
  | some p => p.2.regs.getD i Reg.zero
  | none => Reg.zero

/-- 0x1000 to 0x1110. -/
def State.quantityValue (s : State) (index sub : Nat) : Nat :=
  match index, sub with
  | 0x1000, i => if i ≤ 16 then (s.committedReg (i - 1)).value else (s.committedReg (i - 33)).residue
  | 0x1007, 1 => s.qty.seq
  | 0x1007, 2 => s.qty.fails
  | 0x1007, 3 => s.qty.status
  | 0x1007, 6 => s.qty.fault
  | 0x1102, i => (s.qty.outs.getD (i - 1) PulseOut.reset).backlog
  | 0x1103, i => (s.qty.outs.getD (i - 1) PulseOut.reset).count
  | 0x1110, 3 => s.qty.fto.count
  | 0x1110, 4 => s.qty.fto.backlog
  | _, _ => 0

/-- 0x0500 to 0x050B. -/
def State.calValue (s : State) (index sub : Nat) : Nat :=
  let t := s.cal.tamper.getD (sub - 1) Tamper.reset
  match index, sub with
  | 0x0500, 1 => s.cal.now
  | 0x0500, 3 => s.cal.seconds
  | 0x0500, 4 => s.calStatus
  | 0x0500, 5 => s.cal.lastOld
  | 0x0500, 6 => s.cal.lastNew
  | 0x0500, 7 => s.cal.setCount
  | 0x0502, 5 => unsigned 32 (fitS 32 (roundAway s.rtcRate))
  | 0x0502, 6 => unsigned 16 (fitS 16 s.cal.trim)
  | 0x0506, _ => flag t.latch
  | 0x0507, _ => t.first
  | 0x0508, _ => t.last
  | 0x0509, _ => t.count
  | 0x050B, 1 => s.cal.supplyStatus
  | 0x050B, 2 => s.cal.switchovers
  | 0x050B, 3 => s.cal.vmainRise
  | _, _ => 0

/-- 0x1200 to 0x1410. -/
def State.billValue (s : State) (index sub : Nat) : Nat :=
  let b := s.bill.st
  match index, sub with
  | 0x1200, 1 => b.tariff
  | 0x1200, 3 => s.bill.activations
  | 0x1200, 4 => s.bill.calFault
  | 0x1200, 6 => b.lastSwitch
  | 0x1240, i => (s.committedReg (15 + i)).value
  | 0x1241, i => (s.committedReg (15 + i)).residue
  | 0x1300, 2 => b.last.value
  | 0x1300, 3 => b.last.ends
  | 0x1300, 4 => b.last.flags
  | 0x1300, 5 => b.skipped
  | 0x1301, 3 => b.lastClose
  | 0x1301, 4 => b.seqNext
  | 0x1302, i => (b.maxCur.getD (i - 1) MaxD.zero).value
  | 0x1303, i => (b.maxCur.getD (i - 1) MaxD.zero).ends
  | 0x1304, i => (b.maxClosed.getD (i - 1) MaxD.zero).value
  | 0x1305, i => (b.maxClosed.getD (i - 1) MaxD.zero).ends
  | 0x1310, i => ofLe (bytesOfWords (s.bill.stored.getD (i - 1) []))
  | 0x1400, 7 => unsigned 64 b.balance
  | 0x1400, 8 => b.credit
  | 0x1402, 2 => b.topupId
  | 0x1402, 3 => b.topupCount
  | 0x1410, 6 => b.actWord
  | 0x1410, 7 => s.bill.faults
  | 0x1410, 8 => s.bill.lastTravel
  | _, _ => 0

/-! ### Chapters 12 and 13 -/

/-- A BOOT_HISTORY entry (Table 12.7). -/
def BootEntry.value (b : BootEntry) : Nat :=
  ofLe (leBytes 6 b.time ++ [b.startReason, b.outcome, b.endReason, b.flags] ++ leBytes 2 b.frames ++ [b.fails])

/-- 0x0201 to 0x0223. -/
def State.powerValue (s : State) (index sub : Nat) : Nat :=
  let p := s.pwr
  match index, sub with
  | 0x0201, 4 => p.failedStarts
  | 0x0201, 5 => flagAt p.taperLatchMetro 7 + flagAt p.succeeded 6 + p.boundaries
  | 0x0201, 6 => p.startCount
  | 0x0201, 7 => p.taperCode
  | 0x0201, 8 => p.startMode
  | 0x0202, 1 => p.wakeFails
  | 0x0202, 2 => p.lastWake
  | 0x0210, i => match p.history[i - 1]? with
    | some b => b.value
    | none => 0
  | 0x0220, i => natAt p.resSnap.ticks (i - 1)
  | 0x0221, i => natAt p.resSnap.entries (i - 1)
  | 0x0222, i => natAt p.resSnap.short (i - 1)
  | 0x0223, 2 => p.resFrame
  | _, _ => 0

/-- A METRO_CHANGE_LOG entry (Table 13.14). -/
def Change.value (c : Change) : Nat :=
  ofLe (leBytes 2 c.index ++ [c.sub, c.port] ++ leBytes 4 c.count ++ leBytes 6 c.time)

/-- The generation of a port's session (PORT_GEN); on the powerline link, the highest of its open sessions. -/
def State.portGen (s : State) (port : Nat) : Nat :=
  match port with
  | 0 => 3
  | 4 => s.pl.sessions.foldl (fun m x => if x.address = 0 then m else max m x.gen) 1
  | p => max 1 (s.q.gen p)

/-- 0x0101 to 0x0150. -/
def State.commonValue (s : State) (gen index sub : Nat) : Nat :=
  match index, sub with
  | 0x0101, 3 => Config.chipSerial % 2 ^ 64
  | 0x0101, 4 => 0xB0
  | 0x0101, 5 => if Config.grade = 1 then 1 else 2
  | 0x0101, 6 => Config.romVersion % 65536
  | 0x0110, 1 => 3
  | 0x0110, 2 => 1
  | 0x0110, 3 => gen
  | 0x0111, i => s.portGen (i - 1)
  | 0x0120, 1 => s.mode.code
  | 0x0120, 3 => (s.modePending.map Mode.code).getD 0
  | 0x0140, 2 => flag s.acc.sealed + flagAt s.acc.sealedOnce 1 + flagAt s.acc.factoryEnded 2
  | 0x0140, 3 => s.acc.changes
  | 0x0140, 4 => flag s.acc.factoryLock
  | 0x0141, 4 => s.acc.fails
  | 0x0141, 5 => ((List.range 3).map fun r => flagAt (natAt s.acc.lockout r != 0) r).sum
  | 0x0141, r => natAt s.acc.replay (r - 1)
  | 0x0142, i => match s.acc.changeLog[i - 1]? with
    | some c => c.value
    | none => 0
  | _, _ => 0

/-! ### Chapters 14 to 18 -/

/-- The bit rate of COM1 to COM3, in bits per second (R474). -/
def comRate (com : Nat) : Nat := [38400, 4800, 38400, 230400].getD com 4800

/-- OD octets of the OPERATE M-sequence (Table 14.6). -/
def odOctets (inLen outLen : Nat) : Nat :=
  if inLen = 0 && outLen = 0 then 2
  else if (decide (inLen ≤ 2) && outLen == 0) || (inLen == 0 && decide (outLen ≤ 2)) || (inLen == 1 && outLen == 1) then 1
  else 2

/-- MinCycleTime in units of 0.1 ms, rounded up (R474): the OPERATE M-sequence of 11-bit characters, two octets of
command and check, the process data and OD octets both ways, the check octet of the answer, and t_A of 3 bit times. -/
def minCycleTenths (config : Nat) : Nat :=
  let i := field config 12 7
  let o := field config 6 1
  let bits := 11 * (2 + o + odOctets i o + i + odOctets i o + 1) + 3
  max 10 ((10000 * bits + comRate (field config 14 13) - 1) / comRate (field config 14 13))

/-- The IO-Link encoding of a cycle time, rounded up: 0.1 ms, 0.4 ms and 1.6 ms steps. -/
def cycleCode (tenths : Nat) : Nat :=
  if tenths ≤ 63 then tenths
  else if tenths ≤ 64 + 63 * 4 then 64 + (tenths - 64 + 3) / 4
  else 128 + min 63 ((tenths - 320 + 15) / 16)

/-- IOL_MIN_CYCLE (R474): 1.0 ms while no rate is set. -/
def State.minCycle (s : State) : Nat := if bitAt s.iol.config 15 then cycleCode (minCycleTenths s.iol.config) else 0x0A

/-- 0x1800 to 0x1810. -/
def State.linkValue (s : State) (index sub : Nat) : Nat :=
  match index, sub with
  | 0x1800, i => natAt s.q.linkErrors (i - 1)
  | 0x1802, 2 => s.iol.state
  | 0x1802, 3 => s.iol.cycleLast
  | 0x1802, 4 => s.iol.lastAbort
  | 0x1802, 5 => s.minCycle
  | 0x1804, 9 => ofLe s.iol.pdOut
  | 0x1804, 10 => flag s.iol.pdOutValid + flagAt s.iol.pdOutNew 1
  | 0x1804, 11 => ofLe s.iol.lastEvent
  | 0x1808, 9 => s.mbus.accessNo
  | 0x1810, 2 => s.q.spiDropped
  | _, _ => 0

/-- PL_SESSION of a session. -/
def PlSession.word (x : PlSession) : Nat :=
  if x.address = 0 then 0
  else x.address * 65536 + x.gen * 4096 + (if x.lost then 2 else 1) * 256 + x.tog * 128

/-- 0x1901 to 0x1922. -/
def State.plValue (s : State) (index sub : Nat) : Nat :=
  let p := s.pl
  match index, sub with
  | 0x1901, 1 => flag p.locked + flagAt ((p.tx.map fun t => t.admitted).getD false) 1 +
      flagAt (field (s.on_ 0x1900 1) 7 6 == 3 && decide (s.mode ≠ .taper)) 3
  | 0x1901, 2 => if p.rising.length < 3 then 0
      else fitU 32 (roundAway (quo (1000 * 1048576) (s.zcPeriod.getD s.mainsPeriod)))
  | 0x1901, 3 => p.txFrames
  | 0x1901, 4 => p.rxFrames
  | 0x1901, 5 => p.crcErrors
  | 0x1901, 6 => p.erased
  | 0x1901, 7 => p.refused
  | 0x1901, 8 => p.rejects
  | 0x1910, i => (p.sessions.getD (i - 1) PlSession.free).word
  | 0x1921, 2 => ofLe p.response
  | 0x1922, i => ofLe (p.status.getD (i - 1) [])
  | _, _ => 0

/-- 0x1A00 to 0x1A50. -/
def State.dispValue (s : State) (index sub : Nat) : Nat :=
  let d := s.disp
  match index, sub with
  | 0x1A00, 3 => d.status
  | 0x1A00, 4 => d.credit
  | 0x1A02, 3 => packLevels d.levels
  | 0x1A03, 9 => d.band
  | 0x1A03, i => (d.region (i - 10)).latched
  | 0x1A20, i => unsigned 32 (d.dc.getD (i - 1) 0)
  | 0x1A21, _ => maskOf d.balDue
  | 0x1A50, 1 => d.updates
  | 0x1A50, 2 => d.superseded
  | 0x1A50, 3 => d.balPhases
  | 0x1A50, 4 => d.interrupts
  | _, _ => 0

/-- The bytes of a log entry (Table 17.8). -/
def LogEntry.bytes (e : LogEntry) : List Nat := e.body ++ e.chain

/-- The log entry in a slot (R578). -/
def EventLog.slot (l : EventLog) (slot : Nat) : List Nat :=
  match l.entries.find? fun e => e.seq % 2048 == slot with
  | some e => e.bytes
  | none => []

/-- 0x1500 to 0x15FF. -/
def State.securityValue (s : State) (index sub : Nat) : Nat :=
  match index, sub with
  | 0x1500, 1 => s.log.nextSeq
  | 0x1500, 2 => ofLe s.log.head
  | 0x1500, 3 => s.log.lost
  | 0x1520, 3 => flag s.acc.operatorKey.isSome + flagAt s.acc.metrologyKey.isSome 1 + flagAt s.acc.bootHash.isSome 2
  | 0x1520, 4 => s.acc.keyChanges
  | 0x1530, 1 => ofLe (s.acc.bootHash.getD [])
  | 0x1540, 1 => s.acc.firewallHits
  | 0x1540, 2 => s.acc.firewallLast
  | 0x1540, 3 => s.acc.firewallMaster
  | i, sub => if 0x1580 ≤ i ∧ i ≤ 0x15FF then ofLe (s.log.slot ((i - 0x1580) * 16 + (sub - 1))) else 0

/-- BOOT_STATUS (Table 17.9). -/
def State.bootStatus (s : State) : Nat := s.core.failedStep + flagAt (s.acc.bootHash.isNone) 8

/-- 0x1D00 to 0x1D02. -/
def State.coreValue (s : State) (index sub : Nat) : Nat :=
  match index, sub with
  | 0x1D00, 1 => s.core.state
  | 0x1D00, 2 => s.bootStatus
  | 0x1D00, 3 => s.core.resets
  | 0x1D00, 6 => s.core.fwMin
  | 0x1D00, 7 => s.core.secVersion
  | 0x1D01, 3 => s.core.custTimeouts
  | 0x1D01, 5 => s.q.coreDropped
  | 0x1D02, 2 => ofLe s.core.mailPublished
  | _, _ => 0

/-- A PERF_SEL change or a clear waits for its boundary. -/
def State.perfPending (s : State) : Bool :=
  s.perf.clear != 0 || s.set.edits.any fun e => decide (0x1C10 ≤ keyIndex e.key) && decide (keyIndex e.key ≤ 0x1C15)

/-- 0x1C00 to 0x1C25. -/
def State.perfValue (s : State) (index sub : Nat) : Nat :=
  match index, sub with
  | 0x1C00, 2 => flag s.perfPending + flagAt s.perf.uen 1
  | 0x1C00, 3 => s.perf.cur.frame
  | i, sub =>
    if 0x1C20 ≤ i ∧ i ≤ 0x1C25 then
      natAt s.perf.cur.counts (8 * (i - 0x1C20) + (sub - 1)) +
        flagAt (s.perf.cur.ovf.getD (8 * (i - 0x1C20) + (sub - 1)) false) 63
    else 0

/-! ### Reads -/

/-- Entries that hold commands and read as zero (R439). -/
def readsZero (index sub : Nat) : Bool :=
  match index with
  | 0x0120 => sub == 2
  | 0x0140 => sub == 1
  | 0x0150 => true
  | 0x0201 => decide (sub ≤ 2)
  | 0x0223 => sub == 1
  | 0x0500 => sub == 2
  | 0x0501 => sub == 1
  | 0x050A => true
  | 0x1007 => sub == 5
  | 0x1301 => sub == 2
  | 0x1402 => sub == 1
  | 0x1410 => sub == 5
  | 0x1520 => decide (sub ≤ 2)
  | 0x1A02 => sub == 2
  | 0x1C30 => true
  | 0x1D00 => sub == 4 || sub == 5
  | _ => false

/-- The value of a read-only entry. -/
def State.roValue (s : State) (gen index sub : Nat) : Nat :=
  match index / 256 with
  | 0x01 => s.commonValue gen index sub
  | 0x02 => s.powerValue index sub
  | 0x03 => s.frameValue index sub
  | 0x04 => s.clockValue index sub
  | 0x05 => s.calValue index sub
  | 0x08 => s.portValue index sub
  | 0x09 => s.ctxValue (index - 0x0900) sub
  | 0x0A => s.tdcValue index sub
  | 0x0B => s.sensorValue index sub
  | 0x0C => s.flowValue index sub
  | 0x10 => s.quantityValue index sub
  | 0x11 => s.quantityValue index sub
  | 0x12 => s.billValue index sub
  | 0x13 => s.billValue index sub
  | 0x14 => s.billValue index sub
  | 0x15 => s.securityValue index sub
  | 0x18 => s.linkValue index sub
  | 0x19 => s.plValue index sub
  | 0x1A => s.dispValue index sub
  | 0x1C => s.perfValue index sub
  | _ => s.coreValue index sub

/-- The answer to the last offer of a session (R465). -/
def State.helloAnswer (s : State) (via : Via) : List Nat :=
  match via with
  | .isdu => s.iol.hello
  | .mbus => s.mbus.hello
  | .powerline n => (s.pl.sessions.getD n PlSession.free).hello
  | _ => List.replicate 20 0

/-- The place at which the stored settings keep an entry: the calendar indices go to the bank that holds them (R370). -/
def State.storedKey (s : State) (index sub : Nat) : Key := key (calIndex s.bill.st.bank index) sub

/-- The value of an entry that a read returns; writable entries that the engines change have their live value. -/
def State.entryValue (s : State) (via : Via) (gen index sub : Nat) (rw : Bool) : Nat :=
  if readsZero index sub then 0
  else if !rw then s.roValue gen index sub
  else
    match index, sub with
    | 0x0140, 4 => flag s.acc.factoryLock
    | 0x1200, 2 => s.bill.st.activateAt
    | 0x1530, 1 => ofLe (s.acc.bootHash.getD [])
    | 0x1801, 1 => ofLe (s.helloAnswer via)
    | 0x1D00, 6 => s.core.fwMin
    | _, _ => s.get (s.storedKey index sub)

/-- The bytes of a value of a type: a TEXT has as many bytes as its number needs (R437), and the entries that read as zero
length have none. -/
def textBytes : Nat → Nat → List Nat
  | 0, _ => []
  | fuel + 1, n => if n = 0 then [] else n % 256 :: textBytes fuel (n / 256)

/-- The bytes of a value. -/
def Ty.encode (t : Ty) (n : Nat) : List Nat :=
  match t with
  | .text m => textBytes m n
  | t => leBytes t.bytes n

/-- Entries that read as zero length (Tables 13.13 and 17.9). -/
def readsEmpty (index sub : Nat) : Bool :=
  index == 0x0150 || (index == 0x1520 && decide (sub ≤ 2)) || (index == 0x1D00 && sub == 5)

/-- The bytes a read of a listed entry returns. -/
def State.readBytes (s : State) (via : Via) (gen : Nat) (r : Row) (index sub : Nat) : List Nat :=
  if readsEmpty index sub then [] else r.ty.encode (s.entryValue via gen index sub r.rw)

end Sys2Proof.Machine
end

