-- ==== Sys2Proof/Machine/Answer.lean ====
section
/-! DEFINITION. Answers of the dictionary: the abort codes (Table 13.10), and the way an answer goes in the framing of the
port its request came by (R450, R483, R495, R516, R517, R565). -/

namespace Sys2Proof.Machine

open Sys2Proof

/-! ### Abort codes (Table 13.10) -/

def abortOk : Nat := 0x0000
def abortNoEntry : Nat := 0x0601
def abortNoSubentry : Nat := 0x0602
def abortType : Nat := 0x0610
def abortRange : Nat := 0x0611
def abortAccess : Nat := 0x0620
def abortSealed : Nat := 0x0621
def abortState : Nat := 0x0630
def abortBusyFrame : Nat := 0x0631
def abortAuth : Nat := 0x0640
def abortGeneration : Nat := 0x0650
def abortDateInvalid : Nat := 0x0660

/-- The first code whose condition holds; OK where none does (R457). -/
def firstAbort : List (Bool × Nat) → Nat
  | [] => abortOk
  | (c, a) :: l => if c then a else firstAbort l

/-! ### Records (R450) -/

/-- SRC of a port's engine: the core for the access port (DEDUCED, log 60). -/
def portSrc : Nat → Nat
  | 1 => 0x4E
  | 2 => 0x4C
  | 3 => 0x4D
  | 4 => 0x4F
  | _ => 0x4B

/-- Word 0 of a request. -/
def Request.word0 (r : Request) : Nat := r.op % 256 * 2 ^ 24 + r.sub % 256 * 65536 + r.index % 65536

/-- Whole words that bytes fill. -/
def wordCount (bytes : List Nat) : Nat := (bytes.length + 3) / 4

/-- An OD_RESPONSE record (Table 13.7). -/
def odResponse (r : Request) (gen frame src abort : Nat) (data : List Nat) : Record :=
  { type := 0x07, gen := gen, cls := 2, src := src, qual := 1, frame := frame,
    payload := [r.word0, r.id % 65536 * 65536 + abort, data.length] ++ wordsOf (wordCount data) data }

/-! ### Field links -/

/-- The IO-Link ErrorType of an abort code (Table 14.8); `long` where the data is longer than the type. -/
def iolError (abort : Nat) (long : Bool) : Nat :=
  if abort = abortNoEntry then 0x8011
  else if abort = abortNoSubentry then 0x8012
  else if abort = abortType then (if long then 0x8033 else 0x8034)
  else if abort = abortRange ∨ abort = abortDateInvalid then 0x8030
  else if abort = abortAccess ∨ abort = abortSealed ∨ abort = abortAuth then 0x8023
  else if abort = abortState then 0x8022
  else if abort = abortBusyFrame then 0x8020
  else if abort = abortGeneration then 0x8035
  else 0

/-- A value's bytes in the order of IO-Link (R12, R436): a number most significant octet first, octet strings and texts as
they are. The value of a customer entry is taken as a number, as Table 17.5 shows (DEDUCED, log 61). -/
def iolOrder (index sub : Nat) (data : List Nat) : List Nat :=
  match rowOf (key index sub) with
  | some row => match row.ty with
    | .octets _ => data
    | .text _ => data
    | _ => data.reverse
  | none => data.reverse

/-- The length of data exceeds that of the entry's type. -/
def longerThanType (index sub : Nat) (data : List Nat) : Bool :=
  match rowOf (key index sub) with
  | some row => decide (row.ty.bytes < data.length)
  | none => false

/-- The M-Bus dictionary response block (Table 14.14). -/
def mbusBlock (r : Request) (status abort : Nat) (data : List Nat) : List Nat :=
  [0x4A, r.op] ++ leBytes 2 r.id ++ leBytes 2 r.index ++ [r.sub, status] ++ leBytes 2 abort ++ leBytes 2 data.length ++ data

/-- A powerline REPLY payload (Table 15.5). -/
def plReply (op seg abort status total : Nat) (data : List Nat) : List Nat :=
  [op, seg] ++ leBytes 2 abort ++ [status, 0] ++ leBytes 2 total ++ data

/-- A powerline session takes the answer to its request (R516, R517): a READ copies the whole value. -/
def PlSession.answered (abort : Nat) (data : List Nat) (x : PlSession) : PlSession :=
  match x.wait with
  | .busy op seg =>
    if op = 2 then
      { x with
        copy := if abort = abortOk then some data else x.copy
        wait := .ready (plReply op seg abort 0 (if abort = abortOk then data.length else 0) (data.take 16)) }
    else { x with wait := .ready (plReply op seg abort 0 0 []) }
  | _ => x

/-- Bytes written at the start of a register array. -/
def overBytes (data old : List Nat) : List Nat := data ++ old.drop data.length

/-- Replace one session of the powerline link. -/
def Powerline.modSession (n : Nat) (f : PlSession → PlSession) (p : Powerline) : Powerline :=
  { p with sessions := modAt p.sessions n f }

/-- The answer to a request goes the way the request came; the core's answers carry SRC 0x4B (R450). -/
def State.answer (r : Request) (byCore : Bool) (abort : Nat) (data : List Nat) (s : State) : State :=
  let src := if byCore then 0x4B else portSrc r.via.port
  let s1 : State := match r.via with
    | .window => { s with core := { s.core with
        reqBusy := false, reqResult := data.length % 32768 * 65536 + abort, reqData := overBytes data s.core.reqData } }
    | .core => { s with q := s.q.toCore (odResponse r 3 s.frame.number src abort data) }
    | .spi => { s with
        q := s.q.toHost [({ record := odResponse r (s.q.gen 1) s.frame.number src abort data, sirq := true } : OutRec)] }
    | .isdu => { s with iol := { s.iol with
        response := some (iolError abort (longerThanType r.index r.sub r.data),
          if r.sub = 0 then data else iolOrder r.index r.sub data)
        lastAbort := if abort = abortOk then s.iol.lastAbort else abort
        busy := false } }
    | .mbus => if !(s.mbus.request.any fun x => x.id == r.id && x.index == r.index && x.sub == r.sub) then s else { s with mbus := { s.mbus with
        answer := if 200 < data.length then mbusBlock r 0 abortType [] else mbusBlock r 0 abort data
        request := none } }
    | .powerline n => { s with pl := s.pl.modSession n (PlSession.answered abort data) }
  if r.via.port = 0 then s1 else s1.count [linkAct 0x63 1]

end Sys2Proof.Machine
end

