-- ==== Sys2Proof/Machine/Security.lean ====
section
/-! DEFINITION. The security block (R440 to R449, R570, R575 to R577): envelopes, roles, keys, the seal's change count, and
the reset of the application core, which answers the request it held (R564, R567). -/

namespace Sys2Proof.Machine

open Sys2Proof

/-! ### Envelopes (R445 to R448) -/

/-- An envelope (Table 13.4); `body` is what its MAC covers. -/
structure Envelope where
  role : Nat
  index : Nat
  sub : Nat
  counter : Nat
  value : List Nat
  body : List Nat
  mac : List Nat
  deriving DecidableEq, Repr

/-- The envelope that bytes spell; none where it is malformed (R445). -/
def Envelope.of (d : List Nat) : Option Envelope :=
  let n := ofLe ((d.drop 6).take 2)
  let role := natAt d 0
  if d.length = 20 + n ∧ n ≤ 1024 ∧ 1 ≤ role ∧ role ≤ 3 ∧ natAt d 1 = 0 ∧ natAt d 5 = 0 then
    some { role := role, index := ofLe ((d.drop 2).take 2), sub := natAt d 4, counter := ofLe ((d.drop 8).take 4),
           value := (d.drop 12).take n, body := d.take (12 + n), mac := d.drop (12 + n) }
  else none

/-- The key of a role; none until one is installed (R576). -/
def State.roleKey (s : State) (role : Nat) : Option (List Nat) :=
  match role with
  | 1 => s.acc.operatorKey
  | 2 => s.acc.metrologyKey
  | 3 => some Config.factoryKey
  | _ => none

/-- The MAC of an envelope checks (R446); false while the role has no key (R576). -/
def State.macOk (s : State) (e : Envelope) : Bool :=
  match s.roleKey e.role with
  | none => false
  | some k => (aesCmac k (leBytes 8 Config.chipSerial ++ e.body)).take 8 == e.mac

/-- RTC ticks of a lockout: 60 s (R448). -/
def lockoutTicks : Nat := 1966080

/-- One authentication failure (R448, Table 13.5): reason 1 MAC, 2 counter, 3 locked out. -/
def State.authFail (role port reason counter : Nat) (s : State) : State :=
  let run := natAt s.acc.failRun (role - 1) + 1
  let a := s.acc
  let a1 := { a with fails := satInc (2 ^ 32 - 1) a.fails, failsOf := modAt a.failsOf port (satInc (2 ^ 32 - 1)) }
  let a2 := if reason = 3 then a1
    else if run < 8 then { a1 with failRun := setAt a.failRun (role - 1) run }
    else { a1 with failRun := setAt a.failRun (role - 1) 0, lockout := setAt a.lockout (role - 1) lockoutTicks }
  { s with acc := a2 }.raise
    { ev := 58, code := role * 4096 + port * 256 + reason, arg := counter % 2 ^ 32, src := 0x52, cls := 2 }

/-- Step 5 of R457 for an envelope: its abort code, OK where it verifies; the replay counter then advances (R447). -/
def State.verifyEnvelope (e : Envelope) (port : Nat) (s : State) : State × Nat :=
  if e.role = 3 ∧ s.acc.factoryEnded then (s, abortAccess)
  else if natAt s.acc.lockout (e.role - 1) ≠ 0 then (s.authFail e.role port 3 e.counter, abortAuth)
  else if !s.macOk e then (s.authFail e.role port 1 e.counter, abortAuth)
  else if e.counter ≤ natAt s.acc.replay (e.role - 1) then (s.authFail e.role port 2 e.counter, abortAuth)
  else ({ s with acc := { s.acc with replay := setAt s.acc.replay (e.role - 1) e.counter
                                     failRun := setAt s.acc.failRun (e.role - 1) 0 } }, abortOk)

/-- AUTH_LOCKOUT_EXPIRY (R448): the lockout of a role ends. -/
def authLockoutExpiry (role : Nat) (s : State) : State :=
  if natAt s.acc.lockout (role - 1) ≤ 1 then { s with acc := { s.acc with lockout := setAt s.acc.lockout (role - 1) 0 } } else s

/-! ### The seal (R441 to R444) -/

/-- One counted change (R444). -/
def State.countChange (index sub port : Nat) (s : State) : State :=
  let n := satInc (2 ^ 32 - 1) s.acc.changes
  let c : Change := { index := index, sub := sub, port := port, count := n, time := s.cal.seconds }
  { s with acc := { s.acc with changes := n, changeLog := (c :: s.acc.changeLog).take 16 } }.raise
    { ev := 59, code := index % 65536, arg := sub % 256 * 2 ^ 24 + n % 2 ^ 24, src := 0x52, cls := 2 }

/-- The seal is set or cleared (R443, R441). -/
def State.seal (on : Bool) (s : State) : State :=
  { s with acc := { s.acc with
      sealed := on, sealedOnce := s.acc.sealedOnce || on, factoryEnded := s.acc.factoryEnded || on } }

/-- FACTORY_LOCK (R441). -/
def State.lockFactory (s : State) : State := { s with acc := { s.acc with factoryLock := true, factoryEnded := true } }

/-! ### Keys (R576, R577) -/

/-- A key change (R576): the wrapping key is that of the envelope's role; none where the integrity check fails. -/
def State.unwrapFor (s : State) (envRole : Nat) (wrapped : List Nat) : Option (List Nat) :=
  (s.roleKey envRole).bind fun k => keyUnwrap k wrapped

/-- A new key for role 1 or 2 is installed. -/
def State.installKey (role : Nat) (k : List Nat) (s : State) : State :=
  { s with acc := { s.acc with
      operatorKey := if role = 1 then some k else s.acc.operatorKey
      metrologyKey := if role = 2 then some k else s.acc.metrologyKey
      replay := setAt s.acc.replay (role - 1) 0
      failRun := setAt s.acc.failRun (role - 1) 0
      lockout := setAt s.acc.lockout (role - 1) 0
      keyChanges := satInc (2 ^ 32 - 1) s.acc.keyChanges } }

/-! ### Firewall (R18, R570) -/

/-- An access fault (R18) is recorded, and counted with the privilege of the instruction that made it (R587). Masters: 0 core,
1 DMA, 2 link engine, 3 display engine. -/
def State.firewallHit (addr master : Nat) (user : Bool) (s : State) : State :=
  { s with acc := { s.acc with
      firewallHits := satInc (2 ^ 32 - 1) s.acc.firewallHits
      firewallLast := addr % 2 ^ 32
      firewallMaster := master % 8 } }.count
    [{ block := 4, event := 0x55, cls := 2, priv := if master = 0 then flag user else 2,
       master := if master = 3 then 4 else master, addr := some (addr % 2 ^ 32), times := 1 }]

/-! ### The core's interrupts (R557, R561, R562) -/

/-- The priority of an event in the interrupt controller. -/
def AppCore.prio (c : AppCore) (ev : Nat) : Nat := natAt c.priority ev % 4

/-- An event routed CORE is eligible: pending, enabled, and its priority at least THRESHOLD (R562). -/
def AppCore.eligible (c : AppCore) (p : Pend) : Bool :=
  decide (p.dest = Dest.core) && p.offered && bitAt c.enable p.ev && decide (c.threshold ≤ c.prio p.ev)

/-- The interrupts pending at the core, by the bits of mie (Table 17.1). -/
def State.coreIrqs (s : State) : Nat :=
  flagAt s.core.msip 3 + flagAt s.core.mtip 7 + flagAt (s.events.any s.core.eligible) 11 +
    flagAt (s.core.l16 && !s.core.withheld) 16 + flagAt (s.core.l17 && !s.core.withheld) 17 + flagAt s.core.l18 18

/-- CE is clocked. -/
def State.ceUp (s : State) : Bool := (s.pwr.dom 3).on

/-- A pending enabled interrupt ends WFI while CE is on (R557). -/
def State.coreWake (s : State) : State :=
  match s.core.wfi with
  | none => s
  | some mie => if s.ceUp && (s.coreIrqs &&& mie) != 0 then { s with core := { s.core with wfi := none } } else s

/-! ### The application core's reset (R564, R567, R573) -/

/-- A held or waiting customer request is answered with STATE (R567). -/
def State.failHeld (s : State) : State :=
  let s1 := match s.core.held with
    | none => s
    | some r => s.answer r false abortState []
  let s2 := s1.acc.customer.foldl (fun acc r => acc.answer r false abortState []) s1
  { s2 with
    core := { s2.core with held := none }
    acc := { s2.acc with customer := [] }
    frame := { s2.frame with waiting := s2.frame.waiting.filter fun j => j.kind != 3
                             dynamic := s2.frame.dynamic.filter fun j => j.kind != 3 } }

/-- The registers of the core's surroundings after a core reset (Tables 17.2 to 17.4), in a CORE_STATE; what the dictionary
holds stays, and mcycle counts from zero from then on, `now` being the compute cycles of the frame. The words pushed and not submitted are lost; the IN queue stays (DEDUCED, log 62). -/
def AppCore.restarted (state now : Nat) (c : AppCore) : AppCore :=
  { AppCore.reset with
    state := state, csr := { Csr.reset with cycles := (2 ^ 64 - now % 2 ^ 64) % 2 ^ 64 }, failedStep := c.failedStep, secVersion := c.secVersion, resets := c.resets,
    custTimeouts := c.custTimeouts, mailPublished := c.mailPublished, fwMin := c.fwMin }

/-- The core alone is reset (R564): the request it held is answered, its registers take their defaults, UEN is cleared
(R597); SRAM and backup RAM keep their contents. -/
def State.resetCore (state : Nat) (s : State) : State :=
  let s1 := s.failHeld
  { s1 with
    core := s1.core.restarted state s1.cyclesNow
    acc := { s1.acc with waiting := s1.acc.waiting.filter fun r => r.via.port != 0 }
    q := { s1.q with coreOut := [], popped := 0 }
    perf := { s1.perf with uen := false, latches := s1.perf.latches.filter fun x => x.1 != 0 }
    events := s1.events.map fun p => { p with offered := p.offered && decide (p.dest ≠ Dest.core) } }

end Sys2Proof.Machine
end

