-- ==== Sys2Proof/Machine/Ranges.lean ====
section
/-! DEFINITION. The ranges of the dictionary's entries (step 9 of R457): for each chapter, whether a value of the right
length is within the range the chapter states, and whether the combination it would make is allowed. -/

namespace Sys2Proof.Machine

open Sys2Proof

/-- A number lies from a to b. -/
def within (a b n : Nat) : Bool := decide (a ≤ n) && decide (n ≤ b)

/-! ### Types (R436 to R438) -/

/-- One byte of a UTF-8 text: the continuation bytes due and the range of the next one; none once it is ill formed. -/
def utf8Step (st : Option (Nat × Nat × Nat)) (b : Nat) : Option (Nat × Nat × Nat) :=
  match st with
  | none => none
  | some (0, _, _) =>
    if 1 ≤ b ∧ b < 0x80 then some (0, 0, 0)
    else if within 0xC2 0xDF b then some (1, 0x80, 0xBF)
    else if b = 0xE0 then some (2, 0xA0, 0xBF)
    else if b = 0xED then some (2, 0x80, 0x9F)
    else if within 0xE1 0xEF b then some (2, 0x80, 0xBF)
    else if b = 0xF0 then some (3, 0x90, 0xBF)
    else if within 0xF1 0xF3 b then some (3, 0x80, 0xBF)
    else if b = 0xF4 then some (3, 0x80, 0x8F)
    else none
  | some (k + 1, lo, hi) => if within lo hi b then some (k, 0x80, 0xBF) else none

/-- A text is well-formed UTF-8 without a zero byte. -/
def textOk (bs : List Nat) : Bool :=
  match bs.foldl utf8Step (some (0, 0, 0)) with
  | some (0, _, _) => true
  | _ => false

/-- The length of the data fits the type (R437). -/
def Ty.fits (t : Ty) (data : List Nat) : Bool :=
  match t with
  | .text n => decide (data.length ≤ n)
  | t => data.length == t.bytes

/-- The values a type allows (Table 13.2, R438). -/
def Ty.allows (t : Ty) (data : List Nat) : Bool :=
  match t with
  | .bool => decide (ofLe data ≤ 1)
  | .f32 => finiteF32 (ofLe data)
  | .text _ => textOk data
  | _ => true

/-! ### Chapters 2, 12 and 13 -/

/-- 0x0100 to 0x02FF. -/
def rangeCommon (index sub v : Nat) : Bool :=
  match index, sub with
  | 0x0101, 2 => decide (v < 2 ^ 24)
  | 0x0120, 2 => within 1 3 v
  | 0x0140, 1 => v == 0xC3 || v == 0x3C
  | 0x0140, 4 => v == 0x96
  | 0x0200, 1 => decide (v ≤ 1)
  | 0x0201, 1 => within 1 2 v
  | 0x0201, 2 => v == 0x5A
  | 0x0201, 3 => within 2 7 v
  | 0x0223, 1 => v == 0xA5
  | _, _ => true

/-- A conversion ends by 7T/8 (R238). -/
def conversionFits (v : View) : Bool :=
  decide (us 160 + us 500 * 2 ^ field (v (key 0x0B20 1)) 14 12 ≤ sevenEighths (v (key 0x0300 1)))

/-- 0x0300 to 0x03FF; `w` is the view with the write made. -/
def rangeFrame (w : View) (index sub v : Nat) : Bool :=
  match index, sub with
  | 0x0300, 1 => v % 64 == 0 && within 64 524288 v && conversionFits w
  | 0x0301, 1 => decide (v ≤ 3)
  | 0x0301, 2 => within 1 8192 v
  | 0x0301, 3 => within 1 64 v
  | 0x0301, 7 => field v 6 5 == 0
  | 0x0310, _ => rowOk v
  | _, _ => true

/-! ### Chapters 3 to 7 -/

/-- 0x0800 to 0x08FF: a pin of a defined context may not be disabled (R91). -/
def rangePorts (w : View) (index sub v : Nat) : Bool :=
  match index, sub with
  | 0x0800, i => decide (v < 4) && (bitAt v 0 || (List.range 64).all fun n => !ctxDefined w n || !(ctxPins w n).contains (i - 1))
  | 0x0801, 1 => within 30 120 v
  | 0x0801, 4 => within 1000 200000 v
  | 0x0801, 5 => within 1000 200000 v
  | 0x0801, 6 => decide (1 ≤ v)
  | 0x0801, 7 => within 16 112 v
  | _, _ => true

/-- 0x0400 to 0x04FF. -/
def rangeClock (index sub v : Nat) : Bool :=
  match index, sub with
  | 0x0400, 1 => decide (v ≤ 2)
  | 0x0400, 3 => within 20 10000 v
  | 0x0400, 4 => decide (1 ≤ v)
  | 0x0401, 3 => within 4 255 v
  | 0x0401, 4 => decide (1 ≤ v)
  | 0x0402, 2 => v % 64 == 0 && within 8192 524288 v
  | 0x0402, 3 => within 8 65535 v
  | _, _ => true

/-- 0x0A00 to 0x0AFF. A TEMPLATE_CAPTURE of no pairs stops a capture: its ANCHOR and its context are not judged (DESIGN CHOICE,
log 27). -/
def rangeTdc (w : View) (index sub v : Nat) : Bool :=
  match index, sub with
  | 0x0A01, 1 => decide (8 ≤ v) && decide (v ≤ 120)
  | 0x0A01, 2 => decide (v ≤ 4)
  | 0x0A20, 1 => field v 15 9 == 0 &&
      (field v 25 16 == 0 || within 1 (ctxTemplateLen w (field v 31 26) - 1) (field v 8 0))
  | 0x0A30, 1 => field v 12 6 == 0
  | _, _ => true

/-- A port another entry names as a temperature source (R250). -/
def namedSource (w : View) (port : Nat) : Bool := w (key 0x0B08 5) == port || w (key 0x0B20 4) == port

/-- A source names the internal sensor or a port whose TYPE is not 0 (R250). -/
def sourceOk (w : View) (v : Nat) : Bool := v == 4 || (decide (v < 4) && portType w v != 0)

/-- The stop limits of the ports and of the reference stay within 16 ms (R232). -/
def dischargesOk (w : View) : Bool :=
  decide (dischargeUs w (w (key 0x0B08 1)) ≤ 16000) &&
    (List.range 4).all fun i => decide (dischargeUs w (w (key 0x0B03 (i + 1))) ≤ 16000)

/-- 0x0B00 to 0x0BFF. -/
def rangeSensors (w : View) (index sub v : Nat) : Bool :=
  match index, sub with
  | 0x0B00, i => field v 15 11 == 0 && field v 7 6 == 0 && field v 3 2 == 0 && decide (field v 10 8 ≤ 6) &&
      decide (field v 5 4 ≠ 3) && decide (field v 1 0 ≠ 3) &&
      (field v 5 4 == 0 || (List.range 4).all fun j => j + 1 == i || field (w (key 0x0B00 (j + 1))) 5 4 != field v 5 4) &&
      (field v 1 0 != 0 || !namedSource w (i - 1))
  | 0x0B02, i => decide (v < w (key 0x0B03 i))
  | 0x0B03, i => decide (w (key 0x0B02 i) < v) && dischargesOk w
  | 0x0B08, 1 => dischargesOk w
  | 0x0B08, 2 => within 10000 100000 v && dischargesOk w
  | 0x0B08, 3 => within 10000 200000 v
  | 0x0B08, 5 => sourceOk w v
  | 0x0B20, 1 => bitAt v 7 == false && field v 3 0 == 0 && decide (field v 11 8 ≤ 8) && conversionFits w
  | 0x0B20, 4 => sourceOk w v
  | 0x0B40, 2 => decide (1 ≤ v) && 60 % v == 0
  | _, _ => true

/-! ### Chapters 8 to 11 -/

/-- 0x0C00 to 0x0DFF. -/
def rangeFlow (w : View) (index sub v : Nat) : Bool :=
  match index, sub with
  | 0x0C00, 1 => within 1 32 v
  | 0x0C00, 2 => within 1000 4000000 v
  | 0x0C01, _ => field v 9 6 == 0
  | 0x0C04, 3 => within 1 32 v
  | 0x0C07, 1 => decide (v ≤ 16) && reynoldsOk w
  | 0x0C08, _ => reynoldsOk w
  | 0x0C09, _ => reynoldsOk w
  | 0x0C0A, 11 => within 1 255 v
  | 0x0C0B, 1 => decide (v ≤ 1)
  | 0x0C0B, 2 => decide (v ≤ 15)
  | 0x0C0B, 3 => within 1 255 v
  | 0x0C0C, 1 => within 1 255 v
  | 0x0C12, 2 => within 1 255 v
  | i, _ =>
    if 0x0C20 ≤ i ∧ i ≤ 0x0C2F then setAlone w (i - 0x0C20)
    else if 0x0D00 ≤ i ∧ i ≤ 0x0D0F then mediumOk w (i - 0x0D00)
    else true

/-- 0x1000 to 0x11FF. -/
def rangeQuantity (index sub v : Nat) : Bool :=
  match index, sub with
  | 0x1001, 1 => decide (v ≤ 7)
  | 0x1001, 2 => decide (v ≤ 3)
  | 0x1003, 1 => decide (1 ≤ v)
  | 0x1003, 2 => decide (1 ≤ v)
  | 0x1007, 4 => decide (v ≤ 16)
  | 0x1007, 5 => v == 0xA5
  | 0x1100, _ => field v 28 21 == 0 && field v 15 10 == 0 && decide (field v 20 16 ≤ 15) && decide (field v 20 16 ≠ 12) &&
      within 1 1000 (field v 9 0) && decide (field v 31 30 ≠ 3)
  | 0x1101, _ => within 1 (2 ^ 63) v
  | 0x1110, 1 => field v 14 12 == 0 && field v 7 5 == 0 && decide (field v 11 8 ≤ 12) && decide (field v 4 0 ≤ 15)
  | 0x1110, 2 => within 1 4000000000 v
  | _, _ => true

/-- 0x0500 to 0x05FF, CAL_SET apart; DST_COMMAND is judged by the state. -/
def State.rangeCalendar (s : State) (w : View) (index sub v : Nat) : Bool :=
  match index, sub with
  | 0x0501, 1 => s.dstCommandOk v
  | 0x0501, 2 => decide (v ≤ 1)
  | 0x0501, 3 => ruleOk v && field v 20 17 != field (w (key 0x0501 4)) 20 17
  | 0x0501, 4 => ruleOk v && field v 20 17 != field (w (key 0x0501 3)) 20 17
  | 0x0502, 4 => decide (v ≤ 1)
  | 0x0505, _ => field v 6 5 == 0 && field v 2 0 != 0
  | _, _ => true

/-- The calendar an activation instant would activate is valid (R368); 0 cancels without a check. -/
def State.passiveFault (s : State) : Nat := calendarFault s.get (calBase s.bill.st.bank false)

/-- 0x1200 to 0x14FF. -/
def State.rangeBilling (s : State) (index sub v : Nat) : Bool :=
  match index, sub with
  | 0x1200, 2 => v == 0 || s.passiveFault == 0
  | 0x1200, 5 => decide (v ≤ 300)
  | 0x1250, _ => seasonOk v
  | 0x1251, _ => field v 31 28 == 0
  | 0x1270, _ => specialRange v
  | 0x1300, 1 => demandOk v
  | 0x1301, 1 => scheduleOk v
  | 0x1301, 2 => v == 1
  | 0x1400, 1 => decide (v ≤ 3)
  | 0x1400, 2 => tariffed.contains v
  | 0x1400, 3 => decide (1 ≤ v)
  | 0x1400, 4 => decide (v < 2 ^ 63)
  | 0x1400, 5 => decide (v < 2 ^ 63)
  | 0x1402, 1 => s.topupOk (v % 2 ^ 32) (signed 64 (v / 2 ^ 32))
  | 0x1410, 1 => field v 28 24 == 0 && field v 3 0 == 0 && decide (field v 7 4 ≤ 3) && decide (1 ≤ field v 23 16)
  | 0x1410, 4 => within 100 10000 v
  | 0x1410, 5 => within 1 4 v
  | i, _ => if 0x1260 ≤ i ∧ i ≤ 0x126F then pointOk v else true

/-! ### Chapters 14 to 18 -/

/-- An item of PD_IN_MAP may stand (R477, Table 14.7): unused, or a read-only number of 0x0100 to 0x1CFF. -/
def pdItemOk (v : Nat) : Bool :=
  field v 3 0 == 0 && decide (field v 7 4 ≤ 12) &&
    (field v 7 4 == 0 || (within 0x0100 0x1CFF (field v 31 16) &&
      match rowOf (key (field v 31 16) (field v 15 8)) with
      | some r => !r.rw && (match r.ty with
        | .u _ => true
        | .i _ => true
        | .f32 => true
        | _ => false)
      | none => false))

/-- The octets of all items of PD_IN_MAP. -/
def pdLength (w : View) : Nat := ((List.range 8).map fun i => field (w (key 0x1804 (i + 1))) 7 4).sum

/-- An item of IOL_DS_LIST may stand (R486). -/
def dsItemOk (v : Nat) : Bool :=
  v == 0 || (field v 7 0 == 0 &&
    match rowOf (key (field v 31 16) (field v 15 8)) with
    | some r => r.rw && !r.legal && decide (r.ty.bytes ≤ 232)
    | none => false)

/-- Eight decimal digits (MBUS_ID). -/
def bcdOk (v : Nat) : Bool := (List.range 8).all fun i => decide (v / 16 ^ i % 16 ≤ 9)

/-- 0x1800 to 0x18FF, HELLO_EXCHANGE apart. -/
def rangeLinks (w : View) (index sub v : Nat) : Bool :=
  match index, sub with
  | 0x1802, 1 => !bitAt v 0 && (!bitAt v 15 || field v 14 13 != 0) && decide (field v 12 7 ≤ 32) && decide (field v 6 1 ≤ 32)
  | 0x1803, 17 => decide (v ≤ 1)
  | 0x1803, _ => dsItemOk v
  | 0x1804, _ => pdItemOk v && decide (pdLength w ≤ field (w (key 0x1802 1)) 12 7)
  | 0x1808, 1 => decide (v ≤ 250)
  | 0x1808, 2 => bcdOk v
  | 0x1808, 6 => decide (v ≤ 5)
  | 0x1808, 7 => field v 14 13 == 0
  | 0x1808, 8 => decide (10 ≤ v)
  | 0x1810, 1 => field v 15 7 == 0
  | _, _ => true

/-- 0x1900 to 0x19FF. -/
def rangePowerline (index sub v : Nat) : Bool :=
  match index, sub with
  | 0x1900, 1 => field v 1 0 == 0 && decide (field v 4 3 ≠ 3)
  | 0x1900, 2 => decide (v ≤ 600)
  | 0x1900, 3 => within 100 800 v
  | 0x1900, 4 => decide (v ≤ 0xFFFE)
  | 0x1900, 5 => within 1 1000 v
  | 0x1900, 6 => within 1 1000 v
  | 0x1900, 7 => decide (v ≤ 7)
  | 0x1900, 8 => decide (10 ≤ v)
  | 0x1920, _ => decide (v ≤ 0xFFFE)
  | 0x1921, 1 => decide (v % 256 ≤ 23) && v / 256 % 256 == 0 && within 1 5 (v / 65536 % 256)
  | _, _ => true

/-- A waveform (R533): LENGTH to 32, no reserved code, nothing driven at or beyond LENGTH. -/
def waveformOk (v : Nat) : Bool :=
  decide (v % 256 ≤ 32) && (List.range 32).all fun j =>
    let c := v / 2 ^ (8 + 2 * j) % 4
    decide (c ≠ 3) && (decide (j < v % 256) || c == 0)

/-- 0x1A00 to 0x1AFF. -/
def State.rangeDisplay (s : State) (w : View) (index sub v : Nat) : Bool :=
  match index, sub with
  | 0x1A00, 1 => field v 15 8 == 0 && decide (field v 5 4 ≠ 3) && decide (field v 1 0 ≠ 3)
  | 0x1A00, 2 => within 26 50 v
  | 0x1A01, i => (List.range 16).all fun r => r + 1 == i || (v &&& w (key 0x1A01 (r + 1))) == 0
  | 0x1A02, 2 => !s.updateEmpty v
  | 0x1A03, 8 => decide (v ≤ 5000)
  | 0x1A03, _ => (List.range 6).all fun i => decide (signed 32 (w (key 0x1A03 (i + 1))) < signed 32 (w (key 0x1A03 (i + 2))))
  | 0x1A30, 1 => bitAt (w (key 0x1A00 1)) 2 || (leBytes 96 v).all fun b => decide (b < 16)
  | 0x1A40, 2 => (List.range 14).all fun i => field (v / 65536 ^ i % 65536) 15 11 == 0
  | i, _ => if 0x1A10 ≤ i ∧ i ≤ 0x1A17 then waveformOk v else true

/-- The event codes of Table 18.3 a block lists, with those marked A. -/
def perfEvents (b : Nat) : List Nat × List Nat :=
  match b with
  | 0 => ([0x01, 0x10, 0x11, 0x12, 0x13, 0x14, 0x15, 0x16, 0x17], [])
  | 1 => ([0x01, 0x20, 0x21, 0x22, 0x23, 0x24, 0x25, 0x26], [])
  | 2 => ([0x01, 0x30, 0x31, 0x32, 0x33, 0x34, 0x35, 0x36, 0x37], [])
  | 3 => ([0x01, 0x30, 0x31, 0x32, 0x33, 0x34, 0x40, 0x41], [])
  | 4 => ([0x01, 0x30, 0x31, 0x32, 0x33, 0x34, 0x56], [0x50, 0x51, 0x52, 0x53, 0x54, 0x55])
  | _ => ([0x01, 0x60, 0x61, 0x62, 0x63, 0x64, 0x66], [0x65])

/-- PERF_SEL is in range (R588); EVENT 0 counts nothing. -/
def perfSelOk (b i v : Nat) : Bool :=
  let e := field v 7 0
  field v 29 27 == 0 && field v 12 8 == 0 && (e == 0 || (perfEvents b).1.contains e || (perfEvents b).2.contains e) &&
    !(bitAt v 30 && i == 0) && (field v 15 14 == 0 || (perfEvents b).2.contains e)

/-- 0x1500 to 0x15FF and 0x1C00 to 0x1DFF, keys and FW_BLOCK apart. -/
def State.rangeCore (s : State) (index sub v : Nat) : Bool :=
  match index, sub with
  | 0x1510, _ => field v 7 6 == 0 && (!forcedLog (sub - 1) || bitAt v 2)
  | 0x1C00, 1 => decide (v ≤ 16)
  | 0x1D00, 4 => within 1 2 v
  | 0x1D00, 6 => decide (s.core.fwMin < v)
  | 0x1D01, 1 => within 10 10000 v
  | 0x1D01, 2 => within 10 60000 v
  | 0x1D01, 4 => field v 15 7 == 0
  | i, sub => if 0x1C10 ≤ i ∧ i ≤ 0x1C15 then perfSelOk (i - 0x1C10) (sub - 1) v else true

/-- A FW_BLOCK may be written (R573): its offset is a multiple of 256 and the block ends below the device area. -/
def fwBlockOk (v : Nat) : Bool := v % 2 ^ 32 % 256 == 0 && decide (v % 2 ^ 32 + 256 ≤ 0x5E000)

/-! ### Step 9 -/

/-- A value is within the range its chapter states, and the combination it makes is allowed; path contexts apart. -/
def State.rangeOk (s : State) (index sub v : Nat) : Bool :=
  let w : View := View.with s.get (s.storedKey index sub) v
  match index / 256 with
  | 0x01 => rangeCommon index sub v
  | 0x02 => rangeCommon index sub v
  | 0x03 => rangeFrame w index sub v
  | 0x04 => rangeClock index sub v
  | 0x05 => s.rangeCalendar w index sub v
  | 0x08 => rangePorts w index sub v
  | 0x0A => rangeTdc w index sub v
  | 0x0B => rangeSensors w index sub v
  | 0x0C => rangeFlow w index sub v
  | 0x0D => rangeFlow w index sub v
  | 0x10 => rangeQuantity index sub v
  | 0x11 => rangeQuantity index sub v
  | 0x12 => s.rangeBilling index sub v
  | 0x13 => s.rangeBilling index sub v
  | 0x14 => s.rangeBilling index sub v
  | 0x15 => s.rangeCore index sub v
  | 0x18 => rangeLinks w index sub v
  | 0x19 => rangePowerline index sub v
  | 0x1A => s.rangeDisplay w index sub v
  | 0x1C => s.rangeCore index sub v
  | _ => if index = 0x1D00 ∧ sub = 5 then fwBlockOk v else s.rangeCore index sub v

end Sys2Proof.Machine
end

