-- ==== Sys2Proof/Machine/Access.lean ====
section
/-! DEFINITION. The object dictionary's requests: the checks of R457 in their order, what an accepted write does, HELLO
(R454, R455), the operating modes (R459 to R461), staged contexts (R159 to R163), and the serving of requests one at a time
(R451, R452). -/

namespace Sys2Proof.Machine

open Sys2Proof

/-! ### HELLO (R454, R455) -/

/-- GEN_MIN and GEN_MAX of a well-formed offer of five words (Table 13.8). -/
def helloOffer (ws : List Nat) : Option (Nat × Nat) :=
  let w := natAt ws 0
  if ws.length = 5 ∧ field w 23 8 = 0 ∧ field w 7 0 = 1 ∧ (ws.drop 1).all fun x => x == 0 then
    some (field w 31 28, field w 27 24)
  else none

/-- Whether an offer is accepted, and the generation it gives; on the core queues GEN_MAX must be at least 3. -/
def helloAccepts (onCore : Bool) (lo hi : Nat) : Bool × Nat :=
  let g := min hi 3
  (decide (lo ≤ hi) && decide (max lo 1 ≤ g) && (!onCore || decide (3 ≤ hi)), g)

/-- The payload of an answer: KIND 2 accept, 3 refuse. -/
def State.helloWords (s : State) (accepted : Bool) (gen : Nat) : List Nat :=
  [2 ^ 28 + 3 * 2 ^ 24 + gen * 256 + (if accepted then 2 else 3), s.at_ 0x0101 1 * 65536, s.at_ 0x0101 2,
   s.frame.number % 2 ^ 32, s.frame.number / 2 ^ 32 % 65536]

/-- The generation of a way's session. -/
def State.sessionGen (s : State) (via : Via) : Nat :=
  match via with
  | .window => 3
  | .core => 3
  | .powerline n => (s.pl.sessions.getD n PlSession.free).gen
  | v => max 1 (s.q.gen v.port)

/-- A session takes a generation. -/
def State.setGen (via : Via) (g : Nat) (s : State) : State :=
  match via with
  | .window => s
  | .core => s
  | .powerline n => { s with pl := s.pl.modSession n fun x => { x with gen := g } }
  | v => { s with q := { s.q with gens := setAt s.q.gens v.port g } }

/-- An offer is judged (R455): the state with the session's generation, and the answer's words. -/
def State.hello (via : Via) (lo hi : Nat) (s : State) : State × List Nat :=
  let r := helloAccepts (decide (via = Via.core)) lo hi
  let old := s.sessionGen via
  if r.1 then
    (((s.setGen via r.2).raise { ev := 47, code := r.2, arg := old, src := portSrc via.port, cls := 2 }), s.helloWords true r.2)
  else (s, s.helloWords false old)

/-- The answer to the last offer of a link session is kept (R465). -/
def State.keepHello (via : Via) (bytes : List Nat) (s : State) : State :=
  match via with
  | .isdu => { s with iol := { s.iol with hello := bytes } }
  | .mbus => { s with mbus := { s.mbus with hello := bytes } }
  | .powerline n => { s with pl := s.pl.modSession n fun x => { x with hello := bytes } }
  | _ => s

/-- An accepted HELLO_EXCHANGE write (R465). -/
def State.helloExchange (via : Via) (data : List Nat) (s : State) : State :=
  match helloOffer (wordsOf 5 data) with
  | none => s
  | some (lo, hi) =>
    let r := s.hello via lo hi
    r.1.keepHello via (bytesOfWords r.2)

/-! ### Requests and their envelopes -/

/-- What a request asks of the dictionary, its envelope opened: the entry, the value, the role it acts with (R440), and
the role of the verified envelope that carries it. -/
structure Ask where
  via : Via
  gen : Nat
  index : Nat
  sub : Nat
  data : List Nat
  role : Role
  env : Option Role
  deriving DecidableEq, Repr

/-- The value of a write. -/
def Ask.value (a : Ask) : Nat := ofLe a.data

/-- A customer entry (Table 13.1). -/
def customerIndex (index : Nat) : Bool := within 0x3000 0x3FFF index

/-- A write to AUTH_ENVELOPE. -/
def Request.toEnvelope (r : Request) : Bool := r.op == 2 && r.index == 0x0150 && r.sub == 1

/-- A request that carries an envelope (R449). -/
def Request.carries (r : Request) : Bool := r.op == 3 || r.toEnvelope

/-- The envelope of a request, where it is well formed. -/
def Request.envelope (r : Request) : Option Envelope := if r.carries && !r.bad then Envelope.of r.data else none

/-- The entry a request is about: that of its envelope for a write to AUTH_ENVELOPE. -/
def Request.target (r : Request) : Nat × Nat :=
  match r.envelope with
  | some e => if r.toEnvelope then (e.index, e.sub) else (r.index, r.sub)
  | none => (r.index, r.sub)

/-- Step 2 of R457 (R435, R456). -/
def missingAbort (gen index sub : Nat) (write : Bool) : Nat :=
  let newer := if write then abortGeneration else abortNoEntry
  if customerIndex index then abortOk
  else if !indexExists index then abortNoEntry
  else if highestSub index gen = 0 then newer
  else if sub = 0 then abortOk
  else match rowOf (key index sub) with
    | none => abortNoSubentry
    | some row => if gen < row.gen then newer else abortOk

/-- The reads TAPER serves (R428). -/
def taperReads (index sub : Nat) : Bool :=
  within 0x0100 0x02FF index || within 0x1000 0x10FF index || index == 0x1240 || index == 0x1241 || index == 0x1310 ||
    (index == 0x1801 && decide (sub ≤ 1))

/-- Step 3 of R457: a request that TAPER serves (R428). -/
def Request.taperServes (r : Request) : Bool :=
  let t := r.target
  if r.op = 1 then taperReads t.1 t.2
  else (r.carries && t == (0x0201, 2)) || (r.op == 2 && (r.index, r.sub) == (0x1801, 1))

/-- Step 4 of R457 (R445, R449, R450). An envelope inside an envelope is malformed (DEDUCED, log 63). -/
def Request.illFormed (r : Request) : Bool :=
  !(within 1 3 r.op) || r.bad ||
    (r.carries && match r.envelope with
      | none => true
      | some e => (r.op == 3 && (e.index != r.index || e.sub != r.sub)) || (e.index == 0x0150 && e.sub == 1))

/-- Steps 1 to 4 of R457. -/
def State.formAbort (s : State) (r : Request) : Nat :=
  let t := r.target
  let missing := missingAbort r.gen t.1 t.2 (r.op != 1)
  firstAbort [(decide (r.gen < r.hdr), abortGeneration), (missing != abortOk, missing),
    (decide (s.mode = Mode.taper) && !r.taperServes, abortState), (r.illFormed, abortType)]

/-- Step 5 of R457: the state after the envelope was verified, the abort code, and what the request then asks. -/
def State.authenticate (r : Request) (s : State) : State × Nat × Ask :=
  let base := if r.via.port = 0 then Role.operator else Role.pub
  match r.envelope with
  | none => (s, abortOk, { via := r.via, gen := r.gen, index := r.index, sub := r.sub, data := r.data, role := base, env := none })
  | some e =>
    let v := s.verifyEnvelope e r.via.port
    (v.1, v.2, { via := r.via, gen := r.gen, index := e.index, sub := e.sub, data := e.value, role := Role.ofCode e.role,
                 env := some (Role.ofCode e.role) })

/-! ### Steps 6 to 8 -/

/-- A key entry. -/
def keyEntry (index sub : Nat) : Bool := index == 0x1520 && decide (sub ≤ 2)

/-- Step 6 of R457 (R434, R439, R576). -/
def accessBad (row : Row) (a : Ask) : Bool :=
  a.sub == 0 || !row.rw || decide (a.role.rank < row.role.rank) || (keyEntry a.index a.sub && a.env.isNone)

/-- A write that R444 counts: to an L entry under the seal, or a SEAL_COMMAND. -/
def State.counted (s : State) (row : Row) (a : Ask) : Bool :=
  (s.acc.sealed && row.legal) || (a.index == 0x0140 && a.sub == 1)

/-- Step 7 of R457 (R442, R444, R459, R317). -/
def State.sealBad (s : State) (row : Row) (a : Ask) : Bool :=
  (s.acc.sealed && row.legal && a.env != some Role.metrology) ||
  (s.acc.sealed && a.index == 0x0120 && a.sub == 2 && (a.data == [1] || a.data == [3]) &&
    decide (a.role.rank < Role.metrology.rank)) ||
  (s.acc.sealed && a.index == 0x1007 && a.sub == 5 && !s.qty.lost) ||
  (s.counted row a && s.acc.changes == 2 ^ 32 - 1)

/-! ### Path contexts (R159 to R163) -/

/-- STAGE of a context. -/
def State.staging (s : State) (n : Nat) : Bool := bitAt (s.get (ck n 0x01)) 2

/-- A mode in which the plan runs is in force or pending. -/
def State.planned (s : State) : Bool :=
  s.mode == .measure || s.mode == .verify || s.modePending == some .measure || s.modePending == some .verify

/-- The writes of a context that a write of CTX_CONTROL without STAGE applies: those staged, and its STYLE and DEFINED. -/
def State.stagedWrites (s : State) (n control : Nat) : List (Nat × Nat) := (s.ac.ctxAt n).staged ++ [(ck n 0x01, control % 4)]

/-- The settings a write to a context would make: none where the write is only held as staged (R161). -/
def State.ctxView (s : State) (n sub v : Nat) : Option View :=
  if sub = 0x1F ∨ sub = 0x22 then none
  else if sub = 0x01 then
    if bitAt v 2 then none else some (View.withAll s.get (s.stagedWrites n v))
  else if s.staging n then none
  else some (View.with s.get (ck n sub) v)

/-- Step 9 for a context (R136, R154, R160, R55 under R62). -/
def State.ctxRangeBad (s : State) (n sub v : Nat) : Bool :=
  !ctxFieldOk sub v ||
    match s.ctxView n sub v with
    | none => false
    | some w => !ctxPasses w n || (s.planned && (firstFault w).isSome)

/-- Step 10 for a context (R157, R159, R461). -/
def State.ctxStateBad (s : State) (n sub v : Nat) : Bool :=
  if sub = 0x01 then
    bitAt v 0 != bitAt (s.get (ck n 0x01)) 0 &&
      (decide (s.mode ≠ .config) || (s.modePending.isSome && decide (s.modePending ≠ some .config)))
  else if sub = 0x1F then v != 0 && (rowOfCtx s.get n).isNone
  else false

/-- The declared costs of a context (Table 2.4). -/
def ctxCosts (v : View) (n : Nat) : Nat × Nat × List (Nat × Nat) := (costE v n, costCor v n, ctxChains v n)

/-- Step 11 for a context: the ledger recompiles where a declared cost changes (R62). The verdict that refuses, if any, and
the ledger's report. -/
def State.ctxLedger (s : State) (n sub v : Nat) : Option (Ledger × List Raised) :=
  match s.ctxView n sub v with
  | none => none
  | some w =>
    if !s.planned || ctxCosts w n == ctxCosts s.get n then none
    else some (s.ledger.recompiled w, (verdict w).event)

/-- A write of a context takes its value, at once in CONFIG, else at the next boundary that opens an even frame (R162). -/
def State.ctxPut (p : Nat × Nat) (s : State) : State :=
  if s.mode = .config then { s with set := s.set.store p.1 p.2 }.force p.1 p.2
  else { s with set := s.set.edit p.1 p.2 .evenBoundary }

/-- The staged writes of a context are discarded (R161). -/
def State.discardStaged (n : Nat) (s : State) : State := { s with ac := s.ac.modCtx n fun c => { c with staged := [] } }

/-- Hold a write as staged (R161). -/
def State.stage (n : Nat) (p : Nat × Nat) (s : State) : State :=
  { s with ac := s.ac.modCtx n fun c => { c with staged := c.staged ++ [p] } }

/-- CTX_STAGE_SET and writes that keep STAGE (R161). -/
def State.stageOn (n v : Nat) (s : State) : State :=
  let s1 := { s with set := s.set.store (ck n 0x01) (s.get (ck n 0x01) % 4 + 4) }
  if s.staging n then s.stage n (ck n 0x01, v % 4)
  else if v % 4 ≠ s.get (ck n 0x01) % 4 then s1.stage n (ck n 0x01, v % 4) else s1

/-- ZERO_CAPTURE (R157, R158). -/
def State.zeroCapture (n v : Nat) (s : State) : State :=
  { s with
    set := s.set.write (ck n 0x1F) v
    ac := s.ac.modCtx n fun c =>
      if v = 0 then { c with zeroStatus := 0 }
      else { c with zeroStatus := 1, zeroPairs := v, zeroSeen := 0, zeroGood := 0, zeroSum := 0, zeroLive := false } }

/-- A write that changes the template of a context (R154). -/
def templateKey (p : Nat × Nat) : Bool := keySub p.1 == 0x0F || keySub p.1 == 0x10

/-- The template of a context is stored with the length and the samples of a view, at 8 bits a sample (R154). -/
def State.putTemplate (n : Nat) (w : View) (s : State) : State :=
  s.ctxPut (ck n 0x10, storedTemplate (w (ck n 0x10)) (w (ck n 0x0F)))

/-- The writes of a context apply together (R161): each is put, ZERO_CAPTURE starts its measurement, and a template that they
change is stored with the length and the samples that stand after all of them. -/
def State.putAll (n : Nat) (ws : List (Nat × Nat)) (s : State) : State :=
  let put := fun (acc : State) (p : Nat × Nat) =>
    if keySub p.1 = 0x1F then acc.zeroCapture n p.2 else if keySub p.1 = 0x10 then acc else acc.ctxPut p
  let s1 := ws.foldl put s
  if ws.any templateKey then s1.putTemplate n (View.withAll s.get ws) else s1

/-- CTX_STAGE_APPLY (R161): the staged writes apply together; under the seal each legally relevant one counts (R444). -/
def State.stageApply (n v port : Nat) (s : State) : State :=
  let held := (s.ac.ctxAt n).staged
  let s1 := (s.discardStaged n).putAll n (s.stagedWrites n v)
  if s.acc.sealed then
    (held.filter fun p => keySub p.1 != 0x22).foldl (fun acc p => acc.countChange (keyIndex p.1) (keySub p.1) port) s1
  else s1

/-- An accepted write to a context; any zeroes its mismatch estimate (R122). -/
def State.ctxWrite (n sub v port : Nat) (s0 : State) : State :=
  let s := { s0 with ac := s0.ac.modCtx n fun c => { c with m := 0 } }
  if sub = 0x01 then
    if bitAt v 2 then s.stageOn n v
    else if s.staging n then s.stageApply n v port
    else s.ctxPut (ck n 0x01, v % 4)
  else if s.staging n then s.stage n (ck n sub, v)
  else s.putAll n [(ck n sub, v)]

/-! ### Template capture (R188) -/

/-- Step 10 for TEMPLATE_CAPTURE. -/
def State.templateBad (s : State) (v : Nat) : Bool :=
  field v 25 16 != 0 && (s.ac.capture.status == 1 || (rowOfCtx s.get (field v 31 26)).isNone)

/-- TEMPLATE_CAPTURE starts a capture, or stops the running one. -/
def State.templateCapture (v : Nat) (s : State) : State :=
  let c := s.ac.capture
  let c' : Capture :=
    if field v 25 16 = 0 then { c with status := 0 }
    else { c with
      status := 1, ctx := field v 31 26, pairs := field v 25 16, anchor := field v 8 0, used := 0, seen := 0,
      live := false, sum := [], half := [], goods := 0 }
  { s with set := s.set.write (key 0x0A20 1) v, ac := { s.ac with capture := c' } }

/-! ### Operating modes (R459 to R461) -/

/-- The mode a MODE_COMMAND names. -/
def commandMode (v : Nat) : Mode := if v = 1 then .config else if v = 2 then .measure else .verify

/-- MODE_COMMAND at steps 9 to 11: the checks of R460 for MEASURE and VERIFY, and the pending change (R461). -/
def State.requestMode (v : Nat) (s : State) : State × Nat :=
  let m := commandMode v
  if m = s.mode then (s, abortOk)
  else if m = .config then ({ s with modePending := some m }, abortOk)
  else
    let s1 : State := { s with ledger := s.ledger.compiled s.get }
    if !(verdict s.get).ok then (s1.raiseAll (verdict s.get).event, abortBusyFrame)
    else
      let f := flowFault s.get
      let s2 : State := { s1 with flow := { s1.flow with fault := f } }
      if f ≠ 0 then (s2, abortRange)
      else
        let q := quantityFault s.get
        let s3 : State := { s2 with qty := { s2.qty with fault := q } }
        if q ≠ 0 then (s3, abortRange) else ({ s3 with modePending := some m }, abortOk)

/-! ### Step 10 -/

/-- The place of a mode among the mode bits of a row. -/
def Mode.bit : Mode → Nat
  | .config => 0
  | .measure => 1
  | .verify => 2
  | .taper => 3

/-- The modes in which an entry may be written: QTY_CLEAR has those of R317 under the seal. -/
def State.rowModes (s : State) (row : Row) : Nat :=
  if row.index = 0x1007 ∧ row.sub = 5 ∧ s.acc.sealed then 7 else row.modes

/-- A write is not legal in the present mode, or not in the mode to come (R461). TAPER is judged at step 3. -/
def State.modeBad (s : State) (row : Row) : Bool :=
  (decide (s.mode ≠ .taper) && !bitAt (s.rowModes row) s.mode.bit) ||
    match s.modePending with
    | some m => !bitAt (s.rowModes row) m.bit
    | none => false

/-- An e-paper update is running, queued or waiting. -/
def State.paperBusy (s : State) : Bool := s.dispMode == 1 && s.disp.busy

/-- A write that is not legal in the present state (step 10). -/
def State.stateBad (s : State) (index sub v : Nat) : Bool :=
  match index, sub with
  | 0x0120, 2 => s.modePending.isSome
  | 0x0140, 1 => if v = 0xC3 then s.acc.sealed || s.acc.bootHash.isNone else !s.acc.sealed
  | 0x0201, 1 => v == 2 && (decide (s.mode ≠ .config) || s.modePending.isSome || s.paperBusy)
  | 0x0201, 2 => decide (s.mode ≠ .taper)
  | 0x0A20, 1 => s.templateBad v
  | 0x1301, 2 => s.cal.invalid || s.cal.calend
  | 0x1410, 5 => s.actRefused v
  | 0x1530, 1 => s.acc.bootHash.isSome
  | 0x1921, 1 => s.pl.request.isSome
  | 0x1A00, 1 => s.paperBusy && field v 1 0 != s.dispMode
  | 0x1A01, _ => s.disp.busy
  | 0x1A02, 2 => s.pwr.command == 2
  | 0x1D00, 4 => v == 1 && s.core.state != 3
  | 0x1D00, 5 => s.core.state != 3
  | 0x1D02, 1 => s.core.mailUnread
  | i, sub =>
    if 0x0900 ≤ i ∧ i ≤ 0x093F then s.ctxStateBad (i - 0x0900) sub v
    else decide (0x1250 ≤ i) && decide (i ≤ 0x1270) && s.bill.st.activateAt != 0

/-! ### Accepted writes -/

/-- Entries whose new value applies from the next boundary (R35, R44, R78, R291, R325, R331, R396, R598, Table 18.6). -/
def atBoundary (index : Nat) : Bool :=
  index == 0x0300 || index == 0x0301 || within 0x0C00 0x11FF index || index == 0x1200 || within 0x1300 0x14FF index ||
    index == 0x1510 || within 0x1C01 0x1C15 index

/-- A change of the flow configuration empties the ring of R262. -/
def State.flowChanged (row : Row) (k : Key) (v : Nat) (s : State) : State :=
  if 0x0C00 ≤ row.index ∧ row.index < 0x0D00 ∧ row.modes = 1 ∧ s.get k ≠ v then { s with flow := { s.flow with ring := [] } }
  else s

/-- A value is stored and applies when its chapter says. -/
def State.putValue (row : Row) (a : Ask) (s : State) : State :=
  let k := s.storedKey a.index a.sub
  let s1 := s.flowChanged row k a.value
  if atBoundary a.index then { s1 with set := s1.set.edit k a.value .boundary }
  else if a.index / 256 = 0x19 ∧ s.pl.tx.isSome then { s1 with set := s1.set.edit k a.value .txEnd }
  else if a.index = 0x1900 then State.plRest { s1 with set := s1.set.write k a.value }
  else if a.index = 0x1808 ∧ a.sub = 6 then { s1 with set := s1.set.write k a.value, mbus := { s1.mbus with baud := a.value } }
  else { s1 with set := s1.set.write k a.value }

/-- The accepted write of PASSIVE_ACTIVATE_AT (R368, R370). -/
def State.setActivation (v : Nat) (s : State) : State :=
  { s with bill := { s.bill with
      st := { s.bill.st with activateAt := v }
      calFault := if v = 0 then s.bill.calFault else 0
      activateNow := v != 0 && decide (v ≤ s.cal.seconds)
      heldAt := some v } }

/-- The values of the segments of a waiting request are posted to the poll payload (R522). -/
def State.putMasterRequest (data : List Nat) (s : State) : State :=
  { s with pl := { s.pl with
      request := some (natAt data 0, data.drop 2)
      response := natAt data 0 :: 0 :: List.replicate 24 0 } }

/-- An accepted write of an entry that is a command, or that the engines hold. -/
def State.perform (row : Row) (a : Ask) (s : State) : State :=
  let v := a.value
  match a.index, a.sub with
  | 0x0140, 1 => s.seal (v == 0xC3)
  | 0x0140, 4 => s.lockFactory
  | 0x0201, 1 => { s with pwr := { s.pwr with command := v } }
  | 0x0201, 2 => { s with pwr := { s.pwr with taperExit := true } }
  | 0x0223, 1 => { s with pwr := { s.pwr with resClear := true } }
  | 0x0500, 2 => s.setTime v
  | 0x0501, 1 => s.dstCommand v
  | 0x050A, 1 => s.tamperClear v
  | 0x0801, 1 => { s with set := s.set.store (key 0x0801 1) v, ac := { s.ac with vsdGood := false } }
  | 0x0A20, 1 => s.templateCapture v
  | 0x1007, 5 => { s with qty := { s.qty with clearing := true } }
  | 0x1200, 2 => s.setActivation v
  | 0x1301, 2 => { s with bill := { s.bill with closeNow := true } }
  | 0x1402, 1 => { s with bill := { s.bill with topups := s.bill.topups ++ [(v % 2 ^ 32, signed 64 (v / 2 ^ 32))] } }
  | 0x1410, 5 => { s with bill := { s.bill with command := v } }
  | 0x1520, sub => (((a.env.map Role.rank).bind fun r => s.unwrapFor r a.data).map fun k => s.installKey sub k).getD s
  | 0x1530, 1 => { s with acc := { s.acc with bootHash := some a.data } }
  | 0x1801, 1 => s.helloExchange a.via a.data
  | 0x1921, 1 => (s.putMasterRequest a.data).putValue row a
  | 0x1A02, 2 => s.dispUpdate v
  | 0x1C30, 1 => { s with perf := { s.perf with clear := s.perf.clear ||| v } }
  | 0x1D00, 4 => if v = 1 then { s with core := { s.core with state := 1 } } else s.resetCore 3
  | 0x1D00, 5 => { s with mem := s.mem.writeBytes (0x10000000 + v % 2 ^ 32) (a.data.drop 4) }
  | 0x1D00, 6 => { s with core := { s.core with fwMin := v } }
  | 0x1D02, 1 => { s with set := s.set.write (key 0x1D02 1) v, core := { s.core with mailUnread := true, l17 := true } }.coreWake
  | i, sub =>
    if 0x0900 ≤ i ∧ i ≤ 0x093F then s.ctxWrite (i - 0x0900) sub v a.via.port
    else s.putValue row a

/-! ### Steps 9 to 11 -/

/-- Step 9: RANGE or DATE_INVALID. -/
def State.valueAbort (s : State) (row : Row) (a : Ask) : Nat :=
  let v := a.value
  if !row.ty.allows a.data then abortRange
  else if a.index = 0x0500 ∧ a.sub = 2 then (if s.calSetOk v then abortOk else abortDateInvalid)
  else if a.index = 0x1801 then (if (helloOffer (wordsOf 5 a.data)).isSome then abortOk else abortRange)
  else if keyEntry a.index a.sub then
    (if ((a.env.map Role.rank).bind fun r => s.unwrapFor r a.data).isSome then abortOk else abortRange)
  else if 0x0900 ≤ a.index ∧ a.index ≤ 0x093F then
    (if s.ctxRangeBad (a.index - 0x0900) a.sub v then abortRange else abortOk)
  else if s.rangeOk a.index a.sub v then abortOk
  else abortRange

/-- What a refusal at step 9 reports (R458): CALENDAR_FAULT of R368, and the staged writes that R161 discards. -/
def State.reportRange (a : Ask) (s : State) : State :=
  if a.index = 0x1200 ∧ a.sub = 2 ∧ a.data.length = 6 then { s with bill := { s.bill with calFault := s.passiveFault } }
  else if 0x0900 ≤ a.index ∧ a.index ≤ 0x093F ∧ a.sub = 1 ∧ bitAt a.value 2 = false ∧ ctxFieldOk 1 a.value then
    s.discardStaged (a.index - 0x0900)
  else s

/-- Step 11 and the effect: MODE_COMMAND runs the checks of R460, a context those of R62; anything else is performed. -/
def State.commitWrite (row : Row) (a : Ask) (s : State) : State × Nat :=
  if a.index = 0x0120 ∧ a.sub = 2 then s.requestMode a.value
  else if 0x0900 ≤ a.index ∧ a.index ≤ 0x093F then
    match s.ctxLedger (a.index - 0x0900) a.sub a.value with
    | none => (s.perform row a, abortOk)
    | some (l, evs) =>
      if evs.isEmpty then ({ s with ledger := l }.perform row a, abortOk)
      else (({ s with ledger := l }.raiseAll evs).reportRange a, abortBusyFrame)
  else (s.perform row a, abortOk)

/-- An item of IOL_DS_LIST names the entry (R486). -/
def State.dsListed (s : State) (index sub : Nat) : Bool :=
  (List.range 16).any fun i => s.on_ 0x1803 (i + 1) == index * 65536 + sub * 256 && index != 0

/-- The upload flag is set when a listed entry changes (R486). -/
def State.markUpload (index sub : Nat) (s : State) : State :=
  if s.dsListed index sub then { s with iol := { s.iol with uploadFlag := true } } else s

/-- Steps 6 to 11 of R457 for a write, and its effect; an accepted write is counted under the seal (R444). -/
def State.write (a : Ask) (s : State) : State × Nat :=
  match rowOf (key a.index a.sub) with
  | none => (s, abortAccess)
  | some row =>
    let early := firstAbort [(accessBad row a, abortAccess), (s.sealBad row a, abortSealed), (!row.ty.fits a.data, abortType)]
    if early ≠ abortOk then (s, early)
    else
      let v := s.valueAbort row a
      if v ≠ abortOk then (s.reportRange a, v)
      else if s.modeBad row || s.stateBad a.index a.sub a.value then (s, abortState)
      else
        let r := s.commitWrite row a
        if r.2 ≠ abortOk then r
        else
          let s1 := if s.counted row a then r.1.countChange a.index a.sub a.via.port else r.1
          (s1.markUpload a.index a.sub, abortOk)

/-! ### Reads -/

/-- The values of all subindices of an index in ascending order, in the order of IO-Link (R481). -/
def State.readAll (s : State) (via : Via) (gen index : Nat) : List Nat :=
  ((List.range (highestSub index gen)).map fun i =>
    match rowOf (key index (i + 1)) with
    | some row => if row.gen ≤ gen then iolOrder index (i + 1) (s.readBytes via gen row index (i + 1)) else []
    | none => []).flatten

/-- The value a read returns (R434, R481). -/
def State.readValue (s : State) (via : Via) (gen index sub : Nat) : List Nat :=
  if sub = 0 then (if via = .isdu then s.readAll via gen index else [highestSub index gen])
  else match rowOf (key index sub) with
    | some row => s.readBytes via gen row index sub
    | none => []

/-- What a read changes (Tables 3.10 and 14.17): VSD_STATUS bit 1 and PD_OUT_STATUS bit 1 clear; an ISDU that reads subindex 0
reads every subindex (R481). -/
def State.afterRead (via : Via) (index sub : Nat) (s : State) : State :=
  let all := decide (via = .isdu) && sub == 0
  if index = 0x0801 ∧ (sub = 2 ∨ all = true) then { s with ac := { s.ac with vsdDroop := false } }
  else if index = 0x1804 ∧ (sub = 9 ∨ all = true) then { s with iol := { s.iol with pdOutNew := false } }
  else s

/-! ### Serving -/

/-- A request is served: answered, or passed to the core for a customer entry (R453, R565, R567). -/
def State.serveNow (r : Request) (s : State) : State :=
  let f := s.formAbort r
  if f ≠ abortOk then s.answer r false f []
  else
    let q := s.authenticate r
    let a := q.2.2
    if q.2.1 ≠ abortOk then q.1.answer r false q.2.1 []
    else if customerIndex a.index then
      if a.via.port = 0 then q.1.answer r false abortAccess []
      else if q.1.core.state ≠ 2 then q.1.answer r false abortState []
      else
        (State.considerCustomer { q.1 with
          acc := { q.1.acc with customer := q.1.acc.customer ++
            [{ r with index := a.index, sub := a.sub, data := a.data, op := if r.op = 1 then 1 else 2,
                      hdr := a.role.rank }] } } a.via.port).count [linkAct 0x64 1]
    else if r.op = 1 then (q.1.afterRead a.via a.index a.sub).answer r false abortOk (q.1.readValue a.via a.gen a.index a.sub)
    else
      let w := q.1.write a
      w.1.answer r false w.2 []

/-- A customer request of the port waits or is held, so later requests of the port wait behind it (R566). -/
def State.portWaits (s : State) (port : Nat) : Bool :=
  s.acc.customer.any (fun r => r.via.port == port) || (s.core.held.map fun r => r.via.port == port).getD false

/-- A request waits: in the commit slot (R452), or behind a customer request of its port. -/
def State.mustWait (s : State) (r : Request) : Bool := s.frame.committing || s.portWaits r.via.port

/-- A request arrives: it is served, or it waits (R451, R452). -/
def State.submit (r : Request) (s : State) : State :=
  if s.mustWait r || s.acc.waiting.any (fun x => x.via.port == r.via.port) then
    { s with acc := { s.acc with waiting := s.acc.waiting ++ [r] } }
  else s.serveNow r

/-- Waiting requests are served in order, those of one port never out of order (R451). -/
def State.serveWaiting (s : State) : State :=
  s.acc.waiting.foldl (fun acc r => acc.submit r) { s with acc := { s.acc with waiting := [] } }

/-- The dictionary takes requests: the device runs, or is in TAPER. -/
def State.linksUp (s : State) : Bool := s.frame.running && s.pwr.state != .snuff && s.pwr.state != .hold

end Sys2Proof.Machine
end

