-- ==== Sys2Proof/Machine/Intake.lean ====
section
/-! DEFINITION. Records received from the SPI host and from the core's OUT queue: the whole-record check (R468), the
discards of R15 and R30, and their serving in order (R31, R450, R451, R455). -/

namespace Sys2Proof.Machine

open Sys2Proof

/-- A received record, with its low header word for the reserved bits. -/
structure InRec where
  record : Record
  low : Nat
  deriving DecidableEq, Repr

/-- The whole records that words form under their LEN fields; none where the words do not form whole records (R468). -/
def wholeRecords : Nat → List Nat → Option (List InRec)
  | _, [] => some []
  | 0, _ => none
  | _ + 1, [_] => none
  | fuel + 1, lo :: hi :: rest =>
    if rest.length < lo % 1024 then none
    else (wholeRecords fuel (rest.drop (lo % 1024))).map fun rs =>
      { record := Record.ofWords lo hi (rest.take (lo % 1024)), low := lo } :: rs

/-- A received record is discarded (R15, R30): its SRC, TYPE, CLASS or a reserved bit is not one a partner may send, or it
is a HELLO that is no well-formed offer. -/
def InRec.bad (x : InRec) : Bool :=
  !(x.record.src == 0xFF || x.record.src == 0x4B) || !(x.record.type == 0x06 || x.record.type == 0x08) ||
    decide (3 ≤ x.record.cls) || field x.low 15 10 != 0 ||
    (x.record.type == 0x08 && (helloOffer x.record.payload).isNone)

/-- The dictionary request of an OD_REQUEST record (Table 13.6). -/
def State.requestOf (s : State) (via : Via) (r : Record) : Request :=
  let w0 := natAt r.payload 0
  let w1 := natAt r.payload 1
  let len := w1 % 65536
  { via := via, gen := s.sessionGen via, hdr := r.gen, bad := r.payload.length != 2 + (len + 3) / 4, op := field w0 31 24,
    index := w0 % 65536, sub := field w0 23 16, id := w1 / 65536 % 65536,
    data := (bytesOfWords (r.payload.drop 2)).take len }

/-- A HELLO record is answered (R455); a HELLO carries GEN 1 (R27). -/
def State.answerHello (via : Via) (r : Record) (s : State) : State :=
  match helloOffer r.payload with
  | none => s
  | some (lo, hi) =>
    let a := s.hello via lo hi
    let rec_ : Record := { type := 0x08, gen := 1, cls := 2, src := portSrc via.port, qual := 1, frame := s.frame.number, payload := a.2 }
    if via = Via.core then { a.1 with q := a.1.q.toCore rec_ }
    else { a.1 with q := a.1.q.toHost [({ record := rec_, sirq := true } : OutRec)] }

/-- Serve the records that the SPI input queue holds, oldest first, until one must wait (R451, R452). -/
def State.drainSpi : Nat → State → State
  | 0, s => s
  | fuel + 1, s =>
    match s.q.spiIn with
    | [] => s
    | r :: rs =>
      if s.frame.committing || s.portWaits 1 || s.acc.waiting.any fun x => x.via.port == 1 then s
      else
        let s1 := { s with q := { s.q with spiIn := rs } }
        State.drainSpi fuel (if r.type = 0x08 then s1.answerHello .spi r else s1.serveNow (s1.requestOf .spi r))

/-- Everything that waits for the dictionary is served as far as it may be: at the end of the commit slot, and once a
customer request has its answer (R451, R452, R566). -/
def State.serveAll (s : State) : State :=
  let s1 := s.serveWaiting
  s1.drainSpi s1.q.spiIn.length

/-- Records received by SPI (R468): the sound ones are queued, the others discarded; each raises SPI_RECORD. -/
def State.takeSpi (rs : List InRec) (s : State) : State :=
  let s1 := rs.foldl (fun acc x =>
    let a := if x.bad then acc.linkError 1 else { acc with q := { acc.q with spiIn := acc.q.spiIn ++ [x.record] } }
    (a.count [linkAct 0x60 1]).raise { ev := 43, code := 0, arg := 0, src := 0x4E, cls := 2 }) s
  s1.drainSpi s1.q.spiIn.length

/-- Records submitted by the core (R569): where one fails R15 or R30 the whole submission is discarded, as one link error. -/
def State.takeCore (rs : List InRec) (s : State) : State :=
  if rs.any InRec.bad then s.linkError 0
  else rs.foldl (fun acc x =>
    if x.record.type = 0x08 then acc.answerHello .core x.record
    else acc.submit (acc.requestOf .core x.record)) s

/-- What a way does as a request sets out on it: the window shows BUSY, an ISDU waits, an M-Bus block is open, a powerline
session waits for the response. -/
def State.expect (r : Request) (s : State) : State :=
  match r.via with
  | .window => { s with core := { s.core with reqBusy := true } }
  | .isdu => { s with iol := { s.iol with response := none, busy := true } }
  | .mbus => { s with mbus := { s.mbus with request := some r, answer := mbusBlock r 1 0 [] } }
  | .powerline n => { s with pl := s.pl.modSession n fun x => { x with wait := .busy (if r.op = 1 then 2 else 3) 0 } }
  | _ => s

/-- A request that arrives by a port. -/
def State.take (r : Request) (s : State) : State := (s.expect r).submit r

/-- A dictionary request that a command brings by a port (R450). -/
def State.bring (via : Via) (gen op index sub id : Nat) (data : List Nat) (s : State) : State :=
  if s.linksUp then
    s.take { via := via, gen := s.sessionGen via, hdr := gen, bad := false, op := op, index := index, sub := sub, id := id, data := data }
  else s

end Sys2Proof.Machine
end

