-- ==== Sys2Proof/Machine/Senders.lean ====
section
/-! DEFINITION. Commands that carry one write of the dictionary, a HELLO record or the end of a TDC measurement: how their
operands become a request (R445, R449, R450, R455). -/

namespace Sys2Proof.Machine

open Sys2Proof

/-- The bytes of an envelope (Table 13.4). -/
def envelopeBytes (role index sub counter : Nat) (value mac : List Nat) : List Nat :=
  [role, 0] ++ leBytes 2 index ++ [sub, 0] ++ leBytes 2 value.length ++ leBytes 4 counter ++ value ++ mac

/-- A write of one entry by a sender (R449). -/
def State.ask (p : Sender) (index sub : Nat) (value : List Nat) (s : State) : State :=
  match p.carrier with
  | .plain => s.bring p.via p.gen 2 index sub p.id value
  | .auth role counter mac => s.bring p.via p.gen 3 index sub p.id (envelopeBytes role index sub counter value mac)
  | .enveloped role counter mac => s.bring p.via p.gen 2 0x0150 1 p.id (envelopeBytes role index sub counter value mac)

/-- HELLO (R455): the record of the core is answered at once, that of the SPI host in its turn. -/
def helloRecord (core : Bool) (payload : List Nat) (s : State) : State :=
  let r : Record := { type := 0x08, gen := 1, cls := 2, src := 0xFF, qual := 0, frame := 0, payload := payload }
  if !s.linksUp then s
  else if core then s.answerHello .core r
  else State.drainSpi (s.q.spiIn.length + 1) { s with q := { s.q with spiIn := s.q.spiIn ++ [r] } }

/-- The end of a TDC measurement without a stop (R171 to R173): the wrap of a short window's count, or the timeout of a long
one. -/
def tdcEnd (wrap : Bool) (n : Nat) (up acq : Bool) (late cyc : Nat) (s : State) : State :=
  if shortWindow s.eff n == wrap then acousticMissing (if wrap then 11 else 12) n up acq late cyc s else s

end Sys2Proof.Machine
end

