-- ==== Sys2Proof/Machine/Perf.lean ====
section
/-! DEFINITION. The counter reader (R592 to R601): snapshots, reprogramming, clearing, the latched high words, and the
PERF_SNAPSHOT records. Counting itself is in Ops. -/

namespace Sys2Proof.Machine

open Sys2Proof

/-- Change the performance counters. -/
def State.modPerf (f : Perf → Perf) (s : State) : State := { s with perf := f s.perf }

/-- The low word of a counter in a snapshot. -/
def PerfSnap.lo (p : PerfSnap) (i : Nat) : Nat := natAt p.counts i % 2 ^ 32

/-- The high word: bits 47:32 and OVF at bit 31 (Table 18.5). -/
def PerfSnap.hi (p : PerfSnap) (i : Nat) : Nat := natAt p.counts i / 2 ^ 32 % 65536 + flagAt (p.ovf.getD i false) 31

/-- SNAP_FRAME_HI. -/
def PerfSnap.frameHi (p : PerfSnap) : Nat := p.frame / 2 ^ 32 % 65536 + flagAt p.reconfig 16

/-- Occurrences of the snapshot cycle (R594): they are counted, and the OVF bits they set are told apart. -/
def State.countEdge (acts : List Act) (s : State) : State × List Bool :=
  let was := s.perf.ovf
  let s1 := (s.modPerf fun p => { p with ovf := List.replicate 48 false }).count acts
  let wrapped := s1.perf.ovf
  (s1.modPerf fun p => { p with ovf := List.zipWith (fun a b => a || b) was wrapped }, wrapped)

/-- The snapshot of a boundary (R594): the idle buffer takes the counters and the buffers swap. -/
def State.perfSnapshot (frame : Nat) (reconfig : Bool) (s : State) : State :=
  s.modPerf fun p =>
    { p with cur := { frame := frame, reconfig := reconfig, counts := p.counts, ovf := p.ovf }, idle := p.cur }

/-- From the cycle after a boundary (R598, R599): counters whose PERF_SEL has changed restart, and the OVF bits that were to
be cleared are, but for those of a wrap in the snapshot cycle. -/
def State.perfRestart (changed : Nat → Bool) (wrapped : List Bool) (s : State) : State :=
  s.modPerf fun p =>
    { p with
      counts := (List.range 48).map fun i => if changed i then 0 else natAt p.counts i
      ovf := (List.range 48).map fun i =>
        !changed i && p.ovf.getD i false && (!bitAt p.clear i || wrapped.getD i false)
      clear := 0 }

/-- The PERF_SNAPSHOT record of a frame (R601). -/
def State.perfRecord (s : State) : Record :=
  let p := s.perf.cur
  { type := 0x0A, gen := 0, cls := 2, src := 0x53, qual := 1, frame := p.frame % 65536,
    payload := [p.frame % 2 ^ 32, p.frameHi] ++ (List.range 48).flatMap fun i => [p.lo i, p.hi i] }

/-- Whether the frame of the snapshot has a record. -/
def State.perfDue (s : State) : Bool :=
  decide (s.on_ 0x1C00 1 < 16) && s.perf.cur.frame % 2 ^ s.on_ 0x1C00 1 == 0

/-- PERF_OVERFLOW (R592): the one occurrence more that wraps counter (b, i); without effect where the counter does not stand
at its last value, is not enabled, or its block is off. -/
def perfOverflow (b i : Nat) (s : State) : State :=
  let last := natAt s.perf.counts (8 * b + i) == 2 ^ 48 - 1
  let sel := s.perfSel b i
  if decide (b < 6) && decide (i < 8) && last && bitAt sel 31 && !bitAt sel 30 && (s.pwr.dom (blockDomain b)).on then
    let r := countBlock b (s.perfSel b) (fun j => if j = i then 1 else 0) 8 0 0 s.perf.counts s.perf.ovf
    (s.modPerf fun p => { p with counts := r.1, ovf := r.2.1 }).raiseAll r.2.2
  else s

/-- The high word that belongs to a low word at an offset of the snapshot area. -/
def PerfSnap.partner (p : PerfSnap) (off : Nat) : Option Nat :=
  if off = 0 then some p.frameHi
  else if 0x100 ≤ off ∧ off < 0x280 ∧ (off - 0x100) % 8 = 0 then
    some (p.hi ((off - 0x100) / 8))
  else none

/-- COUNT_LO_READ (R596, R597): a read of SNAP_FRAME_LO or of a COUNT_LO latches its high word for the master; in U-mode it
faults while UEN is clear. -/
def countLoRead (master off : Nat) (user : Bool) (s : State) : State :=
  if !s.ceUp then s
  else if user && !s.perf.uen then s.firewallHit (0x40003000 + off) master user
  else match s.perf.cur.partner off with
    | none => s
    | some w => s.modPerf fun p =>
        { p with latches := (master, off + 4, w) :: p.latches.filter fun x => !(x.1 == master && x.2.1 == off + 4) }

end Sys2Proof.Machine
end

