-- ==== Sys2Proof/Machine/CoreRegs.lean ====
section
/-! DEFINITION. The application core's own registers (R555, R556): control and status registers, the PMP check, the access
fault it takes (R18), the instruction cache (R26), and the address maps of Tables 1.4 and 1.11. -/

namespace Sys2Proof.Machine

open Sys2Proof

/-- Change the core's surroundings. -/
def State.modCore (f : AppCore → AppCore) (s : State) : State := { s with core := f s.core }

/-- The core runs firmware or the loader: it can read and write its registers. -/
def State.coreRuns (s : State) : Bool := s.ceUp && (s.core.state == 2 || s.core.state == 3)

/-- Change the core's registers. -/
def State.modCsr (f : Csr → Csr) (s : State) : State := s.modCore fun c => { c with csr := f c.csr }

/-! ### Control and status registers (R555, R556, R561) -/

/-- mcycle. -/
def State.mcycle (s : State) : Nat := (s.core.csr.cycles + s.cyclesNow) % 2 ^ 64

/-- The A field of a PMP entry: 0 OFF, 1 TOR, 2 NA4, 3 NAPOT. -/
def Csr.pmpMode (c : Csr) (i : Nat) : Nat := field (natAt c.pmpcfg i) 4 3

/-- The L bit of a PMP entry. -/
def Csr.pmpLocked (c : Csr) (i : Nat) : Bool := bitAt (natAt c.pmpcfg i) 7

/-- A pmpaddr register as it reads at a granularity of 32 bytes: its low bits are zeros under OFF and TOR, and ones under
NAPOT. -/
def Csr.pmpAddr (c : Csr) (i : Nat) : Nat :=
  let v := natAt c.pmpaddr i
  match c.pmpMode i with
  | 3 => v ||| 3
  | 2 => v
  | _ => v / 8 * 8

/-- The value a control and status register reads; zero for a number the core does not have. -/
def State.csrRead (s : State) (n : Nat) : Nat :=
  let c := s.core.csr
  if 0x3A0 ≤ n ∧ n < 0x3A4 then ofLe ((c.pmpcfg.drop (4 * (n - 0x3A0))).take 4)
  else if 0x3B0 ≤ n ∧ n < 0x3C0 then c.pmpAddr (n - 0x3B0)
  else match n with
    | 0x300 => c.mstatus
    | 0x301 => 0x40101104
    | 0x304 => c.mie
    | 0x305 => c.mtvec
    | 0x306 => c.mcounteren
    | 0x340 => c.mscratch
    | 0x341 => c.mepc
    | 0x342 => c.mcause
    | 0x343 => c.mtval
    | 0x344 => s.coreIrqs
    | 0xB00 => s.mcycle % 2 ^ 32
    | 0xC00 => s.mcycle % 2 ^ 32
    | 0xB80 => s.mcycle / 2 ^ 32
    | 0xC80 => s.mcycle / 2 ^ 32
    | 0xB02 => c.instret % 2 ^ 32
    | 0xC02 => c.instret % 2 ^ 32
    | 0xB82 => c.instret / 2 ^ 32
    | 0xC82 => c.instret / 2 ^ 32
    | 0xF13 => 0xB0
    | _ => 0

/-- User mode may read cycle and instret, and their high words, where mcounteren lets it (R555); machine mode always may. -/
def Csr.counterOpen (c : Csr) (n : Nat) : Bool := !c.user || bitAt c.mcounteren (n % 32)

/-- A byte of pmpcfg as it is written: a locked entry keeps its byte; W without R is reserved and is written without W. -/
def Csr.cfgByte (c : Csr) (i v : Nat) : Nat :=
  if c.pmpLocked i then natAt c.pmpcfg i
  else
    let w := v % 256 - field v 6 5 * 32
    if bitAt w 1 && !bitAt w 0 then w - 2 else w

/-- A write of pmpaddr: an entry that is locked, or whose upper neighbour is locked under TOR, keeps its value. -/
def Csr.setPmpAddr (i v : Nat) (c : Csr) : Csr :=
  if c.pmpLocked i || (c.pmpLocked (i + 1) && c.pmpMode (i + 1) == 1) then c
  else { c with pmpaddr := setAt c.pmpaddr i (v % 2 ^ 32) }

/-- mstatus as it is written: MIE, MPIE, MPRV and TW, and MPP, which holds user or machine mode. -/
def mstatusOf (v : Nat) : Nat :=
  flagAt (bitAt v 3) 3 + flagAt (bitAt v 7) 7 + (if field v 12 11 = 0 then 0 else 3) * 2 ^ 11 + flagAt (bitAt v 17) 17 +
    flagAt (bitAt v 21) 21

/-- A write of a control and status register; one to a register that is read-only, or that the core does not have, changes
nothing. `now` is the compute cycles of the frame. -/
def Csr.write (now n v : Nat) (c : Csr) : Csr :=
  let cycle := (c.cycles + now) % 2 ^ 64
  let setCycle := fun (x : Nat) => { c with cycles := (x + 2 ^ 64 - now % 2 ^ 64) % 2 ^ 64 }
  if 0x3A0 ≤ n ∧ n < 0x3A4 then
    { c with pmpcfg := (List.range 16).map fun i =>
        if i / 4 = n - 0x3A0 then c.cfgByte i (v / 2 ^ (8 * (i % 4)) % 256) else natAt c.pmpcfg i }
  else if 0x3B0 ≤ n ∧ n < 0x3C0 then c.setPmpAddr (n - 0x3B0) v
  else match n with
    | 0x300 => { c with mstatus := mstatusOf v }
    | 0x304 => { c with mie := v &&& 0x70888 }
    | 0x305 => { c with mtvec := v % 2 ^ 32 - field v 1 1 * 2 }
    | 0x306 => { c with mcounteren := v &&& 5 }
    | 0x340 => { c with mscratch := v % 2 ^ 32 }
    | 0x341 => { c with mepc := v % 2 ^ 32 / 2 * 2 }
    | 0x342 => { c with mcause := v % 2 ^ 32 }
    | 0x343 => { c with mtval := v % 2 ^ 32 }
    | 0xB00 => setCycle (cycle / 2 ^ 32 * 2 ^ 32 + v % 2 ^ 32)
    | 0xB80 => setCycle (v % 2 ^ 32 * 2 ^ 32 + cycle % 2 ^ 32)
    | 0xB02 => { c with instret := c.instret / 2 ^ 32 * 2 ^ 32 + v % 2 ^ 32 }
    | 0xB82 => { c with instret := v % 2 ^ 32 * 2 ^ 32 + c.instret % 2 ^ 32 }
    | _ => c

/-- What the core's program has done to its registers since the command before: its writes, its program counter and mode. -/
def State.coreAt (a : CoreAt) (s : State) : State :=
  if s.coreRuns then
    let now := s.cyclesNow
    (s.modCsr fun c => { a.csrs.foldl (fun x w => x.write now w.1 w.2) c with pc := a.pc % 2 ^ 32, user := a.user }).coreWake
  else s

/-! ### PMP (R556) -/

/-- The addresses a PMP entry matches, from the first to below the second; none where it is OFF. A granule has 32 bytes, and
NA4 has 4. -/
def Csr.pmpRange (c : Csr) (i : Nat) : Option (Nat × Nat) :=
  let a := c.pmpAddr i
  match c.pmpMode i with
  | 1 => some (if i = 0 then 0 else natAt c.pmpaddr (i - 1) / 8 * 32, a * 4)
  | 2 => some (a * 4, a * 4 + 4)
  | 3 =>
    let ones := ((List.range 32).takeWhile fun k => bitAt a k).length
    let size := 2 ^ (ones + 3)
    some (a * 4 / size * size, a * 4 / size * size + size)
  | _ => none

/-- PMP allows an access of some bytes, 0 a fetch, 1 a load, 2 a store: the lowest-numbered entry that matches any of them
decides; a machine-mode access is checked by locked entries alone, and a user-mode one that no entry matches is barred. -/
def Csr.pmpAllows (c : Csr) (addr width access : Nat) (user : Bool) : Bool :=
  let hit := (List.range 16).findSome? fun i => (c.pmpRange i).bind fun r =>
    if r.1 < addr + width ∧ addr < r.2 then some (i, decide (r.1 ≤ addr ∧ addr + width ≤ r.2)) else none
  match hit with
  | none => !user
  | some (i, whole) =>
    whole && ((!user && !c.pmpLocked i) || bitAt (natAt c.pmpcfg i) (if access = 0 then 2 else access - 1))

/-- The privilege of an access: that of the mode, but for loads and stores of machine mode under MPRV. -/
def Csr.accessUser (c : Csr) (access : Nat) : Bool :=
  if access ≠ 0 ∧ c.user = false ∧ bitAt c.mstatus 17 then field c.mstatus 12 11 == 0 else c.user

/-- The core takes an access fault (R18): as the privileged specification defines a trap to machine mode. -/
def Csr.accessFault (addr access : Nat) (c : Csr) : Csr :=
  { c with
    mepc := c.pc / 2 * 2, mcause := if access = 0 then 1 else 2 * access + 3, mtval := addr % 2 ^ 32
    mstatus := flagAt (bitAt c.mstatus 3) 7 + (if c.user then 0 else 3) * 2 ^ 11 + flagAt (bitAt c.mstatus 17) 17 +
      flagAt (bitAt c.mstatus 21) 21
    user := false, pc := c.mtvec / 4 * 4 }

/-! ### The address maps (Tables 1.4 and 1.11) -/

/-- The regions of Table 1.4. -/
inductive Region4 where
  | bootRom
  | fram
  | deviceArea
  | sram
  | backupRam
  | accessPort
  | interrupts
  | queues
  | counters
  | timer
  deriving DecidableEq, Repr

/-- The region of an address; none outside the table. -/
def regionOf (a : Nat) : Option Region4 :=
  if a < 0x8000 then some .bootRom
  else if 0x10000000 ≤ a ∧ a < 0x1005E000 then some .fram
  else if 0x1005E000 ≤ a ∧ a < 0x10060000 then some .deviceArea
  else if 0x20000000 ≤ a ∧ a < 0x20020000 then some .sram
  else if 0x30000000 ≤ a ∧ a < 0x30000100 then some .backupRam
  else if 0x40000000 ≤ a ∧ a < 0x40001000 then some .accessPort
  else if 0x40001000 ≤ a ∧ a < 0x40002000 then some .interrupts
  else if 0x40002000 ≤ a ∧ a < 0x40003000 then some .queues
  else if 0x40003000 ≤ a ∧ a < 0x40004000 then some .counters
  else if 0x40004000 ≤ a ∧ a < 0x40005000 then some .timer
  else none

/-- Whether the firewall faults an access, 0 a fetch, 1 a load, 2 a store: outside the table, of a kind the table does not give
the region, a user-mode access to a machine-mode region, or a write to the device area, the boot ROM or the counter area but
for UEN (R18, R25, R597). The DMA controller counts as machine mode. -/
def State.accessFaults (s : State) (addr access : Nat) (user : Bool) : Bool :=
  match regionOf addr with
  | none => true
  | some .bootRom => access == 2 || user
  | some .fram => false
  | some .sram => false
  | some .deviceArea => access != 1
  | some .backupRam => access == 0
  | some .accessPort => access == 0
  | some .queues => access == 0
  | some .interrupts => access == 0 || user
  | some .timer => access == 0 || user
  | some .counters => access == 0 || (if access = 2 then user || addr / 4 != 0x40003008 / 4 else user && !s.perf.uen)

/-- The areas of the metrology partition, each with its offset and its bytes, in the order of Table 1.11: event log, template
store, commit banks, billing snapshot ring, path ratio ring, path contexts, weight sets and tables, tariff calendars, and the
other legally relevant entries (R24). -/
def metroAreas : List (Nat × Nat) :=
  [(0x00000, 65536), (0x10000, 16384), (0x14000, 4096), (0x15000, 22272), (0x1A700, 8192), (0x1C700, 4096), (0x1D700, 5120),
   (0x1EB00, 2048), (0x1F300, 3328)]

/-- Bytes of the metrology partition (Table 1.3). -/
def metroBytes : Nat := 131072

/-- The areas follow one another from `off` on without a gap, and end at `last`. -/
def areasFrom (last : Nat) : Nat → List (Nat × Nat) → Bool
  | off, [] => off == last
  | off, a :: as => a.1 == off && areasFrom last (off + a.2) as

/-! ### The instruction cache (R26, R558) -/

/-- Lines of the cache: 16 KiB in lines of 32 bytes. DESIGN CHOICE (log 92): no rule gives the size of a line. -/
def cacheLines : Nat := 512

/-- The line an address lies in. -/
def lineOf (addr : Nat) : Nat := addr / 32 * 32

/-- Addresses whose fetches go through the cache: the application partition of the FRAM. -/
def cached (addr : Nat) : Bool := decide (0x10000000 ≤ addr) && decide (addr < 0x10060000)

/-- A line is filled; the oldest one makes room. DESIGN CHOICE (log 92): no rule gives the order in which lines are replaced. -/
def AppCore.fillLine (addr : Nat) (c : AppCore) : AppCore :=
  if cached addr then { c with icache := (lineOf addr :: c.icache.filter fun l => l != lineOf addr).take cacheLines } else c

/-- A write of some bytes in the application partition invalidates the lines it hits (R26). -/
def AppCore.dropLines (addr width : Nat) (c : AppCore) : AppCore :=
  { c with icache := c.icache.filter fun l => !(decide (l < addr + width) && decide (addr < l + 32)) }

/-- The line fills among counted occurrences (ICACHE_MISSES). -/
def State.fillLines (acts : List Act) (s : State) : State :=
  s.modCore fun c => acts.foldl (fun c a =>
    if a.block = 4 ∧ a.event = 0x50 then (match a.addr with | some x => c.fillLine x | none => c) else c) c

end Sys2Proof.Machine
end

