-- ==== Sys2Proof/Machine/AppCore.lean ====
section
/-! DEFINITION. The application core's surroundings (Chapter 17): the access port, customer requests, mailboxes, record
queues, interrupts, timer and watchdog, the boot verification, the firewall and the core's memory, and the event log. The
instructions the core runs between these commands are not commands of the block. -/

namespace Sys2Proof.Machine

open Sys2Proof

/-! ### Requests of the core (R565) -/

/-- REQ_GO: a written value of 1 submits the request of the window. -/
def reqGo (value : Nat) (s : State) : State :=
  let c := s.core
  if s.coreRuns && value % 2 == 1 && !c.reqBusy then
    (s.modCore fun c => { c with reqBusy := true }).submit
      { via := .window, gen := 3, hdr := 3, bad := decide (1044 < c.reqLen % 65536), op := field c.reqHdr 31 24,
        index := c.reqHdr % 65536, sub := field c.reqHdr 23 16, id := 0, data := c.reqData.take (c.reqLen % 65536) }
  else s

/-! ### Customer requests (R560, R566, R567) -/

/-- The oldest customer request whose core work is admitted (R560, R566). -/
def State.admittedRequest (s : State) : Option Request :=
  (s.frame.waiting.filter fun j => j.kind == 3).findSome? fun j => s.acc.customer.find? fun r => r.via.port == j.job

/-- CUSTOMER_REQUEST_HELD (R560, R566): the oldest admitted request is held, and local interrupt 16 is set. -/
def customerRequestHeld (s : State) : State :=
  match s.admittedRequest with
  | none => s
  | some r =>
    if s.core.held.isNone && s.core.state == 2 && s.frame.running then
      State.coreWake { s with
        acc := { s.acc with customer := s.acc.customer.erase r }
        core := { s.core with
          held := some r, heldAt := s.frame.now, l16 := true, custHdr := r.word0
          custInfo := r.via.port * 2 ^ 28 + r.hdr % 16 * 2 ^ 24 + 65536 + r.data.length % 65536
          custData := overBytes r.data s.core.custData } }
    else s

/-- The held request is answered and let go (R566). -/
def State.finishHeld (abort : Nat) (data : List Nat) (byCore : Bool) (s : State) : State :=
  match s.core.held with
  | none => s
  | some r =>
    let s1 : State := { s with
      core := { s.core with held := none, custInfo := s.core.custInfo - s.core.custInfo / 65536 % 2 * 65536 }
      frame := s.frame.finish (custJob r.via.port) }
    (s1.answer r byCore abort data).serveAll

/-- The abort codes the core may answer with (R566). -/
def coreMayAnswer (abort : Nat) : Bool :=
  [abortOk, abortNoEntry, abortNoSubentry, abortType, abortRange, abortAccess, abortState, abortDateInvalid].contains abort

/-- CUST_DONE: a written value of 1 completes the held request (R566). -/
def custDone (value : Nat) (s : State) : State :=
  if s.coreRuns && value % 2 == 1 then
    let abort := s.core.custResult % 65536
    let sent := if coreMayAnswer abort then abort else abortState
    s.finishHeld sent (if sent = abortOk then s.core.custData.take (s.core.custResult / 65536 % 65536) else []) true
  else s

/-- CUST_TIMEOUT (R567): a held request has not been answered within CUST_TIMEOUT ms of its hold. -/
def custTimeout (s : State) : State :=
  if s.core.held.isNone ∨ s.frame.now < s.core.heldAt + usNow (1000 * s.on_ 0x1D01 2) then s
  else (s.modCore fun c => { c with custTimeouts := satInc (2 ^ 32 - 1) c.custTimeouts }).finishHeld abortState [] false

/-! ### Mailboxes and record queues (R568, R569) -/

/-- MAILBOX_TAKEN: bit 0 written to MAILBOX_CTRL. -/
def mailboxTaken (s : State) : State := if s.coreRuns then s.modCore fun c => { c with mailUnread := false } else s

/-- MAILBOX: bit 1 written to MAILBOX_CTRL publishes MAILBOX_OUT. -/
def mailbox (s : State) : State :=
  if s.coreRuns then
    (s.modCore fun c => { c with mailPublished := c.mailOut }).raise
      { ev := 62, code := 0, arg := ofLe (s.core.mailOut.take 4), src := 0x4B, cls := 2 }
  else s

/-- IN_DATA_POP: a read of IN_DATA; an empty queue gives zero. -/
def inDataPop (s : State) : State :=
  if s.coreRuns then
    let q1 := { s.q with popped := s.q.coreIn.headD 0, coreIn := s.q.coreIn.drop 1 }
    { s with q := q1.refillCore q1.coreHeld.length }
  else s

/-- OUT_SUBMIT: a written value of 1 submits the pushed words as records. -/
def outSubmit (value : Nat) (s : State) : State :=
  if s.coreRuns && value % 2 == 1 then
    let s1 := { s with q := { s.q with coreOut := [] } }
    match wholeRecords s.q.coreOut.length s.q.coreOut with
    | none => s1.linkError 0
    | some rs => s1.takeCore rs
  else s

/-! ### Interrupts, timer and watchdog (R557, R559, R561 to R564) -/

/-- MSIP_WRITE. -/
def msipWrite (value : Nat) (s : State) : State :=
  if s.coreRuns then (s.modCore fun c => { c with msip := value % 2 == 1 }).coreWake else s

/-- The eligible event that CLAIM returns: the highest priority, the lower number among equals (R562). -/
def State.claimable (s : State) : Option Pend :=
  (s.events.filter s.core.eligible).foldl (fun best p => match best with
    | none => some p
    | some b =>
      if s.core.prio b.ev < s.core.prio p.ev ∨ (s.core.prio b.ev = s.core.prio p.ev ∧ p.ev < b.ev) then some p else some b) none

/-- CLAIM: a read of CLAIM (R562). -/
def claim (s : State) : State :=
  if !s.coreRuns then s
  else match s.claimable with
    | none => s.modCore fun c => { c with claim := 0 }
    | some p =>
      { s with
        events := s.events.erase p
        core := { s.core with
          claim := 2 ^ 31 + p.ev, claimInfo := p.count % 256 * 65536 + p.code % 65536, claimArg := p.arg
          claimFrame := p.frame % 2 ^ 32 } }

/-- LOCAL_ACK. -/
def localAck (value : Nat) (s : State) : State :=
  if s.coreRuns then
    s.modCore fun c => { c with
      l16 := c.l16 && !bitAt value 16, l17 := c.l17 && !bitAt value 17, l18 := c.l18 && !bitAt value 18 }
  else s

/-- MTIMECMP_MATCH (R563): taken only while CE is on. -/
def mtimecmpMatch (s : State) : State :=
  if s.ceUp && decide (s.core.mtimecmp ≤ s.pwr.mtime) then (s.modCore fun c => { c with mtip := true }).coreWake else s

/-- WFI in machine mode with the interrupts enabled in `mie`: with none of them pending the core stops, and a reservation
no longer holds CE (R557, R559). -/
def wfiStop (mie : Nat) (s : State) : State :=
  if s.coreRuns then
    let s1 := s.modCsr fun c => { c with mie := mie &&& 0x70888, user := false }
    if (s1.coreIrqs &&& s1.core.csr.mie) == 0 then s1.modCore fun c => { c with wfi := some c.csr.mie, hold := false } else s1
  else s

/-- RESERVATION_SPENT (R559): CORE_US of the reservation have passed since t + 60 µs. A core that holds CE has been out of WFI
all the while, for waiting in WFI ends the hold. -/
def reservationSpent (s : State) : State :=
  if us 60 + coreTime s.eff (framePhase s.eff s.frame.number) ≤ s.frame.nowQ then s.modCore fun c => { c with hold := false }
  else s

/-- The reservation of a frame begins at t + 60 µs (R559): local interrupt 18 is set, and CE is held unless the core waits in
WFI with no enabled interrupt pending. -/
def State.reserveCore (s : State) : State :=
  State.modCore (s := (s.modCore fun c => { c with l18 := true }).coreWake) fun c => { c with hold := c.wfi.isNone }

/-- WDT_KICK (R564). -/
def wdtKick (value : Nat) (s : State) : State :=
  if s.coreRuns && value == 0xC3A5 then s.modCore fun c => { c with wdtCount := 0 } else s

/-- CORE_WATCHDOG (R564): TIMEOUT boundaries have passed without a kick, with the core's program counter. -/
def coreWatchdog (pc : Nat) (s : State) : State :=
  if bitAt s.core.wdt 31 && decide (s.core.wdt % 65536 ≤ s.core.wdtCount) && !s.core.halted then
    let s1 := (s.raise { ev := 61, code := 1, arg := pc % 2 ^ 32, src := 0x4B, cls := 2 }).resetCore 1
    (s1.modCore fun c => { c with resets := satInc (2 ^ 32 - 1) c.resets }).serveAll
  else s

/-- The core's part of a boundary: the watchdog counts, deferred interrupts return (R560, R564). -/
def State.coreBoundary (s : State) : State :=
  (s.modCore fun c => { c with
    wdtCount := if bitAt c.wdt 31 && !c.halted then c.wdtCount + 1 else c.wdtCount
    withheld := false, hold := false }).coreWake

/-! ### Secure boot (R571 to R574) -/

/-- Address of the image. -/
def imageBase : Nat := 0x10000000

/-- The first step of R571 that fails, 0 where all pass. -/
def State.bootCheck (s : State) : Nat :=
  let h := s.mem.readBytes imageBase 256
  let len := ofLe ((h.drop 4).take 4)
  let entry := ofLe ((h.drop 8).take 4)
  let pub := (h.drop 0x20).take 64
  let code := imageBase + 256
  if !(h.take 4 == [0x4B, 0x4C, 0x46, 0x49] && len % 4 == 0 && decide (len ≤ 384768) && decide (code ≤ entry) &&
      decide (entry < code + len) && ((h.drop 0x10).take 16).all (fun b => b == 0) && (h.drop 0xA0).all fun b => b == 0) then 1
  else if s.acc.bootHash.isSome && s.acc.bootHash != some (sha256 pub) then 2
  else if ofLe ((h.drop 0x0C).take 4) < s.core.fwMin then 3
  else if !ecdsaVerify pub (sha256 (h.take 32 ++ s.mem.readBytes code len)) ((h.drop 0x60).take 64) then 4
  else 0

/-- The core jumps to the image: in machine mode at ENTRY, with PMP off (R571). -/
def Csr.enter (entry : Nat) (c : Csr) : Csr := { c with pc := entry, user := false, pmpcfg := List.replicate 16 0 }

/-- BOOT_VERIFY_COMPLETE (R571, R573): the core starts the image, or stays in the loader. -/
def bootVerifyComplete (s : State) : State :=
  if s.core.state = 1 then
    let f := s.bootCheck
    s.modCore fun c => { c with
      csr := if f = 0 then c.csr.enter (ofLe (s.mem.readBytes (imageBase + 8) 4)) else c.csr
      state := if f = 0 then 2 else 3, failedStep := f
      secVersion := if f = 0 then ofLe (s.mem.readBytes (imageBase + 0x0C) 4) else c.secVersion }
  else s

/-! ### The core's address map and the firewall (R18, R25, R556, R570, R597) -/

/-- An access of the core that the firewall or PMP forbids: it takes the fault, and one of the firewall is recorded (R18,
R556, R570). -/
def State.coreFault (addr access : Nat) (firewall user : Bool) (s : State) : State :=
  let s1 := if firewall then s.firewallHit addr 0 user else s
  s1.modCsr fun c => c.accessFault addr access

/-- FIREWALL_ACCESS_FAULT (R18, R570): an access, 0 a fetch, 1 a load, 2 a store, of a master that the firewall forbids. The core
takes it as an access fault; the DMA controller stops its transfer and sets its error flag. A master other than the core is
judged as machine mode. -/
def firewallAccessFault (addr master access : Nat) (core : CoreAt) (s : State) : State :=
  if master = 0 then
    let s1 := s.coreAt core
    let user := s1.core.csr.accessUser access
    if s1.coreRuns && s1.accessFaults addr access user then s1.coreFault addr access true user else s1
  else if s.accessFaults addr access false then
    let s1 := s.firewallHit addr master false
    if master = 1 then s1.modCore fun c => { c with dmaActive := false, dmaError := true } else s1
  else s

/-- The bytes of a value that a write of a width carries. -/
def writeData (width value : Nat) : List Nat := leBytes width value

/-- A 32-bit register after a write of some bytes at an offset in it. -/
def mergeReg (old off width value : Nat) : Nat :=
  ofLe ((List.range 4).map fun i => if off ≤ i ∧ i < off + width then value / 2 ^ (8 * (i - off)) % 256 else old / 2 ^ (8 * i) % 256)

/-- Bytes written into a register array at an offset. -/
def mergeArray (old : List Nat) (off : Nat) (bytes : List Nat) : List Nat :=
  ((List.range bytes.length).foldl (fun l i => setAt l (off + i) (natAt bytes i % 256)) old)

/-- A register write of the dictionary access port (Table 17.4). -/
def State.portWrite (off width value : Nat) (s : State) : State :=
  let reg := fun (old : Nat) => mergeReg old (off % 4) width value
  let c := s.core
  if off / 4 = 0 then (if c.reqBusy then s else s.modCore fun c => { c with reqHdr := reg c.reqHdr })
  else if off / 4 = 1 then (if c.reqBusy then s else s.modCore fun c => { c with reqLen := reg c.reqLen % 65536 })
  else if off / 4 = 2 then reqGo (reg 0) s
  else if 0x10 ≤ off ∧ off < 0x424 then
    (if c.reqBusy then s else s.modCore fun c => { c with reqData := mergeArray c.reqData (off - 0x10) (writeData width value) })
  else if off / 4 = 0x808 / 4 then s.modCore fun c => { c with custResult := reg c.custResult }
  else if off / 4 = 0x80C / 4 then custDone (reg 0) s
  else if 0x810 ≤ off ∧ off < 0xC24 then
    s.modCore fun c => { c with custData := mergeArray c.custData (off - 0x810) (writeData width value) }
  else if 0xE20 ≤ off ∧ off < 0xE40 then
    s.modCore fun c => { c with mailOut := mergeArray c.mailOut (off - 0xE20) (writeData width value) }
  else if off / 4 = 0xE40 / 4 then
    let v := reg 0
    let s1 := if bitAt v 0 then mailboxTaken s else s
    if bitAt v 1 then mailbox s1 else s1
  else s

/-- A register write of the interrupt controller (Table 17.2). -/
def State.irqWrite (off width value : Nat) (s : State) : State :=
  let reg := fun (old : Nat) => mergeReg old (off % 4) width value
  if off / 4 = 2 then s.modCore fun c => { c with enable := c.enable / 2 ^ 32 * 2 ^ 32 + reg (c.enable % 2 ^ 32) }
  else if off / 4 = 3 then s.modCore fun c => { c with enable := reg (c.enable / 2 ^ 32) * 2 ^ 32 + c.enable % 2 ^ 32 }
  else if 0x40 ≤ off ∧ off < 0x80 then
    s.modCore fun c => { c with priority := mergeArray c.priority (off - 0x40) ((writeData width value).map fun b => b % 4) }
  else if off / 4 = 0x80 / 4 then s.modCore fun c => { c with threshold := reg c.threshold % 8 }
  else s

/-- A register write of the record queues (R569). -/
def State.queueWrite (off width value : Nat) (s : State) : State :=
  if off / 4 = 2 then
    (if s.q.coreOut.length < 512 then { s with q := { s.q with coreOut := s.q.coreOut ++ [mergeReg 0 (off % 4) width value] } } else s)
  else if off / 4 = 4 then outSubmit (mergeReg 0 (off % 4) width value) s
  else s

/-- A register write of the core timer and watchdog (Table 17.3). -/
def State.timerWrite (off width value : Nat) (s : State) : State :=
  let reg := fun (old : Nat) => mergeReg old (off % 4) width value
  if off / 4 = 2 ∨ off / 4 = 3 then
    let lo := if off / 4 = 2 then reg (s.core.mtimecmp % 2 ^ 32) else s.core.mtimecmp % 2 ^ 32
    let hi := if off / 4 = 3 then reg (s.core.mtimecmp / 2 ^ 32) else s.core.mtimecmp / 2 ^ 32
    s.modCore fun c => { c with mtimecmp := hi * 2 ^ 32 + lo, mtip := decide (hi * 2 ^ 32 + lo ≤ s.pwr.mtime) }
  else if off / 4 = 4 then
    s.modCore fun c =>
      let v := reg c.wdt
      let on := bitAt c.wdt 31 || bitAt v 31
      { c with wdt := flagAt on 31 + v % 65536, wdtCount := if on && !bitAt c.wdt 31 then 0 else c.wdtCount }
  else if off / 4 = 5 then wdtKick (reg 0) s
  else if off / 4 = 6 then msipWrite (reg 0) s
  else if off / 4 = 7 then localAck (reg 0) s
  else s

/-- A write that the firewall and PMP allow reaches its target; one in the application partition invalidates the cache lines it
hits (R26). -/
def State.targetWrite (addr width value : Nat) (s : State) : State :=
  match regionOf addr with
  | some .fram => State.modCore (fun c => c.dropLines addr width) { s with mem := s.mem.writeBytes addr (writeData width value) }
  | some .sram => { s with mem := s.mem.writeBytes addr (writeData width value) }
  | some .backupRam => { s with mem := s.mem.writeBytes addr (writeData width value) }
  | some .accessPort => s.portWrite (addr % 4096) width value
  | some .interrupts => s.irqWrite (addr % 4096) width value
  | some .queues => s.queueWrite (addr % 4096) width value
  | some .counters => { s with perf := { s.perf with uen := mergeReg (flag s.perf.uen) (addr % 4) width value % 2 == 1 } }
  | some .timer => s.timerWrite (addr % 4096) width value
  | _ => s

/-! ### What a read of the core's address map returns -/

/-- The word at an offset of the dictionary access port (Table 17.4); write-only registers read as zero. -/
def AppCore.portWord (off : Nat) (c : AppCore) : Nat :=
  let bytes := fun (l : List Nat) (at_ : Nat) => ofLe ((l.drop (off - at_)).take 4)
  if off = 0 then c.reqHdr
  else if off = 4 then c.reqLen
  else if off = 0xC then flagAt c.reqBusy 31 + c.reqResult % 2 ^ 31
  else if 0x10 ≤ off ∧ off < 0x424 then bytes c.reqData 0x10
  else if off = 0x800 then c.custHdr
  else if off = 0x804 then c.custInfo
  else if off = 0x808 then c.custResult
  else if 0x810 ≤ off ∧ off < 0xC24 then bytes c.custData 0x810
  else if 0xE20 ≤ off ∧ off < 0xE40 then bytes c.mailOut 0xE20
  else if off = 0xE40 then flag c.mailUnread
  else 0

/-- The word at an offset of the interrupt controller (Table 17.2), but for CLAIM, whose read acts. -/
def State.irqWord (s : State) (off : Nat) : Nat :=
  let pending := ((List.range 64).map fun n =>
    flagAt (s.events.any fun p => decide (p.dest = Dest.core) && p.offered && p.ev == n) n).sum
  if off = 0 then pending % 2 ^ 32
  else if off = 4 then pending / 2 ^ 32
  else if off = 8 then s.core.enable % 2 ^ 32
  else if off = 0xC then s.core.enable / 2 ^ 32
  else if 0x40 ≤ off ∧ off < 0x80 then ofLe ((s.core.priority.drop (off - 0x40)).take 4)
  else if off = 0x80 then s.core.threshold
  else if off = 0x84 then s.core.claim
  else if off = 0x88 then s.core.claimInfo
  else if off = 0x8C then s.core.claimArg
  else if off = 0x90 then s.core.claimFrame
  else 0

/-- The word at an offset of the core timer and watchdog (Table 17.3). -/
def State.timerWord (s : State) (off : Nat) : Nat :=
  match off with
  | 0 => s.pwr.mtime % 2 ^ 32
  | 4 => s.pwr.mtime / 2 ^ 32
  | 8 => s.core.mtimecmp % 2 ^ 32
  | 0xC => s.core.mtimecmp / 2 ^ 32
  | 0x10 => s.core.wdt
  | 0x18 => flag s.core.msip
  | _ => 0

/-- The word at an offset of the snapshot area for a master (Table 18.5); a latched high word is returned once (R596). -/
def State.counterWord (s : State) (master off : Nat) : Nat :=
  let p := s.perf.cur
  match s.perf.latches.find? fun x => x.1 == master && x.2.1 == off with
  | some x => x.2.2
  | none =>
    if off = 0 then p.frame % 2 ^ 32
    else if off = 4 then p.frameHi
    else if off = 8 then flag s.perf.uen
    else if 0x100 ≤ off ∧ off < 0x280 then (if off % 8 = 0 then p.lo ((off - 0x100) / 8) else p.hi ((off - 0x100) / 8))
    else 0

/-- A byte of the FRAM application partition, SRAM or backup RAM; of the device area, below the display area, the stored value
of an entry as `Config.deviceAreaByte` lays it out (R25). -/
def State.memByte (s : State) (addr : Nat) : Nat :=
  if 0x1005E000 ≤ addr ∧ addr < 0x1005FE00 then Config.deviceAreaByte s.set.stored (addr - 0x1005E000) % 256
  else (s.mem.read addr).toNat

/-- A read of the core as master: the value, and what the read does (R562, R569, R596). -/
def State.targetRead (addr width : Nat) (s : State) : Nat × State :=
  let off := addr % 4096 / 4 * 4
  let part := fun (w : Nat) => w / 2 ^ (8 * (addr % 4)) % 2 ^ (8 * width)
  match regionOf addr with
  | none => (0, s)
  | some .bootRom => (Config.bootRomByte addr % 256, s)
  | some .fram => (ofLe ((List.range width).map fun i => s.memByte (addr + i)), s)
  | some .deviceArea => (ofLe ((List.range width).map fun i => s.memByte (addr + i)), s)
  | some .sram => (ofLe ((List.range width).map fun i => s.memByte (addr + i)), s)
  | some .backupRam => (ofLe ((List.range width).map fun i => s.memByte (addr + i)), s)
  | some .accessPort =>
    let w := if 0xE00 ≤ off ∧ off < 0xE20 then s.at_ 0x1D02 1 / 2 ^ (8 * (off - 0xE00)) % 2 ^ 32 else s.core.portWord off
    (part w, s)
  | some .interrupts =>
    let s1 := if off = 0x84 then claim s else s
    (part (s1.irqWord off), s1)
  | some .queues =>
    if off = 0 then (part (s.q.coreIn.headD 0), inDataPop s)
    else (part (if off = 4 then s.q.coreIn.length else if off = 0xC then 512 - s.q.coreOut.length else 0), s)
  | some .counters =>
    let s1 := countLoRead 0 off false { s with perf := { s.perf with
      latches := s.perf.latches.filter fun x => !(x.1 == 0 && x.2.1 == off) } }
    (part (s.counterWord 0 off), s1)
  | some .timer => (part (s.timerWord off), s)

/-- CORE_MEMORY_WRITE (R18, R26, R556, R558, R570): a write of the core, or of the DMA controller, of 1, 2 or 4 bytes. An
access that the firewall forbids is recorded, and one that PMP forbids is not; neither has an effect, and the core takes the
access fault, while the DMA controller stops its transfer with its error flag set. `last` says that the DMA controller's
transfer ends with the write. -/
def coreMemoryWrite (addr width value : Nat) (dma last : Bool) (core : CoreAt) (s : State) : State :=
  if !s.coreRuns then s
  else if dma then
    let bus : Act := { block := 4, event := 0x54, cls := 2, priv := 2, master := 1, addr := some (addr % 2 ^ 32), times := 1 }
    let s1 := s.count [bus]
    if s1.accessFaults addr 2 false || s1.accessFaults (addr + width - 1) 2 false then
      (s1.firewallHit addr 1 false).modCore fun c => { c with dmaActive := false, dmaError := true }
    else State.modCore (fun c => { c with dmaActive := !last, dmaError := false }) (s1.targetWrite addr width value)
  else
    let s0 := s.coreAt core
    let user := s0.core.csr.accessUser 2
    let bus : Act := { block := 4, event := 0x54, cls := 2, priv := flag user, master := 0, addr := some (addr % 2 ^ 32), times := 1 }
    let s1 := s0.count [bus, { bus with event := 0x52 }]
    if s1.accessFaults addr 2 user || s1.accessFaults (addr + width - 1) 2 user then s1.coreFault addr 2 true user
    else if !s1.core.csr.pmpAllows addr width 2 user then s1.coreFault addr 2 false user
    else s1.targetWrite addr width value

/-! ### The debug port (R632) -/

/-- What a debug request asks of the core. -/
def debugBarred (s : State) : Bool := s.acc.sealed || decide (s.mode = .taper)

/-- The number of general register 0 in the register space of the RISC-V debug specification. -/
def debugGpr : Nat := 0x1000

/-- DEBUG_COMMAND (R632): 0 halts the core, 1 resumes it, 2 and 3 read and write through it as the core master, 4 and 5 read and
write a register of the halted core; barred with the seal set and in TAPER. For a general register read, `value` is what the
core's program left in it. -/
def debugCommand (op addr width value : Nat) (s : State) : State :=
  if debugBarred s || s.core.state == 0 || !s.ceUp then s
  else match op with
    | 0 => s.modCore fun c => { c with halted := true, wfi := none }
    | 1 => s.modCore fun c => { c with halted := false }
    | 2 =>
      if s.accessFaults addr 1 false || s.accessFaults (addr + width - 1) 1 false then s.firewallHit addr 0 false
      else
        let r := s.targetRead addr width
        r.2.modCore fun c => { c with debugData := r.1 }
    | 3 => if s.accessFaults addr 2 false || s.accessFaults (addr + width - 1) 2 false then s.firewallHit addr 0 false
        else s.targetWrite addr width value
    | 4 =>
      if !s.core.halted then s
      else if addr < debugGpr then s.modCore fun c => { c with debugData := s.csrRead addr }
      else if addr < debugGpr + 32 then
        let v := if addr = debugGpr then 0 else value % 2 ^ 32
        s.modCore fun c => { c with debugData := v, csr := { c.csr with x := setAt c.csr.x (addr - debugGpr) v } }
      else s
    | 5 =>
      if !s.core.halted then s
      else if addr < debugGpr then s.modCsr fun c => c.write s.cyclesNow addr value
      else if debugGpr < addr ∧ addr < debugGpr + 32 then
        s.modCsr fun c => { c with x := setAt c.x (addr - debugGpr) (value % 2 ^ 32) }
      else s
    | _ => s

/-! ### The event log (R578 to R580) -/

/-- Bytes 0x00 to 0x17 of a log entry (Table 17.8). -/
def logBody (seq : Nat) (p : Pend) : List Nat :=
  leBytes 4 seq ++ [p.ev, p.count % 256] ++ leBytes 2 p.code ++ leBytes 6 p.frame ++ [p.src % 256, p.cls % 4 + flagAt p.latched 2] ++
    leBytes 4 p.arg ++ leBytes 4 p.seconds

/-- CHAIN of the entry before (R579). -/
def EventLog.chainBefore (l : EventLog) : List Nat :=
  match l.entries with
  | [] => (sha256 (leBytes 8 Config.chipSerial)).take 8
  | e :: _ => e.chain

/-- An occurrence becomes the next log entry (R578, R579). -/
def EventLog.append (p : Pend) (l : EventLog) : EventLog :=
  let body := logBody l.nextSeq p
  let h := sha256 (l.chainBefore ++ body)
  { l with
    nextSeq := (l.nextSeq + 1) % 2 ^ 32, head := h
    entries := ({ seq := l.nextSeq, body := body, chain := h.take 8 } :: l.entries).take 2048 }

/-- EVENT_LOG_WRITE (R580): the next occurrence delivered to LOG is written, outside the commit slot. -/
def eventLogWrite (s : State) : State :=
  match s.log.due with
  | [] => s
  | p :: ps => if s.frame.committing || !s.ceUp then s else { s with log := { s.log with due := ps }.append p }

/-- At a reset, up to `n` entries are written, BROWNOUT first, and the rest are lost (R580). -/
def EventLog.flush (n : Nat) (l : EventLog) : EventLog :=
  let order := (l.due.filter fun p => p.ev == 36) ++ l.due.filter fun p => p.ev != 36
  let l1 := (order.take n).foldl (fun acc p => acc.append p) { l with due := [] }
  { l1 with lostBk := l1.lostBk + (order.length - n) }

end Sys2Proof.Machine
end

