-- ==== Sys2Proof/Machine/Spi.lean ====
section
/-! DEFINITION. The SPI host port (R467 to R471, R635) and the delivery of events to their destinations (R36 to R41). -/

namespace Sys2Proof.Machine

open Sys2Proof

/-- LK is powered and the device runs: the links answer. -/
def State.lkUp (s : State) : Bool := s.linksUp && (s.pwr.dom 4).on

/-- The status preamble (Table 14.3). -/
def State.spiStatusBytes (s : State) : List Nat :=
  leBytes 2 s.q.spiWords ++ leBytes 2 (512 - s.q.spiInWords) ++ [1 + flagAt s.q.spiError 1, s.q.gen 1 % 256] ++
    leBytes 2 (natAt s.q.linkErrors 1)

/-- A command preamble is faulty (R635). -/
def preambleFaulty (pre : List Nat) : Bool :=
  decide (pre.length < 8) || decide (2 < natAt pre 0) || natAt pre 1 != 0 || !((pre.drop 4).take 4).all fun b => b == 0

/-- WORDS of a preamble. -/
def preambleWords (pre : List Nat) : Nat := ofLe ((pre.drop 2).take 2)

/-- The status has been sent; ERROR speaks of what comes after it. -/
def Queues.statusSent (bytes : List Nat) (q : Queues) : Queues := { q with status := bytes, spiError := false }

/-- A discarded transaction (R635, R468). -/
def State.spiDiscard (s : State) : State :=
  { s with q := { s.q with spiError := true } }.linkError 1

/-- The records that whole fit a number of words, oldest first (R469). -/
def recordsFitting : Nat → List OutRec → List OutRec
  | _, [] => []
  | n, o :: os => if o.record.size ≤ n then o :: recordsFitting (n - o.record.size) os else []

/-- Effect of a READ of WORDS words of which `clocked` were clocked out (R469). -/
def State.spiSend (words clocked : Nat) (s : State) : State :=
  let rs := recordsFitting words s.q.spiOut
  let ws := rs.flatMap fun o => o.record.words
  let done := recordsFitting (min clocked words) rs
  let q1 := { s.q with
    sent := (ws ++ List.replicate (words - ws.length) 0).take (min clocked words)
    spiOut := s.q.spiOut.drop done.length }
  { s with q := q1.refillHost q1.spiHeld.length }.count [linkAct 0x61 done.length]

/-- Effect of a WRITE with the words received before SCS rises (R468). -/
def State.spiReceive (pre words : List Nat) (s : State) : State :=
  if 512 - s.q.spiInWords < preambleWords pre ∨ words.length < preambleWords pre then s.spiDiscard
  else match wholeRecords (preambleWords pre) (words.take (preambleWords pre)) with
    | none => s.spiDiscard
    | some rs => s.takeSpi rs

/-- One SPI transaction: the status goes out, and the command takes effect unless the transaction is discarded. -/
def State.spiTransaction (pre words : List Nat) (clocked : Nat) (s : State) : State :=
  if !s.lkUp then s
  else
    let s1 := { s with q := s.q.statusSent s.spiStatusBytes }
    if preambleFaulty pre then
      State.spiDiscard { s1 with q := { s1.q with sent := List.replicate (if natAt pre 0 = 2 then min clocked (preambleWords pre) else 0) 0 } }
    else match natAt pre 0 with
      | 1 => s1.spiReceive pre words
      | 2 => s1.spiSend (preambleWords pre) clocked
      | _ => s1

/-- SPI_STATUS (R467): a transaction by its preamble alone. -/
def spiStatus (pre : List Nat) (s : State) : State := s.spiTransaction pre [] 0

/-- SPI_WRITE (R468). -/
def spiWrite (pre words : List Nat) (s : State) : State := s.spiTransaction pre words 0

/-- SPI_READ (R469). -/
def spiRead (pre : List Nat) (clocked : Nat) (s : State) : State := s.spiTransaction pre [] clocked

/-! ### Delivery of events (R37 to R40) -/

/-- The EVENT payload (Table 1.9). -/
def Pend.words (p : Pend) : List Nat :=
  let f := if p.latched then p.seconds else p.frame
  [p.ev % 64 * 2 ^ 24 + p.count % 256 * 65536 + p.code % 65536, f % 2 ^ 32, flagAt p.latched 31 + f / 2 ^ 32 % 65536, p.tick % 2 ^ 20,
   p.arg % 2 ^ 32]

/-- The EVENT record in a session's generation (R28, R40). -/
def Pend.record (gen : Nat) (p : Pend) : Record :=
  { type := 0x05, gen := gen, cls := p.cls, src := p.src, qual := 1, frame := p.frame, payload := p.words }

/-- The oldest occurrence that waits for a destination (R37). -/
def State.nextFor (s : State) (d : Dest) : Option Pend := s.events.find? fun p => decide (p.dest = d) && !p.offered

/-- The destination is powered and has room for an occurrence (R36, R39). -/
def State.hasRoom (s : State) : Dest → Bool
  | .core => s.ceUp
  | .host => s.lkUp && s.q.spiHeld.isEmpty && decide (s.q.spiWords + 7 ≤ 2048)
  | .log => s.ceUp
  | .iol => s.lkUp && decide (s.iol.events.length < 16)
  | .mbus => s.lkUp
  | .pl => s.lkUp && decide (s.pl.events.length < 8)

/-- An occurrence as it is delivered: one latched in BK carries the frame of its delivery (R28). -/
def Pend.delivered (frame : Nat) (p : Pend) : Pend := if p.latched then { p with frame := frame } else p

/-- What a destination does with an occurrence. -/
def State.deliverTo (d : Dest) (p0 : Pend) (s : State) : State :=
  let p := p0.delivered s.frame.number
  let s1 := { s with events := s.events.erase p0 }
  match d with
  | .core => State.coreWake { s with events := s.events.map fun x => if x = p0 then { p with offered := true } else x }
  | .host => { s1 with q := s1.q.toHost [({ record := p.record (s1.q.gen 1), sirq := true } : OutRec)] }
  | .log => { s1 with log := { s1.log with due := s1.log.due ++ [p] } }
  | .iol => { s1 with iol := { s1.iol with events := s1.iol.events ++ [p] } }
  | .mbus => { s1 with mbus := { s1.mbus with
      flags := s1.mbus.flags ||| 2 ^ (p.ev % 64), shown := s1.mbus.shown - (s1.mbus.shown &&& 2 ^ (p.ev % 64)) } }
  | .pl => { s1 with pl := { s1.pl with events := s1.pl.events ++ [p] } }

/-- EVENT_DELIVERY (R38): the oldest occurrence that waits for a destination reaches it once there is room. -/
def eventDelivery (d : Dest) (s : State) : State :=
  match s.nextFor d with
  | none => s
  | some p => if s.hasRoom d then s.deliverTo d p else s

end Sys2Proof.Machine
end

