-- ==== Sys2Proof/Machine/MBus.lean ====
section
/-! DEFINITION. The wired M-Bus slave (R488 to R496): addressing, the standard records, the error flags, and the dictionary
block. Layouts that the spec leaves to EN 13757-3 are taken from it (PRESUMED, log 70). -/

namespace Sys2Proof.Machine

open Sys2Proof

/-- Change the M-Bus slave. -/
def State.modMbus (f : MBus → MBus) (s : State) : State := { s with mbus := f s.mbus }

/-! ### Addressing (R490, R496) -/

/-- A frame with the address is one the device acts on (R490). -/
def State.mbusAddressed (s : State) (addr : Nat) : Bool :=
  addr == s.on_ 0x1808 1 || (addr == 253 && s.mbus.selected) || addr == 254 || addr == 255

/-- MBUS_FRAME (Table 14.16). -/
def mbusFrame (addr c ci : Nat) : Raised :=
  { ev := 42, code := addr % 256 * 256 + c % 256, arg := ci % 256, src := 0x4D, cls := 2 }

/-- A frame addressed to the device is taken: the event, and the idle times start again (R464, R489, R496). -/
def State.mbusTake (addr c ci : Nat) (act : State → State) (s : State) : State :=
  if s.lkUp && s.mbusAddressed addr then
    act (((s.modMbus fun m => { m with heard := s.frame.absTick, sent := [] }).count [linkAct 0x60 1]).raise (mbusFrame addr c ci))
  else s

/-- An answer is sent; broadcast 255 is acted on without one (R490). -/
def State.mbusSend (addr : Nat) (bytes : List Nat) (s : State) : State :=
  if addr = 255 then s else (s.modMbus fun m => { m with sent := bytes }).count [linkAct 0x61 1]

/-- The single-character acknowledgement. -/
def State.mbusAck (addr : Nat) (s : State) : State := s.mbusSend addr [0xE5]

/-- C field of a SND_UD with its FCB. -/
def sndUd (fcb : Bool) : Nat := 0x53 + flagAt fcb 5

/-! ### Records (R493, Table 14.12) -/

/-- The quantity of the energy record: HEAT for a liquid medium, GAS_ENERGY for a gas; HEAT while no medium is known
(DESIGN CHOICE, log 71). -/
def State.mbusEnergy (s : State) : Nat :=
  if medKind s.eff s.flow.known = 3 ∨ medKind s.eff s.flow.known = 4 then 9 else 7

/-- VIF of an energy: kJ, or Wh with ENERGY_WH. -/
def State.energyVif (s : State) : Nat := if bitAt (s.on_ 0x1808 7) 15 then 0x03 else 0x0B

/-- An energy in mJ as its record carries it. -/
def State.energyValue (s : State) (mj : Nat) : Nat := if bitAt (s.on_ 0x1808 7) 15 then mj / 3600000 else mj / 1000000

/-- Eight bytes of a count. -/
def eight (n : Nat) : List Nat := leBytes 8 (fitU 64 (n : Int))

/-- A type F date and time (PRESUMED, log 70). -/
def typeF (f : Fields) (summer invalid : Bool) : List Nat :=
  let y := f.year % 100
  [f.minute + flagAt invalid 7, f.hour + (f.year / 100 - 19) % 4 * 32 + flagAt summer 7, f.day + y % 8 * 32,
   f.month + y / 8 * 16]

/-- A type G date (PRESUMED, log 70). -/
def typeG (f : Fields) : List Nat :=
  let y := f.year % 100
  [f.day + y % 8 * 32, f.month + y / 8 * 16]

/-- A 96-bit register of a snapshot's words. -/
def snapReg (ws : List Nat) (i : Nat) : Nat := ofLe (bytesOfWords ((ws.drop (7 + 3 * i)).take 3))

/-- The power of the last frame, W (Table 14.12). -/
def State.mbusPower (s : State) : Nat :=
  fitU 32 (roundAway (quo (quo (incOf s.qty.gained s.mbusEnergy : Nat) ((2 ^ 32 : Nat) : Rat)) (s.qty.gainedTime * 1000)))

/-- Hundredths of a kelvin of a value in mK, two bytes. -/
def hundredth (mk : Int) : List Nat := leBytes 2 (unsigned 16 (fitS 16 (roundAway (quo (mk : Rat) 10))))

/-- The standard record of a bit; none of the records of a value the device does not have (DESIGN CHOICE, log 71). -/
def State.mbusRecord (s : State) (bit : Nat) : List Nat :=
  let reg := fun (i : Nat) => (s.qty.reg i).value
  match bit with
  | 0 => [0x07, 0x13] ++ eight (reg 0 / 1000000)
  | 1 => [0x07, 0x93, 0x3C] ++ eight (reg 1 / 1000000)
  | 2 => [0x07, s.energyVif] ++ eight (s.energyValue (reg s.mbusEnergy))
  | 3 => [0x87, 0x40, s.energyVif] ++ eight (s.energyValue (reg 8))
  | 4 => [0x04, 0x3A] ++ leBytes 4 (unsigned 32 (fitS 32 (roundAway (quo ((s.flow.last.getD s.flow.blankOut).q * 36 : Int) 1000000))))
  | 5 => [0x04, 0x2B] ++ leBytes 4 s.mbusPower
  | 6 => (s.flowReturn.map fun p => [0x02, 0x59] ++ hundredth p.1.1).getD []
  | 7 => (s.flowReturn.map fun p => [0x02, 0x5D] ++ hundredth p.2.1).getD []
  | 8 => (s.flowReturn.map fun p => [0x02, 0x61] ++ hundredth (p.1.1 - p.2.1)).getD []
  | 9 => [0x04, 0x6D] ++ typeF s.cal.fields s.cal.dst (s.cal.invalid || s.cal.uncertain)
  | 10 =>
    match s.bill.stored with
    | [] => []
    | w :: _ =>
      let inst := natAt w 1 / 65536 * 2 ^ 32 + natAt w 2
      [0x47, 0x13] ++ eight (snapReg w 0 / 1000000) ++ [0x47, s.energyVif] ++ eight (s.energyValue (snapReg w s.mbusEnergy)) ++
        [0x42, 0x6C] ++ typeG (Fields.of (s.localOf inst))
  | 11 => [0x07, 0xFD, 0x17] ++ leBytes 8 s.mbus.flags
  | _ => []

/-- The dictionary block at the end of the last telegram (R495). -/
def MBus.block (m : MBus) : List Nat := if m.answer.isEmpty then [] else 0x0F :: m.answer

/-- The items of an answer in order: the enabled records, then the block. -/
def State.mbusItems (s : State) : List (List Nat) :=
  let w := s.on_ 0x1808 7
  (((List.range 12).filter (bitAt w)).map s.mbusRecord ++ [if bitAt w 12 then s.mbus.block else []]).filter fun x => !x.isEmpty

/-- Items packed into telegrams: the 12 header bytes and the records are at most 252 bytes, and a telegram that is not the
last ends with DIF 0x1F (R493). -/
def packItems (room : Nat) : List Nat → List (List Nat) → List (List Nat)
  | sofar, [] => [sofar]
  | sofar, x :: xs =>
    if sofar.length + x.length ≤ room ∨ sofar.isEmpty then packItems room (sofar ++ x) xs
    else (sofar ++ [0x1F]) :: packItems room x xs

/-- The status byte (R494). -/
def State.mbusStatus (s : State) : Nat :=
  flagAt (decide (s.mode = .taper) || s.qty.lost) 3 + flagAt (s.mbus.flags != 0) 4

/-- CI 0x72 and the long data header. -/
def State.mbusHeader (s : State) (accessNo : Nat) : List Nat :=
  [0x72] ++ leBytes 4 (s.on_ 0x1808 2) ++ leBytes 2 (s.on_ 0x1808 3) ++ [s.on_ 0x1808 4, s.on_ 0x1808 5, accessNo, s.mbusStatus, 0, 0]

/-- A new RSP_UD with a body (R489): the access number advances; `withFlags` says that it carries the error flags. -/
def State.newRsp (addr : Nat) (body : List Nat) (withFlags : Bool) (s : State) : State :=
  let n := (s.mbus.accessNo + 1) % 256
  let bytes := s.mbusHeader n ++ body
  (s.modMbus fun m =>
    { m with accessNo := n, last := bytes, shown := if withFlags then m.flags else m.shown }).mbusSend addr bytes

/-- What a request with a toggled FCB clears: the flags the RSP_UD before carried (R494). -/
def MBus.delivered (m : MBus) : MBus := { m with flags := m.flags - (m.flags &&& m.shown), shown := 0 }

/-- A REQ_UD2 or REQ_UD1: repeated under an unchanged FCB, else answered anew (R489). -/
def State.mbusReq (addr : Nat) (fcb : Bool) (fresh : State → State) (s : State) : State :=
  if s.mbus.fcb = some (flag fcb) ∧ !s.mbus.last.isEmpty then s.mbusSend addr s.mbus.last
  else fresh (s.modMbus fun m => { m.delivered with fcb := some (flag fcb) })

/-- The next telegram of the standard records (R493). -/
def State.nextTelegram (addr : Nat) (s : State) : State :=
  let pages := if s.mbus.telegram = 1 then packItems 239 [] s.mbusItems else s.mbus.pages
  let k := s.mbus.telegram
  let body := pages.getD (k - 1) []
  let flags := decide (k = 1) && bitAt (s.on_ 0x1808 7) 11
  let s1 := (s.modMbus fun m => { m with pages := pages, telegram := if k < pages.length then k + 1 else 1 }).newRsp addr body flags
  if pages.length ≤ k ∧ s.mbus.request.isSome then s1.count [linkAct 0x66 1] else s1

/-! ### Requests (R488, Table 14.11) -/

/-- The M-Bus session ends or begins anew: the response, the open request and the HELLO answer are gone. -/
def State.mbusSession (on_ : Bool) (s : State) : State :=
  { s with
    mbus := { s.mbus with session := on_, request := none, answer := [], hello := List.replicate 20 0 }
    q := { s.q with gens := setAt s.q.gens 3 (flag on_) }
    acc := { s.acc with waiting := s.acc.waiting.filter fun r => r.via.port != 3 } }

/-- SND_NKE. -/
def sndNke (addr : Nat) (s : State) : State :=
  s.mbusTake addr 0x40 0 (fun s1 =>
    ((s1.mbusSession true).modMbus fun m => { m with fcb := none, selected := false }).mbusAck addr) 

/-- REQ_UD2 (R489, R493). -/
def reqUd2 (addr : Nat) (fcb : Bool) (s : State) : State :=
  s.mbusTake addr (0x5B + flagAt fcb 5) 0 (fun s1 => s1.mbusReq addr fcb (fun s2 => s2.nextTelegram addr))

/-- REQ_UD1 (R488, R489): the error-flags record where a flag is set, else E5. -/
def reqUd1 (addr : Nat) (fcb : Bool) (s : State) : State :=
  s.mbusTake addr (0x5A + flagAt fcb 5) 0 (fun s1 => s1.mbusReq addr fcb (fun s2 =>
    if s2.mbus.flags = 0 then (s2.modMbus fun m => { m with last := [0xE5] }).mbusAck addr else s2.newRsp addr (s2.mbusRecord 11) true))

/-- MBUS_SET_PRIMARY_ADDRESS (R491): in TAPER the write is refused (R499), and counted as one that is not served. -/
def mbusSetPrimaryAddress (addr value : Nat) (fcb : Bool) (s : State) : State :=
  s.mbusTake addr (sndUd fcb) 0x51 (fun s1 =>
    if s1.on_ 0x1808 1 ≠ 0 ∨ s1.mode = .taper then s1.linkError 3
    else
      let w := s1.write { via := .mbus, gen := s1.sessionGen .mbus, index := 0x1808, sub := 1, data := [value % 256],
                          role := Role.operator, env := none }
      if w.2 = abortOk then w.1.mbusAck addr else w.1.linkError 3)

/-- MBUS_DICTIONARY_REQUEST (R495, Table 14.13): a request block. A reserved OP or a LENGTH above 200 is answered with TYPE
(DEDUCED, log 72). -/
def mbusDictionaryRequest (addr : Nat) (fcb : Bool) (op id index sub : Nat) (data : List Nat) (s : State) : State :=
  s.mbusTake addr (sndUd fcb) 0x51 (fun s1 =>
    if s1.mbus.request.isSome then s1.linkError 3
    else
      (s1.take { via := .mbus, gen := s1.sessionGen .mbus, hdr := s1.sessionGen .mbus, bad := decide (3 ≤ op) || decide (200 < data.length),
                 op := op, index := index, sub := sub, id := id, data := data }).mbusAck addr)

/-- A field of a selection matches: equal, or a wildcard (R490). -/
def wild (wildcard own asked : Nat) : Bool := asked == wildcard || asked == own

/-- A selection matches the device (R490). -/
def State.selectionMatches (s : State) (id manufacturer version medium : Nat) : Bool :=
  ((List.range 8).all fun i => wild 15 (s.on_ 0x1808 2 / 16 ^ i % 16) (id / 16 ^ i % 16)) &&
    wild 0xFFFF (s.on_ 0x1808 3) manufacturer && wild 0xFF (s.on_ 0x1808 4) version && wild 0xFF (s.on_ 0x1808 5) medium

/-- MBUS_SELECTION (R490): it comes to address 253, which addresses the device while it is selected; one that does not match
deselects it without an answer. -/
def mbusSelection (fcb : Bool) (ident manufacturer version medium : Nat) (s : State) : State :=
  if !s.lkUp then s
  else if s.selectionMatches ident manufacturer version medium then
    (s.modMbus fun m => { m with selected := true }).mbusTake 253 (sndUd fcb) 0x52 (fun s1 => s1.mbusAck 253)
  else (s.mbusTake 253 (sndUd fcb) 0x52 id).modMbus fun m => { m with selected := false }

/-- MBUS_APPLICATION_RESET. -/
def mbusApplicationReset (addr : Nat) (fcb : Bool) (s : State) : State :=
  s.mbusTake addr (sndUd fcb) 0x50 (fun s1 => (s1.modMbus fun m => { m with telegram := 1 }).mbusAck addr)

/-- MBUS_BAUD_CHANGE: CI 0xB8 to 0xBD. -/
def mbusBaudChange (addr ci : Nat) (fcb : Bool) (s : State) : State :=
  if 0xB8 ≤ ci ∧ ci ≤ 0xBD then
    s.mbusTake addr (sndUd fcb) ci (fun s1 => (s1.mbusAck addr).modMbus fun m => { m with baud := ci - 0xB8 })
  else s

/-- MBUS_FRAME_IGNORED (R466, R488): a faulty frame, or one with a C or CI field that Table 14.11 does not list; the latter
raises MBUS_FRAME where it is addressed to the device. -/
def mbusFrameIgnored (faulty : Bool) (addr c ci : Nat) (s : State) : State :=
  if !s.lkUp then s
  else if faulty then s.linkError 3
  else s.mbusTake addr c ci (fun s1 => s1.linkError 3)

/-- No frame addressed to the device has come for some seconds (R464, R489). -/
def State.mbusIdleFor (seconds : Nat) (s : State) : Bool := decide (s.mbus.heard + 32768 * seconds ≤ s.frame.absTick)

/-- MBUS_SESSION_IDLE (R464). -/
def mbusSessionIdle (s : State) : State :=
  if s.mbus.session && s.mbusIdleFor (s.on_ 0x1808 8) then s.mbusSession false else s

/-- MBUS_BAUD_REVERT (R489). -/
def mbusBaudRevert (s : State) : State :=
  if s.mbusIdleFor 600 then s.modMbus fun m => { m with baud := s.on_ 0x1808 6 } else s

/-- MBUS_START_BIT_WAKE (R406, R496): a start bit while the device sleeps. -/
def mbusStartBitWake (s : State) : State :=
  if s.pwr.state = .wick ∨ s.pwr.state = .snuff ∨ s.pwr.state = .doze then s.raise (mbusFrame 0 0 0) else s

end Sys2Proof.Machine
end

