-- ==== Sys2Proof/Machine/IoLink.lean ====
section
/-! DEFINITION. The IO-Link device (R472 to R487): M-sequences, process data, ISDU requests, standard indices, events and
Data Storage. The spec names the IO-Link standard for the layout of its standard indices: those layouts are PRESUMED
(log 66). -/

namespace Sys2Proof.Machine

open Sys2Proof

/-- Change the IO-Link device. -/
def State.modIol (f : IoLink → IoLink) (s : State) : State := { s with iol := f s.iol }

/-- PD_IN_LEN in force. -/
def IoLink.inLen (d : IoLink) : Nat := min 32 (field d.config 12 7)
/-- PD_OUT_LEN in force. -/
def IoLink.outLen (d : IoLink) : Nat := min 32 (field d.config 6 1)

/-! ### Sessions (R464) -/

/-- The session ends (R464): what it held is gone. -/
def State.endIol (s : State) : State :=
  { s.modIol fun d => { d with
      state := 0, lastStart := none, hello := List.replicate 20 0, pdValid := false, response := none, busy := false,
      downloading := false, download := [], uploading := false } with
    q := { s.q with gens := setAt s.q.gens 2 0 } }

/-- The device enters STARTUP after a wake-up request: IOL_CONFIG applies and a session begins (R464, R499). -/
def State.startIol (s : State) : State :=
  let s1 := s.endIol
  let c := s1.on_ 0x1802 1
  let s2 := s1.modIol fun d => { d with config := c, heard := s.frame.now, state := if bitAt c 15 then 1 else 0 }
  if bitAt c 15 then { s2 with q := { s2.q with gens := setAt s2.q.gens 2 1 }, pwr := s2.pwr.powered 4 } else s2

/-- FROM of IOL_WAKE (Table 14.16). -/
def PState.fromCode : PState → Nat
  | .run => 1
  | .doze => 2
  | .wick => 3
  | .snuff => 4
  | _ => 1

/-- IOL_WAKE (R406, R464): a wake-up request on LWU. In SNUFF the device starts, and no session begins. -/
def iolWake (s : State) : State :=
  let s1 := s.raise { ev := 40, code := s.pwr.state.fromCode, arg := 0, src := 0x4C, cls := 2 }
  if s.linksUp then s1.startIol else s1

/-- IOL_FALLBACK (R464). -/
def iolFallback (s : State) : State := if s.iol.state = 0 then s else s.endIol

/-- IOL_SESSION_TIMEOUT (R464): 1 s without a valid master message. -/
def iolSessionTimeout (s : State) : State :=
  if s.iol.state = 0 ∨ s.frame.now < s.iol.heard + usNow 1000000 then s else s.endIol

/-! ### Process data (R476 to R480) -/

/-- One item of PD_IN_MAP: the least significant LENGTH bytes of the value in force, most significant first; an item outside
R428 carries zero in TAPER (R476, R479). Filling the buffer is no read that clears the droop bit of VSD_STATUS (DESIGN CHOICE,
log 67). -/
def State.pdItem (s : State) (w : Nat) : List Nat :=
  let index := field w 31 16
  let sub := field w 15 8
  let n := field w 7 4
  let bytes := match rowOf (key index sub) with
    | some row => if s.mode = .taper ∧ !taperReads index sub then [] else s.readBytes .isdu 3 row index sub
    | none => []
  ((bytes ++ List.replicate 12 0).take n).reverse

/-- The process data input of the values in force, 32 octets. -/
def State.pdBuild (s : State) : List Nat :=
  (((List.range 8).flatMap fun i => s.pdItem (s.on_ 0x1804 (i + 1))) ++ List.replicate 32 0).take 32

/-- The idle buffer takes the values in force of a boundary, for its swap at t + 50 µs (R478): nothing serves a request, so
that no value changes, from t to then (R452, DEDUCED). -/
def State.fillPd (s : State) : State := s.modIol fun d => { d with pdNext := some (s.pdBuild, d.state != 0) }

/-- The filled buffer becomes the one the master reads. -/
def IoLink.swapPd (d : IoLink) : IoLink :=
  match d.pdNext with
  | none => d
  | some (bytes, inSession) => { d with pdIn := bytes, pdNext := none, pdValid := d.pdValid || (inSession && d.state != 0) }

/-- The swap at t + 50 µs (R478): what begins before it still reads the old buffer. -/
def State.swapPd (s : State) : State := if us 50 / 125 ≤ s.frame.cyc then s.modIol IoLink.swapPd else s

/-- Process data input is marked invalid (R479). -/
def State.pdInvalid (s : State) : Bool := decide (s.mode = .config) || decide (s.mode = .taper) || !s.iol.pdValid

/-- The device's answer to an M-sequence: in OPERATE the process data, then the check octet, its bit 7 the event flag and its
bit 6 the invalid mark; the six checksum bits are the standard's and are left out (log 67). -/
def State.mReply (s : State) : List Nat :=
  (if s.iol.state = 3 then s.iol.pdIn.take s.iol.inLen else []) ++
    [flagAt (!s.iol.events.isEmpty) 7 + flagAt s.pdInvalid 6]

/-- The type of an event as IO-Link reports it (Table 14.10): 3 error, 2 warning, 1 notification. -/
def iolEventType (ev : Nat) : Nat :=
  if ([25, 56, 57, 63] : List Nat).contains ev then 3 else if forcedLog ev then 2 else 1

/-- An event as the master reads it (R485): the qualifier (single shot, its type, the device's application) and the code
0x1800 + n; the standard's bits of the qualifier are PRESUMED (log 67). -/
def iolEventOctets (p : Pend) : List Nat := [64 + 16 * iolEventType p.ev + 4] ++ beBytes 2 (0x1800 + p.ev)

/-- The oldest pending event is reported and leaves the queue; its payload is kept (R485). -/
def State.reportIolEvent (s : State) : State :=
  match s.iol.events with
  | [] => s
  | p :: ps => s.modIol fun d =>
      { d with events := ps, lastEvent := bytesOfWords p.words, reply := iolEventOctets p ++ d.reply }

/-- IOL_M_SEQUENCE (R475, R480, R485): a master message that begins at a time of the frame. With a sound checksum it is
answered, process data output is swapped in, a master command may lead to PREOPERATE (2) or OPERATE (3), and a message that
reads the pending event takes it; otherwise it counts as a link error. -/
def iolMSequence (cyc : Nat) (sound : Bool) (command : Nat) (pdOut : List Nat) (pdOutValid takesEvent : Bool) (s0 : State) :
    State :=
  if !s0.lkUp || s0.iol.state == 0 then s0
  else
    let s := State.swapPd { s0 with frame := s0.frame.at_ cyc }
    if !sound then (s.modIol fun d => { d with reply := [] }).linkError 2
    else
      let t := s.frame.base + 8 * cyc
      let s1 := s.modIol fun d =>
        let swapped := d.state == 3 && decide (0 < d.outLen)
        { d with
          cycleLast := match d.lastStart with
            | some l => min (2 ^ 32 - 1) ((t - l) / 512)
            | none => d.cycleLast
          lastStart := some t
          heard := s.frame.now
          reply := s.mReply
          pdOut := if swapped then (pdOut.take d.outLen ++ List.replicate 32 0).take 32 else d.pdOut
          pdOutValid := if swapped then pdOutValid else d.pdOutValid
          pdOutNew := d.pdOutNew || swapped
          state := if command = 2 ∧ d.state = 1 then 2 else if command = 3 ∧ (d.state = 1 ∨ d.state = 2) then 3 else d.state }
      (if takesEvent then s1.reportIolEvent else s1).count [linkAct 0x60 1, linkAct 0x61 1]

/-! ### Standard indices (R484, Table 14.9) -/

/-- The process data length octet of Direct Parameter page 1. -/
def pdCode (n : Nat) : Nat := if n = 0 then 0 else if n ≤ 2 then 8 * n else 127 + n

/-- The M-sequence capability: PREOPERATE TYPE_1_V with 8 octets, the OPERATE type of Table 14.6, ISDU supported. -/
def mSequenceCapability (inLen outLen : Nat) : Nat :=
  let op := if inLen = 0 ∧ outLen = 0 then 1 else if odOctets inLen outLen = 1 then 0 else 5
  2 * 16 + op * 2 + 1

/-- Direct Parameter page 1. -/
def State.page1 (s : State) : List Nat :=
  [0, 0, s.minCycle, mSequenceCapability s.iol.inLen s.iol.outLen, 0x11, pdCode s.iol.inLen, pdCode s.iol.outLen] ++
    beBytes 2 (s.at_ 0x0101 1) ++ beBytes 3 (s.at_ 0x0101 2) ++ [0, 0, 0, 0]

/-- The listed items of Data Storage: index and subindex; none while IOL_DS_ROLE reads 0 (R486, R487). -/
def State.dsItems (s : State) : List (Nat × Nat) :=
  if s.on_ 0x1803 0x11 = 0 then []
  else (((List.range 16).map fun i => s.on_ 0x1803 (i + 1)).filter fun w => w != 0).map fun w => (field w 31 16, field w 15 8)

/-- The value of a listed item in IO-Link order. -/
def State.dsValue (s : State) (p : Nat × Nat) : List Nat :=
  match rowOf (key p.1 p.2) with
  | some row => iolOrder p.1 p.2 (s.readBytes .isdu (s.sessionGen .isdu) row p.1 p.2)
  | none => []

/-- Index 0x03: State_Property, Data_Storage_Size, Parameter_Checksum and Index_List. -/
def State.dsIndex (s : State) (sub : Nat) : Option (List Nat) :=
  let vals := s.dsItems.map s.dsValue
  match sub with
  | 2 => some [flagAt s.iol.uploadFlag 7 + (if s.iol.uploading then 2 else if s.iol.downloading then 4 else 0)]
  | 3 => some (beBytes 4 ((vals.map List.length).sum))
  | 4 => some (beBytes 4 (crc32 vals.flatten))
  | 5 => some ((s.dsItems.flatMap fun p => beBytes 2 p.1 ++ [p.2]) ++ [0, 0])
  | _ => none

/-- A path is lost, a sensor is faulty, or a profile alarm stands: their event numbers. -/
def State.standingEvents (s : State) : List Nat :=
  (if s.ac.ctx.any fun c => c.lost then [10] else []) ++
  (if s.flow.bands.any fun b => b.standing then [19] else []) ++
  (if s.sen.vals.any fun v => v.measured && v.code != 0 && v.code != 8 then [20] else [])

/-- Device status (Table 14.9). -/
def State.deviceStatus (s : State) : Nat :=
  if s.mode = .taper then 4 else if s.mode = .config ∨ s.mode = .verify then 3
  else if !s.standingEvents.isEmpty then 2 else 0

/-- A read of a standard index: ErrorType, 0 for none, and data. -/
def State.standardRead (s : State) (index sub : Nat) : Nat × List Nat :=
  match index with
  | 0x00 => (0, s.page1)
  | 0x01 => (0, List.replicate 16 0)
  | 0x02 => (0x8023, [])
  | 0x03 => match s.dsIndex sub with
    | some d => (0, d)
    | none => (0x8012, [])
  | 0x20 => (0, beBytes 2 (min 0xFFFF (natAt s.q.linkErrors 2 + natAt s.acc.failsOf 2)))
  | 0x24 => (0, [s.deviceStatus])
  | 0x25 => (0, (s.standingEvents.take 8).flatMap fun e => beBytes 2 (0x1800 + e))
  | 0x28 => (0, s.iol.pdIn.take s.iol.inLen)
  | 0x29 => (0, s.iol.pdOut.take s.iol.outLen)
  | _ => (0x8011, [])

/-- A write of a standard index other than the system command and the identification texts. -/
def standardWrite (index : Nat) : Nat :=
  if [0x00, 0x01, 0x03, 0x20, 0x24, 0x25, 0x28, 0x29].contains index then 0x8023 else 0x8011

/-! ### Data Storage (R486, R487) -/

/-- The answer of a system command. -/
def State.answerIol (err : Nat) (data : List Nat) (s : State) : State :=
  s.modIol fun d => { d with response := some (err, data), busy := false }

/-- PARAM_UPLOAD_START: system command 0x01. -/
def paramUploadStart (s : State) : State :=
  if s.iol.state = 0 then s else (s.modIol fun d => { d with uploading := true }).answerIol 0 []

/-- PARAM_UPLOAD_END: system command 0x02; the master holds the parameters, and the upload flag clears. -/
def paramUploadEnd (s : State) : State :=
  if s.iol.state = 0 then s else (s.modIol fun d => { d with uploading := false, uploadFlag := false }).answerIol 0 []

/-- PARAM_DOWNLOAD_START: system command 0x03 (R487). -/
def paramDownloadStart (s : State) : State :=
  if s.iol.state = 0 then s
  else if s.on_ 0x1803 0x11 = 0 then s.answerIol 0x8023 []
  else (s.modIol fun d => { d with downloading := true, download := [] }).answerIol 0 []

/-- The writes of a download, one after another as OPERATOR; none where one is refused (R487). -/
def State.applyDownload (s : State) : List (Nat × Nat × List Nat) → Option State
  | [] => some s
  | (index, sub, data) :: ws =>
    if !s.dsItems.contains (index, sub) || decide (s.mode = .taper) then none
    else
      let r := s.write { via := .isdu, gen := s.sessionGen .isdu, index := index, sub := sub, data := data, role := .operator, env := none }
      if r.2 = abortOk then r.1.applyDownload ws else none

/-- The download ends: its writes are applied whole, or discarded and answered 0x8041 (R487). -/
def State.endDownload (store : Bool) (s : State) : State :=
  if s.iol.state = 0 then s
  else if !s.iol.downloading then s.answerIol (if s.on_ 0x1803 0x11 = 0 then 0x8023 else 0) []
  else
    let clear := fun (x : State) => x.modIol fun d =>
      { d with downloading := false, download := [], uploadFlag := s.iol.uploadFlag || store }
    match s.applyDownload s.iol.download with
    | some t => (clear t).answerIol 0 []
    | none => (s.modIol fun d => { d with downloading := false, download := [] }).answerIol 0x8041 []

/-- PARAM_DOWNLOAD_END: system command 0x04 (R487). -/
def paramDownloadEnd (s : State) : State := s.endDownload false

/-- PARAM_DOWNLOAD_STORE: system command 0x05: the download is applied in the same way, and an upload of it is asked for. -/
def paramDownloadStore (s : State) : State := s.endDownload true

/-- PARAM_BREAK: system command 0x06. -/
def paramBreak (s : State) : State :=
  if s.iol.state = 0 then s
  else (s.modIol fun d => { d with downloading := false, download := [], uploading := false }).answerIol 0 []

/-- A system command by its code (Table 14.5). -/
def State.systemCommand (code : Nat) (s : State) : State :=
  match code with
  | 1 => paramUploadStart s
  | 2 => paramUploadEnd s
  | 3 => paramDownloadStart s
  | 4 => paramDownloadEnd s
  | 5 => paramDownloadStore s
  | 6 => paramBreak s
  | _ => s.answerIol 0x8035 []

/-! ### ISDU requests (R481, R482) -/

/-- An entry that cannot be carried singly (R481). -/
def tooLong (index sub : Nat) : Bool :=
  index != 0x0150 && match rowOf (key index sub) with
    | some row => decide (232 < row.ty.bytes)
    | none => false

/-- A dictionary request by ISDU; data is in IO-Link order. -/
def State.isduRequest (wr : Bool) (index sub : Nat) (data : List Nat) (s : State) : State :=
  let gen := s.sessionGen .isdu
  if sub = 0 ∧ wr ∧ 1 < highestSub index gen then s.answerIol 0x8012 []
  else
    let sub1 := if sub = 0 ∧ wr ∧ customerIndex index = false then 1 else sub
    if tooLong index sub1 ∨ 232 < data.length ∨ (!wr ∧ sub = 0 ∧ 232 < (s.readAll .isdu gen index).length) then
      s.answerIol 0x8033 []
    else if wr ∧ s.iol.downloading then
      (s.modIol fun d => { d with download := d.download ++ [(index, sub1, iolOrder index sub1 data)] }).answerIol 0 []
    else
      let s1 := (s.modIol fun d => { d with response := none, busy := true }).submit
        { via := .isdu, gen := gen, hdr := gen, bad := false, op := if wr then 2 else 1, index := index, sub := sub1, id := 0,
          data := if wr then iolOrder index sub1 data else [] }
      if s1.iol.busy then s1.count [linkAct 0x66 1] else s1

/-- IOL_ISDU (R481, R482, R484). -/
def iolIsdu (wr : Bool) (index sub : Nat) (data : List Nat) (s0 : State) : State :=
  if !s0.lkUp || s0.iol.state == 0 || s0.iol.busy then s0
  else
    let s := s0.swapPd.modIol fun d => { d with heard := s0.frame.now }
    let s1 := s.raise
      { ev := 41, code := flagAt wr 15, arg := index % 65536 * 65536 + sub % 256 * 256, src := 0x4C, cls := 2 }
    if 0x4000 ≤ index then s1.answerIol 0x8011 []
    else if 0x0100 ≤ index then s1.isduRequest wr index sub data
    else if 0x10 ≤ index ∧ index ≤ 0x18 then s1.isduRequest wr 0x0100 (index - 0x0F) data
    else if index = 0x02 ∧ wr then s1.systemCommand (natAt data 0)
    else if wr then s1.answerIol (standardWrite index) []
    else s1.answerIol (s1.standardRead index sub).1 (s1.standardRead index sub).2

end Sys2Proof.Machine
end

