-- ==== Sys2Proof/Machine/Powerline.lean ====
section
/-! DEFINITION. The powerline link (Chapter 15): the crossing tracker, the receiver, sessions and polling in both roles,
and transmissions. -/

namespace Sys2Proof.Machine

open Sys2Proof

/-! ### Configuration (Table 15.10) -/

/-- ENABLE, while AO is powered and out of reset (R500). -/
def State.plOn (s : State) : Bool :=
  bitAt (s.on_ 0x1900 1) 7 && decide (s.pwr.state ≠ .dark) && decide (s.pwr.state ≠ .starting) && decide (s.pwr.state ≠ .hold)

/-- The master role; in TAPER the engine acts as a slave (R523). -/
def State.plMaster (s : State) : Bool := bitAt (s.on_ 0x1900 1) 6 && decide (s.mode ≠ .taper)

/-- Pairs per bit (Table 15.2). -/
def State.plRepeat (s : State) : Nat := [1, 4, 6, 1].getD (field (s.on_ 0x1900 1) 4 3) 1

/-- PL_ADDRESS. -/
def State.plAddress (s : State) : Nat := s.on_ 0x1900 4

/-- A session of the link. -/
def Powerline.session (p : Powerline) (n : Nat) : PlSession := p.sessions.getD n PlSession.free

/-- An event of the powerline link. -/
def plEvent (ev code arg : Nat) : Raised := { ev := ev, code := code, arg := arg, src := 0x4F, cls := 2 }

/-! ### Transmissions (R500, R506, R524 to R527) -/

/-- The edits that waited for the end of a transmission take effect (R527). -/
def State.plEdits (s : State) : State :=
  let due := s.set.edits.filter fun e => decide (e.due = .txEnd)
  due.foldl (fun acc e => acc.force e.key e.value)
    { s with set := { s.set with edits := s.set.edits.filter fun e => decide (e.due ≠ .txEnd) } }

/-- A transmission is withdrawn, or cannot be sent: PL_TX_REFUSED counts (R526). -/
def State.plRefuse (s : State) : State :=
  ((s.modPl fun p => { p.silent with refused := satInc (2 ^ 32 - 1) p.refused }).plEdits).plRest

/-- The pulses of a frame in order: each bit most significant first, each of them R pairs (R506, R508, R510). -/
def State.plHalves (s : State) (bytes : List Nat) : List Bool :=
  let crc := crc16 0xFFFF bytes
  let bits := [true, true, true, true, true, false, false, true, true, false, true, false, true] ++
    (bytes ++ [crc % 256, crc / 256]).flatMap fun b => (List.range 8).map fun i => bitAt b (7 - i)
  bits.flatMap fun b => List.replicate s.plRepeat b

/-- The time after which the pair of a transmission's first pulse starts: `pairs` pairs after the last rising crossing. -/
def State.plAfter (s : State) (pairs : Rat) : Nat :=
  ((((s.pl.rising.getLast?.getD 0 : Nat) : Rat) + (pairs - 1 / 2) * (s.zcPeriod.getD s.mainsPeriod)).floor).toNat

/-- A transmission as it is asked for, its admission still open. -/
def State.plFrameTx (s : State) (bytes : List Nat) (pairs : Rat) : PlTx :=
  { bytes := bytes, halves := s.plHalves bytes, sent := 0, admitted := false, after := s.plAfter pairs }

/-- The wake pattern (R519): eight ONE pairs. -/
def State.wakeTx (s : State) : PlTx :=
  { bytes := [], halves := List.replicate 8 true, sent := 0, admitted := false, after := s.plAfter 1 }

/-- The waiting transmission is considered (R525, R526): at its request, and again at each boundary. -/
def State.plAdmit (s : State) : State :=
  match s.pl.tx with
  | none => s
  | some t => if t.admitted || !s.pl.locked || !s.admitsPulses then s
    else s.modPl fun p => { p with tx := some { t with admitted := true, after := max t.after (s.plAfter 1) } }

/-- A REPLY is sent in pair p + 2, or not at all (R513, R526). -/
def State.plSendReply (bytes : List Nat) (s : State) : State :=
  if s.pl.tx.isNone && s.pl.locked && s.admitsPulses then
    let t := s.plFrameTx bytes 2
    s.modPl fun p => { p with tx := some { t with admitted := true } }
  else s.modPl fun p => { p with refused := satInc (2 ^ 32 - 1) p.refused }

/-- A pulse may start at a time: the next one of the admitted transmission is predicted within 20 µs of it (R506). -/
def State.pulseDue (s : State) (start : Nat) : Bool :=
  s.plOn && s.pl.locked &&
    (s.nextPulse.map fun p => decide (p ≤ start + usNow 20) && decide (start ≤ p + usNow 20)).getD false

/-- PL_TRANSMIT_PULSE (R500, R506): the next pulse of the admitted transmission starts at a time of the frame. -/
def plTransmitPulse (cyc : Nat) (s : State) : State :=
  match s.pl.tx with
  | none => s
  | some t =>
    if s.pulseDue (s.frame.base + 8 * cyc) then
      let s1 := { s with frame := s.frame.at_ cyc }
      let start := s1.frame.base + 8 * cyc
      let crossing : Rat := quo (((start - usNow (s.on_ 0x1900 2) : Nat) : Rat) * 32) 15625
      (State.modPl (s := { s1 with frame := { s1.frame with pulsesSent := s1.frame.pulsesSent + 1 } }) fun p => { p with
        ple := true
        pulseAt := some start
        tx := some { t with sent := t.sent + 1, after := (crossing + (s.zcPeriod.getD s.mainsPeriod) / 4).floor.toNat } }).count
          [seqAct 0 0x17 1 (s.on_ 0x1900 3 + 40)]
    else s

/-- PLD at a time of the frame: high for WIDTH from the start of a pulse (R506). -/
def State.pld (s : State) (cyc : Nat) : Bool :=
  match s.pl.pulseAt with
  | none => false
  | some t => decide (t ≤ s.frame.base + 8 * cyc) && decide (s.frame.base + 8 * cyc < t + usNow (s.on_ 0x1900 3))

/-- PLE at a time of the frame: high from 50 µs before the first pulse of a transmission to its end (R500). -/
def State.plEnable (s : State) (cyc : Nat) : Bool :=
  s.pl.ple || (s.nextPulse.map fun p => decide (p ≤ s.frame.base + 8 * cyc + usNow 50)).getD false

/-- The time of the frame at which PLE falls: 50 µs after the last pulse (R500). -/
def State.pleFall (s : State) : Nat :=
  ((s.pl.pulseAt.map fun t => t + usNow (s.on_ 0x1900 3 + 50) - s.frame.base).getD 0 + 7) / 8

/-- PL_TRANSMISSION_END (R500, R526): all pulses are sent; 50 µs after the last one PLE falls, PL_TX_FRAMES counts, and the
edits that waited apply. After a wake pattern the POLL follows. -/
def plTransmissionEnd (s0 : State) : State :=
  match s0.pl.tx with
  | none => s0
  | some t =>
    if t.admitted && decide (t.sent = t.halves.length) && (!s0.frame.running || decide (s0.pleFall ≤ s0.frame.endCyc)) then
      let s := { s0 with frame := s0.frame.at_ s0.pleFall }
      let next := s.pl.txNext
      let s1 := (s.modPl fun p => { p.silent with txFrames := satInc (2 ^ 32 - 1) p.txFrames }).count [linkAct 0x61 1]
      match next with
      | none => s1.plEdits.plRest
      | some n => (s1.modPl fun p => { p with tx := some n }).plAdmit
    else s0

/-! ### The crossing tracker (R501 to R503) -/

/-- An unlock (R502, R503): both fits are discarded and the transmission ends. -/
def State.plUnlock (s : State) : State :=
  let s1 := s.modPl fun p => { p with rising := [], falling := [], locked := false, goodRun := 0, badRun := 0 }
  if s1.pl.tx.isSome then s1.plRefuse else s1

/-- How a crossing is judged: the accepted crossings after it, or none where it is rejected. -/
def State.judgeCrossing (s : State) (rising : Bool) (time : Nat) : Option (List Nat × Bool) :=
  let xs := s.pl.crossings rising
  let pm := s.mainsPeriod
  let t : Rat := (time : Rat)
  match s.zcLine rising with
  | some (p, a, last) =>
    let n := max ((last : Int) + 1) (roundAway (quo (t - a) p))
    let miss := t - (a + p * (n : Rat))
    if (if miss < 0 then -miss else miss) ≤ quo 1048576 10000 then some ((xs ++ [time]).drop (xs.length - 15), false) else none
  | none =>
    match xs.getLast? with
    | none => some ([time], true)
    | some l =>
      let gap := t - (l : Rat)
      if (List.range 8).any fun k =>
          let d := gap - ((k + 1 : Nat) : Rat) * pm
          decide ((if d < 0 then -d else d) ≤ pm / 100) then some (xs ++ [time], false)
      else some ([time], true)

/-- A rising crossing is missing or rejected (R503). -/
def State.badCrossing (s : State) : State :=
  if s.pl.badRun + 1 < 8 then s.modPl fun p => { p with badRun := p.badRun + 1, goodRun := 0 } else s.plUnlock

/-- p_nom of TDC input 18 (Table 5.3), TU. -/
def State.mainsTu (s : State) : Rat := quo (65536 * 10 ^ 9) (if bitAt (s.on_ 0x1900 1) 5 then 60 else 50)

/-- The mains period that the stamps of TDC input 18 give, in units of the crossing counter: 16 of them to 10⁹ TU (R182). -/
def State.period18Of (s : State) (gate : List GateSeg) : Option Rat :=
  if s.ac.calFaulty.contains 18 then none
  else (regressPooled s.mainsTu (gateStamps gate)).1.map fun p => quo (16 * p) (10 ^ 9)

/-- A rising crossing stamps on TDC input 18 while TM is on (R166, R181). The gate of the mains frequency is the last 16 stamps
(DESIGN CHOICE, log 73). -/
def State.stamp18 (stop : Nat × Nat) (s : State) : State :=
  let gate := gateLast 16 (gateStops [stop] s.ac.gate18)
  { s with
    ac := { s.ac with gate18 := gate }
    pl := match s.period18Of gate with
      | none => s.pl
      | some p => { s.pl with period18 := some (p, s.frame.number) } }

/-- A half-cycle's measurements: m_p and m_q in mV. -/
abbrev Half := Nat × Nat

/-- n(h) of a half-cycle against the last quiet values of its polarity; zero while there are none. -/
def noiseOf (quiet : List Nat) (h : Half) : Rat :=
  if quiet.isEmpty then 0
  else
    let d := ((h.2 : Nat) : Rat) - quo ((quiet.sum : Nat) : Rat) ((quiet.length : Nat) : Rat)
    if d < 0 then -d else d

/-- The receiver sets a pulse in a half-cycle (R509). -/
def State.pulseIn (s : State) (positive : Bool) (h : Half) : Bool :=
  decide (((s.on_ 0x1900 5 : Nat) : Int) ≤ (h.1 : Int) - (h.2 : Int)) &&
    decide (noiseOf (if positive then s.pl.quietPos else s.pl.quietNeg) h ≤ (s.on_ 0x1900 6 : Nat))

/-- The half-cycle that a crossing ends is sensed while the tracker is locked (R407, R509): whether it holds a pulse is kept of
the last 15. One whose polarity does not alternate, or that is not measured, begins the run anew. -/
def Powerline.sense (positive pulse : Bool) (p : Powerline) : Powerline :=
  { p with sensed := ((positive, pulse) :: (if p.sensed.head?.map Prod.fst = some positive then [] else p.sensed)).take 15 }

/-- What the receiver senses at a crossing. -/
def State.senseHalf (rising : Bool) (half : Option Half) (s : State) : State :=
  match half with
  | some h => if s.pl.locked then s.modPl (Powerline.sense (!rising) (s.pulseIn (!rising) h)) else s.modPl fun p => { p with sensed := [] }
  | none => s.modPl fun p => { p with sensed := [] }

/-- The wake pattern (R407): 15 half-cycles, pulses in the eight at even places and none in those between. -/
def Powerline.wakeSeen (p : Powerline) : Bool :=
  p.sensed.length == 15 && (List.range 15).all fun i => (p.sensed.getD i (false, false)).2 == (i % 2 == 0)

/-- PL_WAKE_PATTERN (R407, R509, R519): the half-cycles sensed are the wake pattern. -/
def plWakePattern (s : State) : State :=
  if s.plOn && s.pl.locked && s.pl.wakeSeen then s.raise (plEvent 44 0x0100 0) else s

/-- PL_ZERO_CROSSING (R501 to R503): a qualified crossing at a time of the counter, with the half-cycle that it ends and the stop
that a rising one gives on TDC input 18. -/
def plZeroCrossing (rising : Bool) (time : Nat) (input18 : Option (Nat × Nat)) (half : Option Half) (s0 : State) : State :=
  if !s0.plOn then s0
  else
    let s1 := s0.senseHalf rising half
    let s := match input18 with
      | none => s1
      | some stop => if rising && (s1.pwr.dom 2).on then s1.stamp18 stop else s1
    match s.judgeCrossing rising time with
    | none =>
      let s1 := s.modPl fun p => { p with rejects := satInc (2 ^ 32 - 1) p.rejects }
      if rising then s1.badCrossing else s1
    | some (xs, seed) =>
      if rising then
        s.modPl fun p =>
          let run := if seed then 1 else min 16 (p.goodRun + 1)
          { p with rising := xs, goodRun := run, badRun := 0, locked := p.locked || decide (16 ≤ run) }
      else s.modPl fun p => { p with falling := xs }

/-- PL_CROSSING_MISSED (R503): a predicted rising crossing has not come, so that the half-cycles sensed are no longer consecutive. -/
def plCrossingMissed (s : State) : State :=
  if s.plOn && !s.pl.rising.isEmpty then State.badCrossing (s.modPl fun p => { p with sensed := [] }) else s

/-! ### Symbols (R505 to R508) -/

/-- What the receiver keeps while it decides pairs: the quiet values, the erased pairs, the largest n(h), and the pairs of
the bit so far: how many are not erased, and the sum of d. -/
structure Rx where
  pos : List Nat
  neg : List Nat
  erased : Nat
  noise : Rat
  pairs : Nat
  sound : Nat
  sum : Int
  bits : List Nat         -- 0 ZERO, 1 ONE, 2 NONE, 3 erased, newest first
  deriving DecidableEq, Repr

/-- The decision of a bit (R507, R508). -/
def bitOf (sound : Nat) (sum θ : Int) : Nat :=
  if sound = 0 then 3 else if (sound : Int) * θ ≤ sum then 1 else if sum ≤ -((sound : Int) * θ) then 0 else 2

/-- One pair: erased, or added to its bit; the last pair of a bit decides it. -/
def Rx.pair (reps level : Nat) (θ : Int) (x : Rx) (p : Half × Half) : Rx :=
  let n := max (noiseOf x.pos p.1) (noiseOf x.neg p.2)
  let gone := decide ((level : Rat) < n)
  let d : Int := ((p.1.1 : Int) - (p.1.2 : Int)) - ((p.2.1 : Int) - (p.2.2 : Int))
  let y : Rx := { x with
    pos := if gone then x.pos else (p.1.2 :: x.pos).take 8
    neg := if gone then x.neg else (p.2.2 :: x.neg).take 8
    erased := x.erased + flag gone
    noise := max x.noise n
    pairs := x.pairs + 1
    sound := x.sound + flag (!gone)
    sum := if gone then x.sum else x.sum + d }
  if y.pairs < reps then y
  else { y with bits := bitOf y.sound y.sum θ :: y.bits, pairs := 0, sound := 0, sum := 0 }

/-- The pairs received, decided. -/
def State.receive (s : State) (pairs : List (Half × Half)) : Rx :=
  pairs.foldl (Rx.pair s.plRepeat (s.on_ 0x1900 6) ((s.on_ 0x1900 5 : Nat) : Int))
    { pos := s.pl.quietPos, neg := s.pl.quietNeg, erased := 0, noise := 0, pairs := 0, sound := 0, sum := 0, bits := [] }

/-! ### Frames (R510 to R512) -/

/-- The number that decided bits spell, most significant first. -/
def bitsNumber (bs : List Nat) : Nat := bs.foldl (fun n b => 2 * n + b % 2) 0

/-- The bytes of a list of bits. -/
def bytesOfBits (n : Nat) (bs : List Nat) : List Nat := (List.range n).map fun i => bitsNumber ((bs.drop (8 * i)).take 8)

/-- The preamble is recognised: 13 decided bits that differ in at most one place. -/
def preambleOk (bs : List Nat) : Bool :=
  let want := [1, 1, 1, 1, 1, 0, 0, 1, 1, 0, 1, 0, 1]
  bs.length == 13 && bs.all (fun b => decide (b ≤ 1)) && decide (((bs.zip want).filter fun p => p.1 != p.2).length ≤ 1)

/-- What a received frame turns out to be. -/
inductive RxFrame where
  | none                        -- no preamble
  | discarded (erased crc : Bool)
  | good (bytes : List Nat)     -- header to payload
  deriving DecidableEq, Repr

/-- The bits after the preamble, judged (R511). -/
def judgeFrame (bs : List Nat) : RxFrame :=
  let body := bs.drop 13
  let head := bytesOfBits 2 body
  let len := natAt head 1 % 32
  let all := body.take (64 + 8 * len)
  let plain := all.all fun b => decide (b ≤ 1)
  if !preambleOk (bs.take 13) then .none
  else if !((body.take 16).all fun b => decide (b ≤ 1)) then .discarded ((body.take 16).any fun b => b == 3) false
  else if !plain then .discarded (all.any fun b => b == 3) false
  else if 24 < len ∨ 1 < natAt head 0 % 16 ∨ natAt head 1 / 32 % 4 ≠ 0 ∨ all.length ≠ 64 + 8 * len then .discarded false false
  else
    let bytes := bytesOfBits (6 + len) body
    let crc := bytesOfBits 2 (body.drop (48 + 8 * len))
    if crc16 0xFFFF bytes = ofLe crc then .good bytes else .discarded false true

/-- Fields of a received frame. -/
def frameGen (b : List Nat) : Nat := natAt b 0 / 16
/-- KIND. -/
def frameKind (b : List Nat) : Nat := natAt b 0 % 16
/-- TOG. -/
def frameTog (b : List Nat) : Nat := natAt b 1 / 128
/-- LEN. -/
def frameLen (b : List Nat) : Nat := natAt b 1 % 32
/-- DST. -/
def frameDst (b : List Nat) : Nat := ofLe ((b.drop 2).take 2)
/-- SRC. -/
def frameSrc (b : List Nat) : Nat := ofLe ((b.drop 4).take 2)
/-- PAYLOAD. -/
def framePayload (b : List Nat) : List Nat := b.drop 6

/-- A POLL payload that the engine serves (Table 15.4): its OP and length agree. -/
def pollOk (pl : List Nat) : Bool :=
  match natAt pl 0 with
  | 1 => pl.length == 1
  | 2 => pl.length == 8 && natAt pl 5 == 0
  | 4 => pl.length == 8 && natAt pl 5 == 0
  | 3 => decide (8 ≤ pl.length) && natAt pl 5 == 0
  | 5 => decide (8 ≤ pl.length) && natAt pl 5 == 0
  | _ => false

/-- The session of a partner, opened where there is none: a free place, else the session idle longest is closed (R520). -/
def Powerline.openSession (now address : Nat) (p : Powerline) : Nat × Powerline :=
  match (List.range 24).find? fun n => (p.session n).address == address with
  | some n => (n, p.modSession n fun x => { x with heard := now })
  | none =>
    let n := match (List.range 24).find? fun n => (p.session n).address == 0 with
      | some n => n
      | none => (List.range 24).foldl (fun best n => if (p.session n).heard < (p.session best).heard then n else best) 0
    (n, p.modSession n fun _ => { PlSession.free with address := address, heard := now })

/-- The frame is for the device (R512). -/
def State.forDevice (s : State) (b : List Nat) : Bool :=
  ((frameDst b == s.plAddress && s.plAddress != 0) || frameDst b == 0xFFFF) && frameSrc b != s.plAddress &&
    frameSrc b != 0 && frameSrc b != 0xFFFF

/-- The master waits for this REPLY (R513, R521). -/
def State.awaitedReply (s : State) (b : List Nat) : Bool :=
  s.plMaster && frameKind b == 1 && match s.pl.poll with
    | none => false
    | some q => s.on_ 0x1920 (q.slave + 1) == frameSrc b && frameTog b == (s.pl.session q.slave).tog

/-- A frame is delivered to the engine (R512, R520, R521). -/
def State.deliver (b : List Nat) (s : State) : State :=
  let s1 := (s.modPl fun p => { p with rxFrames := satInc (2 ^ 32 - 1) p.rxFrames }).count [linkAct 0x60 1]
  if s1.awaitedReply b then s1.modPl fun p => { p with inbox := p.inbox ++ [b] }
  else
    let s2 := if s1.plMaster then s1 else s1.modPl fun p => (p.openSession s1.frame.absTick (frameSrc b)).2
    let s3 := if !s1.plMaster && frameKind b == 0 && frameDst b != 0xFFFF && pollOk (framePayload b) then
      s2.modPl fun p => { p with inbox := p.inbox ++ [b] } else s2
    s3.raise (plEvent 44 (64 * frameKind b) (frameSrc b * 65536 + frameLen b))

/-- PL_FRAME (R505 to R512): the pairs of a frame from the first pair of its PREAMBLE. -/
def plFrame (pairs : List (Half × Half)) (s : State) : State :=
  if !(s.plOn && s.pl.locked) then s
  else
    let x := s.receive pairs
    let s1 := s.modPl fun p => { p with quietPos := x.pos, quietNeg := x.neg }
    match judgeFrame x.bits.reverse with
    | .none => s1
    | .discarded erased crc =>
      let s2 := s1.modPl fun p => { p with
        crcErrors := if crc then satInc (2 ^ 32 - 1) p.crcErrors else p.crcErrors
        erased := if erased then satInc (2 ^ 32 - 1) p.erased else p.erased }
      let s3 := s2.raiseIf erased (plEvent 46 (32768 + min 255 x.erased) (clampUnsigned 32 (roundAway x.noise)))
      if crc then s3.count [linkAct 0x62 1] else s3
    | .good b => if s1.forDevice b then s1.deliver b else s1

/-! ### A slave's POLLs (R513 to R518) -/

/-- The POLL to serve next, with its session. -/
def State.frontPoll (s : State) : Option (List Nat × Nat) :=
  match s.pl.inbox with
  | [] => none
  | b :: _ =>
    if frameKind b ≠ 0 ∨ s.plMaster then none
    else ((List.range 24).find? fun n => (s.pl.session n).address == frameSrc b).map fun n => (b, n)

/-- The POLL at the front has been answered. -/
def Powerline.popped (p : Powerline) : Powerline := { p with inbox := p.inbox.drop 1 }

/-- A REPLY payload is kept with the TOG of its POLL and sent (R513, R514). -/
def State.plReplyNow (b : List Nat) (n told : Nat) (payload : List Nat) (s : State) : State :=
  let x := s.pl.session n
  let bytes := [x.gen % 16 * 16 + 1, frameTog b * 128 + payload.length] ++ leBytes 2 x.address ++ leBytes 2 s.plAddress ++ payload
  (s.modPl fun p => p.popped.modSession n fun y => { y with tog := frameTog b, reply := some payload, told := told }).plSendReply
    bytes

/-- The finished response of a session is delivered (R517). -/
def State.plDeliver (b : List Nat) (n : Nat) (reply : List Nat) (s : State) : State :=
  (s.modPl fun p => p.modSession n fun x => { x with wait := .none }).plReplyNow b n 0 reply

/-- The events that the kept REPLY of a session carries have been delivered (R514, R518). -/
def State.confirm (n : Nat) (s : State) : State :=
  s.modPl fun p => { (p.modSession n fun x => { x with told := 0 }) with events := p.events.drop (p.session n).told }

/-- Serve the POLL at the front where its OP is `op`: a repeat has the kept REPLY again, a finished response goes first, a
pending one is awaited, GEN is checked, and otherwise the request is new (R514, R517, R520). -/
def State.servePoll (op : Nat) (new : List Nat → Nat → State → State) (s : State) : State :=
  match s.frontPoll with
  | none => s
  | some (b, n) =>
    let x := s.pl.session n
    if !s.plOn || natAt (framePayload b) 0 != op then s
    else
      let repeat_ := x.reply.isSome && x.tog == frameTog b
      let s1 := if repeat_ then s else s.confirm n
      match x.wait with
      | .ready r => s1.plDeliver b n r
      | .busy _ _ =>
        if op ≠ 1 then s1
        else if repeat_ then s.plReplyNow b n x.told (x.reply.getD []) else new b n s1
      | .none =>
        if repeat_ then s.plReplyNow b n x.told (x.reply.getD [])
        else if x.gen < frameGen b then s1.plReplyNow b n 0 (plReply op (natAt (framePayload b) 1) abortGeneration 0 0 [])
        else new b n s1

/-- The bytes of an event in a STATUS REPLY (Table 15.6). -/
def Pend.statusBytes (p : Pend) : List Nat := [p.ev, p.count] ++ leBytes 2 p.code ++ leBytes 4 p.arg ++ leBytes 2 p.frame

/-- Another session holds events in a kept REPLY that is not confirmed. -/
def Powerline.toldElsewhere (p : Powerline) (n : Nat) : Bool :=
  (List.range 24).any fun m => m != n && decide (0 < (p.session m).told)

/-- PL_POLL_STATUS (R518): the mode and the oldest two events. -/
def plPollStatus (s : State) : State :=
  s.servePoll 1 (fun b n s1 =>
    let evs := if s1.pl.toldElsewhere n then [] else s1.pl.events.take 2
    let pending := match (s1.pl.session n).wait with
      | .none => false
      | _ => true
    let flags := flag (decide (evs.length < s1.pl.events.length)) + flagAt (decide (s1.mode = .taper)) 1 + flagAt pending 2
    s1.plReplyNow b n evs.length ([1, flags, s1.mode.code, evs.length] ++ evs.flatMap Pend.statusBytes))

/-- INDEX and SUBINDEX of a POLL payload. -/
def pollIndex (b : List Nat) : Nat := ofLe (((framePayload b).drop 2).take 2)
/-- SUBINDEX. -/
def pollSub (b : List Nat) : Nat := natAt (framePayload b) 4
/-- SEG. -/
def pollSeg (b : List Nat) : Nat := natAt (framePayload b) 1
/-- TOTAL. -/
def pollTotal (b : List Nat) : Nat := ofLe (((framePayload b).drop 6).take 2)
/-- DATA. -/
def pollData (b : List Nat) : List Nat := (framePayload b).drop 8

/-- A dictionary request of a session; its response is awaited, or sent at once where it is ready (R516, R517). -/
def State.plRequest (b : List Nat) (n op index sub : Nat) (data : List Nat) (s : State) : State :=
  let s1 := (s.modPl fun p => p.modSession n fun x => { x with wait := .busy (natAt (framePayload b) 0) (pollSeg b) }).submit
    { via := .powerline n, gen := (s.pl.session n).gen, hdr := frameGen b, bad := false, op := op, index := index, sub := sub,
      id := 0, data := data }
  match (s1.pl.session n).wait with
  | .ready r => s1.plDeliver b n r
  | _ => s1

/-- PL_POLL_READ (R516): a copy of the whole value is taken, and segment 0 returned. -/
def plPollRead (s : State) : State := s.servePoll 2 (fun b n s1 => s1.plRequest b n 1 (pollIndex b) (pollSub b) [])

/-- PL_POLL_READ_NEXT (R516): bytes 16n onward of the copy. -/
def plPollReadNext (s : State) : State :=
  s.servePoll 4 (fun b n s1 =>
    let seg := pollSeg b
    s1.plReplyNow b n 0 (match (s1.pl.session n).copy with
      | none => plReply 4 seg abortRange 0 0 []
      | some c => if 16 * seg < c.length then plReply 4 seg abortOk 0 c.length ((c.drop (16 * seg)).take 16)
          else plReply 4 seg abortRange 0 0 []))

/-- A segment of a write arrives in order and full, or the assembly is discarded with TYPE (R516). -/
def State.plSegment (b : List Nat) (n op index sub total : Nat) (sofar : List Nat) (s : State) : State :=
  let data := sofar ++ pollData b
  if (pollData b).length ≠ min 16 (total - sofar.length) ∨ 1044 < total then
    (s.modPl fun p => p.modSession n fun x => { x with assembly := none }).plReplyNow b n 0
      (plReply op (pollSeg b) abortType 0 0 [])
  else if data.length < total then
    (s.modPl fun p => p.modSession n fun x => { x with assembly := some (index, sub, total, data), seg := pollSeg b + 1 }).plReplyNow
      b n 0 (plReply op (pollSeg b) abortOk 1 0 [])
  else
    (s.modPl fun p => p.modSession n fun x => { x with assembly := none }).plRequest b n 2 index sub data

/-- PL_POLL_WRITE (R516): an assembly of TOTAL bytes is opened with segment 0. -/
def plPollWrite (s : State) : State :=
  s.servePoll 3 (fun b n s1 =>
    if pollSeg b ≠ 0 then
      (s1.modPl fun p => p.modSession n fun x => { x with assembly := none }).plReplyNow b n 0
        (plReply 3 (pollSeg b) abortType 0 0 [])
    else s1.plSegment b n 3 (pollIndex b) (pollSub b) (pollTotal b) [])

/-- PL_POLL_WRITE_MORE (R516): the next segment, and the write once it is complete. -/
def plPollWriteMore (s : State) : State :=
  s.servePoll 5 (fun b n s1 =>
    match (s1.pl.session n).assembly with
    | none => s1.plReplyNow b n 0 (plReply 5 (pollSeg b) abortType 0 0 [])
    | some (index, sub, total, data) =>
      if pollSeg b = (s1.pl.session n).seg then
        s1.plSegment b n 5 index sub total data
      else
        (s1.modPl fun p => p.modSession n fun x => { x with assembly := none }).plReplyNow b n 0
          (plReply 5 (pollSeg b) abortType 0 0 []))

/-- PL_REPLY_DEADLINE (R517): the POLL at the front has its response, or STATUS 2. -/
def plReplyDeadline (s : State) : State :=
  match s.frontPoll with
  | none => s
  | some (b, n) =>
    match (s.pl.session n).wait with
    | .none => s
    | .ready r => s.plDeliver b n r
    | .busy _ _ => (s.plReplyNow b n 0 (plReply (natAt (framePayload b) 0) (pollSeg b) abortOk 2 0 [])).count [linkAct 0x66 1]

/-- PL_SESSION_IDLE (R520): a session closes that has heard nothing of its partner for PL_SESSION_IDLE seconds. -/
def plSessionIdle (n : Nat) (s : State) : State :=
  let x := s.pl.session n
  if x.address ≠ 0 ∧ x.heard + 32768 * s.on_ 0x1900 8 ≤ s.frame.absTick then
    s.modPl fun p => p.modSession n fun _ => PlSession.free
  else s

/-! ### The master role (R515, R519, R521, R522) -/

/-- The payload of a master request, with the length that its OP gives. -/
def requestPayload (data : List Nat) : List Nat :=
  match natAt data 0 with
  | 1 => data.take 1
  | 3 => data.take (8 + min 16 (ofLe ((data.drop 6).take 2)))
  | 5 => data.take 24
  | _ => data.take 8

/-- The POLL frame to a slave under its session. -/
def State.pollBytes (s : State) (q : PlPoll) : List Nat :=
  let x := s.pl.session q.slave
  [x.gen % 16 * 16, x.tog * 128 + q.payload.length] ++ leBytes 2 (s.on_ 0x1920 (q.slave + 1)) ++ leBytes 2 s.plAddress ++ q.payload

/-- A POLL is sent, after the wake pattern where `wake` says so. -/
def State.sendPoll (wake : Bool) (q : PlPoll) (s : State) : State :=
  let t := s.plFrameTx (s.pollBytes q) 1
  (s.modPl fun p => { p with
    poll := some q
    tx := some (if wake then s.wakeTx else t)
    txNext := if wake then some t else none }).plAdmit

/-- The transaction with the first slave at or after an index; the cycle ends where there is none (R521). -/
def State.pollFrom (k : Nat) (first : Bool) (s : State) : State :=
  match (List.range 24).find? fun n => decide (k ≤ n) && s.on_ 0x1920 (n + 1) != 0 with
  | none => s.modPl fun p => { p with poll := none, cycleOn := false }
  | some n =>
    let x := s.pl.session n
    let mine := (s.pl.request.map fun r => r.1 == n).getD false
    let payload := if mine then requestPayload ((s.pl.request.map Prod.snd).getD []) else [1]
    let wake := bitAt (s.on_ 0x1900 1) 2 && (first || x.lost)
    (s.modPl fun p => p.modSession n fun y =>
      { y with address := s.on_ 0x1920 (n + 1), tog := 1 - y.tog % 2,
               heard := if y.address = 0 then s.frame.absTick else y.heard }).sendPoll wake
        { slave := n, payload := payload, repeats := 0, request := mine }

/-- PL_CYCLE seconds have passed since the last cycle started, or none has. -/
def State.cycleDue (s : State) : Bool :=
  (s.pl.cycleAt.map fun t => decide (t + 32768 * s.on_ 0x1900 9 ≤ s.frame.absTick)).getD true

/-- PL_CYCLE_START (R521): the time for a new polling cycle has come. -/
def plCycleStart (s : State) : State :=
  if s.plOn && s.plMaster && !s.pl.cycleOn && s.pl.tx.isNone && s.cycleDue then
    (s.modPl fun p => { p with cycleOn := true, cycleAt := some s.frame.absTick }).pollFrom 0 true
  else s

/-- PL_REPLY_RECEIVED (R521, R522): the REPLY of the slave under poll is taken. -/
def plReplyReceived (s : State) : State :=
  match s.pl.inbox, s.pl.poll with
  | b :: rest, some q =>
    if s.awaitedReply b then
      let pl := framePayload b
      let padded := pl ++ List.replicate (24 - pl.length) 0
      ((s.modPl fun p => { (p.modSession q.slave fun x => { x with lost := false, heard := s.frame.absTick }) with
        inbox := rest
        response := if q.request then [q.slave, 1] ++ padded else p.response
        request := if q.request then none else p.request
        status := if q.request then p.status else setAt p.status q.slave padded }).raise
          (plEvent 44 (128 + 64 + q.slave) (frameSrc b * 65536 + frameLen b))).pollFrom (q.slave + 1) false
    else s
  | _, _ => s

/-- PL_POLL_TIMEOUT (R515): no REPLY begins in its pair; the POLL is sent again with the same TOG until PL_RETRIES repeats
are spent, then the session is lost and the next slave is polled. -/
def plPollTimeout (s : State) : State :=
  match s.pl.poll with
  | none => s
  | some q =>
    if s.pl.tx.isSome then s
    else if q.repeats < s.on_ 0x1900 7 then s.sendPoll false { q with repeats := q.repeats + 1 }
    else
      ((s.modPl fun p => { (p.modSession q.slave fun x => { x with lost := true }) with
        response := if q.request then [q.slave, 2] ++ List.replicate 24 0 else p.response
        request := if q.request then none else p.request }).raise
          (plEvent 45 q.slave (s.on_ 0x1920 (q.slave + 1)))).pollFrom (q.slave + 1) false

end Sys2Proof.Machine
end

