-- ==== Sys2Proof/Machine/Sync.lean ====
section
/-! DEFINITION. Moving the boundary (R78 to R84): reference events, the phase error, and the length of the next frame. Times
of events are eighths of a ledger cycle since the start; an RTC tick is 15 625 of them. -/

namespace Sys2Proof.Machine

open Sys2Proof

/-- An RTC tick in eighths of a ledger cycle (R51). -/
def tickNow : Nat := 15625

/-- SYNC_SOURCE in force; TAPER has no sync source (Table 12.8). -/
def State.syncSource (s : State) : Nat := if s.mode = .taper then 0 else s.on_ 0x0301 1

/-- K of R79 in force. -/
def State.syncEvents (s : State) : Nat := s.on_ 0x0301 2

/-- P_r (R80), in eighths of a ledger cycle: T/K until K intervals have been accepted, then their mean. -/
def Sync.reference (period k : Nat) (y : Sync) : Rat :=
  if y.intervals.length < k then quo ((period * tickNow : Nat) : Rat) ((k : Nat) : Rat)
  else quo (sumR (y.intervals.take k)) ((k : Nat) : Rat)

/-- A time in whole RTC ticks, rounded (R504). -/
def inTicks (t : Nat) : Nat := (roundAway (quo (t : Rat) (tickNow : Rat))).toNat

/-- The reference event that the selected source has at a time, by the time it enters with (R78): an edge of SYNI; while the
tracker is locked, the rising crossing accepted last, in whole RTC ticks (R503, R504: 32 units of its counter to a tick); in
OPERATE the start of the last master message. -/
def State.syncEventAt (now : Nat) (s : State) : Option Nat :=
  match s.syncSource with
  | 1 => some now
  | 2 => if s.pl.locked ∧ s.pl.rising.getLast?.map (fun u => (u + 16) / 32) = some (inTicks now) then some (inTicks now * tickNow)
      else none
  | 3 => if s.iol.state = 3 ∧ s.iol.lastStart = some now then some now else none
  | _ => none

/-- The largest SYNC_EVENTS: as many intervals can enter a mean (R79, R80). -/
def maxSyncEvents : Nat := 8192

/-- One reference event is tested and accepted or rejected (R79, R80). -/
def Sync.event (period k t : Nat) (y : Sync) : Sync :=
  if !y.started then
    { y with started := true, last := t, index := 0, intervals := [], aligned := t :: y.aligned }
  else
    let p := y.reference period k
    let gap : Rat := ((t : Int) - (y.last : Int) : Int)
    let n := max 1 (roundAway (quo gap p))
    let miss := gap - (n : Rat) * p
    if (if miss < 0 then -miss else miss) ≤ p / 50 then
      let i := y.index + n.toNat
      { y with
        last := t, index := i
        intervals := (quo gap (n : Rat) :: y.intervals).take maxSyncEvents
        aligned := if i % k = 0 then t :: y.aligned else y.aligned }
    else { y with rejects := satInc (2 ^ 32 - 1) y.rejects }

/-- SYNC_REFERENCE_EVENT (R80, R504): a reference event of the selected source at a time of the frame. A crossing that the
tracker rejected, and a message outside OPERATE, is none. -/
def syncReferenceEvent (cyc : Nat) (s : State) : State :=
  match if s.frame.running then s.syncEventAt (s.frame.base + 8 * cyc) else none with
  | some t => { s with frame := s.frame.at_ cyc, sync := s.sync.event s.period s.syncEvents t }
  | none => s

/-- The phase error of a frame `f` in ticks, from its boundary to the nearest aligned event (R81); none where the capture
condition of R79 fails. -/
def State.phaseError (f : Frame) (s : State) : Option Int :=
  let t := s.period
  let k := s.syncEvents
  let span := (k : Rat) * s.sync.reference t k - ((t * tickNow : Nat) : Rat)
  let errs := (s.sync.aligned.map fun a => (a : Int) - (f.base : Int)).filter fun e => decide (2 * e.natAbs ≤ t * tickNow)
  if (if span < 0 then -span else span) ≤ ((t * tickNow : Nat) : Rat) / 50 then
    (errs.foldl (fun (best : Option Int) e => match best with
      | none => some e
      | some b => if e.natAbs < b.natAbs then some e else some b) none).map fun e => roundAway (quo (e : Rat) (tickNow : Rat))
  else none

/-- SYNC_STATE after a frame with a residual (R82), and whether EV4 is raised. -/
def Sync.captured (r : Int) (y : Sync) : Sync × Bool :=
  let near := decide (r.natAbs ≤ 1)
  let st := if y.state = 3 then 1 else y.state
  let tight := if near then (if y.state = 3 then 1 else y.tight + 1) else 0
  let loose := if near then 0 else y.loose + 1
  let y1 := { y with residual := r, failRun := 0, state := st, tight := tight, loose := loose }
  if st = 1 ∧ 4 ≤ tight then ({ y1 with state := 2, loose := 0 }, true)
  else if st = 2 ∧ 4 ≤ loose then ({ y1 with state := 1, tight := 0 }, false)
  else (y1, false)

/-- A frame in which the capture condition fails (R82, R83), and whether EV5 is raised. The loss itself ends the runs of 4 frames
(DESIGN CHOICE, log 16). -/
def Sync.missed (lossFrames : Nat) (y : Sync) : Sync × Bool :=
  let run := y.failRun + 1
  if lossFrames ≤ run ∧ (y.state = 1 ∨ y.state = 2) then
    ({ y with failRun := run, state := 3, started := false, tight := 0, loose := 0 }, true)
  else ({ y with failRun := run }, false)

/-- An event of the frame sequencer without CODE and ARG. -/
def frameEvent (ev : Nat) : Raised := { ev := ev, code := 0, arg := 0, src := 0x40, cls := 2 }

/-- The correction of the frame that opens next, from the frame `f` that closes (R81, R82, R83). -/
def State.judgeSync (f : Frame) (s : State) : State :=
  if s.syncSource = 0 then { s with sync := { s.sync with correction := 0, state := 0 } }
  else match s.phaseError f with
    | some e =>
      let r := e - ((f.length : Int) - (s.period : Int))
      let q := s.sync.captured r
      let c := min (max r (-((s.period / 8 : Nat) : Int))) ((s.period / 8 : Nat) : Int)
      { s with sync := { q.1 with correction := c } }.raiseIf q.2 (frameEvent 4)
    | none =>
      let q := s.sync.missed (s.on_ 0x0301 3)
      { s with sync := { q.1 with correction := 0 } }.raiseIf q.2 (frameEvent 5)

/-- A new SYNC_SOURCE takes effect (R78, R80, R82). -/
def State.newSource (old : Nat) (s : State) : State :=
  if s.syncSource = old then s
  else { s with sync := { Sync.reset with
    state := if s.syncSource = 0 then 0 else 1, residual := s.sync.residual, rejects := s.sync.rejects } }

/-- The length of the frame that opens, in ticks, with the period that is now in force (R81, R47). -/
def State.nextLength (s : State) : Nat :=
  let bound : Int := ((s.period / 8 : Nat) : Int)
  ((s.period : Int) + min (max s.sync.correction (-bound)) bound).toNat

/-- BOUNDARY_SLEWED (R84) at the boundary that opens a frame whose length differs from T. -/
def State.tellSlew (s : State) : State :=
  let c : Int := (s.frame.length : Int) - (s.period : Int)
  s.raiseIf (decide (c ≠ 0)) { ev := 6, code := unsigned 16 (max (-32768) (min c 32767)), arg := unsigned 32 c, src := 0x40, cls := 2 }

/-- Aligned events that no boundary to come can use are let go. -/
def State.pruneSync (s : State) : State :=
  { s with sync := { s.sync with aligned := s.sync.aligned.filter fun a => decide (s.frame.base ≤ a + s.period * tickNow) } }

end Sys2Proof.Machine
end

