-- ==== Sys2Proof/Machine/Boundary.lean ====
section
/-! DEFINITION. The boundary (R74, Table 2.6): how a frame closes, how the writes that wait for it and the change of mode
take effect (R462), and how the next frame opens. -/

namespace Sys2Proof.Machine

open Sys2Proof

/-! ### Opening a frame -/

/-- Searches are placed as a frame opens (R67 to R69, R152): the lowest-numbered context that waits in the reserved slot where
the frame has one, the others as dynamic jobs while they fit. -/
def State.admitSearches (s : State) : State :=
  let reserved := s.frame.planned.any fun p => p.kind == 4
  (((List.range 64).filter s.awaitsSearch).drop (flag reserved)).foldl State.considerSearch s

/-- The work placed in the frame that opens (R57, R63), with the bursts of updates admitted in frames before (R540). -/
def State.planFrame (s : State) : State :=
  let f := s.frame
  let extra := s.burstSlack s.burstTimes
  let placed := fun (planned : List Planned) (ac cor : Nat) (done : List Nat) =>
    ({ s with frame := { f with planned := planned, acEnd := ac + extra, corEnd := cor, chainDone := done } } : State)
  if !s.measuring then placed [] (us 60) (us 60) (List.replicate 16 0)
  else if s.mode = .taper then
    let shots : List Shot := if ctxDefined s.eff 0 then
        [{ group := 0, kind := 0, members := [0], row := 0, len := costGroup s.eff [0], cor := costCor s.eff 0, chains := ctxChains s.eff 0 }]
      else []
    let r := placeShots Placement.start shots
    (placed (taperShots s.eff) r.1.ac r.1.cor r.1.done).admitSearches
  else
    let p := placePhase s.eff (framePhase s.eff f.number)
    (placed (plannedShots s.eff f.number) p.acEnd p.corEnd p.done).admitSearches

/-- The acoustic blocks as a frame opens: nothing of the frame before is under way, its copies are lost, and the gate of
input 17 begins anew (R88, R199, R211). -/
def Acoustic.newFrame (frame : Nat) (a : Acoustic) : Acoustic :=
  { a.openFrame frame with
    ctx := (a.openFrame frame).ctx.map fun (c : Ctx) => { c with kept := (c.shots, c.retries, c.substs) }
    flight := [], crossbar := [], links := [], drives := [], hdEnd := none
    waves := [], waveSkipped := min (2 ^ 32 - 1) (a.waveSkipped + a.waves.length), gate17 := gateNext a.gate17 }

/-- A frame opens: its plan, the acoustic and sensor blocks, the outputs, the core and the links; the dynamic jobs that wait
are considered in class order (R68, R69): searches, a transmission, then the Ochre jobs. -/
def State.openFrame (s : State) : State :=
  let s1 := { s with
    frame := { s.frame.carried with
      cause := 0, flowStarted := false, flowDone := false, flowCyc := 0, pulsesSent := 0, corFree := 0, ceCyc := 0, ceFrom := 0
      workSlots := [0, 0] }
    ac := s.ac.newFrame s.frame.number
    pwr := s.pwr.switchOff 1 }
  let s2 := (s1.planFrame).openSensors
  let s3 := { s2 with qty := { s2.qty with
    outs := (List.range 8).map fun n =>
      (s2.qty.outs.getD n PulseOut.reset).open_ s2.eff n s2.flow.dir s2.frame.length s2.frame.absTick } }
  ((s3.pruneSync.tellSlew.fillPd.coreBoundary).plAdmit).reconsider

/-! ### The change of mode (R459 to R462) -/

/-- MODE_CHANGED (R462). -/
def modeChanged (old new_ : Mode) (frame : Nat) : Raised :=
  { ev := 7, code := old.code * 256 + new_.code, arg := frame % 2 ^ 32, src := 0x40, cls := 2 }

/-- A pending change of mode takes effect (R462, R161, R268, R418). -/
def State.changeMode (s : State) : State :=
  match s.modePending with
  | none => s
  | some m =>
    let old := s.mode
    let kept : Nat := if m = Mode.config then 0 else 1
    let s1 : State := { s with
      mode := m, modePending := none
      ac := { s.ac with ctx := s.ac.ctx.map fun c => { c with staged := [], half := if m = Mode.config then PairHalf.blank else c.half } }
      pwr := { s.pwr with startMode := kept } }
    let s2 : State := if old = Mode.verify then
        { s1 with ac := s1.ac.leaveVerify, qty := { s1.qty with fto := { s1.qty.fto with high := false } } } else s1
    let s3 : State := if m = Mode.verify then { s2 with qty := { s2.qty with fto := s2.qty.fto.cleared } } else s2
    let s4 : State := if old = Mode.config then
        let f := s3.flow.accept s3.eff
        { s3 with flow := f.1 }.raiseAll f.2
      else s3
    s4.raise (modeChanged old m s4.frame.number)

/-! ### Writes that wait for the boundary (R462) -/

/-- What a change of the settings in force does beside the values themselves (R78, R325, R329, R373, R598). -/
def State.settle_ (old s : State) : State :=
  let outs := (List.range 8).map fun n =>
    let o := s.qty.outs.getD n PulseOut.reset
    let was := old.eff (key 0x1100 (n + 1))
    let is_ := s.eff (key 0x1100 (n + 1))
    let w := old.eff (key 0x1101 (n + 1)) != s.eff (key 0x1101 (n + 1))
    if was ≠ is_ ∨ w = true then o.reconfigure was is_ w else o
  let fto := if bitAt (s.on_ 0x1110 1) 15 && !bitAt (old.on_ 0x1110 1) 15 then s.qty.fto.cleared else s.qty.fto
  let s1 := { s with qty := { s.qty with outs := outs, fto := fto } }
  let s2 := if old.on_ 0x1300 1 ≠ s1.on_ 0x1300 1 then s1.restartDemand s1.cal.seconds else s1
  let s3 := if old.dispMode = s2.dispMode then s2 else s2.powerDisplay
  s3.newSource old.syncSource

/-- Whether the PERF_SEL of counter i of 48 has changed (R598). -/
def selChanged (old s : State) (i : Nat) : Bool := old.perfSel (i / 8) (i % 8) != s.perfSel (i / 8) (i % 8)

/-- Writes, mode and counters at a boundary that opens frame `s.frame.number` and closed frame `closed` (R462, R594, R598,
R599); context edits wait for an even frame but where the new mode is CONFIG. -/
def State.takeEdits (closed : Nat) (wrapped : List Bool) (s : State) : State :=
  let even := s.frame.number % 2 == 0 || decide (s.modePending = some Mode.config)
  let a := s.applyEdits even
  let changed := selChanged s a
  let reconfig := s.perf.clear != 0 || (List.range 48).any changed
  let b := (a.perfSnapshot closed reconfig).perfRestart changed wrapped
  (State.settle_ s b).changeMode

/-! ### Closing a frame -/

/-- The slots of the sequencers' jobs that the boundary abandons (R88, R590): the correlations done for attempts that are still
undecided, the correlation that runs, and a flow computation under way. -/
def State.abandonedSlots (s : State) : List Act × Nat × Nat :=
  let now := s.frame.cyc
  let held := ((List.range 64).map fun n => ((s.ac.ctxAt n).current.map Attempt.slots).getD 0).sum
  let run := match s.corQueue with
    | [] => 0
    | j :: _ => now - s.frame.corStart j
  let flow := if s.frame.flowStarted && !s.frame.flowDone then now - s.frame.flowCyc else 0
  (workActs 2 false (held + run) ++ workActs 3 false flow, run, flow)

/-- The starved slots of a block, and those of the core that did work (R589): what the compute clock ran beyond them found the
block front-starved, for no job, so that they add up to SLOTS (R591). -/
def blockSlots (total work block : Nat) (slots : List SlotUse) : List Act :=
  let us := slots.filter fun u => u.block == block
  let used := work + (us.map fun u => u.retired + u.wasted + u.back).sum
  us.flatMap (fun u => slotActs block 0x31 u.cls u.priv u.retired ++ slotActs block 0x32 u.cls u.priv u.wasted ++
    slotActs block 0x34 u.cls u.priv u.back) ++
  slotActs block 0x33 2 (if block = 4 then 0 else 2) (total - used)

/-- The issue slots of the frame that closes are settled (R589 to R591), and minstret and
mcycle take the instructions retired and the compute cycles. -/
def State.settleSlots (slots : List SlotUse) (s0 : State) : State :=
  let s := { s0 with frame := s0.frame.clocked s0.pwr.state }
  let gone := s.abandonedSlots
  let total := s.frame.ceCyc
  let retired := ((slots.filter fun u => u.block == 4).map SlotUse.retired).sum
  (State.count (gone.1 ++ blockSlots total (natAt s.frame.workSlots 0 + gone.2.1) 2 slots ++
      blockSlots total (natAt s.frame.workSlots 1 + gone.2.2) 3 slots ++ blockSlots total 0 4 slots)
    { s with core := { s.core with csr := { s.core.csr with
        instret := (s.core.csr.instret + retired) % 2 ^ 64, cycles := (s.core.csr.cycles + total) % 2 ^ 64 } } })

/-- The jobs still running at the boundary are abandoned (R88); `old` is the state as its frame ends. -/
def State.abandonJobs (old s : State) : State :=
  if !old.measuring then s
  else
    let now := old.frame.endCyc
    let shots := old.abandonedShots now
    let sens := s.abandonSensors now
    let flow := if old.frame.flowDone then []
      else [overrun 5 0x80 (if old.frame.flowStarted then now - old.frame.flowCyc else 0)]
    let all := shots ++ sens.2 ++ flow
    let s1 := sens.1.raiseAll all
    if all.isEmpty then s1
    else { s1 with ledger := { s1.ledger with overruns := satInc (2 ^ 32 - 1) s1.ledger.overruns } }

/-- A clear of the registers that waits takes effect (R317). -/
def State.takeClear (s : State) : State :=
  if s.qty.clearing then
    State.restartDemand s.cal.seconds { s with
      qty := s.qty.cleared
      bill := { s.bill with short := true, st := { s.bill.st with subOpen := 0, subs := s.bill.st.subs.map fun _ => 0 } } }
  else s

/-- The pulse outputs take the gain of the frame, under the settings of that frame (Table 9.4, R322). -/
def State.feedPulses (old : State) (g : Gain) (s : State) : State :=
  let r : List (PulseOut × List Raised) := (List.range 8).map fun n => (s.qty.outs.getD n PulseOut.reset).gain old.eff n g.ints
  { s with qty := { s.qty with outs := r.map fun (x : PulseOut × List Raised) => x.1 } }.raiseAll
    (r.flatMap fun (x : PulseOut × List Raised) => x.2)

/-- FTO takes the gain of the frame while it stays enabled in VERIFY; `cycles` is the length of the frame that opens (R327,
R328). -/
def State.feedFto (old : State) (g : Gain) (cycles : Nat) (s : State) : State :=
  let f0 := s.qty.fto.park
  if old.ftoActive && s.ftoActive then
    let f := f0.gain (old.on_ 0x1110 1) (old.on_ 0x1110 2) (old.on_ 0x1104 1) g.ints cycles
    { s with qty := { s.qty with fto := f.1 } }.raiseAll f.2
  else { s with qty := { s.qty with fto := { f0 with high := f0.high && s.ftoActive } } }

/-- The boundary is counted for the start (R420, Table 12.7). -/
def Power.counted (taper : Bool) (p : Power) : Power :=
  let n := min 4 (p.boundaries + 1)
  let done := decide (n = 4) && !p.succeeded
  { p with
    boundaries := n
    succeeded := p.succeeded || decide (n = 4)
    failedStarts := if done && !taper then 0 else p.failedStarts
    history := match p.history with
      | e :: es => { e with frames := satInc 65535 e.frames, outcome := if done then 1 else e.outcome } :: es
      | [] => [] }

/-- The residency snapshot of a boundary, and a clear that waits (R416). -/
def Power.snapshot (frame : Nat) (p : Power) : Power :=
  { p with resSnap := p.res, resFrame := frame, res := if p.resClear then Residency.zero else p.res, resClear := false }

/-- The frame number advances and its clock begins again at the tick edge (R74, R76, R77). -/
def Frame.next (width : Nat) (f : Frame) : Frame :=
  { f with number := (f.number + 1) % 2 ^ 48, lengthLast := f.length, base := f.base + f.length * 15625, cyc := 0,
           done := f.done - f.length,
           committing := true, lantern := !f.lantern, synoActive := width != 0 }

/-- FRAME_BOUNDARY (R74): the stops of input 17 since its last calibration, the ticks for which a stopped 32 768 Hz crystal
has run again, the levels of ACF0 and ACF1, the counted occurrences of the frame that no other command counts, its issue
slots, and the occurrences of the snapshot cycle. -/
def frameBoundary (gate : List (Nat × Nat)) (lfxTicks : Nat) (acf0 acf1 : Bool) (figures : List Act) (slots : List SlotUse)
    (edge : List Act) (s0 : State) : State :=
  if !s0.frame.running then s0
  else
    let old := ((((s0.atCyc s0.frame.endCyc).elapse).count figures).fillLines figures).giveUpUnfired.settleSlots slots
    let k := old.frame.number
    let measuring := old.measuring
    let o := old.frameFlow
    let flowQ := if measuring then flowQual old.slotFlags o else 0
    let qtyQ := flowQ ||| flagAt (measuring && old.thermalProv) 7
    let s1 := { old with frame := old.frame.next (field (old.on_ 0x0301 7) 4 0), set := old.set.routesNow }
    let ce := s1.countEdge edge
    let s2 := State.abandonJobs old (ce.1.raise (frameEvent 0))
    let c := if measuring then State.closeContexts old s2 else (s2, [])
    let sensors := { c.1 with frame := old.frame }.sensorRecord
    let s3 := { c.1 with ac := { c.1.ac with capture := c.1.ac.capture.closeFrame k } }
    let clearing := s3.qty.clearing
    let q := s3.accumulate o old.frame.length
    let b := (q.1).billBoundary (if clearing then Gain.none_ else q.2) qtyQ acf0 acf1
    let gain := if clearing then Gain.none_ else b.2
    let s4 := b.1.takeClear
    let recs := c.2 ++ sensors.toList ++ (if measuring then [flowRecord old.eff k flowQ o] else []) ++
      (if snapshotDue (old.on_ 0x1007 4) k then [s4.quantityRecord k old.frame.length o qtyQ] else [])
    let s5 := State.feedPulses old gain { s4.emitAll recs with
      flow := if measuring then s4.flow.closeFrame o else s4.flow
      sen := s4.sen.noteProv old.clk.provisional }
    let rec_ := s5.record k false s5.bill.group
    let s6 := { s5 with
      qty := s5.qty.write rec_
      bill := s5.bill.noteRecord rec_
      cal := s5.cal.copyTamper
      pwr := (s5.pwr.counted (decide (s5.mode = Mode.taper))).snapshot s5.frame.number }
    let s7 := (s6.judgeSync old.frame).takeEdits k ce.2
    let s8 := s7.closeClocks (gateStamps (gateStops gate old.ac.gate17)) lfxTicks (s7.frame.number % 2 == 0)
    let s9 := { s8 with frame := { s8.frame with length := s8.nextLength } }
    (State.feedFto old gain s9.frame.endCyc s9).openFrame

/-- The level of SYNO (R77): POL selects an active low pulse. -/
def State.synoLevel (s : State) : Bool := s.frame.synoActive != bitAt (s.on_ 0x0301 7) 7

/-- SYNO_PULSE_END (R77): WIDTH ticks after the boundary SYNO returns to its inactive level. -/
def synoPulseEnd (s0 : State) : State :=
  if s0.frame.synoActive then
    let s := { s0 with frame := s0.frame.at_ ((field (s0.on_ 0x0301 7) 4 0 * 15625 + 7) / 8) }
    { s with frame := { s.frame with synoActive := false } }
  else s0

end Sys2Proof.Machine
end

