-- ==== Sys2Proof/Machine/Power.lean ====
section
/-! DEFINITION. Power states, the wake sources of AO, the final commit and the resets (R397 to R416, R421 to R424, R631,
R633). -/

namespace Sys2Proof.Machine

open Sys2Proof

/-! ### What a reset keeps (R39, R452, R637) -/

/-- The settings after a reset: every accepted write is in force; staging has ended (R161). -/
def Settings.afterReset (c : Settings) : Settings :=
  let kept := (List.range 64).foldl (fun l n =>
    let v := Pairs.get defaultOf l (ck n 0x01)
    if bitAt v 2 then Pairs.set defaultOf l (ck n 0x01) (v % 4) else l) c.stored
  { stored := kept, eff := kept, edits := [] }

/-- The queues after a reset: the counters stay. -/
def Queues.afterReset (q : Queues) : Queues :=
  { Queues.reset with linkErrors := q.linkErrors, spiDropped := q.spiDropped, coreDropped := q.coreDropped }

/-- The acoustic blocks after a reset: the counters stay, those of the contexts at their stored values (R637). -/
def Acoustic.afterReset (a : Acoustic) : Acoustic :=
  { Acoustic.reset with
    ctx := a.ctx.map fun c => { Ctx.reset with kept := c.kept, shots := c.kept.1, retries := c.kept.2.1, substs := c.kept.2.2 }
    chainSat := a.chainSat, calFaults := a.calFaults, closeStamps := a.closeStamps, orderErrors := a.orderErrors,
    overflows := a.overflows, timeouts := a.timeouts, waveSkipped := a.waveSkipped }

/-- The quantity engine after a reset: the commit banks, and the counts. -/
def Qty.afterReset (q : Qty) : Qty :=
  { Qty.reset with
    banks := q.banks, fails := q.fails, clearing := q.clearing
    outs := q.outs.map fun o => { PulseOut.reset with count := o.count } }

/-- The billing engine after a reset: the snapshot ring and the counts. -/
def Billing.afterReset (b : Billing) : Billing :=
  { Billing.reset with
    repeatTo := b.repeatTo, closeFloor := b.closeFloor, slots := b.slots, activations := b.activations, faults := b.faults, lastTravel := b.lastTravel, calFault := b.calFault,
    heldAt := b.heldAt }

/-- The application core after a device reset. -/
def AppCore.afterReset (c : AppCore) : AppCore :=
  { AppCore.reset with
    resets := c.resets, custTimeouts := c.custTimeouts, mailPublished := c.mailPublished, fwMin := c.fwMin }

/-- The powerline link after a reset: the counters stay. -/
def Powerline.afterReset (p : Powerline) : Powerline :=
  { Powerline.reset with
    txFrames := p.txFrames, rxFrames := p.rxFrames, crcErrors := p.crcErrors, erased := p.erased, refused := p.refused,
    rejects := p.rejects }

/-- The display engine after a reset: the counters stay; levels and ledger come back from the state area (R546). -/
def Display.afterReset (d : Display) : Display :=
  { Display.reset with
    updates := d.updates, superseded := d.superseded, balPhases := d.balPhases, interrupts := d.interrupts }

/-- A reason of Table 12.6 whose outcome is FAILED. -/
def failedReason (r : Nat) : Bool := [2, 3, 5, 6, 7, 8].contains r

/-- The back-off before a start, in RTC ticks (R424). -/
def Power.waitTicks (p : Power) : Nat :=
  if failedReason p.endReason && decide (0 < p.failedStarts) then 32768 * min 64 (2 ^ (p.failedStarts - 1)) else 0

/-- The power manager after a reset, which leads to a start; the residency counters and MTIME run on where AO kept its
supply. -/
def Power.afterReset (p : Power) : Power :=
  { Power.reset with
    mtime := p.mtime, finalDue := p.finalDue, lastWake := p.lastWake, wakeFails := p.wakeFails, res := p.res,
    resSnap := p.resSnap, resFrame := p.resFrame, startMode := p.startMode, failedStarts := p.failedStarts,
    startCount := p.startCount, taperLatchBk := p.taperLatchBk, taperLatchMetro := p.taperLatchMetro,
    taperCode := p.taperCode, history := p.history, open_ := p.open_, endReason := p.endReason,
    backoff := p.waitTicks, nrst := p.nrst, testm := p.testm, wakeFailReplay := p.wakeFailReplay,
    keyDown := p.keyDown, keySince := p.keySince }

/-- The device in reset: what FRAM and BK hold stays, everything else takes its value at reset. The application FRAM and
backup RAM keep their bytes, the SRAM loses them. -/
def State.afterReset (s : State) : State :=
  let settings := s.set.afterReset
  { State.reset with
    pending := s.pending
    bkLatches := s.bkLatches
    set := settings
    q := s.q.afterReset
    frame := { Frame.reset with number := s.frame.number }
    sync := { Sync.reset with rejects := s.sync.rejects }
    ledger := { Ledger.reset with broken := s.ledger.broken, overruns := s.ledger.overruns }
    ac := s.ac.afterReset
    sen := { Sensors.reset with faults := s.sen.faults }
    flow := { Flow.reset with creepEntries := s.flow.creepEntries }
    qty := s.qty.afterReset
    bill := s.bill.afterReset
    clk := { Clocks.reset with rtcOnLfrc := s.clk.rtcOnLfrc, fallbacks := s.clk.fallbacks }
    pwr := s.pwr.afterReset
    cal := s.cal
    acc := { s.acc with waiting := [], customer := [] }
    log := { s.log with due := [] }
    core := s.core.afterReset
    iol := { IoLink.reset with uploadFlag := s.iol.uploadFlag }
    mbus := { MBus.reset with baud := Pairs.get defaultOf settings.eff (key 0x1808 6) }
    pl := s.pl.afterReset
    disp := s.disp.afterReset
    mem := s.mem.filter fun p => !(decide (0x20000000 ≤ p.1) && decide (p.1 < 0x30000000)) }

/-- The open history entry is closed (R422, R423), and the next start takes the reason. -/
def Power.closeEntry (reason : Nat) (p : Power) : Power :=
  match p.history with
  | e :: es =>
    if p.open_ then
      let failed := failedReason reason && !p.succeeded
      { p with
        history := { e with endReason := reason, outcome := if p.succeeded then 1 else if failed then 2 else 3 } :: es
        failedStarts := if failed then satInc 255 p.failedStarts else p.failedStarts
        open_ := false, endReason := reason }
    else { p with endReason := reason }
  | [] => { p with open_ := false, endReason := reason }

/-- A reset of the device with a reason: the pending log entries that it writes are written (R580), the entry is closed and
a start follows. -/
def State.resetWith (reason logged : Nat) (s : State) : State :=
  State.afterReset { s with log := s.log.flush logged, pwr := s.pwr.closeEntry reason }

/-! ### The end of a commit (R310) -/

/-- The boundary commit ends and is judged: its events; a group it carries may be written once it is complete (R379). -/
def State.commitJudged (diff : List (Nat × Nat)) (s : State) : State :=
  let ok := s.qty.wroteWell diff
  let j := s.qty.judge ok
  ({ s with
    qty := j.1
    bill := { s.bill with groupDue := ok && s.bill.group.isSome, heldAt := if ok then none else s.bill.heldAt }
    frame := { s.frame with committing := false } } : State).raiseAll j.2

/-- A commit under way runs to its end (R314, R631). -/
def State.finishCommit (diff : List (Nat × Nat)) (s : State) : State :=
  if s.frame.committing then s.commitJudged diff else s

/-- The partial frame of a final commit up to the present time (R314, R316): its increments are added, the tariff registers,
the open subinterval and the outputs take them, and the record is written with PARTIAL; no frame is open after it. -/
def State.partialCommit (s : State) : State :=
  let o := s.frameFlow
  let q := s.accumulate o s.frame.tick
  let b := q.1.billGain q.2
  let s1 := State.feedPulses s b.2 b.1
  let s2 := { s1 with
    flow := if s.measuring then s1.flow.closeFrame o else s1.flow
    cal := s1.cal.copyTamper }
  let group := match s2.bill.group with
    | some g => some g
    | none => s2.qty.latest.bind fun p => p.2.group
  { s2 with
    qty := s2.qty.write (s2.record s2.frame.number true group)
    bill := s2.bill.torn
    frame := { s2.frame with running := false }
    pwr := { s2.pwr with finalDue := true }
    disp := s2.disp.stop }

/-- The read-back of a final commit (R314): what a complete record holds needs no copy of its own. -/
def State.readFinal (diff : List (Nat × Nat)) (s : State) : State :=
  let ok := s.qty.wroteWell diff
  { s with qty := s.qty.readBack ok, bill := if ok then { s.bill with heldAt := none } else s.bill }

/-! ### WICK (R71 to R73, R398 to R405) -/

/-- R398 and R632 do not allow WICK. -/
def State.wickBarred (s : State) : Bool :=
  (s.core.wfi.isNone && s.core.state != 0) || !bitAt (s.on_ 0x0200 1) 0 || s.sen.exciting || s.ftoActive ||
    s.bill.move.isSome || s.core.halted || s.core.hold

/-- LK stays on through DOZE and WICK (R400). -/
def State.linkKept (s : State) : Bool :=
  s.iol.state != 0 || (bitAt (s.on_ 0x1900 1) 7 && s.plMaster) || s.pl.tx.isSome || !s.pl.inbox.isEmpty

/-- The display engine keeps DP on in WICK (R400): the LCD is driven, or an update runs or waits, as R538 states (DEDUCED,
log 77). -/
def State.displayKept (s : State) : Bool := s.dpNeeded

/-- The domains on entering WICK (Table 12.2, R207, R400). -/
def State.wickDomains (s : State) : Power :=
  let off := [0, 3] ++ (if s.on_ 0x0400 1 == 1 && decide (s.mode ≠ .taper) then [] else [2]) ++
    (if s.linkKept then [] else [4]) ++ (if s.displayKept then [] else [5])
  off.foldl Power.switchOff s.pwr

/-- WICK_ROUND_TRIP in ledger cycles: 150 µs (R71). -/
def roundTrip : Nat := 9600

/-- The gap until the next job, from the start of the entry 20 µs ago, is shorter than WICK_ROUND_TRIP (R71). -/
def State.gapShort (s : State) : Bool := decide (s.nextJob < s.frame.cyc - 1280 + roundTrip)

/-- WICK_ENTRY_COMPLETE (R71, R73, R401, R404): the entry that began 20 µs earlier is complete; where R398 does not allow WICK,
or the gap is too short, the device waits in DOZE. While a job runs there is no entry. `wake` is a wake event other than one
raised by a command of its own that arrived during the entry. -/
def wickEntryComplete (cyc : Nat) (wake : Option Nat) (s0 : State) : State :=
  if !s0.frame.running || s0.frame.committing || s0.working then s0
  else
    let s := State.elapse (State.settlePins { s0 with frame := s0.frame.at_ cyc })
    if s.wickBarred || s.gapShort then s.toPower .doze
    else
      let tmOff := !(s.on_ 0x0400 1 == 1 && decide (s.mode ≠ .taper))
      let s1 := s.toPower .wick
      let s2 : State := { s1 with
        pwr := { s1.wickDomains with wickStart := s.frame.now - 8 * 1280 }
        ac := { (if tmOff then s1.ac.tmOff else s1.ac) with vsdGood := false }
        clk := if tmOff then { s1.clk with hfxReady := false } else s1.clk }
      match s2.pwr.wakePending, wake with
      | some e, _ => s2.leaveWick e
      | none, some e => s2.leaveWick e
      | none, none => s2

/-- WICK_EXIT (R72, R401): the exit starts at the wake event that waits, or 130 µs before the next job or boundary. -/
def wickExit (cyc : Nat) (s0 : State) : State :=
  let s := { s0 with frame := s0.frame.at_ (if s0.pwr.wakePending.isSome then cyc else max cyc (s0.nextJob - 8320)) }
  (s.leaveWick (s.pwr.wakePending.getD 255)).coreWake

/-- WAKE_FAIL (Table 12.10). -/
def wakeFail (code arg : Nat) : Raised := { ev := 37, code := code, arg := arg, src := 0x41, cls := 2 }

/-- The pump has brought VSD to within 2% of VSD_LEVEL, which now applies (R97, R134). -/
def State.vsdSettled (s : State) : State :=
  { s with set := s.set.force (key 0x0801 1) (s.at_ 0x0801 1), ac := { s.ac with vsdGood := true } }

/-- A domain's regulator has had its time-outs (R402, R403): 400 µs from the switch-on, and, after the first of them, 50 µs off
and 400 µs more. -/
def Domain.timeout (q : Domain) : Nat := q.since + usNow (if q.retried then 850 else 400)

/-- DOMAIN_READY (R402): a domain's regulator reports ready within its time-out; one later than Table 12.3 after its first
switch-on delays the jobs of the frame. With AF the pump restores VSD, by then or by VSD_PUMP_SETTLED
(R97); with TM the PLL locks where the HF RC is its
reference (R208). -/
def domainReady (d : Nat) (vsd : Bool) (cyc : Nat) (s0 : State) : State :=
  let s := s0.atCyc cyc
  let q := s.pwr.dom d
  if q.on && !q.ready && decide (s.frame.now ≤ q.timeout) then
    let s0 := { s with pwr := s.pwr.setDoms [d] fun q => { q with ready := true, retried := false } }
    let s1 := if d = 0 then (if vsd then s0.vsdSettled else s0) else if d = 2 ∧ s.clk.ref = 2 then s0.relocked else s0
    if decide (q.since + usNow (if d = 3 then 40 else 130) < s.frame.now) && s.measuring then s1.restore 1 s.frame.nowQ else s1
  else s

/-- REGULATOR_TIMEOUT (R403): at the first time-out the domain is cycled; at the second the device resets, after a final
commit where CE is ready. `commit` and `final` are the differences that the read-backs of a commit under way and of the final
one find. -/
def regulatorTimeout (d cyc : Nat) (commit final : List (Nat × Nat)) (s0 : State) : State :=
  let s := s0.atCyc cyc
  let q := s.pwr.dom d
  let count := fun (x : State) => { x with pwr := { x.pwr with wakeFails := satInc (2 ^ 32 - 1) x.pwr.wakeFails } }
  if !q.on || q.ready || !s.frame.running || decide (s.frame.now < q.timeout) then s
  else if !q.retried then
    let s1 := { s with pwr := s.pwr.setDoms [d] fun x => { x with retried := true } }
    count (s1.raise (wakeFail (2 ^ d) 0xFFFFFFFF))
  else
    let code := 2 ^ d + 256
    let s1 := count (s.raise (wakeFail code 0xFFFFFFFF))
    let s2 := { s1 with pwr := { s1.pwr with wakeFailReplay := some (code + 32768, 0xFFFFFFFF) } }
    if d ≠ 3 ∧ (s.pwr.dom 3).ready = true then
      let s3 := (s2.finishCommit commit).partialCommit
      State.resetWith 5 4 (s3.readFinal final)
    else State.resetWith 5 0 { s2 with pwr := { s2.pwr with finalDue := false } }

/-! ### KEY, SCS and the drive pump (R409, R410, R134) -/

/-- KEY_PRESS (Table 12.10). -/
def keyEvent (edge ms : Nat) : Raised := { ev := 54, code := edge, arg := ms % 2 ^ 32, src := 0x41, cls := 2 }

/-- KEY_PRESS (R410). -/
def keyPress (s : State) : State :=
  if s.pwr.aoDown then s else State.raise (keyEvent 1 0) { s with pwr := { s.pwr with keyDown := true, keySince := s.pwr.mtime } }

/-- KEY_RELEASE (R410) after a press of some ms. -/
def keyRelease (ms : Nat) (s : State) : State :=
  if s.pwr.aoDown then s else State.raise (keyEvent 2 ms) { s with pwr := { s.pwr with keyDown := false } }

/-- Whether the device sleeps. -/
def State.asleep (s : State) : Bool :=
  decide (s.pwr.state = .doze) || decide (s.pwr.state = .wick) || decide (s.pwr.state = .snuff)

/-- SPI_SCS_WAKE (R409): the transaction whose edge wakes the device is not served. -/
def spiScsWake (s : State) : State :=
  if s.asleep then s.raise { ev := 43, code := 0, arg := 0, src := 0x4E, cls := 2 } else s

/-- VSD_PUMP_SETTLED (R97, R134): the pump, which runs while AF is on, has settled at VSD_LEVEL; `droop` tells a droop beyond
5%. -/
def vsdPumpSettled (droop : Bool) (s : State) : State :=
  if (s.pwr.dom 0).on then
    { s.vsdSettled with ac := { s.vsdSettled.ac with vsdDroop := s.ac.vsdDroop || droop } }
  else s

/-! ### Brownout (R314, R405, R414) -/

/-- BROWNOUT (Table 12.10): the last supply present, 1 VMAIN or 2 VBAT, and VCAP in mV. -/
def brownoutEvent (emergency : Bool) (supply vcap : Nat) : Raised :=
  { ev := 36, code := flagAt emergency 8 + supply % 4, arg := vcap % 2 ^ 32, src := 0x41, cls := 2 }

/-- The occurrence of an event reaches the log at once. -/
def State.logNow (ev : Nat) (s : State) : State :=
  match s.events.find? fun p => p.is .log ev with
  | none => s
  | some p => if s.ceUp then s.deliverTo .log p else s

/-- A brownout in WICK powers CE alone for the final commit (R405). -/
def State.emergency (s : State) : State :=
  let s1 := s.leaveWick 36
  if s.pwr.state = .wick then { s1 with pwr := Power.powered { s1.pwr with doms := s.pwr.doms } 3 } else s1

/-- The brownout hold begins (R414): AO is held in reset. -/
def State.toHold (s : State) : State :=
  let s1 := State.afterReset { s with log := s.log.flush 4 }
  { s1 with pwr := { s1.pwr with state := .hold, backoff := 0 } }

/-- BROWNOUT (R314, R413, R414): with a frame open the partial frame is committed; elsewhere the hold begins at once. A held
NRST or a hold already begun is not changed (R631). -/
def brownout (cyc supply vcap : Nat) (commit : List (Nat × Nat)) (s0 : State) : State :=
  if s0.pwr.aoDown then s0
  else if s0.frame.running then
    let s := State.elapse { s0 with frame := s0.frame.at_ cyc }
    let wick := decide (s.pwr.state = .wick)
    let s1 := (s.raise (brownoutEvent wick supply vcap)).emergency
    ((s1.logNow 36).finishCommit commit).partialCommit
  else if s0.qty.writing.isSome then s0
  else
    let s := s0.raise (brownoutEvent false supply vcap)
    let woke := if s0.pwr.state = .snuff then 36 else s.pwr.lastWake
    let s1 := { s with pwr := { s.pwr with lastWake := woke } }
    (s1.logNow 36).toHold

/-- FINAL_COMMIT_COMPLETE (R314, R580): the final commit is read back, the log entries are written and the hold begins. -/
def finalCommitComplete (diff : List (Nat × Nat)) (s : State) : State :=
  if s.frame.running || !(s.qty.writing.map Commit.partial_).getD false then s
  else State.toHold (s.readFinal diff)

/-- BROWNOUT_HOLD_RECOVERY (R414): the supply returns before VCAP is lost. -/
def brownoutHoldRecovery (s : State) : State :=
  if s.pwr.state = .hold then
    let p := s.pwr.closeEntry 2
    { s with pwr := { p with state := .starting, backoff := p.waitTicks } }
  else s

/-- VCAP_HOLD_LOST (R414, R631): AO loses power and the device is in DARK. -/
def vcapHoldLost (s : State) : State :=
  if s.pwr.state = .hold || (decide (s.pwr.state = .starting) && s.pwr.nrst) then
    { s with pwr := { s.pwr with state := .dark, endReason := 1, backoff := 0 } }
  else s

/-- AO_POWER_UP (R417): a supply returns while AO is unpowered; the next start has reason POWER_ON. -/
def aoPowerUp (s : State) : State :=
  if s.pwr.state = .dark then
    let s1 := s.afterReset
    { s1 with pwr := { s1.pwr with
        mtime := 0, res := Residency.zero, resSnap := Residency.zero, resFrame := 0, lastWake := 255, endReason := 1,
        backoff := 0, wakeFailReplay := none, keyDown := false } }
  else s

/-! ### NRST and TESTM (R631, R633) -/

/-- NRST_ASSERT (R631): with a frame open the final commit is made and the entry closed; in the start sequence the entry
becomes FAILED; in SNUFF, the hold and a back-off nothing is committed or closed. -/
def nrstAssert (cyc : Nat) (commit final : List (Nat × Nat)) (s0 : State) : State :=
  if s0.pwr.nrst || decide (s0.pwr.state = .dark) then s0
  else if s0.frame.running then
    let s := State.elapse { s0 with frame := s0.frame.at_ cyc }
    let s1 := (s.finishCommit commit).partialCommit
    State.resetWith 3 4 (State.readFinal final { s1 with pwr := { s1.pwr with nrst := true } })
  else if s0.pwr.state = .starting ∨ s0.pwr.state = .snuff then
    State.resetWith 3 0 { s0 with pwr := { s0.pwr with nrst := true } }
  else { s0 with pwr := { s0.pwr with nrst := true } }

/-- NRST_RELEASE (R631): a start follows, after any back-off. -/
def nrstRelease (s : State) : State :=
  let p := { s.pwr with nrst := false }
  if s.pwr.nrst && decide (s.pwr.state = .starting) then
    { s with pwr := { p with endReason := 3, backoff := Power.waitTicks { p with endReason := 3 } } }
  else { s with pwr := p }

/-- TESTM_RELEASE (R633). -/
def testmRelease (s : State) : State := { s with pwr := { s.pwr with testm := false } }

/-- BACKOFF_EXPIRY (R424). -/
def backoffExpiry (s : State) : State := if s.pwr.backoff ≤ 1 then { s with pwr := { s.pwr with backoff := 0 } } else s

/-! ### SNUFF (R412, R413) -/

/-- SNUFF is entered after the commit of a boundary (R412). -/
def State.enterSnuff (s : State) : State :=
  let s1 := s.toPower .snuff
  let p := s1.pwr.closeEntry 9
  { s1 with
    frame := { s1.frame with running := false }
    log := s1.log.flush s1.log.due.length
    disp := s1.disp.stop
    core := s1.core.afterReset
    pwr := { p with command := 0, finalDue := false, doms := p.doms.map fun _ => Domain.off } }

/-- SNUFF_WAKE (R413): the wake event that waits ends SNUFF; one that came before the entry was complete makes it short. -/
def snuffWake (duringEntry : Bool) (s : State) : State :=
  match s.pwr.state, s.pwr.wakePending with
  | .snuff, some ev =>
    let p := s.pwr
    let res := if duringEntry then { p.res with short := modAt p.res.short 1 (satInc (2 ^ 48 - 1)) } else p.res
    let s1 := State.afterReset { s with pwr := { p with lastWake := ev, res := res, endReason := 9 } }
    { s1 with pwr := { s1.pwr with backoff := 0 } }
  | _, _ => s

/-! ### Watchdog resets (R421) -/

/-- A reset with reason WATCHDOG makes no final commit (R421). -/
def State.watchdogReset (s : State) : State := State.resetWith 8 0 { s with pwr := { s.pwr with finalDue := false } }

/-- ACCUMULATION_START_TIMEOUT (R421): the boundary that ends the open frame has come and its accumulation has not started,
so that nothing of the boundary sequence has run. -/
def accumulationStartTimeout (s : State) : State :=
  if s.frame.running && !s.frame.committing then s.watchdogReset else s

/-- MICROCODE_ACK_TIMEOUT (R421): the sequencer has not acknowledged the last boundary; a commit still under way is cut and
leaves its bank torn. -/
def microcodeAckTimeout (s : State) : State :=
  if s.frame.running then State.watchdogReset { s with qty := s.qty.readBack false } else s

end Sys2Proof.Machine
end

