-- ==== Sys2Proof/Machine/Start.lean ====
section
/-! DEFINITION. The start sequence, its opening boundary and the end of a boundary's commit (R417 to R433, R459). -/

namespace Sys2Proof.Machine

open Sys2Proof

/-! ### The start sequence (Table 12.5) -/

/-- A start sequence may begin: the device is in reset, no back-off runs and NRST is high (R417, R424, R631). -/
def State.mayStart (s : State) : Bool :=
  decide (s.pwr.state = .starting) && !s.pwr.nrst && s.pwr.backoff == 0 && !s.ceUp

/-- A new history entry opens (R417, R426); one left open by a loss of AO power is closed (R423). -/
def Power.openEntry (time flags : Nat) (p0 : Power) : Power :=
  let p := if p0.open_ then { p0.closeEntry 1 with endReason := p0.endReason } else p0
  { p with
    history := ({ time := time, startReason := p.endReason, outcome := 0, endReason := 0, flags := flags, frames := 0,
                  fails := p.failedStarts } :: p.history).take 8
    open_ := true, succeeded := false, boundaries := 0, startCount := satInc (2 ^ 32 - 1) p.startCount }

/-- Set a bit of FLAGS of the open history entry. -/
def Power.mark (n : Nat) (p : Power) : Power :=
  { p with history := match p.history with
    | e :: es => { e with flags := e.flags ||| 2 ^ n } :: es
    | [] => [] }

/-- Mark the open entry where a condition holds. -/
def State.markIf (c : Bool) (n : Nat) (s : State) : State := if c then { s with pwr := s.pwr.mark n } else s

/-- The sequence begins: the history entry, the log entries lost at the last reset (R580). Where BK state was lost its time
is that of the restored record (R358). -/
def State.beginStart (s : State) : State :=
  let time := if s.cal.lossDue then (s.qty.latest.map fun p => p.2.seconds).getD 0 else s.cal.seconds
  { s with
    pwr := s.pwr.openEntry (time % 2 ^ 48) (flagAt s.cal.lossDue 2)
    log := { s.log with lost := min (2 ^ 32 - 1) (s.log.lost + s.log.lostBk), lostBk := 0 } }

/-- Commit restoration (R313, R314, Table 9.6), with the bits of the banks that have changed since they were written: the restored record, its flags, and COMMIT_FAIL with KIND 5 where a final
commit was due and the record lacks PARTIAL. -/
def State.restoreStart (damage : List (Nat × Nat × Nat)) (s0 : State) : State × Option Commit :=
  let s := { s0 with qty := s0.qty.readBanks damage }
  let r := s.restoreBanks
  let number := match r.2.1 with
    | none => 0
    | some c => (c.frame + 1) % 2 ^ 48
  let s1 := { r.1 with
    frame := { r.1.frame with number := number }
    bill := { r.1.bill with
      st := { r.1.bill.st with activateAt := s.bill.heldAt.getD r.1.bill.st.activateAt } } }.raiseAll r.2.2
  let missed := match r.2.1 with
    | none => false
    | some c => s.pwr.finalDue && !c.partial_ && [2, 3, 5].contains s.pwr.endReason
  let s2 := s1.raiseIf missed (commitFail 5 s1.qty.seq 2)
  let s3 : State := { s2 with pwr := { s2.pwr with finalDue := false } }
  ((s3.markIf s3.qty.oneBank 3).markIf r.2.1.isNone 4, r.2.1)

/-- The blocks as a start brings them up: contexts (R637), the reference of CLOCK_SELECT 2 (R205), the display (R546). -/
def State.bringUp (s : State) : State :=
  let taper := decide (s.mode = .taper)
  let rc := s.on_ 0x0400 1 == 2 && !taper
  State.restoreDisplay { s with
    ac := { s.ac with
      ctx := (List.range 64).map fun n => (s.ac.ctxAt n).started s.eff n
      pllLocked := rc, dllLocked := rc }
    clk := { s.clk with ref := if rc then 2 else 0 } }

/-- The operating mode of a start (R418, R425); MEASURE is entered with the fixed medium where one is set (R279). -/
def State.startsIn (s : State) : State :=
  let resumed := s.pwr.taperLatchBk || s.pwr.taperLatchMetro
  if resumed || decide (s.on_ 0x0201 3 ≤ s.pwr.failedStarts) then
    { s with mode := .taper, pwr := { s.pwr with resumed := resumed } }
  else if s.pwr.startMode = 0 then { s with mode := .config }
  else
    let r := State.requestMode 2 { s with mode := Mode.config }
    if r.2 = abortOk then
      let m := r.1.flow.fixMedium r.1.eff
      State.raiseAll m.2 { r.1 with mode := .measure, modePending := none, flow := m.1 }
    else r.1.markIf true 5

/-- START_SEQUENCE (R417), with the level of TESTM, whether the second check of OTP fails, and the bits of the commit banks that
have changed since they were written: up to the choice of the mode; the opening boundary follows. -/
def startSequence (testm otpFails : Bool) (damage : List (Nat × Nat × Nat)) (s0 : State) : State :=
  if !s0.mayStart then s0
  else if testm then { s0 with pwr := { s0.pwr with testm := true } }
  else
    let s1 := State.beginStart { s0 with pwr := { s0.pwr with testm := false } }
    if otpFails then s1.resetWith 7 0
    else
      let s2 := { s1 with pwr := (s1.pwr.powered 3).powered 2 }
      let r := s2.restoreStart damage
      let s3 := if r.1.cal.lossDue then r.1.bkLoss (r.2.map Commit.seconds) else r.1
      let s4 := (s3.completeGroups).catchUp (r.2.map Commit.seconds)
      s4.startsIn.bringUp

/-- START_REGULATOR_TIMEOUT (R417): CE is not ready after its second time-out. -/
def startRegulatorTimeout (s : State) : State :=
  if decide (s.pwr.state = .starting) && s.ceUp then s.resetWith 6 0
  else if s.mayStart && !s.pwr.testm then s.beginStart.resetWith 6 0
  else s

/-! ### The opening boundary (Table 12.5, R429, R431) -/

/-- The latched events of BK become pending, with LATCHED, before the events of the start and before EV0 (R21, R37, R40). -/
def State.deliverLatches (s : State) : State :=
  { s with
    bkLatches := []
    events := (s.bkLatches.flatMap fun l =>
      (routeDests (s.on_ 0x1510 (l.ev + 1)) l.ev).map fun d =>
        { dest := d, ev := l.ev, count := l.count, code := l.code, arg := l.arg, src := 0x51, cls := 2, latched := true,
          offered := false, frame := s.frame.number, tick := l.prescaler, at_ := s.frame.absTick, seconds := l.seconds }) ++
      s.events }

/-- TAPER is entered (R429): both latches, TAPER_CODE, the entry's flag, and TAPER_ENTERED (Table 12.10). -/
def State.enterTaper (s : State) : State :=
  if s.mode = .taper then
    let failed := s.pwr.history.find? fun e => e.outcome == 2
    let code := (failed.map BootEntry.endReason).getD s.pwr.taperCode
    let s1 := { s with pwr := Power.mark 0 { s.pwr with taperLatchBk := true, taperLatchMetro := true, taperCode := code } }
    s1.raise { ev := 63, code := flagAt s1.pwr.resumed 15 + s1.pwr.failedStarts, arg := code, src := 0x41, cls := 2 }
  else s

/-- The next RTC tick edge comes, at which the first frame opens (R417): its time counts from there. -/
def State.toNextTick (s : State) : State :=
  let s1 := s.elapse
  let e := s1.frame.absTick + 1
  { s1 with frame := { s1.frame with base := 15625 * e, cyc := 0, done := 0 } }.elapseBy 1

/-- OPENING_BOUNDARY (R417): the restored state is committed with zero increments, EV0 is raised and the first frame opens. -/
def openingBoundary (s : State) : State :=
  if !(decide (s.pwr.state = .starting) && s.ceUp) then s
  else
    let s0 := s.toNextTick
    let display := if s0.dpNeeded then s0.pwr.powered 5 else s0.pwr
    let s1 : State := { s0 with
      perf := Perf.reset
      frame := { s0.frame with running := true, committing := true, length := s0.period, lantern := !s0.frame.lantern,
                               synoActive := field (s0.on_ 0x0301 7) 4 0 != 0 }
      pwr := (display.powered 0).powered 4 }
    let s2 := (s1.toPower .run).newSource 0
    let s3 := match s2.pwr.wakeFailReplay with
      | none => s2
      | some w => State.raise (wakeFail w.1 w.2) { s2 with pwr := { s2.pwr with wakeFailReplay := none } }
    let s4 := ((s3.deliverLatches.raise (frameEvent 0)).enterTaper).markIf s3.clk.hfxFailed 1
    let s5 := s4.takeClear
    let k := s5.frame.number
    let rec_ := s5.record ((k + (2 ^ 48 - 1)) % 2 ^ 48) false s5.bill.group
    let s6 : State := { s5 with
      qty := s5.qty.write rec_
      bill := s5.bill.noteRecord rec_
      cal := s5.cal.copyTamper
      pwr := s5.pwr.snapshot k
      core := { s5.core with state := if s5.mode = .taper then 0 else 1 }
      q := { s5.q with gens := setAt s5.q.gens 1 1 } }
    (s6.restartMove.taperDisplay).openFrame

/-! ### The end of the commit slot (R74, R310) -/

/-- The frame has core time reserved (R559). -/
def State.coreReserved (s : State) : Bool :=
  (decide (s.mode = .measure) || decide (s.mode = .verify)) &&
    !(rowsRunning s.eff 4 (framePhase s.eff s.frame.number)).isEmpty

/-- TAPER_EXIT acts (R430). -/
def State.exitTaper (s : State) : State :=
  State.resetWith 10 s.log.due.length
    { s with pwr := { s.pwr with
        taperLatchBk := false, taperLatchMetro := false, failedStarts := 0, taperCode := 0, finalDue := false } }

/-- COMMIT_COMPLETE (R310, R74): the read-back of the boundary commit ends, at t + 60 µs, `diff` being the bits in which it
differs from what was written; then what waits for it happens: the
snapshot record of the counters (R601), a reset, SNUFF or the exit from TAPER (R412, R430, R433), the core's reserved time
(R559) and the requests that wait (R452). -/
def commitComplete (diff : List (Nat × Nat)) (s0 : State) : State :=
  if !(s0.frame.running && s0.frame.committing) then s0
  else
    let s1 := (((s0.atCyc 3840).elapse).swapPd).commitJudged diff
    let s2 := if s1.perfDue && decide (0 < s1.pwr.boundaries) then s1.emit s1.perfRecord else s1
    if s2.pwr.taperExit then s2.exitTaper
    else if s2.pwr.command = 1 then
      State.resetWith 4 s2.log.due.length { s2 with pwr := { s2.pwr with finalDue := false } }
    else if s2.pwr.command = 2 then s2.enterSnuff
    else
      let s3 := if s2.coreReserved then s2.reserveCore else s2
      (s3.serveAll).coreWake

/-- FRAME_BOUNDARY: a boundary that comes while the commit slot is still open implies that the commit was completed. -/
def frameBoundaryAll (gate : List (Nat × Nat)) (lfxTicks : Nat) (acf0 acf1 : Bool) (figures : List Act)
    (slots : List SlotUse) (edge : List Act) (s : State) : State :=
  frameBoundary gate lfxTicks acf0 acf1 figures slots edge (commitComplete [] s)

end Sys2Proof.Machine
end

