-- ==== Sys2Proof/Machine/Tick.lean ====
section
/-! DEFINITION. One RTC tick in which no command comes: what the passing of time alone does (R349, R415, R424, R448, R464,
R489, R520, R563). DESIGN CHOICE, log 4: the step takes it on an empty queue. -/

namespace Sys2Proof.Machine

open Sys2Proof

/-- The lockouts of the roles run on in DARK too, and end (R448). -/
def State.tickLockouts (s : State) : State :=
  { s with acc := { s.acc with lockout := s.acc.lockout.map fun n => n - 1 } }

/-- The time-outs of the links and of the held customer request act where they are due (Table 14.1, R489, R520, R567). -/
def State.tickLinks (s : State) : State :=
  custTimeout <| iolSessionTimeout ((List.range 24).foldl (fun acc n => plSessionIdle n acc) (mbusBaudRevert (mbusSessionIdle s)))

/-- A tick in which AO is powered: the time of the frame, MTIME and its match, the residency counters, the calendar, the
back-off, the lockouts, the links. -/
def State.tickAo (s : State) : State :=
  let s1 := s.runTicks 1
  let s2 := if s1.core.mtimecmp ≤ s1.pwr.mtime then mtimecmpMatch s1 else s1
  let s3 := if s2.frame.running then s2.tickLinks else s2
  s3.calendarDue

/-- One RTC tick passes. A frame that has reached its end waits for the command that brings its boundary. -/
def State.rtcTick (s : State) : State :=
  if s.frame.running && decide (s.frame.endCyc ≤ s.frame.cyc) then s
  else if s.pwr.state = .dark then s.calendarTick.tickLockouts else s.tickAo

end Sys2Proof.Machine
end

