-- ==== Sys2Proof/Machine/AcousticCommands.lean ====
section
/-! DEFINITION. The meanings of the commands of the shots, the TDC and the correlator, one for each row of the table, over the operations of the files
before. None of them stops. -/

namespace Sys2Proof.Machine

open Sys2Proof

/-- SHOT_GROUP_START (R118): A shot group starts: crossbar, gain and filters are set, the interpolators are
calibrated and the members fire at F. -/
def execShotGroupStart (group : Nat) (kind : ShotKind) (due : Nat) (vhd : Nat) (cals : List CalReading) (s : State) :
    Host.Outcome State Fault Refusal :=
  .next (Sys2Proof.Machine.shotGroupStart group kind due vhd cals s)

/-- VHD_RECOVERED (R103): A held high-drive shot fires as soon as VHD reaches its threshold, as a displacement. -/
def execVhdRecovered (group : Nat) (cyc : Nat) (s : State) : Host.Outcome State Fault Refusal :=
  .next (Sys2Proof.Machine.vhdRecovered group cyc s)

/-- HELD_SHOT_GIVEN_UP (R103): A held shot that can no longer end by E_k is given up under step 3 of R85. -/
def execHeldShotGivenUp (group : Nat) (cyc : Nat) (s : State) : Host.Outcome State Fault Refusal :=
  .next (Sys2Proof.Machine.heldShotGivenUp group cyc s)

/-- REVERSE_TRANSMISSION (R118): In sequential firing, B fires at F2 after the ring-down and the TDC restarts. -/
def execReverseTransmission (ctx : Nat) (acquisition : Bool) (cyc : Nat) (s : State) : Host.Outcome State Fault
    Refusal :=
  .next (Sys2Proof.Machine.reverseTransmission ctx acquisition cyc s)

/-- WINDOW_CLOSE (R138): A direction's window closes, its measurement ends and the early gates are decided. -/
def execWindowClose (ctx : Nat) (up : Bool) (acquisition : Bool) (samples : List Int) (seen : WindowSeen) (s : State)
    : Host.Outcome State Fault Refusal :=
  .next (windowCloseAll ctx up acquisition (seen.meas samples) s)

/-- TDC_COUNT_WRAP (R172): A short-window measurement ends at the wrap of its coarse count, with overflow and TDC_OVF
where no stamp was taken. -/
def execTdcCountWrap (ctx : Nat) (up : Bool) (acquisition : Bool) (late : Nat) (cyc : Nat) (s : State) : Host.Outcome
    State Fault Refusal :=
  .next (tdcEnd true ctx up acquisition late cyc s)

/-- TDC_STOP_TIMEOUT (R173): A long-window measurement ends at its stop timeout, with TDC_TIMEOUT where no stamp was
taken. -/
def execTdcStopTimeout (ctx : Nat) (up : Bool) (acquisition : Bool) (cyc : Nat) (s : State) : Host.Outcome State
    Fault Refusal :=
  .next (tdcEnd false ctx up acquisition 0 cyc s)

/-- RETRY_SLOT_START (R143): At a reserved retry slot, every member with a known retried failure and a reserved retry
left is fired again. -/
def execRetrySlotStart (group : Nat) (due : Nat) (vhd : Nat) (cals : List CalReading) (s : State) : Host.Outcome
    State Fault Refusal :=
  .next (Sys2Proof.Machine.retrySlotStart group due vhd cals s)

/-- CORRELATION_COMPLETE (R184): The tracking correlation of a direction completes, fusion runs and the late gates
are decided. -/
def execCorrelationComplete (ctx : Nat) (up : Bool) (cyc : Nat) (s : State) : Host.Outcome State Fault Refusal :=
  .next (Sys2Proof.Machine.correlationComplete ctx up cyc s)

/-- ACQUISITION_SEARCH_COMPLETE (R185): An acquisition search over ±1024 lags completes, and the tracking centres are
set on success. -/
def execAcquisitionSearchComplete (ctx : Nat) (cyc : Nat) (s : State) : Host.Outcome State Fault Refusal :=
  .next (Sys2Proof.Machine.acquisitionSearchComplete ctx cyc s)

/-- WAVEFORM_COPY_COMPLETE (R199): The Ochre copy of a capture into a WAVEFORM record completes, and the record is
emitted. -/
def execWaveformCopyComplete (ctx : Nat) (up : Bool) (cyc : Nat) (s : State) : Host.Outcome State Fault Refusal :=
  .next (Sys2Proof.Machine.waveformCopyComplete ctx up cyc s)

/-- TM_INPUT_CALIBRATION (R169): Every 1 ms while TM is on, TDC inputs 17 and 18 are calibrated again. -/
def execTmInputCalibration (gate : GateReading) (s : State) : Host.Outcome State Fault Refusal :=
  .next (Sys2Proof.Machine.tmInputCalibration gate.cal gate.stops s)

/-- VSD_PUMP_SETTLED (R134): Within 2 ms of a VSD_LEVEL write, the pump settles and the new standard drive level
applies, with VSD_STATUS bit 0 reporting VSD within 2% of it. -/
def execVsdPumpSettled (droop : Bool) (s : State) : Host.Outcome State Fault Refusal :=
  .next (Sys2Proof.Machine.vsdPumpSettled droop s)

end Sys2Proof.Machine
end

