-- ==== Sys2Proof/Machine/ClockCommands.lean ====
section
/-! DEFINITION. The meanings of the commands of the clock sources, the calendar and the backup domain, one for each row of the table, over the operations of the files
before. None of them stops. -/

namespace Sys2Proof.Machine

open Sys2Proof

/-- HF_CRYSTAL_READY (R209): The HF crystal amplitude detector reports ready, and the PLL locks to it. -/
def execHfCrystalReady (cyc : Nat) (ready : Nat) (s : State) : Host.Outcome State Fault Refusal :=
  .next (Sys2Proof.Machine.hfCrystalReady cyc ready s)

/-- CRYSTAL_READY_TIMEOUT (R221): The HF crystal is not ready within 2 ms, is declared failed and the PLL falls back
to the HF RC. -/
def execCrystalReadyTimeout (cyc : Nat) (s : State) : Host.Outcome State Fault Refusal :=
  .next (Sys2Proof.Machine.crystalReadyTimeout cyc s)

/-- CRYSTAL_RETRY (R224): Every CRYSTAL_RETRY_FRAMES frames after a failure, the HF crystal is started again at the
next TM switch-on. -/
def execCrystalRetry (s : State) : Host.Outcome State Fault Refusal :=
  .next (Sys2Proof.Machine.crystalRetry s)

/-- OCXO_GATE_END (R217): An OCXO counting gate ends and the frequency error and drift rate are updated. -/
def execOcxoGateEnd (cyc : Nat) (refs : Nat) (count : Nat) (s : State) : Host.Outcome State Fault Refusal :=
  .next (Sys2Proof.Machine.ocxoGateEnd cyc refs count s)

/-- OCXO_EDGE_LOST (R220): No OCXO edge for 1 µs clears OCXO_WARM and forces a fallback. -/
def execOcxoEdgeLost (cyc : Nat) (s : State) : Host.Outcome State Fault Refusal :=
  .next (Sys2Proof.Machine.ocxoEdgeLost cyc s)

/-- LF_CRYSTAL_STOPPED (R223): No 32 768 Hz edge for 4 LF RC periods switches the RTC clock to the LF RC oscillator
and sets UNCERTAIN. -/
def execLfCrystalStopped (s : State) : Host.Outcome State Fault Refusal :=
  .next (Sys2Proof.Machine.lfCrystalStopped s)

/-- CALENDAR_SECOND (R349): At each second edge the seconds counter advances, the end of range is checked, a DST rule
is applied and a due alarm fires. -/
def execCalendarSecond (s : State) : Host.Outcome State Fault Refusal :=
  .next (Sys2Proof.Machine.calendarSecond s)

/-- TRIM_WINDOW_START (R342): At the start of each 256 s trim window, the number of prescaler corrections and the
carry are computed. -/
def execTrimWindowStart (s : State) : Host.Outcome State Fault Refusal :=
  .next (Sys2Proof.Machine.trimWindowStart s)

/-- TAMPER_SAMPLE (R352): Every 256 RTC ticks, each enabled tamper input is sampled, with its pulsed pull-up where
set. -/
def execTamperSample (tamp0 : Bool) (tamp1 : Bool) (mags : Bool) (s : State) : Host.Outcome State Fault Refusal :=
  .next (Sys2Proof.Machine.tamperSample [tamp0, tamp1, mags] s)

/-- BACKUP_SWITCHOVER (R355): A supply threshold crossing moves BK to the highest-priority supply present and raises
BACKUP_SWITCHOVER. -/
def execBackupSwitchover (vmain : Nat) (vbat : Nat) (vbkp : Nat) (s : State) : Host.Outcome State Fault Refusal :=
  .next (Sys2Proof.Machine.backupSwitchover vmain vbat vbkp s)

/-- VMAIN_RISE (R357): VMAIN rising through 0.5 V on VBKP records the VBKP level and times the ramp to 2.60 V,
deciding whether BK state is kept. -/
def execVmainRise (vbkp : Nat) (ticks : Nat) (s : State) : Host.Outcome State Fault Refusal :=
  .next (Sys2Proof.Machine.vmainRise vbkp ticks s)

/-- BK_RETENTION_TRIP (R356): The BK supply node falling below 1.40 V marks BK state as lost. -/
def execBkRetentionTrip (s : State) : Host.Outcome State Fault Refusal :=
  .next (Sys2Proof.Machine.bkRetentionTrip s)

/-- AUTH_LOCKOUT_EXPIRY (R448): The 60 s lockout of a role ends. -/
def execAuthLockoutExpiry (role : Nat) (s : State) : Host.Outcome State Fault Refusal :=
  .next (Sys2Proof.Machine.authLockoutExpiry role s)

end Sys2Proof.Machine
end

