-- ==== Sys2Proof/Machine/CoreCommands.lean ====
section
/-! DEFINITION. The meanings of the commands of the application core, one for each row of the table, over the operations of the files
before. None of them stops. -/

namespace Sys2Proof.Machine

open Sys2Proof

/-- BOOT_VERIFY_COMPLETE (R571): Image verification completes, and the core jumps to ENTRY or stays in the loader. -/
def execBootVerifyComplete (s : State) : Host.Outcome State Fault Refusal :=
  .next (Sys2Proof.Machine.bootVerifyComplete s)

/-- WFI (R557): A WFI with no enabled interrupt pending stops the core and allows WICK. -/
def execWfi (mie : Nat) (s : State) : Host.Outcome State Fault Refusal :=
  .next (wfiStop mie s)

/-- MTIMECMP_MATCH (R563): MTIME reaching MTIMECMP sets the machine timer interrupt while CE is on. -/
def execMtimecmpMatch (s : State) : Host.Outcome State Fault Refusal :=
  .next (Sys2Proof.Machine.mtimecmpMatch s)

/-- MSIP_WRITE (R561): A write to MSIP sets or clears the machine software interrupt. -/
def execMsipWrite (value : Nat) (s : State) : Host.Outcome State Fault Refusal :=
  .next (Sys2Proof.Machine.msipWrite value s)

/-- CLAIM (R562): A read of CLAIM returns and clears the highest-priority eligible event and loads its details. -/
def execClaim (s : State) : Host.Outcome State Fault Refusal :=
  .next (Sys2Proof.Machine.claim s)

/-- LOCAL_ACK (R561): A write to LOCAL_ACK clears local interrupts 16 to 18. -/
def execLocalAck (value : Nat) (s : State) : Host.Outcome State Fault Refusal :=
  .next (Sys2Proof.Machine.localAck value s)

/-- WDT_KICK (R564): A write of 0xC3A5 to WDT_KICK restarts the watchdog count. -/
def execWdtKick (value : Nat) (s : State) : Host.Outcome State Fault Refusal :=
  .next (Sys2Proof.Machine.wdtKick value s)

/-- CORE_WATCHDOG (R564): TIMEOUT boundaries without a kick reset the core alone and raise CORE_WATCHDOG. -/
def execCoreWatchdog (pc : Nat) (s : State) : Host.Outcome State Fault Refusal :=
  .next (Sys2Proof.Machine.coreWatchdog pc s)

/-- RESERVATION_SPENT (R559): The core having spent CORE_US µs out of WFI ends the hold of CE out of WICK. -/
def execReservationSpent (s : State) : Host.Outcome State Fault Refusal :=
  .next (Sys2Proof.Machine.reservationSpent s)

/-- REQ_GO (R565): A write of 1 to REQ_GO submits the core's dictionary request through the access port. -/
def execReqGo (value : Nat) (s : State) : Host.Outcome State Fault Refusal :=
  .next (Sys2Proof.Machine.reqGo value s)

/-- CUSTOMER_REQUEST_HELD (R566): An admitted customer-entry request is held at the access port and local interrupt
16 is set. -/
def execCustomerRequestHeld (s : State) : Host.Outcome State Fault Refusal :=
  .next (Sys2Proof.Machine.customerRequestHeld s)

/-- CUST_DONE (R566): A write of 1 to CUST_DONE completes the held request with the core's answer. -/
def execCustDone (value : Nat) (s : State) : Host.Outcome State Fault Refusal :=
  .next (Sys2Proof.Machine.custDone value s)

/-- CUST_TIMEOUT (R567): A held request not answered within CUST_TIMEOUT is answered with STATE and counted. -/
def execCustTimeout (s : State) : Host.Outcome State Fault Refusal :=
  .next (Sys2Proof.Machine.custTimeout s)

/-- MAILBOX_TAKEN (R568): Writing bit 0 of MAILBOX_CTRL marks MAILBOX_IN as taken. -/
def execMailboxTaken (s : State) : Host.Outcome State Fault Refusal :=
  .next (Sys2Proof.Machine.mailboxTaken s)

/-- MAILBOX (R568): Writing bit 1 of MAILBOX_CTRL publishes MAILBOX_OUT and raises MAILBOX. -/
def execMailbox (s : State) : Host.Outcome State Fault Refusal :=
  .next (Sys2Proof.Machine.mailbox s)

/-- IN_DATA_POP (R569): A read of IN_DATA pops one word of the IN queue. -/
def execInDataPop (s : State) : Host.Outcome State Fault Refusal :=
  .next (Sys2Proof.Machine.inDataPop s)

/-- OUT_SUBMIT (R569): A write of 1 to OUT_SUBMIT submits the pushed words as records under the whole-record checks.
-/
def execOutSubmit (value : Nat) (s : State) : Host.Outcome State Fault Refusal :=
  .next (Sys2Proof.Machine.outSubmit value s)

/-- FIREWALL_ACCESS_FAULT (R570): An application-fabric access outside the map faults, reaches no target and is
recorded. -/
def execFirewallAccessFault (addr : Nat) (master : Nat) (access : Nat) (core : CoreAt) (s : State) : Host.Outcome
    State Fault Refusal :=
  .next (Sys2Proof.Machine.firewallAccessFault addr master access core s)

/-- COUNT_LO_READ (R596): A read of COUNT_LO or SNAP_FRAME_LO latches the matching high word for that master. -/
def execCountLoRead (master : Nat) (off : Nat) (user : Bool) (s : State) : Host.Outcome State Fault Refusal :=
  .next (Sys2Proof.Machine.countLoRead master off user s)

/-- DEBUG_COMMAND (R632): A request on the DBGC/DBGD debug port halts, resumes or accesses through the application
core, freezing the core watchdog and barring WICK while the core is halted. -/
def execDebugCommand (op : Nat) (addr : Nat) (width : Nat) (value : Nat) (s : State) : Host.Outcome State Fault
    Refusal :=
  .next (Sys2Proof.Machine.debugCommand op addr width value s)

/-- CORE_MEMORY_WRITE (R26): A core or DMA write that the firewall allows reaches the FRAM application partition,
core SRAM or backup RAM, invalidates any instruction-cache line it hits and waits under R558 while the metrology
fabric holds the FRAM controller. -/
def execCoreMemoryWrite (addr : Nat) (width : Nat) (value : Nat) (dma : Bool) (last : Bool) (core : CoreAt) (s :
    State) : Host.Outcome State Fault Refusal :=
  .next (Sys2Proof.Machine.coreMemoryWrite addr width value dma last core s)

end Sys2Proof.Machine
end

