-- ==== Sys2Proof/Machine/DictionaryCommands.lean ====
section
/-! DEFINITION. The meanings of the commands of the object dictionary, one for each row of the table, over the operations of the files
before. None of them stops. -/

namespace Sys2Proof.Machine

open Sys2Proof

/-- OD_READ (R457): A READ request is checked in order and answered with the value or an abort code. -/
def execOdRead (via : Via) (gen : Nat) (id : Nat) (index : Nat) (sub : Nat) (s : State) : Host.Outcome State Fault
    Refusal :=
  .next (s.bring via gen 1 index sub id [])

/-- OD_WRITE (R457): A WRITE to an entry without a row of its own is checked in order, applied and reaches FRAM
before its response. -/
def execOdWrite (via : Via) (gen : Nat) (id : Nat) (index : Nat) (sub : Nat) (data : List Nat) (s : State) :
    Host.Outcome State Fault Refusal :=
  .next (s.bring via gen 2 index sub id data)

/-- OD_WRITE_AUTH (R449): A WRITE_AUTH request carries an envelope that is verified before the enveloped write. -/
def execOdWriteAuth (via : Via) (gen : Nat) (id : Nat) (index : Nat) (sub : Nat) (data : List Nat) (s : State) :
    Host.Outcome State Fault Refusal :=
  .next (s.bring via gen 3 index sub id data)

/-- AUTH_ENVELOPE (R449): A write to AUTH_ENVELOPE delivers an envelope that is verified and then performs the
enveloped write. -/
def execAuthEnvelope (via : Via) (gen : Nat) (id : Nat) (data : List Nat) (s : State) : Host.Outcome State Fault
    Refusal :=
  .next (s.bring via gen 2 0x0150 1 id data)

/-- HELLO (R455): A HELLO offer record is answered with an accept or refuse and the session generation is set. -/
def execHello (core : Bool) (payload : List Nat) (s : State) : Host.Outcome State Fault Refusal :=
  .next (helloRecord core payload s)

/-- HELLO_EXCHANGE (R465): A write to HELLO_EXCHANGE makes a HELLO offer on IO-Link, M-Bus or the powerline link. -/
def execHelloExchange (via : Via) (gen : Nat) (id : Nat) (data : List Nat) (s : State) : Host.Outcome State Fault
    Refusal :=
  .next (s.bring via gen 2 0x1801 1 id data)

/-- MODE_CONFIG (R459): MODE_COMMAND 1 requests CONFIG, pending until the next boundary. -/
def execModeConfig (by_ : Sender) (s : State) : Host.Outcome State Fault Refusal :=
  .next (s.ask by_ 0x0120 2 [1])

/-- MODE_MEASURE (R460): MODE_COMMAND 2 compiles the plan and checks the flow and quantity configuration before
MEASURE is made pending. -/
def execModeMeasure (by_ : Sender) (s : State) : Host.Outcome State Fault Refusal :=
  .next (s.ask by_ 0x0120 2 [2])

/-- MODE_VERIFY (R460): MODE_COMMAND 3 runs the same checks before VERIFY is made pending. -/
def execModeVerify (by_ : Sender) (s : State) : Host.Outcome State Fault Refusal :=
  .next (s.ask by_ 0x0120 2 [3])

/-- SEAL_SET (R443): SEAL_COMMAND 0xC3 by METROLOGY sets the seal and ends the FACTORY role. -/
def execSealSet (by_ : Sender) (s : State) : Host.Outcome State Fault Refusal :=
  .next (s.ask by_ 0x0140 1 [0xC3])

/-- SEAL_CLEAR (R443): SEAL_COMMAND 0x3C by METROLOGY clears the seal. -/
def execSealClear (by_ : Sender) (s : State) : Host.Outcome State Fault Refusal :=
  .next (s.ask by_ 0x0140 1 [0x3C])

/-- FACTORY_LOCK (R441): A FACTORY write of 0x96 to FACTORY_LOCK ends the FACTORY role for good. -/
def execFactoryLock (by_ : Sender) (s : State) : Host.Outcome State Fault Refusal :=
  .next (s.ask by_ 0x0140 4 [0x96])

/-- QTY_CLEAR (R317): A write of 0xA5 to QTY_CLEAR schedules the clearing of all registers at the next boundary. -/
def execQtyClear (by_ : Sender) (s : State) : Host.Outcome State Fault Refusal :=
  .next (s.ask by_ 0x1007 5 [0xA5])

/-- TAPER_EXIT (R430): An authenticated write of 0x5A in TAPER schedules the exit from TAPER at the next boundary. -/
def execTaperExit (by_ : Sender) (s : State) : Host.Outcome State Fault Refusal :=
  .next (s.ask by_ 0x0201 2 [0x5A])

/-- POWER_COMMAND_RESET (R433): POWER_COMMAND 1 requests a reset with reason COMMAND at the next boundary. -/
def execPowerCommandReset (by_ : Sender) (s : State) : Host.Outcome State Fault Refusal :=
  .next (s.ask by_ 0x0201 1 [1])

/-- POWER_COMMAND_SNUFF (R412): POWER_COMMAND 2 in CONFIG requests SNUFF at the next boundary. -/
def execPowerCommandSnuff (by_ : Sender) (s : State) : Host.Outcome State Fault Refusal :=
  .next (s.ask by_ 0x0201 1 [2])

/-- RESIDENCY_CLEAR (R416): A write of 0xA5 clears the residency counters from the next boundary. -/
def execResidencyClear (by_ : Sender) (s : State) : Host.Outcome State Fault Refusal :=
  .next (s.ask by_ 0x0223 1 [0xA5])

/-- CAL_SET (R338): A valid DATETIME sets the calendar, clears the time flags and raises TIME_SET. -/
def execCalSet (by_ : Sender) (datetime : Nat) (s : State) : Host.Outcome State Fault Refusal :=
  .next (s.ask by_ 0x0500 2 (leBytes 8 datetime))

/-- DST_COMMAND (R346): DST_COMMAND 1 or 2 sets or clears the DST flag while the rules are off, raising DST_APPLIED.
-/
def execDstCommand (by_ : Sender) (value : Nat) (s : State) : Host.Outcome State Fault Refusal :=
  .next (s.ask by_ 0x0501 1 [value])

/-- TAMPER_CLEAR (R354): A write to TAMPER_CLEAR clears the selected latches and TAMPER_FIRST. -/
def execTamperClear (by_ : Sender) (mask : Nat) (s : State) : Host.Outcome State Fault Refusal :=
  .next (s.ask by_ 0x050A 1 [mask])

/-- PASSIVE_ACTIVATE_AT (R370): A write sets or cancels the activation instant of the passive calendar after checking
it. -/
def execPassiveActivateAt (by_ : Sender) (seconds : Nat) (s : State) : Host.Outcome State Fault Refusal :=
  .next (s.ask by_ 0x1200 2 (leBytes 6 seconds))

/-- BILLING_CLOSE_NOW (R377): A write of 1 closes a billing period at the next boundary, tagged COMMANDED. -/
def execBillingCloseNow (by_ : Sender) (s : State) : Host.Outcome State Fault Refusal :=
  .next (s.ask by_ 0x1301 2 [1])

/-- CREDIT_TOPUP (R388): A top-up with a new TOPUP_ID is accepted and applied at the next boundary. -/
def execCreditTopup (by_ : Sender) (topup : Nat) (amount : Int) (s : State) : Host.Outcome State Fault Refusal :=
  .next (s.ask by_ 0x1402 1 (leBytes 4 topup ++ leBytes 8 (unsigned 64 amount)))

/-- ACT_DISCONNECT (R393): ACT_COMMAND 1 drives the actuator toward disconnection at the next boundary. -/
def execActDisconnect (by_ : Sender) (s : State) : Host.Outcome State Fault Refusal :=
  .next (s.ask by_ 0x1410 5 [1])

/-- ACT_ARM (R393): ACT_COMMAND 2 moves the actuator from DISCONNECTED to READY. -/
def execActArm (by_ : Sender) (s : State) : Host.Outcome State Fault Refusal :=
  .next (s.ask by_ 0x1410 5 [2])

/-- ACT_CONNECT (R393): ACT_COMMAND 3 drives the actuator toward connection at the next boundary. -/
def execActConnect (by_ : Sender) (s : State) : Host.Outcome State Fault Refusal :=
  .next (s.ask by_ 0x1410 5 [3])

/-- ACT_CLEAR_FAULT (R393): ACT_COMMAND 4 leaves FAULT for the end that the feedback shows. -/
def execActClearFault (by_ : Sender) (s : State) : Host.Outcome State Fault Refusal :=
  .next (s.ask by_ 0x1410 5 [4])

/-- ZERO_CAPTURE_START (R157): A write of N to ZERO_CAPTURE in VERIFY starts a zero-offset measurement. -/
def execZeroCaptureStart (by_ : Sender) (ctx : Nat) (pairs : Nat) (s : State) : Host.Outcome State Fault Refusal :=
  .next (s.ask by_ (0x0900 + ctx) 0x1F (leBytes 2 pairs))

/-- ZERO_CAPTURE_STOP (R158): A write of 0 to ZERO_CAPTURE stops a running measurement. -/
def execZeroCaptureStop (by_ : Sender) (ctx : Nat) (s : State) : Host.Outcome State Fault Refusal :=
  .next (s.ask by_ (0x0900 + ctx) 0x1F [0, 0])

/-- TEMPLATE_CAPTURE_START (R188): A write with PAIRS above 0 in VERIFY starts a template capture. -/
def execTemplateCaptureStart (by_ : Sender) (ctx : Nat) (pairs : Nat) (anchor : Nat) (s : State) : Host.Outcome State
    Fault Refusal :=
  .next (s.ask by_ 0x0A20 1 (leBytes 4 (ctx * 2 ^ 26 + pairs * 65536 + anchor)))

/-- TEMPLATE_CAPTURE_STOP (R188): A write with PAIRS 0 stops a running template capture. -/
def execTemplateCaptureStop (by_ : Sender) (ctx : Nat) (s : State) : Host.Outcome State Fault Refusal :=
  .next (s.ask by_ 0x0A20 1 (leBytes 4 (ctx * 2 ^ 26)))

/-- CTX_STAGE_SET (R161): Setting STAGE makes later writes to the context be held as staged. -/
def execCtxStageSet (by_ : Sender) (ctx : Nat) (low : Nat) (s : State) : Host.Outcome State Fault Refusal :=
  .next (s.ask by_ (0x0900 + ctx) 1 [4 + low])

/-- CTX_STAGE_APPLY (R161): Clearing STAGE checks the context with every staged write and applies them together or
discards them. -/
def execCtxStageApply (by_ : Sender) (ctx : Nat) (low : Nat) (s : State) : Host.Outcome State Fault Refusal :=
  .next (s.ask by_ (0x0900 + ctx) 1 [low])

/-- PERF_SEL_WRITE (R598): A PERF_SEL write reconfigures a counter from the next boundary, restarting it from zero.
-/
def execPerfSelWrite (by_ : Sender) (block : Nat) (counter : Nat) (value : Nat) (s : State) : Host.Outcome State
    Fault Refusal :=
  .next (s.ask by_ (0x1C10 + block) (counter + 1) (leBytes 4 value))

/-- PERF_OVF_CLEAR (R599): A write clears the selected OVF bits at the next boundary. -/
def execPerfOvfClear (by_ : Sender) (mask : Nat) (s : State) : Host.Outcome State Fault Refusal :=
  .next (s.ask by_ 0x1C30 1 (leBytes 6 mask))

/-- FW_COMMAND_VERIFY (R573): FW_COMMAND 1 in the loader runs verification again and starts the image if it passes.
-/
def execFwCommandVerify (by_ : Sender) (s : State) : Host.Outcome State Fault Refusal :=
  .next (s.ask by_ 0x1D00 4 [1])

/-- FW_COMMAND_LOADER (R573): FW_COMMAND 2 resets the core into the boot ROM loader. -/
def execFwCommandLoader (by_ : Sender) (s : State) : Host.Outcome State Fault Refusal :=
  .next (s.ask by_ 0x1D00 4 [2])

/-- FW_BLOCK (R573): In the loader, a FW_BLOCK write stores 256 bytes at the given offset of the application
partition. -/
def execFwBlock (by_ : Sender) (offset : Nat) (data : List Nat) (s : State) : Host.Outcome State Fault Refusal :=
  .next (s.ask by_ 0x1D00 5 (leBytes 4 offset ++ data))

/-- FW_MIN_VERSION (R574): A write raising FW_MIN_VERSION is stored in the metrology partition. -/
def execFwMinVersion (by_ : Sender) (version : Nat) (s : State) : Host.Outcome State Fault Refusal :=
  .next (s.ask by_ 0x1D00 6 (leBytes 4 version))

/-- KEY_CHANGE (R576): A wrapped key written inside an envelope replaces the OPERATOR or METROLOGY key and resets its
replay counter. -/
def execKeyChange (by_ : Sender) (role : Nat) (wrapped : List Nat) (s : State) : Host.Outcome State Fault Refusal :=
  .next (s.ask by_ 0x1520 role wrapped)

/-- BOOT_KEY_HASH (R577): The one FACTORY write of BOOT_KEY_HASH programs the image key hash. -/
def execBootKeyHash (by_ : Sender) (hash : List Nat) (s : State) : Host.Outcome State Fault Refusal :=
  .next (s.ask by_ 0x1530 1 hash)

/-- MAILBOX_IN (R568): An accepted write to MAILBOX_IN sets local interrupt 17. -/
def execMailboxIn (by_ : Sender) (data : List Nat) (s : State) : Host.Outcome State Fault Refusal :=
  .next (s.ask by_ 0x1D02 1 data)

/-- PL_MASTER_REQUEST (R522): A write to PL_MASTER_REQUEST queues a request for a slave in the master cycle. -/
def execPlMasterRequest (by_ : Sender) (data : List Nat) (s : State) : Host.Outcome State Fault Refusal :=
  .next (s.ask by_ 0x1921 1 data)

/-- DISP_UPDATE (R530): A write to DISP_UPDATE copies the targets of the selected regions and requests, queues or
replaces updates. -/
def execDispUpdate (by_ : Sender) (regions : Nat) (s : State) : Host.Outcome State Fault Refusal :=
  .next (s.ask by_ 0x1A02 2 (leBytes 2 regions))

end Sys2Proof.Machine
end

