-- ==== Sys2Proof/Machine/DisplayCommands.lean ====
section
/-! DEFINITION. The meanings of the commands of the display engine, one for each row of the table, over the operations of the files
before. None of them stops. -/

namespace Sys2Proof.Machine

open Sys2Proof

/-- DISPLAY_UPDATE_ADMITTED (R540): The ledger places every pump burst of an update and admits it whole. -/
def execDisplayUpdateAdmitted (region : Nat) (starts : List Nat) (s : State) : Host.Outcome State Fault Refusal :=
  .next (Sys2Proof.Machine.displayUpdateAdmitted region starts s)

/-- PUMP_BURST (R538): A 200 µs pump burst charges the e-paper reservoirs and adds one credit. -/
def execPumpBurst (region : Nat) (cyc : Nat) (s : State) : Host.Outcome State Fault Refusal :=
  .next (Sys2Proof.Machine.pumpBurst region cyc s)

/-- WAVEFORM_START (R534): At S the band is latched, the waveforms are chosen and the state area is written with
RUNNING set. -/
def execWaveformStart (region : Nat) (cyc : Nat) (s : State) : Host.Outcome State Fault Refusal :=
  .next (Sys2Proof.Machine.waveformStart region cyc s)

/-- DRIVEN_PHASE (R538): A 5 ms phase-clock step drives the segments, consumes a credit, checks the pump and adds to
the DC ledger. -/
def execDrivenPhase (vep : Nat) (ven : Nat) (s : State) : Host.Outcome State Fault Refusal :=
  .next (Sys2Proof.Machine.drivenPhase vep ven s)

/-- DISPLAY_DONE (R535): An update run ends: levels are taken, the state area is written and DISPLAY_DONE is raised.
-/
def execDisplayDone (region : Nat) (s : State) : Host.Outcome State Fault Refusal :=
  .next (Sys2Proof.Machine.displayDone region s)

/-- LCD_FRAME_START (R549): At each LCD frame start, new pixel data applies, polarity inverts and blink state is
updated. -/
def execLcdFrameStart (cyc : Nat) (s : State) : Host.Outcome State Fault Refusal :=
  .next (Sys2Proof.Machine.lcdFrameStart cyc s)

end Sys2Proof.Machine
end

