-- ==== Sys2Proof/Machine/FrameCommands.lean ====
section
/-! DEFINITION. The meanings of the commands of the frame, its commit, the events and the log, one for each row of the table, over the operations of the files
before. None of them stops. -/

namespace Sys2Proof.Machine

open Sys2Proof

/-- FRAME_BOUNDARY (R74): An RTC tick edge ends frame k: the frame number advances, the next frame length is fixed,
EV0 is raised, LANTERN toggles and the boundary sequence runs. -/
def execFrameBoundary (gate : List (Nat × Nat)) (lfxTicks : Nat) (acf0 : Bool) (acf1 : Bool) (figures : FrameFigures)
    (edge : List Act) (s : State) : Host.Outcome State Fault Refusal :=
  .next (frameBoundaryAll gate lfxTicks acf0 acf1 figures.acts figures.slots edge s)

/-- SYNO_PULSE_END (R77): WIDTH RTC ticks after the boundary, SYNO returns to its inactive level. -/
def execSynoPulseEnd (s : State) : Host.Outcome State Fault Refusal :=
  .next (Sys2Proof.Machine.synoPulseEnd s)

/-- COMMIT_COMPLETE (R310): The read-back of the boundary commit finishes and the commit is judged complete or
failed. -/
def execCommitComplete (diff : List (Nat × Nat)) (s : State) : Host.Outcome State Fault Refusal :=
  .next (Sys2Proof.Machine.commitComplete diff s)

/-- BILLING_SNAPSHOT_WRITE (R379): When the snapshot slots of a close group have been written, BILLING_CLOSE is
raised and the BILLING_SNAPSHOT records are queued. -/
def execBillingSnapshotWrite (s : State) : Host.Outcome State Fault Refusal :=
  .next (Sys2Proof.Machine.billingSnapshotWrite s)

/-- SYNC_REFERENCE_EVENT (R80): A reference event on the selected sync source is tested against its prediction and
accepted or rejected. -/
def execSyncReferenceEvent (cyc : Nat) (s : State) : Host.Outcome State Fault Refusal :=
  .next (Sys2Proof.Machine.syncReferenceEvent cyc s)

/-- EVENT_DELIVERY (R38): A pending event is delivered to a destination once it has room, carrying its coalesced
count. -/
def execEventDelivery (dest : Dest) (s : State) : Host.Outcome State Fault Refusal :=
  .next (Sys2Proof.Machine.eventDelivery dest s)

/-- EVENT_LOG_WRITE (R580): A delivered LOG occurrence is written as a hash-chained entry, and SEQ advances. -/
def execEventLogWrite (s : State) : Host.Outcome State Fault Refusal :=
  .next (Sys2Proof.Machine.eventLogWrite s)

/-- PERF_OVERFLOW (R592): A counter wraps, sets OVF, raises PERF_OVERFLOW and carries into a chained counter. -/
def execPerfOverflow (block : Nat) (counter : Nat) (s : State) : Host.Outcome State Fault Refusal :=
  .next (Sys2Proof.Machine.perfOverflow block counter s)

end Sys2Proof.Machine
end

