-- ==== Sys2Proof/Machine/LinkCommands.lean ====
section
/-! DEFINITION. The meanings of the commands of SPI, IO-Link and M-Bus, one for each row of the table, over the operations of the files
before. None of them stops. -/

namespace Sys2Proof.Machine

open Sys2Proof

/-- IOL_WAKE (R406): A wake-up request signalled on LWU raises IOL_WAKE and brings the IO-Link device into STARTUP.
-/
def execIolWake (s : State) : Host.Outcome State Fault Refusal :=
  .next (Sys2Proof.Machine.iolWake s)

/-- MBUS_START_BIT_WAKE (R406): The first start bit of an M-Bus request while the device sleeps raises MBUS_FRAME and
wakes it. -/
def execMbusStartBitWake (s : State) : Host.Outcome State Fault Refusal :=
  .next (Sys2Proof.Machine.mbusStartBitWake s)

/-- SPI_STATUS (R467): An SPI transaction with CMD 0x00 returns the status preamble only. -/
def execSpiStatus (pre : List Nat) (s : State) : Host.Outcome State Fault Refusal :=
  .next (Sys2Proof.Machine.spiStatus pre s)

/-- SPI_WRITE (R468): An SPI WRITE transaction queues whole records or is discarded as a link error. -/
def execSpiWrite (pre : List Nat) (words : List Nat) (s : State) : Host.Outcome State Fault Refusal :=
  .next (Sys2Proof.Machine.spiWrite pre words s)

/-- SPI_READ (R469): An SPI READ transaction sends whole queued records, oldest first. -/
def execSpiRead (pre : List Nat) (clocked : Nat) (s : State) : Host.Outcome State Fault Refusal :=
  .next (Sys2Proof.Machine.spiRead pre clocked s)

/-- IOL_M_SEQUENCE (R475): A master M-sequence is received and answered within t_A; process data output is swapped in
on a good checksum. -/
def execIolMSequence (cyc : Nat) (sound : Bool) (command : Nat) (pdOut : List Nat × Bool) (takesEvent : Bool) (s :
    State) : Host.Outcome State Fault Refusal :=
  .next (Sys2Proof.Machine.iolMSequence cyc sound command pdOut.1 pdOut.2 takesEvent s)

/-- IOL_ISDU (R481): An ISDU read or write of a dictionary index is served and raises IOL_ISDU. -/
def execIolIsdu (wr : Bool) (index : Nat) (sub : Nat) (data : List Nat) (s : State) : Host.Outcome State Fault
    Refusal :=
  .next (Sys2Proof.Machine.iolIsdu wr index sub data s)

/-- PARAM_UPLOAD_START (R472): IO-Link system command 0x01 starts a parameter upload. -/
def execParamUploadStart (s : State) : Host.Outcome State Fault Refusal :=
  .next (Sys2Proof.Machine.paramUploadStart s)

/-- PARAM_UPLOAD_END (R472): IO-Link system command 0x02 ends a parameter upload. -/
def execParamUploadEnd (s : State) : Host.Outcome State Fault Refusal :=
  .next (Sys2Proof.Machine.paramUploadEnd s)

/-- PARAM_DOWNLOAD_START (R487): IO-Link system command 0x03 starts a Data Storage download. -/
def execParamDownloadStart (s : State) : Host.Outcome State Fault Refusal :=
  .next (Sys2Proof.Machine.paramDownloadStart s)

/-- PARAM_DOWNLOAD_END (R487): ParamDownloadEnd applies the download whole, or discards it and answers 0x8041. -/
def execParamDownloadEnd (s : State) : Host.Outcome State Fault Refusal :=
  .next (Sys2Proof.Machine.paramDownloadEnd s)

/-- PARAM_DOWNLOAD_STORE (R472): IO-Link system command 0x05 stores the downloaded parameters. -/
def execParamDownloadStore (s : State) : Host.Outcome State Fault Refusal :=
  .next (Sys2Proof.Machine.paramDownloadStore s)

/-- PARAM_BREAK (R472): IO-Link system command 0x06 breaks a parameter transfer. -/
def execParamBreak (s : State) : Host.Outcome State Fault Refusal :=
  .next (Sys2Proof.Machine.paramBreak s)

/-- IOL_FALLBACK (R464): A fallback command ends the IO-Link session. -/
def execIolFallback (s : State) : Host.Outcome State Fault Refusal :=
  .next (Sys2Proof.Machine.iolFallback s)

/-- IOL_SESSION_TIMEOUT (R464): 1 s without a valid master message ends the IO-Link session. -/
def execIolSessionTimeout (s : State) : Host.Outcome State Fault Refusal :=
  .next (Sys2Proof.Machine.iolSessionTimeout s)

/-- SND_NKE (R488): SND_NKE is acknowledged with E5, resets FCB and selection and begins an M-Bus session. -/
def execSndNke (addr : Nat) (s : State) : Host.Outcome State Fault Refusal :=
  .next (Sys2Proof.Machine.sndNke addr s)

/-- REQ_UD2 (R493): REQ_UD2 is answered with an RSP_UD of the standard records, or repeated under an unchanged FCB.
-/
def execReqUd2 (addr : Nat) (fcb : Bool) (s : State) : Host.Outcome State Fault Refusal :=
  .next (Sys2Proof.Machine.reqUd2 addr fcb s)

/-- REQ_UD1 (R488): REQ_UD1 is answered with the error-flags record or E5. -/
def execReqUd1 (addr : Nat) (fcb : Bool) (s : State) : Host.Outcome State Fault Refusal :=
  .next (Sys2Proof.Machine.reqUd1 addr fcb s)

/-- MBUS_SET_PRIMARY_ADDRESS (R491): A data send with DIF 0x01 and VIF 0x7A sets MBUS_PRIMARY while it is 0. -/
def execMbusSetPrimaryAddress (addr : Nat) (value : Nat) (fcb : Bool) (s : State) : Host.Outcome State Fault Refusal
    :=
  .next (Sys2Proof.Machine.mbusSetPrimaryAddress addr value fcb s)

/-- MBUS_DICTIONARY_REQUEST (R495): A data send with a dictionary block is acknowledged, served and answered in later
RSP_UD telegrams. -/
def execMbusDictionaryRequest (addr : Nat) (fcb : Bool) (op : Nat) (id : Nat) (index : Nat) (sub : Nat) (data : List
    Nat) (s : State) : Host.Outcome State Fault Refusal :=
  .next (Sys2Proof.Machine.mbusDictionaryRequest addr fcb op id index sub data s)

/-- MBUS_SELECTION (R490): A SND_UD with CI 0x52 selects or deselects the device by secondary address. -/
def execMbusSelection (fcb : Bool) (id : Nat) (manufacturer : Nat) (version : Nat) (medium : Nat) (s : State) :
    Host.Outcome State Fault Refusal :=
  .next (Sys2Proof.Machine.mbusSelection fcb id manufacturer version medium s)

/-- MBUS_APPLICATION_RESET (R488): A SND_UD with CI 0x50 makes the next REQ_UD2 start again at telegram 1. -/
def execMbusApplicationReset (addr : Nat) (fcb : Bool) (s : State) : Host.Outcome State Fault Refusal :=
  .next (Sys2Proof.Machine.mbusApplicationReset addr fcb s)

/-- MBUS_BAUD_CHANGE (R488): A SND_UD with CI 0xB8 to 0xBD is acknowledged at the old rate and then switches the baud
rate. -/
def execMbusBaudChange (addr : Nat) (ci : Nat) (fcb : Bool) (s : State) : Host.Outcome State Fault Refusal :=
  .next (Sys2Proof.Machine.mbusBaudChange addr ci fcb s)

/-- MBUS_FRAME_IGNORED (R488): An unsupported or faulty M-Bus frame is ignored without answer and counted as a link
error. -/
def execMbusFrameIgnored (faulty : Bool) (addr : Nat) (c : Nat) (ci : Nat) (s : State) : Host.Outcome State Fault
    Refusal :=
  .next (Sys2Proof.Machine.mbusFrameIgnored faulty addr c ci s)

/-- MBUS_SESSION_IDLE (R464): MBUS_SESSION_IDLE seconds without an addressed frame end the M-Bus session. -/
def execMbusSessionIdle (s : State) : Host.Outcome State Fault Refusal :=
  .next (Sys2Proof.Machine.mbusSessionIdle s)

/-- MBUS_BAUD_REVERT (R489): 600 s without an addressed frame return the baud rate to MBUS_BAUD. -/
def execMbusBaudRevert (s : State) : Host.Outcome State Fault Refusal :=
  .next (Sys2Proof.Machine.mbusBaudRevert s)

end Sys2Proof.Machine
end

