-- ==== Sys2Proof/Machine/OutputCommands.lean ====
section
/-! DEFINITION. The meanings of the commands of the actuator and the pulse outputs, one for each row of the table, over the operations of the files
before. None of them stops. -/

namespace Sys2Proof.Machine

open Sys2Proof

/-- ACT_KEY_HOLD_EXPIRY (R393): In READY, KEY held for ACT_KEY_HOLD starts the connection. -/
def execActKeyHoldExpiry (s : State) : Host.Outcome State Fault Refusal :=
  .next (Sys2Proof.Machine.actKeyHoldExpiry s)

/-- ACTUATOR_END_REACHED (R391): The target feedback becomes active, and the drive continues for OVERDRIVE. -/
def execActuatorEndReached (cyc : Nat) (s : State) : Host.Outcome State Fault Refusal :=
  .next (Sys2Proof.Machine.actuatorEndReached cyc s)

/-- ACTUATOR_DONE (R391): The overdrive ends, the drive stops, the target state is taken and ACTUATOR_DONE is raised.
-/
def execActuatorDone (cyc : Nat) (s : State) : Host.Outcome State Fault Refusal :=
  .next (Sys2Proof.Machine.actuatorDone cyc s)

/-- ACTUATOR_FAULT (R392): A timeout, stall, open load, feedback conflict or lost position stops the drive and raises
ACTUATOR_FAULT. -/
def execActuatorFault (kind : Nat) (aci : Nat) (cyc : Nat) (s : State) : Host.Outcome State Fault Refusal :=
  .next (Sys2Proof.Machine.actuatorFault kind aci cyc s)

/-- ACTUATOR_REVERSE_END (R392): The 200 ms reverse drive of a retry ends and the 500 ms pause begins. -/
def execActuatorReverseEnd (cyc : Nat) (s : State) : Host.Outcome State Fault Refusal :=
  .next (Sys2Proof.Machine.actuatorReverseEnd cyc s)

/-- ACTUATOR_PAUSE_END (R392): The 500 ms pause of a retry ends and the movement restarts. -/
def execActuatorPauseEnd (cyc : Nat) (s : State) : Host.Outcome State Fault Refusal :=
  .next (Sys2Proof.Machine.actuatorPauseEnd cyc s)

/-- PULSE_START (R323): An output with a backlog starts a pulse on an RTC tick edge. -/
def execPulseStart (output : Nat) (cyc : Nat) (s : State) : Host.Outcome State Fault Refusal :=
  .next (Sys2Proof.Machine.pulseStart output cyc s)

/-- PULSE_END (R323): A pulse ends after w ticks, the output is released and PO_COUNT increments. -/
def execPulseEnd (output : Nat) (cyc : Nat) (s : State) : Host.Outcome State Fault Refusal :=
  .next (Sys2Proof.Machine.pulseEnd output cyc s)

/-- FTO_PULSE (R328): An FTO pulse rises on the compute clock at its spacing, and FTO_COUNT increments. -/
def execFtoPulse (cyc : Nat) (s : State) : Host.Outcome State Fault Refusal :=
  .next (Sys2Proof.Machine.ftoPulse cyc s)

/-- FTO_PULSE_END (R328): floor(s/2) compute cycles after its rising edge, an FTO pulse falls and the output returns
low. -/
def execFtoPulseEnd (cyc : Nat) (s : State) : Host.Outcome State Fault Refusal :=
  .next (Sys2Proof.Machine.ftoPulseEnd cyc s)

end Sys2Proof.Machine
end

