-- ==== Sys2Proof/Machine/PowerCommands.lean ====
section
/-! DEFINITION. The meanings of the commands of power states, wake, start and resets, one for each row of the table, over the operations of the files
before. None of them stops. -/

namespace Sys2Proof.Machine

open Sys2Proof

/-- WICK_ENTRY_COMPLETE (R401): The WICK entry sequence completes, and a wake that arrived during it starts the exit
at once. -/
def execWickEntryComplete (cyc : Nat) (wake : Option Nat) (s : State) : Host.Outcome State Fault Refusal :=
  .next (Sys2Proof.Machine.wickEntryComplete cyc wake s)

/-- WICK_EXIT (R72): 130 µs before the next job or boundary, or at a wake event, the exit from WICK starts. -/
def execWickExit (cyc : Nat) (s : State) : Host.Outcome State Fault Refusal :=
  .next (Sys2Proof.Machine.wickExit cyc s)

/-- DOMAIN_READY (R402): A switched domain's regulator reports ready, and jobs waiting for it proceed. -/
def execDomainReady (domain : Nat) (vsd : Bool) (cyc : Nat) (s : State) : Host.Outcome State Fault Refusal :=
  .next (Sys2Proof.Machine.domainReady domain vsd cyc s)

/-- REGULATOR_TIMEOUT (R403): A domain not ready within 400 µs raises WAKE_FAIL and is power-cycled, or the device
resets with WAKE_FAIL. -/
def execRegulatorTimeout (domain : Nat) (cyc : Nat) (commit : List (Nat × Nat)) (final : List (Nat × Nat)) (s :
    State) : Host.Outcome State Fault Refusal :=
  .next (Sys2Proof.Machine.regulatorTimeout domain cyc commit final s)

/-- KEY_PRESS (R410): KEY active for 20 samples qualifies a press, raising KEY_PRESS with CODE 1 and waking the
device. -/
def execKeyPress (s : State) : Host.Outcome State Fault Refusal :=
  .next (Sys2Proof.Machine.keyPress s)

/-- KEY_RELEASE (R410): KEY inactive for 20 samples qualifies a release, raising KEY_PRESS with CODE 2 and the
duration. -/
def execKeyRelease (ms : Nat) (s : State) : Host.Outcome State Fault Refusal :=
  .next (Sys2Proof.Machine.keyRelease ms s)

/-- BROWNOUT (R314): The last of VMAIN and VBAT becomes absent: new shots stop and the partial frame is committed
with PARTIAL. -/
def execBrownout (cyc : Nat) (supply : Nat) (vcap : Nat) (commit : List (Nat × Nat)) (s : State) : Host.Outcome State
    Fault Refusal :=
  .next (Sys2Proof.Machine.brownout cyc supply vcap commit s)

/-- FINAL_COMMIT_COMPLETE (R314): The final commit is read back, the pending log entries are written, and the
brownout hold begins. -/
def execFinalCommitComplete (diff : List (Nat × Nat)) (s : State) : Host.Outcome State Fault Refusal :=
  .next (Sys2Proof.Machine.finalCommitComplete diff s)

/-- BROWNOUT_HOLD_RECOVERY (R414): VMAIN or VBAT returns during the brownout hold, and the device starts with reason
BROWNOUT. -/
def execBrownoutHoldRecovery (s : State) : Host.Outcome State Fault Refusal :=
  .next (Sys2Proof.Machine.brownoutHoldRecovery s)

/-- VCAP_HOLD_LOST (R414): VCAP falls below 1.60 V during the hold, AO loses power and the device is in DARK. -/
def execVcapHoldLost (s : State) : Host.Outcome State Fault Refusal :=
  .next (Sys2Proof.Machine.vcapHoldLost s)

/-- NRST_ASSERT (R631): A qualified NRST assertion abandons work, makes a final commit, closes the history entry and
switches the domains off. -/
def execNrstAssert (cyc : Nat) (commit : List (Nat × Nat)) (final : List (Nat × Nat)) (s : State) : Host.Outcome
    State Fault Refusal :=
  .next (Sys2Proof.Machine.nrstAssert cyc commit final s)

/-- NRST_RELEASE (R631): A qualified rise of NRST leads, after any back-off, to a start with reason PIN_RESET. -/
def execNrstRelease (s : State) : Host.Outcome State Fault Refusal :=
  .next (Sys2Proof.Machine.nrstRelease s)

/-- TESTM_RELEASE (R633): TESTM falling low lets a start held in reset proceed. -/
def execTestmRelease (s : State) : Host.Outcome State Fault Refusal :=
  .next (Sys2Proof.Machine.testmRelease s)

/-- BACKOFF_EXPIRY (R424): The back-off of 2^(n−1) s after a failed start ends and the start sequence begins. -/
def execBackoffExpiry (s : State) : Host.Outcome State Fault Refusal :=
  .next (Sys2Proof.Machine.backoffExpiry s)

/-- START_SEQUENCE (R417): A start opens a history entry, reads OTP, powers CE, restores the commit banks, catches up
billing and chooses the mode. -/
def execStartSequence (testm : Bool) (found : StartFound) (s : State) : Host.Outcome State Fault Refusal :=
  .next (Sys2Proof.Machine.startSequence testm found.otpFails found.damage s)

/-- START_REGULATOR_TIMEOUT (R417): CE not ready after its second time-out in the start sequence resets the device
with REG_TIMEOUT. -/
def execStartRegulatorTimeout (s : State) : Host.Outcome State Fault Refusal :=
  .next (Sys2Proof.Machine.startRegulatorTimeout s)

/-- OPENING_BOUNDARY (R417): At the next RTC tick, the restored state is committed, EV0 is raised, LANTERN toggles
and the core is released. -/
def execOpeningBoundary (s : State) : Host.Outcome State Fault Refusal :=
  .next (Sys2Proof.Machine.openingBoundary s)

/-- ACCUMULATION_START_TIMEOUT (R421): Accumulation not started by t + 10 µs resets the device with reason WATCHDOG.
-/
def execAccumulationStartTimeout (s : State) : Host.Outcome State Fault Refusal :=
  .next (Sys2Proof.Machine.accumulationStartTimeout s)

/-- MICROCODE_ACK_TIMEOUT (R421): The metrology microcode not acknowledging a boundary by t + 60 µs resets the device
with reason WATCHDOG. -/
def execMicrocodeAckTimeout (s : State) : Host.Outcome State Fault Refusal :=
  .next (Sys2Proof.Machine.microcodeAckTimeout s)

/-- SNUFF_WAKE (R413): A wake event other than BROWNOUT ends SNUFF and starts the device with reason SNUFF. -/
def execSnuffWake (duringEntry : Bool) (s : State) : Host.Outcome State Fault Refusal :=
  .next (Sys2Proof.Machine.snuffWake duringEntry s)

/-- SPI_SCS_WAKE (R409): A falling SCS edge while the device sleeps raises SPI_RECORD and wakes it, without serving
the transaction. -/
def execSpiScsWake (s : State) : Host.Outcome State Fault Refusal :=
  .next (Sys2Proof.Machine.spiScsWake s)

/-- AO_POWER_UP (R417): VMAIN or VBAT becomes present while AO is unpowered, whether at first insertion or from DARK,
and AO powers up to begin a start with START_REASON POWER_ON. -/
def execAoPowerUp (s : State) : Host.Outcome State Fault Refusal :=
  .next (Sys2Proof.Machine.aoPowerUp s)

end Sys2Proof.Machine
end

