-- ==== Sys2Proof/Machine/PowerlineCommands.lean ====
section
/-! DEFINITION. The meanings of the commands of the powerline link, one for each row of the table, over the operations of the files
before. None of them stops. -/

namespace Sys2Proof.Machine

open Sys2Proof

/-- PL_ZERO_CROSSING (R502): A qualified zero crossing on PLZ is accepted, seeded or rejected and the crossing fit is
updated. -/
def execPlZeroCrossing (rising : Bool) (time : Nat) (meas : CrossingMeas) (s : State) : Host.Outcome State Fault
    Refusal :=
  .next (Sys2Proof.Machine.plZeroCrossing rising time meas.input18 meas.half s)

/-- PL_CROSSING_MISSED (R503): A missing crossing counts toward an unlock, which stops transmission and withdraws its
pulses. -/
def execPlCrossingMissed (s : State) : Host.Outcome State Fault Refusal :=
  .next (Sys2Proof.Machine.plCrossingMissed s)

/-- PL_FRAME (R512): A received powerline frame is decided, checked and either discarded or delivered, raising
PL_FRAME. -/
def execPlFrame (pairs : List ((Nat × Nat) × (Nat × Nat))) (s : State) : Host.Outcome State Fault Refusal :=
  .next (Sys2Proof.Machine.plFrame pairs s)

/-- PL_POLL_STATUS (R518): A STATUS POLL is answered with the mode and up to two queued events, confirming earlier
ones. -/
def execPlPollStatus (s : State) : Host.Outcome State Fault Refusal :=
  .next (Sys2Proof.Machine.plPollStatus s)

/-- PL_POLL_READ (R516): A READ POLL copies the whole value and returns segment 0. -/
def execPlPollRead (s : State) : Host.Outcome State Fault Refusal :=
  .next (Sys2Proof.Machine.plPollRead s)

/-- PL_POLL_READ_NEXT (R516): A READ_NEXT POLL returns the next segment of the copy. -/
def execPlPollReadNext (s : State) : Host.Outcome State Fault Refusal :=
  .next (Sys2Proof.Machine.plPollReadNext s)

/-- PL_POLL_WRITE (R516): A WRITE POLL opens an assembly of TOTAL bytes. -/
def execPlPollWrite (s : State) : Host.Outcome State Fault Refusal :=
  .next (Sys2Proof.Machine.plPollWrite s)

/-- PL_POLL_WRITE_MORE (R516): A WRITE_MORE POLL adds the next segment and executes the write when complete. -/
def execPlPollWriteMore (s : State) : Host.Outcome State Fault Refusal :=
  .next (Sys2Proof.Machine.plPollWriteMore s)

/-- PL_REPLY_DEADLINE (R517): A response not ready 2 ms before pair p + 2 is answered with STATUS 2. -/
def execPlReplyDeadline (s : State) : Host.Outcome State Fault Refusal :=
  .next (Sys2Proof.Machine.plReplyDeadline s)

/-- PL_REPLY_RECEIVED (R521): In the master role, a REPLY is taken, stored and raises PL_FRAME. -/
def execPlReplyReceived (s : State) : Host.Outcome State Fault Refusal :=
  .next (Sys2Proof.Machine.plReplyReceived s)

/-- PL_POLL_TIMEOUT (R515): No REPLY after PL_RETRIES repeats marks the session lost and raises PL_POLL_TIMEOUT. -/
def execPlPollTimeout (s : State) : Host.Outcome State Fault Refusal :=
  .next (Sys2Proof.Machine.plPollTimeout s)

/-- PL_CYCLE_START (R521): A master polling cycle starts PL_CYCLE seconds after the last one. -/
def execPlCycleStart (s : State) : Host.Outcome State Fault Refusal :=
  .next (Sys2Proof.Machine.plCycleStart s)

/-- PL_WAKE_PATTERN (R407): Eight alternating pulses recognised on PLI raise PL_FRAME and wake the device. -/
def execPlWakePattern (s : State) : Host.Outcome State Fault Refusal :=
  .next (Sys2Proof.Machine.plWakePattern s)

/-- PL_SESSION_IDLE (R520): PL_SESSION_IDLE seconds without a frame from a partner close its session. -/
def execPlSessionIdle (session : Nat) (s : State) : Host.Outcome State Fault Refusal :=
  .next (Sys2Proof.Machine.plSessionIdle session s)

/-- PL_TRANSMISSION_END (R526): The last pulse of a transmission is sent, PLE falls and PL_TX_FRAMES counts. -/
def execPlTransmissionEnd (s : State) : Host.Outcome State Fault Refusal :=
  .next (Sys2Proof.Machine.plTransmissionEnd s)

/-- PL_TRANSMIT_PULSE (R506): A pulse of an admitted powerline transmission drives PLD high for WIDTH starting OFFSET
after the predicted crossing, with PLE raised 50 µs before the first pulse. -/
def execPlTransmitPulse (cyc : Nat) (s : State) : Host.Outcome State Fault Refusal :=
  .next (Sys2Proof.Machine.plTransmitPulse cyc s)

end Sys2Proof.Machine
end

