-- ==== Sys2Proof/Machine/SensorCommands.lean ====
section
/-! DEFINITION. The meanings of the commands of the flow computation, the sensors and the PLL, one for each row of the table, over the operations of the files
before. None of them stops. -/

namespace Sys2Proof.Machine

open Sys2Proof

/-- FLOW_COMPUTATION_COMPLETE (R251): The flow engine finishes the frame: velocities, method, Reynolds correction,
creep, medium and diagnostics. -/
def execFlowComputationComplete (cyc : Nat) (s : State) : Host.Outcome State Fault Refusal :=
  .next (Sys2Proof.Machine.flowComputationComplete cyc s)

/-- SENSOR_JOB_START (R231): A sensor job starts with the charge and discharge of the reference resistor. -/
def execSensorJobStart (due : Nat) (cal : CalReading) (s : State) : Host.Outcome State Fault Refusal :=
  .next (Sys2Proof.Machine.sensorJobStart due cal s)

/-- DISCHARGE_STOP (R230): The TCAP comparator crosses its threshold, the discharge is timed and the next discharge
starts. -/
def execDischargeStop (stop : Nat × Nat) (first : Nat × Nat) (again : Option (Nat × Nat)) (s : State) : Host.Outcome
    State Fault Refusal :=
  .next (Sys2Proof.Machine.dischargeStop stop (cal16 first again) s)

/-- DISCHARGE_STOP_LIMIT (R232): A discharge that has not stopped by its stop limit is ended and reported OPEN. -/
def execDischargeStopLimit (late : Nat) (first : Nat × Nat) (again : Option (Nat × Nat)) (s : State) : Host.Outcome
    State Fault Refusal :=
  .next (dischargeMissing late (cal16 first again) s)

/-- PRESSURE_CONVERSION_START (R237): In a pressure frame, excitation starts at t + 60 µs and conversion at t + 160
µs. -/
def execPressureConversionStart (cyc : Nat) (s : State) : Host.Outcome State Fault Refusal :=
  .next (Sys2Proof.Machine.pressureConversionStart cyc s)

/-- PRESSURE_CONVERSION_COMPLETE (R240): The bridge conversion ends, excitation stops and the pressure is computed
and judged. -/
def execPressureConversionComplete (cyc : Nat) (code : Int) (cond : Nat) (s : State) : Host.Outcome State Fault
    Refusal :=
  .next (Sys2Proof.Machine.pressureConversionComplete cyc code cond s)

/-- INTERNAL_TEMP_CONVERSION (R241): On calendar seconds that are multiples of INT_TEMP_PERIOD, the internal sensor
converts and INT_TEMP is updated. -/
def execInternalTempConversion (mk : Int) (selfTest : Bool) (s : State) : Host.Outcome State Fault Refusal :=
  .next (internalTemp mk selfTest s)

/-- PLL_LOCK_LOST (R195): A loss of PLL or DLL lock fails every direction of the shot and any discharge in progress.
-/
def execPllLockLost (cyc : Nat) (pll : Bool) (cal : CalReading) (s : State) : Host.Outcome State Fault Refusal :=
  .next (Sys2Proof.Machine.pllLockLost cyc pll cal s)

end Sys2Proof.Machine
end

