-- ==== Sys2Proof/Machine/Dispatch.lean ====
section
/-! DEFINITION. One arm for each command: a call of its meaning. -/

namespace Sys2Proof.Machine

open Sys2Proof

/-- The effect of a command on everything but the queue. -/
def exec (i : Instr) (s : State) : Host.Outcome State Fault Refusal :=
  match i with
  | .frameBoundary gate lfxTicks acf0 acf1 figures edge => Sys2Proof.Machine.execFrameBoundary gate lfxTicks acf0 acf1 figures edge s
  | .synoPulseEnd => Sys2Proof.Machine.execSynoPulseEnd s
  | .commitComplete diff => Sys2Proof.Machine.execCommitComplete diff s
  | .billingSnapshotWrite => Sys2Proof.Machine.execBillingSnapshotWrite s
  | .shotGroupStart group kind due vhd cals => Sys2Proof.Machine.execShotGroupStart group kind due vhd cals s
  | .vhdRecovered group cyc => Sys2Proof.Machine.execVhdRecovered group cyc s
  | .heldShotGivenUp group cyc => Sys2Proof.Machine.execHeldShotGivenUp group cyc s
  | .reverseTransmission ctx acquisition cyc => Sys2Proof.Machine.execReverseTransmission ctx acquisition cyc s
  | .windowClose ctx up acquisition samples seen => Sys2Proof.Machine.execWindowClose ctx up acquisition samples seen s
  | .tdcCountWrap ctx up acquisition late cyc => Sys2Proof.Machine.execTdcCountWrap ctx up acquisition late cyc s
  | .tdcStopTimeout ctx up acquisition cyc => Sys2Proof.Machine.execTdcStopTimeout ctx up acquisition cyc s
  | .retrySlotStart group due vhd cals => Sys2Proof.Machine.execRetrySlotStart group due vhd cals s
  | .correlationComplete ctx up cyc => Sys2Proof.Machine.execCorrelationComplete ctx up cyc s
  | .acquisitionSearchComplete ctx cyc => Sys2Proof.Machine.execAcquisitionSearchComplete ctx cyc s
  | .waveformCopyComplete ctx up cyc => Sys2Proof.Machine.execWaveformCopyComplete ctx up cyc s
  | .flowComputationComplete cyc => Sys2Proof.Machine.execFlowComputationComplete cyc s
  | .sensorJobStart due cal => Sys2Proof.Machine.execSensorJobStart due cal s
  | .dischargeStop stop first again => Sys2Proof.Machine.execDischargeStop stop first again s
  | .dischargeStopLimit late first again => Sys2Proof.Machine.execDischargeStopLimit late first again s
  | .pressureConversionStart cyc => Sys2Proof.Machine.execPressureConversionStart cyc s
  | .pressureConversionComplete cyc code cond => Sys2Proof.Machine.execPressureConversionComplete cyc code cond s
  | .internalTempConversion mk selfTest => Sys2Proof.Machine.execInternalTempConversion mk selfTest s
  | .pllLockLost cyc pll cal => Sys2Proof.Machine.execPllLockLost cyc pll cal s
  | .tmInputCalibration gate => Sys2Proof.Machine.execTmInputCalibration gate s
  | .wickEntryComplete cyc wake => Sys2Proof.Machine.execWickEntryComplete cyc wake s
  | .wickExit cyc => Sys2Proof.Machine.execWickExit cyc s
  | .domainReady domain vsd cyc => Sys2Proof.Machine.execDomainReady domain vsd cyc s
  | .regulatorTimeout domain cyc commit final => Sys2Proof.Machine.execRegulatorTimeout domain cyc commit final s
  | .hfCrystalReady cyc ready => Sys2Proof.Machine.execHfCrystalReady cyc ready s
  | .crystalReadyTimeout cyc => Sys2Proof.Machine.execCrystalReadyTimeout cyc s
  | .crystalRetry => Sys2Proof.Machine.execCrystalRetry s
  | .ocxoGateEnd cyc refs count => Sys2Proof.Machine.execOcxoGateEnd cyc refs count s
  | .ocxoEdgeLost cyc => Sys2Proof.Machine.execOcxoEdgeLost cyc s
  | .lfCrystalStopped => Sys2Proof.Machine.execLfCrystalStopped s
  | .syncReferenceEvent cyc => Sys2Proof.Machine.execSyncReferenceEvent cyc s
  | .calendarSecond => Sys2Proof.Machine.execCalendarSecond s
  | .trimWindowStart => Sys2Proof.Machine.execTrimWindowStart s
  | .tamperSample tamp0 tamp1 mags => Sys2Proof.Machine.execTamperSample tamp0 tamp1 mags s
  | .keyPress => Sys2Proof.Machine.execKeyPress s
  | .keyRelease ms => Sys2Proof.Machine.execKeyRelease ms s
  | .actKeyHoldExpiry => Sys2Proof.Machine.execActKeyHoldExpiry s
  | .backupSwitchover vmain vbat vbkp => Sys2Proof.Machine.execBackupSwitchover vmain vbat vbkp s
  | .vmainRise vbkp ticks => Sys2Proof.Machine.execVmainRise vbkp ticks s
  | .bkRetentionTrip => Sys2Proof.Machine.execBkRetentionTrip s
  | .brownout cyc supply vcap commit => Sys2Proof.Machine.execBrownout cyc supply vcap commit s
  | .finalCommitComplete diff => Sys2Proof.Machine.execFinalCommitComplete diff s
  | .brownoutHoldRecovery => Sys2Proof.Machine.execBrownoutHoldRecovery s
  | .vcapHoldLost => Sys2Proof.Machine.execVcapHoldLost s
  | .nrstAssert cyc commit final => Sys2Proof.Machine.execNrstAssert cyc commit final s
  | .nrstRelease => Sys2Proof.Machine.execNrstRelease s
  | .testmRelease => Sys2Proof.Machine.execTestmRelease s
  | .backoffExpiry => Sys2Proof.Machine.execBackoffExpiry s
  | .startSequence testm found => Sys2Proof.Machine.execStartSequence testm found s
  | .startRegulatorTimeout => Sys2Proof.Machine.execStartRegulatorTimeout s
  | .openingBoundary => Sys2Proof.Machine.execOpeningBoundary s
  | .accumulationStartTimeout => Sys2Proof.Machine.execAccumulationStartTimeout s
  | .microcodeAckTimeout => Sys2Proof.Machine.execMicrocodeAckTimeout s
  | .snuffWake duringEntry => Sys2Proof.Machine.execSnuffWake duringEntry s
  | .iolWake => Sys2Proof.Machine.execIolWake s
  | .spiScsWake => Sys2Proof.Machine.execSpiScsWake s
  | .mbusStartBitWake => Sys2Proof.Machine.execMbusStartBitWake s
  | .eventDelivery dest => Sys2Proof.Machine.execEventDelivery dest s
  | .eventLogWrite => Sys2Proof.Machine.execEventLogWrite s
  | .odRead via gen id index sub => Sys2Proof.Machine.execOdRead via gen id index sub s
  | .odWrite via gen id index sub data => Sys2Proof.Machine.execOdWrite via gen id index sub data s
  | .odWriteAuth via gen id index sub data => Sys2Proof.Machine.execOdWriteAuth via gen id index sub data s
  | .authEnvelope via gen id data => Sys2Proof.Machine.execAuthEnvelope via gen id data s
  | .authLockoutExpiry role => Sys2Proof.Machine.execAuthLockoutExpiry role s
  | .hello core payload => Sys2Proof.Machine.execHello core payload s
  | .helloExchange via gen id data => Sys2Proof.Machine.execHelloExchange via gen id data s
  | .modeConfig by_ => Sys2Proof.Machine.execModeConfig by_ s
  | .modeMeasure by_ => Sys2Proof.Machine.execModeMeasure by_ s
  | .modeVerify by_ => Sys2Proof.Machine.execModeVerify by_ s
  | .sealSet by_ => Sys2Proof.Machine.execSealSet by_ s
  | .sealClear by_ => Sys2Proof.Machine.execSealClear by_ s
  | .factoryLock by_ => Sys2Proof.Machine.execFactoryLock by_ s
  | .qtyClear by_ => Sys2Proof.Machine.execQtyClear by_ s
  | .taperExit by_ => Sys2Proof.Machine.execTaperExit by_ s
  | .powerCommandReset by_ => Sys2Proof.Machine.execPowerCommandReset by_ s
  | .powerCommandSnuff by_ => Sys2Proof.Machine.execPowerCommandSnuff by_ s
  | .residencyClear by_ => Sys2Proof.Machine.execResidencyClear by_ s
  | .calSet by_ datetime => Sys2Proof.Machine.execCalSet by_ datetime s
  | .dstCommand by_ value => Sys2Proof.Machine.execDstCommand by_ value s
  | .tamperClear by_ mask => Sys2Proof.Machine.execTamperClear by_ mask s
  | .passiveActivateAt by_ seconds => Sys2Proof.Machine.execPassiveActivateAt by_ seconds s
  | .billingCloseNow by_ => Sys2Proof.Machine.execBillingCloseNow by_ s
  | .creditTopup by_ topup amount => Sys2Proof.Machine.execCreditTopup by_ topup amount s
  | .actDisconnect by_ => Sys2Proof.Machine.execActDisconnect by_ s
  | .actArm by_ => Sys2Proof.Machine.execActArm by_ s
  | .actConnect by_ => Sys2Proof.Machine.execActConnect by_ s
  | .actClearFault by_ => Sys2Proof.Machine.execActClearFault by_ s
  | .actuatorEndReached cyc => Sys2Proof.Machine.execActuatorEndReached cyc s
  | .actuatorDone cyc => Sys2Proof.Machine.execActuatorDone cyc s
  | .actuatorFault kind aci cyc => Sys2Proof.Machine.execActuatorFault kind aci cyc s
  | .actuatorReverseEnd cyc => Sys2Proof.Machine.execActuatorReverseEnd cyc s
  | .actuatorPauseEnd cyc => Sys2Proof.Machine.execActuatorPauseEnd cyc s
  | .zeroCaptureStart by_ ctx pairs => Sys2Proof.Machine.execZeroCaptureStart by_ ctx pairs s
  | .zeroCaptureStop by_ ctx => Sys2Proof.Machine.execZeroCaptureStop by_ ctx s
  | .templateCaptureStart by_ ctx pairs anchor => Sys2Proof.Machine.execTemplateCaptureStart by_ ctx pairs anchor s
  | .templateCaptureStop by_ ctx => Sys2Proof.Machine.execTemplateCaptureStop by_ ctx s
  | .ctxStageSet by_ ctx low => Sys2Proof.Machine.execCtxStageSet by_ ctx low s
  | .ctxStageApply by_ ctx low => Sys2Proof.Machine.execCtxStageApply by_ ctx low s
  | .perfSelWrite by_ block counter value => Sys2Proof.Machine.execPerfSelWrite by_ block counter value s
  | .perfOvfClear by_ mask => Sys2Proof.Machine.execPerfOvfClear by_ mask s
  | .perfOverflow block counter => Sys2Proof.Machine.execPerfOverflow block counter s
  | .fwCommandVerify by_ => Sys2Proof.Machine.execFwCommandVerify by_ s
  | .fwCommandLoader by_ => Sys2Proof.Machine.execFwCommandLoader by_ s
  | .fwBlock by_ offset data => Sys2Proof.Machine.execFwBlock by_ offset data s
  | .fwMinVersion by_ version => Sys2Proof.Machine.execFwMinVersion by_ version s
  | .keyChange by_ role wrapped => Sys2Proof.Machine.execKeyChange by_ role wrapped s
  | .bootKeyHash by_ hash => Sys2Proof.Machine.execBootKeyHash by_ hash s
  | .mailboxIn by_ data => Sys2Proof.Machine.execMailboxIn by_ data s
  | .bootVerifyComplete => Sys2Proof.Machine.execBootVerifyComplete s
  | .wfi mie => Sys2Proof.Machine.execWfi mie s
  | .mtimecmpMatch => Sys2Proof.Machine.execMtimecmpMatch s
  | .msipWrite value => Sys2Proof.Machine.execMsipWrite value s
  | .claim => Sys2Proof.Machine.execClaim s
  | .localAck value => Sys2Proof.Machine.execLocalAck value s
  | .wdtKick value => Sys2Proof.Machine.execWdtKick value s
  | .coreWatchdog pc => Sys2Proof.Machine.execCoreWatchdog pc s
  | .reservationSpent => Sys2Proof.Machine.execReservationSpent s
  | .reqGo value => Sys2Proof.Machine.execReqGo value s
  | .customerRequestHeld => Sys2Proof.Machine.execCustomerRequestHeld s
  | .custDone value => Sys2Proof.Machine.execCustDone value s
  | .custTimeout => Sys2Proof.Machine.execCustTimeout s
  | .mailboxTaken => Sys2Proof.Machine.execMailboxTaken s
  | .mailbox => Sys2Proof.Machine.execMailbox s
  | .inDataPop => Sys2Proof.Machine.execInDataPop s
  | .outSubmit value => Sys2Proof.Machine.execOutSubmit value s
  | .firewallAccessFault addr master access core => Sys2Proof.Machine.execFirewallAccessFault addr master access core s
  | .countLoRead master off user => Sys2Proof.Machine.execCountLoRead master off user s
  | .spiStatus pre => Sys2Proof.Machine.execSpiStatus pre s
  | .spiWrite pre words => Sys2Proof.Machine.execSpiWrite pre words s
  | .spiRead pre clocked => Sys2Proof.Machine.execSpiRead pre clocked s
  | .iolMSequence cyc sound command pdOut takesEvent => Sys2Proof.Machine.execIolMSequence cyc sound command pdOut takesEvent s
  | .iolIsdu wr index sub data => Sys2Proof.Machine.execIolIsdu wr index sub data s
  | .paramUploadStart => Sys2Proof.Machine.execParamUploadStart s
  | .paramUploadEnd => Sys2Proof.Machine.execParamUploadEnd s
  | .paramDownloadStart => Sys2Proof.Machine.execParamDownloadStart s
  | .paramDownloadEnd => Sys2Proof.Machine.execParamDownloadEnd s
  | .paramDownloadStore => Sys2Proof.Machine.execParamDownloadStore s
  | .paramBreak => Sys2Proof.Machine.execParamBreak s
  | .iolFallback => Sys2Proof.Machine.execIolFallback s
  | .iolSessionTimeout => Sys2Proof.Machine.execIolSessionTimeout s
  | .sndNke addr => Sys2Proof.Machine.execSndNke addr s
  | .reqUd2 addr fcb => Sys2Proof.Machine.execReqUd2 addr fcb s
  | .reqUd1 addr fcb => Sys2Proof.Machine.execReqUd1 addr fcb s
  | .mbusSetPrimaryAddress addr value fcb => Sys2Proof.Machine.execMbusSetPrimaryAddress addr value fcb s
  | .mbusDictionaryRequest addr fcb op id index sub data => Sys2Proof.Machine.execMbusDictionaryRequest addr fcb op id index sub data s
  | .mbusSelection fcb id manufacturer version medium => Sys2Proof.Machine.execMbusSelection fcb id manufacturer version medium s
  | .mbusApplicationReset addr fcb => Sys2Proof.Machine.execMbusApplicationReset addr fcb s
  | .mbusBaudChange addr ci fcb => Sys2Proof.Machine.execMbusBaudChange addr ci fcb s
  | .mbusFrameIgnored faulty addr c ci => Sys2Proof.Machine.execMbusFrameIgnored faulty addr c ci s
  | .mbusSessionIdle => Sys2Proof.Machine.execMbusSessionIdle s
  | .mbusBaudRevert => Sys2Proof.Machine.execMbusBaudRevert s
  | .plZeroCrossing rising time meas => Sys2Proof.Machine.execPlZeroCrossing rising time meas s
  | .plCrossingMissed => Sys2Proof.Machine.execPlCrossingMissed s
  | .plFrame pairs => Sys2Proof.Machine.execPlFrame pairs s
  | .plPollStatus => Sys2Proof.Machine.execPlPollStatus s
  | .plPollRead => Sys2Proof.Machine.execPlPollRead s
  | .plPollReadNext => Sys2Proof.Machine.execPlPollReadNext s
  | .plPollWrite => Sys2Proof.Machine.execPlPollWrite s
  | .plPollWriteMore => Sys2Proof.Machine.execPlPollWriteMore s
  | .plReplyDeadline => Sys2Proof.Machine.execPlReplyDeadline s
  | .plReplyReceived => Sys2Proof.Machine.execPlReplyReceived s
  | .plPollTimeout => Sys2Proof.Machine.execPlPollTimeout s
  | .plCycleStart => Sys2Proof.Machine.execPlCycleStart s
  | .plMasterRequest by_ data => Sys2Proof.Machine.execPlMasterRequest by_ data s
  | .plWakePattern => Sys2Proof.Machine.execPlWakePattern s
  | .plSessionIdle session => Sys2Proof.Machine.execPlSessionIdle session s
  | .plTransmissionEnd => Sys2Proof.Machine.execPlTransmissionEnd s
  | .dispUpdate by_ regions => Sys2Proof.Machine.execDispUpdate by_ regions s
  | .displayUpdateAdmitted region starts => Sys2Proof.Machine.execDisplayUpdateAdmitted region starts s
  | .pumpBurst region cyc => Sys2Proof.Machine.execPumpBurst region cyc s
  | .waveformStart region cyc => Sys2Proof.Machine.execWaveformStart region cyc s
  | .drivenPhase vep ven => Sys2Proof.Machine.execDrivenPhase vep ven s
  | .displayDone region => Sys2Proof.Machine.execDisplayDone region s
  | .lcdFrameStart cyc => Sys2Proof.Machine.execLcdFrameStart cyc s
  | .pulseStart output cyc => Sys2Proof.Machine.execPulseStart output cyc s
  | .pulseEnd output cyc => Sys2Proof.Machine.execPulseEnd output cyc s
  | .ftoPulse cyc => Sys2Proof.Machine.execFtoPulse cyc s
  | .aoPowerUp => Sys2Proof.Machine.execAoPowerUp s
  | .plTransmitPulse cyc => Sys2Proof.Machine.execPlTransmitPulse cyc s
  | .ftoPulseEnd cyc => Sys2Proof.Machine.execFtoPulseEnd cyc s
  | .vsdPumpSettled droop => Sys2Proof.Machine.execVsdPumpSettled droop s
  | .debugCommand op addr width value => Sys2Proof.Machine.execDebugCommand op addr width value s
  | .coreMemoryWrite addr width value dma last core => Sys2Proof.Machine.execCoreMemoryWrite addr width value dma last core s

end Sys2Proof.Machine
end

