-- ==== Sys2Proof/Safety.lean ====
section
/-! DEFINITION. The terms the statements use: what it means that a command completes, when a request of the dictionary is
accepted, what carrying it leaves behind, and the invariants of the block. -/

namespace Sys2Proof.Machine

open Sys2Proof

/-- The command completes: it answers a next state, of which a property holds. -/
def Does (c : Instr) (s : State) (p : State → Prop) : Prop := ∃ t, exec c s = .next t ∧ p t

/-- Nothing of the device has changed but what raising events can change outside RUN: the pending occurrences, the BK
latches, the power state a wake event ends, its entry counts and the remembered wake event (R36 to R39, R21). -/
def EventsOnly (u t : State) : Prop :=
  t = { u with events := t.events, bkLatches := t.bkLatches,
               pwr := { u.pwr with state := t.pwr.state, res := t.pwr.res, wakePending := t.pwr.wakePending } }

/-- Nothing but the pending occurrences, the BK latches, and the counted occurrences of the performance counters with their
OVF bits has changed, beside what a wake event changes (R585 to R592). -/
def CountsOnly (u t : State) : Prop :=
  t = { u with perf := { u.perf with counts := t.perf.counts, ovf := t.perf.ovf }, events := t.events,
               bkLatches := t.bkLatches,
               pwr := { u.pwr with state := t.pwr.state, res := t.pwr.res, wakePending := t.pwr.wakePending } }

/-- Beside what counting and events change, only what RTC ticks up to the present time change (R333, R415, R424, R448, R563):
the slow counters. -/
def Ticked (u t : State) : Prop :=
  t = { u with
    frame := { u.frame with done := t.frame.done }
    cal := { u.cal with prescaler := t.cal.prescaler, owed := t.cal.owed, window := t.cal.window }
    acc := { u.acc with lockout := t.acc.lockout }
    perf := { u.perf with counts := t.perf.counts, ovf := t.perf.ovf }
    events := t.events, bkLatches := t.bkLatches
    pwr := { u.pwr with state := t.pwr.state, res := t.pwr.res, wakePending := t.pwr.wakePending, mtime := t.pwr.mtime
                        backoff := t.pwr.backoff } }

/-! ### Shots -/

/-- The acoustic blocks as a shot's set-up and firing may leave them: the contexts, the shots in flight, the pins and their chains, VHD_STATUS
and the calibrations. -/
def Acoustic.shotFrom (u t : Acoustic) : Acoustic :=
  { u with
    ctx := t.ctx, flight := t.flight, crossbar := t.crossbar, links := t.links, drives := t.drives, hdEnd := t.hdEnd
    vhdAbove5 := t.vhdAbove5, vhdLow := t.vhdLow
    calGain := t.calGain, calR := t.calR, calFaulty := t.calFaulty, calFaults := t.calFaults }

/-- The promises of some contexts that a displacement by the time `late` breaks (R85, R87). -/
def brokenBy (late : Bool) (ms : List Nat) (before : Nat) : Nat :=
  if late then min (2 ^ 32 - 1) (before + (ascending ms).length) else before

/-- Context n has been fired by a shot at the instant F: its attempt, or its acquisition shot, with the down direction fired at F and the up
direction too unless the context is sequential (R118, R141). -/
def Ctx.FiredAt (f : Nat) (acquisition dynamic sequential : Bool) (c d : Ctx) : Prop :=
  (acquisition = true →
    d.acqServed = true ∧ d.attempts = c.attempts ∧ d.current = c.current ∧
    ∃ a, d.acq = some a ∧ a.acquisition = true ∧ a.decided = false ∧ a.dn.fired = true ∧ a.dn.at_ = f ∧
      a.up.fired = (!sequential)) ∧
  (acquisition = false →
    d.attempts = c.attempts + 1 ∧ d.shots = min (2 ^ 48 - 1) (c.shots + 1) ∧ d.acq = c.acq ∧
    d.retries = (if c.attempts = 0 then c.retries else min (2 ^ 48 - 1) (c.retries + 1)) ∧
    ∃ a, d.current = some a ∧ a.number = c.attempts ∧ a.acquisition = false ∧ a.dynamic = dynamic ∧ a.decided = false ∧
      a.dn.fired = true ∧ a.dn.at_ = f ∧ a.up.fired = (!sequential))

/-- A planned shot has started at the present time of u and fired its contexts 6 µs later: it has left the plan and is in flight, the crossbar's routes are
those of its members, each member listed once has fired, and the others stand (R102, R115, R118). -/
def State.ShotFired (u : State) (p : Planned) (t : State) : Prop :=
  t.frame = { u.frame with planned := u.frame.planned.erase p } ∧
  { group := p.group, kind := if p.kind = 6 then 4 else p.kind, members := u.concerned p, start := u.frame.cyc, held := false,
    latest := p.latest / 125 } ∈ t.ac.flight ∧
  t.ac.crossbar = ((u.concerned p).flatMap fun n => memberRoutes u.eff n u.frame.number) ∧
  (∀ n, n < 64 → (u.concerned p).count n = 1 → u.ac.ctx.length = 64 →
    Ctx.FiredAt (500 * u.frame.cyc + 192000) (decide (p.kind = 4 ∨ p.kind = 6)) (decide (p.kind = 5)) (ctxSequential u.eff n)
      (u.ac.ctxAt n) (t.ac.ctxAt n)) ∧
  (∀ n, n ∉ u.concerned p → t.ac.ctxAt n = u.ac.ctxAt n) ∧
  CountsOnly { u with
    frame := t.frame, ac := u.ac.shotFrom t.ac, pwr := { u.pwr with doms := t.pwr.doms }
    ledger := { u.ledger with
      broken := brokenBy (decide (p.latest < u.frame.nowQ)) (u.concerned p) u.ledger.broken } } t

/-- A planned shot has started with VHD below its threshold: it has left the plan and is held, set up but not fired (R103). -/
def State.ShotHeld (u : State) (p : Planned) (t : State) : Prop :=
  t.frame = { u.frame with planned := u.frame.planned.erase p } ∧
  t.ac.flight = u.ac.flight ++ [{ group := p.group, kind := if p.kind = 6 then 4 else p.kind, members := u.concerned p
                                  start := u.frame.cyc, held := true, latest := p.latest / 125 }] ∧
  t.ac.ctx = u.ac.ctx ∧ t.ac.vhdLow = true ∧
  CountsOnly { u with
    frame := t.frame, ac := u.ac.shotFrom t.ac, pwr := { u.pwr with doms := t.pwr.doms }
    ledger := { u.ledger with
      broken := brokenBy (decide (p.latest < u.frame.nowQ)) (u.concerned p) u.ledger.broken } } t

/-- What a command that starts a planned shot leaves: the shot fires where VHD reaches its threshold, is held where it does not, and is slack
where no context asks for it (R102, R103, R143). -/
def State.Starts (u : State) (p : Planned) (vhd : Nat) (t : State) : Prop :=
  (u.concerned p ≠ [] → vhdThreshold u.eff (u.concerned p) ≤ vhd → u.ShotFired p t) ∧
  (u.concerned p ≠ [] → vhd < vhdThreshold u.eff (u.concerned p) → u.ShotHeld p t) ∧
  (u.concerned p = [] → t = State.startFlow { u with frame := { u.frame with planned := u.frame.planned.erase p } })

/-- The PLL has fallen back from a state u to the HF RC inside the frame, `c` being the clocks as the failed source leaves them: the fallback is
counted, the two computations that follow make no fusion, and the PLL and the DLLs are locked; where no shot is under way, none of its attempts
is held and no frame measures, nothing else has changed (R195, R215, R222). -/
def State.FellBack (u : State) (c : Clocks) (t : State) : Prop :=
  t.clk = { c with
    ref := 2, trial := false, trialReady := false, trialFailed := false, disagreeRun := 0, agreeRun := 0, warmCount := 0
    fallbacks := min (2 ^ 32 - 1) (u.clk.fallbacks + 1), fusionBlock := 2 } ∧
  t.ac.pllLocked = true ∧ t.ac.dllLocked = true ∧
  t.mem = u.mem ∧ t.set = u.set ∧ t.cal = u.cal ∧ t.sen = u.sen ∧ t.qty = u.qty ∧ t.acc = u.acc ∧
  (u.measuring = false → u.ac.flight = [] → (∀ n, n < 64 → (u.ac.ctxAt n).current = none) →
    CountsOnly { u with clk := t.clk, ac := { u.ac with pllLocked := true, dllLocked := true } } t)

/-- The request that a command brings by a way (R450). -/
def State.asked (s : State) (via : Via) (gen op index sub id : Nat) (data : List Nat) : Request :=
  { via := via, gen := s.sessionGen via, hdr := gen, bad := false, op := op, index := index, sub := sub, id := id, data := data }

/-- The request in which a sender carries a write of one entry: OP WRITE, OP WRITE_AUTH, or a write to AUTH_ENVELOPE
(R449). -/
def State.carried (s : State) (p : Sender) (index sub : Nat) (value : List Nat) : Request :=
  match p.carrier with
  | .plain => s.asked p.via p.gen 2 index sub p.id value
  | .auth role counter mac => s.asked p.via p.gen 3 index sub p.id (envelopeBytes role index sub counter value mac)
  | .enveloped role counter mac => s.asked p.via p.gen 2 0x0150 1 p.id (envelopeBytes role index sub counter value mac)

/-- A request is served as it arrives: the device runs, the commit slot is over, and nothing of its port waits (R451, R452,
R566). -/
def State.servesNow (s : State) (r : Request) : Prop :=
  s.linksUp = true ∧ s.mustWait r = false ∧ (s.acc.waiting.any fun x => x.via.port == r.via.port) = false

/-- A write passes every check of R457 in the state it meets, up to the checks that MODE_COMMAND and the ledger add at its
step 11: it is served at once, its form and its envelope are sound, and it passes the checks of access, seal, type, range,
mode and state. -/
def State.accepts (s : State) (r : Request) (index sub : Nat) (value : List Nat) : Prop :=
  s.servesNow r ∧ (s.expect r).formAbort r = abortOk ∧
    ∃ row role env, rowOf (key index sub) = some row ∧
      (let a : Ask := { via := r.via, gen := r.gen, index := index, sub := sub, data := value, role := role, env := env }
       let u := ((s.expect r).authenticate r).1
       ((s.expect r).authenticate r).2 = (abortOk, a) ∧ customerIndex index = false ∧ r.op ≠ 1 ∧
       accessBad row a = false ∧ u.sealBad row a = false ∧ row.ty.fits value = true ∧ u.valueAbort row a = abortOk ∧
       u.modeBad row = false ∧ u.stateBad index sub (ofLe value) = false)

/-- The sender's write of a value to an entry is accepted. -/
def State.acceptsWrite (s : State) (p : Sender) (index sub : Nat) (value : List Nat) : Prop :=
  s.accepts (s.carried p index sub value) index sub value

/-- What carrying an accepted write changes beside its effect: the replay counter and the failure run of an envelope (R447,
R448), the count of changes under the seal (R444), the upload flag (R486), the place where the port shows the answer (R450,
R482, R495, R517, R565), and what events and counted occurrences change. -/
def Carried (u t : State) : Prop :=
  t = { u with
    acc := { u.acc with replay := t.acc.replay, failRun := t.acc.failRun, changes := t.acc.changes, changeLog := t.acc.changeLog }
    core := { u.core with reqBusy := t.core.reqBusy, reqResult := t.core.reqResult, reqData := t.core.reqData }
    q := { u.q with coreIn := t.q.coreIn, coreHeld := t.q.coreHeld, spiOut := t.q.spiOut, spiHeld := t.q.spiHeld }
    iol := { u.iol with response := t.iol.response, lastAbort := t.iol.lastAbort, busy := t.iol.busy, uploadFlag := t.iol.uploadFlag }
    mbus := { u.mbus with request := t.mbus.request, answer := t.mbus.answer }
    pl := { u.pl with sessions := t.pl.sessions }
    perf := { u.perf with counts := t.perf.counts, ovf := t.perf.ovf }
    events := t.events, bkLatches := t.bkLatches
    pwr := { u.pwr with state := t.pwr.state, res := t.pwr.res, wakePending := t.pwr.wakePending } }

/-! ### The powerline link -/

/-- A crossing has been accepted, which leaves `xs` accepted crossings of its polarity; a seed starts the good run anew (R502, R503). -/
def State.crossed (u : State) (rising seed : Bool) (xs : List Nat) : State :=
  if rising then
    { u with pl := { u.pl with
        rising := xs, goodRun := (if seed then 1 else min 16 (u.pl.goodRun + 1)), badRun := 0
        locked := u.pl.locked || (!seed && decide (16 ≤ u.pl.goodRun + 1)) } }
  else { u with pl := { u.pl with falling := xs } }

/-- The link after an unlock: both fits are discarded, the runs start anew, and a transmission is withdrawn and counted (R503, R526). -/
def Powerline.unlocked (p : Powerline) : Powerline :=
  { p with
    rising := [], falling := [], locked := false, goodRun := 0, badRun := 0
    tx := none, txNext := if p.tx.isSome then none else p.txNext, pulseAt := if p.tx.isSome then none else p.pulseAt
    ple := p.ple && p.tx.isNone, refused := if p.tx.isSome then min (2 ^ 32 - 1) (p.refused + 1) else p.refused }

/-- The master has gone on from a state u to the first slave at or after an index: a POLL of toggled TOG, a waiting request of that slave or a
STATUS POLL, is asked for, after the wake pattern where WAKE is set and the slave is the first of a cycle or lost; with no slave left the
cycle is over (R515, R519, R521). -/
def State.Polled (u : State) (k : Nat) (first : Bool) (t : State) : Prop :=
  ((∀ m, k ≤ m → m < 24 → u.on_ 0x1920 (m + 1) = 0) →
    t.pl.poll = none ∧ t.pl.cycleOn = false ∧ t.pl.tx = u.pl.tx ∧ t.pl.txNext = u.pl.txNext) ∧
  (∀ n, k ≤ n → n < 24 → (∀ m, k ≤ m → m < n → u.on_ 0x1920 (m + 1) = 0) → u.on_ 0x1920 (n + 1) ≠ 0 →
    ∃ (mine : Bool) (payload : List Nat) (x y : PlTx),
      (mine = true ↔ ∃ data, u.pl.request = some (n, data)) ∧
      payload = (if mine then requestPayload ((u.pl.request.map Prod.snd).getD []) else [1]) ∧
      t.pl.poll = some { slave := n, payload := payload, repeats := 0, request := mine } ∧ t.pl.cycleOn = u.pl.cycleOn ∧
      t.pl.session n = { u.pl.session n with
        address := u.on_ 0x1920 (n + 1), tog := 1 - (u.pl.session n).tog % 2
        heard := if (u.pl.session n).address = 0 then u.frame.absTick else (u.pl.session n).heard } ∧
      y.sent = 0 ∧ y.bytes = [(u.pl.session n).gen % 16 * 16, (1 - (u.pl.session n).tog % 2) * 128 + payload.length] ++
        leBytes 2 (u.on_ 0x1920 (n + 1)) ++ leBytes 2 u.plAddress ++ payload ∧
      t.pl.tx = some x ∧ x.sent = 0 ∧ x.admitted = (u.pl.locked && u.admitsPulses) ∧
      (if bitAt (u.on_ 0x1900 1) 2 ∧ (first = true ∨ (u.pl.session n).lost = true) then
        x.bytes = [] ∧ x.halves = List.replicate 8 true ∧ t.pl.txNext = some y ∧ y.admitted = false
      else x.bytes = y.bytes ∧ t.pl.txNext = none))

/-- The POLL `b` at the front, of session n and operation `op`, is a new one that is served: nothing of the session is pending, the TOG
is not that of the kept REPLY, and its GEN is no higher than the session's (R514, R517, R520). -/
def State.pollToServe (s : State) (op n : Nat) (b : List Nat) : Prop :=
  s.plOn = true ∧ s.pl.sessions.length = 24 ∧ s.frontPoll = some (b, n) ∧ natAt (framePayload b) 0 = op ∧
    (s.pl.session n).wait = .none ∧ ((s.pl.session n).reply = none ∨ (s.pl.session n).tog ≠ frameTog b) ∧
    frameGen b ≤ (s.pl.session n).gen

/-- The events that the kept REPLY of a session had carried have left the queue (R518). -/
def State.confirmed (s : State) (n : Nat) : List Pend := s.pl.events.drop (s.pl.session n).told

/-- The POLL `b` of session n has been answered with a payload that carries `told` events: it has left the queue of POLLs, the payload is kept
with its TOG, and the other sessions stand (R513, R514). -/
def State.Kept (s : State) (b : List Nat) (n told : Nat) (payload : List Nat) (t : State) : Prop :=
  t.pl.inbox = s.pl.inbox.drop 1 ∧ (t.pl.session n).reply = some payload ∧ (t.pl.session n).tog = frameTog b ∧
    (t.pl.session n).told = told ∧ ∀ m, m ≠ n → t.pl.session m = s.pl.session m

/-- The REPLY of session n to the POLL `b` is the transmission admitted, or cannot be sent and is counted (R513, R526). -/
def State.Sent (s : State) (b : List Nat) (n : Nat) (payload : List Nat) (t : State) : Prop :=
  if s.pl.tx = none ∧ s.pl.locked = true ∧ s.admitsPulses = true then
    t.pl.refused = s.pl.refused ∧ ∃ x, t.pl.tx = some x ∧ x.admitted = true ∧ x.sent = 0 ∧
      x.bytes = [(s.pl.session n).gen % 16 * 16 + 1, frameTog b * 128 + payload.length] ++ leBytes 2 (s.pl.session n).address ++
        leBytes 2 s.plAddress ++ payload
  else t.pl.tx = s.pl.tx ∧ t.pl.refused = min (2 ^ 32 - 1) (s.pl.refused + 1)

/-- Of the powerline link nothing but the sessions, the queue of POLLs, the transmission and its refusals, and the events queued has
changed. -/
def Answered (p q : Powerline) : Prop :=
  q = { p with sessions := q.sessions, inbox := q.inbox, tx := q.tx, refused := q.refused, events := q.events }

/-! ### The invariant of every step -/

/-- What every step keeps: memory is in its canonical form, a seal that is set has bit 1 of SEAL_STATE set, and where that bit or FACTORY_LOCK
is set the FACTORY role has ended (R441, R443). -/
def State.Inv (s : State) : Prop :=
  Memory.wf s.mem = true ∧ (s.acc.sealed = true → s.acc.sealedOnce = true) ∧
    (s.acc.sealedOnce = true → s.acc.factoryEnded = true) ∧ (s.acc.factoryLock = true → s.acc.factoryEnded = true)

end Sys2Proof.Machine
end

