-- ==== Sys2Proof/Certificates/Slice0/Obligations.lean ====
section
/-! DEFINITION. The statements for the provers: what the rules of the spec say the commands do, command by command, what they
leave alone, and what every step keeps. OBLIGATIONS.json lists them. -/

open Sys2Proof Sys2Proof.Machine

/-- For every command c, queue rest cs and state s whose queue is c followed by cs, a step of s is exec of c at s with the
queue cs. The queue is the model's (log 4). -/
def Obligations.QueueIsServedFirstInFirstOut : Prop :=
  ∀ (c : Instr) (cs : List Instr) (s : State), s.pending = c :: cs → step s = exec c { s with pending := cs }

/-- With an empty queue, in reset, away from the end of a second and of a trim window, a step answers a next state in which MTIME, the 64-bit
counter of RTC ticks held in AO, has advanced by one and the back-off and every lockout have run down by one; memory, settings, commit banks and
event log stand. That an empty queue lets a tick pass is the model's choice
(log 4). -/
def Obligations.IdleStepIsOneTick : Prop :=
  ∀ s : State, s.pending = [] → s.frame.running = false → s.pwr.state = .starting →
    s.frame.tick ≤ s.frame.done → s.cal.prescaler + s.cal.owed + 2 < 32768 → s.cal.window + 1 < 8388608 →
    s.cal.trim.natAbs ≤ 8388608 →
    ∃ t, step s = .next t ∧ t.pwr.mtime = (s.pwr.mtime + 1) % 2 ^ 64 ∧ t.pwr.backoff = s.pwr.backoff - 1 ∧
      t.acc = { s.acc with lockout := s.acc.lockout.map fun n => n - 1 } ∧ t.cal.seconds = s.cal.seconds ∧
      t.pwr.state = s.pwr.state ∧ t.pending = [] ∧ t.mem = s.mem ∧ t.set = s.set ∧ t.qty = s.qty ∧ t.log = s.log ∧
      t.frame.number = s.frame.number ∧ t.mode = s.mode

/-- FRAME_BOUNDARY in a running frame outside its commit slot completes: FRAME_NUMBER becomes k + 1 modulo 2^48, LANTERN
toggles, SYNO is active exactly where WIDTH is not 0, FRAME_LENGTH_LAST is the length of the frame that ended, time in the frame
begins again and the commit slot opens. The memory of the core, the keys, the seal, the replay counters and the change log
stand, whatever the frame did; of the security block only the lockouts run down. With no frame running it changes nothing. -/
def Obligations.FrameBoundaryAdvancesTheFrame : Prop :=
  ∀ (gate : List (Nat × Nat)) (lfx : Nat) (a0 a1 : Bool) (figures : FrameFigures) (edge : List Act) (s : State),
    (s.frame.running = false → exec (.frameBoundary gate lfx a0 a1 figures edge) s = .next s) ∧
    (s.frame.running = true → s.frame.committing = false →
      Does (.frameBoundary gate lfx a0 a1 figures edge) s fun t =>
        t.frame.number = (s.frame.number + 1) % 2 ^ 48 ∧ t.frame.lantern = (!s.frame.lantern) ∧
        t.frame.synoActive = (field (s.on_ 0x0301 7) 4 0 != 0) ∧ t.frame.lengthLast = s.frame.length ∧ t.frame.cyc = 0 ∧
        t.frame.running = true ∧ t.frame.committing = true ∧
        t.mem = s.mem ∧ t.acc = { s.acc with lockout := t.acc.lockout } ∧ t.log = s.log ∧ t.pending = s.pending)

/-- COMMIT_COMPLETE in the commit slot of a running frame, with no reset, SNUFF or TAPER_EXIT accepted and no request waiting, ends the
commit slot: where the bytes read back, with the given bits changed, check, the bank written holds the record of the commit and no failure stands; where they do
not, the commit counts as failed and the other bank is unchanged. The process data input that the boundary formed is swapped in once 50 µs have passed, core time reserved in the frame sets local
interrupt 18, and a snapshot record that is due is queued. The dictionary, the memory and the other engines stand, beside what the ticks up to
60 µs after the boundary change. SYNO_PULSE_END takes SYNO to its inactive level WIDTH ticks after the boundary. -/
def Obligations.CommitCompleteEndsTheCommitSlot : Prop :=
  (∀ (diff : List (Nat × Nat)) (c : Commit) (ok : Bool) (s : State),
    s.frame.running = true → s.frame.committing = true → s.pwr.taperExit = false → s.pwr.command = 0 →
    s.acc.waiting = [] → s.q.spiIn = [] → s.qty.writing = some c → ok = c.checks diff →
    Does (.commitComplete diff) s fun t =>
      t.qty.writing = none ∧ t.qty.failed = (!ok) ∧ t.qty.failRun = (if ok then 0 else s.qty.failRun + 1) ∧
      t.qty.fails = (if ok then s.qty.fails else min (2 ^ 32 - 1) (s.qty.fails + 1)) ∧
      t.qty.banks = setAt s.qty.banks s.qty.nextBank (if ok then some c else none) ∧
      t.core.l18 = (s.core.l18 || s.coreReserved) ∧ (s.perfDue = false → t.q = s.q) ∧
      Ticked { s.atCyc 3840 with
        frame := { (s.atCyc 3840).frame with committing := false }
        qty := { s.qty with writing := none, failed := !ok, banks := t.qty.banks, fails := t.qty.fails, failRun := t.qty.failRun,
                            oneBank := s.qty.oneBank && !ok }
        bill := { s.bill with groupDue := ok && s.bill.group.isSome, heldAt := if ok then none else s.bill.heldAt }
        iol := if 3200 ≤ (s.atCyc 3840).frame.cyc then s.iol.swapPd else s.iol
        q := t.q, core := { s.core with l18 := t.core.l18, wfi := t.core.wfi, hold := t.core.hold } } t) ∧
  (∀ s : State, (s.frame.running = false ∨ s.frame.committing = false) → ∀ diff, exec (.commitComplete diff) s = .next s) ∧
  (∀ s : State, (s.frame.synoActive = false → exec .synoPulseEnd s = .next s) ∧
    (s.frame.synoActive = true → exec .synoPulseEnd s = .next { s with
      frame := { s.frame.at_ ((field (s.on_ 0x0301 7) 4 0 * 15625 + 7) / 8) with synoActive := false } }))

/-- SYNC_REFERENCE_EVENT of a running frame, at time t where the selected source has an event: an edge of SYNI at its own time, the rising crossing accepted last,
or the master message of the moment. The first event of an index is accepted without a test. A later one, with P the reference period in use
(T/K until K intervals have been accepted, then the mean of the last K), is accepted with index advanced by n where it lies within P/50 of the last accepted event plus n P for a whole n of at
least 1, and its interval divided by n is kept; where no such n exists it is counted in SYNC_REJECTS, which
saturates (the saturation is the model's reading), and nothing else of the device changes: a rejected event never moves the
boundary. Without an event of the source, or a running frame, nothing changes. -/
def Obligations.SyncReferenceEventIsTestedAgainstItsPrediction : Prop :=
  (∀ (now : Nat) (s : State), s.syncSource = 1 → s.syncEventAt now = some now) ∧
  (∀ (cyc : Nat) (s : State), s.frame.running = false ∨ s.syncEventAt (s.frame.base + 8 * cyc) = none →
    exec (.syncReferenceEvent cyc) s = .next s) ∧
  (∀ (cyc t : Nat) (s : State),
    s.frame.running = true → s.syncEventAt (s.frame.base + 8 * cyc) = some t → 0 < s.period → 0 < s.syncEvents →
    (s.sync.started = false →
      exec (.syncReferenceEvent cyc) s = .next { s with
        frame := s.frame.at_ cyc
        sync := { s.sync with started := true, last := t, index := 0, intervals := [], aligned := t :: s.sync.aligned } }) ∧
    (s.sync.started = true →
      ∀ p : Rat, 0 < p →
        p = (if s.sync.intervals.length < s.syncEvents then (s.period * 15625 : Rat) / (s.syncEvents : Rat)
             else (s.sync.intervals.take s.syncEvents).foldl (· + ·) 0 / (s.syncEvents : Rat)) →
        (∀ n : Nat, 1 ≤ n → |(t : Rat) - (s.sync.last : Rat) - (n : Rat) * p| ≤ p / 50 →
          exec (.syncReferenceEvent cyc) s = .next { s with
            frame := s.frame.at_ cyc
            sync := { s.sync with
              last := t, index := s.sync.index + n
              intervals := (((t : Rat) - (s.sync.last : Rat)) / (n : Rat) :: s.sync.intervals).take 8192
              aligned := if (s.sync.index + n) % s.syncEvents = 0 then t :: s.sync.aligned else s.sync.aligned } }) ∧
        ((∀ n : Nat, 1 ≤ n → p / 50 < |(t : Rat) - (s.sync.last : Rat) - (n : Rat) * p|) →
          exec (.syncReferenceEvent cyc) s = .next { s with
            frame := s.frame.at_ cyc
            sync := { s.sync with rejects := min (2 ^ 32 - 1) (s.sync.rejects + 1) } })))

/-- Where the controller holds an occurrence of an event for a destination, raising the event again for it adds no second
occurrence: the last pending occurrence of it keeps its frame and tick stamp, takes CODE, ARG, SRC and CLASS of the new one and a
count one higher, at most 255; every other occurrence stands, and the record delivered carries exactly the count, the stamps, CODE,
ARG, SRC and CLASS that the occurrence holds. -/
def Obligations.AnEventRaisedAgainCoalesces : Prop :=
  (∀ (d : Dest) (f : Frame) (seconds : Nat) (e : Raised) (l : List Pend),
    (∃ p ∈ l, p.dest = d ∧ p.ev = e.ev) →
    (pendFor d f seconds e l).length = l.length ∧
    ∀ (i : Nat) (p : Pend), l[i]? = some p →
      (pendFor d f seconds e l)[i]? = some (if p.dest = d ∧ p.ev = e.ev ∧ ((l.drop (i + 1)).any fun q => q.is d e.ev) = false then
        { p with count := min 255 (p.count + 1), code := e.code, arg := e.arg, src := e.src, cls := e.cls } else p)) ∧
  (∀ (d : Dest) (f : Frame) (seconds : Nat) (e : Raised) (l : List Pend),
    (∀ p ∈ l, ¬(p.dest = d ∧ p.ev = e.ev)) →
    (pendFor d f seconds e l).length = l.length + 1 ∧
    ∃ p ∈ pendFor d f seconds e l, p.dest = d ∧ p.ev = e.ev ∧ p.count = 1 ∧ p.frame = f.number ∧ p.tick = f.tick ∧
      p.code = e.code ∧ p.arg = e.arg ∧ p.src = e.src ∧ p.cls = e.cls) ∧
  (∀ (gen : Nat) (p : Pend), p.latched = false → p.ev < 64 → p.count < 256 → p.code < 65536 → p.frame < 2 ^ 48 →
    p.tick < 2 ^ 20 → p.arg < 2 ^ 32 →
    (p.record gen).type = 5 ∧ (p.record gen).cls = p.cls ∧ (p.record gen).src = p.src ∧
    (p.record gen).payload = [p.ev * 2 ^ 24 + p.count * 2 ^ 16 + p.code, p.frame % 2 ^ 32, p.frame / 2 ^ 32, p.tick, p.arg])

/-- EVENT_DELIVERY takes the oldest undelivered occurrence of the destination, where it has room: for the core its pending bit
is set and the occurrence stays until the claim; for the host one EVENT record in the session's generation joins the output
queue, asserting SIRQ; for the log it becomes due; for IO-Link and the powerline link it joins the link's queue; for M-Bus its
flag is set anew. EVENT_LOG_WRITE, outside the commit slot and with CE on, writes the first due occurrence as the entry of the
next SEQ at the head of the ring of 2048, whose CHAIN is the first 8 bytes of the new LOG_HEAD_HASH, the SHA-256 of the CHAIN
before it and the entry's first 24 bytes. An occurrence that BK latched carries the frame of its delivery. Without an occurrence, room or CE, and in the commit slot, nothing
changes. Nothing else of the device changes, but that an occurrence offered to the core may end WFI. -/
def Obligations.EventsReachTheirDestinations : Prop :=
  (∀ (d : Dest) (s : State), s.nextFor d = none ∨ s.hasRoom d = false → exec (.eventDelivery d) s = .next s) ∧
  (∀ (p : Pend) (s : State), s.nextFor .core = some p → s.hasRoom .core = true →
    Does (.eventDelivery .core) s fun t => t = { s with
      events := s.events.map fun x => if x = p then { p.delivered s.frame.number with offered := true } else x
      core := { s.core with wfi := t.core.wfi } }) ∧
  (∀ (p : Pend) (s : State), s.nextFor .host = some p → s.hasRoom .host = true →
    exec (.eventDelivery .host) s = .next { s with
      events := s.events.erase p
      q := { s.q with spiOut := s.q.spiOut ++ [{ record := (p.delivered s.frame.number).record (s.q.gen 1), sirq := true }] } }) ∧
  (∀ (p : Pend) (s : State), s.nextFor .log = some p → s.hasRoom .log = true →
    exec (.eventDelivery .log) s = .next { s with
      events := s.events.erase p, log := { s.log with due := s.log.due ++ [p.delivered s.frame.number] } }) ∧
  (∀ (p : Pend) (s : State), s.nextFor .iol = some p → s.hasRoom .iol = true →
    exec (.eventDelivery .iol) s = .next { s with
      events := s.events.erase p, iol := { s.iol with events := s.iol.events ++ [p.delivered s.frame.number] } }) ∧
  (∀ (p : Pend) (s : State), s.nextFor .pl = some p → s.hasRoom .pl = true →
    exec (.eventDelivery .pl) s = .next { s with
      events := s.events.erase p, pl := { s.pl with events := s.pl.events ++ [p.delivered s.frame.number] } }) ∧
  (∀ (p : Pend) (s : State), s.nextFor .mbus = some p → s.hasRoom .mbus = true →
    Does (.eventDelivery .mbus) s fun t =>
      t = { s with events := s.events.erase p, mbus := { s.mbus with flags := t.mbus.flags, shown := t.mbus.shown } } ∧
      t.mbus.flags = s.mbus.flags ||| 2 ^ (p.ev % 64) ∧ bitAt t.mbus.shown (p.ev % 64) = false) ∧
  (∀ s : State, s.log.due = [] ∨ s.frame.committing = true ∨ s.ceUp = false → exec .eventLogWrite s = .next s) ∧
  (∀ (p : Pend) (ps : List Pend) (s : State), s.log.due = p :: ps → s.frame.committing = false → s.ceUp = true →
    Does .eventLogWrite s fun t => ∃ e : LogEntry,
      t = { s with log := { s.log with due := ps, nextSeq := (s.log.nextSeq + 1) % 2 ^ 32, head := t.log.head,
                                       entries := (e :: s.log.entries).take 2048 } } ∧
      e.seq = s.log.nextSeq ∧
      e.body = leBytes 4 s.log.nextSeq ++ [p.ev, p.count % 256] ++ leBytes 2 p.code ++ leBytes 6 p.frame ++
        [p.src % 256, p.cls % 4 + flagAt p.latched 2] ++ leBytes 4 p.arg ++ leBytes 4 p.seconds ∧
      t.log.head = sha256 ((match s.log.entries with
        | [] => (sha256 (leBytes 8 Config.chipSerial)).take 8
        | x :: _ => x.chain) ++ e.body) ∧
      e.chain = t.log.head.take 8)

/-- BILLING_SNAPSHOT_WRITE, while a group waits whose commit is complete, writes the slots of the last min(COUNT, 24) snapshots
of the group from the record of the boundary that executed it: the slot of each SNAP_SEQ from SNAP_SEQ_NEXT less min(COUNT, 24) on, modulo 24, holds a sound snapshot with that
SNAP_SEQ and its CRC, the other slots stand, and no group waits any more. Apart from the slots, the queued records and the event
BILLING_CLOSE, the device is unchanged. With no group, or its commit not complete, nothing changes. -/
def Obligations.SnapshotsOfAGroupAreWritten : Prop :=
  (∀ s : State, s.bill.group = none ∨ s.qty.latest = none ∨ s.bill.groupDue = false → exec .billingSnapshotWrite s = .next s) ∧
  ∀ (g : Group) (b : Nat) (c0 c : Commit) (s : State),
    s.bill.group = some g → s.qty.latest = some (b, c0) → c = s.bill.executed c0 → s.bill.groupDue = true →
    s.bill.slots.length = 24 → c.bill.seqNext < 2 ^ 32 → 24 ≤ c.bill.seqNext → 0 < g.count →
    Does .billingSnapshotWrite s fun t =>
      t = { s with bill := { s.bill with slots := t.bill.slots, group := none, groupInsts := [], groupRec := none, groupDue := false }
                   q := t.q, events := t.events, bkLatches := t.bkLatches,
                   pwr := { s.pwr with state := t.pwr.state, res := t.pwr.res, wakePending := t.pwr.wakePending } } ∧
      (∀ i, i < min 24 g.count → ∃ x, t.bill.slots[(c.bill.seqNext - min 24 g.count + i) % 24]? = some x ∧
        x.holds (c.bill.seqNext - min 24 g.count + i) = true) ∧
      (∀ j, j < 24 → (∀ i, i < min 24 g.count → j ≠ (c.bill.seqNext - min 24 g.count + i) % 24) →
        t.bill.slots[j]? = s.bill.slots[j]?)

/-- SHOT_GROUP_START in a frame that measures, of a shot that the plan still holds: the first shot of a group, its admitted dynamic retry, or the
acquisition shot that is next; and RETRY_SLOT_START of a reserved slot, any state. The shot starts clear of the powerline pulses, with VHD to compare not before its latest
planned start. With standard pins alone, or VHD at the threshold, it leaves the plan and is in flight, the crossbar's routes are exactly its members',
and every member fires at F, 6 µs later: a new attempt under its number with SHOT_COUNT and, for a retry, RETRY_COUNT one higher, or its acquisition shot; the up direction
fires with the down one unless the member is sequential. With VHD below the threshold it is held, and no context changes. A slot
that no context asks for is left as slack. A shot past its latest start breaks the promise of its contexts. Nothing else changes but the calibrations, the pins and their supply, and what counting and
events change. With no such shot only the time moves. -/
def Obligations.ShotsStart : Prop :=
  (∀ (g due vhd : Nat) (kind : ShotKind) (cals : List CalReading) (s : State),
    (s.measuring = false ∨ s.plannedFor g kind = none →
      exec (.shotGroupStart g kind due vhd cals) s = .next (s.atCyc due)) ∧
    (∀ p : Planned, s.measuring = true → s.plannedFor g kind = some p →
      Does (.shotGroupStart g kind due vhd cals) s fun t => (s.atCyc (s.startTime p due)).Starts p vhd t)) ∧
  (∀ (g due vhd : Nat) (cals : List CalReading) (q : Option Planned) (s : State),
    q = s.frame.planned.find? (fun q => q.group == g && decide (1 ≤ q.kind) && decide (q.kind ≤ 3)) →
    (q = none → exec (.retrySlotStart g due vhd cals) s = .next (s.atCyc due)) ∧
    (∀ p : Planned, q = some p →
      Does (.retrySlotStart g due vhd cals) s fun t => (s.atCyc (s.startTime p due)).Starts p vhd t))

/-- VHD_RECOVERED of a held shot: it fires at the moment of the recovery, is in flight and no longer held, each member listed once has its attempt or
acquisition shot under way, and the cause of the restoration is 3; with no other work left in the frame the promises it breaks are those of its own contexts, where it fires
after its latest start. HELD_SHOT_GIVEN_UP of one that can no longer end by E_k: it is no longer in flight, each of its members is given up in the frame unless it was an acquisition shot,
and the broken promises count one for each member; while it can still end only the time moves. REVERSE_TRANSMISSION of a sequential context whose down direction has fired and
whose up direction has not fires the up direction at F2, where that has come, whatever VHD is, and else only the time moves. VSD_PUMP_SETTLED with AF on puts VSD_LEVEL in force and shows
VSD in tolerance, and a droop beyond 5% until it is read; with AF off the pump is off and nothing changes. -/
def Obligations.HeldShotsFireOrAreGivenUp : Prop :=
  (∀ (g cyc : Nat) (s : State), s.heldFlight g = none →
    exec (.vhdRecovered g cyc) s = .next (s.atCyc cyc) ∧ exec (.heldShotGivenUp g cyc) s = .next (s.atCyc cyc)) ∧
  (∀ (g cyc : Nat) (f : Flight) (u s : State), s.heldFlight g = some f → u = s.atCyc cyc →
    Does (.vhdRecovered g cyc) s fun t =>
      { f with start := u.frame.cyc - 384, held := false } ∈ t.ac.flight ∧ f ∉ t.ac.flight ∧ t.frame.cause = 3 ∧
      t.frame.cyc = u.frame.cyc ∧
      (∀ n, n < 64 → f.members.count n = 1 → u.ac.ctx.length = 64 →
        Ctx.FiredAt (500 * u.frame.cyc) (decide (f.kind = 4)) (decide (f.kind = 5)) (ctxSequential u.eff n)
          (u.ac.ctxAt n) (t.ac.ctxAt n)) ∧
      (u.frame.planned = [] → u.frame.waiting = [] →
        t.ledger.broken = brokenBy (decide (f.latest < u.frame.cyc)) f.members u.ledger.broken) ∧
      CountsOnly { u with
        frame := t.frame, ledger := { u.ledger with broken := t.ledger.broken }
        ac := { u.ac.shotFrom t.ac with waves := t.ac.waves, waveSkipped := t.ac.waveSkipped }
        disp := { u.disp with regions := t.disp.regions }, core := { u.core with withheld := t.core.withheld } } t) ∧
  (∀ (g cyc : Nat) (f : Flight) (u s : State), s.heldFlight g = some f → u = s.atCyc cyc →
    (u.frame.nowQ + costGroup u.eff f.members ≤ u.limit + 48000 → exec (.heldShotGivenUp g cyc) s = .next u) ∧
    (u.limit + 48000 < u.frame.nowQ + costGroup u.eff f.members →
      Does (.heldShotGivenUp g cyc) s fun t =>
        t.ac.flight = u.ac.flight.filter (fun q => q != f) ∧
        (f.kind ≠ 4 → u.ac.ctx.length = 64 → ∀ n ∈ f.members, n < 64 → (t.ac.ctxAt n).givenUp = true) ∧
        (f.kind = 4 → t.ac.ctx = u.ac.ctx) ∧
        (∀ n, n ∉ f.members → t.ac.ctxAt n = u.ac.ctxAt n) ∧
        t.ledger.broken = min (2 ^ 32 - 1) (u.ledger.broken + (ascending f.members).length) ∧
        CountsOnly { u with
          frame := { u.frame with flowStarted := t.frame.flowStarted, flowCyc := t.frame.flowCyc }
          ledger := { u.ledger with broken := t.ledger.broken }, pwr := u.pwr.switchOff 1
          ac := { u.ac with ctx := t.ac.ctx, flight := t.ac.flight } } t)) ∧
  (∀ (n cyc : Nat) (acq : Bool) (s : State),
    ctxSequential s.eff n = false ∨ (s.ac.ctxAt n).attempt acq = none ∨
        (∃ a, (s.ac.ctxAt n).attempt acq = some a ∧
          (a.dn.fired = false ∨ a.up.fired = true ∨ cyc < cycOf32 (reverseAt s.eff n a.dn.at_))) →
      exec (.reverseTransmission n acq cyc) s = .next (s.atCyc cyc)) ∧
  (∀ (n cyc : Nat) (c : Ctx) (a : Attempt) (s : State), s.ac.ctx[n]? = some c →
    (ctxSequential s.eff n = true → a.dn.fired = true → a.up.fired = false → cycOf32 (reverseAt s.eff n a.dn.at_) ≤ cyc →
      (c.acq = some a →
        Does (.reverseTransmission n true cyc) s fun t =>
          t = { s.atCyc (cycOf32 (reverseAt s.eff n a.dn.at_)) with ac := { (s.atCyc (cycOf32 (reverseAt s.eff n a.dn.at_))).ac with ctx := t.ac.ctx } } ∧
          t.ac.ctx[n]? = some { c with acq := some { a with up := { a.up with fired := true, at_ := reverseAt s.eff n a.dn.at_ } } } ∧
          ∀ m, m ≠ n → t.ac.ctx[m]? = s.ac.ctx[m]?) ∧
      (c.current = some a →
        Does (.reverseTransmission n false cyc) s fun t =>
          t = { s.atCyc (cycOf32 (reverseAt s.eff n a.dn.at_)) with ac := { (s.atCyc (cycOf32 (reverseAt s.eff n a.dn.at_))).ac with ctx := t.ac.ctx } } ∧
          t.ac.ctx[n]? = some { c with current := some { a with up := { a.up with fired := true, at_ := reverseAt s.eff n a.dn.at_ } } } ∧
          ∀ m, m ≠ n → t.ac.ctx[m]? = s.ac.ctx[m]?))) ∧
  (∀ (droop : Bool) (s : State),
    ((s.pwr.dom 0).on = false → exec (.vsdPumpSettled droop) s = .next s) ∧
    ((s.pwr.dom 0).on = true →
      Does (.vsdPumpSettled droop) s fun t =>
        t.on_ 0x0801 1 = s.at_ 0x0801 1 ∧ (∀ k, k ≠ key 0x0801 1 → t.eff k = s.eff k) ∧ t.get = s.get ∧
        t = { s with set := { s.set with eff := t.set.eff }
                     ac := { s.ac with vsdGood := true, vsdDroop := s.ac.vsdDroop || droop } }))

/-- WINDOW_CLOSE of a direction that has fired and is not closed closes it at the time that its window ends, and keeps, for the chain that received it, the first WIN_LEN
samples clamped to 12 bits, with the opposite sign where the receiving pin has INVERT set; it changes only the frame's plan, the acoustic blocks and what counting and events
change. A direction that has not fired or is closed leaves it without effect. TDC_COUNT_WRAP of a short window and TDC_STOP_TIMEOUT of a long one
mark the direction as missing, count it in its own counter, saturating, and change nothing else beside events and counting; neither acts on the other kind of window. TM_INPUT_CALIBRATION
of input 17 or 18 enters the stops since the calibration before, keeps the two readings and their difference
where R1 + 448 ≤ R2 ≤ R1 + 576, with the input no longer marked faulty, and does nothing of another input. -/
def Obligations.WindowsCloseAndAreJudged : Prop :=
  (∀ (n : Nat) (up acq : Bool) (samples : List Int) (seen : WindowSeen) (s : State),
    ((s.ac.ctxAt n).attempt acq = none ∨
        (∃ a, (s.ac.ctxAt n).attempt acq = some a ∧ ((a.dir up).fired = false ∨ (a.dir up).closed = true)) →
      exec (.windowClose n up acq samples seen) s = .next s) ∧
    (∀ (a : Attempt) (u : State), (s.ac.ctxAt n).attempt acq = some a → (a.dir up).fired = true → (a.dir up).closed = false →
      u = s.atCyc ((a.dir up).closeCyc s.eff n) →
      Does (.windowClose n up acq samples seen) s fun t =>
        (∃ xs, t.ac.captures = setAt s.ac.captures (a.dir up).chain xs ∧ xs.length = ctxWinLen s.eff n ∧
          ∀ i, i < ctxWinLen s.eff n → xs[i]? = some
            (let x := max (-2048) (min 2047 (samples.getD i 0))
             if pinInvert s.eff (rxPin s.eff n up) then max (-2048) (min 2047 (-x)) else x)) ∧
        (s.ac.ctx.length = 64 → n < 64 →
          ∃ b, (t.ac.ctxAt n).attempt acq = some b ∧ (b.dir up).closed = true ∧ (b.dir up).closedAt = u.frame.cyc ∧
            (b.dir (!up)).closed = (a.dir (!up)).closed) ∧
        CountsOnly { u with frame := t.frame, ac := t.ac } t)) ∧
  (∀ (n late cyc : Nat) (up acq : Bool) (s : State),
    (65535 < ctxWs s.eff n + ctxWl s.eff n → exec (.tdcCountWrap n up acq late cyc) s = .next s) ∧
    (ctxWs s.eff n + ctxWl s.eff n ≤ 65535 → exec (.tdcStopTimeout n up acq cyc) s = .next s) ∧
    (∀ (a : Attempt) (u : State), (s.ac.ctxAt n).attempt acq = some a → (a.dir up).fired = true → (a.dir up).closed = false →
      (a.dir up).missing = false → n < 64 → s.ac.ctx.length = 64 → u = s.atCyc cyc →
      (ctxWs s.eff n + ctxWl s.eff n ≤ 65535 →
        Does (.tdcCountWrap n up acq late cyc) s fun t =>
          t.ac.overflows = min (2 ^ 32 - 1) (s.ac.overflows + 1) ∧
          (t.ac.ctxAt n).attempt acq = some (a.setDir up { a.dir up with missing := true }) ∧
          (∀ k, k ≠ n → t.ac.ctxAt k = s.ac.ctxAt k) ∧
          CountsOnly { u with ac := { u.ac with ctx := t.ac.ctx, overflows := t.ac.overflows } } t) ∧
      (65535 < ctxWs s.eff n + ctxWl s.eff n →
        Does (.tdcStopTimeout n up acq cyc) s fun t =>
          t.ac.timeouts = min (2 ^ 32 - 1) (s.ac.timeouts + 1) ∧
          (t.ac.ctxAt n).attempt acq = some (a.setDir up { a.dir up with missing := true }) ∧
          (∀ k, k ≠ n → t.ac.ctxAt k = s.ac.ctxAt k) ∧
          CountsOnly { u with ac := { u.ac with ctx := t.ac.ctx, timeouts := t.ac.timeouts } } t))) ∧
  (∀ (c : CalReading) (stops : List (Nat × Nat)) (s : State),
    (c.input ≠ 17 → c.input ≠ 18 → exec (.tmInputCalibration ⟨c, stops⟩) s = .next s) ∧
    (c.input = 17 ∨ c.input = 18 →
      Does (.tmInputCalibration ⟨c, stops⟩) s fun t =>
        t.ac = { s.ac.calibrate c with gate17 := t.ac.gate17, gate18 := t.ac.gate18 } ∧
        (c.input = 17 → t.ac.gate17 = gateCal (calOutcome c).1 (gateStops stops s.ac.gate17) ∧ t.ac.gate18 = s.ac.gate18) ∧
        (c.input = 18 → t.ac.gate18 = gateCal (calOutcome c).1 s.ac.gate18 ∧ t.ac.gate17 = s.ac.gate17) ∧
        (c.r1 + 448 ≤ c.r2 → c.r2 ≤ c.r1 + 576 →
          t.ac.calR = setAt s.ac.calR c.input (c.r1, c.r2) ∧ t.ac.calGain = setAt s.ac.calGain c.input (c.r2 - c.r1) ∧
          t.ac.calFaulty = s.ac.calFaulty.filter (fun i => i != c.input) ∧ t.ac.calFaults = s.ac.calFaults) ∧
        CountsOnly { s with ac := t.ac } t))

/-- CORRELATION_COMPLETE of a closed direction that passed its early gates: the attempt's direction has been correlated, and
only the contexts, the frame's plan and what counting and events change differ; without such a direction only the time moves. ACQUISITION_SEARCH_COMPLETE of an acquisition shot
with both windows closed: the context has no acquisition shot under way any more; where the search finds the signal in both
directions its request ends, and else it stays; every other context stands. WAVEFORM_COPY_COMPLETE of an admitted copy:
the copy is over and one WAVEFORM record of the context, CLASS 2, is offered to the queues; without one only the time moves. -/
def Obligations.SearchesAndCopiesComplete : Prop :=
  (∀ (n cyc : Nat) (up : Bool) (s u : State), u = s.atCyc cyc →
    ((s.ac.ctxAt n).current = none ∨ (∃ a, (s.ac.ctxAt n).current = some a ∧
        ((a.dir up).closed = false ∨ (a.dir up).correlated = true ∨ (a.dir up).reason ≠ 0)) →
      exec (.correlationComplete n up cyc) s = .next u) ∧
    (∀ a : Attempt, n < 64 → s.ac.ctx.length = 64 → (s.ac.ctxAt n).current = some a →
      (a.dir up).closed = true → (a.dir up).correlated = false → (a.dir up).reason = 0 →
      Does (.correlationComplete n up cyc) s fun t =>
        (∃ b, (t.ac.ctxAt n).current = some b ∧ (b.dir up).correlated = true ∧ b.number = a.number) ∧
        t.frame.corFree = u.frame.cyc ∧
        (∀ m, m ≠ n → (t.ac.ctxAt m).current = (s.ac.ctxAt m).current) ∧
        CountsOnly { u with frame := t.frame, ac := { u.ac with ctx := t.ac.ctx } } t)) ∧
  (∀ (n cyc : Nat) (a : Attempt) (s u : State),
    n < 64 → s.ac.ctx.length = 64 → (s.ac.ctxAt n).acq = some a → a.up.closed = true → a.dn.closed = true → u = s.atCyc cyc →
    Does (.acquisitionSearchComplete n cyc) s fun t =>
      (t.ac.ctxAt n).acq = none ∧ (t.ac.ctxAt n).current = (s.ac.ctxAt n).current ∧
      ((t.ac.ctxAt n).everFound = true → (t.ac.ctxAt n).acqRequested = false) ∧
      ((t.ac.ctxAt n).everFound = false → (t.ac.ctxAt n).acqRequested = (s.ac.ctxAt n).acqRequested) ∧
      (a.up.reason ≠ 0 ∨ a.dn.reason ≠ 0 → (t.ac.ctxAt n).everFound = false) ∧
      (∀ m, m ≠ n → t.ac.ctxAt m = s.ac.ctxAt m) ∧
      CountsOnly { u with
        frame := { u.frame with workSlots := t.frame.workSlots, corFree := u.frame.cyc }, ac := { u.ac with ctx := t.ac.ctx } } t) ∧
  (∀ (n cyc : Nat) (up : Bool) (s u : State), u = s.atCyc cyc →
    ((∀ w ∈ s.ac.waves, w.ctx ≠ n ∨ w.up ≠ up) → exec (.waveformCopyComplete n up cyc) s = .next u) ∧
    ((∃ w ∈ s.ac.waves, w.ctx = n ∧ w.up = up) →
      Does (.waveformCopyComplete n up cyc) s fun t =>
        t = { u with
          frame := { u.frame.finish (waveJob n up) with corFree := u.frame.cyc }
          ac := { u.ac with waves := s.ac.waves.filter fun x => x.ctx != n || x.up != up }, q := t.q } ∧
        ∃ r : Record, r.type = 9 ∧ r.cls = 2 ∧ r.src = n ∧ r.frame = s.frame.number % 65536 ∧
          t.q = ((s.q.resultHost (s.on_ 0x1810 1) true r).resultCore (s.on_ 0x1D01 4) r)))

/-- SENSOR_JOB_START in a frame that measures, clear of powerline pulses, with no job under way and a row to run: the row
leaves the list and a job of it is under way at its reference, with the ports that the row names and whose TYPE is not 0 left to
measure; else only the time moves. DISCHARGE_STOP that comes before its measurement has ended, of the reference, at least 2.0 ns after its start and within tolerance: the job keeps its time, passes to
its first port, or is over where none is left, and no value changes; a later one, and one with no job, changes nothing. DISCHARGE_STOP_LIMIT of the reference: the measurement counts as an overflow of a short
window or a time-out of a long one, the reference has code 1, SENSOR_FAULTS counts it, and with no port left the job is over.
PLL_LOCK_LOST with no job under way leaves the sensors. Beside these, only the
calibrations of input 16 and what counting and events change differ. -/
def Obligations.DischargesAreTimed : Prop :=
  (∀ (due : Nat) (cal : CalReading) (s u : State), u = s.atCyc (s.heldStart (us (dischargeUs s.eff (s.on_ 0x0B08 1) + 10)) due) →
    (s.measuring = false ∨ s.sen.job.isSome = true ∨ s.sen.rows = [] → exec (.sensorJobStart due cal) s = .next u) ∧
    (∀ (r : Nat) (rs : List Nat), s.measuring = true → s.sen.job = none → s.sen.rows = r :: rs →
      Does (.sensorJobStart due cal) s fun t =>
        (∃ j, t.sen = { s.sen with rows := rs, job := some j } ∧ j.start = u.frame.cyc ∧ j.since = u.frame.cyc ∧ j.row = r ∧
          j.current = none ∧ j.left = (List.range 4).filter (fun i => bitAt (planRow s.eff r) i && portType s.eff i != 0) ∧
          (cal.r1 + 448 ≤ cal.r2 → cal.r2 ≤ cal.r1 + 576 → j.r1 = cal.r1 ∧ j.r2 = cal.r2 ∧ j.faulty = false)) ∧
        CountsOnly { u with sen := t.sen
                            ac := { u.ac with calR := t.ac.calR, calGain := t.ac.calGain, calFaulty := t.ac.calFaulty,
                                              calFaults := t.ac.calFaults } } t)) ∧
  (∀ (stop first : Nat × Nat) (again : Option (Nat × Nat)) (late : Nat) (s : State), s.sen.job = none →
    exec (.dischargeStop stop first again) s = .next s ∧ exec (.dischargeStopLimit late first again) s = .next s) ∧
  (∀ (stop first : Nat × Nat) (again : Option (Nat × Nat)) (j : SensorJob) (s u : State), s.sen.job = some j → u = s.atCyc (j.stopCyc stop.1) →
    (stopTaken (stopLimit s.eff j.current) stop.1 = false → exec (.dischargeStop stop first again) s = .next s) ∧
    (stopTaken (stopLimit s.eff j.current) stop.1 = true → j.current = none → j.faulty = false →
      131072 ≤ stampTime j.r1 j.r2 stop →
      (let nominal : Rat := quo ((s.on_ 0x0B08 1 * s.on_ 0x0B08 2 : Nat) : Rat) 1000000 * 65536
       absR (((stampTime j.r1 j.r2 stop).toNat : Rat) - nominal) * 1000000 ≤ nominal * (s.on_ 0x0B08 3 : Rat)) →
      Does (.dischargeStop stop first again) s fun t =>
        (∀ (i : Nat) (is : List Nat), j.left = i :: is →
          ∃ k, t.sen = { s.sen with refArmed := true, job := some k } ∧ k.tref = (stampTime j.r1 j.r2 stop).toNat ∧ k.refCode = 0 ∧
            k.current = some i ∧ k.left = is ∧ k.start = j.start ∧ k.row = j.row ∧ k.since = u.frame.cyc) ∧
        (j.left = [] → t.sen = { s.sen with refArmed := true, job := none }) ∧
        CountsOnly { u with sen := t.sen
                            ac := { u.ac with calR := t.ac.calR, calGain := t.ac.calGain, calFaulty := t.ac.calFaulty,
                                              calFaults := t.ac.calFaults } } t)) ∧
  (∀ (late : Nat) (first : Nat × Nat) (again : Option (Nat × Nat)) (j : SensorJob) (s u : State),
    s.sen.job = some j → j.current = none → j.left = [] → u = s.atCyc (j.stopCyc (stopLimit s.eff none)) →
    Does (.dischargeStopLimit late first again) s fun t =>
      t.sen = { s.sen with limitHit := true, faults := min (2 ^ 32 - 1) (s.sen.faults + 1), refArmed := false, job := none } ∧
      CountsOnly { u with
        sen := t.sen
        ac := if stopLimit s.eff none ≤ 65535 then { u.ac with overflows := min (2 ^ 32 - 1) (s.ac.overflows + 1) }
              else { u.ac with timeouts := min (2 ^ 32 - 1) (s.ac.timeouts + 1) } } t) ∧
  (∀ (cyc : Nat) (pll : Bool) (cal : CalReading) (s u : State), s.sen.job = none → u = s.atCyc cyc →
    Does (.pllLockLost cyc pll cal) s fun t =>
      t.sen = s.sen ∧ t.ac.dllLocked = false ∧ t.ac.pllLocked = (s.ac.pllLocked && !pll) ∧
      CountsOnly { u with frame := t.frame, ac := t.ac } t)

/-- PLL_LOCK_LOST: every direction of every member of a shot in flight is marked as having lost lock, whether it has fired, is
being measured or is closed, and one that had passed its correlation fails with FUSION and has no time; an attempt of no shot in flight keeps its marks. Where a sensor
job measures a port and has none left to measure, its value takes code 6, its last value stays, and the job is over. -/
def Obligations.ADirectionMeasuredWithoutLockFails : Prop :=
  (∀ (cyc n : Nat) (pll : Bool) (cal : CalReading) (s u : State), n < 64 → s.ac.ctx.length = 64 → s.sen.job = none → u = s.atCyc cyc →
    Does (.pllLockLost cyc pll cal) s fun t =>
      (∀ (f : Flight) (a : Attempt), f ∈ s.ac.flight → f.held = false → n ∈ f.members → f.kind ≠ 4 → (s.ac.ctxAt n).current = some a →
        ∃ b, (t.ac.ctxAt n).current = some b ∧ b.number = a.number ∧
          ∀ up : Bool, (b.dir up).lockLost = true ∧
            ((a.dir up).closed = true → (a.dir up).correlated = true → (a.dir up).reason = 0 →
              (b.dir up).reason = 8 ∧ (b.dir up).hasTime = false)) ∧
      (∀ (f : Flight) (a : Attempt), f ∈ s.ac.flight → f.held = false → n ∈ f.members → f.kind = 4 → (s.ac.ctxAt n).acq = some a →
        ∃ b, (t.ac.ctxAt n).acq = some b ∧ ∀ up : Bool, (b.dir up).lockLost = true) ∧
      (∀ a : Attempt, (∀ f ∈ s.ac.flight, f.held = true ∨ n ∉ f.members) → (s.ac.ctxAt n).current = some a →
        ∃ b, (t.ac.ctxAt n).current = some b ∧ ∀ up : Bool, (b.dir up).lockLost = (a.dir up).lockLost) ∧
      CountsOnly { u with frame := t.frame, ac := t.ac } t) ∧
  (∀ (cyc i : Nat) (pll : Bool) (cal : CalReading) (j : SensorJob) (v : Sensed) (s u : State),
    s.sen.job = some j → j.current = some i → j.left = [] → s.sen.vals[i]? = some v → u = s.atCyc cyc →
    Does (.pllLockLost cyc pll cal) s fun t =>
      t.sen.job = none ∧ t.sen.faults = min (2 ^ 32 - 1) (s.sen.faults + 1) ∧
      t.sen.vals[i]? = some { v with code := 6, run := v.run + 1, armed := false, measured := true, updated := true } ∧
      (∀ k, k ≠ i → t.sen.vals[k]? = s.sen.vals[k]?) ∧
      CountsOnly { u with frame := t.frame, ac := t.ac
                          sen := { s.sen with job := none, faults := t.sen.faults, vals := t.sen.vals } } t)

/-- PRESSURE_CONVERSION_START in a pressure frame starts excitation, once. PRESSURE_CONVERSION_COMPLETE while exciting ends
it and keeps the code clamped to 24 bits; a fault the converter found, 1, 2 or 6, is the code of the pressure, whose last value
stays; a pressure inside its limits is the value, with code 0. INTERNAL_TEMP_CONVERSION at a second that INT_TEMP_PERIOD divides
gives the internal temperature in steps of 10 mK, or code 6 where the self-test fails; at any other second nothing happens.
FLOW_COMPUTATION_COMPLETE in a frame that measures and whose computation has started, or may start, completes the frame's flow once, and
changes only the flow engine, the work of the frame and what counting and events change. Else only the time moves. -/
def Obligations.PressureAndInternalTemperature : Prop :=
  (∀ (cyc : Nat) (s : State),
    exec (.pressureConversionStart cyc) s = .next { s.atCyc cyc with
      sen := { s.sen with exciting := s.sen.exciting || (s.pressureFrame && !s.sen.converted) } }) ∧
  (∀ (cyc cond : Nat) (code : Int) (s : State), s.sen.exciting = false →
    exec (.pressureConversionComplete cyc code cond) s = .next (s.atCyc cyc)) ∧
  (∀ (cyc cond : Nat) (code : Int) (v : Sensed) (s u : State), u = s.atCyc cyc → s.sen.exciting = true →
    s.sen.vals[4]? = some v →
    Does (.pressureConversionComplete cyc code cond) s fun t =>
      t.sen.exciting = false ∧ t.sen.converted = true ∧ t.sen.raw = max (-8388608) (min 8388607 code) ∧
      (cond = 1 ∨ cond = 2 ∨ cond = 6 →
        t.sen.vals[4]? = some { v with code := cond, run := v.run + 1, armed := false, measured := true, updated := true } ∧
        t.sen.faults = min (2 ^ 32 - 1) (s.sen.faults + 1)) ∧
      (∀ pa, s.pressureOutcome (max (-8388608) (min 8388607 code)) cond = (0, pa) →
        t.sen.vals[4]? = some { v with code := 0, value := pa, run := 0, armed := true, measured := true, named8 := false,
                                       updated := true, history := [] } ∧
        t.sen.faults = s.sen.faults) ∧
      (∀ k, k ≠ 4 → t.sen.vals[k]? = s.sen.vals[k]?) ∧
      EventsOnly { u with sen := { s.sen with exciting := false, converted := true, raw := t.sen.raw, vals := t.sen.vals,
                                              faults := t.sen.faults } } t) ∧
  (∀ (mk : Int) (selfTest : Bool) (v : Sensed) (s : State), s.sen.vals[5]? = some v →
    (s.pwr.aoDown = false → s.cal.seconds % (max 1 (s.on_ 0x0B40 2)) = 0 →
      Does (.internalTempConversion mk selfTest) s fun t =>
        (selfTest = true → t.sen.vals[5]? = some { v with
          code := 0, value := fitS 32 (tenths mk), run := 0, armed := true, measured := true, named8 := false, updated := true,
          history := [] }) ∧
        (selfTest = false → t.sen.vals[5]? = some { v with
          code := 6, run := v.run + 1, armed := false, measured := true, updated := true } ∧
          t.sen.faults = min (2 ^ 32 - 1) (s.sen.faults + 1)) ∧
        EventsOnly { s with sen := { s.sen with vals := t.sen.vals, faults := t.sen.faults }
                            cal := { s.cal with rate := t.cal.rate }, disp := t.disp } t) ∧
    (s.pwr.aoDown = true ∨ s.cal.seconds % (max 1 (s.on_ 0x0B40 2)) ≠ 0 → exec (.internalTempConversion mk selfTest) s = .next s)) ∧
  (∀ (cyc : Nat) (s u : State), u = s.atCyc cyc →
    (s.measuring = false ∨ s.frame.flowDone = true ∨ (s.frame.flowStarted = false ∧ s.flowReady = false) →
      exec (.flowComputationComplete cyc) s = .next u) ∧
    (s.measuring = true → s.frame.flowDone = false → s.frame.flowStarted = true ∨ s.flowReady = true →
      Does (.flowComputationComplete cyc) s fun t =>
        t.frame = { u.frame with flowStarted := true, flowDone := true, workSlots := t.frame.workSlots } ∧
        t.flow.out.isSome = true ∧ CountsOnly { u with frame := t.frame, flow := t.flow } t))

/-- With u the state at the command's time. HF_CRYSTAL_READY of a sound crystal, or one on trial, with TM on and a crystal called for: it is ready, and
where it is the reference the PLL and the DLLs lock; later than 100 µs in a frame that measures, the frame's jobs are laid anew from 30 µs on
with CAUSE 1. A failed crystal that is tried goes on trial; where TM is off, no crystal is called for or 2 ms have passed, only the time moves.
CRYSTAL_READY_TIMEOUT, 2 ms after TM was switched on, of a crystal called for that is not ready: it is failed, its retry count starts, the
reference is the HF RC with the fallback counted, and the PLL locks to it; with nothing to fail or give up, nothing else changes. A failed crystal that was tried is tried no more; earlier, or
with a crystal that is ready, only the time moves. CRYSTAL_RETRY starts a failed crystal whose retry count has ended, and else does nothing. -/
def Obligations.CrystalStartsFailsAndIsRetried : Prop :=
  (∀ (cyc ready : Nat) (s u : State), u = s.atCyc cyc →
    ((s.on_ 0x0400 1 = 2 ∧ s.mode ≠ .taper) ∨ 2000 < ready ∨ (u.pwr.dom 2).on = false →
      exec (.hfCrystalReady cyc ready) s = .next u) ∧
    (s.on_ 0x0400 1 ≠ 2 ∨ s.mode = .taper → ready ≤ 2000 → (u.pwr.dom 2).on = true →
      (u.clk.hfxFailed = true → u.clk.trial = false →
        exec (.hfCrystalReady cyc ready) s =
          .next (if u.clk.trying then { u with clk := { u.clk with hfxReady := true, trying := false, trialReady := true } } else u)) ∧
      (u.clk.hfxFailed = false ∨ u.clk.trial = true → ready ≤ 100 ∨ u.measuring = false →
        Does (.hfCrystalReady cyc ready) s
          (CountsOnly { u with clk := { u.clk with hfxReady := true }
                               ac := if u.clk.ref = 0 then { u.ac with pllLocked := true, dllLocked := true } else u.ac })) ∧
      (u.clk.hfxFailed = false ∨ u.clk.trial = true → 100 < ready → u.measuring = true →
        Does (.hfCrystalReady cyc ready) s fun t =>
          t.clk = { u.clk with hfxReady := true } ∧ (u.clk.ref = 0 → t.ac.pllLocked = true ∧ t.ac.dllLocked = true) ∧
          t.frame.cause = 1 ∧ (∀ p ∈ t.frame.planned, u.frame.nowQ + us 30 ≤ p.start)))) ∧
  (∀ (cyc : Nat) (s u : State), u = s.atCyc cyc →
    (u.frame.now < (u.pwr.dom 2).since + usNow 2000 → exec (.crystalReadyTimeout cyc) s = .next u) ∧
    ((u.pwr.dom 2).since + usNow 2000 ≤ u.frame.now →
      (u.clk.hfxFailed = true → u.clk.trial = false →
        exec (.crystalReadyTimeout cyc) s = .next { u with clk := { u.clk with trying := false } }) ∧
      (u.clk.hfxFailed = false ∨ u.clk.trial = true →
        (u.clk.hfxReady = true ∨ (s.on_ 0x0400 1 = 2 ∧ s.mode ≠ .taper) ∨ (u.pwr.dom 2).on = false →
          exec (.crystalReadyTimeout cyc) s = .next u) ∧
        (u.clk.hfxReady = false → s.on_ 0x0400 1 ≠ 2 ∨ s.mode = .taper → (u.pwr.dom 2).on = true →
          Does (.crystalReadyTimeout cyc) s
            (u.FellBack { u.clk with hfxFailed := true, retryIn := s.on_ 0x0400 4 }))))) ∧
  (∀ s : State,
    (s.clk.hfxFailed = true → s.clk.trial = false → s.clk.trialReady = false → s.clk.retryIn = 0 →
      exec .crystalRetry s = .next { s with clk := { s.clk with trying := true, retryIn := s.on_ 0x0400 4 } }) ∧
    (s.clk.hfxFailed = false ∨ s.clk.trial = true ∨ s.clk.trialReady = true ∨ s.clk.retryIn ≠ 0 →
      exec .crystalRetry s = .next s))

/-- With the heater on, OCXO_GATE_END of n OCXO cycles in c coarse periods keeps the gate's end and frequency error, in WICK too, and until
eight gates are kept nothing else; with the heater off only the time moves. With eight, a cold OCXO whose drift has been within OCXO_DRIFT_MAX in as many gates as asked
is warm, and one beyond it begins again; a warm one beyond four times that in two consecutive gates is not, and nothing but events differs beside the OCXO's own
readings. OCXO_EDGE_LOST of a warm OCXO: it is cold, the reference is the HF RC and the fallback is counted; of a cold one only the time moves. LF_CRYSTAL_STOPPED
with AO powered: the RTC clock runs on the LF RC and the calendar's time is uncertain. -/
def Obligations.OcxoIsMeasuredWarmedAndLost : Prop :=
  (∀ (cyc n c : Nat) (s u : State), u = { s with frame := s.frame.at_ cyc } →
    (s.heater = false → exec (.ocxoGateEnd cyc n c) s = .next u) ∧
    (s.heater = true → s.clk.gates.length ≤ 6 →
      exec (.ocxoGateEnd cyc n c) s = .next { u with
        clk := { s.clk with gates := (u.frame.now, fitS 32 (gateError n c)) :: s.clk.gates
                            freqErr := fitS 32 (gateError n c) } }) ∧
    (∀ (d : Rat) (k : Clocks), s.heater = true →
      driftOf (((u.frame.now, fitS 32 (gateError n c)) :: s.clk.gates).take 8) = some d →
      k = { s.clk with gates := ((u.frame.now, fitS 32 (gateError n c)) :: s.clk.gates).take 8
                       freqErr := fitS 32 (gateError n c), drift := fitS 32 (roundAway d) } →
      (s.clk.ocxoWarm = false → absR d ≤ (s.on_ 0x0402 1 : Rat) → s.on_ 0x0402 3 ≤ s.clk.warmCount + 1 →
        Does (.ocxoGateEnd cyc n c) s
          (EventsOnly { u with clk := { k with ocxoWarm := true, overDrift := 0, warmCount := s.clk.warmCount + 1 } })) ∧
      (s.clk.ocxoWarm = false → absR d ≤ (s.on_ 0x0402 1 : Rat) → s.clk.warmCount + 1 < s.on_ 0x0402 3 →
        exec (.ocxoGateEnd cyc n c) s = .next { u with clk := { k with warmCount := s.clk.warmCount + 1 } }) ∧
      (s.clk.ocxoWarm = false → (s.on_ 0x0402 1 : Rat) < absR d → 0 < s.on_ 0x0402 3 →
        exec (.ocxoGateEnd cyc n c) s = .next { u with clk := { k with warmCount := 0 } }) ∧
      (s.clk.ocxoWarm = true → absR d ≤ 4 * (s.on_ 0x0402 1 : Rat) →
        exec (.ocxoGateEnd cyc n c) s = .next { u with clk := { k with overDrift := 0 } }) ∧
      (s.clk.ocxoWarm = true → 4 * (s.on_ 0x0402 1 : Rat) < absR d → s.clk.overDrift = 0 →
        exec (.ocxoGateEnd cyc n c) s = .next { u with clk := { k with overDrift := 1 } }) ∧
      (s.clk.ocxoWarm = true → 4 * (s.on_ 0x0402 1 : Rat) < absR d → 1 ≤ s.clk.overDrift →
        Does (.ocxoGateEnd cyc n c) s
          (EventsOnly { u with clk := { k with ocxoWarm := false, overDrift := 0, warmCount := 0 } })))) ∧
  (∀ (cyc : Nat) (s u : State), u = s.atCyc cyc →
    (u.clk.ocxoWarm = false → exec (.ocxoEdgeLost cyc) s = .next u) ∧
    (u.clk.ocxoWarm = true →
      Does (.ocxoEdgeLost cyc) s (u.FellBack { u.clk with ocxoWarm := false, overDrift := 0 }))) ∧
  (∀ s : State,
    (s.clk.rtcOnLfrc = true ∨ s.pwr.aoDown = true → exec .lfCrystalStopped s = .next s) ∧
    (s.clk.rtcOnLfrc = false → s.pwr.aoDown = false →
      Does .lfCrystalStopped s fun t =>
        (t.events.any fun p => p.is .log 38) = true ∧
        EventsOnly { s with clk := { s.clk with rtcOnLfrc := true }, cal := { s.cal with uncertain := true } } t))

/-- CALENDAR_SECOND: what is left of the second passes (u), which changes the slow counters alone, and its edge comes: the seconds counter advances by one modulo 2^48, the prescaler begins again with
the steps that were waiting, and CALEND is set past the last supported
second. With the rules off and no alarm that is all; an alarm set for the new second fires and moves on by its period; with the
rules on, inside the range and without an alarm, the DST flag turns on at the forward moment and off at the back moment of summer time. TRIM_WINDOW_START takes n, the rate in force
over 8 388 608 periods with the carry, rounded, as the corrections of the window, and keeps the rest as the carry; periods already passed count in the new window. -/
def Obligations.TheCalendarAdvances : Prop :=
  (∀ s u : State, u = (s.elapse).runTicks (s.elapse).cal.periodsLeft →
    u.cal.seconds = s.cal.seconds ∧ Ticked { s with frame := u.frame } u ∧
    (bitAt (s.on_ 0x0501 2) 0 = false → s.on_ 0x0504 1 = 0 →
      exec .calendarSecond s = .next { u with cal := { u.cal with
        seconds := (s.cal.seconds + 1) % 2 ^ 48, prescaler := min 32767 (u.cal.owed - 1), owed := u.cal.owed - 1 - 32767
        calend := s.cal.calend || decide (12622780799 < s.cal.seconds + 1) } }) ∧
    (bitAt (s.on_ 0x0501 2) 0 = false → s.on_ 0x0504 1 ≠ 0 → s.on_ 0x0504 1 = (s.cal.seconds + 1) % 2 ^ 48 →
      Does .calendarSecond s fun t =>
        t.cal.seconds = s.on_ 0x0504 1 ∧ t.on_ 0x0504 1 = (s.on_ 0x0504 1 + s.on_ 0x0504 2) % 2 ^ 48 ∧
        (∀ k, k ≠ key 0x0504 1 → t.eff k = s.eff k ∧ t.get k = s.get k) ∧
        EventsOnly { u with cal := { u.cal with seconds := t.cal.seconds, prescaler := t.cal.prescaler, owed := t.cal.owed
                                                calend := t.cal.calend }, set := t.set } t) ∧
    (∀ year : Nat, bitAt (s.on_ 0x0501 2) 0 = true → s.on_ 0x0504 1 = 0 → s.cal.calend = false → s.cal.seconds < 12622780799 →
      year = (Fields.of (s.cal.seconds + 1 + if s.cal.dst then 3600 else 0)).year →
      (s.cal.dst = false → s.cal.seconds + 1 = ruleMoment (s.on_ 0x0501 3) year) →
      (s.cal.dst = true → s.cal.seconds + 1 + 3600 = ruleMoment (s.on_ 0x0501 4) year) →
      Does .calendarSecond s fun t =>
        t.cal.seconds = s.cal.seconds + 1 ∧ t.cal.dst = (!s.cal.dst) ∧
        EventsOnly { u with cal := { u.cal with seconds := t.cal.seconds, prescaler := t.cal.prescaler, owed := t.cal.owed
                                                dst := t.cal.dst, changes := t.cal.changes } } t)) ∧
  (∀ s : State, Does .trimWindowStart s fun t =>
    (let x := quo (s.rtcRate * 8388608) 1000000000 + quo (s.cal.carry : Rat) 65536
     t.cal.trim = roundAway x ∧ t.cal.carry = roundAway (65536 * (x - (roundAway x : Rat)))) ∧
    t = { s with cal := { s.cal with trim := t.cal.trim, carry := t.cal.carry, window := s.cal.window - 8388608
                                     prescaler := t.cal.prescaler, owed := t.cal.owed } } ∧
    (s.cal.window ≤ 8388608 → t.cal.prescaler = min 32767 (s.cal.prescaler + s.cal.owed) ∧
      t.cal.owed = s.cal.prescaler + s.cal.owed - 32767))

/-- TAMPER_SAMPLE, for each of the three inputs: an enabled input at its active level with a run of active samples of at least DEBOUNCE, reached now or with
its latch clear, sets the latch, increments its count, saturating, and keeps the seconds counter as its last and, where the latch was clear, first activation; another
one only adds to its run;
an input that is not enabled, or not at its active level, only has no run. Everything but the three inputs stands, beside what raising events changes. -/
def Obligations.TamperInputsLatch : Prop :=
  ∀ (a b m : Bool) (i : Nat) (x : Tamper) (s : State), s.cal.tamper[i]? = some x → i < 3 →
    Does (.tamperSample a b m) s fun t =>
      (bitAt (s.on_ 0x0505 (i + 1)) 7 = true → bitAt (s.on_ 0x0505 (i + 1)) 3 = [a, b, m].getD i false →
        (field (s.on_ 0x0505 (i + 1)) 2 0 ≤ x.run + 1 → x.run < field (s.on_ 0x0505 (i + 1)) 2 0 ∨ x.latch = false →
          t.cal.tamper[i]? = some { x with
            run := min 8 (x.run + 1), latch := true, first := if x.latch then x.first else s.cal.seconds, last := s.cal.seconds
            count := min (2 ^ 32 - 1) (x.count + 1) }) ∧
        (x.run + 1 < field (s.on_ 0x0505 (i + 1)) 2 0 ∨ (field (s.on_ 0x0505 (i + 1)) 2 0 ≤ x.run ∧ x.latch = true) →
          t.cal.tamper[i]? = some { x with run := min 8 (x.run + 1) })) ∧
      (bitAt (s.on_ 0x0505 (i + 1)) 7 = false ∨ bitAt (s.on_ 0x0505 (i + 1)) 3 ≠ [a, b, m].getD i false →
        t.cal.tamper[i]? = some { x with run := 0 }) ∧
      EventsOnly { s with cal := { s.cal with tamper := t.cal.tamper } } t

/-- BACKUP_SWITCHOVER: VMAIN is present above 2.60 V and not below 2.50 V, VBAT above 2.10 V and not below 2.00 V, and each is as it was between; BK takes the first present of
VMAIN, VBAT and VBKP; a change of source counts one switchover. VMAIN_RISE on VBKP keeps BK where VBKP is at least 1.8 V or the rise
took at most 68 ticks, and records both; otherwise, as at BK_RETENTION_TRIP, the loss is due, the latches of BK, the start
history and the failure runs and lockouts of the roles are gone. On another source VMAIN_RISE changes nothing. AUTH_LOCKOUT_EXPIRY ends the lockout of its role alone, once it has run down. -/
def Obligations.BackupSupplyAndItsLoss : Prop :=
  (∀ (vmain vbat vbkp : Nat) (s : State), Does (.backupSwitchover vmain vbat vbkp) s fun t =>
    t.cal.vmain = (if 2600 < vmain then true else if vmain < 2500 then false else s.cal.vmain) ∧
    t.cal.vbat = (if 2100 < vbat then true else if vbat < 2000 then false else s.cal.vbat) ∧
    t.cal.source = (if t.cal.vmain then 1 else if t.cal.vbat then 2 else 3) ∧
    (t.cal.source ≠ s.cal.source →
      t.cal.switchovers = min (2 ^ 32 - 1) (s.cal.switchovers + 1) ∧ t.cal.vbkpMv = vbkp) ∧
    (t.cal.source = s.cal.source →
      t.cal.switchovers = s.cal.switchovers ∧ t.cal.vbkpMv = s.cal.vbkpMv ∧ t.events = s.events) ∧
    EventsOnly { s with cal := { s.cal with vmain := t.cal.vmain, vbat := t.cal.vbat, vbkp := t.cal.vbkp, source := t.cal.source
                                            vbkpMv := t.cal.vbkpMv, switchovers := t.cal.switchovers } } t) ∧
  (∀ (vbkp ticks : Nat) (s : State),
    (s.cal.source ≠ 3 → exec (.vmainRise vbkp ticks) s = .next s) ∧
    (s.cal.source = 3 →
      (1800 ≤ vbkp → exec (.vmainRise vbkp ticks) s = .next { s with cal := { s.cal with vmainRise := 32768 + min 32767 ticks } }) ∧
      (vbkp < 1800 → ticks ≤ 68 ∨ s.cal.lossDue = true →
        exec (.vmainRise vbkp ticks) s = .next { s with cal := { s.cal with vmainRise := min 32767 ticks } }) ∧
      (vbkp < 1800 → 68 < ticks → s.cal.lossDue = false →
        Does (.vmainRise vbkp ticks) s fun t =>
          t.cal = { s.cal with vmainRise := min 32767 ticks, lossDue := true } ∧
          t.acc.failRun = [0, 0, 0] ∧ t.acc.lockout = [0, 0, 0] ∧ t.bkLatches = [] ∧ t.pwr.history = []))) ∧
  (∀ s : State, (s.cal.lossDue = true → exec .bkRetentionTrip s = .next s) ∧ (s.cal.lossDue = false →
    Does .bkRetentionTrip s fun t =>
      t = { s with
        bkLatches := [], cal := { s.cal with lossDue := true }
        pwr := { s.pwr with history := [], open_ := false, failedStarts := 0, startCount := 0, taperLatchBk := false }
        acc := { s.acc with failRun := [0, 0, 0], lockout := [0, 0, 0] }, log := { s.log with lostBk := 0 } })) ∧
  (∀ (role n : Nat) (s : State), 1 ≤ role → s.acc.lockout[role - 1]? = some n →
    (1 < n → exec (.authLockoutExpiry role) s = .next s) ∧
    (n ≤ 1 → Does (.authLockoutExpiry role) s fun t =>
      t = { s with acc := { s.acc with lockout := t.acc.lockout } } ∧ t.acc.lockout[role - 1]? = some 0 ∧
      ∀ k, k ≠ role - 1 → t.acc.lockout[k]? = s.acc.lockout[k]?))

/-- WICK_ENTRY_COMPLETE in a running frame outside the commit slot with no job under way, u being the state at its time. Where WICK is allowed, the gap is long enough and no wake event came: the device is in
WICK, with CE, AF and HD off, TM off and its locks lost except where the OCXO keeps it on, LK and DP on only where they are kept. Where WICK is not allowed or the gap is too short the device is in DOZE and
every domain stands. A wake event that came ends the stay at once, as a short entry. Otherwise nothing changes. WICK_EXIT in WICK, at the wake event that waits or 130 µs before the next job: the device is in RUN, CE, TM and LK are on, and the event, 255 where none
waited, is the last wake source; outside WICK only the time moves. Memory, settings, counters of the frame and the engines stand. -/
def Obligations.WickIsEnteredAndLeft : Prop :=
  (∀ (cyc : Nat) (wake : Option Nat) (s : State),
    s.frame.running = false ∨ s.frame.committing = true ∨ s.working = true →
    exec (.wickEntryComplete cyc wake) s = .next s) ∧
  (∀ (cyc : Nat) (wake : Option Nat) (s u : State),
    s.frame.running = true → s.frame.committing = false → s.working = false → s.pwr.doms.length = 6 →
    u = State.elapse (State.settlePins { s with frame := s.frame.at_ cyc }) →
    (u.wickBarred = false → u.gapShort = false → u.pwr.wakePending = none → wake = none →
      Does (.wickEntryComplete cyc wake) s fun t =>
        t.pwr.state = .wick ∧ (t.pwr.dom 3).on = false ∧ (t.pwr.dom 0).on = false ∧ (t.pwr.dom 1).on = false ∧
        t.pwr.dom 4 = (if u.linkKept then u.pwr.dom 4 else Domain.off) ∧
        t.pwr.dom 5 = (if u.dpNeeded then u.pwr.dom 5 else Domain.off) ∧
        (s.on_ 0x0400 1 ≠ 1 ∨ s.mode = .taper →
          (t.pwr.dom 2).on = false ∧ t.ac.pllLocked = false ∧ t.ac.dllLocked = false) ∧
        (s.on_ 0x0400 1 = 1 → s.mode ≠ .taper → t.pwr.dom 2 = s.pwr.dom 2 ∧ t.ac.pllLocked = s.ac.pllLocked) ∧
        t.ac.vsdGood = false ∧ t.ac.ctx = s.ac.ctx ∧
        t.frame.number = s.frame.number ∧ t.mem = s.mem ∧ t.set = s.set ∧ t.acc = u.acc ∧ t.qty = s.qty ∧ t.q = s.q ∧
        t.core = s.core ∧ t.log = s.log ∧ t.mode = s.mode) ∧
    (u.wickBarred = true ∨ u.gapShort = true →
      Does (.wickEntryComplete cyc wake) s fun t =>
        t.pwr.state = .doze ∧ t.pwr.doms = u.pwr.doms ∧ t.ac = u.ac ∧ t.mem = s.mem ∧
        t.set = s.set ∧ t.core = s.core ∧ t.frame.number = s.frame.number) ∧
    (∀ e : Nat, u.wickBarred = false → u.gapShort = false →
      u.pwr.wakePending = some e ∨ (u.pwr.wakePending = none ∧ wake = some e) → 0 < s.pwr.res.short.length →
      Does (.wickEntryComplete cyc wake) s fun t =>
        t.pwr.state = .run ∧ t.pwr.lastWake = e ∧ t.pwr.wakePending = none ∧
        (t.pwr.dom 3).on = true ∧ (t.pwr.dom 2).on = true ∧ (t.pwr.dom 4).on = true ∧
        natAt t.pwr.res.short 0 = min (2 ^ 48 - 1) (natAt s.pwr.res.short 0 + 1) ∧
        t.frame.number = s.frame.number ∧ t.mem = s.mem ∧ t.set = s.set ∧ t.core = s.core)) ∧
  (∀ (cyc : Nat) (s u : State),
    u = { s with frame := s.frame.at_ (if s.pwr.wakePending.isSome then cyc else max cyc (s.nextJob - 8320)) } →
    (s.pwr.state ≠ .wick → s.core.wfi = none → exec (.wickExit cyc) s = .next u) ∧
    (s.pwr.state = .wick → s.pwr.doms.length = 6 →
      Does (.wickExit cyc) s fun t =>
        t.pwr.state = .run ∧ (t.pwr.dom 3).on = true ∧ (t.pwr.dom 2).on = true ∧ (t.pwr.dom 4).on = true ∧
        t.pwr.lastWake = s.pwr.wakePending.getD 255 ∧ t.pwr.wakePending = none ∧ t.frame.cyc = u.frame.cyc ∧
        t.frame.number = s.frame.number ∧ t.mem = s.mem ∧ t.set = s.set ∧ t.acc = { s.acc with lockout := t.acc.lockout } ∧
        t.ac = s.ac ∧ t.qty = s.qty ∧ t.q = s.q ∧ (s.core.wfi = none → t.core = s.core) ∧ t.log = s.log ∧ t.mode = s.mode))

/-- With u the state at the command's time. DOMAIN_READY of a domain that is on and not yet ready, before its time-out, makes it ready; with AF the pump has restored VSD where the command says so,
with TM the PLL locks where the HF RC is its reference; where it is later than Table 12.3 in a frame that measures, the frame's jobs are laid anew with CAUSE 1, and else nothing
else changes beside counting. Otherwise only the time moves. REGULATOR_TIMEOUT of such a domain in a running frame, at its time-out: at the first, WAKE_FAIL is raised and counted and the domain starts
again; at the second of CE, or of another domain with CE not ready, the device resets with reason WAKE_FAIL, 5, without a final commit; at the second of another domain
with CE ready, a commit under way ends and a final commit of the partial frame is made first. Otherwise only the time moves. -/
def Obligations.DomainsBecomeReadyOrTimeOut : Prop :=
  (∀ (d cyc : Nat) (vsd : Bool) (s u : State), u = s.atCyc cyc →
    ((u.pwr.dom d).on = false ∨ (u.pwr.dom d).ready = true ∨ (u.pwr.dom d).timeout < u.frame.now →
      exec (.domainReady d vsd cyc) s = .next u) ∧
    (∀ q : Domain, u.pwr.doms[d]? = some q → q.on = true → q.ready = false → u.frame.now ≤ q.timeout →
      (u.frame.now ≤ q.since + usNow (if d = 3 then 40 else 130) ∨ u.measuring = false →
        Does (.domainReady d vsd cyc) s fun t =>
          t.pwr.doms[d]? = some { q with ready := true, retried := false } ∧
          (∀ e, e ≠ d → t.pwr.doms[e]? = u.pwr.doms[e]?) ∧
          CountsOnly { u with
            pwr := { u.pwr with doms := t.pwr.doms }
            set := if d = 0 ∧ vsd = true then u.set.force (key 0x0801 1) (u.at_ 0x0801 1) else u.set
            ac := if d = 0 then (if vsd then { u.ac with vsdGood := true } else u.ac)
                  else if d = 2 ∧ u.clk.ref = 2 then { u.ac with pllLocked := true, dllLocked := true } else u.ac } t) ∧
      (q.since + usNow (if d = 3 then 40 else 130) < u.frame.now → u.measuring = true →
        Does (.domainReady d vsd cyc) s fun t =>
          t.pwr.doms[d]? = some { q with ready := true, retried := false } ∧ t.frame.cause = 1 ∧
          (∀ p ∈ t.frame.planned, u.frame.nowQ ≤ p.start)))) ∧
  (∀ (d cyc : Nat) (commit final : List (Nat × Nat)) (s u : State), u = s.atCyc cyc →
    ((u.pwr.dom d).on = false ∨ (u.pwr.dom d).ready = true ∨ u.frame.running = false ∨ u.frame.now < (u.pwr.dom d).timeout →
      exec (.regulatorTimeout d cyc commit final) s = .next u) ∧
    (∀ q : Domain, u.pwr.doms[d]? = some q → q.on = true → q.ready = false → u.frame.running = true → q.timeout ≤ u.frame.now →
      u.pwr.aoDown = false →
      (q.retried = false →
        Does (.regulatorTimeout d cyc commit final) s fun t =>
          t.pwr.doms[d]? = some { q with retried := true } ∧ t.pwr.wakeFails = min (2 ^ 32 - 1) (u.pwr.wakeFails + 1) ∧
          (t.events.any fun p => p.is .log 37) = true ∧
          t = { u with events := t.events, pwr := { u.pwr with doms := t.pwr.doms, wakeFails := t.pwr.wakeFails } }) ∧
      (q.retried = true → d = 3 ∨ (u.pwr.dom 3).ready = false →
        Does (.regulatorTimeout d cyc commit final) s fun t =>
          t.pwr.state = .starting ∧ t.pwr.endReason = 5 ∧ t.frame.running = false ∧ t.qty.banks = s.qty.banks ∧
          t.pwr.finalDue = false ∧ t.acc.replay = s.acc.replay ∧ t.set.stored = t.set.eff) ∧
      (∀ bank : Qty, q.retried = true → d ≠ 3 → (u.pwr.dom 3).ready = true →
        bank = (if s.frame.committing then (s.qty.judge (s.qty.wroteWell commit)).1 else s.qty) →
        Does (.regulatorTimeout d cyc commit final) s fun t =>
          t.pwr.state = .starting ∧ t.pwr.endReason = 5 ∧ t.frame.running = false ∧ t.pwr.finalDue = true ∧
          t.frame.number = s.frame.number ∧
          ∃ c, c.partial_ = true ∧ c.frame = s.frame.number ∧
            t.qty.banks = setAt bank.banks bank.nextBank (if c.checks final then some c else none))))

/-- KEY_PRESS and KEY_RELEASE with AO powered show whether the key is down, a press since the present MTIME, and raise event 54: from DOZE the device is in RUN, in WICK and SNUFF the wake
event waits where none does; with AO unpowered they do nothing. SPI_SCS_WAKE and MBUS_START_BIT_WAKE of a sleeping device raise their events, so that from DOZE the
device is in RUN; of a device that is awake they do nothing. -/
def Obligations.WakeSourcesRaiseTheirEvents : Prop :=
  (∀ (c : Instr) (ms : Nat) (s : State), c = .keyPress ∨ c = .keyRelease ms →
    (s.pwr.aoDown = true → exec c s = .next s) ∧
    (s.pwr.aoDown = false →
      Does c s fun t =>
        EventsOnly { s with pwr := { s.pwr with keyDown := decide (c = .keyPress)
                                                keySince := if c = .keyPress then s.pwr.mtime else s.pwr.keySince } } t ∧
        (s.pwr.state = .run → t.pwr.state = .run) ∧ (s.pwr.state = .doze → t.pwr.state = .run) ∧
        (s.pwr.state = .wick ∨ s.pwr.state = .snuff →
          t.pwr.state = s.pwr.state ∧ t.pwr.wakePending = some (s.pwr.wakePending.getD 54)))) ∧
  (∀ (c : Instr) (ev : Nat) (s : State), c = .spiScsWake ∧ ev = 43 ∨ c = .mbusStartBitWake ∧ ev = 44 →
    (s.pwr.state = .doze → Does c s fun t => EventsOnly s t ∧ t.pwr.state = .run) ∧
    (s.pwr.state = .wick ∨ s.pwr.state = .snuff →
      Does c s fun t => EventsOnly s t ∧ t.pwr.state = s.pwr.state ∧
        t.pwr.wakePending = some (s.pwr.wakePending.getD ev)) ∧
    (s.pwr.state ≠ .doze → s.pwr.state ≠ .wick → s.pwr.state ≠ .snuff → exec c s = .next s))

/-- BROWNOUT with a frame open and AO powered: the frame is over, a commit under way has ended, the record of the partial frame is being written,
and the device, awake on CE, waits for its read-back; with no frame open the hold begins at once; with AO unpowered, or the read-back still to come, nothing changes. FINAL_COMMIT_COMPLETE of a record of a partial frame: the bank
written holds the record where its bytes, with the given bits changed, check, or none where they do not, and the hold begins; without one it does nothing. BROWNOUT_HOLD_RECOVERY leads from the hold to a start with reason BROWNOUT, 2; VCAP_HOLD_LOST to DARK with reason POWER_ON, 1, to come;
AO_POWER_UP from DARK to that start, with MTIME at 0; elsewhere they do nothing. The number of the frame, the settings in force, the replay counters and the
calendar are kept. -/
def Obligations.BrownoutEndsInTheHold : Prop :=
  (∀ (cyc supply vcap : Nat) (diff : List (Nat × Nat)) (s : State),
    (s.pwr.aoDown = true ∨ (s.frame.running = false ∧ s.qty.writing ≠ none) →
      exec (.brownout cyc supply vcap diff) s = .next s) ∧
    (∀ bank : Qty, s.pwr.aoDown = false → s.frame.running = true → s.pwr.state = .run ∨ s.pwr.state = .doze ∨ s.pwr.state = .wick →
      bank = (if s.frame.committing then (s.qty.judge (s.qty.wroteWell diff)).1 else s.qty) →
      Does (.brownout cyc supply vcap diff) s fun t =>
        t.frame.running = false ∧ t.pwr.state = .run ∧ t.pwr.finalDue = true ∧ t.frame.number = s.frame.number ∧
        (∃ c, t.qty.writing = some c ∧ c.partial_ = true ∧ c.frame = s.frame.number) ∧ t.qty.banks = bank.banks ∧
        (s.pwr.state = .wick → s.pwr.doms.length = 6 → (t.pwr.dom 3).ready = true) ∧
        t.mem = s.mem ∧ t.set = s.set ∧ t.acc = { s.acc with lockout := t.acc.lockout }) ∧
    (s.pwr.aoDown = false → s.frame.running = false → s.qty.writing = none →
      Does (.brownout cyc supply vcap diff) s fun t =>
        t.pwr.state = .hold ∧ t.qty.banks = s.qty.banks ∧ t.cal = s.cal ∧
        t.pwr.lastWake = (if s.pwr.state = .snuff then 36 else s.pwr.lastWake))) ∧
  (∀ (diff : List (Nat × Nat)) (s : State),
    (s.frame.running = true ∨ s.qty.writing = none → exec (.finalCommitComplete diff) s = .next s) ∧
    (∀ c : Commit, s.frame.running = false → s.qty.writing = some c →
      (c.partial_ = false → exec (.finalCommitComplete diff) s = .next s) ∧
      (c.partial_ = true → Does (.finalCommitComplete diff) s fun t =>
        t.pwr.state = .hold ∧ t.qty.banks = setAt s.qty.banks s.qty.nextBank (if c.checks diff then some c else none) ∧
        t.cal = s.cal ∧ t.frame.number = s.frame.number ∧ t.acc.replay = s.acc.replay ∧ t.pwr.finalDue = s.pwr.finalDue))) ∧
  (∀ s : State,
    (s.pwr.state ≠ .hold → exec .brownoutHoldRecovery s = .next s) ∧
    (s.pwr.state = .hold → Does .brownoutHoldRecovery s fun t =>
      t.pwr.state = .starting ∧ t.pwr.endReason = 2 ∧ t.pwr.open_ = false ∧
      t = { s with pwr := { s.pwr with state := .starting, endReason := 2, open_ := false, history := t.pwr.history
                                       failedStarts := t.pwr.failedStarts, backoff := t.pwr.backoff } }) ∧
    (s.pwr.state ≠ .hold → s.pwr.state ≠ .starting ∨ s.pwr.nrst = false → exec .vcapHoldLost s = .next s) ∧
    (s.pwr.state = .hold ∨ (s.pwr.state = .starting ∧ s.pwr.nrst = true) →
      exec .vcapHoldLost s = .next { s with pwr := { s.pwr with state := .dark, endReason := 1, backoff := 0 } })) ∧
  (∀ s : State,
    (s.pwr.state ≠ .dark → exec .aoPowerUp s = .next s) ∧
    (s.pwr.state = .dark →
      Does .aoPowerUp s fun t =>
        t.pwr.state = .starting ∧ t.pwr.endReason = 1 ∧ t.pwr.mtime = 0 ∧ t.pwr.backoff = 0 ∧ t.cal = s.cal ∧
        t.qty.banks = s.qty.banks ∧ t.acc.replay = s.acc.replay ∧ t.pwr.failedStarts = s.pwr.failedStarts ∧
        t.bkLatches = s.bkLatches))

/-- NRST_ASSERT with a frame open: the device is in reset with reason PIN_RESET, 3, with NRST held, a commit under way has ended and the
bank written holds the record of the partial frame where its bytes, with the given bits changed, check; in a start sequence, a back-off or SNUFF the reset commits nothing; in the brownout hold and awake without a frame only NRST is held; with NRST already held, or in DARK, nothing happens. NRST_RELEASE of a device
in reset: a start with that reason follows; elsewhere NRST is no longer held. TESTM_RELEASE shows TESTM low. BACKOFF_EXPIRY ends a back-off that has run down. -/
def Obligations.ResetPinHoldsTheDevice : Prop :=
  (∀ (cyc : Nat) (commit final : List (Nat × Nat)) (s : State),
    (s.pwr.nrst = true ∨ s.pwr.state = .dark → exec (.nrstAssert cyc commit final) s = .next s) ∧
    (∀ bank : Qty, s.pwr.nrst = false → s.pwr.state ≠ .dark → s.frame.running = true →
      bank = (if s.frame.committing then (s.qty.judge (s.qty.wroteWell commit)).1 else s.qty) →
      Does (.nrstAssert cyc commit final) s fun t =>
        t.pwr.state = .starting ∧ t.pwr.nrst = true ∧ t.pwr.endReason = 3 ∧ t.frame.running = false ∧ t.pwr.open_ = false ∧
        t.acc.replay = s.acc.replay ∧
        ∃ c, c.partial_ = true ∧ c.frame = s.frame.number ∧
          t.qty.banks = setAt bank.banks bank.nextBank (if c.checks final then some c else none)) ∧
    (s.pwr.nrst = false → s.frame.running = false → s.pwr.state = .starting ∨ s.pwr.state = .snuff →
      Does (.nrstAssert cyc commit final) s fun t =>
        t.pwr.state = .starting ∧ t.pwr.nrst = true ∧ t.pwr.endReason = 3 ∧ t.pwr.open_ = false ∧ t.qty.banks = s.qty.banks ∧
        t.acc.replay = s.acc.replay) ∧
    (s.pwr.nrst = false → s.frame.running = false → s.pwr.state ≠ .starting → s.pwr.state ≠ .snuff → s.pwr.state ≠ .dark →
      exec (.nrstAssert cyc commit final) s = .next { s with pwr := { s.pwr with nrst := true } })) ∧
  (∀ s : State,
    (s.pwr.nrst = true → s.pwr.state = .starting →
      Does .nrstRelease s fun t => t.pwr.nrst = false ∧ t.pwr.endReason = 3 ∧
        t = { s with pwr := { s.pwr with nrst := false, endReason := 3, backoff := t.pwr.backoff } } ∧
        (s.pwr.failedStarts = 0 → t.pwr.backoff = 0)) ∧
    (s.pwr.nrst = false ∨ s.pwr.state ≠ .starting →
      exec .nrstRelease s = .next { s with pwr := { s.pwr with nrst := false } })) ∧
  (∀ s : State, exec .testmRelease s = .next { s with pwr := { s.pwr with testm := false } } ∧
    (s.pwr.backoff ≤ 1 → exec .backoffExpiry s = .next { s with pwr := { s.pwr with backoff := 0 } }) ∧
    (1 < s.pwr.backoff → exec .backoffExpiry s = .next s))

/-- START_SEQUENCE of a device that may start: with TESTM high it stays in reset; with OTP faulty the entry is FAILED, END_REASON 7, and counted among the failed starts;
else the entry with the reason of the reset is open, CE and TM are powered, and the mode is TAPER with its latch set, and CONFIG with START_MODE 0 and no cause for TAPER; of a device that may not, nothing happens.
START_REGULATOR_TIMEOUT in the sequence resets the device with reason 6. OPENING_BOUNDARY after the sequence: the device is in
RUN, its first frame is open in its commit slot with the period's length, LANTERN has toggled, SYNO is active where WIDTH is not 0, and the restored state is being
written under the frame number before; elsewhere it does nothing. -/
def Obligations.AStartOpensAnEntryAndAFrame : Prop :=
  (∀ (testm : Bool) (found : StartFound) (s : State),
    (s.mayStart = false → exec (.startSequence testm found) s = .next s) ∧
    (s.mayStart = true →
      (testm = true → exec (.startSequence testm found) s = .next { s with pwr := { s.pwr with testm := true } }) ∧
      (testm = false → found.otpFails = true →
        Does (.startSequence testm found) s fun t =>
          t.pwr.state = .starting ∧ t.pwr.endReason = 7 ∧ t.pwr.open_ = false ∧
          t.pwr.failedStarts = min 255 (s.pwr.failedStarts + 1) ∧
          t.qty.banks = s.qty.banks ∧
          ∃ e es, t.pwr.history = e :: es ∧ e.startReason = s.pwr.endReason ∧ e.outcome = 2 ∧ e.endReason = 7) ∧
      (testm = false → found.otpFails = false → s.pwr.doms.length = 6 →
        Does (.startSequence testm found) s fun t =>
          t.pwr.state = .starting ∧ (t.pwr.dom 3).ready = true ∧ (t.pwr.dom 2).ready = true ∧ t.pwr.open_ = true ∧
          (∃ e es, t.pwr.history = e :: es ∧ e.startReason = s.pwr.endReason ∧ e.outcome = 0) ∧
          (s.pwr.taperLatchBk = true → t.mode = .taper) ∧
          (s.pwr.open_ = false → s.pwr.startMode = 0 → s.pwr.taperLatchBk = false → s.pwr.taperLatchMetro = false →
            s.pwr.failedStarts < s.on_ 0x0201 3 → s.cal.lossDue = false → t.mode = .config)))) ∧
  (∀ s : State,
    (s.pwr.state = .starting → s.ceUp = true ∨ (s.mayStart = true ∧ s.pwr.testm = false) →
      Does .startRegulatorTimeout s fun t => t.pwr.state = .starting ∧ t.pwr.endReason = 6 ∧ t.ceUp = false ∧
        t.qty.banks = s.qty.banks) ∧
    (s.pwr.state ≠ .starting → exec .startRegulatorTimeout s = .next s) ∧
    (s.ceUp = false → s.mayStart = false ∨ s.pwr.testm = true → exec .startRegulatorTimeout s = .next s)) ∧
  (∀ s : State,
    (s.pwr.state ≠ .starting ∨ s.ceUp = false → exec .openingBoundary s = .next s) ∧
    (s.pwr.state = .starting → s.ceUp = true → s.pwr.nrst = false →
      Does .openingBoundary s fun t =>
        t.pwr.state = .run ∧ t.frame.running = true ∧ t.frame.committing = true ∧ t.frame.length = s.period ∧
        t.frame.lantern = (!s.frame.lantern) ∧ t.frame.synoActive = (field (s.on_ 0x0301 7) 4 0 != 0) ∧
        t.frame.number = s.frame.number ∧ t.mode = s.mode ∧ t.core.state = (if s.mode = .taper then 0 else 1) ∧
        (s.mode = .taper → t.pwr.taperLatchBk = true ∧ t.pwr.taperLatchMetro = true) ∧
        (∃ c, t.qty.writing = some c ∧ c.frame = (s.frame.number + (2 ^ 48 - 1)) % 2 ^ 48 ∧ c.partial_ = false) ∧
        t.bkLatches = [] ∧ t.mem = s.mem ∧ t.acc = { s.acc with lockout := t.acc.lockout }))

/-- ACCUMULATION_START_TIMEOUT in a running frame outside the commit slot and MICROCODE_ACK_TIMEOUT in a running frame reset
the device with reason WATCHDOG, 8: the frame is over, no final commit is due, and neither command writes a bank with a partial
record: the first leaves both banks as they were, the second at most tears the bank that a commit under way was writing; elsewhere they do nothing. CORE_WATCHDOG, of an enabled watchdog that has run to its limit with the core not halted, acts
on the core alone: with no request waiting it leaves the device running, and neither resets it nor counts a start; else it does nothing.
SNUFF_WAKE in SNUFF with a wake event waiting: the device starts with reason SNUFF, 9, without a back-off, and the event is the last
wake source; one that came before the entry was complete counts as a short entry; elsewhere it does nothing. -/
def Obligations.WatchdogsAndSnuffEndInAStart : Prop :=
  (∀ s : State,
    (s.frame.running = true → s.frame.committing = false →
      Does .accumulationStartTimeout s fun t =>
        t.pwr.state = .starting ∧ t.pwr.endReason = 8 ∧ t.frame.running = false ∧ t.pwr.finalDue = false ∧
        t.qty.banks = s.qty.banks) ∧
    (s.frame.running = false ∨ s.frame.committing = true → exec .accumulationStartTimeout s = .next s) ∧
    (s.frame.running = true →
      Does .microcodeAckTimeout s fun t =>
        t.pwr.state = .starting ∧ t.pwr.endReason = 8 ∧ t.frame.running = false ∧ t.pwr.finalDue = false ∧
        t.qty.banks = (if s.qty.writing.isSome then setAt s.qty.banks s.qty.nextBank none else s.qty.banks)) ∧
    (s.frame.running = false → exec .microcodeAckTimeout s = .next s)) ∧
  (∀ (pc : Nat) (s : State),
    (bitAt s.core.wdt 31 = false ∨ s.core.wdtCount < s.core.wdt % 65536 ∨ s.core.halted = true →
      exec (.coreWatchdog pc) s = .next s) ∧
    (s.pwr.state = .run → s.acc.waiting = [] → s.acc.customer = [] → s.core.held = none →
      s.q.spiIn = [] → bitAt s.core.wdt 31 = true → s.core.wdt % 65536 ≤ s.core.wdtCount → s.core.halted = false →
      Does (.coreWatchdog pc) s fun t =>
        t.core.resets = min (2 ^ 32 - 1) (s.core.resets + 1) ∧ t.core.wdtCount = 0 ∧ t.pwr.state = .run ∧
        t.pwr.endReason = s.pwr.endReason ∧ t.pwr.failedStarts = s.pwr.failedStarts ∧
        t.pwr.startCount = s.pwr.startCount ∧ t.pwr.history = s.pwr.history ∧
        t.frame = { s.frame with waiting := t.frame.waiting, dynamic := t.frame.dynamic } ∧ t.qty.banks = s.qty.banks)) ∧
  (∀ (during : Bool) (s : State),
    (s.pwr.state ≠ .snuff ∨ s.pwr.wakePending = none → exec (.snuffWake during) s = .next s) ∧
    (∀ ev : Nat, s.pwr.state = .snuff → s.pwr.wakePending = some ev →
      Does (.snuffWake during) s fun t =>
        t.pwr.state = .starting ∧ t.pwr.endReason = 9 ∧ t.pwr.backoff = 0 ∧ t.pwr.lastWake = ev ∧
        t.pwr.res = (if during then { s.pwr.res with short := modAt s.pwr.res.short 1 fun n => min (2 ^ 48 - 1) (n + 1) }
                     else s.pwr.res) ∧
        t.frame.number = s.frame.number ∧ t.qty.banks = s.qty.banks ∧ t.cal = s.cal))

/-- PULSE_START of output n in MODE 1, in a running frame or in SNUFF, with a backlog and no pulse in progress, at a tick no earlier than the
first of the frame and than one spacing after the last leading edge: a pulse is in progress from that tick for the ticks of WIDTH and the backlog is one
less. PULSE_END of a pulse in progress ends it at the tick its width gives, where that has come, and counts it. FTO_PULSE of an active FTO that owes a pulse whose place on the
compute clock lies in the frame, with its output low, where that place has come: there the output is high for half the spacing, and the pulses begun and counted are one more. FTO_PULSE_END of a pulse returns the output low at that
time. Nothing else changes beside the time of the frame; where a condition is not met nothing starts or ends. -/
def Obligations.PulsesStartAndEnd : Prop :=
  (∀ (n cyc : Nat) (o : PulseOut) (s u : State), s.qty.outs[n]? = some o → u = { s with frame := s.frame.at_ cyc } →
    (s.frame.running = true ∨ s.pwr.state = .snuff → field (s.on_ 0x1100 (n + 1)) 31 30 = 1 → 0 < o.backlog → o.high = false →
      o.first ≤ u.frame.absTick → (∀ e, o.edge = some e → e + o.spacing ≤ u.frame.absTick) →
      Does (.pulseStart n cyc) s fun t =>
        t.qty.outs[n]? = some { o with
          backlog := o.backlog - 1, high := true, edge := some u.frame.absTick
          ends := u.frame.absTick + poTicks (s.on_ 0x1100 (n + 1)), told := o.told && o.backlog != 1 } ∧
        (∀ k, k ≠ n → t.qty.outs[k]? = s.qty.outs[k]?) ∧
        t = { u with qty := { s.qty with outs := t.qty.outs } }) ∧
    ((s.frame.running = false ∧ s.pwr.state ≠ .snuff) ∨ field (s.on_ 0x1100 (n + 1)) 31 30 ≠ 1 ∨ o.backlog = 0 ∨ o.high = true ∨
        u.frame.absTick < o.first ∨ (∃ e, o.edge = some e ∧ u.frame.absTick < e + o.spacing) →
      exec (.pulseStart n cyc) s = .next u)) ∧
  (∀ (n cyc : Nat) (o : PulseOut) (s u : State), s.qty.outs[n]? = some o →
    u = { s with frame := s.frame.at_ (min cyc (s.frame.cycOfTick o.ends)) } →
    (o.high = true → o.ends ≤ u.frame.absTick →
      Does (.pulseEnd n cyc) s fun t =>
        t.qty.outs[n]? = some { o with high := false, count := (o.count + 1) % 2 ^ 48 } ∧
        (∀ k, k ≠ n → t.qty.outs[k]? = s.qty.outs[k]?) ∧
        t = { u with qty := { s.qty with outs := t.qty.outs } }) ∧
    (o.high = false ∨ u.frame.absTick < o.ends → exec (.pulseEnd n cyc) s = .next { s with frame := s.frame.at_ cyc })) ∧
  (∀ (edge cyc : Nat) (u s : State), edge = 4096 + s.qty.fto.begun * s.qty.fto.spacing → u = { s with frame := s.frame.at_ edge } →
    (s.frame.running = true → s.mode = .verify → bitAt (s.on_ 0x1110 1) 15 = true →
      s.qty.fto.begun < s.qty.fto.owed → s.qty.fto.high = false → edge < s.frame.endCyc → edge ≤ cyc →
      exec (.ftoPulse cyc) s = .next { u with
        qty := { s.qty with fto := { s.qty.fto with
          begun := s.qty.fto.begun + 1, high := true, rose := u.frame.now
          falls := u.frame.now + 8 * (s.qty.fto.spacing / 2), count := (s.qty.fto.count + 1) % 2 ^ 48 } } }) ∧
    (s.frame.running = false ∨ s.mode ≠ .verify ∨ bitAt (s.on_ 0x1110 1) 15 = false ∨ s.qty.fto.owed ≤ s.qty.fto.begun ∨
      s.qty.fto.high = true ∨ s.frame.endCyc ≤ edge ∨ cyc < edge →
      exec (.ftoPulse cyc) s = .next { s with frame := s.frame.at_ cyc })) ∧
  (∀ (cyc : Nat) (u s : State), u = { s with frame := s.frame.at_ (min cyc ((s.qty.fto.falls - s.frame.base + 7) / 8)) } →
    (s.qty.fto.high = true → s.qty.fto.falls ≤ u.frame.now →
      exec (.ftoPulseEnd cyc) s = .next { u with qty := { s.qty with fto := { s.qty.fto with high := false } } }) ∧
    (s.qty.fto.high = false ∨ u.frame.now < s.qty.fto.falls →
      exec (.ftoPulseEnd cyc) s = .next { s with frame := s.frame.at_ cyc }))

/-- Of a movement under way, at the command's time. ACTUATOR_END_REACHED while it drives, within TRAVEL_MAX, keeps the travel time and lets the drive overrun; ACTUATOR_DONE, OVERDRIVE later,
takes the target state, keeps the travel time and raises ACTUATOR_DONE. ACTUATOR_FAULT whose condition of Table 11.19 stands: kinds 1 and 2 with a retry left reverse the drive
and use the retry; without one left, and kinds 3 to 5, end the movement in FAULT, 6; each is counted.
ACTUATOR_REVERSE_END, 200 ms later, begins the pause, ACTUATOR_PAUSE_END, 500 ms later, restarts the drive. ACT_KEY_HOLD_EXPIRY asks for the
connection in READY with the key held for ACT_KEY_HOLD outside TAPER. Where its condition does not stand, or in another phase, or with no movement under way, each only moves the time.
Beside the billing engine only events change. -/
def Obligations.ActuatorMovesToItsEnd : Prop :=
  (∀ (cyc : Nat) (m : Movement) (s u : State), s.bill.move = some m → u = { s with frame := s.frame.at_ cyc } →
    (m.phase = 0 → u.frame.now ≤ m.start + 512000 * (100 * field (s.on_ 0x1410 1) 23 16) →
      exec (.actuatorEndReached cyc) s = .next { u with
        bill := { s.bill with move := some { m with phase := 1, since := u.frame.now, travel := (u.frame.now - m.start) / 512000 } } }) ∧
    (m.phase ≠ 0 ∨ m.start + 512000 * (100 * field (s.on_ 0x1410 1) 23 16) < u.frame.now →
      exec (.actuatorEndReached cyc) s = .next u) ∧
    (m.phase = 1 → m.since + 512000 * (10 * field (s.on_ 0x1410 1) 15 8) ≤ u.frame.now →
      Does (.actuatorDone cyc) s (EventsOnly { u with
        bill := { s.bill with move := none, lastTravel := min 65535 m.travel, st := { s.bill.st with act := m.target } } })) ∧
    (m.phase ≠ 1 ∨ u.frame.now < m.since + 512000 * (10 * field (s.on_ 0x1410 1) 15 8) →
      exec (.actuatorDone cyc) s = .next u) ∧
    (m.phase = 2 → m.since + 512000 * 200 ≤ u.frame.now →
      exec (.actuatorReverseEnd cyc) s = .next { u with
        bill := { s.bill with move := some { m with phase := 3, since := u.frame.now } } }) ∧
    (m.phase ≠ 2 ∨ u.frame.now < m.since + 512000 * 200 → exec (.actuatorReverseEnd cyc) s = .next u) ∧
    (m.phase = 3 → m.since + 512000 * 500 ≤ u.frame.now →
      exec (.actuatorPauseEnd cyc) s = .next { u with
        bill := { s.bill with move := some { m with phase := 0, start := u.frame.now, since := u.frame.now } } }) ∧
    (m.phase ≠ 3 ∨ u.frame.now < m.since + 512000 * 500 → exec (.actuatorPauseEnd cyc) s = .next u)) ∧
  (∀ (kind aci cyc used : Nat) (again : Bool) (s u : State), u = { s with frame := s.frame.at_ cyc } →
    used = (s.bill.move.map Movement.used).getD 0 →
    again = (decide (kind ≤ 2) && decide (used < field (s.on_ 0x1410 1) 7 4)) →
    (u.faultStands kind aci = true ↔
      (∃ m, s.bill.move = some m ∧
        (kind = 1 ∧ m.phase = 0 ∧ m.start + 512000 * (100 * field (s.on_ 0x1410 1) 23 16) < u.frame.now ∨
          kind = 2 ∧ m.phase = 0 ∧ m.start + 512000 * 69 ≤ u.frame.now ∧ s.on_ 0x1410 2 < aci ∨
          kind = 3 ∧ m.phase ≤ 1 ∧ m.start + 512000 * 69 ≤ u.frame.now ∧ aci < s.on_ 0x1410 3 ∨ kind = 4)) ∨
      (s.bill.move = none ∧ (kind = 4 ∨ kind = 5) ∧ (s.bill.st.act = 1 ∨ s.bill.st.act = 3 ∨ s.bill.st.act = 4))) ∧
    (u.faultStands kind aci = false → exec (.actuatorFault kind aci cyc) s = .next u) ∧
    (u.faultStands kind aci = true →
      Does (.actuatorFault kind aci cyc) s (EventsOnly { u with
        bill := { s.bill with
          faults := min (2 ^ 32 - 1) (s.bill.faults + 1)
          move := if again then s.bill.move.map fun m => { m with phase := 2, since := u.frame.now, used := m.used + 1 } else none
          st := if again then s.bill.st else { s.bill.st with act := 6 } } }))) ∧
  (∀ s : State, exec .actKeyHoldExpiry s = .next (
    if s.bill.st.act = 4 ∧ s.pwr.keyDown = true ∧ s.mode ≠ .taper ∧
        (s.on_ 0x1410 4 - 20) * 32768 ≤ (s.pwr.mtime + 1 - s.pwr.keySince) * 1000
    then { s with bill := { s.bill with keyConnect := true } } else s)) ∧
  (∀ (cyc : Nat) (c : Instr) (s : State), s.bill.move = none →
    c = .actuatorEndReached cyc ∨ c = .actuatorDone cyc ∨ c = .actuatorReverseEnd cyc ∨ c = .actuatorPauseEnd cyc →
    exec c s = .next { s with frame := s.frame.at_ cyc })

/-- MODE_COMMAND 1, 2 and 3, accepted. The mode in force is left as it is and, where another one is asked for, the mode asked for is pending: CONFIG at once;
MEASURE and VERIFY where the plan of the stored settings is admitted and the flow and the quantity configuration have no fault, and the
ledger's report and both fault entries then show that. Where the ledger refuses the plan no mode is pending, and
where it admits the plan but the flow or the quantity configuration has a fault, that fault is shown and no mode is pending. Beside what carrying a request changes nothing else does. -/
def Obligations.ModeCommandsWaitForTheBoundary : Prop :=
  (∀ (p : Sender) (s : State), s.acceptsWrite p 0x0120 2 [1] →
    Does (.modeConfig p) s (Carried { s with modePending := if s.mode = .config then s.modePending else some .config })) ∧
  (∀ (p : Sender) (c : Instr) (m : Mode) (v : Nat) (s : State),
    c = .modeMeasure p ∧ m = .measure ∧ v = 2 ∨ c = .modeVerify p ∧ m = .verify ∧ v = 3 → s.acceptsWrite p 0x0120 2 [v] →
    (s.mode = m → Does c s (Carried s)) ∧
    (s.mode ≠ m → (verdict s.get).ok = true → flowFault s.get = 0 → quantityFault s.get = 0 →
      Does c s (Carried { s with
        modePending := some m, ledger := s.ledger.compiled s.get, flow := { s.flow with fault := 0 }
        qty := { s.qty with fault := 0 } })) ∧
    (s.mode ≠ m → (verdict s.get).ok = false →
      Does c s (Carried { s with ledger := s.ledger.compiled s.get })) ∧
    (s.mode ≠ m → (verdict s.get).ok = true → flowFault s.get ≠ 0 →
      Does c s (Carried { s with ledger := s.ledger.compiled s.get, flow := { s.flow with fault := flowFault s.get } })) ∧
    (s.mode ≠ m → (verdict s.get).ok = true → flowFault s.get = 0 → quantityFault s.get ≠ 0 →
      Does c s (Carried { s with
        ledger := s.ledger.compiled s.get, flow := { s.flow with fault := 0 }
        qty := { s.qty with fault := quantityFault s.get } })))

/-- SEAL_COMMAND 0xC3, accepted, sets the seal, sets bit 1 of SEAL_STATE and ends the FACTORY role; 0x3C clears the seal and
leaves those. Each is counted as one change, and METRO_CHANGE_LOG takes its entry. FACTORY_LOCK, accepted, ends the FACTORY role. A
FACTORY envelope is then refused without verification: no counter of the security block moves. -/
def Obligations.SealAndFactoryRole : Prop :=
  (∀ (p : Sender) (s : State), s.acceptsWrite p 0x0140 1 [0xC3] →
    Does (.sealSet p) s fun t =>
      Carried { s with acc := { s.acc with sealed := true, sealedOnce := true, factoryEnded := true } } t ∧
      t.acc.changes = min (2 ^ 32 - 1) (s.acc.changes + 1) ∧ t.acc.changeLog.length = min 16 (s.acc.changeLog.length + 1)) ∧
  (∀ (p : Sender) (s : State), s.acceptsWrite p 0x0140 1 [0x3C] →
    Does (.sealClear p) s fun t => Carried { s with acc := { s.acc with sealed := false } } t ∧
      t.acc.changes = min (2 ^ 32 - 1) (s.acc.changes + 1)) ∧
  (∀ (p : Sender) (s : State), s.acceptsWrite p 0x0140 4 [0x96] →
    Does (.factoryLock p) s (Carried { s with acc := { s.acc with factoryLock := true, factoryEnded := true } })) ∧
  (∀ (via : Via) (gen id : Nat) (data : List Nat) (e : Envelope) (s : State),
    s.servesNow (s.asked via gen 2 0x0150 1 id data) →
    (s.expect (s.asked via gen 2 0x0150 1 id data)).formAbort (s.asked via gen 2 0x0150 1 id data) = abortOk →
    Envelope.of data = some e → e.role = 3 → s.acc.factoryEnded = true →
    Does (.authEnvelope via gen id data) s fun t => Carried s t ∧ t.acc = s.acc ∧
      (via = .window → t.core.reqResult = abortAccess ∧ t.core.reqBusy = false))

/-- Each of these writes, accepted, is held for the next boundary and changes nothing else beside what carrying a request
changes: QTY_CLEAR, TAPER_EXIT, POWER_COMMAND 1 and 2, RESIDENCY_CLEAR, BILLING_CLOSE_NOW, the four ACT_COMMANDs, CREDIT_TOPUP with
its identifier and amount, PASSIVE_ACTIVATE_AT with its instant, PERF_SEL of a counter, whose selection in force stands until then,
and the clearing of OVF bits. -/
def Obligations.CommandsOfTheDictionaryWait : Prop :=
  ∀ (p : Sender) (s : State),
    (s.acceptsWrite p 0x1007 5 [0xA5] → Does (.qtyClear p) s (Carried { s with qty := { s.qty with clearing := true } })) ∧
    (s.acceptsWrite p 0x0201 2 [0x5A] → Does (.taperExit p) s (Carried { s with pwr := { s.pwr with taperExit := true } })) ∧
    (s.acceptsWrite p 0x0201 1 [1] → Does (.powerCommandReset p) s (Carried { s with pwr := { s.pwr with command := 1 } })) ∧
    (s.acceptsWrite p 0x0201 1 [2] → Does (.powerCommandSnuff p) s (Carried { s with pwr := { s.pwr with command := 2 } })) ∧
    (s.acceptsWrite p 0x0223 1 [0xA5] → Does (.residencyClear p) s (Carried { s with pwr := { s.pwr with resClear := true } })) ∧
    (s.acceptsWrite p 0x1301 2 [1] → Does (.billingCloseNow p) s (Carried { s with bill := { s.bill with closeNow := true } })) ∧
    (s.acceptsWrite p 0x1410 5 [1] → Does (.actDisconnect p) s (Carried { s with bill := { s.bill with command := 1 } })) ∧
    (s.acceptsWrite p 0x1410 5 [2] → Does (.actArm p) s (Carried { s with bill := { s.bill with command := 2 } })) ∧
    (s.acceptsWrite p 0x1410 5 [3] → Does (.actConnect p) s (Carried { s with bill := { s.bill with command := 3 } })) ∧
    (s.acceptsWrite p 0x1410 5 [4] → Does (.actClearFault p) s (Carried { s with bill := { s.bill with command := 4 } })) ∧
    (∀ (topup : Nat) (amount : Int), topup < 2 ^ 32 → -(2 ^ 63) ≤ amount → amount < 2 ^ 63 →
      s.acceptsWrite p 0x1402 1 (leBytes 4 topup ++ leBytes 8 (unsigned 64 amount)) →
      Does (.creditTopup p topup amount) s
        (Carried { s with bill := { s.bill with topups := s.bill.topups ++ [(topup, amount)] } })) ∧
    (∀ instant : Nat, instant < 2 ^ 48 → s.acceptsWrite p 0x1200 2 (leBytes 6 instant) →
      Does (.passiveActivateAt p instant) s
        (Carried { s with bill := { s.bill with
          st := { s.bill.st with activateAt := instant }, calFault := if instant = 0 then s.bill.calFault else 0
          activateNow := instant != 0 && decide (instant ≤ s.cal.seconds)
          heldAt := some instant } })) ∧
    (∀ block counter value : Nat, block < 6 → counter < 8 → value < 2 ^ 32 →
      s.acceptsWrite p (0x1C10 + block) (counter + 1) (leBytes 4 value) →
      Does (.perfSelWrite p block counter value) s fun t =>
        t.at_ (0x1C10 + block) (counter + 1) = value ∧ t.eff = s.eff ∧ Carried { s with set := t.set } t) ∧
    (∀ mask : Nat, mask < 2 ^ 48 → s.acceptsWrite p 0x1C30 1 (leBytes 6 mask) →
      Does (.perfOvfClear p mask) s (Carried { s with perf := { s.perf with clear := s.perf.clear ||| mask } }))

/-- CAL_SET, accepted: the seconds counter is the standard time of the DATETIME, the prescaler its tick and the
DST flag its flag; UNCERTAIN, INVALID, BK_LOST and CALEND are clear, LAST_SET_OLD and LAST_SET_NEW hold the counter before and after,
and TIME_SET_COUNT is one more, saturating; an alarm that the counter passes moves on by its periods to the first time that is later, and any other stands. DST_COMMAND 1 sets the flag and 2 clears it. Beside these and the list of changes that billing
takes, only what carrying a request changes differs. -/
def Obligations.TimeIsSet : Prop :=
  (∀ (p : Sender) (w alarm period : Nat) (s : State), w < 2 ^ 64 → alarm = s.on_ 0x0504 1 → period = s.on_ 0x0504 2 →
    s.acceptsWrite p 0x0500 2 (leBytes 8 w) →
    Does (.calSet p w) s fun t =>
      Carried { s with
        set := t.set
        cal := { s.cal with
          seconds := standardOf w, prescaler := field w 14 0, owed := 0, dst := bitAt w 25, uncertain := false, invalid := false
          bkLost := false, calend := false, changes := t.cal.changes, lastOld := s.cal.seconds, lastNew := standardOf w
          setCount := min (2 ^ 32 - 1) (s.cal.setCount + 1) } } t ∧
      t.cal.changes.length = s.cal.changes.length + 1 ∧
      (alarm = 0 ∨ alarm ≤ s.cal.seconds ∨ standardOf w < alarm → t.set = s.set) ∧
      (alarm ≠ 0 → s.cal.seconds < alarm → alarm ≤ standardOf w →
        t.on_ 0x0504 1 = (alarm + (if period = 0 then 1 else (standardOf w - alarm) / period + 1) * period) % 2 ^ 48 ∧
        (∀ k, k ≠ key 0x0504 1 → t.eff k = s.eff k ∧ t.get k = s.get k))) ∧
  (∀ (p : Sender) (v : Nat) (s : State), v = 1 ∨ v = 2 → s.acceptsWrite p 0x0501 1 [v] →
    Does (.dstCommand p v) s fun t =>
      Carried { s with cal := { s.cal with dst := decide (v = 1), changes := t.cal.changes } } t ∧
      t.cal.changes.length = s.cal.changes.length + 1)

/-- TAMPER_CLEAR, accepted, of a mask: each input i of the three whose bit is set has its latch clear and TAMPER_FIRST 0, with its count, TAMPER_LAST and run of samples as they were; an
input whose bit is 0 is as it was. Only what carrying a request changes differs beside them. At the next sample an
enabled input whose latch is clear and which is still active, with its run at or above DEBOUNCE, latches again as a qualified activation: its latch is set, its count
is one more, saturating, and both times are the seconds counter. -/
def Obligations.TamperLatchesAreCleared : Prop :=
  (∀ (p : Sender) (mask i : Nat) (x : Tamper) (s : State), mask < 256 → i < 3 → s.cal.tamper[i]? = some x →
    s.acceptsWrite p 0x050A 1 [mask] →
    Does (.tamperClear p mask) s fun t =>
      t.cal.tamper[i]? = some (if bitAt mask i then { x with latch := false, first := 0 } else x) ∧
      Carried { s with cal := { s.cal with tamper := t.cal.tamper } } t) ∧
  (∀ (a b m : Bool) (i : Nat) (x : Tamper) (s : State), s.cal.tamper[i]? = some x → i < 3 →
    bitAt (s.on_ 0x0505 (i + 1)) 7 = true → bitAt (s.on_ 0x0505 (i + 1)) 3 = [a, b, m].getD i false →
    x.latch = false → field (s.on_ 0x0505 (i + 1)) 2 0 ≤ x.run →
    Does (.tamperSample a b m) s fun t =>
      t.cal.tamper[i]? = some { x with
        run := min 8 (x.run + 1), latch := true, first := s.cal.seconds, last := s.cal.seconds
        count := min (2 ^ 32 - 1) (x.count + 1) })

/-- Of a context n below 64. ZERO_CAPTURE n, accepted: its measurement runs for that many pairs with ZERO_STATUS 1; 0 stops it with
ZERO_STATUS 0; while the context is staging either is only held as staged. TEMPLATE_CAPTURE, accepted: the capture runs for the context, pairs and anchor it names, and with PAIRS 0 its status is
0. CTX_CONTROL with STAGE: STAGE stands with the STYLE and DEFINED there were, and new ones are held as staged. Without STAGE, on a
staging context with one write staged to another subindex, which the ledger admits: that write is the stored value, in CONFIG in force at once, and nothing is staged; on one that does not stage, its STYLE and DEFINED are stored. In each the
mismatch estimate of the context is 0, and beside the
settings, the ledger's report and the acoustic engine only what carrying a request changes differs. -/
def Obligations.CapturesAndStagedContexts : Prop :=
  (∀ (p : Sender) (n pairs : Nat) (c : Ctx) (s : State), n < 64 → s.ac.ctx[n]? = some c →
    (1 ≤ pairs → pairs < 65536 → s.acceptsWrite p (0x0900 + n) 0x1F (leBytes 2 pairs) →
      Does (.zeroCaptureStart p n pairs) s fun t =>
        t.ac.ctx[n]? = some (if s.staging n then { c with m := 0, staged := c.staged ++ [(ck n 0x1F, pairs)] } else { c with
          m := 0, zeroStatus := 1, zeroPairs := pairs, zeroSeen := 0, zeroGood := 0, zeroSum := 0, zeroLive := false }) ∧
        (∀ k, k ≠ n → t.ac.ctx[k]? = s.ac.ctx[k]?) ∧
        Carried { s with set := t.set, ac := { s.ac with ctx := t.ac.ctx } } t) ∧
    (s.acceptsWrite p (0x0900 + n) 0x1F [0, 0] →
      Does (.zeroCaptureStop p n) s fun t =>
        t.ac.ctx[n]? = some (if s.staging n then { c with m := 0, staged := c.staged ++ [(ck n 0x1F, 0)] }
          else { c with m := 0, zeroStatus := 0 }) ∧
        (∀ k, k ≠ n → t.ac.ctx[k]? = s.ac.ctx[k]?) ∧
        Carried { s with set := t.set, ac := { s.ac with ctx := t.ac.ctx } } t)) ∧
  (∀ (p : Sender) (n pairs anchor : Nat) (s : State), n < 64 → 1 ≤ pairs → pairs ≤ 1023 → anchor < 512 →
    s.acceptsWrite p 0x0A20 1 (leBytes 4 (n * 2 ^ 26 + pairs * 65536 + anchor)) →
    Does (.templateCaptureStart p n pairs anchor) s fun t =>
      Carried { s with set := t.set, ac := { s.ac with capture := { s.ac.capture with
        status := 1, ctx := n, pairs := pairs, anchor := anchor, used := 0, seen := 0, live := false, sum := [], half := []
        goods := 0 } } } t) ∧
  (∀ (p : Sender) (n : Nat) (s : State), n < 64 → s.acceptsWrite p 0x0A20 1 (leBytes 4 (n * 2 ^ 26)) →
    Does (.templateCaptureStop p n) s fun t =>
      Carried { s with set := t.set, ac := { s.ac with capture := { s.ac.capture with status := 0 } } } t) ∧
  (∀ (p : Sender) (n low : Nat) (c : Ctx) (s : State), n < 64 → low < 4 → s.ac.ctx[n]? = some c →
    s.acceptsWrite p (0x0900 + n) 1 [4 + low] →
    Does (.ctxStageSet p n low) s fun t =>
      (s.staging n = false → t.at_ (0x0900 + n) 1 = 4 + s.at_ (0x0900 + n) 1 % 4) ∧ (s.staging n = true → t.set = s.set) ∧
      t.ac.ctx[n]? = some { c with
        m := 0
        staged := if s.staging n = false ∧ low = s.at_ (0x0900 + n) 1 % 4 then c.staged else c.staged ++ [(ck n 1, low)] } ∧
      t.eff = s.eff ∧ (∀ k, k ≠ n → t.ac.ctx[k]? = s.ac.ctx[k]?) ∧
      Carried { s with set := t.set, ac := { s.ac with ctx := t.ac.ctx } } t) ∧
  (∀ (p : Sender) (n low : Nat) (c : Ctx) (s : State), n < 64 → low < 4 → s.ac.ctx[n]? = some c →
    s.acceptsWrite p (0x0900 + n) 1 [low] → (∀ l evs, s.ctxLedger n 1 low = some (l, evs) → evs = []) →
    (s.staging n = false →
      Does (.ctxStageApply p n low) s fun t =>
        t.at_ (0x0900 + n) 1 = low ∧ (s.mode = .config → t.on_ (0x0900 + n) 1 = low) ∧ (s.mode ≠ .config → t.eff = s.eff) ∧
        (t.ac.ctxAt n).staged = c.staged ∧ (t.ac.ctxAt n).m = 0 ∧
        Carried { s with set := t.set, ledger := t.ledger, ac := { s.ac with ctx := t.ac.ctx, capture := t.ac.capture } } t) ∧
    (∀ sub v : Nat, s.staging n = true → c.staged = [(ck n sub, v)] → 2 ≤ sub → sub ≤ 0x0E →
      Does (.ctxStageApply p n low) s fun t =>
        t.at_ (0x0900 + n) sub = v ∧ t.at_ (0x0900 + n) 1 = low ∧
        (s.mode = .config → t.on_ (0x0900 + n) sub = v ∧ t.on_ (0x0900 + n) 1 = low) ∧ (s.mode ≠ .config → t.eff = s.eff) ∧
        (t.ac.ctxAt n).staged = [] ∧ (t.ac.ctxAt n).m = 0 ∧
        Carried { s with set := t.set, ledger := t.ledger, ac := { s.ac with ctx := t.ac.ctx, capture := t.ac.capture } } t))

/-- FW_COMMAND 1, accepted, starts the verification again; FW_COMMAND 2 resets the core into the loader and leaves memory, settings, the mode
and the frame. FW_BLOCK stores its 256 bytes at its offset of the application partition and no other byte changes; FW_MIN_VERSION
takes its value; BOOT_KEY_HASH is programmed. A key change in an envelope of its role or a higher one, without the seal, installs the key that it unwraps for its role alone, and sets
that role's replay counter, failures and lockout to zero; where the unwrapping fails its integrity check nothing is installed. MAILBOX_IN, accepted, holds the bytes and sets local interrupt
17. -/
def Obligations.FirmwareKeysAndMailbox : Prop :=
  (∀ (p : Sender) (s : State), s.acceptsWrite p 0x1D00 4 [1] →
    Does (.fwCommandVerify p) s (Carried { s with core := { s.core with state := 1 } })) ∧
  (∀ (p : Sender) (s : State), s.acceptsWrite p 0x1D00 4 [2] →
    Does (.fwCommandLoader p) s fun t => t.core.state = 3 ∧ t.mem = s.mem ∧ t.set = s.set ∧ t.mode = s.mode ∧
      t.frame = { s.frame with waiting := t.frame.waiting, dynamic := t.frame.dynamic } ∧
      t.qty = s.qty ∧ t.core.resets = s.core.resets) ∧
  (∀ (p : Sender) (offset : Nat) (data : List Nat) (s : State), offset < 2 ^ 32 → data.length = 256 →
    s.acceptsWrite p 0x1D00 5 (leBytes 4 offset ++ data) →
    Does (.fwBlock p offset data) s fun t =>
      (∀ i, i < 256 → t.mem.read (0x10000000 + offset + i) = BitVec.ofNat 8 (natAt data i)) ∧
      (∀ a, a < 0x10000000 + offset ∨ 0x10000000 + offset + 256 ≤ a → t.mem.read a = s.mem.read a) ∧
      Carried { s with mem := t.mem } t) ∧
  (∀ (p : Sender) (version : Nat) (s : State), version < 2 ^ 32 → s.acceptsWrite p 0x1D00 6 (leBytes 4 version) →
    Does (.fwMinVersion p version) s (Carried { s with core := { s.core with fwMin := version } })) ∧
  (∀ (p : Sender) (role r c : Nat) (mac wrapped : List Nat) (x : Request) (s : State), role = 1 ∨ role = 2 →
    p.carrier = .auth r c mac ∨ p.carrier = .enveloped r c mac → x = s.carried p 0x1520 role wrapped → role ≤ r → r ≤ 3 →
    wrapped.length = 24 → s.mode ≠ .taper → s.acc.sealed = false → s.servesNow x → (s.expect x).formAbort x = abortOk →
    ((s.expect x).authenticate x).2 = (abortOk, { via := p.via, gen := s.sessionGen p.via, index := 0x1520, sub := role, data := wrapped
                                                  role := Role.ofCode r, env := some (Role.ofCode r) }) →
    Does (.keyChange p role wrapped) s fun t => match s.unwrapFor r wrapped with
      | some k =>
        t.acc.operatorKey = (if role = 1 then some k else s.acc.operatorKey) ∧
        t.acc.metrologyKey = (if role = 2 then some k else s.acc.metrologyKey) ∧
        (s.acc.replay.length = 3 → t.acc.replay[role - 1]? = some 0) ∧ (s.acc.failRun.length = 3 → t.acc.failRun[role - 1]? = some 0) ∧
        Carried { s with acc := { s.acc with
          operatorKey := t.acc.operatorKey, metrologyKey := t.acc.metrologyKey, lockout := setAt s.acc.lockout (role - 1) 0
          keyChanges := min (2 ^ 32 - 1) (s.acc.keyChanges + 1) } } t
      | none => Carried s t ∧ (p.via = .window → t.core.reqResult = abortRange ∧ t.core.reqBusy = false)) ∧
  (∀ (p : Sender) (hash : List Nat) (s : State), s.acceptsWrite p 0x1530 1 hash →
    Does (.bootKeyHash p hash) s (Carried { s with acc := { s.acc with bootHash := some hash } })) ∧
  (∀ (p : Sender) (data : List Nat) (s : State), s.acceptsWrite p 0x1D02 1 data →
    Does (.mailboxIn p data) s fun t =>
      t.at_ 0x1D02 1 = ofLe data ∧
      Carried { s with set := t.set, core := { s.core with mailUnread := true, l17 := true, wfi := t.core.wfi } } t)

/-- OD_WRITE, OD_WRITE_AUTH and AUTH_ENVELOPE of a write that is accepted. Of a clock or sensor setting, index 0x0400 to 0x04FF or 0x0B00
to 0x0BFF: the value is stored and in force, and every other setting stands. Of a flow or quantity setting that applies from the next boundary, index 0x0C00 to
0x10FF but QTY_CLEAR: the value is stored, what is in force stands, and one edit waits for the boundary. Beside the settings, and the ring of the flow
engine in the second case, only what carrying a request changes differs. -/
def Obligations.AcceptedWritesAreStored : Prop :=
  ∀ (c : Instr) (r : Request) (via : Via) (gen id index sub i j : Nat) (data value : List Nat) (s : State),
    c = .odWrite via gen id i j data ∧ r = s.asked via gen 2 i j id data ∨
    c = .odWriteAuth via gen id i j data ∧ r = s.asked via gen 3 i j id data ∨
    c = .authEnvelope via gen id data ∧ r = s.asked via gen 2 0x0150 1 id data →
    s.accepts r index sub value →
    (0x0400 ≤ index ∧ index ≤ 0x04FF ∨ 0x0B00 ≤ index ∧ index ≤ 0x0BFF →
      Does c s fun t =>
        t.at_ index sub = ofLe value ∧ t.on_ index sub = ofLe value ∧
        (∀ k, k ≠ key index sub → t.get k = s.get k ∧ t.eff k = s.eff k) ∧ Carried { s with set := t.set } t) ∧
    (0x0C00 ≤ index → index ≤ 0x10FF → ¬(index = 0x1007 ∧ sub = 5) →
      Does c s fun t =>
        t.at_ index sub = ofLe value ∧ (∀ k, k ≠ key index sub → t.get k = s.get k) ∧ t.eff = s.eff ∧
        t.set.edits = s.set.edits ++ [{ key := key index sub, value := ofLe value, due := .boundary }] ∧
        Carried { s with set := t.set, flow := { s.flow with ring := t.flow.ring } } t)

/-- OD_READ of a listed writable setting outside the two calendar banks, that is neither a command, nor empty, nor held by an engine, passed by the
checks of form: nothing changes beside what carrying a request changes. By the register window of the core the window is not
busy any more, REQ_RESULT shows OK with the length of the value, and the data begin with its bytes, least significant first. -/
def Obligations.ReadsReturnStoredValues : Prop :=
  ∀ (via : Via) (gen id index sub : Nat) (row : Row) (s : State),
    s.servesNow (s.asked via gen 1 index sub id []) →
    (s.expect (s.asked via gen 1 index sub id [])).formAbort (s.asked via gen 1 index sub id []) = abortOk →
    rowOf (key index sub) = some row → row.rw = true → 1 ≤ sub → readsZero index sub = false → readsEmpty index sub = false →
    customerIndex index = false → ¬(0x1210 ≤ index ∧ index ≤ 0x127F) →
    (index, sub) ∉ [(0x0140, 4), (0x1200, 2), (0x1530, 1), (0x1801, 1), (0x1D00, 6)] →
    Does (.odRead via gen id index sub) s fun t =>
      Carried s t ∧
      (via = .window →
        t.core.reqBusy = false ∧
        t.core.reqResult = (row.ty.encode (s.at_ index sub)).length % 32768 * 65536 ∧
        t.core.reqData.take (row.ty.encode (s.at_ index sub)).length = row.ty.encode (s.at_ index sub))

/-- OD_WRITE without an envelope of an entry that only reads, or that asks for a role above that of the way, which is OPERATOR
for the access port and PUBLIC for the others, passed by the checks of form: nothing changes beside what carrying a request changes, and of that
neither the counters of the security block nor the upload flag; the register window shows ACCESS. -/
def Obligations.WritesWithoutTheirRoleChangeNothing : Prop :=
  ∀ (via : Via) (gen id index sub : Nat) (data : List Nat) (row : Row) (s : State),
    s.servesNow (s.asked via gen 2 index sub id data) →
    (s.expect (s.asked via gen 2 index sub id data)).formAbort (s.asked via gen 2 index sub id data) = abortOk →
    index ≠ 0x0150 → customerIndex index = false → rowOf (key index sub) = some row →
    row.rw = false ∨ (if via.port = 0 then 1 else 0) < row.role.rank →
    Does (.odWrite via gen id index sub data) s fun t =>
      Carried s t ∧ t.acc = s.acc ∧ t.iol.uploadFlag = s.iol.uploadFlag ∧
      (via = .window → t.core.reqResult = abortAccess ∧ t.core.reqBusy = false)

/-- AUTH_ENVELOPE of a well-formed envelope passed by the checks of form, of a role that is not an ended FACTORY. While the role
is locked out, AUTH_FAILS alone counts it. With no lockout and a MAC that does not check, or a COUNTER that is not greater than the
role's: AUTH_FAILS and the run of the role count it, and the eighth sets the run to zero and locks the role out for 1 966 080 ticks, which is 60 s; the
replay counter, the settings and everything else stand. One that verifies sets the replay counter to COUNTER and the run to zero,
also where its write of an entry that only reads is then refused. -/
def Obligations.EnvelopesThatFailAreCounted : Prop :=
  ∀ (via : Via) (gen id n : Nat) (data : List Nat) (e : Envelope) (s : State),
    s.servesNow (s.asked via gen 2 0x0150 1 id data) →
    (s.expect (s.asked via gen 2 0x0150 1 id data)).formAbort (s.asked via gen 2 0x0150 1 id data) = abortOk →
    Envelope.of data = some e → e.role ≠ 3 ∨ s.acc.factoryEnded = false → natAt s.acc.failRun (e.role - 1) = n →
    (natAt s.acc.lockout (e.role - 1) ≠ 0 →
      Does (.authEnvelope via gen id data) s fun t =>
        t.acc = { s.acc with fails := min (2 ^ 32 - 1) (s.acc.fails + 1), failsOf := t.acc.failsOf } ∧
        Carried { s with acc := t.acc } t) ∧
    (natAt s.acc.lockout (e.role - 1) = 0 → s.macOk e = false ∨ e.counter ≤ natAt s.acc.replay (e.role - 1) →
      Does (.authEnvelope via gen id data) s fun t =>
        t.acc = { s.acc with
          fails := min (2 ^ 32 - 1) (s.acc.fails + 1), failsOf := t.acc.failsOf
          failRun := setAt s.acc.failRun (e.role - 1) (if n + 1 < 8 then n + 1 else 0)
          lockout := if n + 1 < 8 then s.acc.lockout else setAt s.acc.lockout (e.role - 1) 1966080 } ∧
        Carried { s with acc := t.acc } t) ∧
    (natAt s.acc.lockout (e.role - 1) = 0 → s.macOk e = true → natAt s.acc.replay (e.role - 1) < e.counter →
      (∃ row, rowOf (key e.index e.sub) = some row ∧ row.rw = false) → customerIndex e.index = false →
      Does (.authEnvelope via gen id data) s fun t =>
        t.acc = { s.acc with replay := setAt s.acc.replay (e.role - 1) e.counter
                             failRun := setAt s.acc.failRun (e.role - 1) 0 } ∧
        Carried { s with acc := t.acc } t)

/-- A HELLO record of a well-formed offer from GEN_MIN to GEN_MAX, with the device running. The core's is answered at once, and
accepted exactly where the range holds generation 3; it changes only the core's IN queue beside events. The SPI host's, with nothing of the SPI port waiting and the commit slot over, is accepted where GEN_MIN
is at most GEN_MAX and at most 3 and GEN_MAX is not 0, and its session then has the smaller of GEN_MAX and 3; the rest of the
queues is the answer. HELLO_EXCHANGE, accepted, of a field link with such an offer gives the link's session that generation in the same
way. -/
def Obligations.HelloGivesTheSessionItsGeneration : Prop :=
  (∀ (payload : List Nat) (lo hi : Nat) (s : State), s.linksUp = true → helloOffer payload = some (lo, hi) →
    Does (.hello true payload) s fun t =>
      EventsOnly { s with q := { s.q with coreIn := t.q.coreIn, coreHeld := t.q.coreHeld } } t ∧
      (lo ≤ 3 ∧ 3 ≤ hi ∨ t.events = s.events)) ∧
  (∀ (payload : List Nat) (lo hi : Nat) (s : State), s.linksUp = true → helloOffer payload = some (lo, hi) →
    s.q.spiIn = [] → s.frame.committing = false → s.portWaits 1 = false →
    (s.acc.waiting.any fun x => x.via.port == 1) = false → s.q.gens.length = 4 →
    Does (.hello false payload) s fun t =>
      t.q.gen 1 = (if lo ≤ hi ∧ lo ≤ 3 ∧ 1 ≤ hi then min hi 3 else s.q.gen 1) ∧
      EventsOnly { s with q := { s.q with gens := t.q.gens, spiOut := t.q.spiOut, spiHeld := t.q.spiHeld } } t) ∧
  (∀ (via : Via) (gen id lo hi : Nat) (data : List Nat) (s : State), via = .isdu ∨ via = .mbus →
    helloOffer (wordsOf 5 data) = some (lo, hi) → lo ≤ hi → lo ≤ 3 → 1 ≤ hi → s.q.gens.length = 4 →
    s.accepts (s.asked via gen 2 0x1801 1 id data) 0x1801 1 data →
    Does (.helloExchange via gen id data) s fun t =>
      t.q.gen via.port = min hi 3 ∧ t.mem = s.mem ∧ t.acc = s.acc ∧ t.set = s.set ∧ t.frame = s.frame ∧ t.mode = s.mode)

/-- With the core running. MSIP_WRITE sets the software interrupt to bit 0 of its value; LOCAL_ACK clears the local interrupts of its
bits; WDT_KICK 0xC3A5 sets the watchdog's count to zero and another value does nothing. CLAIM takes the eligible event of
the highest priority, the lower number among equals, out of the pending ones and shows its number, COUNT, CODE, ARG and frame; with
none eligible VALID reads clear and nothing else changes. WFI, in machine mode with its enables in mie, stops the core while no enabled interrupt is pending, and goes on at once while one
is. With the core not running these do nothing. MTIMECMP_MATCH with CE on and MTIMECMP reached sets the timer interrupt. RESERVATION_SPENT ends the reservation's hold once CORE_US have passed since t + 60 µs. Else they do nothing. Beside these only the
wait of WFI may end. -/
def Obligations.CoreInterruptsAndTimer : Prop :=
  (∀ (v mie : Nat) (c : Instr) (s : State), s.coreRuns = false →
    c = .msipWrite v ∨ c = .localAck v ∨ c = .wdtKick v ∨ c = .claim ∨ c = .wfi mie → exec c s = .next s) ∧
  (∀ (v : Nat) (s : State), s.coreRuns = true →
    (Does (.msipWrite v) s fun t => t = { s with core := { s.core with msip := v % 2 == 1, wfi := t.core.wfi } } ∧
      (∀ mie, s.core.wfi = some mie → v % 2 = 1 → bitAt mie 3 = true → t.core.wfi = none)) ∧
    exec (.localAck v) s = .next { s with core := { s.core with
      l16 := s.core.l16 && !bitAt v 16, l17 := s.core.l17 && !bitAt v 17, l18 := s.core.l18 && !bitAt v 18 } } ∧
    exec (.wdtKick v) s = .next (if v = 0xC3A5 then { s with core := { s.core with wdtCount := 0 } } else s)) ∧
  (∀ s : State, s.coreRuns = true →
    ((∀ q ∈ s.events, s.core.eligible q = false) → exec .claim s = .next { s with core := { s.core with claim := 0 } }) ∧
    ((∃ q ∈ s.events, s.core.eligible q = true) →
      Does .claim s fun t => ∃ p ∈ s.events, s.core.eligible p = true ∧
        (∀ q ∈ s.events, s.core.eligible q = true →
          s.core.prio q.ev < s.core.prio p.ev ∨ s.core.prio q.ev = s.core.prio p.ev ∧ p.ev ≤ q.ev) ∧
        t = { s with
          events := s.events.erase p
          core := { s.core with
            claim := 2 ^ 31 + p.ev, claimInfo := p.count % 256 * 65536 + p.code % 65536, claimArg := p.arg
            claimFrame := p.frame % 2 ^ 32 } })) ∧
  (∀ (mie : Nat) (s u : State), s.coreRuns = true →
    u = { s with core := { s.core with csr := { s.core.csr with mie := mie &&& 0x70888, user := false } } } →
    exec (.wfi mie) s = .next (if u.coreIrqs &&& (mie &&& 0x70888) = 0
      then { u with core := { u.core with wfi := some (mie &&& 0x70888), hold := false } } else u)) ∧
  (∀ s : State,
    (s.ceUp = true → s.core.mtimecmp ≤ s.pwr.mtime →
      Does .mtimecmpMatch s fun t => t = { s with core := { s.core with mtip := true, wfi := t.core.wfi } }) ∧
    (s.ceUp = false ∨ s.pwr.mtime < s.core.mtimecmp → exec .mtimecmpMatch s = .next s)) ∧
  (∀ (spent : Nat) (s : State), spent = us 60 + coreTime s.eff (framePhase s.eff s.frame.number) →
    (spent ≤ s.frame.nowQ → exec .reservationSpent s = .next { s with core := { s.core with hold := false } }) ∧
    (s.frame.nowQ < spent → exec .reservationSpent s = .next s))

/-- REQ_GO with value 1 by the running core while the window is not busy: BUSY stands and the request of the window waits in the commit slot, or is served where nothing of the port waits; else nothing changes. CUSTOMER_REQUEST_HELD with the core running its image, nothing held, and a request whose core work is admitted: it is held from that time, local
interrupt 16 is set and the window shows it; else nothing changes. CUST_DONE with value 1 by the running core, of a held request, with nothing else waiting: nothing is held any more, and
for IO-Link the master's response is the data, most significant byte first, where the core answers OK, or its abort code, STATE where the core may not
answer with it. CUST_TIMEOUT answers it with STATE and counts it once CUST_TIMEOUT ms have passed since its hold. Else they do nothing. -/
def Obligations.CustomerRequestsAreHeldAndAnswered : Prop :=
  (∀ (v : Nat) (r : Request) (s : State),
    r = { via := .window, gen := 3, hdr := 3, bad := decide (1044 < s.core.reqLen % 65536), op := field s.core.reqHdr 31 24
          index := s.core.reqHdr % 65536, sub := field s.core.reqHdr 23 16, id := 0
          data := s.core.reqData.take (s.core.reqLen % 65536) } →
    (s.coreRuns = true → v % 2 = 1 → s.core.reqBusy = false →
      (s.frame.committing = true ∨ s.portWaits 0 = true ∨ (s.acc.waiting.any fun x => x.via.port == 0) = true →
        exec (.reqGo v) s = .next { s with
          core := { s.core with reqBusy := true }, acc := { s.acc with waiting := s.acc.waiting ++ [r] } }) ∧
      (s.frame.committing = false → s.portWaits 0 = false → (s.acc.waiting.any fun x => x.via.port == 0) = false →
        exec (.reqGo v) s = .next (State.serveNow r { s with core := { s.core with reqBusy := true } }))) ∧
    (s.coreRuns = false ∨ v % 2 = 0 ∨ s.core.reqBusy = true → exec (.reqGo v) s = .next s)) ∧
  (∀ s : State,
    (s.admittedRequest = none ∨ s.core.held ≠ none ∨ s.core.state ≠ 2 ∨ s.frame.running = false →
      exec .customerRequestHeld s = .next s) ∧
    (∀ r : Request, s.admittedRequest = some r → s.core.held = none → s.core.state = 2 → s.frame.running = true →
      r ∈ s.acc.customer ∧ custJob r.via.port ∈ s.frame.waiting ∧
      Does .customerRequestHeld s fun t => ∃ info data,
        t = { s with
          acc := { s.acc with customer := s.acc.customer.erase r }
          core := { s.core with
            held := some r, heldAt := s.frame.now, l16 := true
            custHdr := r.op % 256 * 2 ^ 24 + r.sub % 256 * 65536 + r.index % 65536
            custInfo := info, custData := data, wfi := t.core.wfi } } ∧
        data.take r.data.length = r.data ∧ info % 65536 = r.data.length % 65536 ∧ bitAt info 16 = true)) ∧
  (∀ (v : Nat) (s : State),
    (s.coreRuns = false ∨ v % 2 = 0 ∨ s.core.held = none → exec (.custDone v) s = .next s) ∧
    (∀ r : Request, s.coreRuns = true → v % 2 = 1 → s.core.held = some r →
      s.acc.customer = [] → s.acc.waiting = [] → s.q.spiIn = [] →
      Does (.custDone v) s fun t =>
        t.core.held = none ∧ t.frame = s.frame.finish (custJob r.via.port) ∧ t.set = s.set ∧ t.mem = s.mem ∧ t.acc = s.acc ∧
        (r.via = .isdu → customerIndex r.index = true → 1 ≤ r.sub → r.sub < 256 →
          t.iol.busy = false ∧
          (s.core.custResult % 65536 = abortOk →
            t.iol.response = some (0, (s.core.custData.take (s.core.custResult / 65536 % 65536)).reverse)) ∧
          (s.core.custResult % 65536 = abortRange → t.iol.response = some (0x8030, []) ∧ t.iol.lastAbort = abortRange) ∧
          (s.core.custResult % 65536 = abortAuth → t.iol.response = some (0x8022, []) ∧ t.iol.lastAbort = abortState)))) ∧
  (∀ s : State,
    (s.core.held = none ∨ s.frame.now < s.core.heldAt + usNow (1000 * s.on_ 0x1D01 2) → exec .custTimeout s = .next s) ∧
    (∀ r : Request, s.core.held = some r → s.core.heldAt + usNow (1000 * s.on_ 0x1D01 2) ≤ s.frame.now →
      s.acc.customer = [] → s.acc.waiting = [] → s.q.spiIn = [] →
      Does .custTimeout s fun t =>
        t.core.held = none ∧ t.core.custTimeouts = min (2 ^ 32 - 1) (s.core.custTimeouts + 1) ∧
        t.frame = s.frame.finish (custJob r.via.port) ∧ t.set = s.set ∧ t.mem = s.mem ∧ t.acc = s.acc ∧
        (r.via = .isdu → 1 ≤ r.sub → t.iol.response = some (0x8022, []) ∧ t.iol.lastAbort = abortState)))

/-- With the core running. IN_DATA_POP takes the front word of the IN queue, 0 where it is empty, and lets answers that waited
follow. OUT_SUBMIT of words that form no whole records, or of a record that may not be sent, discards them and counts one link error of the access port; of one whole request record in the commit slot, the request waits; of sound records they are taken in order. MAILBOX_TAKEN clears the unread mark.
MAILBOX publishes the core's bytes and raises event 62. With the core not running these do nothing. BOOT_VERIFY_COMPLETE of a core under verification starts the image in machine mode at its ENTRY with PMP off where every step passes
and else stays in the loader with the first step that fails; an image without its MAGIC fails step 1; of another core it does nothing. -/
def Obligations.QueuesMailboxesAndBoot : Prop :=
  (∀ (v : Nat) (c : Instr) (s : State), s.coreRuns = false →
    c = .inDataPop ∨ c = .outSubmit v ∨ c = .mailboxTaken ∨ c = .mailbox → exec c s = .next s) ∧
  (∀ s : State, s.coreRuns = true →
    Does .inDataPop s fun t =>
      t.q.popped = s.q.coreIn.headD 0 ∧ (s.q.coreHeld = [] → t.q.coreIn = s.q.coreIn.drop 1 ∧ t.q.coreHeld = []) ∧
      t = { s with q := { s.q with popped := t.q.popped, coreIn := t.q.coreIn, coreHeld := t.q.coreHeld } }) ∧
  (∀ (v : Nat) (s : State), s.coreRuns = true →
    (v % 2 = 0 → exec (.outSubmit v) s = .next s) ∧
    (v % 2 = 1 →
      (wholeRecords s.q.coreOut.length s.q.coreOut = none ∨
        (∃ rs x, wholeRecords s.q.coreOut.length s.q.coreOut = some rs ∧ x ∈ rs ∧ x.bad = true) →
        Does (.outSubmit v) s fun t =>
          t.q.linkErrors = modAt s.q.linkErrors 0 (fun n => min (2 ^ 32 - 1) (n + 1)) ∧
          CountsOnly { s with q := { s.q with coreOut := [], linkErrors := t.q.linkErrors } } t) ∧
      (∀ x, wholeRecords s.q.coreOut.length s.q.coreOut = some [x] → x.bad = false → x.record.type = 6 → s.frame.committing = true →
        exec (.outSubmit v) s = .next { s with
          q := { s.q with coreOut := [] }, acc := { s.acc with waiting := s.acc.waiting ++ [s.requestOf .core x.record] } }) ∧
      (∀ rs, wholeRecords s.q.coreOut.length s.q.coreOut = some rs → (∀ x ∈ rs, x.bad = false) →
        exec (.outSubmit v) s = .next (rs.foldl (fun acc x =>
          if x.record.type = 8 then acc.answerHello .core x.record else acc.submit (acc.requestOf .core x.record))
          { s with q := { s.q with coreOut := [] } })))) ∧
  (∀ s : State, s.coreRuns = true →
    exec .mailboxTaken s = .next { s with core := { s.core with mailUnread := false } } ∧
    Does .mailbox s (EventsOnly { s with core := { s.core with mailPublished := s.core.mailOut } })) ∧
  (∀ s : State,
    (s.core.state ≠ 1 → exec .bootVerifyComplete s = .next s) ∧
    (s.core.state = 1 →
      Does .bootVerifyComplete s fun t =>
        t = { s with core := { s.core with
          state := if s.bootCheck = 0 then 2 else 3, failedStep := s.bootCheck
          secVersion := if s.bootCheck = 0 then ofLe (s.mem.readBytes 0x1000000C 4) else s.core.secVersion
          csr := if s.bootCheck = 0 then { s.core.csr with
            pc := ofLe (s.mem.readBytes 0x10000008 4), user := false, pmpcfg := List.replicate 16 0 } else s.core.csr } } ∧
        (s.mem.readBytes 0x10000000 4 ≠ [0x4B, 0x4C, 0x46, 0x49] → t.core.failedStep = 1)))

/-- CORE_MEMORY_WRITE of 1, 2 or 4 bytes by the running core or the DMA controller, inside the application FRAM below the device area, the SRAM or the backup
RAM, allowed by PMP where the core makes it: the bytes hold the value, least significant first, every other byte reads as before, and in the FRAM the cache lines it hits are invalid. One to a peripheral acts there. Where the firewall forbids it the access is recorded, with its address and its master, and no byte changes; the core takes the access fault, in machine mode at mtvec with mepc, mcause and mtval, the DMA controller stops with its error flag, as without one it does where the write is its last; one that PMP forbids
changes none either. FIREWALL_ACCESS_FAULT of a forbidden access does the same and of a permitted one nothing. The core's registers are first those that its program left. -/
def Obligations.MemoryWritesReachTheirBytesOrNone : Prop :=
  (∀ (addr width value : Nat) (dma last : Bool) (core : CoreAt) (s : State), s.coreRuns = false →
    exec (.coreMemoryWrite addr width value dma last core) s = .next s) ∧
  (∀ (addr width value : Nat) (last : Bool) (core : CoreAt) (s u : State) (user : Bool), s.coreRuns = true →
    width = 1 ∨ width = 2 ∨ width = 4 → u = s.coreAt core → user = u.core.csr.accessUser 2 →
    (0x10000000 ≤ addr ∧ addr + width ≤ 0x1005E000 ∨ 0x20000000 ≤ addr ∧ addr + width ≤ 0x20020000 ∨
      0x30000000 ≤ addr ∧ addr + width ≤ 0x30000100 → u.core.csr.pmpAllows addr width 2 user = true →
      Does (.coreMemoryWrite addr width value false last core) s fun t =>
        (∀ i, i < width → t.mem.read (addr + i) = BitVec.ofNat 8 (value / 256 ^ i)) ∧
        (∀ a, a < addr ∨ addr + width ≤ a → t.mem.read a = s.mem.read a) ∧
        CountsOnly { u with mem := t.mem, core := { u.core with icache := t.core.icache } } t ∧
        (addr < 0x20000000 → ∀ l, l ∈ t.core.icache ↔ (l ∈ u.core.icache ∧ (addr + width ≤ l ∨ l + 32 ≤ addr))) ∧
        (0x20000000 ≤ addr → t.core.icache = u.core.icache)) ∧
    (u.accessFaults addr 2 user = false → u.accessFaults (addr + width - 1) 2 user = false →
      (u.core.csr.pmpAllows addr width 2 user = true →
        ∃ v, CountsOnly u v ∧ exec (.coreMemoryWrite addr width value false last core) s = .next (v.targetWrite addr width value)) ∧
      (u.core.csr.pmpAllows addr width 2 user = false →
        Does (.coreMemoryWrite addr width value false last core) s
          (CountsOnly { u with core := { u.core with csr := u.core.csr.accessFault addr 2 } }))) ∧
    (u.accessFaults addr 2 user = true ∨ u.accessFaults (addr + width - 1) 2 user = true →
      Does (.coreMemoryWrite addr width value false last core) s
        (CountsOnly { u with
          core := { u.core with csr := u.core.csr.accessFault addr 2 }
          acc := { u.acc with
            firewallHits := min (2 ^ 32 - 1) (s.acc.firewallHits + 1), firewallLast := addr % 2 ^ 32, firewallMaster := 0 } }))) ∧
  (∀ (addr width value : Nat) (last : Bool) (core : CoreAt) (s : State), s.coreRuns = true → width = 1 ∨ width = 2 ∨ width = 4 →
    (0x10000000 ≤ addr ∧ addr + width ≤ 0x1005E000 ∨ 0x20000000 ≤ addr ∧ addr + width ≤ 0x20020000 ∨
      0x30000000 ≤ addr ∧ addr + width ≤ 0x30000100 →
      Does (.coreMemoryWrite addr width value true last core) s fun t =>
        (∀ i, i < width → t.mem.read (addr + i) = BitVec.ofNat 8 (value / 256 ^ i)) ∧
        (∀ a, a < addr ∨ addr + width ≤ a → t.mem.read a = s.mem.read a) ∧
        CountsOnly { s with
          mem := t.mem, core := { s.core with icache := t.core.icache, dmaActive := !last, dmaError := false } } t) ∧
    (s.accessFaults addr 2 false = true ∨ s.accessFaults (addr + width - 1) 2 false = true →
      Does (.coreMemoryWrite addr width value true last core) s
        (CountsOnly { s with
          core := { s.core with dmaActive := false, dmaError := true }
          acc := { s.acc with
            firewallHits := min (2 ^ 32 - 1) (s.acc.firewallHits + 1), firewallLast := addr % 2 ^ 32, firewallMaster := 1 } }))) ∧
  (∀ (addr access : Nat) (core : CoreAt) (s u : State), u = s.coreAt core →
    (u.coreRuns = true → u.accessFaults addr access (u.core.csr.accessUser access) = true →
      Does (.firewallAccessFault addr 0 access core) s fun t =>
        t.core.csr.mepc = u.core.csr.pc / 2 * 2 ∧ t.core.csr.mcause = (if access = 0 then 1 else 2 * access + 3) ∧
        t.core.csr.mtval = addr % 2 ^ 32 ∧ t.core.csr.user = false ∧ t.core.csr.pc = u.core.csr.mtvec / 4 * 4 ∧
        CountsOnly { u with
          core := { u.core with csr := u.core.csr.accessFault addr access }
          acc := { u.acc with
            firewallHits := min (2 ^ 32 - 1) (s.acc.firewallHits + 1), firewallLast := addr % 2 ^ 32, firewallMaster := 0 } } t) ∧
    (u.coreRuns = false ∨ u.accessFaults addr access (u.core.csr.accessUser access) = false →
      exec (.firewallAccessFault addr 0 access core) s = .next u)) ∧
  (∀ (addr master access : Nat) (core : CoreAt) (s : State), master ≠ 0 →
    (s.accessFaults addr access false = true →
      Does (.firewallAccessFault addr master access core) s
        (CountsOnly { s with
          core := if master = 1 then { s.core with dmaActive := false, dmaError := true } else s.core
          acc := { s.acc with
            firewallHits := min (2 ^ 32 - 1) (s.acc.firewallHits + 1), firewallLast := addr % 2 ^ 32
            firewallMaster := master % 8 } })) ∧
    (s.accessFaults addr access false = false → exec (.firewallAccessFault addr master access core) s = .next s)) ∧
  (∀ (a : Nat) (s : State),
    s.accessFaults a 2 false =
      !(decide (0x10000000 ≤ a ∧ a < 0x1005E000) || decide (0x20000000 ≤ a ∧ a < 0x20020000) ||
        decide (0x30000000 ≤ a ∧ a < 0x30000100) || decide (0x40000000 ≤ a ∧ a < 0x40003000) ||
        decide (0x40003008 ≤ a ∧ a < 0x4000300C) || decide (0x40004000 ≤ a ∧ a < 0x40005000)) ∧
    s.accessFaults a 2 true =
      !(decide (0x10000000 ≤ a ∧ a < 0x1005E000) || decide (0x20000000 ≤ a ∧ a < 0x20020000) ||
        decide (0x30000000 ≤ a ∧ a < 0x30000100) || decide (0x40000000 ≤ a ∧ a < 0x40001000) ||
        decide (0x40002000 ≤ a ∧ a < 0x40003000)) ∧
    s.accessFaults a 1 false =
      !(decide (a < 0x8000) || decide (0x10000000 ≤ a ∧ a < 0x10060000) || decide (0x20000000 ≤ a ∧ a < 0x20020000) ||
        decide (0x30000000 ≤ a ∧ a < 0x30000100) || decide (0x40000000 ≤ a ∧ a < 0x40005000)) ∧
    s.accessFaults a 0 false =
      !(decide (a < 0x8000) || decide (0x10000000 ≤ a ∧ a < 0x1005E000) || decide (0x20000000 ≤ a ∧ a < 0x20020000)))

/-- DEBUG_COMMAND with the seal set, in TAPER, or of a core held in reset or without CE has no effect, whatever it asks. Otherwise: 0 halts the core,
which leaves WFI, 1 resumes it; a read or write that the firewall forbids at its first or last byte is recorded; a read of the SRAM shows its bytes and changes nothing else; a write of 1, 2 or 4 bytes inside the application FRAM or the SRAM stores its bytes and no
others, and invalidates the cache lines it hits. 4 and 5 read and write a register of the halted core, a control and status register below 0x1000 or a general register from there on, general register 0 staying zero; of a core that is not halted, or of another request, nothing changes. -/
def Obligations.DebugPortObeysTheSeal : Prop :=
  (∀ (op addr width value : Nat) (s : State),
    s.acc.sealed = true ∨ s.mode = .taper ∨ s.core.state = 0 ∨ s.ceUp = false →
    exec (.debugCommand op addr width value) s = .next s) ∧
  (∀ (addr width value : Nat) (s : State), s.acc.sealed = false → s.mode ≠ .taper → s.core.state ≠ 0 → s.ceUp = true →
    exec (.debugCommand 0 addr width value) s = .next { s with core := { s.core with halted := true, wfi := none } } ∧
    exec (.debugCommand 1 addr width value) s = .next { s with core := { s.core with halted := false } } ∧
    (∀ op : Nat, op = 2 ∨ op = 3 → s.accessFaults addr (op - 1) false = true ∨ s.accessFaults (addr + width - 1) (op - 1) false = true →
      Does (.debugCommand op addr width value) s
        (CountsOnly { s with acc := { s.acc with
          firewallHits := min (2 ^ 32 - 1) (s.acc.firewallHits + 1), firewallLast := addr % 2 ^ 32, firewallMaster := 0 } })) ∧
    (width = 1 ∨ width = 2 ∨ width = 4 → 0x20000000 ≤ addr → addr + width ≤ 0x20020000 →
      exec (.debugCommand 2 addr width value) s = .next { s with core := { s.core with
        debugData := ofLe ((List.range width).map fun i => (s.mem.read (addr + i)).toNat) } }) ∧
    (width = 1 ∨ width = 2 ∨ width = 4 →
      0x20000000 ≤ addr ∧ addr + width ≤ 0x20020000 ∨ 0x10000000 ≤ addr ∧ addr + width ≤ 0x1005E000 →
      Does (.debugCommand 3 addr width value) s fun t =>
        (∀ i, i < width → t.mem.read (addr + i) = BitVec.ofNat 8 (value / 256 ^ i)) ∧
        (∀ a, a < addr ∨ addr + width ≤ a → t.mem.read a = s.mem.read a) ∧
        t = { s with mem := t.mem, core := { s.core with icache := t.core.icache } } ∧
        (0x20000000 ≤ addr → t.core = s.core) ∧
        (addr < 0x20000000 → ∀ l, l ∈ t.core.icache ↔ (l ∈ s.core.icache ∧ (addr + width ≤ l ∨ l + 32 ≤ addr)))) ∧
    (∀ op : Nat, (4 ≤ op ∧ s.core.halted = false) ∨ 5 < op → exec (.debugCommand op addr width value) s = .next s) ∧
    (s.core.halted = true → addr < 0x1000 →
      exec (.debugCommand 4 addr width value) s = .next { s with core := { s.core with debugData := s.csrRead addr } } ∧
      exec (.debugCommand 5 addr width value) s =
        .next { s with core := { s.core with csr := s.core.csr.write s.cyclesNow addr value } }) ∧
    (∀ n : Nat, s.core.halted = true → n < 32 →
      (∃ v, v = (if n = 0 then 0 else value % 2 ^ 32) ∧
        exec (.debugCommand 4 (0x1000 + n) width value) s = .next { s with core := { s.core with
          debugData := v, csr := { s.core.csr with x := setAt s.core.csr.x n v } } }) ∧
      exec (.debugCommand 5 (0x1000 + n) width value) s = .next (if n = 0 then s else { s with core := { s.core with
        csr := { s.core.csr with x := setAt s.core.csr.x n (value % 2 ^ 32) } } })) ∧
    (s.core.halted = true → 0x1020 ≤ addr →
      exec (.debugCommand 4 addr width value) s = .next s ∧ exec (.debugCommand 5 addr width value) s = .next s))

/-- PERF_OVERFLOW of a counter of block b that is enabled, counts its own events and stands at its last value, with its
block on: the counter is 0 and its OVF bit set; a next counter of the block that is enabled with CHAIN and below its last value is one higher, one without CHAIN stands, and the
counters of other blocks stand. Any other counter does not wrap. COUNT_LO_READ of a low word of the snapshot with CE on latches for its master the word that belongs
to it, and only that; a user-mode read while UEN is clear is recorded by the firewall and latches nothing; another word, or CE off, changes nothing. -/
def Obligations.CountersWrapAndAreReadWhole : Prop :=
  (∀ (b i : Nat) (s : State), s.perf.counts.length = 48 → s.perf.ovf.length = 48 →
    (b < 6 → i < 8 → (s.pwr.dom (blockDomain b)).on = true → bitAt (s.perfSel b i) 31 = true → bitAt (s.perfSel b i) 30 = false →
      s.perf.counts[8 * b + i]? = some (2 ^ 48 - 1) →
      Does (.perfOverflow b i) s fun t =>
        t.perf.counts[8 * b + i]? = some 0 ∧ t.perf.ovf[8 * b + i]? = some true ∧
        (∀ n, i < 7 → s.perf.counts[8 * b + i + 1]? = some n → bitAt (s.perfSel b (i + 1)) 31 = true →
          (bitAt (s.perfSel b (i + 1)) 30 = true → n < 2 ^ 48 - 1 → t.perf.counts[8 * b + i + 1]? = some (n + 1)) ∧
          (bitAt (s.perfSel b (i + 1)) 30 = false → n < 2 ^ 48 → t.perf.counts[8 * b + i + 1]? = some n)) ∧
        (∀ k, k < 8 * b ∨ 8 * b + 8 ≤ k → t.perf.counts[k]? = s.perf.counts[k]? ∧ t.perf.ovf[k]? = s.perf.ovf[k]?) ∧
        CountsOnly s t) ∧
    (6 ≤ b ∨ 8 ≤ i ∨ (s.pwr.dom (blockDomain b)).on = false ∨ bitAt (s.perfSel b i) 31 = false ∨ bitAt (s.perfSel b i) 30 = true ∨
      s.perf.counts[8 * b + i]? ≠ some (2 ^ 48 - 1) → exec (.perfOverflow b i) s = .next s)) ∧
  (∀ (master off : Nat) (user : Bool) (s : State),
    (s.ceUp = false → exec (.countLoRead master off user) s = .next s) ∧
    (s.ceUp = true → user = false ∨ s.perf.uen = true →
      (s.perf.cur.partner off = none → exec (.countLoRead master off user) s = .next s) ∧
      (∀ w : Nat, s.perf.cur.partner off = some w →
        Does (.countLoRead master off user) s fun t =>
          (master, off + 4, w) ∈ t.perf.latches ∧
          (∀ x, x ∈ t.perf.latches → x.1 = master → x.2.1 = off + 4 → x.2.2 = w) ∧
          (∀ x, x.1 ≠ master ∨ x.2.1 ≠ off + 4 → (x ∈ t.perf.latches ↔ x ∈ s.perf.latches)) ∧
          t = { s with perf := { s.perf with latches := t.perf.latches } })) ∧
    (s.ceUp = true → user = true → s.perf.uen = false →
      Does (.countLoRead master off user) s
        (CountsOnly { s with acc := { s.acc with
          firewallHits := min (2 ^ 32 - 1) (s.acc.firewallHits + 1), firewallLast := (0x40003000 + off) % 2 ^ 32
          firewallMaster := master % 8 } })))

/-- With the device running and LK on. A preamble of STATUS sends the status bytes and changes nothing else. A faulty preamble, or a WRITE whose words do not form whole
records or have no room, is discarded: the error mark stands and one link error of SPI is counted. A WRITE of one sound request record, with room for it, queues it in the
commit slot, and has it served at once where nothing waits before it; an unsound record counts one link error. READ sends the oldest whole records that fit its words, zeros where there is none, and those whole clocked out leave
the queue. Beside the queues only what counting and events change differs; with LK off nothing happens. -/
def Obligations.SpiTransactionsTakeEffect : Prop :=
  (∀ (pre words : List Nat) (n : Nat) (s : State), s.lkUp = false →
    exec (.spiStatus pre) s = .next s ∧ exec (.spiWrite pre words) s = .next s ∧ exec (.spiRead pre n) s = .next s) ∧
  (∀ (pre : List Nat) (s : State), s.lkUp = true → preambleFaulty pre = false → natAt pre 0 = 0 →
    exec (.spiStatus pre) s = .next { s with q := { s.q with status := s.spiStatusBytes, spiError := false } }) ∧
  (∀ (pre words : List Nat) (n : Nat) (c : Instr) (s : State), c = .spiStatus pre ∨ c = .spiWrite pre words ∨ c = .spiRead pre n →
    s.lkUp = true → preambleFaulty pre = true →
    Does c s fun t =>
      t.q.spiError = true ∧ t.q.status = s.spiStatusBytes ∧ t.q.linkErrors = modAt s.q.linkErrors 1 (fun k => min (2 ^ 32 - 1) (k + 1)) ∧
      t.q.spiIn = s.q.spiIn ∧ t.q.spiOut = s.q.spiOut ∧ t.q.coreIn = s.q.coreIn ∧ t.q.gens = s.q.gens ∧
      CountsOnly { s with q := t.q } t) ∧
  (∀ (pre words : List Nat) (s : State), s.lkUp = true → preambleFaulty pre = false → natAt pre 0 = 1 →
    (∀ x : InRec, preambleWords pre ≤ words.length → preambleWords pre ≤ 512 - s.q.spiInWords →
      wholeRecords (preambleWords pre) (words.take (preambleWords pre)) = some [x] →
      (x.bad = false → s.frame.committing = true →
        Does (.spiWrite pre words) s fun t =>
          t.q = { s.q with status := s.spiStatusBytes, spiError := false, spiIn := s.q.spiIn ++ [x.record] } ∧
          CountsOnly { s with q := t.q } t) ∧
      (x.bad = false → x.record.type = 6 → s.frame.committing = false → s.q.spiIn = [] → s.portWaits 1 = false →
        (s.acc.waiting.any fun r => r.via.port == 1) = false →
        ∃ v, CountsOnly { s with q := { s.q with status := s.spiStatusBytes, spiError := false } } v ∧
          exec (.spiWrite pre words) s = .next (v.serveNow (v.requestOf .spi x.record))) ∧
      (x.bad = true → s.frame.committing = true →
        Does (.spiWrite pre words) s fun t =>
          t.q = { s.q with status := s.spiStatusBytes, spiError := false
                           linkErrors := modAt s.q.linkErrors 1 fun k => min (2 ^ 32 - 1) (k + 1) } ∧
          CountsOnly { s with q := t.q } t)) ∧
    (wholeRecords (preambleWords pre) (words.take (preambleWords pre)) = none ∨ words.length < preambleWords pre ∨
        512 - s.q.spiInWords < preambleWords pre →
      Does (.spiWrite pre words) s fun t =>
        t.q = { s.q with status := s.spiStatusBytes, spiError := true
                         linkErrors := modAt s.q.linkErrors 1 fun k => min (2 ^ 32 - 1) (k + 1) } ∧
        CountsOnly { s with q := t.q } t)) ∧
  (∀ (pre : List Nat) (n : Nat) (s : State), s.lkUp = true → preambleFaulty pre = false → natAt pre 0 = 2 → s.q.spiHeld = [] →
    (s.q.spiOut = [] →
      Does (.spiRead pre n) s fun t =>
        t.q.sent = List.replicate (min n (preambleWords pre)) 0 ∧ t.q.spiOut = [] ∧ CountsOnly { s with q := t.q } t) ∧
    (∀ (o : OutRec) (os : List OutRec), s.q.spiOut = o :: os → preambleWords pre = o.record.size →
      (∀ r ∈ os, 2 ≤ r.record.size) → o.record.size = o.record.words.length →
      Does (.spiRead pre n) s fun t => t.q.sent = o.record.words.take n ∧
        t.q.spiOut = (if preambleWords pre ≤ n then os else s.q.spiOut) ∧ t.q.spiHeld = [] ∧ t.q.spiIn = s.q.spiIn ∧
        CountsOnly { s with q := t.q } t))

/-- IOL_WAKE with the device running: with IO-Link enabled the device is in STARTUP, its port has a session of generation 1, and LK is on; without, a session that was ends; in other states only the event is raised. IOL_M_SEQUENCE of
a sound master message in a session with LK on: the process data input due is swapped in, master command 3 takes STARTUP or PREOPERATE to OPERATE, 2 takes STARTUP to PREOPERATE, in OPERATE
the process data output, cut or filled to 32 octets, is swapped in with its valid flag, and a message that takes the pending event reports the oldest one. An unsound message is a link error and is not
answered; without a session nothing happens. IOL_FALLBACK, and IOL_SESSION_TIMEOUT 1 s after the last valid message, end a session: its generation, its HELLO answer and its open request are
gone; without a session, or earlier, they do nothing. -/
def Obligations.IoLinkSessionsRunAndEnd : Prop :=
  (∀ s : State,
    (s.linksUp = false → Does .iolWake s (EventsOnly s)) ∧
    (s.linksUp = true → s.q.gens.length = 4 → s.pwr.doms.length = 6 →
      Does .iolWake s fun t =>
        t.iol.state = (if bitAt (s.on_ 0x1802 1) 15 then 1 else 0) ∧ t.iol.config = s.on_ 0x1802 1 ∧ t.iol.heard = s.frame.now ∧
        t.q.gen 2 = (if bitAt (s.on_ 0x1802 1) 15 then 1 else 0) ∧
        (if bitAt (s.on_ 0x1802 1) 15 then (t.pwr.dom 4).on = true else t.pwr.doms = s.pwr.doms) ∧
        t.iol.response = none ∧ t.iol.busy = false ∧ t.iol.downloading = false ∧ t.iol.hello = List.replicate 20 0 ∧
        t.iol.uploadFlag = s.iol.uploadFlag ∧ t.iol.events = s.iol.events ∧
        EventsOnly { s with iol := t.iol, q := { s.q with gens := t.q.gens }, pwr := { s.pwr with doms := t.pwr.doms } } t)) ∧
  (∀ (cyc command : Nat) (sound valid takes : Bool) (pd : List Nat) (s u : State),
    u = { s with frame := s.frame.at_ cyc, iol := if 3200 ≤ (s.frame.at_ cyc).cyc then s.iol.swapPd else s.iol } →
    (s.lkUp = false ∨ s.iol.state = 0 → exec (.iolMSequence cyc sound command (pd, valid) takes) s = .next s) ∧
    (s.lkUp = true → s.iol.state ≠ 0 → sound = true → Does (.iolMSequence cyc sound command (pd, valid) takes) s fun t =>
      t.iol.state = (if command = 2 ∧ s.iol.state = 1 then 2
        else if command = 3 ∧ (s.iol.state = 1 ∨ s.iol.state = 2) then 3 else s.iol.state) ∧
      t.iol.lastStart = some (u.frame.base + 8 * cyc) ∧ t.iol.heard = u.frame.now ∧ t.iol.pdIn = u.iol.pdIn ∧
      (s.iol.state = 3 → 0 < s.iol.outLen →
        t.iol.pdOut = (pd.take s.iol.outLen ++ List.replicate 32 0).take 32 ∧ t.iol.pdOutValid = valid ∧ t.iol.pdOutNew = true) ∧
      (s.iol.state ≠ 3 ∨ s.iol.outLen = 0 → t.iol.pdOut = s.iol.pdOut ∧ t.iol.pdOutValid = s.iol.pdOutValid) ∧
      (takes = false ∨ s.iol.events = [] → t.iol.reply = u.mReply ∧ t.iol.events = s.iol.events) ∧
      (∀ e es, takes = true → s.iol.events = e :: es →
        t.iol.reply = iolEventOctets e ++ u.mReply ∧ t.iol.events = es ∧ t.iol.lastEvent = bytesOfWords e.words) ∧
      CountsOnly { u with iol := t.iol } t) ∧
    (s.lkUp = true → s.iol.state ≠ 0 → sound = false → Does (.iolMSequence cyc sound command (pd, valid) takes) s fun t =>
      t.iol = { u.iol with reply := [] } ∧
      t.q = { s.q with linkErrors := modAt s.q.linkErrors 2 fun k => min (2 ^ 32 - 1) (k + 1) } ∧
      CountsOnly { u with iol := t.iol, q := t.q } t)) ∧
  (∀ (c : Instr) (due : Bool) (s : State),
    c = .iolFallback ∧ due = true ∨ c = .iolSessionTimeout ∧ due = decide (s.iol.heard + usNow 1000000 ≤ s.frame.now) →
    (s.iol.state = 0 ∨ due = false → exec c s = .next s) ∧
    (s.iol.state ≠ 0 → due = true → s.q.gens.length = 4 → Does c s fun t =>
      t.iol.state = 0 ∧ t.q.gen 2 = 0 ∧ t.iol.hello = List.replicate 20 0 ∧ t.iol.response = none ∧ t.iol.busy = false ∧
      t.iol.downloading = false ∧ t.iol.pdOut = s.iol.pdOut ∧ t.iol.uploadFlag = s.iol.uploadFlag ∧
      t = { s with iol := t.iol, q := { s.q with gens := t.q.gens } }))

/-- In an IO-Link session with LK on and no request open. IOL_ISDU raises event 41; an index from 0x4000 up is answered 0x8011, a write of a
standard index that only reads 0x8023, a read of one of these with its value. A read of a listed dictionary setting in a generation that has it, outside the commit slot, is
answered with its value, most significant byte first. Otherwise nothing happens. Of the system commands in a session: upload start and end turn the upload on and off, the
end clearing the upload flag; download start, with a Data Storage role, begins an empty download; download end and store apply the writes of the download whole, or discard them and answer 0x8041; the store asks for an upload; break ends both. Each is answered, and nothing but the IO-Link device
and what the writes change differs. Without a session they do nothing. -/
def Obligations.IsduAndDataStorage : Prop :=
  (∀ (wr : Bool) (index sub : Nat) (data : List Nat) (s u : State),
    u = { s with iol := { (if 3200 ≤ s.frame.cyc then s.iol.swapPd else s.iol) with heard := s.frame.now } } →
    (s.lkUp = false ∨ s.iol.state = 0 ∨ s.iol.busy = true → exec (.iolIsdu wr index sub data) s = .next s) ∧
    (s.lkUp = true → s.iol.state ≠ 0 → s.iol.busy = false →
      (0x4000 ≤ index → Does (.iolIsdu wr index sub data) s fun t =>
        EventsOnly { u with iol := { u.iol with response := some (0x8011, []), busy := false } } t) ∧
      (wr = true → index ∈ [0x00, 0x01, 0x03, 0x20, 0x24, 0x25, 0x28, 0x29] → Does (.iolIsdu wr index sub data) s fun t =>
        EventsOnly { u with iol := { u.iol with response := some (0x8023, []), busy := false } } t) ∧
      (wr = false → index ∈ [0x00, 0x01, 0x20, 0x24, 0x25, 0x28, 0x29] → Does (.iolIsdu wr index sub data) s fun t =>
        EventsOnly { u with iol := { u.iol with response := some (0, (u.standardRead index sub).2), busy := false } } t) ∧
      (∀ row, wr = false → 0x0100 ≤ index → index < 0x3000 → 1 ≤ sub → rowOf (key index sub) = some row → row.rw = true →
        row.gen ≤ s.sessionGen .isdu → row.ty.bytes ≤ 232 → (∀ n, row.ty ≠ .octets n ∧ row.ty ≠ .text n) → readsZero index sub = false →
        readsEmpty index sub = false → ¬(0x1210 ≤ index ∧ index ≤ 0x127F) →
        (index, sub) ∉ [(0x0140, 4), (0x1200, 2), (0x1530, 1), (0x1801, 1), (0x1D00, 6)] → s.mode ≠ .taper →
        highestSub index (s.sessionGen .isdu) ≠ 0 → indexExists index = true →
        s.servesNow (s.asked .isdu (s.sessionGen .isdu) 1 index sub 0 []) →
        Does (.iolIsdu wr index sub data) s fun t =>
          t.iol.response = some (0, (leBytes row.ty.bytes (s.at_ index sub)).reverse) ∧ t.iol.busy = false ∧
          CountsOnly { u with iol := { u.iol with response := t.iol.response, busy := false } } t))) ∧
  (∀ (c : Instr) (s : State), s.iol.state = 0 →
    c = .paramUploadStart ∨ c = .paramUploadEnd ∨ c = .paramDownloadStart ∨ c = .paramDownloadEnd ∨ c = .paramDownloadStore ∨
      c = .paramBreak → exec c s = .next s) ∧
  (∀ s : State, s.iol.state ≠ 0 →
    exec .paramUploadStart s = .next { s with iol := { s.iol with uploading := true, response := some (0, []), busy := false } } ∧
    exec .paramUploadEnd s = .next { s with iol := { s.iol with
      uploading := false, uploadFlag := false, response := some (0, []), busy := false } } ∧
    (s.on_ 0x1803 0x11 ≠ 0 → exec .paramDownloadStart s = .next { s with iol := { s.iol with
      downloading := true, download := [], response := some (0, []), busy := false } }) ∧
    (s.on_ 0x1803 0x11 = 0 → exec .paramDownloadStart s = .next { s with iol := { s.iol with
      response := some (0x8023, []), busy := false } }) ∧
    exec .paramBreak s = .next { s with iol := { s.iol with
      downloading := false, download := [], uploading := false, response := some (0, []), busy := false } } ∧
    (s.iol.downloading = true → s.iol.download = [] →
      exec .paramDownloadEnd s = .next { s with iol := { s.iol with
        downloading := false, response := some (0, []), busy := false } } ∧
      exec .paramDownloadStore s = .next { s with iol := { s.iol with
        downloading := false, uploadFlag := true, response := some (0, []), busy := false } })) ∧
  (∀ (c : Instr) (store : Bool) (s : State), s.iol.state ≠ 0 →
    c = .paramDownloadEnd ∧ store = false ∨ c = .paramDownloadStore ∧ store = true →
    (s.iol.downloading = false → exec c s = .next { s with iol := { s.iol with
      response := some (if s.on_ 0x1803 0x11 = 0 then 0x8023 else 0, []), busy := false } }) ∧
    (∀ v, s.iol.downloading = true → s.applyDownload s.iol.download = some v →
      exec c s = .next { v with iol := { v.iol with
        downloading := false, download := [], uploadFlag := s.iol.uploadFlag || store, response := some (0, []), busy := false } }) ∧
    (s.iol.downloading = true → s.applyDownload s.iol.download = none →
      exec c s = .next { s with iol := { s.iol with
        downloading := false, download := [], response := some (0x8041, []), busy := false } }) ∧
    (∀ (index sub : Nat) (data : List Nat) (rest : List (Nat × Nat × List Nat)), s.iol.downloading = true →
      s.iol.download = (index, sub, data) :: rest → s.dsItems.contains (index, sub) = false →
      s.applyDownload s.iol.download = none))

/-- With the device running and LK on, of a frame addressed to the device; broadcast 255 is acted on without an answer. SND_NKE is acknowledged with E5, begins a session of generation 1 and ends the selection and the FCB. MBUS_APPLICATION_RESET is
acknowledged and the next telegram is the first; MBUS_BAUD_CHANGE is acknowledged and its rate taken; MBUS_SELECTION that matches selects the device and is acknowledged, one that
does not match deselects it in silence. A faulty frame counts one link error and is not answered. MBUS_SET_PRIMARY_ADDRESS where the
address is not 0, or in TAPER, and a frame that Table 14.11 does not list count one. MBUS_SESSION_IDLE ends a session, MBUS_BAUD_REVERT takes the stored rate, each once its idle time has passed. A frame to another address, and any with LK off, changes nothing. -/
def Obligations.MBusSessionsAndAddresses : Prop :=
  (∀ (addr : Nat) (s : State), s.lkUp = true → s.mbusAddressed addr = true → s.q.gens.length = 4 →
    (Does (.sndNke addr) s fun t =>
      t.mbus.sent = (if addr = 255 then [] else [0xE5]) ∧ t.mbus.session = true ∧ t.q.gen 3 = 1 ∧ t.mbus.fcb = none ∧
      t.mbus.selected = false ∧ t.mbus.heard = s.frame.absTick ∧ t.mbus.request = none ∧ t.mbus.answer = [] ∧
      CountsOnly { s with mbus := t.mbus, q := { s.q with gens := t.q.gens }
                          acc := { s.acc with waiting := s.acc.waiting.filter fun r => r.via.port != 3 } } t) ∧
    (∀ fcb : Bool,
      Does (.mbusApplicationReset addr fcb) s fun t =>
        CountsOnly { s with mbus := { s.mbus with
          heard := s.frame.absTick, sent := if addr = 255 then [] else [0xE5], telegram := 1 } } t) ∧
    (∀ (ci : Nat) (fcb : Bool), 0xB8 ≤ ci → ci ≤ 0xBD → Does (.mbusBaudChange addr ci fcb) s fun t =>
      CountsOnly { s with mbus := { s.mbus with
        heard := s.frame.absTick, sent := if addr = 255 then [] else [0xE5], baud := ci - 0xB8 } } t) ∧
    (∀ (value : Nat) (fcb : Bool), s.on_ 0x1808 1 ≠ 0 ∨ s.mode = .taper → Does (.mbusSetPrimaryAddress addr value fcb) s fun t =>
      CountsOnly { s with mbus := { s.mbus with heard := s.frame.absTick, sent := [] }
                          q := { s.q with linkErrors := modAt s.q.linkErrors 3 fun k => min (2 ^ 32 - 1) (k + 1) } } t) ∧
    (∀ c ci : Nat, Does (.mbusFrameIgnored false addr c ci) s fun t =>
      CountsOnly { s with mbus := { s.mbus with heard := s.frame.absTick, sent := [] }
                          q := { s.q with linkErrors := modAt s.q.linkErrors 3 fun k => min (2 ^ 32 - 1) (k + 1) } } t)) ∧
  (∀ (addr c ci : Nat) (s : State), s.lkUp = true →
    Does (.mbusFrameIgnored true addr c ci) s fun t =>
      CountsOnly { s with q := { s.q with linkErrors := modAt s.q.linkErrors 3 fun k => min (2 ^ 32 - 1) (k + 1) } } t) ∧
  (∀ (fcb : Bool) (id m v d : Nat) (s : State), s.lkUp = true →
    (s.selectionMatches id m v d = true → Does (.mbusSelection fcb id m v d) s fun t =>
      CountsOnly { s with mbus := { s.mbus with selected := true, heard := s.frame.absTick, sent := [0xE5] } } t) ∧
    (s.selectionMatches id m v d = false →
      (s.mbusAddressed 253 = false →
        exec (.mbusSelection fcb id m v d) s = .next { s with mbus := { s.mbus with selected := false } }) ∧
      (s.mbusAddressed 253 = true → Does (.mbusSelection fcb id m v d) s fun t =>
        CountsOnly { s with mbus := { s.mbus with selected := false, heard := s.frame.absTick, sent := [] } } t))) ∧
  (∀ (addr ci value op id index sub : Nat) (data : List Nat) (fcb : Bool) (c : Instr) (s : State),
    s.lkUp = false ∨ s.mbusAddressed addr = false →
    c = .sndNke addr ∨ c = .reqUd2 addr fcb ∨ c = .reqUd1 addr fcb ∨ c = .mbusApplicationReset addr fcb ∨
      c = .mbusBaudChange addr ci fcb ∨ c = .mbusSetPrimaryAddress addr value fcb ∨ c = .mbusFrameIgnored false addr op ci ∨
      c = .mbusDictionaryRequest addr fcb op id index sub data →
    exec c s = .next s) ∧
  (∀ s : State,
    (s.mbus.session = false ∨ s.frame.absTick < s.mbus.heard + 32768 * s.on_ 0x1808 8 → exec .mbusSessionIdle s = .next s) ∧
    (s.mbus.session = true → s.mbus.heard + 32768 * s.on_ 0x1808 8 ≤ s.frame.absTick → s.q.gens.length = 4 →
      Does .mbusSessionIdle s fun t => t.q.gen 3 = 0 ∧
        t = { s with
          mbus := { s.mbus with session := false, request := none, answer := [], hello := List.replicate 20 0 }
          q := { s.q with gens := t.q.gens }
          acc := { s.acc with waiting := s.acc.waiting.filter fun r => r.via.port != 3 } }) ∧
    (s.mbus.heard + 32768 * 600 ≤ s.frame.absTick →
      exec .mbusBaudRevert s = .next { s with mbus := { s.mbus with baud := s.on_ 0x1808 6 } }) ∧
    (s.frame.absTick < s.mbus.heard + 32768 * 600 → exec .mbusBaudRevert s = .next s))

/-- With the device running and LK on, of a frame addressed to the device; under broadcast 255 nothing is sent. REQ_UD2 and REQ_UD1 under an unchanged FCB after an RSP_UD repeat it. Under a toggled FCB, REQ_UD2 makes
a new RSP_UD: the long header with the next access number, then the records of the telegram that is due; REQ_UD1 with no error flag left
is answered with E5, and with flags left by a new RSP_UD that carries them. MBUS_SET_PRIMARY_ADDRESS from 1 to 250, at address 0 in a session outside TAPER, sets the address and is
acknowledged. MBUS_DICTIONARY_REQUEST with none open is acknowledged, and in the commit slot it waits; with one open it counts a link error. -/
def Obligations.MBusAnswersItsRequests : Prop :=
  (∀ (addr : Nat) (fcb : Bool) (c : Instr) (s : State), s.lkUp = true → s.mbusAddressed addr = true →
    c = .reqUd2 addr fcb ∨ c = .reqUd1 addr fcb →
    s.mbus.fcb = some (if fcb then 1 else 0) → s.mbus.last ≠ [] →
    Does c s fun t => CountsOnly { s with mbus := { s.mbus with
      heard := s.frame.absTick, sent := if addr = 255 then [] else s.mbus.last } } t) ∧
  (∀ (addr left : Nat) (fcb : Bool) (s : State), s.lkUp = true → s.mbusAddressed addr = true →
    s.mbus.fcb ≠ some (if fcb then 1 else 0) ∨ s.mbus.last = [] → left = s.mbus.flags - (s.mbus.flags &&& s.mbus.shown) →
    (Does (.reqUd2 addr fcb) s fun t =>
      t.mbus.accessNo = (s.mbus.accessNo + 1) % 256 ∧ t.mbus.fcb = some (if fcb then 1 else 0) ∧ t.mbus.flags = left ∧
      t.mbus.sent = (if addr = 255 then [] else t.mbus.last) ∧ t.mbus.heard = s.frame.absTick ∧
      t.mbus.last.take 5 = 0x72 :: leBytes 4 (s.on_ 0x1808 2) ∧ natAt t.mbus.last 9 = t.mbus.accessNo ∧
      t.mbus.last.drop 13 = t.mbus.pages.getD (s.mbus.telegram - 1) [] ∧
      (s.mbus.telegram ≠ 1 → t.mbus.pages = s.mbus.pages) ∧
      CountsOnly { s with mbus := t.mbus } t) ∧
    (left = 0 → Does (.reqUd1 addr fcb) s fun t =>
      CountsOnly { s with mbus := { s.mbus with
        heard := s.frame.absTick, last := [0xE5], sent := if addr = 255 then [] else [0xE5]
        fcb := some (if fcb then 1 else 0), flags := 0, shown := 0 } } t) ∧
    (left ≠ 0 → Does (.reqUd1 addr fcb) s fun t =>
      t.mbus.last.drop 13 = [0x07, 0xFD, 0x17] ++ leBytes 8 left ∧ natAt t.mbus.last 9 = t.mbus.accessNo ∧
      CountsOnly { s with mbus := { s.mbus with
        heard := s.frame.absTick, last := t.mbus.last, sent := if addr = 255 then [] else t.mbus.last
        accessNo := (s.mbus.accessNo + 1) % 256, fcb := some (if fcb then 1 else 0), flags := left, shown := left } } t)) ∧
  (∀ (addr value : Nat) (fcb : Bool) (s : State), s.lkUp = true → s.mbusAddressed addr = true → s.on_ 0x1808 1 = 0 →
    1 ≤ value → value ≤ 250 → s.mode ≠ .taper → s.modePending = none → s.acc.sealed = false →
    Does (.mbusSetPrimaryAddress addr value fcb) s fun t =>
      t.on_ 0x1808 1 = value ∧ t.mbus.sent = (if addr = 255 then [] else [0xE5]) ∧ t.mem = s.mem ∧ t.acc = s.acc ∧
      t.frame = s.frame) ∧
  (∀ (addr op id index sub : Nat) (fcb : Bool) (data : List Nat) (s : State), s.lkUp = true → s.mbusAddressed addr = true →
    (s.mbus.request = none →
      Does (.mbusDictionaryRequest addr fcb op id index sub data) s fun t =>
        (addr ≠ 255 → t.mbus.sent = [0xE5]) ∧
        (s.frame.committing = true →
          t.mbus.request.isSome = true ∧ t.acc.waiting.length = s.acc.waiting.length + 1 ∧
          CountsOnly { s with mbus := t.mbus, acc := { s.acc with waiting := t.acc.waiting } } t)) ∧
    (s.mbus.request.isSome = true →
      Does (.mbusDictionaryRequest addr fcb op id index sub data) s fun t =>
        CountsOnly { s with mbus := { s.mbus with heard := s.frame.absTick, sent := [] }
                            q := { s.q with linkErrors := modAt s.q.linkErrors 3 fun k => min (2 ^ 32 - 1) (k + 1) } } t))

/-- With PL_CONFIG ENABLE clear a crossing, or a missing one, changes nothing. A crossing first keeps, while the tracker is locked, whether the half-cycle that it ends
holds a pulse, of the last 15 that alternate in polarity; a missing one forgets them. A rising crossing with TM on enters the stop of TDC input 18 into its gate. The first crossing of a
polarity is its seed; without a fitted line, one within 1% of P_m of k P_m after the last, k from 1 to 8, is accepted, and any other is the new seed; with a fitted line, one within 100 µs of an index after
the last is accepted, and any other is counted. The tracker locks with the 16th accepted rising crossing in a row. A rejected rising crossing and a missing one spend the good run; the eighth in a row
unlocks: both fits are discarded, and a transmission is withdrawn and counted. PL_TRANSMIT_PULSE within 20 µs of the next pulse that the fit predicts raises PLE and starts that pulse at its time; else nothing happens.
PL_TRANSMISSION_END 50 µs after the last pulse: PLE falls, the transmission is over and counted, and the POLL after a wake pattern follows; before, nothing happens. With a transmission its waiting edits apply. -/
def Obligations.CrossingsAndPulsesOfTheMains : Prop :=
  (∀ (rising : Bool) (time : Nat) (m : CrossingMeas) (s : State),
    (s.plOn = false → exec (.plZeroCrossing rising time m) s = .next s) ∧
    (s.plOn = false ∨ s.pl.rising = [] → exec .plCrossingMissed s = .next s)) ∧
  (∀ (rising : Bool) (time : Nat) (m : CrossingMeas) (s w u : State), s.plOn = true →
    w = { s with pl := { s.pl with
      sensed := match m.half with
        | none => []
        | some h => if s.pl.locked then (((!rising), s.pulseIn (!rising) h) ::
            (if s.pl.sensed.head?.map Prod.fst = some (!rising) then [] else s.pl.sensed)).take 15 else [] } } →
    (m.input18 = none ∨ rising = false ∨ (s.pwr.dom 2).on = false → u = w) →
    (∀ stop : Nat × Nat, m.input18 = some stop → rising = true → (s.pwr.dom 2).on = true →
      u = { w with
        ac := { s.ac with gate18 := gateLast 16 (gateStops [stop] s.ac.gate18) }
        pl := { w.pl with
          period18 := ((s.period18Of (gateLast 16 (gateStops [stop] s.ac.gate18))).map fun p => (p, s.frame.number)).or s.pl.period18 } }) →
    (u.pl.crossings rising = [] → exec (.plZeroCrossing rising time m) s = .next (u.crossed rising true [time])) ∧
    (∀ l : Nat, (u.pl.crossings rising).length < 3 ∨ u.zcLine rising = none → (u.pl.crossings rising).getLast? = some l →
      ((∃ k : Nat, 1 ≤ k ∧ k ≤ 8 ∧ |(time : Rat) - (l : Rat) - (k : Rat) * u.mainsPeriod| ≤ u.mainsPeriod / 100) →
        exec (.plZeroCrossing rising time m) s = .next (u.crossed rising false (u.pl.crossings rising ++ [time]))) ∧
      ((∀ k : Nat, 1 ≤ k → k ≤ 8 → u.mainsPeriod / 100 < |(time : Rat) - (l : Rat) - (k : Rat) * u.mainsPeriod|) →
        exec (.plZeroCrossing rising time m) s = .next (u.crossed rising true [time]))) ∧
    (∀ (p a : Rat) (last : Nat), u.zcLine rising = some (p, a, last) →
      (∀ n : Int, 1000 ≤ p → (last : Int) < n → |(time : Rat) - (a + p * (n : Rat))| ≤ 1048576 / 10000 →
        exec (.plZeroCrossing rising time m) s = .next (u.crossed rising false
          ((u.pl.crossings rising ++ [time]).drop ((u.pl.crossings rising).length - 15)))) ∧
      ((∀ n : Int, (last : Int) < n → 1048576 / 10000 < |(time : Rat) - (a + p * (n : Rat))|) → rising = false →
        exec (.plZeroCrossing rising time m) s = .next { u with
          pl := { u.pl with rejects := min (2 ^ 32 - 1) (u.pl.rejects + 1) } })) ∧
    (∀ (c : Instr) (v : State),
      (c = .plCrossingMissed ∧ s.pl.rising ≠ [] ∧ v = { s with pl := { s.pl with sensed := [] } }) ∨
        (c = .plZeroCrossing true time m ∧ rising = true ∧
          (∃ (p a : Rat) (last : Nat), u.zcLine true = some (p, a, last) ∧
            ∀ n : Int, (last : Int) < n → 1048576 / 10000 < |(time : Rat) - (a + p * (n : Rat))|) ∧
          v = { u with pl := { u.pl with rejects := min (2 ^ 32 - 1) (u.pl.rejects + 1) } }) →
      (v.pl.badRun < 7 → exec c s = .next { v with pl := { v.pl with badRun := v.pl.badRun + 1, goodRun := 0 } }) ∧
      (7 ≤ v.pl.badRun →
        (s.pl.tx = none → exec c s = .next { v with pl := v.pl.unlocked }) ∧
        (s.pl.tx ≠ none → exec c s = .next ({ v with pl := v.pl.unlocked } : State).plEdits.plRest) ∧
        ((∀ e ∈ s.set.edits, e.due ≠ .txEnd) → exec c s = .next { v with pl := v.pl.unlocked })))) ∧
  (∀ (cyc : Nat) (s : State),
    (s.plOn = false ∨ s.pl.locked = false ∨ s.nextPulse = none ∨
        (∃ p, s.nextPulse = some p ∧ (s.frame.base + 8 * cyc + usNow 20 < p ∨ p + usNow 20 < s.frame.base + 8 * cyc)) →
      exec (.plTransmitPulse cyc) s = .next s) ∧
    (∀ (p : Nat) (x : PlTx), s.plOn = true → s.pl.locked = true → s.pl.tx = some x → s.nextPulse = some p →
      p ≤ s.frame.base + 8 * cyc + usNow 20 → s.frame.base + 8 * cyc ≤ p + usNow 20 →
      Does (.plTransmitPulse cyc) s fun t =>
        (∃ y, t.pl.tx = some { x with sent := x.sent + 1, after := y }) ∧
        t.pl = { s.pl with ple := true, pulseAt := some (s.frame.base + 8 * cyc), tx := t.pl.tx } ∧
        CountsOnly { s with frame := { s.frame.at_ cyc with pulsesSent := s.frame.pulsesSent + 1 }, pl := t.pl } t)) ∧
  (∀ s : State,
    (s.pl.tx = none ∨ (∃ x, s.pl.tx = some x ∧ (x.admitted = false ∨ x.sent ≠ x.halves.length)) ∨
        (s.frame.running = true ∧ s.frame.endCyc < s.pleFall) → exec .plTransmissionEnd s = .next s) ∧
    (∀ x : PlTx, s.pl.tx = some x → x.admitted = true → x.sent = x.halves.length →
      s.frame.running = false ∨ s.pleFall ≤ s.frame.endCyc →
      (s.pl.txNext = none →
        (∃ v, CountsOnly { s with
            frame := s.frame.at_ s.pleFall
            pl := { s.pl with tx := none, pulseAt := none, ple := false, txFrames := min (2 ^ 32 - 1) (s.pl.txFrames + 1) } } v ∧
          exec .plTransmissionEnd s = .next v.plEdits.plRest ∧
          (s.plOn = true → (∀ e ∈ s.set.edits, e.due ≠ .txEnd) → v.plEdits.plRest = v))) ∧
      (∀ n : PlTx, s.pl.txNext = some n → n.admitted = false →
        Does .plTransmissionEnd s fun t =>
          (∃ y, t.pl.tx = some y ∧ y.bytes = n.bytes ∧ y.sent = n.sent ∧ y.admitted = (s.pl.locked && s.admitsPulses)) ∧
          CountsOnly { s with
            frame := s.frame.at_ s.pleFall
            pl := { s.pl with tx := t.pl.tx, txNext := none, pulseAt := none, ple := false
                              txFrames := min (2 ^ 32 - 1) (s.pl.txFrames + 1) } } t)))

/-- PL_FRAME and PL_WAKE_PATTERN with the link off or not locked change nothing. With one pair per bit and no quiet value kept, a pair of sum d
decides ONE at d at or above THRESHOLD, ZERO at d at or below its negative, and NONE between. Of the pairs of a frame on a locked link: with no preamble only the quiet values are
kept; one that is discarded is counted, by its checksum or its erased bits; a good frame that is not for the device changes nothing
more. A good frame for the device is counted; of a slave its partner has a session that has just heard of it, and a sound POLL to its own address waits to be served; the REPLY that a master waits for waits to
be taken. PL_WAKE_PATTERN with the last 15 half-cycles sensed holding pulses at the even places and none between raises PL_FRAME with CODE 0x0100; any other changes
nothing. -/
def Obligations.PowerlineFramesAreReceived : Prop :=
  (∀ (pairs : List ((Nat × Nat) × (Nat × Nat))) (s : State), s.plOn = false ∨ s.pl.locked = false →
    exec (.plFrame pairs) s = .next s ∧ exec .plWakePattern s = .next s) ∧
  (∀ (p1 q1 p2 q2 : Nat) (s : State), s.plRepeat = 1 → s.pl.quietPos = [] → s.pl.quietNeg = [] →
    (s.receive [((p1, q1), (p2, q2))]).bits =
      [if (s.on_ 0x1900 5 : Int) ≤ ((p1 : Int) - q1) - ((p2 : Int) - q2) then 1
       else if ((p1 : Int) - q1) - ((p2 : Int) - q2) ≤ -(s.on_ 0x1900 5 : Int) then 0 else 2]) ∧
  (∀ s : State, s.plOn = true → s.pl.locked = true →
    (s.pl.sensed.length = 15 → (∀ i, i < 15 → ((s.pl.sensed.getD i (false, false)).2 = true ↔ i % 2 = 0)) →
      exec .plWakePattern s = .next (s.raise { ev := 44, code := 0x0100, arg := 0, src := 0x4F, cls := 2 })) ∧
    (s.pl.sensed.length ≠ 15 ∨ (∃ i, i < 15 ∧ ¬((s.pl.sensed.getD i (false, false)).2 = true ↔ i % 2 = 0)) →
      exec .plWakePattern s = .next s) ∧
    (∀ (positive : Bool) (h : Nat × Nat), s.pl.quietPos = [] → s.pl.quietNeg = [] →
      (s.pulseIn positive h = true ↔ (s.on_ 0x1900 5 : Int) ≤ (h.1 : Int) - h.2))) ∧
  (∀ (pairs : List ((Nat × Nat) × (Nat × Nat))) (s : State), s.plOn = true → s.pl.locked = true →
    (judgeFrame (s.receive pairs).bits.reverse = .none →
      exec (.plFrame pairs) s = .next { s with
        pl := { s.pl with quietPos := (s.receive pairs).pos, quietNeg := (s.receive pairs).neg } }) ∧
    (∀ erased crc : Bool, judgeFrame (s.receive pairs).bits.reverse = .discarded erased crc →
      Does (.plFrame pairs) s fun t =>
        t.pl = { s.pl with
          quietPos := (s.receive pairs).pos, quietNeg := (s.receive pairs).neg
          crcErrors := if crc then min (2 ^ 32 - 1) (s.pl.crcErrors + 1) else s.pl.crcErrors
          erased := if erased then min (2 ^ 32 - 1) (s.pl.erased + 1) else s.pl.erased } ∧
        CountsOnly { s with pl := t.pl } t) ∧
    (∀ b : List Nat, judgeFrame (s.receive pairs).bits.reverse = .good b →
      (s.forDevice b = false → exec (.plFrame pairs) s = .next { s with
        pl := { s.pl with quietPos := (s.receive pairs).pos, quietNeg := (s.receive pairs).neg } }) ∧
      (s.forDevice b = true → s.awaitedReply b = false → s.pl.sessions.length = 24 →
        Does (.plFrame pairs) s fun t =>
          t.pl = { s.pl with
            quietPos := (s.receive pairs).pos, quietNeg := (s.receive pairs).neg, rxFrames := min (2 ^ 32 - 1) (s.pl.rxFrames + 1)
            sessions := t.pl.sessions
            inbox := if s.plMaster = false ∧ frameKind b = 0 ∧ frameDst b ≠ 0xFFFF ∧ pollOk (framePayload b) = true
              then s.pl.inbox ++ [b] else s.pl.inbox } ∧
          (s.plMaster = true → t.pl.sessions = s.pl.sessions) ∧
          (s.plMaster = false → ∃ n, n < 24 ∧ (t.pl.session n).address = frameSrc b ∧ (t.pl.session n).heard = s.frame.absTick ∧
            ((s.pl.session n).address = frameSrc b → t.pl.session n = { s.pl.session n with heard := s.frame.absTick }) ∧
            ∀ m, m ≠ n → t.pl.session m = s.pl.session m) ∧
          CountsOnly { s with pl := t.pl } t) ∧
      (s.forDevice b = true → s.awaitedReply b = true →
        Does (.plFrame pairs) s fun t =>
          t.pl = { s.pl with
            quietPos := (s.receive pairs).pos, quietNeg := (s.receive pairs).neg, rxFrames := min (2 ^ 32 - 1) (s.pl.rxFrames + 1)
            inbox := s.pl.inbox ++ [b] } ∧
          CountsOnly { s with pl := t.pl } t)))

/-- Of a new POLL at the front. STATUS is answered with the mode and the oldest two events, with none where another session carries any, and with its flag where a response is pending. READ of a listed setting that is served at once takes a copy of
its value and returns its length and first 16 bytes; READ_NEXT returns the 16 bytes from 16 SEG on, or RANGE past the end or with no copy. WRITE of more than 16 bytes opens an assembly with
its first segment and reports STATUS 1; with another SEG or length it is TYPE. A whole value in WRITE, of an entry that needs a role, is refused with ACCESS; one whole with the last WRITE_MORE is written, here of an accepted clock setting; a segment out of order
discards the assembly with TYPE. Each REPLY is kept under the TOG of its POLL and is sent, or counted as refused; the POLL has left the queue and the other sessions stand. A POLL
whose TOG is that of the kept REPLY has it again; one of a higher GEN is refused; a finished response goes first. PL_REPLY_DEADLINE answers a POLL whose response is not ready with STATUS 2. Else nothing happens. -/
def Obligations.PollsAreAnswered : Prop :=
  (∀ (c : Instr) (op : Nat) (s : State),
    c = .plPollStatus ∧ op = 1 ∨ c = .plPollRead ∧ op = 2 ∨ c = .plPollWrite ∧ op = 3 ∨ c = .plPollReadNext ∧ op = 4 ∨
      c = .plPollWriteMore ∧ op = 5 →
    (s.plOn = false ∨ s.frontPoll = none ∨ (∃ b n, s.frontPoll = some (b, n) ∧ natAt (framePayload b) 0 ≠ op) →
      exec c s = .next s) ∧
    (∀ (b : List Nat) (n : Nat), s.plOn = true → s.pl.sessions.length = 24 → s.frontPoll = some (b, n) → natAt (framePayload b) 0 = op →
      (∀ r : List Nat, (s.pl.session n).wait = .none ∨ op = 1 ∧ (∃ o g, (s.pl.session n).wait = .busy o g) →
        (s.pl.session n).reply = some r → (s.pl.session n).tog = frameTog b →
        Does c s fun t => t.pl.sessions = s.pl.sessions ∧ t.pl.inbox = s.pl.inbox.drop 1 ∧ s.Sent b n r t ∧
          t.pl.events = s.pl.events ∧ Answered s.pl t.pl ∧ t = { s with pl := t.pl }) ∧
      (∀ r : List Nat, (s.pl.session n).wait = .ready r →
        Does c s fun t => s.Kept b n 0 r t ∧ s.Sent b n r t ∧ (t.pl.session n).wait = .none ∧ Answered s.pl t.pl ∧
          t = { s with pl := t.pl }) ∧
      (∀ o g : Nat, op ≠ 1 → (s.pl.session n).wait = .busy o g →
        Does c s fun t => t.pl.inbox = s.pl.inbox ∧ (t.pl.session n).wait = .busy o g ∧ t.pl.tx = s.pl.tx ∧ t.pl.refused = s.pl.refused ∧
          (∀ m, m ≠ n → t.pl.session m = s.pl.session m) ∧ Answered s.pl t.pl ∧ t = { s with pl := t.pl }) ∧
      ((s.pl.session n).wait = .none → ((s.pl.session n).reply = none ∨ (s.pl.session n).tog ≠ frameTog b) →
        (s.pl.session n).gen < frameGen b →
        Does c s fun t => s.Kept b n 0 (plReply op (pollSeg b) abortGeneration 0 0 []) t ∧
          s.Sent b n (plReply op (pollSeg b) abortGeneration 0 0 []) t ∧ Answered s.pl t.pl ∧ t = { s with pl := t.pl }))) ∧
  (∀ s : State,
    (s.frontPoll = none ∨ (∃ b n, s.frontPoll = some (b, n) ∧ (s.pl.session n).wait = .none) → exec .plReplyDeadline s = .next s)) ∧
  ∀ (b : List Nat) (n : Nat) (s : State),
    (∀ pending : Bool,
      (s.pollToServe 1 n b ∧ pending = false) ∨
        (s.plOn = true ∧ s.pl.sessions.length = 24 ∧ s.frontPoll = some (b, n) ∧ natAt (framePayload b) 0 = 1 ∧
          (∃ o g, (s.pl.session n).wait = .busy o g) ∧ ((s.pl.session n).reply = none ∨ (s.pl.session n).tog ≠ frameTog b) ∧
          pending = true) →
      Does .plPollStatus s fun t => ∃ evs y, evs = (if s.pl.toldElsewhere n then [] else (s.confirmed n).take 2) ∧
        y = [1, (if evs.length < (s.confirmed n).length then 1 else 0) + (if s.mode = .taper then 2 else 0) + (if pending then 4 else 0),
          s.mode.code, evs.length] ++ evs.flatMap Pend.statusBytes ∧
        s.Kept b n evs.length y t ∧ s.Sent b n y t ∧ (t.pl.session n).wait = (s.pl.session n).wait ∧
        t.pl.events = s.confirmed n ∧ Answered s.pl t.pl ∧ t = { s with pl := t.pl }) ∧
    (∀ row : Row, s.pollToServe 2 n b → s.servesNow (s.asked (.powerline n) (frameGen b) 1 (pollIndex b) (pollSub b) 0 []) →
      s.formAbort (s.asked (.powerline n) (frameGen b) 1 (pollIndex b) (pollSub b) 0 []) = abortOk →
      rowOf (key (pollIndex b) (pollSub b)) = some row → row.rw = true → 1 ≤ pollSub b →
      readsZero (pollIndex b) (pollSub b) = false → readsEmpty (pollIndex b) (pollSub b) = false →
      customerIndex (pollIndex b) = false → ¬(0x1210 ≤ pollIndex b ∧ pollIndex b ≤ 0x127F) →
      (pollIndex b, pollSub b) ∉ [(0x0140, 4), (0x1200, 2), (0x1530, 1), (0x1801, 1), (0x1D00, 6)] →
      Does .plPollRead s fun t => ∃ v, v = row.ty.encode (s.at_ (pollIndex b) (pollSub b)) ∧
        (t.pl.session n).copy = some v ∧ s.Kept b n 0 (plReply 2 (pollSeg b) abortOk 0 v.length (v.take 16)) t ∧
        s.Sent b n (plReply 2 (pollSeg b) abortOk 0 v.length (v.take 16)) t ∧
        (t.pl.session n).wait = .none ∧ t.pl.events = s.confirmed n ∧ Answered s.pl t.pl ∧ CountsOnly { s with pl := t.pl } t) ∧
    (s.pollToServe 4 n b →
      Does .plPollReadNext s fun t => ∃ y,
        (∀ c : List Nat, (s.pl.session n).copy = some c →
          y = (if 16 * pollSeg b < c.length then plReply 4 (pollSeg b) abortOk 0 c.length ((c.drop (16 * pollSeg b)).take 16)
             else plReply 4 (pollSeg b) abortRange 0 0 [])) ∧
        ((s.pl.session n).copy = none → y = plReply 4 (pollSeg b) abortRange 0 0 []) ∧
        s.Kept b n 0 y t ∧ s.Sent b n y t ∧ (t.pl.session n).copy = (s.pl.session n).copy ∧ t.pl.events = s.confirmed n ∧
        Answered s.pl t.pl ∧ t = { s with pl := t.pl }) ∧
    (s.pollToServe 3 n b →
      (pollSeg b = 0 → 16 < pollTotal b → pollTotal b ≤ 1044 → (pollData b).length = 16 →
        Does .plPollWrite s fun t =>
          (t.pl.session n).assembly = some (pollIndex b, pollSub b, pollTotal b, pollData b) ∧ (t.pl.session n).seg = 1 ∧
          s.Kept b n 0 (plReply 3 0 abortOk 1 0 []) t ∧ s.Sent b n (plReply 3 0 abortOk 1 0 []) t ∧
          t.pl.events = s.confirmed n ∧ Answered s.pl t.pl ∧ t = { s with pl := t.pl }) ∧
      (pollSeg b ≠ 0 ∨ 1044 < pollTotal b ∨ (pollData b).length ≠ min 16 (pollTotal b) → Does .plPollWrite s fun t =>
        (t.pl.session n).assembly = none ∧ s.Kept b n 0 (plReply 3 (pollSeg b) abortType 0 0 []) t ∧
        s.Sent b n (plReply 3 (pollSeg b) abortType 0 0 []) t ∧
        t.pl.events = s.confirmed n ∧ Answered s.pl t.pl ∧ t = { s with pl := t.pl })) ∧
    (∀ row : Row, s.pollToServe 3 n b → pollSeg b = 0 → (pollData b).length = pollTotal b → pollTotal b ≤ 16 →
      s.servesNow (s.asked (.powerline n) (frameGen b) 2 (pollIndex b) (pollSub b) 0 (pollData b)) →
      s.formAbort (s.asked (.powerline n) (frameGen b) 2 (pollIndex b) (pollSub b) 0 (pollData b)) = abortOk →
      rowOf (key (pollIndex b) (pollSub b)) = some row → row.role ≠ .pub → customerIndex (pollIndex b) = false →
      Does .plPollWrite s fun t =>
        (t.pl.session n).assembly = none ∧ s.Kept b n 0 (plReply 3 0 abortAccess 0 0 []) t ∧
        s.Sent b n (plReply 3 0 abortAccess 0 0 []) t ∧ (t.pl.session n).wait = .none ∧ t.pl.events = s.confirmed n ∧
        Answered s.pl t.pl ∧ CountsOnly { s with pl := t.pl } t) ∧
    (∀ (i j total index sub : Nat) (sofar value : List Nat),
      s.pollToServe 5 n b → pollSeg b = (s.pl.session n).seg → (s.pl.session n).assembly = some (i, j, total, sofar) →
      sofar.length + (pollData b).length = total → (pollData b).length ≤ 16 → total ≤ 1044 →
      s.accepts (s.asked (.powerline n) (frameGen b) 2 i j 0 (sofar ++ pollData b)) index sub value →
      0x0400 ≤ index → index ≤ 0x04FF →
      Does .plPollWriteMore s fun t =>
        t.at_ index sub = ofLe value ∧ t.on_ index sub = ofLe value ∧
        (∀ k, k ≠ key index sub → t.get k = s.get k ∧ t.eff k = s.eff k) ∧
        (t.pl.session n).assembly = none ∧ s.Kept b n 0 (plReply 5 (pollSeg b) abortOk 0 0 []) t ∧ t.mem = s.mem) ∧
    (s.pollToServe 5 n b →
      (∀ (i j total : Nat) (sofar : List Nat), (s.pl.session n).assembly = some (i, j, total, sofar) →
        pollSeg b = (s.pl.session n).seg → sofar.length + 16 < total → total ≤ 1044 → (pollData b).length = 16 →
        Does .plPollWriteMore s fun t =>
          (t.pl.session n).assembly = some (i, j, total, sofar ++ pollData b) ∧ (t.pl.session n).seg = pollSeg b + 1 ∧
          s.Kept b n 0 (plReply 5 (pollSeg b) abortOk 1 0 []) t ∧ s.Sent b n (plReply 5 (pollSeg b) abortOk 1 0 []) t ∧
          t.pl.events = s.confirmed n ∧ Answered s.pl t.pl ∧ t = { s with pl := t.pl }) ∧
      ((s.pl.session n).assembly = none ∨ pollSeg b ≠ (s.pl.session n).seg ∨
          (∃ i j total sofar, (s.pl.session n).assembly = some (i, j, total, sofar) ∧
            (1044 < total ∨ (pollData b).length ≠ min 16 (total - sofar.length))) →
        Does .plPollWriteMore s fun t =>
          (t.pl.session n).assembly = none ∧ s.Kept b n 0 (plReply 5 (pollSeg b) abortType 0 0 []) t ∧
          s.Sent b n (plReply 5 (pollSeg b) abortType 0 0 []) t ∧
          t.pl.events = s.confirmed n ∧ Answered s.pl t.pl ∧ t = { s with pl := t.pl })) ∧
    (s.pl.sessions.length = 24 → s.frontPoll = some (b, n) →
      (∀ op seg : Nat, (s.pl.session n).wait = .busy op seg →
        Does .plReplyDeadline s fun t =>
          s.Kept b n 0 (plReply (natAt (framePayload b) 0) (pollSeg b) abortOk 2 0 []) t ∧
          s.Sent b n (plReply (natAt (framePayload b) 0) (pollSeg b) abortOk 2 0 []) t ∧
          (t.pl.session n).wait = .busy op seg ∧ t.pl.events = s.pl.events ∧ Answered s.pl t.pl ∧ CountsOnly { s with pl := t.pl } t) ∧
      (∀ r : List Nat, (s.pl.session n).wait = .ready r →
        Does .plReplyDeadline s fun t =>
          s.Kept b n 0 r t ∧ s.Sent b n r t ∧ (t.pl.session n).wait = .none ∧ t.pl.events = s.pl.events ∧ Answered s.pl t.pl ∧
          t = { s with pl := t.pl }))

/-- PL_CYCLE_START of a master with no cycle under way, nothing to transmit, and PL_CYCLE over: the first slave of PL_SLAVES is polled under a toggled TOG, with its waiting request or with STATUS, after the
wake pattern where WAKE is set; with no slave the cycle ends. PL_REPLY_RECEIVED of the REPLY awaited stores its payload, filled to 24 bytes, in PL_SLAVE_STATUS, or for a request in PL_MASTER_RESPONSE with
RESULT 1, and the request has ended; the next slave is polled. PL_POLL_TIMEOUT with repeats left sends the POLL again with the same TOG; else the session is lost, a request ends with RESULT 2, and the next slave is polled. PL_MASTER_REQUEST
waits for the cycle with RESULT 0. PL_SESSION_IDLE closes a session that has heard nothing for PL_SESSION_IDLE seconds. Else none of these commands changes anything. -/
def Obligations.TheMasterPollsItsSlaves : Prop :=
  (∀ s : State,
    (s.plOn = false ∨ s.plMaster = false ∨ s.pl.cycleOn = true ∨ s.pl.tx ≠ none ∨
        (∃ a, s.pl.cycleAt = some a ∧ s.frame.absTick < a + 32768 * s.on_ 0x1900 9) → exec .plCycleStart s = .next s) ∧
    (s.plOn = true → s.plMaster = true → s.pl.cycleOn = false → s.pl.tx = none → s.pl.sessions.length = 24 →
      s.pl.cycleAt = none ∨ (∃ a, s.pl.cycleAt = some a ∧ a + 32768 * s.on_ 0x1900 9 ≤ s.frame.absTick) →
      Does .plCycleStart s fun t =>
        State.Polled { s with pl := { s.pl with cycleOn := true } } 0 true t ∧
        (∀ m, (∀ q, t.pl.poll = some q → q.slave ≠ m) → t.pl.session m = s.pl.session m) ∧
        t.pl = { s.pl with sessions := t.pl.sessions, poll := t.pl.poll, tx := t.pl.tx, txNext := t.pl.txNext
                           cycleOn := t.pl.cycleOn, cycleAt := some s.frame.absTick } ∧
        t = { s with pl := t.pl })) ∧
  (∀ s : State,
    s.pl.inbox = [] ∨ s.pl.poll = none ∨ (∃ b rest, s.pl.inbox = b :: rest ∧ s.awaitedReply b = false) →
    exec .plReplyReceived s = .next s) ∧
  (∀ (b : List Nat) (rest : List (List Nat)) (q : PlPoll) (s : State), s.pl.inbox = b :: rest → s.pl.poll = some q →
    s.awaitedReply b = true → q.slave < 24 → s.pl.sessions.length = 24 → s.pl.status.length = 24 →
    Does .plReplyReceived s fun t =>
      t.pl.inbox = rest ∧ t.pl.session q.slave = { s.pl.session q.slave with lost := false, heard := s.frame.absTick } ∧
      (q.request = true → t.pl.response = [q.slave, 1] ++ framePayload b ++ List.replicate (24 - (framePayload b).length) 0 ∧
        t.pl.request = none ∧ t.pl.status = s.pl.status) ∧
      (q.request = false → t.pl.status[q.slave]? = some (framePayload b ++ List.replicate (24 - (framePayload b).length) 0) ∧
        (∀ m, m ≠ q.slave → t.pl.status[m]? = s.pl.status[m]?) ∧ t.pl.response = s.pl.response ∧ t.pl.request = s.pl.request) ∧
      State.Polled { s with pl := { s.pl with request := t.pl.request } } (q.slave + 1) false t ∧
      (∀ m, m ≠ q.slave → (∀ r, t.pl.poll = some r → r.slave ≠ m) → t.pl.session m = s.pl.session m) ∧
      EventsOnly { s with pl := { s.pl with
        inbox := rest, sessions := t.pl.sessions, poll := t.pl.poll, tx := t.pl.tx, txNext := t.pl.txNext, cycleOn := t.pl.cycleOn
        response := t.pl.response, request := t.pl.request, status := t.pl.status } } t) ∧
  (∀ s : State, s.pl.poll = none ∨ s.pl.tx ≠ none → exec .plPollTimeout s = .next s) ∧
  (∀ (q : PlPoll) (s : State), s.pl.poll = some q → s.pl.tx = none → q.slave < 24 → s.pl.sessions.length = 24 →
    (q.repeats < s.on_ 0x1900 7 →
      Does .plPollTimeout s fun t =>
        t.pl.poll = some { q with repeats := q.repeats + 1 } ∧
        (∃ x, t.pl.tx = some x ∧ x.sent = 0 ∧ x.admitted = (s.pl.locked && s.admitsPulses) ∧
          x.bytes = [(s.pl.session q.slave).gen % 16 * 16, (s.pl.session q.slave).tog * 128 + q.payload.length] ++
            leBytes 2 (s.on_ 0x1920 (q.slave + 1)) ++ leBytes 2 s.plAddress ++ q.payload) ∧
        t.pl = { s.pl with poll := t.pl.poll, tx := t.pl.tx, txNext := none } ∧ t = { s with pl := t.pl }) ∧
    (s.on_ 0x1900 7 ≤ q.repeats →
      Does .plPollTimeout s fun t =>
        t.pl.session q.slave = { s.pl.session q.slave with lost := true } ∧
        (q.request = true → t.pl.response = [q.slave, 2] ++ List.replicate 24 0 ∧ t.pl.request = none) ∧
        (q.request = false → t.pl.response = s.pl.response ∧ t.pl.request = s.pl.request) ∧
        State.Polled { s with pl := { s.pl with request := t.pl.request } } (q.slave + 1) false t ∧
        (∀ m, m ≠ q.slave → (∀ r, t.pl.poll = some r → r.slave ≠ m) → t.pl.session m = s.pl.session m) ∧
        EventsOnly { s with pl := { s.pl with
          sessions := t.pl.sessions, poll := t.pl.poll, tx := t.pl.tx, txNext := t.pl.txNext, cycleOn := t.pl.cycleOn
          response := t.pl.response, request := t.pl.request } } t)) ∧
  (∀ (p : Sender) (data : List Nat) (s : State), s.acceptsWrite p 0x1921 1 data →
    Does (.plMasterRequest p data) s fun t =>
      Carried { s with set := t.set, pl := { s.pl with request := some (natAt data 0, data.drop 2)
                                                       response := natAt data 0 :: 0 :: List.replicate 24 0 } } t ∧
      t.at_ 0x1921 1 = ofLe data) ∧
  (∀ (n : Nat) (s : State), n < s.pl.sessions.length →
    ((s.pl.session n).address = 0 ∨ s.frame.absTick < (s.pl.session n).heard + 32768 * s.on_ 0x1900 8 →
      exec (.plSessionIdle n) s = .next s) ∧
    ((s.pl.session n).address ≠ 0 → (s.pl.session n).heard + 32768 * s.on_ 0x1900 8 ≤ s.frame.absTick →
      Does (.plSessionIdle n) s fun t =>
        t.pl.session n = PlSession.free ∧ (∀ m, m ≠ n → t.pl.session m = s.pl.session m) ∧
        t = { s with pl := { s.pl with sessions := t.pl.sessions } }))

/-- DISP_UPDATE, accepted. On a panel that is no e-paper it only is carried. Of one region: with no update there, or one that waits, the update waits with its targets, a
dynamic job waits for the ledger, and DP is on; while one runs, the targets are queued; what is replaced is counted. DISPLAY_UPDATE_ADMITTED of an update that waits, next in order: the earliest times of its bursts
lie clear of the commit slot, the admitted shots and other bursts, end by E_k, and keep their spans; where those are the times given and the frame has room, the update takes its plan with them and is admitted. Where a burst cannot be placed, or the frame has no room,
it is considered and waits for the next boundary; with other times, or nothing to consider, nothing changes. PUMP_BURST of an admitted update at its next burst's time, that burst being due, starts it, counts the burst and adds one credit, to 8; else nothing
changes. -/
def Obligations.UpdatesAreRequestedAdmittedAndPumped : Prop :=
  (∀ (p : Sender) (w : Nat) (s : State), w < 65536 → s.acceptsWrite p 0x1A02 2 (leBytes 2 w) → s.dispMode ≠ 1 →
    Does (.dispUpdate p w) s (Carried s)) ∧
  (∀ (p : Sender) (r : Nat) (s : State), r < 16 → s.disp.regions.length = 16 → s.acceptsWrite p 0x1A02 2 (leBytes 2 (2 ^ r)) →
    s.dispMode = 1 →
    ((s.disp.region r).run = none ∨ (∃ u, (s.disp.region r).run = some u ∧ u.started = false) → Does (.dispUpdate p (2 ^ r)) s fun t =>
      (∃ u, t.disp.region r = { s.disp.region r with run := some u } ∧ u.target = levelsOf (s.at_ 0x1A02 1) ∧ u.credit0 = s.disp.credit ∧
        u.started = false ∧ u.waving = false ∧ u.done = 0 ∧ u.at_ = []) ∧
      (∀ q, q ≠ r → t.disp.region q = s.disp.region q) ∧
      Carried { s with
        disp := { s.disp with
          regions := t.disp.regions
          superseded := if (s.disp.region r).run = none then s.disp.superseded else min (2 ^ 32 - 1) (s.disp.superseded + 1) }
        pwr := s.pwr.switchOn s.frame.now 5
        frame := { s.frame with
          dynamic := s.frame.dynamic.filter (fun j => j != dispJob r) ++ [dispJob r]
          tried := s.frame.tried.filter (fun j => j != dispJob r)
          waiting := s.frame.waiting.filter (fun j => j != dispJob r) } } t) ∧
    (∀ u : DispRun, (s.disp.region r).run = some u → u.started = true →
      Does (.dispUpdate p (2 ^ r)) s fun t =>
        t.disp.region r = { s.disp.region r with queued := some (levelsOf (s.at_ 0x1A02 1)) } ∧
        (∀ q, q ≠ r → t.disp.region q = s.disp.region q) ∧
        Carried { s with disp := { s.disp with
          regions := t.disp.regions
          superseded := if (s.disp.region r).queued = none then s.disp.superseded else min (2 ^ 32 - 1) (s.disp.superseded + 1) } } t)) ∧
  (∀ (r : Nat) (starts : List Nat) (s : State),
    ((s.disp.region r).run = none ∨ (∃ u, (s.disp.region r).run = some u ∧ u.started = true) ∨ dispJob r ∉ s.frame.dynamic ∨
        dispJob r ∈ s.frame.tried ∨ s.updateNext r = false ∨ s.dispMode ≠ 1 ∨ s.frame.running = false →
      exec (.displayUpdateAdmitted r starts) s = .next s) ∧
    (∀ u : DispRun, (s.disp.region r).run = some u → u.started = false → dispJob r ∈ s.frame.dynamic → dispJob r ∉ s.frame.tried →
      s.updateNext r = true → s.dispMode = 1 → s.frame.running = true →
      (s.placeUpdate r u = none → exec (.displayUpdateAdmitted r starts) s = .next { s with
        frame := { s.frame with tried := s.frame.tried ++ [dispJob r] } }) ∧
      (∀ (v : DispRun) (ts : List Nat) (extra : Nat), s.placeUpdate r u = some (v, ts) →
        extra = s.burstSlack (ts ++ s.otherBursts r) - s.burstSlack (s.otherBursts r) →
        (∀ b ∈ ts, (∀ o ∈ s.otherBursts r, o + burstCycles ≤ b ∨ b + burstCycles ≤ o) ∧
          (b < s.frame.length * 15625 / 8 → 3840 ≤ b ∧ (b + burstCycles) * 125 + s.plSetAside ≤ s.limit ∧
            ∀ q ∈ s.frame.planned, q.start + q.length ≤ b * 125 ∨ (b + burstCycles) * 125 ≤ q.start)) ∧
        (∀ (w : DispRun) (clock : Nat) (added : List Nat), s.planUpdate r u (ts.take u.pre) = (w, clock, added) →
          v = w ∧ ts.length = u.pre + (added.length - 8) ∧ v.bursts = ts.length ∧
          ∀ i b, i < added.length - 8 → ts[u.pre + i]? = some b →
            s.frame.cycOfTick (phaseTick clock (v.first + natAt added i)) ≤ b ∧
            b + burstCycles ≤ s.frame.cycOfTick (phaseTick clock (v.first + natAt added (8 + i)))) ∧
        (s.limit < max s.frame.acEnd s.frame.nowQ + extra + s.plSetAside →
          exec (.displayUpdateAdmitted r starts) s = .next { s with
            frame := { s.frame with tried := s.frame.tried ++ [dispJob r] } }) ∧
        (max s.frame.acEnd s.frame.nowQ + extra + s.plSetAside ≤ s.limit → starts ≠ ts →
          exec (.displayUpdateAdmitted r starts) s = .next s) ∧
        (max s.frame.acEnd s.frame.nowQ + extra + s.plSetAside ≤ s.limit → starts = ts → r < 16 → s.disp.regions.length = 16 →
          Does (.displayUpdateAdmitted r starts) s fun t =>
            (t.disp.region r).run = some { v with at_ := ts.map fun b => s.frame.base + 8 * b } ∧
            (∀ q, q ≠ r → t.disp.region q = s.disp.region q) ∧
            t = { s with
              disp := { s.disp with regions := t.disp.regions }
              frame := { s.frame with
                dynamic := s.frame.dynamic.filter (fun j => j != dispJob r), tried := s.frame.tried.filter (fun j => j != dispJob r)
                waiting := s.frame.waiting ++ [dispJob r], acEnd := s.frame.acEnd + extra } })))) ∧
  (∀ (r cyc : Nat) (s : State),
    ((s.disp.region r).run = none ∨ (∃ u, (s.disp.region r).run = some u ∧ (s.updateOn r u = false ∨ s.disp.burstDue u = false ∨
        ∃ b, u.at_[u.done]? = some b ∧ b ≠ s.frame.base + 8 * cyc)) → exec (.pumpBurst r cyc) s = .next s) ∧
    (∀ u : DispRun, r < 16 → s.disp.regions.length = 16 → (s.disp.region r).run = some u → s.updateOn r u = true →
      s.disp.burstDue u = true → (∀ b, u.at_[u.done]? = some b → b = s.frame.base + 8 * cyc) →
      Does (.pumpBurst r cyc) s fun t =>
        t.disp.region r = { s.disp.region r with run := some { u with done := u.done + 1, started := true } } ∧
        (∀ q, q ≠ r → t.disp.region q = s.disp.region q) ∧
        t.disp = { s.disp with regions := t.disp.regions, credit := min 8 (s.disp.credit + 1), pumping := true } ∧
        t.frame = { s.frame.at_ cyc with waiting := s.frame.waiting.filter (fun j => j != dispJob r) } ∧
        CountsOnly { s with frame := t.frame, disp := t.disp } t))

/-- WAVEFORM_START of an update whose pre-charge is over, at the tick of S, latches the band, takes the plan of the waveforms and writes the state area. DRIVEN_PHASE of the phase clock, which runs to
its end within the frame, drives each planned segment with its code, adds 75, -75 or 0 to its DC integral, takes one credit where a segment is driven, and shows a pump below 13.5 V.
DISPLAY_DONE of a run at its end: the levels of its segments are the targets, their pins are at 0 V, the balance is due where the integral is beyond 2000, the
run is over and counted, the state area is written, and a queued update begins to wait; with none running or waiting and no LCD, DP is off and the credit zero. LCD_FRAME_START when the frame under way has ended: the pixel data are shown, LCD_DATA outside TAPER, less the blinking pixels in the second half of the blink, and the
polarity inverts. Where its time has not come, or on another panel, none of them changes anything. -/
def Obligations.WaveformsDriveTheSegments : Prop :=
  (∀ (r cyc : Nat) (s : State),
    ((s.disp.region r).run = none ∨ (∃ u, (s.disp.region r).run = some u ∧ (s.updateOn r u = false ∨ u.done < u.pre ∨ u.waving = true ∨
        s.dispMode ≠ 1 ∨ s.frame.tickFrom cyc ≠ (s.startPhase u cyc).2)) → exec (.waveformStart r cyc) s = .next s) ∧
    (∀ u : DispRun, r < 16 → s.disp.regions.length = 16 → (s.disp.region r).run = some u →
      s.updateOn r u = true → u.pre ≤ u.done → u.waving = false → s.dispMode = 1 → s.frame.tickFrom cyc = (s.startPhase u cyc).2 →
      Does (.waveformStart r cyc) s fun t =>
        (∃ v, t.disp.region r = { s.disp.region r with run := some v, latched := s.disp.band } ∧
          v = { u with waving := true, started := true, band := s.disp.band, first := v.first, nbal := v.nbal, length := v.length
                       plan := v.plan, bursts := v.bursts } ∧
          v.first = (if s.disp.clockRuns then max s.disp.phase (phaseFrom s.disp.clock (s.preTick u cyc)) else 0) ∧
          (v.nbal, v.length, v.plan) = s.planRun r u.target s.disp.band ∧
          t.disp.balPhases = min (2 ^ 32 - 1) (s.disp.balPhases + v.nbal)) ∧
        (∀ q, q ≠ r → t.disp.region q = s.disp.region q) ∧
        (s.disp.clockRuns = true → t.disp.clock = s.disp.clock ∧ t.disp.phase = s.disp.phase) ∧
        (s.disp.clockRuns = false → t.disp.clock = s.frame.tickFrom cyc ∧ t.disp.phase = 0) ∧
        t.mem = s.mem.writeBytes 0x1005FE00 t.disp.area ∧
        t = { s with frame := { s.frame.at_ cyc with waiting := s.frame.waiting.filter (fun j => j != dispJob r) }, mem := t.mem
                     disp := { s.disp with regions := t.disp.regions, clock := t.disp.clock, phase := t.disp.phase
                                           balPhases := t.disp.balPhases } })) ∧
  (∀ (vep ven : Nat) (s : State),
    (s.disp.clockRuns = false ∨ s.frame.baseTick + s.frame.length < phaseTick s.disp.clock s.disp.phase →
      exec (.drivenPhase vep ven) s = .next s) ∧
    (s.disp.clockRuns = true → phaseTick s.disp.clock s.disp.phase ≤ s.frame.baseTick + s.frame.length →
      (s.disp.codesNow.map Prod.fst).Nodup → s.disp.dc.length = 96 → s.disp.driven.length = 96 →
      Does (.drivenPhase vep ven) s fun t =>
        (∀ i c, (i, c) ∈ s.disp.codesNow → i < 96 →
          t.disp.dc.getD i 0 = s.disp.dc.getD i 0 + (if c = 1 then 75 else if c = 2 then -75 else 0) ∧ t.disp.driven[i]? = some c) ∧
        (∀ i, i ∉ s.disp.codesNow.map Prod.fst → t.disp.dc[i]? = s.disp.dc[i]? ∧ t.disp.driven[i]? = s.disp.driven[i]?) ∧
        t.disp.credit = (if ∃ p ∈ s.disp.codesNow, p.2 ≠ 0 then s.disp.credit - 1 else s.disp.credit) ∧
        t.disp.phase = s.disp.phase + 1 ∧
        t.disp.pumpLow = (s.disp.pumpLow || decide ((∃ p ∈ s.disp.codesNow, p.2 ≠ 0) ∧ (vep < 13500 ∨ ven < 13500))) ∧
        t.disp.levels = s.disp.levels ∧ t.disp.balDue = s.disp.balDue ∧ t.disp.clock = s.disp.clock ∧ t.disp.updates = s.disp.updates ∧
        t = { s with frame := s.frame.at_ (s.frame.cycOfTick (phaseTick s.disp.clock s.disp.phase)), disp := t.disp })) ∧
  (∀ (r : Nat) (s : State),
    ((s.disp.region r).run = none ∨ (∃ u, (s.disp.region r).run = some u ∧ (u.waving = false ∨ s.disp.phase < u.first + u.length ∨
        s.frame.baseTick + s.frame.length < phaseTick s.disp.clock (u.first + u.length))) → exec (.displayDone r) s = .next s) ∧
    (∀ u : DispRun, r < 16 → s.disp.regions.length = 16 → (s.disp.region r).run = some u → u.waving = true →
      u.first + u.length ≤ s.disp.phase → phaseTick s.disp.clock (u.first + u.length) ≤ s.frame.baseTick + s.frame.length →
      s.disp.levels.length = 96 → s.disp.balDue.length = 96 → s.disp.driven.length = 96 → s.pwr.doms.length = 6 →
      Does (.displayDone r) s fun t =>
        ((s.disp.region r).queued = none → t.disp.region r = { s.disp.region r with run := none } ∧
          t.frame = s.frame.at_ (s.frame.cycOfTick (phaseTick s.disp.clock (u.first + u.length)))) ∧
        (∀ x, (s.disp.region r).queued = some x →
          t.disp.region r = { s.disp.region r with run := some (DispRun.wait x s.disp.credit), queued := none } ∧
          dispJob r ∈ t.frame.dynamic) ∧
        (∀ q, q ≠ r → t.disp.region q = s.disp.region q) ∧
        (∀ i, i ∈ u.plan.map Prod.fst → i < 96 →
          t.disp.levels[i]? = some (natAt u.target i) ∧ t.disp.driven[i]? = some 0 ∧
          t.disp.balDue[i]? = some (decide (2000 < (s.disp.dc.getD i 0).natAbs))) ∧
        (∀ i, i ∉ u.plan.map Prod.fst → t.disp.levels[i]? = s.disp.levels[i]? ∧ t.disp.balDue[i]? = s.disp.balDue[i]?) ∧
        t.disp.updates = min (2 ^ 32 - 1) (s.disp.updates + 1) ∧ t.disp.dc = s.disp.dc ∧
        t.disp.pumpLow = (s.disp.pumpLow && u.low) ∧
        (s.dispMode = 2 ∨ t.disp.busy = true → (t.pwr.dom 5).on = true ∧ t.disp.credit = s.disp.credit) ∧
        (s.dispMode ≠ 2 → t.disp.busy = false →
          (t.pwr.dom 5).on = false ∧ t.disp.credit = 0 ∧ t.disp.pumping = false ∧ t.disp.lcdAt = none) ∧
        t.mem = s.mem.writeBytes 0x1005FE00 t.disp.area ∧
        EventsOnly { s with
          frame := { s.frame.at_ (s.frame.cycOfTick (phaseTick s.disp.clock (u.first + u.length))) with
            dynamic := t.frame.dynamic, tried := t.frame.tried, waiting := t.frame.waiting }
          disp := t.disp, mem := t.mem, pwr := { s.pwr with doms := t.pwr.doms } } t)) ∧
  (∀ (cyc : Nat) (s : State),
    (s.dispMode ≠ 2 ∨ s.frame.running = false ∨ (∃ a, s.disp.lcdAt = some a ∧ s.frame.tickFrom cyc < a + s.lcdTicks) →
      exec (.lcdFrameStart cyc) s = .next s) ∧
    (∀ due : Nat, s.dispMode = 2 → s.frame.running = true → due ≤ s.frame.tickFrom cyc →
      (∀ a, s.disp.lcdAt = some a → due = a + s.lcdTicks) → (s.disp.lcdAt = none → due = s.frame.tickFrom cyc) →
      Does (.lcdFrameStart cyc) s fun t =>
        (s.mode ≠ .taper → t.disp.lcdShown = leBytes 96 (s.at_ 0x1A30 1) ∧ s.lcdBlink = leBytes 96 (s.at_ 0x1A30 2)) ∧
        (s.mode = .taper → t.disp.lcdShown = s.digits.foldl (fun l d => modAt l d.1 fun b => putBit b d.2.1 d.2.2)
          (leBytes 96 (s.on_ 0x1A40 1))) ∧
        t.disp.lcdOn = (if t.blinkOn then t.disp.lcdShown
          else List.zipWith (fun a b => a &&& (255 ^^^ b)) t.disp.lcdShown s.lcdBlink) ∧
        Ticked { s with
          frame := s.frame.at_ cyc
          disp := { s.disp with lcdAt := some due, lcdShown := t.disp.lcdShown, lcdOn := t.disp.lcdOn
                                lcdPolarity := !s.disp.lcdPolarity } } t))

/-- State.reset meets the invariant of every step. The mode is CONFIG, no frame runs and FRAME_NUMBER is 0; each entry of the dictionary holds its
default, stored and in force; the seal is clear and was never set, the FACTORY role has not ended, no BOOT_KEY_HASH is programmed and no OPERATOR or METROLOGY key is set; no event is
pending, both commit banks are blank, and no command waits. That memory reads as zero is the model's choice (log 2), and so is the mode before the first start. -/
def Obligations.TheDeviceStartsFromReset : Prop :=
  State.reset.Inv ∧ State.reset.mode = .config ∧ State.reset.frame.running = false ∧ State.reset.frame.number = 0 ∧
  (∀ k : Key, State.reset.get k = defaultOf k ∧ State.reset.eff k = defaultOf k) ∧ State.reset.on_ 0x0300 1 = 16384 ∧
  State.reset.on_ 0x1900 1 = 0 ∧
  State.reset.acc.sealed = false ∧ State.reset.acc.sealedOnce = false ∧ State.reset.acc.factoryEnded = false ∧
  State.reset.acc.bootHash = none ∧ State.reset.acc.operatorKey = none ∧ State.reset.acc.metrologyKey = none ∧
  State.reset.events = [] ∧ State.reset.qty.banks = [none, none] ∧ (∀ a, State.reset.mem.read a = 0) ∧ State.reset.pending = []

/-- From every state that meets the invariant, whatever command is at the front of its queue, or none, a step answers a next state. The queue is one
command shorter and otherwise as it was. Every command, with any operands, completes at every state whatever, and leaves the queue. The
invariant holds again: memory is in its canonical form; a seal that is set has bit 1 of
SEAL_STATE set, and where that bit or FACTORY_LOCK is set the FACTORY role has ended. Bit 1 of SEAL_STATE, the end of the FACTORY role and
FACTORY_LOCK are never cleared, and a BOOT_KEY_HASH that is programmed never changes. -/
def Obligations.EveryStepKeepsTheInvariant : Prop :=
  (∀ (c : Instr) (s : State), ∃ t, exec c s = .next t ∧ t.pending = s.pending) ∧
  ∀ s : State, s.Inv → ∃ t, step s = .next t ∧ t.Inv ∧ t.pending = s.pending.tail ∧
    (s.acc.sealedOnce = true → t.acc.sealedOnce = true) ∧ (s.acc.factoryEnded = true → t.acc.factoryEnded = true) ∧
    (s.acc.factoryLock = true → t.acc.factoryLock = true) ∧ (∀ h, s.acc.bootHash = some h → t.acc.bootHash = some h)
end

