-- ==== Sys2Proof/Laws/Accept.lean ====
section
/-! SUPPORT. When a write is accepted, as a check that can be computed: for a write without an envelope, and for one whose envelope
carries the MAC that its role's key gives. -/

namespace Sys2Proof.Laws

open Sys2Proof Sys2Proof.Machine

/-- The MAC that a key gives an envelope (R446). -/
def macFor (k : List Nat) (role index sub counter : Nat) (value : List Nat) : List Nat :=
  (aesCmac k (leBytes 8 Config.chipSerial ++ envelopeBytes role index sub counter value [])).take 8

theorem ofLe_leBytes2 (n : Nat) (h : n < 65536) : ofLe (leBytes 2 n) = n := by
  simp [leBytes, ofLe]; omega

theorem ofLe_leBytes4 (n : Nat) (h : n < 2 ^ 32) : ofLe (leBytes 4 n) = n := by
  simp [leBytes, ofLe]; omega

/-- The bytes of an envelope spell its fields. -/
theorem Envelope_of_bytes (role index sub counter : Nat) (value mac : List Nat) (h1 : 1 ≤ role) (h3 : role ≤ 3)
    (hi : index < 65536) (hc : counter < 2 ^ 32) (hv : value.length ≤ 1024) (hm : mac.length = 8) :
    Envelope.of (envelopeBytes role index sub counter value mac) = some
      { role := role, index := index, sub := sub, counter := counter, value := value
        body := envelopeBytes role index sub counter value [], mac := mac } := by
  have a2 := ofLe_leBytes2 index hi
  have a4 := ofLe_leBytes4 counter hc
  have av := ofLe_leBytes2 value.length (by omega)
  simp only [leBytes] at a2 a4 av
  have e : envelopeBytes role index sub counter value mac =
      role :: 0 :: (index % 256) :: (index / 256 % 256) :: sub :: 0 :: (value.length % 256) :: (value.length / 256 % 256) ::
        (counter % 256) :: (counter / 256 % 256) :: (counter / 256 / 256 % 256) :: (counter / 256 / 256 / 256 % 256) ::
          (value ++ mac) := by
    simp [envelopeBytes, leBytes]
  have e0 : envelopeBytes role index sub counter value [] =
      role :: 0 :: (index % 256) :: (index / 256 % 256) :: sub :: 0 :: (value.length % 256) :: (value.length / 256 % 256) ::
        (counter % 256) :: (counter / 256 % 256) :: (counter / 256 / 256 % 256) :: (counter / 256 / 256 / 256 % 256) :: value := by
    simp [envelopeBytes, leBytes]
  rw [e, e0]
  unfold Envelope.of
  simp only [List.drop_succ_cons, List.drop_zero, List.take_succ_cons, List.take_zero, List.length_cons, List.length_append,
    natAt, List.getD_cons_zero, List.getD_cons_succ, av, a2, a4]
  rw [if_pos ⟨by omega, hv, h1, h3, trivial, trivial⟩]
  simp [Nat.add_comm 12, List.take_left', List.drop_left']

/-- Step 5 of R457 for an envelope that verifies (R445 to R448). -/
theorem authenticate_ok (s : State) (r : Request) (e : Envelope) (he : r.envelope = some e)
    (hf : ¬(e.role = 3 ∧ s.acc.factoryEnded = true)) (hl : natAt s.acc.lockout (e.role - 1) = 0) (hm : s.macOk e = true)
    (hc : natAt s.acc.replay (e.role - 1) < e.counter) :
    s.authenticate r = ({ s with acc := { s.acc with replay := setAt s.acc.replay (e.role - 1) e.counter
                                                     failRun := setAt s.acc.failRun (e.role - 1) 0 } }, abortOk,
      { via := r.via, gen := r.gen, index := e.index, sub := e.sub, data := e.value, role := Role.ofCode e.role,
        env := some (Role.ofCode e.role) }) := by
  have hc' : ¬ e.counter ≤ natAt s.acc.replay (e.role - 1) := by omega
  simp only [State.authenticate, he, State.verifyEnvelope, if_neg hf, hl, hm, if_neg hc']
  simp

/-- The checks of `State.accepts`, computed from what step 5 answers. -/
def acceptsB (q : State × Nat × Ask) (s : State) (r : Request) (index sub : Nat) (value : List Nat) : Bool :=
  match rowOf (key index sub) with
  | none => false
  | some row =>
    let a : Ask := { via := r.via, gen := r.gen, index := index, sub := sub, data := value, role := q.2.2.role, env := q.2.2.env }
    s.linksUp && !s.mustWait r && !(s.acc.waiting.any fun x => x.via.port == r.via.port) &&
      decide ((s.expect r).formAbort r = abortOk) && decide (q.2.1 = abortOk) && decide (q.2.2 = a) && !customerIndex index &&
      decide (r.op ≠ 1) && !accessBad row a && !q.1.sealBad row a && row.ty.fits value && decide (q.1.valueAbort row a = abortOk) &&
      !q.1.modeBad row && !q.1.stateBad index sub (ofLe value)

theorem accepts_of (q : State × Nat × Ask) (s : State) (r : Request) (index sub : Nat) (value : List Nat)
    (hq : (s.expect r).authenticate r = q) (h : acceptsB q s r index sub value = true) : s.accepts r index sub value := by
  unfold acceptsB at h
  split at h
  · cases h
  · rename_i row hr
    simp only [Bool.and_eq_true, Bool.not_eq_true', decide_eq_true_eq] at h
    obtain ⟨⟨⟨⟨⟨⟨⟨⟨⟨⟨⟨⟨⟨h1, h2⟩, h3⟩, h4⟩, h5⟩, h6⟩, h7⟩, h8⟩, h9⟩, h10⟩, h11⟩, h12⟩, h13⟩, h14⟩ := h
    refine ⟨⟨h1, h2, h3⟩, h4, row, q.2.2.role, q.2.2.env, hr, ?_⟩
    simp only [hq]
    exact ⟨Prod.ext h5 h6, h7, h8, h9, h10, h11, h12, h13, h14⟩

/-- A sender with an envelope of its own whose MAC the key gives. -/
def sealedBy (k : List Nat) (via : Via) (gen role counter index sub : Nat) (value : List Nat) : Sender :=
  { via := via, gen := gen, id := 7, carrier := .auth role counter (macFor k role index sub counter value) }

/-- What step 5 answers for the envelope of `sealedBy`. -/
def openedBy (s : State) (r : Request) (role counter index sub : Nat) (value : List Nat) : State × Nat × Ask :=
  ({ s.expect r with acc := { (s.expect r).acc with
       replay := setAt (s.expect r).acc.replay (role - 1) counter, failRun := setAt (s.expect r).acc.failRun (role - 1) 0 } }, abortOk,
   { via := r.via, gen := r.gen, index := index, sub := sub, data := value, role := Role.ofCode role, env := some (Role.ofCode role) })

/-- The conditions of `authenticate_sealed` that a computation decides. -/
def unseals (k : List Nat) (s : State) (via : Via) (gen role counter index sub : Nat) (value : List Nat) : Bool :=
  let r := s.carried (sealedBy k via gen role counter index sub value) index sub value
  decide (1 ≤ role) && decide (role ≤ 3) && decide (index < 65536) && decide (counter < 2 ^ 32) && decide (value.length ≤ 1024) &&
    decide ((macFor k role index sub counter value).length = 8) && r.carries && !r.bad && (role != 3 || !(s.expect r).acc.factoryEnded) &&
    decide (natAt (s.expect r).acc.lockout (role - 1) = 0) && decide (natAt (s.expect r).acc.replay (role - 1) < counter)

/-- Step 5 answers what `openedBy` says for an envelope whose MAC the role's key gives. -/
theorem authenticate_sealed (k : List Nat) (s : State) (via : Via) (gen role counter index sub : Nat) (value : List Nat)
    (hk : (s.expect (s.carried (sealedBy k via gen role counter index sub value) index sub value)).roleKey role = some k)
    (h : unseals k s via gen role counter index sub value = true) :
    (s.expect (s.carried (sealedBy k via gen role counter index sub value) index sub value)).authenticate
        (s.carried (sealedBy k via gen role counter index sub value) index sub value) =
      openedBy s (s.carried (sealedBy k via gen role counter index sub value) index sub value) role counter index sub value := by
  simp only [unseals, Bool.and_eq_true, Bool.not_eq_true', decide_eq_true_eq] at h
  obtain ⟨⟨⟨⟨⟨⟨⟨⟨⟨⟨h1, h2⟩, h3⟩, h4⟩, h5⟩, h6⟩, h7⟩, h8⟩, h9⟩, h10⟩, h11⟩ := h
  refine authenticate_ok _ _ ⟨role, index, sub, counter, value, envelopeBytes role index sub counter value [], macFor k role index sub counter value⟩
    ?_ ?_ h10 ?_ h11
  · simp only [Request.envelope, h7, h8]
    exact Envelope_of_bytes role index sub counter value _ h1 h2 h3 h4 h5 h6
  · rintro ⟨ha, hb⟩
    have ha' : role = 3 := ha
    subst ha'
    simp [hb] at h9
  · simp [State.macOk, hk, macFor]

/-- The conditions of `accepts_auth` that a computation decides. -/
def opens (k : List Nat) (s : State) (via : Via) (gen role counter index sub : Nat) (value : List Nat) : Bool :=
  let r := s.carried (sealedBy k via gen role counter index sub value) index sub value
  unseals k s via gen role counter index sub value &&
    acceptsB (openedBy s r role counter index sub value) s r index sub value

theorem accepts_plain (s : State) (p : Sender) (index sub : Nat) (value : List Nat)
    (h : acceptsB ((s.expect (s.carried p index sub value)).authenticate (s.carried p index sub value)) s
      (s.carried p index sub value) index sub value = true) : s.acceptsWrite p index sub value :=
  accepts_of _ s _ index sub value rfl h

theorem accepts_auth (k : List Nat) (s : State) (via : Via) (gen role counter index sub : Nat) (value : List Nat)
    (hk : (s.expect (s.carried (sealedBy k via gen role counter index sub value) index sub value)).roleKey role = some k)
    (h : opens k s via gen role counter index sub value = true) :
    s.acceptsWrite (sealedBy k via gen role counter index sub value) index sub value := by
  simp only [opens, Bool.and_eq_true] at h
  exact accepts_of _ s _ index sub value (authenticate_sealed k s via gen role counter index sub value hk h.1) h.2

end Sys2Proof.Laws
end

