-- ==== Sys2Proof/Laws/Ops.lean ====
section
/-! SUPPORT. What each shared operation can do, said once: the parts of the state that it may change. A proof cites these
lemmas and never unfolds the operation. -/

namespace Sys2Proof.Laws

open Sys2Proof Sys2Proof.Machine

/-- A wake changes the power state, the entry counts and the remembered wake event. -/
theorem Power_wake_only (p : Power) (ev : Nat) :
    ∃ st r w, p.wake ev = { p with state := st, res := r, wakePending := w } := by
  unfold Power.wake
  split
  · exact ⟨_, _, _, rfl⟩
  · split <;> exact ⟨_, _, _, rfl⟩

/-- Raising an event changes the pending occurrences, the BK latches, and what a wake changes. -/
theorem raise_only (e : Raised) (s : State) :
    ∃ ev bk st r w, s.raise e =
      { s with events := ev, bkLatches := bk, pwr := { s.pwr with state := st, res := r, wakePending := w } } := by
  obtain ⟨st, r, w, h⟩ := Power_wake_only s.pwr e.ev
  refine ⟨(s.raise e).events, (s.raise e).bkLatches, st, r, w, ?_⟩
  rw [← h]
  rfl

/-- Raising events changes what raising one changes. -/
theorem raiseAll_only (es : List Raised) (s : State) :
    ∃ ev bk st r w, s.raiseAll es =
      { s with events := ev, bkLatches := bk, pwr := { s.pwr with state := st, res := r, wakePending := w } } := by
  induction es generalizing s with
  | nil => exact ⟨_, _, _, _, _, rfl⟩
  | cons e es ih =>
    obtain ⟨_, _, _, _, _, h⟩ := raise_only e s
    obtain ⟨ev, bk, st, r, w, h2⟩ := ih (s.raise e)
    refine ⟨ev, bk, st, r, w, ?_⟩
    show State.raiseAll es (s.raise e) = _
    rw [h2, h]

/-- Raising under a condition changes what raising changes. -/
theorem raiseIf_only (c : Bool) (e : Raised) (s : State) :
    ∃ ev bk st r w, s.raiseIf c e =
      { s with events := ev, bkLatches := bk, pwr := { s.pwr with state := st, res := r, wakePending := w } } := by
  unfold State.raiseIf
  split
  · exact raise_only e s
  · exact ⟨_, _, _, _, _, rfl⟩

/-- An event that is no wake event leaves the power manager alone. -/
theorem raise_pwr (e : Raised) (s : State) (h : wakeEvent e.ev = false) : (s.raise e).pwr = s.pwr := by
  simp [State.raise, Power.wake, h]

/-- No event changes the power manager of a device that neither dozes nor sleeps. -/
theorem wake_awake (p : Power) (h : p.state ≠ .doze) (h2 : p.state ≠ .wick) (h3 : p.state ≠ .snuff) (ev : Nat) :
    p.wake ev = p := by
  unfold Power.wake
  split
  · rfl
  · cases hs : p.state <;> simp_all

theorem wake_run (p : Power) (h : p.state = .run) (ev : Nat) : p.wake ev = p :=
  wake_awake p (by simp [h]) (by simp [h]) (by simp [h]) ev

/-- Raising in a state whose power manager no event changes. -/
theorem raise_awake (e : Raised) (s : State) (h : ∀ ev, s.pwr.wake ev = s.pwr) :
    ∃ ev bk, s.raise e = { s with events := ev, bkLatches := bk } := by
  refine ⟨(s.raise e).events, (s.raise e).bkLatches, ?_⟩
  have hp : (s.raise e).pwr = s.pwr := h e.ev
  unfold State.raise at hp ⊢
  simp only at hp
  rw [hp]

theorem raiseAll_awake (es : List Raised) (s : State) (h : ∀ ev, s.pwr.wake ev = s.pwr) :
    ∃ ev bk, s.raiseAll es = { s with events := ev, bkLatches := bk } := by
  induction es generalizing s with
  | nil => exact ⟨_, _, rfl⟩
  | cons e es ih =>
    obtain ⟨_, _, h1⟩ := raise_awake e s h
    obtain ⟨ev, bk, h2⟩ := ih (s.raise e) (by rw [h1]; exact h)
    exact ⟨ev, bk, by show State.raiseAll es (s.raise e) = _; rw [h2, h1]⟩

/-- Counting changes the counters and their OVF bits, and what raising PERF_OVERFLOW changes. -/
theorem count1_only (a : Act) (s : State) :
    ∃ cs os ev bk st r w, s.count1 a =
      { s with perf := { s.perf with counts := cs, ovf := os }, events := ev, bkLatches := bk,
               pwr := { s.pwr with state := st, res := r, wakePending := w } } := by
  unfold State.count1
  split
  · obtain ⟨ev, bk, st, r, w, h⟩ := raiseAll_only _ _
    exact ⟨_, _, ev, bk, st, r, w, h⟩
  · exact ⟨_, _, _, _, _, _, _, rfl⟩

/-- Counting occurrences changes what counting one changes. -/
theorem count_only (acts : List Act) (s : State) :
    ∃ cs os ev bk st r w, s.count acts =
      { s with perf := { s.perf with counts := cs, ovf := os }, events := ev, bkLatches := bk,
               pwr := { s.pwr with state := st, res := r, wakePending := w } } := by
  induction acts generalizing s with
  | nil => exact ⟨_, _, _, _, _, _, _, rfl⟩
  | cons a acts ih =>
    obtain ⟨_, _, _, _, _, _, _, h⟩ := count1_only a s
    obtain ⟨cs, os, ev, bk, st, r, w, h2⟩ := ih (s.count1 a)
    refine ⟨cs, os, ev, bk, st, r, w, ?_⟩
    show State.count acts (s.count1 a) = _
    rw [h2, h]

theorem count1_awake (a : Act) (s : State) (h : ∀ ev, s.pwr.wake ev = s.pwr) :
    ∃ cs os ev bk, s.count1 a =
      { s with perf := { s.perf with counts := cs, ovf := os }, events := ev, bkLatches := bk } := by
  unfold State.count1
  split
  · refine (fun (x : ∃ ev bk, _ = _) => ?_)
      (raiseAll_awake
        (countBlock a.block (s.perfSel a.block) (fun i => actCounts (s.perfSel a.block i) (s.on_ 0x1C01 1, s.on_ 0x1C01 2)
          (s.on_ 0x1C01 3, s.on_ 0x1C01 4) a) 8 0 0 s.perf.counts s.perf.ovf).2.2
        { s with perf := { s.perf with
            counts := (countBlock a.block (s.perfSel a.block) (fun i => actCounts (s.perfSel a.block i)
              (s.on_ 0x1C01 1, s.on_ 0x1C01 2) (s.on_ 0x1C01 3, s.on_ 0x1C01 4) a) 8 0 0 s.perf.counts s.perf.ovf).1,
            ovf := (countBlock a.block (s.perfSel a.block) (fun i => actCounts (s.perfSel a.block i)
              (s.on_ 0x1C01 1, s.on_ 0x1C01 2) (s.on_ 0x1C01 3, s.on_ 0x1C01 4) a) 8 0 0 s.perf.counts s.perf.ovf).2.1 } } h)
    obtain ⟨ev, bk, h2⟩ := x
    exact ⟨_, _, ev, bk, h2⟩
  · exact ⟨_, _, _, _, rfl⟩

/-- Counting in a state whose power manager no event changes. -/
theorem count_awake (acts : List Act) (s : State) (h : ∀ ev, s.pwr.wake ev = s.pwr) :
    ∃ cs os ev bk, s.count acts =
      { s with perf := { s.perf with counts := cs, ovf := os }, events := ev, bkLatches := bk } := by
  induction acts generalizing s with
  | nil => exact ⟨_, _, _, _, rfl⟩
  | cons a acts ih =>
    obtain ⟨_, _, _, _, h1⟩ := count1_awake a s h
    obtain ⟨cs, os, ev, bk, h2⟩ := ih (s.count1 a) (by rw [h1]; exact h)
    exact ⟨cs, os, ev, bk, by show State.count acts (s.count1 a) = _; rw [h2, h1]⟩

/-- The passing of ticks changes MTIME, the residency, the back-off, and what counting changes. -/
theorem passTicks_only (n : Nat) (s : State) :
    ∃ cs os ev bk st r w mt bo, s.passTicks n =
      { s with perf := { s.perf with counts := cs, ovf := os }, events := ev, bkLatches := bk,
               pwr := { s.pwr with state := st, res := r, wakePending := w, mtime := mt, backoff := bo } } := by
  unfold State.passTicks
  obtain ⟨cs, os, ev, bk, st, r, w, h⟩ := count_only (onTicks n) { s with pwr := { s.pwr with
        mtime := if s.pwr.state = PState.dark then s.pwr.mtime else (s.pwr.mtime + n) % 2 ^ 64
        res := s.pwr.res.pass s.pwr.state n
        backoff := s.pwr.backoff - n } }
  exact ⟨cs, os, ev, bk, st, r, w, _, _, h⟩

theorem passTicks_awake (n : Nat) (s : State) (h : ∀ p : Power, p.state = s.pwr.state → ∀ ev, p.wake ev = p) :
    ∃ cs os ev bk, s.passTicks n =
      { s with perf := { s.perf with counts := cs, ovf := os }, events := ev, bkLatches := bk,
               pwr := { s.pwr with
                 mtime := if s.pwr.state = PState.dark then s.pwr.mtime else (s.pwr.mtime + n) % 2 ^ 64
                 res := s.pwr.res.pass s.pwr.state n
                 backoff := s.pwr.backoff - n } } := by
  unfold State.passTicks
  exact count_awake (onTicks n) { s with pwr := { s.pwr with
        mtime := if s.pwr.state = PState.dark then s.pwr.mtime else (s.pwr.mtime + n) % 2 ^ 64
        res := s.pwr.res.pass s.pwr.state n
        backoff := s.pwr.backoff - n } } (by intro ev; apply h; rfl)

/-- The passing of a frame's ticks also moves the prescaler, the trim window and the lockouts, and the count of ticks
passed. -/
theorem elapse_only (s : State) :
    ∃ cs os ev bk st r w mt bo pre ow wi lo dn, s.elapse =
      { s with perf := { s.perf with counts := cs, ovf := os }, events := ev, bkLatches := bk,
               pwr := { s.pwr with state := st, res := r, wakePending := w, mtime := mt, backoff := bo },
               cal := { s.cal with prescaler := pre, owed := ow, window := wi }, acc := { s.acc with lockout := lo },
               frame := { s.frame with done := dn } } := by
  unfold State.elapse State.elapseBy
  simp only
  split
  · exact ⟨_, _, _, _, _, _, _, _, _, _, _, _, _, _, rfl⟩
  · obtain ⟨cs, os, ev, bk, st, r, w, mt, bo, h⟩ := passTicks_only (s.frame.tick - s.frame.done)
      { s with frame := { s.frame with done := max s.frame.done s.frame.tick },
               cal := s.cal.pass (s.frame.tick - s.frame.done),
               acc := { s.acc with lockout := s.acc.lockout.map fun x => x - (s.frame.tick - s.frame.done) } }
    exact ⟨cs, os, ev, bk, st, r, w, mt, bo, _, _, _, _, _, h⟩

/-- What the passing of time settles at the pins: HD, and the crossbar with its links and drives. -/
theorem settlePins_only (s : State) :
    ∃ ds hd cb ls dr, s.settlePins =
      { s with pwr := { s.pwr with doms := ds }, ac := { s.ac with hdEnd := hd, crossbar := cb, links := ls, drives := dr } } := by
  unfold State.settlePins
  simp only
  split
  · split
    · exact ⟨_, _, _, _, _, rfl⟩
    · exact ⟨_, _, _, _, _, rfl⟩
  · split
    · exact ⟨_, _, _, _, _, rfl⟩
    · exact ⟨_, _, _, _, _, rfl⟩

/-- In RUN a stated time moves the time of the frame, settles the pins, and does nothing else. -/
theorem atCyc_run (s : State) (cyc : Nat) (h : s.pwr.state = .run) :
    s.atCyc cyc = State.settlePins { s with frame := s.frame.at_ cyc } := by
  obtain ⟨ds, hd, cb, ls, dr, h1⟩ := settlePins_only { s with frame := s.frame.at_ cyc }
  simp [State.atCyc, State.leaveWick, h1, h]

/-- Queueing a result record changes the record queues. -/
theorem emit_only (r : Record) (s : State) : ∃ q, s.emit r = { s with q := q } := ⟨_, rfl⟩

theorem emitAll_only (rs : List Record) (s : State) : ∃ q, s.emitAll rs = { s with q := q } := by
  induction rs generalizing s with
  | nil => exact ⟨_, rfl⟩
  | cons r rs ih =>
    obtain ⟨q, h⟩ := ih (s.emit r)
    exact ⟨q, by show State.emitAll rs (s.emit r) = _; rw [h]; rfl⟩

/-- A link error changes the error counts and what counting changes. -/
theorem linkError_only (port : Nat) (s : State) :
    ∃ le cs os ev bk st r w, s.linkError port =
      { s with q := { s.q with linkErrors := le }, perf := { s.perf with counts := cs, ovf := os }, events := ev,
               bkLatches := bk, pwr := { s.pwr with state := st, res := r, wakePending := w } } := by
  unfold State.linkError
  obtain ⟨cs, os, ev, bk, st, r, w, h⟩ := count_only [linkAct 0x62 1] { s with q := s.q.error port }
  exact ⟨_, cs, os, ev, bk, st, r, w, h⟩

theorem toHost_only (rs : List OutRec) (q : Queues) : ∃ a b, q.toHost rs = { q with spiOut := a, spiHeld := b } := by
  induction rs generalizing q with
  | nil => exact ⟨_, _, rfl⟩
  | cons o os ih =>
    show ∃ a b, Queues.toHost os (if q.spiHeld.isEmpty && decide (q.spiWords + o.record.size ≤ 2048) then
      { q with spiOut := q.spiOut ++ [o] } else { q with spiHeld := q.spiHeld ++ [o] }) = _
    split
    · obtain ⟨a, b, h⟩ := ih { q with spiOut := q.spiOut ++ [o] }
      exact ⟨a, b, h⟩
    · obtain ⟨a, b, h⟩ := ih { q with spiHeld := q.spiHeld ++ [o] }
      exact ⟨a, b, h⟩

theorem toCore_only (r : Record) (q : Queues) : ∃ a b, q.toCore r = { q with coreIn := a, coreHeld := b } := by
  unfold Queues.toCore
  split <;> exact ⟨_, _, rfl⟩

/-- An answer changes where its port shows it, and what counting changes. -/
theorem answer_only (r : Request) (byCore : Bool) (abort : Nat) (data : List Nat) (s : State) :
    ∃ rb rr rd ci ch so sh resp la bu req ans ses cs os ev bk st res w, s.answer r byCore abort data =
      { s with core := { s.core with reqBusy := rb, reqResult := rr, reqData := rd },
               q := { s.q with coreIn := ci, coreHeld := ch, spiOut := so, spiHeld := sh },
               iol := { s.iol with response := resp, lastAbort := la, busy := bu },
               mbus := { s.mbus with request := req, answer := ans },
               pl := { s.pl with sessions := ses },
               perf := { s.perf with counts := cs, ovf := os }, events := ev, bkLatches := bk,
               pwr := { s.pwr with state := st, res := res, wakePending := w } } := by
  unfold State.answer
  cases hv : r.via with
  | window =>
    refine ⟨false, data.length % 32768 * 65536 + abort, overBytes data s.core.reqData, 
      s.q.coreIn, s.q.coreHeld, s.q.spiOut, s.q.spiHeld, s.iol.response, 
      s.iol.lastAbort, s.iol.busy, s.mbus.request, s.mbus.answer, s.pl.sessions, 
      s.perf.counts, s.perf.ovf, s.events, s.bkLatches, s.pwr.state, s.pwr.res, 
      s.pwr.wakePending, ?_⟩
    rfl
  | core =>
    obtain ⟨a, b, h⟩ := toCore_only (odResponse r 3 s.frame.number (if byCore then 0x4B else portSrc Via.core.port) abort data) s.q
    refine ⟨s.core.reqBusy, s.core.reqResult, s.core.reqData, a, b, s.q.spiOut, s.q.spiHeld, 
      s.iol.response, s.iol.lastAbort, s.iol.busy, s.mbus.request, s.mbus.answer, 
      s.pl.sessions, s.perf.counts, s.perf.ovf, s.events, s.bkLatches, s.pwr.state, 
      s.pwr.res, s.pwr.wakePending, ?_⟩
    simp only [Via.port, if_true]
    simp only [Via.port] at h
    rw [h]
  | spi =>
    obtain ⟨a, b, h⟩ := toHost_only
      [OutRec.mk (odResponse r (s.q.gen 1) s.frame.number (if byCore then 0x4B else portSrc Via.spi.port) abort data) true] s.q
    obtain ⟨cs, os, ev, bk, st, res, w, h2⟩ := count_only [linkAct 0x63 1] { s with q := { s.q with spiOut := a, spiHeld := b } }
    refine ⟨s.core.reqBusy, s.core.reqResult, s.core.reqData, s.q.coreIn, s.q.coreHeld, a, b, 
      s.iol.response, s.iol.lastAbort, s.iol.busy, s.mbus.request, s.mbus.answer, 
      s.pl.sessions, cs, os, ev, bk, st, res, w, ?_⟩
    refine Eq.trans (congrArg (State.count [linkAct 0x63 1]) ?_) h2
    rw [← h]
  | isdu =>
    have h1 : ∃ s1 : State, s1 = { s with iol := { s.iol with response := some (iolError abort (longerThanType r.index r.sub r.data), if r.sub = 0 then data else iolOrder r.index r.sub data), lastAbort := if abort = abortOk then s.iol.lastAbort else abort, busy := false } } := ⟨_, rfl⟩
    obtain ⟨s1, h1⟩ := h1
    obtain ⟨cs, os, ev, bk, st, res, w, h2⟩ := count_only [linkAct 0x63 1] s1
    refine ⟨s.core.reqBusy, s.core.reqResult, s.core.reqData, s.q.coreIn, s.q.coreHeld, 
      s.q.spiOut, s.q.spiHeld, 
      some (iolError abort (longerThanType r.index r.sub r.data), if r.sub = 0 then data else iolOrder r.index r.sub data), 
      if abort = abortOk then s.iol.lastAbort else abort, false, s.mbus.request, 
      s.mbus.answer, s.pl.sessions, cs, os, ev, bk, st, res, w, ?_⟩
    rw [h1] at h2
    exact h2
  | mbus =>
    simp only [Via.port, show ((3 : Nat) = 0) = False by simp, if_false]
    split
    · obtain ⟨cs, os, ev, bk, st, res, w, h2⟩ := count_only [linkAct 0x63 1] s
      refine ⟨s.core.reqBusy, s.core.reqResult, s.core.reqData, s.q.coreIn, s.q.coreHeld, 
      s.q.spiOut, s.q.spiHeld, s.iol.response, s.iol.lastAbort, s.iol.busy, 
      s.mbus.request, s.mbus.answer, s.pl.sessions, cs, os, ev, bk, st, res, w, ?_⟩
      exact h2
    · obtain ⟨cs, os, ev, bk, st, res, w, h2⟩ := count_only [linkAct 0x63 1] { s with mbus := { s.mbus with answer := if 200 < data.length then mbusBlock r 0 abortType [] else mbusBlock r 0 abort data, request := none } }
      refine ⟨s.core.reqBusy, s.core.reqResult, s.core.reqData, s.q.coreIn, s.q.coreHeld, 
      s.q.spiOut, s.q.spiHeld, s.iol.response, s.iol.lastAbort, s.iol.busy, none, 
      if 200 < data.length then mbusBlock r 0 abortType [] else mbusBlock r 0 abort data, 
      s.pl.sessions, cs, os, ev, bk, st, res, w, ?_⟩
      exact h2
  | powerline n =>
    obtain ⟨cs, os, ev, bk, st, res, w, h2⟩ := count_only [linkAct 0x63 1]
      { s with pl := s.pl.modSession n (PlSession.answered abort data) }
    refine ⟨s.core.reqBusy, s.core.reqResult, s.core.reqData, s.q.coreIn, s.q.coreHeld, 
      s.q.spiOut, s.q.spiHeld, s.iol.response, s.iol.lastAbort, s.iol.busy, 
      s.mbus.request, s.mbus.answer, 
      (s.pl.modSession n (PlSession.answered abort data)).sessions, cs, os, ev, bk, st, 
      res, w, ?_⟩
    exact h2

end Sys2Proof.Laws
end

