-- ==== Sys2Proof/Laws/State.lean ====
section
/-! SUPPORT. The parts of the state that each shared operation and each named update leaves alone, one lemma for each part, so
that no later proof unfolds a record update; and two states are equal where their parts are. -/

namespace Sys2Proof.Laws

open Sys2Proof Sys2Proof.Machine

/-- Two states are equal where every part is. -/
theorem State_ext {a b : State}
    (h_mode : a.mode = b.mode)
    (h_modePending : a.modePending = b.modePending)
    (h_events : a.events = b.events)
    (h_bkLatches : a.bkLatches = b.bkLatches)
    (h_set : a.set = b.set)
    (h_q : a.q = b.q)
    (h_frame : a.frame = b.frame)
    (h_sync : a.sync = b.sync)
    (h_ledger : a.ledger = b.ledger)
    (h_ac : a.ac = b.ac)
    (h_sen : a.sen = b.sen)
    (h_flow : a.flow = b.flow)
    (h_qty : a.qty = b.qty)
    (h_bill : a.bill = b.bill)
    (h_clk : a.clk = b.clk)
    (h_pwr : a.pwr = b.pwr)
    (h_perf : a.perf = b.perf)
    (h_cal : a.cal = b.cal)
    (h_acc : a.acc = b.acc)
    (h_log : a.log = b.log)
    (h_core : a.core = b.core)
    (h_iol : a.iol = b.iol)
    (h_mbus : a.mbus = b.mbus)
    (h_pl : a.pl = b.pl)
    (h_disp : a.disp = b.disp)
    (h_mem : a.mem = b.mem)
    (h_pending : a.pending = b.pending) : a = b := by
  cases a; cases b; simp_all

/-! ### raise -/

@[simp] theorem raise_mode (e : Raised) (s : State) : (s.raise e).mode = s.mode := rfl
@[simp] theorem raise_modePending (e : Raised) (s : State) : (s.raise e).modePending = s.modePending := rfl
@[simp] theorem raise_set (e : Raised) (s : State) : (s.raise e).set = s.set := rfl
@[simp] theorem raise_q (e : Raised) (s : State) : (s.raise e).q = s.q := rfl
@[simp] theorem raise_frame (e : Raised) (s : State) : (s.raise e).frame = s.frame := rfl
@[simp] theorem raise_sync (e : Raised) (s : State) : (s.raise e).sync = s.sync := rfl
@[simp] theorem raise_ledger (e : Raised) (s : State) : (s.raise e).ledger = s.ledger := rfl
@[simp] theorem raise_ac (e : Raised) (s : State) : (s.raise e).ac = s.ac := rfl
@[simp] theorem raise_sen (e : Raised) (s : State) : (s.raise e).sen = s.sen := rfl
@[simp] theorem raise_flow (e : Raised) (s : State) : (s.raise e).flow = s.flow := rfl
@[simp] theorem raise_qty (e : Raised) (s : State) : (s.raise e).qty = s.qty := rfl
@[simp] theorem raise_bill (e : Raised) (s : State) : (s.raise e).bill = s.bill := rfl
@[simp] theorem raise_clk (e : Raised) (s : State) : (s.raise e).clk = s.clk := rfl
@[simp] theorem raise_perf (e : Raised) (s : State) : (s.raise e).perf = s.perf := rfl
@[simp] theorem raise_cal (e : Raised) (s : State) : (s.raise e).cal = s.cal := rfl
@[simp] theorem raise_acc (e : Raised) (s : State) : (s.raise e).acc = s.acc := rfl
@[simp] theorem raise_log (e : Raised) (s : State) : (s.raise e).log = s.log := rfl
@[simp] theorem raise_core (e : Raised) (s : State) : (s.raise e).core = s.core := rfl
@[simp] theorem raise_iol (e : Raised) (s : State) : (s.raise e).iol = s.iol := rfl
@[simp] theorem raise_mbus (e : Raised) (s : State) : (s.raise e).mbus = s.mbus := rfl
@[simp] theorem raise_pl (e : Raised) (s : State) : (s.raise e).pl = s.pl := rfl
@[simp] theorem raise_disp (e : Raised) (s : State) : (s.raise e).disp = s.disp := rfl
@[simp] theorem raise_mem (e : Raised) (s : State) : (s.raise e).mem = s.mem := rfl
@[simp] theorem raise_pending (e : Raised) (s : State) : (s.raise e).pending = s.pending := rfl

/-! ### raiseAll -/

@[simp] theorem raiseAll_mode (es : List Raised) (s : State) : (s.raiseAll es).mode = s.mode := by obtain ⟨_, _, _, _, _, h⟩ := raiseAll_only es s; rw [h]
@[simp] theorem raiseAll_modePending (es : List Raised) (s : State) : (s.raiseAll es).modePending = s.modePending := by obtain ⟨_, _, _, _, _, h⟩ := raiseAll_only es s; rw [h]
@[simp] theorem raiseAll_set (es : List Raised) (s : State) : (s.raiseAll es).set = s.set := by obtain ⟨_, _, _, _, _, h⟩ := raiseAll_only es s; rw [h]
@[simp] theorem raiseAll_q (es : List Raised) (s : State) : (s.raiseAll es).q = s.q := by obtain ⟨_, _, _, _, _, h⟩ := raiseAll_only es s; rw [h]
@[simp] theorem raiseAll_frame (es : List Raised) (s : State) : (s.raiseAll es).frame = s.frame := by obtain ⟨_, _, _, _, _, h⟩ := raiseAll_only es s; rw [h]
@[simp] theorem raiseAll_sync (es : List Raised) (s : State) : (s.raiseAll es).sync = s.sync := by obtain ⟨_, _, _, _, _, h⟩ := raiseAll_only es s; rw [h]
@[simp] theorem raiseAll_ledger (es : List Raised) (s : State) : (s.raiseAll es).ledger = s.ledger := by obtain ⟨_, _, _, _, _, h⟩ := raiseAll_only es s; rw [h]
@[simp] theorem raiseAll_ac (es : List Raised) (s : State) : (s.raiseAll es).ac = s.ac := by obtain ⟨_, _, _, _, _, h⟩ := raiseAll_only es s; rw [h]
@[simp] theorem raiseAll_sen (es : List Raised) (s : State) : (s.raiseAll es).sen = s.sen := by obtain ⟨_, _, _, _, _, h⟩ := raiseAll_only es s; rw [h]
@[simp] theorem raiseAll_flow (es : List Raised) (s : State) : (s.raiseAll es).flow = s.flow := by obtain ⟨_, _, _, _, _, h⟩ := raiseAll_only es s; rw [h]
@[simp] theorem raiseAll_qty (es : List Raised) (s : State) : (s.raiseAll es).qty = s.qty := by obtain ⟨_, _, _, _, _, h⟩ := raiseAll_only es s; rw [h]
@[simp] theorem raiseAll_bill (es : List Raised) (s : State) : (s.raiseAll es).bill = s.bill := by obtain ⟨_, _, _, _, _, h⟩ := raiseAll_only es s; rw [h]
@[simp] theorem raiseAll_clk (es : List Raised) (s : State) : (s.raiseAll es).clk = s.clk := by obtain ⟨_, _, _, _, _, h⟩ := raiseAll_only es s; rw [h]
@[simp] theorem raiseAll_perf (es : List Raised) (s : State) : (s.raiseAll es).perf = s.perf := by obtain ⟨_, _, _, _, _, h⟩ := raiseAll_only es s; rw [h]
@[simp] theorem raiseAll_cal (es : List Raised) (s : State) : (s.raiseAll es).cal = s.cal := by obtain ⟨_, _, _, _, _, h⟩ := raiseAll_only es s; rw [h]
@[simp] theorem raiseAll_acc (es : List Raised) (s : State) : (s.raiseAll es).acc = s.acc := by obtain ⟨_, _, _, _, _, h⟩ := raiseAll_only es s; rw [h]
@[simp] theorem raiseAll_log (es : List Raised) (s : State) : (s.raiseAll es).log = s.log := by obtain ⟨_, _, _, _, _, h⟩ := raiseAll_only es s; rw [h]
@[simp] theorem raiseAll_core (es : List Raised) (s : State) : (s.raiseAll es).core = s.core := by obtain ⟨_, _, _, _, _, h⟩ := raiseAll_only es s; rw [h]
@[simp] theorem raiseAll_iol (es : List Raised) (s : State) : (s.raiseAll es).iol = s.iol := by obtain ⟨_, _, _, _, _, h⟩ := raiseAll_only es s; rw [h]
@[simp] theorem raiseAll_mbus (es : List Raised) (s : State) : (s.raiseAll es).mbus = s.mbus := by obtain ⟨_, _, _, _, _, h⟩ := raiseAll_only es s; rw [h]
@[simp] theorem raiseAll_pl (es : List Raised) (s : State) : (s.raiseAll es).pl = s.pl := by obtain ⟨_, _, _, _, _, h⟩ := raiseAll_only es s; rw [h]
@[simp] theorem raiseAll_disp (es : List Raised) (s : State) : (s.raiseAll es).disp = s.disp := by obtain ⟨_, _, _, _, _, h⟩ := raiseAll_only es s; rw [h]
@[simp] theorem raiseAll_mem (es : List Raised) (s : State) : (s.raiseAll es).mem = s.mem := by obtain ⟨_, _, _, _, _, h⟩ := raiseAll_only es s; rw [h]
@[simp] theorem raiseAll_pending (es : List Raised) (s : State) : (s.raiseAll es).pending = s.pending := by obtain ⟨_, _, _, _, _, h⟩ := raiseAll_only es s; rw [h]

/-! ### raiseIf -/

@[simp] theorem raiseIf_mode (c : Bool) (e : Raised) (s : State) : (s.raiseIf c e).mode = s.mode := by obtain ⟨_, _, _, _, _, h⟩ := raiseIf_only c e s; rw [h]
@[simp] theorem raiseIf_modePending (c : Bool) (e : Raised) (s : State) : (s.raiseIf c e).modePending = s.modePending := by obtain ⟨_, _, _, _, _, h⟩ := raiseIf_only c e s; rw [h]
@[simp] theorem raiseIf_set (c : Bool) (e : Raised) (s : State) : (s.raiseIf c e).set = s.set := by obtain ⟨_, _, _, _, _, h⟩ := raiseIf_only c e s; rw [h]
@[simp] theorem raiseIf_q (c : Bool) (e : Raised) (s : State) : (s.raiseIf c e).q = s.q := by obtain ⟨_, _, _, _, _, h⟩ := raiseIf_only c e s; rw [h]
@[simp] theorem raiseIf_frame (c : Bool) (e : Raised) (s : State) : (s.raiseIf c e).frame = s.frame := by obtain ⟨_, _, _, _, _, h⟩ := raiseIf_only c e s; rw [h]
@[simp] theorem raiseIf_sync (c : Bool) (e : Raised) (s : State) : (s.raiseIf c e).sync = s.sync := by obtain ⟨_, _, _, _, _, h⟩ := raiseIf_only c e s; rw [h]
@[simp] theorem raiseIf_ledger (c : Bool) (e : Raised) (s : State) : (s.raiseIf c e).ledger = s.ledger := by obtain ⟨_, _, _, _, _, h⟩ := raiseIf_only c e s; rw [h]
@[simp] theorem raiseIf_ac (c : Bool) (e : Raised) (s : State) : (s.raiseIf c e).ac = s.ac := by obtain ⟨_, _, _, _, _, h⟩ := raiseIf_only c e s; rw [h]
@[simp] theorem raiseIf_sen (c : Bool) (e : Raised) (s : State) : (s.raiseIf c e).sen = s.sen := by obtain ⟨_, _, _, _, _, h⟩ := raiseIf_only c e s; rw [h]
@[simp] theorem raiseIf_flow (c : Bool) (e : Raised) (s : State) : (s.raiseIf c e).flow = s.flow := by obtain ⟨_, _, _, _, _, h⟩ := raiseIf_only c e s; rw [h]
@[simp] theorem raiseIf_qty (c : Bool) (e : Raised) (s : State) : (s.raiseIf c e).qty = s.qty := by obtain ⟨_, _, _, _, _, h⟩ := raiseIf_only c e s; rw [h]
@[simp] theorem raiseIf_bill (c : Bool) (e : Raised) (s : State) : (s.raiseIf c e).bill = s.bill := by obtain ⟨_, _, _, _, _, h⟩ := raiseIf_only c e s; rw [h]
@[simp] theorem raiseIf_clk (c : Bool) (e : Raised) (s : State) : (s.raiseIf c e).clk = s.clk := by obtain ⟨_, _, _, _, _, h⟩ := raiseIf_only c e s; rw [h]
@[simp] theorem raiseIf_perf (c : Bool) (e : Raised) (s : State) : (s.raiseIf c e).perf = s.perf := by obtain ⟨_, _, _, _, _, h⟩ := raiseIf_only c e s; rw [h]
@[simp] theorem raiseIf_cal (c : Bool) (e : Raised) (s : State) : (s.raiseIf c e).cal = s.cal := by obtain ⟨_, _, _, _, _, h⟩ := raiseIf_only c e s; rw [h]
@[simp] theorem raiseIf_acc (c : Bool) (e : Raised) (s : State) : (s.raiseIf c e).acc = s.acc := by obtain ⟨_, _, _, _, _, h⟩ := raiseIf_only c e s; rw [h]
@[simp] theorem raiseIf_log (c : Bool) (e : Raised) (s : State) : (s.raiseIf c e).log = s.log := by obtain ⟨_, _, _, _, _, h⟩ := raiseIf_only c e s; rw [h]
@[simp] theorem raiseIf_core (c : Bool) (e : Raised) (s : State) : (s.raiseIf c e).core = s.core := by obtain ⟨_, _, _, _, _, h⟩ := raiseIf_only c e s; rw [h]
@[simp] theorem raiseIf_iol (c : Bool) (e : Raised) (s : State) : (s.raiseIf c e).iol = s.iol := by obtain ⟨_, _, _, _, _, h⟩ := raiseIf_only c e s; rw [h]
@[simp] theorem raiseIf_mbus (c : Bool) (e : Raised) (s : State) : (s.raiseIf c e).mbus = s.mbus := by obtain ⟨_, _, _, _, _, h⟩ := raiseIf_only c e s; rw [h]
@[simp] theorem raiseIf_pl (c : Bool) (e : Raised) (s : State) : (s.raiseIf c e).pl = s.pl := by obtain ⟨_, _, _, _, _, h⟩ := raiseIf_only c e s; rw [h]
@[simp] theorem raiseIf_disp (c : Bool) (e : Raised) (s : State) : (s.raiseIf c e).disp = s.disp := by obtain ⟨_, _, _, _, _, h⟩ := raiseIf_only c e s; rw [h]
@[simp] theorem raiseIf_mem (c : Bool) (e : Raised) (s : State) : (s.raiseIf c e).mem = s.mem := by obtain ⟨_, _, _, _, _, h⟩ := raiseIf_only c e s; rw [h]
@[simp] theorem raiseIf_pending (c : Bool) (e : Raised) (s : State) : (s.raiseIf c e).pending = s.pending := by obtain ⟨_, _, _, _, _, h⟩ := raiseIf_only c e s; rw [h]

/-! ### count -/

@[simp] theorem count_mode (acts : List Act) (s : State) : (s.count acts).mode = s.mode := by obtain ⟨_, _, _, _, _, _, _, h⟩ := count_only acts s; rw [h]
@[simp] theorem count_modePending (acts : List Act) (s : State) : (s.count acts).modePending = s.modePending := by obtain ⟨_, _, _, _, _, _, _, h⟩ := count_only acts s; rw [h]
@[simp] theorem count_set (acts : List Act) (s : State) : (s.count acts).set = s.set := by obtain ⟨_, _, _, _, _, _, _, h⟩ := count_only acts s; rw [h]
@[simp] theorem count_q (acts : List Act) (s : State) : (s.count acts).q = s.q := by obtain ⟨_, _, _, _, _, _, _, h⟩ := count_only acts s; rw [h]
@[simp] theorem count_frame (acts : List Act) (s : State) : (s.count acts).frame = s.frame := by obtain ⟨_, _, _, _, _, _, _, h⟩ := count_only acts s; rw [h]
@[simp] theorem count_sync (acts : List Act) (s : State) : (s.count acts).sync = s.sync := by obtain ⟨_, _, _, _, _, _, _, h⟩ := count_only acts s; rw [h]
@[simp] theorem count_ledger (acts : List Act) (s : State) : (s.count acts).ledger = s.ledger := by obtain ⟨_, _, _, _, _, _, _, h⟩ := count_only acts s; rw [h]
@[simp] theorem count_ac (acts : List Act) (s : State) : (s.count acts).ac = s.ac := by obtain ⟨_, _, _, _, _, _, _, h⟩ := count_only acts s; rw [h]
@[simp] theorem count_sen (acts : List Act) (s : State) : (s.count acts).sen = s.sen := by obtain ⟨_, _, _, _, _, _, _, h⟩ := count_only acts s; rw [h]
@[simp] theorem count_flow (acts : List Act) (s : State) : (s.count acts).flow = s.flow := by obtain ⟨_, _, _, _, _, _, _, h⟩ := count_only acts s; rw [h]
@[simp] theorem count_qty (acts : List Act) (s : State) : (s.count acts).qty = s.qty := by obtain ⟨_, _, _, _, _, _, _, h⟩ := count_only acts s; rw [h]
@[simp] theorem count_bill (acts : List Act) (s : State) : (s.count acts).bill = s.bill := by obtain ⟨_, _, _, _, _, _, _, h⟩ := count_only acts s; rw [h]
@[simp] theorem count_clk (acts : List Act) (s : State) : (s.count acts).clk = s.clk := by obtain ⟨_, _, _, _, _, _, _, h⟩ := count_only acts s; rw [h]
@[simp] theorem count_cal (acts : List Act) (s : State) : (s.count acts).cal = s.cal := by obtain ⟨_, _, _, _, _, _, _, h⟩ := count_only acts s; rw [h]
@[simp] theorem count_acc (acts : List Act) (s : State) : (s.count acts).acc = s.acc := by obtain ⟨_, _, _, _, _, _, _, h⟩ := count_only acts s; rw [h]
@[simp] theorem count_log (acts : List Act) (s : State) : (s.count acts).log = s.log := by obtain ⟨_, _, _, _, _, _, _, h⟩ := count_only acts s; rw [h]
@[simp] theorem count_core (acts : List Act) (s : State) : (s.count acts).core = s.core := by obtain ⟨_, _, _, _, _, _, _, h⟩ := count_only acts s; rw [h]
@[simp] theorem count_iol (acts : List Act) (s : State) : (s.count acts).iol = s.iol := by obtain ⟨_, _, _, _, _, _, _, h⟩ := count_only acts s; rw [h]
@[simp] theorem count_mbus (acts : List Act) (s : State) : (s.count acts).mbus = s.mbus := by obtain ⟨_, _, _, _, _, _, _, h⟩ := count_only acts s; rw [h]
@[simp] theorem count_pl (acts : List Act) (s : State) : (s.count acts).pl = s.pl := by obtain ⟨_, _, _, _, _, _, _, h⟩ := count_only acts s; rw [h]
@[simp] theorem count_disp (acts : List Act) (s : State) : (s.count acts).disp = s.disp := by obtain ⟨_, _, _, _, _, _, _, h⟩ := count_only acts s; rw [h]
@[simp] theorem count_mem (acts : List Act) (s : State) : (s.count acts).mem = s.mem := by obtain ⟨_, _, _, _, _, _, _, h⟩ := count_only acts s; rw [h]
@[simp] theorem count_pending (acts : List Act) (s : State) : (s.count acts).pending = s.pending := by obtain ⟨_, _, _, _, _, _, _, h⟩ := count_only acts s; rw [h]

/-! ### passTicks -/

@[simp] theorem passTicks_mode (n : Nat) (s : State) : (s.passTicks n).mode = s.mode := by obtain ⟨_, _, _, _, _, _, _, _, _, h⟩ := passTicks_only n s; rw [h]
@[simp] theorem passTicks_modePending (n : Nat) (s : State) : (s.passTicks n).modePending = s.modePending := by obtain ⟨_, _, _, _, _, _, _, _, _, h⟩ := passTicks_only n s; rw [h]
@[simp] theorem passTicks_set (n : Nat) (s : State) : (s.passTicks n).set = s.set := by obtain ⟨_, _, _, _, _, _, _, _, _, h⟩ := passTicks_only n s; rw [h]
@[simp] theorem passTicks_q (n : Nat) (s : State) : (s.passTicks n).q = s.q := by obtain ⟨_, _, _, _, _, _, _, _, _, h⟩ := passTicks_only n s; rw [h]
@[simp] theorem passTicks_frame (n : Nat) (s : State) : (s.passTicks n).frame = s.frame := by obtain ⟨_, _, _, _, _, _, _, _, _, h⟩ := passTicks_only n s; rw [h]
@[simp] theorem passTicks_sync (n : Nat) (s : State) : (s.passTicks n).sync = s.sync := by obtain ⟨_, _, _, _, _, _, _, _, _, h⟩ := passTicks_only n s; rw [h]
@[simp] theorem passTicks_ledger (n : Nat) (s : State) : (s.passTicks n).ledger = s.ledger := by obtain ⟨_, _, _, _, _, _, _, _, _, h⟩ := passTicks_only n s; rw [h]
@[simp] theorem passTicks_ac (n : Nat) (s : State) : (s.passTicks n).ac = s.ac := by obtain ⟨_, _, _, _, _, _, _, _, _, h⟩ := passTicks_only n s; rw [h]
@[simp] theorem passTicks_sen (n : Nat) (s : State) : (s.passTicks n).sen = s.sen := by obtain ⟨_, _, _, _, _, _, _, _, _, h⟩ := passTicks_only n s; rw [h]
@[simp] theorem passTicks_flow (n : Nat) (s : State) : (s.passTicks n).flow = s.flow := by obtain ⟨_, _, _, _, _, _, _, _, _, h⟩ := passTicks_only n s; rw [h]
@[simp] theorem passTicks_qty (n : Nat) (s : State) : (s.passTicks n).qty = s.qty := by obtain ⟨_, _, _, _, _, _, _, _, _, h⟩ := passTicks_only n s; rw [h]
@[simp] theorem passTicks_bill (n : Nat) (s : State) : (s.passTicks n).bill = s.bill := by obtain ⟨_, _, _, _, _, _, _, _, _, h⟩ := passTicks_only n s; rw [h]
@[simp] theorem passTicks_clk (n : Nat) (s : State) : (s.passTicks n).clk = s.clk := by obtain ⟨_, _, _, _, _, _, _, _, _, h⟩ := passTicks_only n s; rw [h]
@[simp] theorem passTicks_cal (n : Nat) (s : State) : (s.passTicks n).cal = s.cal := by obtain ⟨_, _, _, _, _, _, _, _, _, h⟩ := passTicks_only n s; rw [h]
@[simp] theorem passTicks_acc (n : Nat) (s : State) : (s.passTicks n).acc = s.acc := by obtain ⟨_, _, _, _, _, _, _, _, _, h⟩ := passTicks_only n s; rw [h]
@[simp] theorem passTicks_log (n : Nat) (s : State) : (s.passTicks n).log = s.log := by obtain ⟨_, _, _, _, _, _, _, _, _, h⟩ := passTicks_only n s; rw [h]
@[simp] theorem passTicks_core (n : Nat) (s : State) : (s.passTicks n).core = s.core := by obtain ⟨_, _, _, _, _, _, _, _, _, h⟩ := passTicks_only n s; rw [h]
@[simp] theorem passTicks_iol (n : Nat) (s : State) : (s.passTicks n).iol = s.iol := by obtain ⟨_, _, _, _, _, _, _, _, _, h⟩ := passTicks_only n s; rw [h]
@[simp] theorem passTicks_mbus (n : Nat) (s : State) : (s.passTicks n).mbus = s.mbus := by obtain ⟨_, _, _, _, _, _, _, _, _, h⟩ := passTicks_only n s; rw [h]
@[simp] theorem passTicks_pl (n : Nat) (s : State) : (s.passTicks n).pl = s.pl := by obtain ⟨_, _, _, _, _, _, _, _, _, h⟩ := passTicks_only n s; rw [h]
@[simp] theorem passTicks_disp (n : Nat) (s : State) : (s.passTicks n).disp = s.disp := by obtain ⟨_, _, _, _, _, _, _, _, _, h⟩ := passTicks_only n s; rw [h]
@[simp] theorem passTicks_mem (n : Nat) (s : State) : (s.passTicks n).mem = s.mem := by obtain ⟨_, _, _, _, _, _, _, _, _, h⟩ := passTicks_only n s; rw [h]
@[simp] theorem passTicks_pending (n : Nat) (s : State) : (s.passTicks n).pending = s.pending := by obtain ⟨_, _, _, _, _, _, _, _, _, h⟩ := passTicks_only n s; rw [h]

/-! ### elapse -/

@[simp] theorem elapse_mode  (s : State) : (s.elapse).mode = s.mode := by obtain ⟨_, _, _, _, _, _, _, _, _, _, _, _, _, _, h⟩ := elapse_only s; rw [h]
@[simp] theorem elapse_modePending  (s : State) : (s.elapse).modePending = s.modePending := by obtain ⟨_, _, _, _, _, _, _, _, _, _, _, _, _, _, h⟩ := elapse_only s; rw [h]
@[simp] theorem elapse_set  (s : State) : (s.elapse).set = s.set := by obtain ⟨_, _, _, _, _, _, _, _, _, _, _, _, _, _, h⟩ := elapse_only s; rw [h]
@[simp] theorem elapse_q  (s : State) : (s.elapse).q = s.q := by obtain ⟨_, _, _, _, _, _, _, _, _, _, _, _, _, _, h⟩ := elapse_only s; rw [h]
@[simp] theorem elapse_sync  (s : State) : (s.elapse).sync = s.sync := by obtain ⟨_, _, _, _, _, _, _, _, _, _, _, _, _, _, h⟩ := elapse_only s; rw [h]
@[simp] theorem elapse_ledger  (s : State) : (s.elapse).ledger = s.ledger := by obtain ⟨_, _, _, _, _, _, _, _, _, _, _, _, _, _, h⟩ := elapse_only s; rw [h]
@[simp] theorem elapse_ac  (s : State) : (s.elapse).ac = s.ac := by obtain ⟨_, _, _, _, _, _, _, _, _, _, _, _, _, _, h⟩ := elapse_only s; rw [h]
@[simp] theorem elapse_sen  (s : State) : (s.elapse).sen = s.sen := by obtain ⟨_, _, _, _, _, _, _, _, _, _, _, _, _, _, h⟩ := elapse_only s; rw [h]
@[simp] theorem elapse_flow  (s : State) : (s.elapse).flow = s.flow := by obtain ⟨_, _, _, _, _, _, _, _, _, _, _, _, _, _, h⟩ := elapse_only s; rw [h]
@[simp] theorem elapse_qty  (s : State) : (s.elapse).qty = s.qty := by obtain ⟨_, _, _, _, _, _, _, _, _, _, _, _, _, _, h⟩ := elapse_only s; rw [h]
@[simp] theorem elapse_bill  (s : State) : (s.elapse).bill = s.bill := by obtain ⟨_, _, _, _, _, _, _, _, _, _, _, _, _, _, h⟩ := elapse_only s; rw [h]
@[simp] theorem elapse_clk  (s : State) : (s.elapse).clk = s.clk := by obtain ⟨_, _, _, _, _, _, _, _, _, _, _, _, _, _, h⟩ := elapse_only s; rw [h]
@[simp] theorem elapse_log  (s : State) : (s.elapse).log = s.log := by obtain ⟨_, _, _, _, _, _, _, _, _, _, _, _, _, _, h⟩ := elapse_only s; rw [h]
@[simp] theorem elapse_core  (s : State) : (s.elapse).core = s.core := by obtain ⟨_, _, _, _, _, _, _, _, _, _, _, _, _, _, h⟩ := elapse_only s; rw [h]
@[simp] theorem elapse_iol  (s : State) : (s.elapse).iol = s.iol := by obtain ⟨_, _, _, _, _, _, _, _, _, _, _, _, _, _, h⟩ := elapse_only s; rw [h]
@[simp] theorem elapse_mbus  (s : State) : (s.elapse).mbus = s.mbus := by obtain ⟨_, _, _, _, _, _, _, _, _, _, _, _, _, _, h⟩ := elapse_only s; rw [h]
@[simp] theorem elapse_pl  (s : State) : (s.elapse).pl = s.pl := by obtain ⟨_, _, _, _, _, _, _, _, _, _, _, _, _, _, h⟩ := elapse_only s; rw [h]
@[simp] theorem elapse_disp  (s : State) : (s.elapse).disp = s.disp := by obtain ⟨_, _, _, _, _, _, _, _, _, _, _, _, _, _, h⟩ := elapse_only s; rw [h]
@[simp] theorem elapse_mem  (s : State) : (s.elapse).mem = s.mem := by obtain ⟨_, _, _, _, _, _, _, _, _, _, _, _, _, _, h⟩ := elapse_only s; rw [h]
@[simp] theorem elapse_pending  (s : State) : (s.elapse).pending = s.pending := by obtain ⟨_, _, _, _, _, _, _, _, _, _, _, _, _, _, h⟩ := elapse_only s; rw [h]

/-! ### settlePins -/

@[simp] theorem settlePins_mode  (s : State) : (s.settlePins).mode = s.mode := by obtain ⟨_, _, _, _, _, h⟩ := settlePins_only s; rw [h]
@[simp] theorem settlePins_modePending  (s : State) : (s.settlePins).modePending = s.modePending := by obtain ⟨_, _, _, _, _, h⟩ := settlePins_only s; rw [h]
@[simp] theorem settlePins_events  (s : State) : (s.settlePins).events = s.events := by obtain ⟨_, _, _, _, _, h⟩ := settlePins_only s; rw [h]
@[simp] theorem settlePins_bkLatches  (s : State) : (s.settlePins).bkLatches = s.bkLatches := by obtain ⟨_, _, _, _, _, h⟩ := settlePins_only s; rw [h]
@[simp] theorem settlePins_set  (s : State) : (s.settlePins).set = s.set := by obtain ⟨_, _, _, _, _, h⟩ := settlePins_only s; rw [h]
@[simp] theorem settlePins_q  (s : State) : (s.settlePins).q = s.q := by obtain ⟨_, _, _, _, _, h⟩ := settlePins_only s; rw [h]
@[simp] theorem settlePins_frame  (s : State) : (s.settlePins).frame = s.frame := by obtain ⟨_, _, _, _, _, h⟩ := settlePins_only s; rw [h]
@[simp] theorem settlePins_sync  (s : State) : (s.settlePins).sync = s.sync := by obtain ⟨_, _, _, _, _, h⟩ := settlePins_only s; rw [h]
@[simp] theorem settlePins_ledger  (s : State) : (s.settlePins).ledger = s.ledger := by obtain ⟨_, _, _, _, _, h⟩ := settlePins_only s; rw [h]
@[simp] theorem settlePins_sen  (s : State) : (s.settlePins).sen = s.sen := by obtain ⟨_, _, _, _, _, h⟩ := settlePins_only s; rw [h]
@[simp] theorem settlePins_flow  (s : State) : (s.settlePins).flow = s.flow := by obtain ⟨_, _, _, _, _, h⟩ := settlePins_only s; rw [h]
@[simp] theorem settlePins_qty  (s : State) : (s.settlePins).qty = s.qty := by obtain ⟨_, _, _, _, _, h⟩ := settlePins_only s; rw [h]
@[simp] theorem settlePins_bill  (s : State) : (s.settlePins).bill = s.bill := by obtain ⟨_, _, _, _, _, h⟩ := settlePins_only s; rw [h]
@[simp] theorem settlePins_clk  (s : State) : (s.settlePins).clk = s.clk := by obtain ⟨_, _, _, _, _, h⟩ := settlePins_only s; rw [h]
@[simp] theorem settlePins_perf  (s : State) : (s.settlePins).perf = s.perf := by obtain ⟨_, _, _, _, _, h⟩ := settlePins_only s; rw [h]
@[simp] theorem settlePins_cal  (s : State) : (s.settlePins).cal = s.cal := by obtain ⟨_, _, _, _, _, h⟩ := settlePins_only s; rw [h]
@[simp] theorem settlePins_acc  (s : State) : (s.settlePins).acc = s.acc := by obtain ⟨_, _, _, _, _, h⟩ := settlePins_only s; rw [h]
@[simp] theorem settlePins_log  (s : State) : (s.settlePins).log = s.log := by obtain ⟨_, _, _, _, _, h⟩ := settlePins_only s; rw [h]
@[simp] theorem settlePins_core  (s : State) : (s.settlePins).core = s.core := by obtain ⟨_, _, _, _, _, h⟩ := settlePins_only s; rw [h]
@[simp] theorem settlePins_iol  (s : State) : (s.settlePins).iol = s.iol := by obtain ⟨_, _, _, _, _, h⟩ := settlePins_only s; rw [h]
@[simp] theorem settlePins_mbus  (s : State) : (s.settlePins).mbus = s.mbus := by obtain ⟨_, _, _, _, _, h⟩ := settlePins_only s; rw [h]
@[simp] theorem settlePins_pl  (s : State) : (s.settlePins).pl = s.pl := by obtain ⟨_, _, _, _, _, h⟩ := settlePins_only s; rw [h]
@[simp] theorem settlePins_disp  (s : State) : (s.settlePins).disp = s.disp := by obtain ⟨_, _, _, _, _, h⟩ := settlePins_only s; rw [h]
@[simp] theorem settlePins_mem  (s : State) : (s.settlePins).mem = s.mem := by obtain ⟨_, _, _, _, _, h⟩ := settlePins_only s; rw [h]
@[simp] theorem settlePins_pending  (s : State) : (s.settlePins).pending = s.pending := by obtain ⟨_, _, _, _, _, h⟩ := settlePins_only s; rw [h]

/-! ### emit -/

@[simp] theorem emit_mode (r : Record) (s : State) : (s.emit r).mode = s.mode := rfl
@[simp] theorem emit_modePending (r : Record) (s : State) : (s.emit r).modePending = s.modePending := rfl
@[simp] theorem emit_events (r : Record) (s : State) : (s.emit r).events = s.events := rfl
@[simp] theorem emit_bkLatches (r : Record) (s : State) : (s.emit r).bkLatches = s.bkLatches := rfl
@[simp] theorem emit_set (r : Record) (s : State) : (s.emit r).set = s.set := rfl
@[simp] theorem emit_frame (r : Record) (s : State) : (s.emit r).frame = s.frame := rfl
@[simp] theorem emit_sync (r : Record) (s : State) : (s.emit r).sync = s.sync := rfl
@[simp] theorem emit_ledger (r : Record) (s : State) : (s.emit r).ledger = s.ledger := rfl
@[simp] theorem emit_ac (r : Record) (s : State) : (s.emit r).ac = s.ac := rfl
@[simp] theorem emit_sen (r : Record) (s : State) : (s.emit r).sen = s.sen := rfl
@[simp] theorem emit_flow (r : Record) (s : State) : (s.emit r).flow = s.flow := rfl
@[simp] theorem emit_qty (r : Record) (s : State) : (s.emit r).qty = s.qty := rfl
@[simp] theorem emit_bill (r : Record) (s : State) : (s.emit r).bill = s.bill := rfl
@[simp] theorem emit_clk (r : Record) (s : State) : (s.emit r).clk = s.clk := rfl
@[simp] theorem emit_pwr (r : Record) (s : State) : (s.emit r).pwr = s.pwr := rfl
@[simp] theorem emit_perf (r : Record) (s : State) : (s.emit r).perf = s.perf := rfl
@[simp] theorem emit_cal (r : Record) (s : State) : (s.emit r).cal = s.cal := rfl
@[simp] theorem emit_acc (r : Record) (s : State) : (s.emit r).acc = s.acc := rfl
@[simp] theorem emit_log (r : Record) (s : State) : (s.emit r).log = s.log := rfl
@[simp] theorem emit_core (r : Record) (s : State) : (s.emit r).core = s.core := rfl
@[simp] theorem emit_iol (r : Record) (s : State) : (s.emit r).iol = s.iol := rfl
@[simp] theorem emit_mbus (r : Record) (s : State) : (s.emit r).mbus = s.mbus := rfl
@[simp] theorem emit_pl (r : Record) (s : State) : (s.emit r).pl = s.pl := rfl
@[simp] theorem emit_disp (r : Record) (s : State) : (s.emit r).disp = s.disp := rfl
@[simp] theorem emit_mem (r : Record) (s : State) : (s.emit r).mem = s.mem := rfl
@[simp] theorem emit_pending (r : Record) (s : State) : (s.emit r).pending = s.pending := rfl

/-! ### emitAll -/

@[simp] theorem emitAll_mode (rs : List Record) (s : State) : (s.emitAll rs).mode = s.mode := by obtain ⟨_, h⟩ := emitAll_only rs s; rw [h]
@[simp] theorem emitAll_modePending (rs : List Record) (s : State) : (s.emitAll rs).modePending = s.modePending := by obtain ⟨_, h⟩ := emitAll_only rs s; rw [h]
@[simp] theorem emitAll_events (rs : List Record) (s : State) : (s.emitAll rs).events = s.events := by obtain ⟨_, h⟩ := emitAll_only rs s; rw [h]
@[simp] theorem emitAll_bkLatches (rs : List Record) (s : State) : (s.emitAll rs).bkLatches = s.bkLatches := by obtain ⟨_, h⟩ := emitAll_only rs s; rw [h]
@[simp] theorem emitAll_set (rs : List Record) (s : State) : (s.emitAll rs).set = s.set := by obtain ⟨_, h⟩ := emitAll_only rs s; rw [h]
@[simp] theorem emitAll_frame (rs : List Record) (s : State) : (s.emitAll rs).frame = s.frame := by obtain ⟨_, h⟩ := emitAll_only rs s; rw [h]
@[simp] theorem emitAll_sync (rs : List Record) (s : State) : (s.emitAll rs).sync = s.sync := by obtain ⟨_, h⟩ := emitAll_only rs s; rw [h]
@[simp] theorem emitAll_ledger (rs : List Record) (s : State) : (s.emitAll rs).ledger = s.ledger := by obtain ⟨_, h⟩ := emitAll_only rs s; rw [h]
@[simp] theorem emitAll_ac (rs : List Record) (s : State) : (s.emitAll rs).ac = s.ac := by obtain ⟨_, h⟩ := emitAll_only rs s; rw [h]
@[simp] theorem emitAll_sen (rs : List Record) (s : State) : (s.emitAll rs).sen = s.sen := by obtain ⟨_, h⟩ := emitAll_only rs s; rw [h]
@[simp] theorem emitAll_flow (rs : List Record) (s : State) : (s.emitAll rs).flow = s.flow := by obtain ⟨_, h⟩ := emitAll_only rs s; rw [h]
@[simp] theorem emitAll_qty (rs : List Record) (s : State) : (s.emitAll rs).qty = s.qty := by obtain ⟨_, h⟩ := emitAll_only rs s; rw [h]
@[simp] theorem emitAll_bill (rs : List Record) (s : State) : (s.emitAll rs).bill = s.bill := by obtain ⟨_, h⟩ := emitAll_only rs s; rw [h]
@[simp] theorem emitAll_clk (rs : List Record) (s : State) : (s.emitAll rs).clk = s.clk := by obtain ⟨_, h⟩ := emitAll_only rs s; rw [h]
@[simp] theorem emitAll_pwr (rs : List Record) (s : State) : (s.emitAll rs).pwr = s.pwr := by obtain ⟨_, h⟩ := emitAll_only rs s; rw [h]
@[simp] theorem emitAll_perf (rs : List Record) (s : State) : (s.emitAll rs).perf = s.perf := by obtain ⟨_, h⟩ := emitAll_only rs s; rw [h]
@[simp] theorem emitAll_cal (rs : List Record) (s : State) : (s.emitAll rs).cal = s.cal := by obtain ⟨_, h⟩ := emitAll_only rs s; rw [h]
@[simp] theorem emitAll_acc (rs : List Record) (s : State) : (s.emitAll rs).acc = s.acc := by obtain ⟨_, h⟩ := emitAll_only rs s; rw [h]
@[simp] theorem emitAll_log (rs : List Record) (s : State) : (s.emitAll rs).log = s.log := by obtain ⟨_, h⟩ := emitAll_only rs s; rw [h]
@[simp] theorem emitAll_core (rs : List Record) (s : State) : (s.emitAll rs).core = s.core := by obtain ⟨_, h⟩ := emitAll_only rs s; rw [h]
@[simp] theorem emitAll_iol (rs : List Record) (s : State) : (s.emitAll rs).iol = s.iol := by obtain ⟨_, h⟩ := emitAll_only rs s; rw [h]
@[simp] theorem emitAll_mbus (rs : List Record) (s : State) : (s.emitAll rs).mbus = s.mbus := by obtain ⟨_, h⟩ := emitAll_only rs s; rw [h]
@[simp] theorem emitAll_pl (rs : List Record) (s : State) : (s.emitAll rs).pl = s.pl := by obtain ⟨_, h⟩ := emitAll_only rs s; rw [h]
@[simp] theorem emitAll_disp (rs : List Record) (s : State) : (s.emitAll rs).disp = s.disp := by obtain ⟨_, h⟩ := emitAll_only rs s; rw [h]
@[simp] theorem emitAll_mem (rs : List Record) (s : State) : (s.emitAll rs).mem = s.mem := by obtain ⟨_, h⟩ := emitAll_only rs s; rw [h]
@[simp] theorem emitAll_pending (rs : List Record) (s : State) : (s.emitAll rs).pending = s.pending := by obtain ⟨_, h⟩ := emitAll_only rs s; rw [h]

/-! ### linkError -/

@[simp] theorem linkError_mode (port : Nat) (s : State) : (s.linkError port).mode = s.mode := by obtain ⟨_, _, _, _, _, _, _, _, h⟩ := linkError_only port s; rw [h]
@[simp] theorem linkError_modePending (port : Nat) (s : State) : (s.linkError port).modePending = s.modePending := by obtain ⟨_, _, _, _, _, _, _, _, h⟩ := linkError_only port s; rw [h]
@[simp] theorem linkError_set (port : Nat) (s : State) : (s.linkError port).set = s.set := by obtain ⟨_, _, _, _, _, _, _, _, h⟩ := linkError_only port s; rw [h]
@[simp] theorem linkError_frame (port : Nat) (s : State) : (s.linkError port).frame = s.frame := by obtain ⟨_, _, _, _, _, _, _, _, h⟩ := linkError_only port s; rw [h]
@[simp] theorem linkError_sync (port : Nat) (s : State) : (s.linkError port).sync = s.sync := by obtain ⟨_, _, _, _, _, _, _, _, h⟩ := linkError_only port s; rw [h]
@[simp] theorem linkError_ledger (port : Nat) (s : State) : (s.linkError port).ledger = s.ledger := by obtain ⟨_, _, _, _, _, _, _, _, h⟩ := linkError_only port s; rw [h]
@[simp] theorem linkError_ac (port : Nat) (s : State) : (s.linkError port).ac = s.ac := by obtain ⟨_, _, _, _, _, _, _, _, h⟩ := linkError_only port s; rw [h]
@[simp] theorem linkError_sen (port : Nat) (s : State) : (s.linkError port).sen = s.sen := by obtain ⟨_, _, _, _, _, _, _, _, h⟩ := linkError_only port s; rw [h]
@[simp] theorem linkError_flow (port : Nat) (s : State) : (s.linkError port).flow = s.flow := by obtain ⟨_, _, _, _, _, _, _, _, h⟩ := linkError_only port s; rw [h]
@[simp] theorem linkError_qty (port : Nat) (s : State) : (s.linkError port).qty = s.qty := by obtain ⟨_, _, _, _, _, _, _, _, h⟩ := linkError_only port s; rw [h]
@[simp] theorem linkError_bill (port : Nat) (s : State) : (s.linkError port).bill = s.bill := by obtain ⟨_, _, _, _, _, _, _, _, h⟩ := linkError_only port s; rw [h]
@[simp] theorem linkError_clk (port : Nat) (s : State) : (s.linkError port).clk = s.clk := by obtain ⟨_, _, _, _, _, _, _, _, h⟩ := linkError_only port s; rw [h]
@[simp] theorem linkError_cal (port : Nat) (s : State) : (s.linkError port).cal = s.cal := by obtain ⟨_, _, _, _, _, _, _, _, h⟩ := linkError_only port s; rw [h]
@[simp] theorem linkError_acc (port : Nat) (s : State) : (s.linkError port).acc = s.acc := by obtain ⟨_, _, _, _, _, _, _, _, h⟩ := linkError_only port s; rw [h]
@[simp] theorem linkError_log (port : Nat) (s : State) : (s.linkError port).log = s.log := by obtain ⟨_, _, _, _, _, _, _, _, h⟩ := linkError_only port s; rw [h]
@[simp] theorem linkError_core (port : Nat) (s : State) : (s.linkError port).core = s.core := by obtain ⟨_, _, _, _, _, _, _, _, h⟩ := linkError_only port s; rw [h]
@[simp] theorem linkError_iol (port : Nat) (s : State) : (s.linkError port).iol = s.iol := by obtain ⟨_, _, _, _, _, _, _, _, h⟩ := linkError_only port s; rw [h]
@[simp] theorem linkError_mbus (port : Nat) (s : State) : (s.linkError port).mbus = s.mbus := by obtain ⟨_, _, _, _, _, _, _, _, h⟩ := linkError_only port s; rw [h]
@[simp] theorem linkError_pl (port : Nat) (s : State) : (s.linkError port).pl = s.pl := by obtain ⟨_, _, _, _, _, _, _, _, h⟩ := linkError_only port s; rw [h]
@[simp] theorem linkError_disp (port : Nat) (s : State) : (s.linkError port).disp = s.disp := by obtain ⟨_, _, _, _, _, _, _, _, h⟩ := linkError_only port s; rw [h]
@[simp] theorem linkError_mem (port : Nat) (s : State) : (s.linkError port).mem = s.mem := by obtain ⟨_, _, _, _, _, _, _, _, h⟩ := linkError_only port s; rw [h]
@[simp] theorem linkError_pending (port : Nat) (s : State) : (s.linkError port).pending = s.pending := by obtain ⟨_, _, _, _, _, _, _, _, h⟩ := linkError_only port s; rw [h]

/-! ### answer -/

@[simp] theorem answer_mode (r : Request) (byCore : Bool) (abort : Nat) (data : List Nat) (s : State) : (s.answer r byCore abort data).mode = s.mode := by obtain ⟨_, _, _, _, _, _, _, _, _, _, _, _, _, _, _, _, _, _, _, _, h⟩ := answer_only r byCore abort data s; rw [h]
@[simp] theorem answer_modePending (r : Request) (byCore : Bool) (abort : Nat) (data : List Nat) (s : State) : (s.answer r byCore abort data).modePending = s.modePending := by obtain ⟨_, _, _, _, _, _, _, _, _, _, _, _, _, _, _, _, _, _, _, _, h⟩ := answer_only r byCore abort data s; rw [h]
@[simp] theorem answer_set (r : Request) (byCore : Bool) (abort : Nat) (data : List Nat) (s : State) : (s.answer r byCore abort data).set = s.set := by obtain ⟨_, _, _, _, _, _, _, _, _, _, _, _, _, _, _, _, _, _, _, _, h⟩ := answer_only r byCore abort data s; rw [h]
@[simp] theorem answer_frame (r : Request) (byCore : Bool) (abort : Nat) (data : List Nat) (s : State) : (s.answer r byCore abort data).frame = s.frame := by obtain ⟨_, _, _, _, _, _, _, _, _, _, _, _, _, _, _, _, _, _, _, _, h⟩ := answer_only r byCore abort data s; rw [h]
@[simp] theorem answer_sync (r : Request) (byCore : Bool) (abort : Nat) (data : List Nat) (s : State) : (s.answer r byCore abort data).sync = s.sync := by obtain ⟨_, _, _, _, _, _, _, _, _, _, _, _, _, _, _, _, _, _, _, _, h⟩ := answer_only r byCore abort data s; rw [h]
@[simp] theorem answer_ledger (r : Request) (byCore : Bool) (abort : Nat) (data : List Nat) (s : State) : (s.answer r byCore abort data).ledger = s.ledger := by obtain ⟨_, _, _, _, _, _, _, _, _, _, _, _, _, _, _, _, _, _, _, _, h⟩ := answer_only r byCore abort data s; rw [h]
@[simp] theorem answer_ac (r : Request) (byCore : Bool) (abort : Nat) (data : List Nat) (s : State) : (s.answer r byCore abort data).ac = s.ac := by obtain ⟨_, _, _, _, _, _, _, _, _, _, _, _, _, _, _, _, _, _, _, _, h⟩ := answer_only r byCore abort data s; rw [h]
@[simp] theorem answer_sen (r : Request) (byCore : Bool) (abort : Nat) (data : List Nat) (s : State) : (s.answer r byCore abort data).sen = s.sen := by obtain ⟨_, _, _, _, _, _, _, _, _, _, _, _, _, _, _, _, _, _, _, _, h⟩ := answer_only r byCore abort data s; rw [h]
@[simp] theorem answer_flow (r : Request) (byCore : Bool) (abort : Nat) (data : List Nat) (s : State) : (s.answer r byCore abort data).flow = s.flow := by obtain ⟨_, _, _, _, _, _, _, _, _, _, _, _, _, _, _, _, _, _, _, _, h⟩ := answer_only r byCore abort data s; rw [h]
@[simp] theorem answer_qty (r : Request) (byCore : Bool) (abort : Nat) (data : List Nat) (s : State) : (s.answer r byCore abort data).qty = s.qty := by obtain ⟨_, _, _, _, _, _, _, _, _, _, _, _, _, _, _, _, _, _, _, _, h⟩ := answer_only r byCore abort data s; rw [h]
@[simp] theorem answer_bill (r : Request) (byCore : Bool) (abort : Nat) (data : List Nat) (s : State) : (s.answer r byCore abort data).bill = s.bill := by obtain ⟨_, _, _, _, _, _, _, _, _, _, _, _, _, _, _, _, _, _, _, _, h⟩ := answer_only r byCore abort data s; rw [h]
@[simp] theorem answer_clk (r : Request) (byCore : Bool) (abort : Nat) (data : List Nat) (s : State) : (s.answer r byCore abort data).clk = s.clk := by obtain ⟨_, _, _, _, _, _, _, _, _, _, _, _, _, _, _, _, _, _, _, _, h⟩ := answer_only r byCore abort data s; rw [h]
@[simp] theorem answer_cal (r : Request) (byCore : Bool) (abort : Nat) (data : List Nat) (s : State) : (s.answer r byCore abort data).cal = s.cal := by obtain ⟨_, _, _, _, _, _, _, _, _, _, _, _, _, _, _, _, _, _, _, _, h⟩ := answer_only r byCore abort data s; rw [h]
@[simp] theorem answer_acc (r : Request) (byCore : Bool) (abort : Nat) (data : List Nat) (s : State) : (s.answer r byCore abort data).acc = s.acc := by obtain ⟨_, _, _, _, _, _, _, _, _, _, _, _, _, _, _, _, _, _, _, _, h⟩ := answer_only r byCore abort data s; rw [h]
@[simp] theorem answer_log (r : Request) (byCore : Bool) (abort : Nat) (data : List Nat) (s : State) : (s.answer r byCore abort data).log = s.log := by obtain ⟨_, _, _, _, _, _, _, _, _, _, _, _, _, _, _, _, _, _, _, _, h⟩ := answer_only r byCore abort data s; rw [h]
@[simp] theorem answer_disp (r : Request) (byCore : Bool) (abort : Nat) (data : List Nat) (s : State) : (s.answer r byCore abort data).disp = s.disp := by obtain ⟨_, _, _, _, _, _, _, _, _, _, _, _, _, _, _, _, _, _, _, _, h⟩ := answer_only r byCore abort data s; rw [h]
@[simp] theorem answer_mem (r : Request) (byCore : Bool) (abort : Nat) (data : List Nat) (s : State) : (s.answer r byCore abort data).mem = s.mem := by obtain ⟨_, _, _, _, _, _, _, _, _, _, _, _, _, _, _, _, _, _, _, _, h⟩ := answer_only r byCore abort data s; rw [h]
@[simp] theorem answer_pending (r : Request) (byCore : Bool) (abort : Nat) (data : List Nat) (s : State) : (s.answer r byCore abort data).pending = s.pending := by obtain ⟨_, _, _, _, _, _, _, _, _, _, _, _, _, _, _, _, _, _, _, _, h⟩ := answer_only r byCore abort data s; rw [h]

/-! ### modCore -/

@[simp] theorem modCore_mode (f : AppCore → AppCore) (s : State) : (s.modCore f).mode = s.mode := rfl
@[simp] theorem modCore_modePending (f : AppCore → AppCore) (s : State) : (s.modCore f).modePending = s.modePending := rfl
@[simp] theorem modCore_events (f : AppCore → AppCore) (s : State) : (s.modCore f).events = s.events := rfl
@[simp] theorem modCore_bkLatches (f : AppCore → AppCore) (s : State) : (s.modCore f).bkLatches = s.bkLatches := rfl
@[simp] theorem modCore_set (f : AppCore → AppCore) (s : State) : (s.modCore f).set = s.set := rfl
@[simp] theorem modCore_q (f : AppCore → AppCore) (s : State) : (s.modCore f).q = s.q := rfl
@[simp] theorem modCore_frame (f : AppCore → AppCore) (s : State) : (s.modCore f).frame = s.frame := rfl
@[simp] theorem modCore_sync (f : AppCore → AppCore) (s : State) : (s.modCore f).sync = s.sync := rfl
@[simp] theorem modCore_ledger (f : AppCore → AppCore) (s : State) : (s.modCore f).ledger = s.ledger := rfl
@[simp] theorem modCore_ac (f : AppCore → AppCore) (s : State) : (s.modCore f).ac = s.ac := rfl
@[simp] theorem modCore_sen (f : AppCore → AppCore) (s : State) : (s.modCore f).sen = s.sen := rfl
@[simp] theorem modCore_flow (f : AppCore → AppCore) (s : State) : (s.modCore f).flow = s.flow := rfl
@[simp] theorem modCore_qty (f : AppCore → AppCore) (s : State) : (s.modCore f).qty = s.qty := rfl
@[simp] theorem modCore_bill (f : AppCore → AppCore) (s : State) : (s.modCore f).bill = s.bill := rfl
@[simp] theorem modCore_clk (f : AppCore → AppCore) (s : State) : (s.modCore f).clk = s.clk := rfl
@[simp] theorem modCore_pwr (f : AppCore → AppCore) (s : State) : (s.modCore f).pwr = s.pwr := rfl
@[simp] theorem modCore_perf (f : AppCore → AppCore) (s : State) : (s.modCore f).perf = s.perf := rfl
@[simp] theorem modCore_cal (f : AppCore → AppCore) (s : State) : (s.modCore f).cal = s.cal := rfl
@[simp] theorem modCore_acc (f : AppCore → AppCore) (s : State) : (s.modCore f).acc = s.acc := rfl
@[simp] theorem modCore_log (f : AppCore → AppCore) (s : State) : (s.modCore f).log = s.log := rfl
@[simp] theorem modCore_iol (f : AppCore → AppCore) (s : State) : (s.modCore f).iol = s.iol := rfl
@[simp] theorem modCore_mbus (f : AppCore → AppCore) (s : State) : (s.modCore f).mbus = s.mbus := rfl
@[simp] theorem modCore_pl (f : AppCore → AppCore) (s : State) : (s.modCore f).pl = s.pl := rfl
@[simp] theorem modCore_disp (f : AppCore → AppCore) (s : State) : (s.modCore f).disp = s.disp := rfl
@[simp] theorem modCore_mem (f : AppCore → AppCore) (s : State) : (s.modCore f).mem = s.mem := rfl
@[simp] theorem modCore_pending (f : AppCore → AppCore) (s : State) : (s.modCore f).pending = s.pending := rfl

/-! ### modPerf -/

@[simp] theorem modPerf_mode (f : Perf → Perf) (s : State) : (s.modPerf f).mode = s.mode := rfl
@[simp] theorem modPerf_modePending (f : Perf → Perf) (s : State) : (s.modPerf f).modePending = s.modePending := rfl
@[simp] theorem modPerf_events (f : Perf → Perf) (s : State) : (s.modPerf f).events = s.events := rfl
@[simp] theorem modPerf_bkLatches (f : Perf → Perf) (s : State) : (s.modPerf f).bkLatches = s.bkLatches := rfl
@[simp] theorem modPerf_set (f : Perf → Perf) (s : State) : (s.modPerf f).set = s.set := rfl
@[simp] theorem modPerf_q (f : Perf → Perf) (s : State) : (s.modPerf f).q = s.q := rfl
@[simp] theorem modPerf_frame (f : Perf → Perf) (s : State) : (s.modPerf f).frame = s.frame := rfl
@[simp] theorem modPerf_sync (f : Perf → Perf) (s : State) : (s.modPerf f).sync = s.sync := rfl
@[simp] theorem modPerf_ledger (f : Perf → Perf) (s : State) : (s.modPerf f).ledger = s.ledger := rfl
@[simp] theorem modPerf_ac (f : Perf → Perf) (s : State) : (s.modPerf f).ac = s.ac := rfl
@[simp] theorem modPerf_sen (f : Perf → Perf) (s : State) : (s.modPerf f).sen = s.sen := rfl
@[simp] theorem modPerf_flow (f : Perf → Perf) (s : State) : (s.modPerf f).flow = s.flow := rfl
@[simp] theorem modPerf_qty (f : Perf → Perf) (s : State) : (s.modPerf f).qty = s.qty := rfl
@[simp] theorem modPerf_bill (f : Perf → Perf) (s : State) : (s.modPerf f).bill = s.bill := rfl
@[simp] theorem modPerf_clk (f : Perf → Perf) (s : State) : (s.modPerf f).clk = s.clk := rfl
@[simp] theorem modPerf_pwr (f : Perf → Perf) (s : State) : (s.modPerf f).pwr = s.pwr := rfl
@[simp] theorem modPerf_cal (f : Perf → Perf) (s : State) : (s.modPerf f).cal = s.cal := rfl
@[simp] theorem modPerf_acc (f : Perf → Perf) (s : State) : (s.modPerf f).acc = s.acc := rfl
@[simp] theorem modPerf_log (f : Perf → Perf) (s : State) : (s.modPerf f).log = s.log := rfl
@[simp] theorem modPerf_core (f : Perf → Perf) (s : State) : (s.modPerf f).core = s.core := rfl
@[simp] theorem modPerf_iol (f : Perf → Perf) (s : State) : (s.modPerf f).iol = s.iol := rfl
@[simp] theorem modPerf_mbus (f : Perf → Perf) (s : State) : (s.modPerf f).mbus = s.mbus := rfl
@[simp] theorem modPerf_pl (f : Perf → Perf) (s : State) : (s.modPerf f).pl = s.pl := rfl
@[simp] theorem modPerf_disp (f : Perf → Perf) (s : State) : (s.modPerf f).disp = s.disp := rfl
@[simp] theorem modPerf_mem (f : Perf → Perf) (s : State) : (s.modPerf f).mem = s.mem := rfl
@[simp] theorem modPerf_pending (f : Perf → Perf) (s : State) : (s.modPerf f).pending = s.pending := rfl

/-! ### modIol -/

@[simp] theorem modIol_mode (f : IoLink → IoLink) (s : State) : (s.modIol f).mode = s.mode := rfl
@[simp] theorem modIol_modePending (f : IoLink → IoLink) (s : State) : (s.modIol f).modePending = s.modePending := rfl
@[simp] theorem modIol_events (f : IoLink → IoLink) (s : State) : (s.modIol f).events = s.events := rfl
@[simp] theorem modIol_bkLatches (f : IoLink → IoLink) (s : State) : (s.modIol f).bkLatches = s.bkLatches := rfl
@[simp] theorem modIol_set (f : IoLink → IoLink) (s : State) : (s.modIol f).set = s.set := rfl
@[simp] theorem modIol_q (f : IoLink → IoLink) (s : State) : (s.modIol f).q = s.q := rfl
@[simp] theorem modIol_frame (f : IoLink → IoLink) (s : State) : (s.modIol f).frame = s.frame := rfl
@[simp] theorem modIol_sync (f : IoLink → IoLink) (s : State) : (s.modIol f).sync = s.sync := rfl
@[simp] theorem modIol_ledger (f : IoLink → IoLink) (s : State) : (s.modIol f).ledger = s.ledger := rfl
@[simp] theorem modIol_ac (f : IoLink → IoLink) (s : State) : (s.modIol f).ac = s.ac := rfl
@[simp] theorem modIol_sen (f : IoLink → IoLink) (s : State) : (s.modIol f).sen = s.sen := rfl
@[simp] theorem modIol_flow (f : IoLink → IoLink) (s : State) : (s.modIol f).flow = s.flow := rfl
@[simp] theorem modIol_qty (f : IoLink → IoLink) (s : State) : (s.modIol f).qty = s.qty := rfl
@[simp] theorem modIol_bill (f : IoLink → IoLink) (s : State) : (s.modIol f).bill = s.bill := rfl
@[simp] theorem modIol_clk (f : IoLink → IoLink) (s : State) : (s.modIol f).clk = s.clk := rfl
@[simp] theorem modIol_pwr (f : IoLink → IoLink) (s : State) : (s.modIol f).pwr = s.pwr := rfl
@[simp] theorem modIol_perf (f : IoLink → IoLink) (s : State) : (s.modIol f).perf = s.perf := rfl
@[simp] theorem modIol_cal (f : IoLink → IoLink) (s : State) : (s.modIol f).cal = s.cal := rfl
@[simp] theorem modIol_acc (f : IoLink → IoLink) (s : State) : (s.modIol f).acc = s.acc := rfl
@[simp] theorem modIol_log (f : IoLink → IoLink) (s : State) : (s.modIol f).log = s.log := rfl
@[simp] theorem modIol_core (f : IoLink → IoLink) (s : State) : (s.modIol f).core = s.core := rfl
@[simp] theorem modIol_mbus (f : IoLink → IoLink) (s : State) : (s.modIol f).mbus = s.mbus := rfl
@[simp] theorem modIol_pl (f : IoLink → IoLink) (s : State) : (s.modIol f).pl = s.pl := rfl
@[simp] theorem modIol_disp (f : IoLink → IoLink) (s : State) : (s.modIol f).disp = s.disp := rfl
@[simp] theorem modIol_mem (f : IoLink → IoLink) (s : State) : (s.modIol f).mem = s.mem := rfl
@[simp] theorem modIol_pending (f : IoLink → IoLink) (s : State) : (s.modIol f).pending = s.pending := rfl

/-! ### modMbus -/

@[simp] theorem modMbus_mode (f : MBus → MBus) (s : State) : (s.modMbus f).mode = s.mode := rfl
@[simp] theorem modMbus_modePending (f : MBus → MBus) (s : State) : (s.modMbus f).modePending = s.modePending := rfl
@[simp] theorem modMbus_events (f : MBus → MBus) (s : State) : (s.modMbus f).events = s.events := rfl
@[simp] theorem modMbus_bkLatches (f : MBus → MBus) (s : State) : (s.modMbus f).bkLatches = s.bkLatches := rfl
@[simp] theorem modMbus_set (f : MBus → MBus) (s : State) : (s.modMbus f).set = s.set := rfl
@[simp] theorem modMbus_q (f : MBus → MBus) (s : State) : (s.modMbus f).q = s.q := rfl
@[simp] theorem modMbus_frame (f : MBus → MBus) (s : State) : (s.modMbus f).frame = s.frame := rfl
@[simp] theorem modMbus_sync (f : MBus → MBus) (s : State) : (s.modMbus f).sync = s.sync := rfl
@[simp] theorem modMbus_ledger (f : MBus → MBus) (s : State) : (s.modMbus f).ledger = s.ledger := rfl
@[simp] theorem modMbus_ac (f : MBus → MBus) (s : State) : (s.modMbus f).ac = s.ac := rfl
@[simp] theorem modMbus_sen (f : MBus → MBus) (s : State) : (s.modMbus f).sen = s.sen := rfl
@[simp] theorem modMbus_flow (f : MBus → MBus) (s : State) : (s.modMbus f).flow = s.flow := rfl
@[simp] theorem modMbus_qty (f : MBus → MBus) (s : State) : (s.modMbus f).qty = s.qty := rfl
@[simp] theorem modMbus_bill (f : MBus → MBus) (s : State) : (s.modMbus f).bill = s.bill := rfl
@[simp] theorem modMbus_clk (f : MBus → MBus) (s : State) : (s.modMbus f).clk = s.clk := rfl
@[simp] theorem modMbus_pwr (f : MBus → MBus) (s : State) : (s.modMbus f).pwr = s.pwr := rfl
@[simp] theorem modMbus_perf (f : MBus → MBus) (s : State) : (s.modMbus f).perf = s.perf := rfl
@[simp] theorem modMbus_cal (f : MBus → MBus) (s : State) : (s.modMbus f).cal = s.cal := rfl
@[simp] theorem modMbus_acc (f : MBus → MBus) (s : State) : (s.modMbus f).acc = s.acc := rfl
@[simp] theorem modMbus_log (f : MBus → MBus) (s : State) : (s.modMbus f).log = s.log := rfl
@[simp] theorem modMbus_core (f : MBus → MBus) (s : State) : (s.modMbus f).core = s.core := rfl
@[simp] theorem modMbus_iol (f : MBus → MBus) (s : State) : (s.modMbus f).iol = s.iol := rfl
@[simp] theorem modMbus_pl (f : MBus → MBus) (s : State) : (s.modMbus f).pl = s.pl := rfl
@[simp] theorem modMbus_disp (f : MBus → MBus) (s : State) : (s.modMbus f).disp = s.disp := rfl
@[simp] theorem modMbus_mem (f : MBus → MBus) (s : State) : (s.modMbus f).mem = s.mem := rfl
@[simp] theorem modMbus_pending (f : MBus → MBus) (s : State) : (s.modMbus f).pending = s.pending := rfl

/-! ### modPl -/

@[simp] theorem modPl_mode (f : Powerline → Powerline) (s : State) : (s.modPl f).mode = s.mode := rfl
@[simp] theorem modPl_modePending (f : Powerline → Powerline) (s : State) : (s.modPl f).modePending = s.modePending := rfl
@[simp] theorem modPl_events (f : Powerline → Powerline) (s : State) : (s.modPl f).events = s.events := rfl
@[simp] theorem modPl_bkLatches (f : Powerline → Powerline) (s : State) : (s.modPl f).bkLatches = s.bkLatches := rfl
@[simp] theorem modPl_set (f : Powerline → Powerline) (s : State) : (s.modPl f).set = s.set := rfl
@[simp] theorem modPl_q (f : Powerline → Powerline) (s : State) : (s.modPl f).q = s.q := rfl
@[simp] theorem modPl_frame (f : Powerline → Powerline) (s : State) : (s.modPl f).frame = s.frame := rfl
@[simp] theorem modPl_sync (f : Powerline → Powerline) (s : State) : (s.modPl f).sync = s.sync := rfl
@[simp] theorem modPl_ledger (f : Powerline → Powerline) (s : State) : (s.modPl f).ledger = s.ledger := rfl
@[simp] theorem modPl_ac (f : Powerline → Powerline) (s : State) : (s.modPl f).ac = s.ac := rfl
@[simp] theorem modPl_sen (f : Powerline → Powerline) (s : State) : (s.modPl f).sen = s.sen := rfl
@[simp] theorem modPl_flow (f : Powerline → Powerline) (s : State) : (s.modPl f).flow = s.flow := rfl
@[simp] theorem modPl_qty (f : Powerline → Powerline) (s : State) : (s.modPl f).qty = s.qty := rfl
@[simp] theorem modPl_bill (f : Powerline → Powerline) (s : State) : (s.modPl f).bill = s.bill := rfl
@[simp] theorem modPl_clk (f : Powerline → Powerline) (s : State) : (s.modPl f).clk = s.clk := rfl
@[simp] theorem modPl_pwr (f : Powerline → Powerline) (s : State) : (s.modPl f).pwr = s.pwr := rfl
@[simp] theorem modPl_perf (f : Powerline → Powerline) (s : State) : (s.modPl f).perf = s.perf := rfl
@[simp] theorem modPl_cal (f : Powerline → Powerline) (s : State) : (s.modPl f).cal = s.cal := rfl
@[simp] theorem modPl_acc (f : Powerline → Powerline) (s : State) : (s.modPl f).acc = s.acc := rfl
@[simp] theorem modPl_log (f : Powerline → Powerline) (s : State) : (s.modPl f).log = s.log := rfl
@[simp] theorem modPl_core (f : Powerline → Powerline) (s : State) : (s.modPl f).core = s.core := rfl
@[simp] theorem modPl_iol (f : Powerline → Powerline) (s : State) : (s.modPl f).iol = s.iol := rfl
@[simp] theorem modPl_mbus (f : Powerline → Powerline) (s : State) : (s.modPl f).mbus = s.mbus := rfl
@[simp] theorem modPl_disp (f : Powerline → Powerline) (s : State) : (s.modPl f).disp = s.disp := rfl
@[simp] theorem modPl_mem (f : Powerline → Powerline) (s : State) : (s.modPl f).mem = s.mem := rfl
@[simp] theorem modPl_pending (f : Powerline → Powerline) (s : State) : (s.modPl f).pending = s.pending := rfl

/-! ### modDisp -/

@[simp] theorem modDisp_mode (f : Display → Display) (s : State) : (s.modDisp f).mode = s.mode := rfl
@[simp] theorem modDisp_modePending (f : Display → Display) (s : State) : (s.modDisp f).modePending = s.modePending := rfl
@[simp] theorem modDisp_events (f : Display → Display) (s : State) : (s.modDisp f).events = s.events := rfl
@[simp] theorem modDisp_bkLatches (f : Display → Display) (s : State) : (s.modDisp f).bkLatches = s.bkLatches := rfl
@[simp] theorem modDisp_set (f : Display → Display) (s : State) : (s.modDisp f).set = s.set := rfl
@[simp] theorem modDisp_q (f : Display → Display) (s : State) : (s.modDisp f).q = s.q := rfl
@[simp] theorem modDisp_frame (f : Display → Display) (s : State) : (s.modDisp f).frame = s.frame := rfl
@[simp] theorem modDisp_sync (f : Display → Display) (s : State) : (s.modDisp f).sync = s.sync := rfl
@[simp] theorem modDisp_ledger (f : Display → Display) (s : State) : (s.modDisp f).ledger = s.ledger := rfl
@[simp] theorem modDisp_ac (f : Display → Display) (s : State) : (s.modDisp f).ac = s.ac := rfl
@[simp] theorem modDisp_sen (f : Display → Display) (s : State) : (s.modDisp f).sen = s.sen := rfl
@[simp] theorem modDisp_flow (f : Display → Display) (s : State) : (s.modDisp f).flow = s.flow := rfl
@[simp] theorem modDisp_qty (f : Display → Display) (s : State) : (s.modDisp f).qty = s.qty := rfl
@[simp] theorem modDisp_bill (f : Display → Display) (s : State) : (s.modDisp f).bill = s.bill := rfl
@[simp] theorem modDisp_clk (f : Display → Display) (s : State) : (s.modDisp f).clk = s.clk := rfl
@[simp] theorem modDisp_pwr (f : Display → Display) (s : State) : (s.modDisp f).pwr = s.pwr := rfl
@[simp] theorem modDisp_perf (f : Display → Display) (s : State) : (s.modDisp f).perf = s.perf := rfl
@[simp] theorem modDisp_cal (f : Display → Display) (s : State) : (s.modDisp f).cal = s.cal := rfl
@[simp] theorem modDisp_acc (f : Display → Display) (s : State) : (s.modDisp f).acc = s.acc := rfl
@[simp] theorem modDisp_log (f : Display → Display) (s : State) : (s.modDisp f).log = s.log := rfl
@[simp] theorem modDisp_core (f : Display → Display) (s : State) : (s.modDisp f).core = s.core := rfl
@[simp] theorem modDisp_iol (f : Display → Display) (s : State) : (s.modDisp f).iol = s.iol := rfl
@[simp] theorem modDisp_mbus (f : Display → Display) (s : State) : (s.modDisp f).mbus = s.mbus := rfl
@[simp] theorem modDisp_pl (f : Display → Display) (s : State) : (s.modDisp f).pl = s.pl := rfl
@[simp] theorem modDisp_mem (f : Display → Display) (s : State) : (s.modDisp f).mem = s.mem := rfl
@[simp] theorem modDisp_pending (f : Display → Display) (s : State) : (s.modDisp f).pending = s.pending := rfl

/-! ### modBill -/

@[simp] theorem modBill_mode (f : BillState → BillState) (s : State) : (s.modBill f).mode = s.mode := rfl
@[simp] theorem modBill_modePending (f : BillState → BillState) (s : State) : (s.modBill f).modePending = s.modePending := rfl
@[simp] theorem modBill_events (f : BillState → BillState) (s : State) : (s.modBill f).events = s.events := rfl
@[simp] theorem modBill_bkLatches (f : BillState → BillState) (s : State) : (s.modBill f).bkLatches = s.bkLatches := rfl
@[simp] theorem modBill_set (f : BillState → BillState) (s : State) : (s.modBill f).set = s.set := rfl
@[simp] theorem modBill_q (f : BillState → BillState) (s : State) : (s.modBill f).q = s.q := rfl
@[simp] theorem modBill_frame (f : BillState → BillState) (s : State) : (s.modBill f).frame = s.frame := rfl
@[simp] theorem modBill_sync (f : BillState → BillState) (s : State) : (s.modBill f).sync = s.sync := rfl
@[simp] theorem modBill_ledger (f : BillState → BillState) (s : State) : (s.modBill f).ledger = s.ledger := rfl
@[simp] theorem modBill_ac (f : BillState → BillState) (s : State) : (s.modBill f).ac = s.ac := rfl
@[simp] theorem modBill_sen (f : BillState → BillState) (s : State) : (s.modBill f).sen = s.sen := rfl
@[simp] theorem modBill_flow (f : BillState → BillState) (s : State) : (s.modBill f).flow = s.flow := rfl
@[simp] theorem modBill_qty (f : BillState → BillState) (s : State) : (s.modBill f).qty = s.qty := rfl
@[simp] theorem modBill_clk (f : BillState → BillState) (s : State) : (s.modBill f).clk = s.clk := rfl
@[simp] theorem modBill_pwr (f : BillState → BillState) (s : State) : (s.modBill f).pwr = s.pwr := rfl
@[simp] theorem modBill_perf (f : BillState → BillState) (s : State) : (s.modBill f).perf = s.perf := rfl
@[simp] theorem modBill_cal (f : BillState → BillState) (s : State) : (s.modBill f).cal = s.cal := rfl
@[simp] theorem modBill_acc (f : BillState → BillState) (s : State) : (s.modBill f).acc = s.acc := rfl
@[simp] theorem modBill_log (f : BillState → BillState) (s : State) : (s.modBill f).log = s.log := rfl
@[simp] theorem modBill_core (f : BillState → BillState) (s : State) : (s.modBill f).core = s.core := rfl
@[simp] theorem modBill_iol (f : BillState → BillState) (s : State) : (s.modBill f).iol = s.iol := rfl
@[simp] theorem modBill_mbus (f : BillState → BillState) (s : State) : (s.modBill f).mbus = s.mbus := rfl
@[simp] theorem modBill_pl (f : BillState → BillState) (s : State) : (s.modBill f).pl = s.pl := rfl
@[simp] theorem modBill_disp (f : BillState → BillState) (s : State) : (s.modBill f).disp = s.disp := rfl
@[simp] theorem modBill_mem (f : BillState → BillState) (s : State) : (s.modBill f).mem = s.mem := rfl
@[simp] theorem modBill_pending (f : BillState → BillState) (s : State) : (s.modBill f).pending = s.pending := rfl

/-! ### modOut -/

@[simp] theorem modOut_mode (n : Nat) (f : PulseOut → PulseOut) (s : State) : (s.modOut n f).mode = s.mode := rfl
@[simp] theorem modOut_modePending (n : Nat) (f : PulseOut → PulseOut) (s : State) : (s.modOut n f).modePending = s.modePending := rfl
@[simp] theorem modOut_events (n : Nat) (f : PulseOut → PulseOut) (s : State) : (s.modOut n f).events = s.events := rfl
@[simp] theorem modOut_bkLatches (n : Nat) (f : PulseOut → PulseOut) (s : State) : (s.modOut n f).bkLatches = s.bkLatches := rfl
@[simp] theorem modOut_set (n : Nat) (f : PulseOut → PulseOut) (s : State) : (s.modOut n f).set = s.set := rfl
@[simp] theorem modOut_q (n : Nat) (f : PulseOut → PulseOut) (s : State) : (s.modOut n f).q = s.q := rfl
@[simp] theorem modOut_frame (n : Nat) (f : PulseOut → PulseOut) (s : State) : (s.modOut n f).frame = s.frame := rfl
@[simp] theorem modOut_sync (n : Nat) (f : PulseOut → PulseOut) (s : State) : (s.modOut n f).sync = s.sync := rfl
@[simp] theorem modOut_ledger (n : Nat) (f : PulseOut → PulseOut) (s : State) : (s.modOut n f).ledger = s.ledger := rfl
@[simp] theorem modOut_ac (n : Nat) (f : PulseOut → PulseOut) (s : State) : (s.modOut n f).ac = s.ac := rfl
@[simp] theorem modOut_sen (n : Nat) (f : PulseOut → PulseOut) (s : State) : (s.modOut n f).sen = s.sen := rfl
@[simp] theorem modOut_flow (n : Nat) (f : PulseOut → PulseOut) (s : State) : (s.modOut n f).flow = s.flow := rfl
@[simp] theorem modOut_bill (n : Nat) (f : PulseOut → PulseOut) (s : State) : (s.modOut n f).bill = s.bill := rfl
@[simp] theorem modOut_clk (n : Nat) (f : PulseOut → PulseOut) (s : State) : (s.modOut n f).clk = s.clk := rfl
@[simp] theorem modOut_pwr (n : Nat) (f : PulseOut → PulseOut) (s : State) : (s.modOut n f).pwr = s.pwr := rfl
@[simp] theorem modOut_perf (n : Nat) (f : PulseOut → PulseOut) (s : State) : (s.modOut n f).perf = s.perf := rfl
@[simp] theorem modOut_cal (n : Nat) (f : PulseOut → PulseOut) (s : State) : (s.modOut n f).cal = s.cal := rfl
@[simp] theorem modOut_acc (n : Nat) (f : PulseOut → PulseOut) (s : State) : (s.modOut n f).acc = s.acc := rfl
@[simp] theorem modOut_log (n : Nat) (f : PulseOut → PulseOut) (s : State) : (s.modOut n f).log = s.log := rfl
@[simp] theorem modOut_core (n : Nat) (f : PulseOut → PulseOut) (s : State) : (s.modOut n f).core = s.core := rfl
@[simp] theorem modOut_iol (n : Nat) (f : PulseOut → PulseOut) (s : State) : (s.modOut n f).iol = s.iol := rfl
@[simp] theorem modOut_mbus (n : Nat) (f : PulseOut → PulseOut) (s : State) : (s.modOut n f).mbus = s.mbus := rfl
@[simp] theorem modOut_pl (n : Nat) (f : PulseOut → PulseOut) (s : State) : (s.modOut n f).pl = s.pl := rfl
@[simp] theorem modOut_disp (n : Nat) (f : PulseOut → PulseOut) (s : State) : (s.modOut n f).disp = s.disp := rfl
@[simp] theorem modOut_mem (n : Nat) (f : PulseOut → PulseOut) (s : State) : (s.modOut n f).mem = s.mem := rfl
@[simp] theorem modOut_pending (n : Nat) (f : PulseOut → PulseOut) (s : State) : (s.modOut n f).pending = s.pending := rfl

/-! ### The parts of the power manager and of the counters -/

@[simp] theorem raise_pwr_doms (e : Raised) (s : State) : (s.raise e).pwr.doms = s.pwr.doms := by
  obtain ⟨_, _, _, h⟩ := Power_wake_only s.pwr e.ev
  show (s.pwr.wake e.ev).doms = _
  rw [h]
@[simp] theorem raise_pwr_mtime (e : Raised) (s : State) : (s.raise e).pwr.mtime = s.pwr.mtime := by
  obtain ⟨_, _, _, h⟩ := Power_wake_only s.pwr e.ev
  show (s.pwr.wake e.ev).mtime = _
  rw [h]
@[simp] theorem raise_pwr_wickStart (e : Raised) (s : State) : (s.raise e).pwr.wickStart = s.pwr.wickStart := by
  obtain ⟨_, _, _, h⟩ := Power_wake_only s.pwr e.ev
  show (s.pwr.wake e.ev).wickStart = _
  rw [h]
@[simp] theorem raise_pwr_finalDue (e : Raised) (s : State) : (s.raise e).pwr.finalDue = s.pwr.finalDue := by
  obtain ⟨_, _, _, h⟩ := Power_wake_only s.pwr e.ev
  show (s.pwr.wake e.ev).finalDue = _
  rw [h]
@[simp] theorem raise_pwr_lastWake (e : Raised) (s : State) : (s.raise e).pwr.lastWake = s.pwr.lastWake := by
  obtain ⟨_, _, _, h⟩ := Power_wake_only s.pwr e.ev
  show (s.pwr.wake e.ev).lastWake = _
  rw [h]
@[simp] theorem raise_pwr_wakeFails (e : Raised) (s : State) : (s.raise e).pwr.wakeFails = s.pwr.wakeFails := by
  obtain ⟨_, _, _, h⟩ := Power_wake_only s.pwr e.ev
  show (s.pwr.wake e.ev).wakeFails = _
  rw [h]
@[simp] theorem raise_pwr_resSnap (e : Raised) (s : State) : (s.raise e).pwr.resSnap = s.pwr.resSnap := by
  obtain ⟨_, _, _, h⟩ := Power_wake_only s.pwr e.ev
  show (s.pwr.wake e.ev).resSnap = _
  rw [h]
@[simp] theorem raise_pwr_resFrame (e : Raised) (s : State) : (s.raise e).pwr.resFrame = s.pwr.resFrame := by
  obtain ⟨_, _, _, h⟩ := Power_wake_only s.pwr e.ev
  show (s.pwr.wake e.ev).resFrame = _
  rw [h]
@[simp] theorem raise_pwr_resClear (e : Raised) (s : State) : (s.raise e).pwr.resClear = s.pwr.resClear := by
  obtain ⟨_, _, _, h⟩ := Power_wake_only s.pwr e.ev
  show (s.pwr.wake e.ev).resClear = _
  rw [h]
@[simp] theorem raise_pwr_command (e : Raised) (s : State) : (s.raise e).pwr.command = s.pwr.command := by
  obtain ⟨_, _, _, h⟩ := Power_wake_only s.pwr e.ev
  show (s.pwr.wake e.ev).command = _
  rw [h]
@[simp] theorem raise_pwr_taperExit (e : Raised) (s : State) : (s.raise e).pwr.taperExit = s.pwr.taperExit := by
  obtain ⟨_, _, _, h⟩ := Power_wake_only s.pwr e.ev
  show (s.pwr.wake e.ev).taperExit = _
  rw [h]
@[simp] theorem raise_pwr_startMode (e : Raised) (s : State) : (s.raise e).pwr.startMode = s.pwr.startMode := by
  obtain ⟨_, _, _, h⟩ := Power_wake_only s.pwr e.ev
  show (s.pwr.wake e.ev).startMode = _
  rw [h]
@[simp] theorem raise_pwr_failedStarts (e : Raised) (s : State) : (s.raise e).pwr.failedStarts = s.pwr.failedStarts := by
  obtain ⟨_, _, _, h⟩ := Power_wake_only s.pwr e.ev
  show (s.pwr.wake e.ev).failedStarts = _
  rw [h]
@[simp] theorem raise_pwr_startCount (e : Raised) (s : State) : (s.raise e).pwr.startCount = s.pwr.startCount := by
  obtain ⟨_, _, _, h⟩ := Power_wake_only s.pwr e.ev
  show (s.pwr.wake e.ev).startCount = _
  rw [h]
@[simp] theorem raise_pwr_taperLatchBk (e : Raised) (s : State) : (s.raise e).pwr.taperLatchBk = s.pwr.taperLatchBk := by
  obtain ⟨_, _, _, h⟩ := Power_wake_only s.pwr e.ev
  show (s.pwr.wake e.ev).taperLatchBk = _
  rw [h]
@[simp] theorem raise_pwr_taperLatchMetro (e : Raised) (s : State) : (s.raise e).pwr.taperLatchMetro = s.pwr.taperLatchMetro := by
  obtain ⟨_, _, _, h⟩ := Power_wake_only s.pwr e.ev
  show (s.pwr.wake e.ev).taperLatchMetro = _
  rw [h]
@[simp] theorem raise_pwr_taperCode (e : Raised) (s : State) : (s.raise e).pwr.taperCode = s.pwr.taperCode := by
  obtain ⟨_, _, _, h⟩ := Power_wake_only s.pwr e.ev
  show (s.pwr.wake e.ev).taperCode = _
  rw [h]
@[simp] theorem raise_pwr_boundaries (e : Raised) (s : State) : (s.raise e).pwr.boundaries = s.pwr.boundaries := by
  obtain ⟨_, _, _, h⟩ := Power_wake_only s.pwr e.ev
  show (s.pwr.wake e.ev).boundaries = _
  rw [h]
@[simp] theorem raise_pwr_succeeded (e : Raised) (s : State) : (s.raise e).pwr.succeeded = s.pwr.succeeded := by
  obtain ⟨_, _, _, h⟩ := Power_wake_only s.pwr e.ev
  show (s.pwr.wake e.ev).succeeded = _
  rw [h]
@[simp] theorem raise_pwr_history (e : Raised) (s : State) : (s.raise e).pwr.history = s.pwr.history := by
  obtain ⟨_, _, _, h⟩ := Power_wake_only s.pwr e.ev
  show (s.pwr.wake e.ev).history = _
  rw [h]
@[simp] theorem raise_pwr_open_ (e : Raised) (s : State) : (s.raise e).pwr.open_ = s.pwr.open_ := by
  obtain ⟨_, _, _, h⟩ := Power_wake_only s.pwr e.ev
  show (s.pwr.wake e.ev).open_ = _
  rw [h]
@[simp] theorem raise_pwr_endReason (e : Raised) (s : State) : (s.raise e).pwr.endReason = s.pwr.endReason := by
  obtain ⟨_, _, _, h⟩ := Power_wake_only s.pwr e.ev
  show (s.pwr.wake e.ev).endReason = _
  rw [h]
@[simp] theorem raise_pwr_backoff (e : Raised) (s : State) : (s.raise e).pwr.backoff = s.pwr.backoff := by
  obtain ⟨_, _, _, h⟩ := Power_wake_only s.pwr e.ev
  show (s.pwr.wake e.ev).backoff = _
  rw [h]
@[simp] theorem raise_pwr_nrst (e : Raised) (s : State) : (s.raise e).pwr.nrst = s.pwr.nrst := by
  obtain ⟨_, _, _, h⟩ := Power_wake_only s.pwr e.ev
  show (s.pwr.wake e.ev).nrst = _
  rw [h]
@[simp] theorem raise_pwr_testm (e : Raised) (s : State) : (s.raise e).pwr.testm = s.pwr.testm := by
  obtain ⟨_, _, _, h⟩ := Power_wake_only s.pwr e.ev
  show (s.pwr.wake e.ev).testm = _
  rw [h]
@[simp] theorem raise_pwr_resumed (e : Raised) (s : State) : (s.raise e).pwr.resumed = s.pwr.resumed := by
  obtain ⟨_, _, _, h⟩ := Power_wake_only s.pwr e.ev
  show (s.pwr.wake e.ev).resumed = _
  rw [h]
@[simp] theorem raise_pwr_wakeFailReplay (e : Raised) (s : State) : (s.raise e).pwr.wakeFailReplay = s.pwr.wakeFailReplay := by
  obtain ⟨_, _, _, h⟩ := Power_wake_only s.pwr e.ev
  show (s.pwr.wake e.ev).wakeFailReplay = _
  rw [h]
@[simp] theorem raise_pwr_keyDown (e : Raised) (s : State) : (s.raise e).pwr.keyDown = s.pwr.keyDown := by
  obtain ⟨_, _, _, h⟩ := Power_wake_only s.pwr e.ev
  show (s.pwr.wake e.ev).keyDown = _
  rw [h]
@[simp] theorem raise_pwr_keySince (e : Raised) (s : State) : (s.raise e).pwr.keySince = s.pwr.keySince := by
  obtain ⟨_, _, _, h⟩ := Power_wake_only s.pwr e.ev
  show (s.pwr.wake e.ev).keySince = _
  rw [h]
@[simp] theorem raise_pwr_vddio (e : Raised) (s : State) : (s.raise e).pwr.vddio = s.pwr.vddio := by
  obtain ⟨_, _, _, h⟩ := Power_wake_only s.pwr e.ev
  show (s.pwr.wake e.ev).vddio = _
  rw [h]

@[simp] theorem raiseAll_pwr_doms (es : List Raised) (s : State) : (s.raiseAll es).pwr.doms = s.pwr.doms := by obtain ⟨_, _, _, _, _, h⟩ := raiseAll_only es s; rw [h]
@[simp] theorem raiseAll_pwr_mtime (es : List Raised) (s : State) : (s.raiseAll es).pwr.mtime = s.pwr.mtime := by obtain ⟨_, _, _, _, _, h⟩ := raiseAll_only es s; rw [h]
@[simp] theorem raiseAll_pwr_wickStart (es : List Raised) (s : State) : (s.raiseAll es).pwr.wickStart = s.pwr.wickStart := by obtain ⟨_, _, _, _, _, h⟩ := raiseAll_only es s; rw [h]
@[simp] theorem raiseAll_pwr_finalDue (es : List Raised) (s : State) : (s.raiseAll es).pwr.finalDue = s.pwr.finalDue := by obtain ⟨_, _, _, _, _, h⟩ := raiseAll_only es s; rw [h]
@[simp] theorem raiseAll_pwr_lastWake (es : List Raised) (s : State) : (s.raiseAll es).pwr.lastWake = s.pwr.lastWake := by obtain ⟨_, _, _, _, _, h⟩ := raiseAll_only es s; rw [h]
@[simp] theorem raiseAll_pwr_wakeFails (es : List Raised) (s : State) : (s.raiseAll es).pwr.wakeFails = s.pwr.wakeFails := by obtain ⟨_, _, _, _, _, h⟩ := raiseAll_only es s; rw [h]
@[simp] theorem raiseAll_pwr_resSnap (es : List Raised) (s : State) : (s.raiseAll es).pwr.resSnap = s.pwr.resSnap := by obtain ⟨_, _, _, _, _, h⟩ := raiseAll_only es s; rw [h]
@[simp] theorem raiseAll_pwr_resFrame (es : List Raised) (s : State) : (s.raiseAll es).pwr.resFrame = s.pwr.resFrame := by obtain ⟨_, _, _, _, _, h⟩ := raiseAll_only es s; rw [h]
@[simp] theorem raiseAll_pwr_resClear (es : List Raised) (s : State) : (s.raiseAll es).pwr.resClear = s.pwr.resClear := by obtain ⟨_, _, _, _, _, h⟩ := raiseAll_only es s; rw [h]
@[simp] theorem raiseAll_pwr_command (es : List Raised) (s : State) : (s.raiseAll es).pwr.command = s.pwr.command := by obtain ⟨_, _, _, _, _, h⟩ := raiseAll_only es s; rw [h]
@[simp] theorem raiseAll_pwr_taperExit (es : List Raised) (s : State) : (s.raiseAll es).pwr.taperExit = s.pwr.taperExit := by obtain ⟨_, _, _, _, _, h⟩ := raiseAll_only es s; rw [h]
@[simp] theorem raiseAll_pwr_startMode (es : List Raised) (s : State) : (s.raiseAll es).pwr.startMode = s.pwr.startMode := by obtain ⟨_, _, _, _, _, h⟩ := raiseAll_only es s; rw [h]
@[simp] theorem raiseAll_pwr_failedStarts (es : List Raised) (s : State) : (s.raiseAll es).pwr.failedStarts = s.pwr.failedStarts := by obtain ⟨_, _, _, _, _, h⟩ := raiseAll_only es s; rw [h]
@[simp] theorem raiseAll_pwr_startCount (es : List Raised) (s : State) : (s.raiseAll es).pwr.startCount = s.pwr.startCount := by obtain ⟨_, _, _, _, _, h⟩ := raiseAll_only es s; rw [h]
@[simp] theorem raiseAll_pwr_taperLatchBk (es : List Raised) (s : State) : (s.raiseAll es).pwr.taperLatchBk = s.pwr.taperLatchBk := by obtain ⟨_, _, _, _, _, h⟩ := raiseAll_only es s; rw [h]
@[simp] theorem raiseAll_pwr_taperLatchMetro (es : List Raised) (s : State) : (s.raiseAll es).pwr.taperLatchMetro = s.pwr.taperLatchMetro := by obtain ⟨_, _, _, _, _, h⟩ := raiseAll_only es s; rw [h]
@[simp] theorem raiseAll_pwr_taperCode (es : List Raised) (s : State) : (s.raiseAll es).pwr.taperCode = s.pwr.taperCode := by obtain ⟨_, _, _, _, _, h⟩ := raiseAll_only es s; rw [h]
@[simp] theorem raiseAll_pwr_boundaries (es : List Raised) (s : State) : (s.raiseAll es).pwr.boundaries = s.pwr.boundaries := by obtain ⟨_, _, _, _, _, h⟩ := raiseAll_only es s; rw [h]
@[simp] theorem raiseAll_pwr_succeeded (es : List Raised) (s : State) : (s.raiseAll es).pwr.succeeded = s.pwr.succeeded := by obtain ⟨_, _, _, _, _, h⟩ := raiseAll_only es s; rw [h]
@[simp] theorem raiseAll_pwr_history (es : List Raised) (s : State) : (s.raiseAll es).pwr.history = s.pwr.history := by obtain ⟨_, _, _, _, _, h⟩ := raiseAll_only es s; rw [h]
@[simp] theorem raiseAll_pwr_open_ (es : List Raised) (s : State) : (s.raiseAll es).pwr.open_ = s.pwr.open_ := by obtain ⟨_, _, _, _, _, h⟩ := raiseAll_only es s; rw [h]
@[simp] theorem raiseAll_pwr_endReason (es : List Raised) (s : State) : (s.raiseAll es).pwr.endReason = s.pwr.endReason := by obtain ⟨_, _, _, _, _, h⟩ := raiseAll_only es s; rw [h]
@[simp] theorem raiseAll_pwr_backoff (es : List Raised) (s : State) : (s.raiseAll es).pwr.backoff = s.pwr.backoff := by obtain ⟨_, _, _, _, _, h⟩ := raiseAll_only es s; rw [h]
@[simp] theorem raiseAll_pwr_nrst (es : List Raised) (s : State) : (s.raiseAll es).pwr.nrst = s.pwr.nrst := by obtain ⟨_, _, _, _, _, h⟩ := raiseAll_only es s; rw [h]
@[simp] theorem raiseAll_pwr_testm (es : List Raised) (s : State) : (s.raiseAll es).pwr.testm = s.pwr.testm := by obtain ⟨_, _, _, _, _, h⟩ := raiseAll_only es s; rw [h]
@[simp] theorem raiseAll_pwr_resumed (es : List Raised) (s : State) : (s.raiseAll es).pwr.resumed = s.pwr.resumed := by obtain ⟨_, _, _, _, _, h⟩ := raiseAll_only es s; rw [h]
@[simp] theorem raiseAll_pwr_wakeFailReplay (es : List Raised) (s : State) : (s.raiseAll es).pwr.wakeFailReplay = s.pwr.wakeFailReplay := by obtain ⟨_, _, _, _, _, h⟩ := raiseAll_only es s; rw [h]
@[simp] theorem raiseAll_pwr_keyDown (es : List Raised) (s : State) : (s.raiseAll es).pwr.keyDown = s.pwr.keyDown := by obtain ⟨_, _, _, _, _, h⟩ := raiseAll_only es s; rw [h]
@[simp] theorem raiseAll_pwr_keySince (es : List Raised) (s : State) : (s.raiseAll es).pwr.keySince = s.pwr.keySince := by obtain ⟨_, _, _, _, _, h⟩ := raiseAll_only es s; rw [h]
@[simp] theorem raiseAll_pwr_vddio (es : List Raised) (s : State) : (s.raiseAll es).pwr.vddio = s.pwr.vddio := by obtain ⟨_, _, _, _, _, h⟩ := raiseAll_only es s; rw [h]

@[simp] theorem raiseIf_pwr_doms (c : Bool) (e : Raised) (s : State) : (s.raiseIf c e).pwr.doms = s.pwr.doms := by obtain ⟨_, _, _, _, _, h⟩ := raiseIf_only c e s; rw [h]
@[simp] theorem raiseIf_pwr_mtime (c : Bool) (e : Raised) (s : State) : (s.raiseIf c e).pwr.mtime = s.pwr.mtime := by obtain ⟨_, _, _, _, _, h⟩ := raiseIf_only c e s; rw [h]
@[simp] theorem raiseIf_pwr_wickStart (c : Bool) (e : Raised) (s : State) : (s.raiseIf c e).pwr.wickStart = s.pwr.wickStart := by obtain ⟨_, _, _, _, _, h⟩ := raiseIf_only c e s; rw [h]
@[simp] theorem raiseIf_pwr_finalDue (c : Bool) (e : Raised) (s : State) : (s.raiseIf c e).pwr.finalDue = s.pwr.finalDue := by obtain ⟨_, _, _, _, _, h⟩ := raiseIf_only c e s; rw [h]
@[simp] theorem raiseIf_pwr_lastWake (c : Bool) (e : Raised) (s : State) : (s.raiseIf c e).pwr.lastWake = s.pwr.lastWake := by obtain ⟨_, _, _, _, _, h⟩ := raiseIf_only c e s; rw [h]
@[simp] theorem raiseIf_pwr_wakeFails (c : Bool) (e : Raised) (s : State) : (s.raiseIf c e).pwr.wakeFails = s.pwr.wakeFails := by obtain ⟨_, _, _, _, _, h⟩ := raiseIf_only c e s; rw [h]
@[simp] theorem raiseIf_pwr_resSnap (c : Bool) (e : Raised) (s : State) : (s.raiseIf c e).pwr.resSnap = s.pwr.resSnap := by obtain ⟨_, _, _, _, _, h⟩ := raiseIf_only c e s; rw [h]
@[simp] theorem raiseIf_pwr_resFrame (c : Bool) (e : Raised) (s : State) : (s.raiseIf c e).pwr.resFrame = s.pwr.resFrame := by obtain ⟨_, _, _, _, _, h⟩ := raiseIf_only c e s; rw [h]
@[simp] theorem raiseIf_pwr_resClear (c : Bool) (e : Raised) (s : State) : (s.raiseIf c e).pwr.resClear = s.pwr.resClear := by obtain ⟨_, _, _, _, _, h⟩ := raiseIf_only c e s; rw [h]
@[simp] theorem raiseIf_pwr_command (c : Bool) (e : Raised) (s : State) : (s.raiseIf c e).pwr.command = s.pwr.command := by obtain ⟨_, _, _, _, _, h⟩ := raiseIf_only c e s; rw [h]
@[simp] theorem raiseIf_pwr_taperExit (c : Bool) (e : Raised) (s : State) : (s.raiseIf c e).pwr.taperExit = s.pwr.taperExit := by obtain ⟨_, _, _, _, _, h⟩ := raiseIf_only c e s; rw [h]
@[simp] theorem raiseIf_pwr_startMode (c : Bool) (e : Raised) (s : State) : (s.raiseIf c e).pwr.startMode = s.pwr.startMode := by obtain ⟨_, _, _, _, _, h⟩ := raiseIf_only c e s; rw [h]
@[simp] theorem raiseIf_pwr_failedStarts (c : Bool) (e : Raised) (s : State) : (s.raiseIf c e).pwr.failedStarts = s.pwr.failedStarts := by obtain ⟨_, _, _, _, _, h⟩ := raiseIf_only c e s; rw [h]
@[simp] theorem raiseIf_pwr_startCount (c : Bool) (e : Raised) (s : State) : (s.raiseIf c e).pwr.startCount = s.pwr.startCount := by obtain ⟨_, _, _, _, _, h⟩ := raiseIf_only c e s; rw [h]
@[simp] theorem raiseIf_pwr_taperLatchBk (c : Bool) (e : Raised) (s : State) : (s.raiseIf c e).pwr.taperLatchBk = s.pwr.taperLatchBk := by obtain ⟨_, _, _, _, _, h⟩ := raiseIf_only c e s; rw [h]
@[simp] theorem raiseIf_pwr_taperLatchMetro (c : Bool) (e : Raised) (s : State) : (s.raiseIf c e).pwr.taperLatchMetro = s.pwr.taperLatchMetro := by obtain ⟨_, _, _, _, _, h⟩ := raiseIf_only c e s; rw [h]
@[simp] theorem raiseIf_pwr_taperCode (c : Bool) (e : Raised) (s : State) : (s.raiseIf c e).pwr.taperCode = s.pwr.taperCode := by obtain ⟨_, _, _, _, _, h⟩ := raiseIf_only c e s; rw [h]
@[simp] theorem raiseIf_pwr_boundaries (c : Bool) (e : Raised) (s : State) : (s.raiseIf c e).pwr.boundaries = s.pwr.boundaries := by obtain ⟨_, _, _, _, _, h⟩ := raiseIf_only c e s; rw [h]
@[simp] theorem raiseIf_pwr_succeeded (c : Bool) (e : Raised) (s : State) : (s.raiseIf c e).pwr.succeeded = s.pwr.succeeded := by obtain ⟨_, _, _, _, _, h⟩ := raiseIf_only c e s; rw [h]
@[simp] theorem raiseIf_pwr_history (c : Bool) (e : Raised) (s : State) : (s.raiseIf c e).pwr.history = s.pwr.history := by obtain ⟨_, _, _, _, _, h⟩ := raiseIf_only c e s; rw [h]
@[simp] theorem raiseIf_pwr_open_ (c : Bool) (e : Raised) (s : State) : (s.raiseIf c e).pwr.open_ = s.pwr.open_ := by obtain ⟨_, _, _, _, _, h⟩ := raiseIf_only c e s; rw [h]
@[simp] theorem raiseIf_pwr_endReason (c : Bool) (e : Raised) (s : State) : (s.raiseIf c e).pwr.endReason = s.pwr.endReason := by obtain ⟨_, _, _, _, _, h⟩ := raiseIf_only c e s; rw [h]
@[simp] theorem raiseIf_pwr_backoff (c : Bool) (e : Raised) (s : State) : (s.raiseIf c e).pwr.backoff = s.pwr.backoff := by obtain ⟨_, _, _, _, _, h⟩ := raiseIf_only c e s; rw [h]
@[simp] theorem raiseIf_pwr_nrst (c : Bool) (e : Raised) (s : State) : (s.raiseIf c e).pwr.nrst = s.pwr.nrst := by obtain ⟨_, _, _, _, _, h⟩ := raiseIf_only c e s; rw [h]
@[simp] theorem raiseIf_pwr_testm (c : Bool) (e : Raised) (s : State) : (s.raiseIf c e).pwr.testm = s.pwr.testm := by obtain ⟨_, _, _, _, _, h⟩ := raiseIf_only c e s; rw [h]
@[simp] theorem raiseIf_pwr_resumed (c : Bool) (e : Raised) (s : State) : (s.raiseIf c e).pwr.resumed = s.pwr.resumed := by obtain ⟨_, _, _, _, _, h⟩ := raiseIf_only c e s; rw [h]
@[simp] theorem raiseIf_pwr_wakeFailReplay (c : Bool) (e : Raised) (s : State) : (s.raiseIf c e).pwr.wakeFailReplay = s.pwr.wakeFailReplay := by obtain ⟨_, _, _, _, _, h⟩ := raiseIf_only c e s; rw [h]
@[simp] theorem raiseIf_pwr_keyDown (c : Bool) (e : Raised) (s : State) : (s.raiseIf c e).pwr.keyDown = s.pwr.keyDown := by obtain ⟨_, _, _, _, _, h⟩ := raiseIf_only c e s; rw [h]
@[simp] theorem raiseIf_pwr_keySince (c : Bool) (e : Raised) (s : State) : (s.raiseIf c e).pwr.keySince = s.pwr.keySince := by obtain ⟨_, _, _, _, _, h⟩ := raiseIf_only c e s; rw [h]
@[simp] theorem raiseIf_pwr_vddio (c : Bool) (e : Raised) (s : State) : (s.raiseIf c e).pwr.vddio = s.pwr.vddio := by obtain ⟨_, _, _, _, _, h⟩ := raiseIf_only c e s; rw [h]

@[simp] theorem count_pwr_doms (acts : List Act) (s : State) : (s.count acts).pwr.doms = s.pwr.doms := by obtain ⟨_, _, _, _, _, _, _, h⟩ := count_only acts s; rw [h]
@[simp] theorem count_pwr_mtime (acts : List Act) (s : State) : (s.count acts).pwr.mtime = s.pwr.mtime := by obtain ⟨_, _, _, _, _, _, _, h⟩ := count_only acts s; rw [h]
@[simp] theorem count_pwr_wickStart (acts : List Act) (s : State) : (s.count acts).pwr.wickStart = s.pwr.wickStart := by obtain ⟨_, _, _, _, _, _, _, h⟩ := count_only acts s; rw [h]
@[simp] theorem count_pwr_finalDue (acts : List Act) (s : State) : (s.count acts).pwr.finalDue = s.pwr.finalDue := by obtain ⟨_, _, _, _, _, _, _, h⟩ := count_only acts s; rw [h]
@[simp] theorem count_pwr_lastWake (acts : List Act) (s : State) : (s.count acts).pwr.lastWake = s.pwr.lastWake := by obtain ⟨_, _, _, _, _, _, _, h⟩ := count_only acts s; rw [h]
@[simp] theorem count_pwr_wakeFails (acts : List Act) (s : State) : (s.count acts).pwr.wakeFails = s.pwr.wakeFails := by obtain ⟨_, _, _, _, _, _, _, h⟩ := count_only acts s; rw [h]
@[simp] theorem count_pwr_resSnap (acts : List Act) (s : State) : (s.count acts).pwr.resSnap = s.pwr.resSnap := by obtain ⟨_, _, _, _, _, _, _, h⟩ := count_only acts s; rw [h]
@[simp] theorem count_pwr_resFrame (acts : List Act) (s : State) : (s.count acts).pwr.resFrame = s.pwr.resFrame := by obtain ⟨_, _, _, _, _, _, _, h⟩ := count_only acts s; rw [h]
@[simp] theorem count_pwr_resClear (acts : List Act) (s : State) : (s.count acts).pwr.resClear = s.pwr.resClear := by obtain ⟨_, _, _, _, _, _, _, h⟩ := count_only acts s; rw [h]
@[simp] theorem count_pwr_command (acts : List Act) (s : State) : (s.count acts).pwr.command = s.pwr.command := by obtain ⟨_, _, _, _, _, _, _, h⟩ := count_only acts s; rw [h]
@[simp] theorem count_pwr_taperExit (acts : List Act) (s : State) : (s.count acts).pwr.taperExit = s.pwr.taperExit := by obtain ⟨_, _, _, _, _, _, _, h⟩ := count_only acts s; rw [h]
@[simp] theorem count_pwr_startMode (acts : List Act) (s : State) : (s.count acts).pwr.startMode = s.pwr.startMode := by obtain ⟨_, _, _, _, _, _, _, h⟩ := count_only acts s; rw [h]
@[simp] theorem count_pwr_failedStarts (acts : List Act) (s : State) : (s.count acts).pwr.failedStarts = s.pwr.failedStarts := by obtain ⟨_, _, _, _, _, _, _, h⟩ := count_only acts s; rw [h]
@[simp] theorem count_pwr_startCount (acts : List Act) (s : State) : (s.count acts).pwr.startCount = s.pwr.startCount := by obtain ⟨_, _, _, _, _, _, _, h⟩ := count_only acts s; rw [h]
@[simp] theorem count_pwr_taperLatchBk (acts : List Act) (s : State) : (s.count acts).pwr.taperLatchBk = s.pwr.taperLatchBk := by obtain ⟨_, _, _, _, _, _, _, h⟩ := count_only acts s; rw [h]
@[simp] theorem count_pwr_taperLatchMetro (acts : List Act) (s : State) : (s.count acts).pwr.taperLatchMetro = s.pwr.taperLatchMetro := by obtain ⟨_, _, _, _, _, _, _, h⟩ := count_only acts s; rw [h]
@[simp] theorem count_pwr_taperCode (acts : List Act) (s : State) : (s.count acts).pwr.taperCode = s.pwr.taperCode := by obtain ⟨_, _, _, _, _, _, _, h⟩ := count_only acts s; rw [h]
@[simp] theorem count_pwr_boundaries (acts : List Act) (s : State) : (s.count acts).pwr.boundaries = s.pwr.boundaries := by obtain ⟨_, _, _, _, _, _, _, h⟩ := count_only acts s; rw [h]
@[simp] theorem count_pwr_succeeded (acts : List Act) (s : State) : (s.count acts).pwr.succeeded = s.pwr.succeeded := by obtain ⟨_, _, _, _, _, _, _, h⟩ := count_only acts s; rw [h]
@[simp] theorem count_pwr_history (acts : List Act) (s : State) : (s.count acts).pwr.history = s.pwr.history := by obtain ⟨_, _, _, _, _, _, _, h⟩ := count_only acts s; rw [h]
@[simp] theorem count_pwr_open_ (acts : List Act) (s : State) : (s.count acts).pwr.open_ = s.pwr.open_ := by obtain ⟨_, _, _, _, _, _, _, h⟩ := count_only acts s; rw [h]
@[simp] theorem count_pwr_endReason (acts : List Act) (s : State) : (s.count acts).pwr.endReason = s.pwr.endReason := by obtain ⟨_, _, _, _, _, _, _, h⟩ := count_only acts s; rw [h]
@[simp] theorem count_pwr_backoff (acts : List Act) (s : State) : (s.count acts).pwr.backoff = s.pwr.backoff := by obtain ⟨_, _, _, _, _, _, _, h⟩ := count_only acts s; rw [h]
@[simp] theorem count_pwr_nrst (acts : List Act) (s : State) : (s.count acts).pwr.nrst = s.pwr.nrst := by obtain ⟨_, _, _, _, _, _, _, h⟩ := count_only acts s; rw [h]
@[simp] theorem count_pwr_testm (acts : List Act) (s : State) : (s.count acts).pwr.testm = s.pwr.testm := by obtain ⟨_, _, _, _, _, _, _, h⟩ := count_only acts s; rw [h]
@[simp] theorem count_pwr_resumed (acts : List Act) (s : State) : (s.count acts).pwr.resumed = s.pwr.resumed := by obtain ⟨_, _, _, _, _, _, _, h⟩ := count_only acts s; rw [h]
@[simp] theorem count_pwr_wakeFailReplay (acts : List Act) (s : State) : (s.count acts).pwr.wakeFailReplay = s.pwr.wakeFailReplay := by obtain ⟨_, _, _, _, _, _, _, h⟩ := count_only acts s; rw [h]
@[simp] theorem count_pwr_keyDown (acts : List Act) (s : State) : (s.count acts).pwr.keyDown = s.pwr.keyDown := by obtain ⟨_, _, _, _, _, _, _, h⟩ := count_only acts s; rw [h]
@[simp] theorem count_pwr_keySince (acts : List Act) (s : State) : (s.count acts).pwr.keySince = s.pwr.keySince := by obtain ⟨_, _, _, _, _, _, _, h⟩ := count_only acts s; rw [h]
@[simp] theorem count_pwr_vddio (acts : List Act) (s : State) : (s.count acts).pwr.vddio = s.pwr.vddio := by obtain ⟨_, _, _, _, _, _, _, h⟩ := count_only acts s; rw [h]

@[simp] theorem count_perf_clear (acts : List Act) (s : State) : (s.count acts).perf.clear = s.perf.clear := by obtain ⟨_, _, _, _, _, _, _, h⟩ := count_only acts s; rw [h]
@[simp] theorem count_perf_cur (acts : List Act) (s : State) : (s.count acts).perf.cur = s.perf.cur := by obtain ⟨_, _, _, _, _, _, _, h⟩ := count_only acts s; rw [h]
@[simp] theorem count_perf_idle (acts : List Act) (s : State) : (s.count acts).perf.idle = s.perf.idle := by obtain ⟨_, _, _, _, _, _, _, h⟩ := count_only acts s; rw [h]
@[simp] theorem count_perf_latches (acts : List Act) (s : State) : (s.count acts).perf.latches = s.perf.latches := by obtain ⟨_, _, _, _, _, _, _, h⟩ := count_only acts s; rw [h]
@[simp] theorem count_perf_uen (acts : List Act) (s : State) : (s.count acts).perf.uen = s.perf.uen := by obtain ⟨_, _, _, _, _, _, _, h⟩ := count_only acts s; rw [h]

@[simp] theorem passTicks_pwr_doms (n : Nat) (s : State) : (s.passTicks n).pwr.doms = s.pwr.doms := by obtain ⟨_, _, _, _, _, _, _, _, _, h⟩ := passTicks_only n s; rw [h]
@[simp] theorem passTicks_pwr_wickStart (n : Nat) (s : State) : (s.passTicks n).pwr.wickStart = s.pwr.wickStart := by obtain ⟨_, _, _, _, _, _, _, _, _, h⟩ := passTicks_only n s; rw [h]
@[simp] theorem passTicks_pwr_finalDue (n : Nat) (s : State) : (s.passTicks n).pwr.finalDue = s.pwr.finalDue := by obtain ⟨_, _, _, _, _, _, _, _, _, h⟩ := passTicks_only n s; rw [h]
@[simp] theorem passTicks_pwr_lastWake (n : Nat) (s : State) : (s.passTicks n).pwr.lastWake = s.pwr.lastWake := by obtain ⟨_, _, _, _, _, _, _, _, _, h⟩ := passTicks_only n s; rw [h]
@[simp] theorem passTicks_pwr_wakeFails (n : Nat) (s : State) : (s.passTicks n).pwr.wakeFails = s.pwr.wakeFails := by obtain ⟨_, _, _, _, _, _, _, _, _, h⟩ := passTicks_only n s; rw [h]
@[simp] theorem passTicks_pwr_resSnap (n : Nat) (s : State) : (s.passTicks n).pwr.resSnap = s.pwr.resSnap := by obtain ⟨_, _, _, _, _, _, _, _, _, h⟩ := passTicks_only n s; rw [h]
@[simp] theorem passTicks_pwr_resFrame (n : Nat) (s : State) : (s.passTicks n).pwr.resFrame = s.pwr.resFrame := by obtain ⟨_, _, _, _, _, _, _, _, _, h⟩ := passTicks_only n s; rw [h]
@[simp] theorem passTicks_pwr_resClear (n : Nat) (s : State) : (s.passTicks n).pwr.resClear = s.pwr.resClear := by obtain ⟨_, _, _, _, _, _, _, _, _, h⟩ := passTicks_only n s; rw [h]
@[simp] theorem passTicks_pwr_command (n : Nat) (s : State) : (s.passTicks n).pwr.command = s.pwr.command := by obtain ⟨_, _, _, _, _, _, _, _, _, h⟩ := passTicks_only n s; rw [h]
@[simp] theorem passTicks_pwr_taperExit (n : Nat) (s : State) : (s.passTicks n).pwr.taperExit = s.pwr.taperExit := by obtain ⟨_, _, _, _, _, _, _, _, _, h⟩ := passTicks_only n s; rw [h]
@[simp] theorem passTicks_pwr_startMode (n : Nat) (s : State) : (s.passTicks n).pwr.startMode = s.pwr.startMode := by obtain ⟨_, _, _, _, _, _, _, _, _, h⟩ := passTicks_only n s; rw [h]
@[simp] theorem passTicks_pwr_failedStarts (n : Nat) (s : State) : (s.passTicks n).pwr.failedStarts = s.pwr.failedStarts := by obtain ⟨_, _, _, _, _, _, _, _, _, h⟩ := passTicks_only n s; rw [h]
@[simp] theorem passTicks_pwr_startCount (n : Nat) (s : State) : (s.passTicks n).pwr.startCount = s.pwr.startCount := by obtain ⟨_, _, _, _, _, _, _, _, _, h⟩ := passTicks_only n s; rw [h]
@[simp] theorem passTicks_pwr_taperLatchBk (n : Nat) (s : State) : (s.passTicks n).pwr.taperLatchBk = s.pwr.taperLatchBk := by obtain ⟨_, _, _, _, _, _, _, _, _, h⟩ := passTicks_only n s; rw [h]
@[simp] theorem passTicks_pwr_taperLatchMetro (n : Nat) (s : State) : (s.passTicks n).pwr.taperLatchMetro = s.pwr.taperLatchMetro := by obtain ⟨_, _, _, _, _, _, _, _, _, h⟩ := passTicks_only n s; rw [h]
@[simp] theorem passTicks_pwr_taperCode (n : Nat) (s : State) : (s.passTicks n).pwr.taperCode = s.pwr.taperCode := by obtain ⟨_, _, _, _, _, _, _, _, _, h⟩ := passTicks_only n s; rw [h]
@[simp] theorem passTicks_pwr_boundaries (n : Nat) (s : State) : (s.passTicks n).pwr.boundaries = s.pwr.boundaries := by obtain ⟨_, _, _, _, _, _, _, _, _, h⟩ := passTicks_only n s; rw [h]
@[simp] theorem passTicks_pwr_succeeded (n : Nat) (s : State) : (s.passTicks n).pwr.succeeded = s.pwr.succeeded := by obtain ⟨_, _, _, _, _, _, _, _, _, h⟩ := passTicks_only n s; rw [h]
@[simp] theorem passTicks_pwr_history (n : Nat) (s : State) : (s.passTicks n).pwr.history = s.pwr.history := by obtain ⟨_, _, _, _, _, _, _, _, _, h⟩ := passTicks_only n s; rw [h]
@[simp] theorem passTicks_pwr_open_ (n : Nat) (s : State) : (s.passTicks n).pwr.open_ = s.pwr.open_ := by obtain ⟨_, _, _, _, _, _, _, _, _, h⟩ := passTicks_only n s; rw [h]
@[simp] theorem passTicks_pwr_endReason (n : Nat) (s : State) : (s.passTicks n).pwr.endReason = s.pwr.endReason := by obtain ⟨_, _, _, _, _, _, _, _, _, h⟩ := passTicks_only n s; rw [h]
@[simp] theorem passTicks_pwr_nrst (n : Nat) (s : State) : (s.passTicks n).pwr.nrst = s.pwr.nrst := by obtain ⟨_, _, _, _, _, _, _, _, _, h⟩ := passTicks_only n s; rw [h]
@[simp] theorem passTicks_pwr_testm (n : Nat) (s : State) : (s.passTicks n).pwr.testm = s.pwr.testm := by obtain ⟨_, _, _, _, _, _, _, _, _, h⟩ := passTicks_only n s; rw [h]
@[simp] theorem passTicks_pwr_resumed (n : Nat) (s : State) : (s.passTicks n).pwr.resumed = s.pwr.resumed := by obtain ⟨_, _, _, _, _, _, _, _, _, h⟩ := passTicks_only n s; rw [h]
@[simp] theorem passTicks_pwr_wakeFailReplay (n : Nat) (s : State) : (s.passTicks n).pwr.wakeFailReplay = s.pwr.wakeFailReplay := by obtain ⟨_, _, _, _, _, _, _, _, _, h⟩ := passTicks_only n s; rw [h]
@[simp] theorem passTicks_pwr_keyDown (n : Nat) (s : State) : (s.passTicks n).pwr.keyDown = s.pwr.keyDown := by obtain ⟨_, _, _, _, _, _, _, _, _, h⟩ := passTicks_only n s; rw [h]
@[simp] theorem passTicks_pwr_keySince (n : Nat) (s : State) : (s.passTicks n).pwr.keySince = s.pwr.keySince := by obtain ⟨_, _, _, _, _, _, _, _, _, h⟩ := passTicks_only n s; rw [h]
@[simp] theorem passTicks_pwr_vddio (n : Nat) (s : State) : (s.passTicks n).pwr.vddio = s.pwr.vddio := by obtain ⟨_, _, _, _, _, _, _, _, _, h⟩ := passTicks_only n s; rw [h]

@[simp] theorem passTicks_perf_clear (n : Nat) (s : State) : (s.passTicks n).perf.clear = s.perf.clear := by obtain ⟨_, _, _, _, _, _, _, _, _, h⟩ := passTicks_only n s; rw [h]
@[simp] theorem passTicks_perf_cur (n : Nat) (s : State) : (s.passTicks n).perf.cur = s.perf.cur := by obtain ⟨_, _, _, _, _, _, _, _, _, h⟩ := passTicks_only n s; rw [h]
@[simp] theorem passTicks_perf_idle (n : Nat) (s : State) : (s.passTicks n).perf.idle = s.perf.idle := by obtain ⟨_, _, _, _, _, _, _, _, _, h⟩ := passTicks_only n s; rw [h]
@[simp] theorem passTicks_perf_latches (n : Nat) (s : State) : (s.passTicks n).perf.latches = s.perf.latches := by obtain ⟨_, _, _, _, _, _, _, _, _, h⟩ := passTicks_only n s; rw [h]
@[simp] theorem passTicks_perf_uen (n : Nat) (s : State) : (s.passTicks n).perf.uen = s.perf.uen := by obtain ⟨_, _, _, _, _, _, _, _, _, h⟩ := passTicks_only n s; rw [h]

@[simp] theorem elapse_pwr_doms  (s : State) : (s.elapse).pwr.doms = s.pwr.doms := by obtain ⟨_, _, _, _, _, _, _, _, _, _, _, _, _, _, h⟩ := elapse_only s; rw [h]
@[simp] theorem elapse_pwr_wickStart  (s : State) : (s.elapse).pwr.wickStart = s.pwr.wickStart := by obtain ⟨_, _, _, _, _, _, _, _, _, _, _, _, _, _, h⟩ := elapse_only s; rw [h]
@[simp] theorem elapse_pwr_finalDue  (s : State) : (s.elapse).pwr.finalDue = s.pwr.finalDue := by obtain ⟨_, _, _, _, _, _, _, _, _, _, _, _, _, _, h⟩ := elapse_only s; rw [h]
@[simp] theorem elapse_pwr_lastWake  (s : State) : (s.elapse).pwr.lastWake = s.pwr.lastWake := by obtain ⟨_, _, _, _, _, _, _, _, _, _, _, _, _, _, h⟩ := elapse_only s; rw [h]
@[simp] theorem elapse_pwr_wakeFails  (s : State) : (s.elapse).pwr.wakeFails = s.pwr.wakeFails := by obtain ⟨_, _, _, _, _, _, _, _, _, _, _, _, _, _, h⟩ := elapse_only s; rw [h]
@[simp] theorem elapse_pwr_resSnap  (s : State) : (s.elapse).pwr.resSnap = s.pwr.resSnap := by obtain ⟨_, _, _, _, _, _, _, _, _, _, _, _, _, _, h⟩ := elapse_only s; rw [h]
@[simp] theorem elapse_pwr_resFrame  (s : State) : (s.elapse).pwr.resFrame = s.pwr.resFrame := by obtain ⟨_, _, _, _, _, _, _, _, _, _, _, _, _, _, h⟩ := elapse_only s; rw [h]
@[simp] theorem elapse_pwr_resClear  (s : State) : (s.elapse).pwr.resClear = s.pwr.resClear := by obtain ⟨_, _, _, _, _, _, _, _, _, _, _, _, _, _, h⟩ := elapse_only s; rw [h]
@[simp] theorem elapse_pwr_command  (s : State) : (s.elapse).pwr.command = s.pwr.command := by obtain ⟨_, _, _, _, _, _, _, _, _, _, _, _, _, _, h⟩ := elapse_only s; rw [h]
@[simp] theorem elapse_pwr_taperExit  (s : State) : (s.elapse).pwr.taperExit = s.pwr.taperExit := by obtain ⟨_, _, _, _, _, _, _, _, _, _, _, _, _, _, h⟩ := elapse_only s; rw [h]
@[simp] theorem elapse_pwr_startMode  (s : State) : (s.elapse).pwr.startMode = s.pwr.startMode := by obtain ⟨_, _, _, _, _, _, _, _, _, _, _, _, _, _, h⟩ := elapse_only s; rw [h]
@[simp] theorem elapse_pwr_failedStarts  (s : State) : (s.elapse).pwr.failedStarts = s.pwr.failedStarts := by obtain ⟨_, _, _, _, _, _, _, _, _, _, _, _, _, _, h⟩ := elapse_only s; rw [h]
@[simp] theorem elapse_pwr_startCount  (s : State) : (s.elapse).pwr.startCount = s.pwr.startCount := by obtain ⟨_, _, _, _, _, _, _, _, _, _, _, _, _, _, h⟩ := elapse_only s; rw [h]
@[simp] theorem elapse_pwr_taperLatchBk  (s : State) : (s.elapse).pwr.taperLatchBk = s.pwr.taperLatchBk := by obtain ⟨_, _, _, _, _, _, _, _, _, _, _, _, _, _, h⟩ := elapse_only s; rw [h]
@[simp] theorem elapse_pwr_taperLatchMetro  (s : State) : (s.elapse).pwr.taperLatchMetro = s.pwr.taperLatchMetro := by obtain ⟨_, _, _, _, _, _, _, _, _, _, _, _, _, _, h⟩ := elapse_only s; rw [h]
@[simp] theorem elapse_pwr_taperCode  (s : State) : (s.elapse).pwr.taperCode = s.pwr.taperCode := by obtain ⟨_, _, _, _, _, _, _, _, _, _, _, _, _, _, h⟩ := elapse_only s; rw [h]
@[simp] theorem elapse_pwr_boundaries  (s : State) : (s.elapse).pwr.boundaries = s.pwr.boundaries := by obtain ⟨_, _, _, _, _, _, _, _, _, _, _, _, _, _, h⟩ := elapse_only s; rw [h]
@[simp] theorem elapse_pwr_succeeded  (s : State) : (s.elapse).pwr.succeeded = s.pwr.succeeded := by obtain ⟨_, _, _, _, _, _, _, _, _, _, _, _, _, _, h⟩ := elapse_only s; rw [h]
@[simp] theorem elapse_pwr_history  (s : State) : (s.elapse).pwr.history = s.pwr.history := by obtain ⟨_, _, _, _, _, _, _, _, _, _, _, _, _, _, h⟩ := elapse_only s; rw [h]
@[simp] theorem elapse_pwr_open_  (s : State) : (s.elapse).pwr.open_ = s.pwr.open_ := by obtain ⟨_, _, _, _, _, _, _, _, _, _, _, _, _, _, h⟩ := elapse_only s; rw [h]
@[simp] theorem elapse_pwr_endReason  (s : State) : (s.elapse).pwr.endReason = s.pwr.endReason := by obtain ⟨_, _, _, _, _, _, _, _, _, _, _, _, _, _, h⟩ := elapse_only s; rw [h]
@[simp] theorem elapse_pwr_nrst  (s : State) : (s.elapse).pwr.nrst = s.pwr.nrst := by obtain ⟨_, _, _, _, _, _, _, _, _, _, _, _, _, _, h⟩ := elapse_only s; rw [h]
@[simp] theorem elapse_pwr_testm  (s : State) : (s.elapse).pwr.testm = s.pwr.testm := by obtain ⟨_, _, _, _, _, _, _, _, _, _, _, _, _, _, h⟩ := elapse_only s; rw [h]
@[simp] theorem elapse_pwr_resumed  (s : State) : (s.elapse).pwr.resumed = s.pwr.resumed := by obtain ⟨_, _, _, _, _, _, _, _, _, _, _, _, _, _, h⟩ := elapse_only s; rw [h]
@[simp] theorem elapse_pwr_wakeFailReplay  (s : State) : (s.elapse).pwr.wakeFailReplay = s.pwr.wakeFailReplay := by obtain ⟨_, _, _, _, _, _, _, _, _, _, _, _, _, _, h⟩ := elapse_only s; rw [h]
@[simp] theorem elapse_pwr_keyDown  (s : State) : (s.elapse).pwr.keyDown = s.pwr.keyDown := by obtain ⟨_, _, _, _, _, _, _, _, _, _, _, _, _, _, h⟩ := elapse_only s; rw [h]
@[simp] theorem elapse_pwr_keySince  (s : State) : (s.elapse).pwr.keySince = s.pwr.keySince := by obtain ⟨_, _, _, _, _, _, _, _, _, _, _, _, _, _, h⟩ := elapse_only s; rw [h]
@[simp] theorem elapse_pwr_vddio  (s : State) : (s.elapse).pwr.vddio = s.pwr.vddio := by obtain ⟨_, _, _, _, _, _, _, _, _, _, _, _, _, _, h⟩ := elapse_only s; rw [h]

@[simp] theorem elapse_perf_clear  (s : State) : (s.elapse).perf.clear = s.perf.clear := by obtain ⟨_, _, _, _, _, _, _, _, _, _, _, _, _, _, h⟩ := elapse_only s; rw [h]
@[simp] theorem elapse_perf_cur  (s : State) : (s.elapse).perf.cur = s.perf.cur := by obtain ⟨_, _, _, _, _, _, _, _, _, _, _, _, _, _, h⟩ := elapse_only s; rw [h]
@[simp] theorem elapse_perf_idle  (s : State) : (s.elapse).perf.idle = s.perf.idle := by obtain ⟨_, _, _, _, _, _, _, _, _, _, _, _, _, _, h⟩ := elapse_only s; rw [h]
@[simp] theorem elapse_perf_latches  (s : State) : (s.elapse).perf.latches = s.perf.latches := by obtain ⟨_, _, _, _, _, _, _, _, _, _, _, _, _, _, h⟩ := elapse_only s; rw [h]
@[simp] theorem elapse_perf_uen  (s : State) : (s.elapse).perf.uen = s.perf.uen := by obtain ⟨_, _, _, _, _, _, _, _, _, _, _, _, _, _, h⟩ := elapse_only s; rw [h]

@[simp] theorem elapse_cal_seconds  (s : State) : (s.elapse).cal.seconds = s.cal.seconds := by obtain ⟨_, _, _, _, _, _, _, _, _, _, _, _, _, _, h⟩ := elapse_only s; rw [h]
@[simp] theorem elapse_cal_dst  (s : State) : (s.elapse).cal.dst = s.cal.dst := by obtain ⟨_, _, _, _, _, _, _, _, _, _, _, _, _, _, h⟩ := elapse_only s; rw [h]
@[simp] theorem elapse_cal_calend  (s : State) : (s.elapse).cal.calend = s.cal.calend := by obtain ⟨_, _, _, _, _, _, _, _, _, _, _, _, _, _, h⟩ := elapse_only s; rw [h]
@[simp] theorem elapse_cal_uncertain  (s : State) : (s.elapse).cal.uncertain = s.cal.uncertain := by obtain ⟨_, _, _, _, _, _, _, _, _, _, _, _, _, _, h⟩ := elapse_only s; rw [h]
@[simp] theorem elapse_cal_invalid  (s : State) : (s.elapse).cal.invalid = s.cal.invalid := by obtain ⟨_, _, _, _, _, _, _, _, _, _, _, _, _, _, h⟩ := elapse_only s; rw [h]
@[simp] theorem elapse_cal_bkLost  (s : State) : (s.elapse).cal.bkLost = s.cal.bkLost := by obtain ⟨_, _, _, _, _, _, _, _, _, _, _, _, _, _, h⟩ := elapse_only s; rw [h]
@[simp] theorem elapse_cal_lossDue  (s : State) : (s.elapse).cal.lossDue = s.cal.lossDue := by obtain ⟨_, _, _, _, _, _, _, _, _, _, _, _, _, _, h⟩ := elapse_only s; rw [h]
@[simp] theorem elapse_cal_changes  (s : State) : (s.elapse).cal.changes = s.cal.changes := by obtain ⟨_, _, _, _, _, _, _, _, _, _, _, _, _, _, h⟩ := elapse_only s; rw [h]
@[simp] theorem elapse_cal_lastOld  (s : State) : (s.elapse).cal.lastOld = s.cal.lastOld := by obtain ⟨_, _, _, _, _, _, _, _, _, _, _, _, _, _, h⟩ := elapse_only s; rw [h]
@[simp] theorem elapse_cal_lastNew  (s : State) : (s.elapse).cal.lastNew = s.cal.lastNew := by obtain ⟨_, _, _, _, _, _, _, _, _, _, _, _, _, _, h⟩ := elapse_only s; rw [h]
@[simp] theorem elapse_cal_setCount  (s : State) : (s.elapse).cal.setCount = s.cal.setCount := by obtain ⟨_, _, _, _, _, _, _, _, _, _, _, _, _, _, h⟩ := elapse_only s; rw [h]
@[simp] theorem elapse_cal_rate  (s : State) : (s.elapse).cal.rate = s.cal.rate := by obtain ⟨_, _, _, _, _, _, _, _, _, _, _, _, _, _, h⟩ := elapse_only s; rw [h]
@[simp] theorem elapse_cal_carry  (s : State) : (s.elapse).cal.carry = s.cal.carry := by obtain ⟨_, _, _, _, _, _, _, _, _, _, _, _, _, _, h⟩ := elapse_only s; rw [h]
@[simp] theorem elapse_cal_trim  (s : State) : (s.elapse).cal.trim = s.cal.trim := by obtain ⟨_, _, _, _, _, _, _, _, _, _, _, _, _, _, h⟩ := elapse_only s; rw [h]
@[simp] theorem elapse_cal_tamper  (s : State) : (s.elapse).cal.tamper = s.cal.tamper := by obtain ⟨_, _, _, _, _, _, _, _, _, _, _, _, _, _, h⟩ := elapse_only s; rw [h]
@[simp] theorem elapse_cal_vmain  (s : State) : (s.elapse).cal.vmain = s.cal.vmain := by obtain ⟨_, _, _, _, _, _, _, _, _, _, _, _, _, _, h⟩ := elapse_only s; rw [h]
@[simp] theorem elapse_cal_vbat  (s : State) : (s.elapse).cal.vbat = s.cal.vbat := by obtain ⟨_, _, _, _, _, _, _, _, _, _, _, _, _, _, h⟩ := elapse_only s; rw [h]
@[simp] theorem elapse_cal_vbkp  (s : State) : (s.elapse).cal.vbkp = s.cal.vbkp := by obtain ⟨_, _, _, _, _, _, _, _, _, _, _, _, _, _, h⟩ := elapse_only s; rw [h]
@[simp] theorem elapse_cal_source  (s : State) : (s.elapse).cal.source = s.cal.source := by obtain ⟨_, _, _, _, _, _, _, _, _, _, _, _, _, _, h⟩ := elapse_only s; rw [h]
@[simp] theorem elapse_cal_vbkpMv  (s : State) : (s.elapse).cal.vbkpMv = s.cal.vbkpMv := by obtain ⟨_, _, _, _, _, _, _, _, _, _, _, _, _, _, h⟩ := elapse_only s; rw [h]
@[simp] theorem elapse_cal_switchovers  (s : State) : (s.elapse).cal.switchovers = s.cal.switchovers := by obtain ⟨_, _, _, _, _, _, _, _, _, _, _, _, _, _, h⟩ := elapse_only s; rw [h]
@[simp] theorem elapse_cal_vmainRise  (s : State) : (s.elapse).cal.vmainRise = s.cal.vmainRise := by obtain ⟨_, _, _, _, _, _, _, _, _, _, _, _, _, _, h⟩ := elapse_only s; rw [h]

@[simp] theorem elapse_acc_sealed  (s : State) : (s.elapse).acc.sealed = s.acc.sealed := by obtain ⟨_, _, _, _, _, _, _, _, _, _, _, _, _, _, h⟩ := elapse_only s; rw [h]
@[simp] theorem elapse_acc_sealedOnce  (s : State) : (s.elapse).acc.sealedOnce = s.acc.sealedOnce := by obtain ⟨_, _, _, _, _, _, _, _, _, _, _, _, _, _, h⟩ := elapse_only s; rw [h]
@[simp] theorem elapse_acc_factoryEnded  (s : State) : (s.elapse).acc.factoryEnded = s.acc.factoryEnded := by obtain ⟨_, _, _, _, _, _, _, _, _, _, _, _, _, _, h⟩ := elapse_only s; rw [h]
@[simp] theorem elapse_acc_factoryLock  (s : State) : (s.elapse).acc.factoryLock = s.acc.factoryLock := by obtain ⟨_, _, _, _, _, _, _, _, _, _, _, _, _, _, h⟩ := elapse_only s; rw [h]
@[simp] theorem elapse_acc_changes  (s : State) : (s.elapse).acc.changes = s.acc.changes := by obtain ⟨_, _, _, _, _, _, _, _, _, _, _, _, _, _, h⟩ := elapse_only s; rw [h]
@[simp] theorem elapse_acc_changeLog  (s : State) : (s.elapse).acc.changeLog = s.acc.changeLog := by obtain ⟨_, _, _, _, _, _, _, _, _, _, _, _, _, _, h⟩ := elapse_only s; rw [h]
@[simp] theorem elapse_acc_replay  (s : State) : (s.elapse).acc.replay = s.acc.replay := by obtain ⟨_, _, _, _, _, _, _, _, _, _, _, _, _, _, h⟩ := elapse_only s; rw [h]
@[simp] theorem elapse_acc_fails  (s : State) : (s.elapse).acc.fails = s.acc.fails := by obtain ⟨_, _, _, _, _, _, _, _, _, _, _, _, _, _, h⟩ := elapse_only s; rw [h]
@[simp] theorem elapse_acc_failRun  (s : State) : (s.elapse).acc.failRun = s.acc.failRun := by obtain ⟨_, _, _, _, _, _, _, _, _, _, _, _, _, _, h⟩ := elapse_only s; rw [h]
@[simp] theorem elapse_acc_failsOf  (s : State) : (s.elapse).acc.failsOf = s.acc.failsOf := by obtain ⟨_, _, _, _, _, _, _, _, _, _, _, _, _, _, h⟩ := elapse_only s; rw [h]
@[simp] theorem elapse_acc_operatorKey  (s : State) : (s.elapse).acc.operatorKey = s.acc.operatorKey := by obtain ⟨_, _, _, _, _, _, _, _, _, _, _, _, _, _, h⟩ := elapse_only s; rw [h]
@[simp] theorem elapse_acc_metrologyKey  (s : State) : (s.elapse).acc.metrologyKey = s.acc.metrologyKey := by obtain ⟨_, _, _, _, _, _, _, _, _, _, _, _, _, _, h⟩ := elapse_only s; rw [h]
@[simp] theorem elapse_acc_keyChanges  (s : State) : (s.elapse).acc.keyChanges = s.acc.keyChanges := by obtain ⟨_, _, _, _, _, _, _, _, _, _, _, _, _, _, h⟩ := elapse_only s; rw [h]
@[simp] theorem elapse_acc_bootHash  (s : State) : (s.elapse).acc.bootHash = s.acc.bootHash := by obtain ⟨_, _, _, _, _, _, _, _, _, _, _, _, _, _, h⟩ := elapse_only s; rw [h]
@[simp] theorem elapse_acc_waiting  (s : State) : (s.elapse).acc.waiting = s.acc.waiting := by obtain ⟨_, _, _, _, _, _, _, _, _, _, _, _, _, _, h⟩ := elapse_only s; rw [h]
@[simp] theorem elapse_acc_customer  (s : State) : (s.elapse).acc.customer = s.acc.customer := by obtain ⟨_, _, _, _, _, _, _, _, _, _, _, _, _, _, h⟩ := elapse_only s; rw [h]
@[simp] theorem elapse_acc_firewallHits  (s : State) : (s.elapse).acc.firewallHits = s.acc.firewallHits := by obtain ⟨_, _, _, _, _, _, _, _, _, _, _, _, _, _, h⟩ := elapse_only s; rw [h]
@[simp] theorem elapse_acc_firewallLast  (s : State) : (s.elapse).acc.firewallLast = s.acc.firewallLast := by obtain ⟨_, _, _, _, _, _, _, _, _, _, _, _, _, _, h⟩ := elapse_only s; rw [h]
@[simp] theorem elapse_acc_firewallMaster  (s : State) : (s.elapse).acc.firewallMaster = s.acc.firewallMaster := by obtain ⟨_, _, _, _, _, _, _, _, _, _, _, _, _, _, h⟩ := elapse_only s; rw [h]

@[simp] theorem elapse_frame_running  (s : State) : (s.elapse).frame.running = s.frame.running := by obtain ⟨_, _, _, _, _, _, _, _, _, _, _, _, _, _, h⟩ := elapse_only s; rw [h]
@[simp] theorem elapse_frame_number  (s : State) : (s.elapse).frame.number = s.frame.number := by obtain ⟨_, _, _, _, _, _, _, _, _, _, _, _, _, _, h⟩ := elapse_only s; rw [h]
@[simp] theorem elapse_frame_length  (s : State) : (s.elapse).frame.length = s.frame.length := by obtain ⟨_, _, _, _, _, _, _, _, _, _, _, _, _, _, h⟩ := elapse_only s; rw [h]
@[simp] theorem elapse_frame_lengthLast  (s : State) : (s.elapse).frame.lengthLast = s.frame.lengthLast := by obtain ⟨_, _, _, _, _, _, _, _, _, _, _, _, _, _, h⟩ := elapse_only s; rw [h]
@[simp] theorem elapse_frame_base  (s : State) : (s.elapse).frame.base = s.frame.base := by obtain ⟨_, _, _, _, _, _, _, _, _, _, _, _, _, _, h⟩ := elapse_only s; rw [h]
@[simp] theorem elapse_frame_cyc  (s : State) : (s.elapse).frame.cyc = s.frame.cyc := by obtain ⟨_, _, _, _, _, _, _, _, _, _, _, _, _, _, h⟩ := elapse_only s; rw [h]
@[simp] theorem elapse_frame_committing  (s : State) : (s.elapse).frame.committing = s.frame.committing := by obtain ⟨_, _, _, _, _, _, _, _, _, _, _, _, _, _, h⟩ := elapse_only s; rw [h]
@[simp] theorem elapse_frame_lantern  (s : State) : (s.elapse).frame.lantern = s.frame.lantern := by obtain ⟨_, _, _, _, _, _, _, _, _, _, _, _, _, _, h⟩ := elapse_only s; rw [h]
@[simp] theorem elapse_frame_synoActive  (s : State) : (s.elapse).frame.synoActive = s.frame.synoActive := by obtain ⟨_, _, _, _, _, _, _, _, _, _, _, _, _, _, h⟩ := elapse_only s; rw [h]
@[simp] theorem elapse_frame_planned  (s : State) : (s.elapse).frame.planned = s.frame.planned := by obtain ⟨_, _, _, _, _, _, _, _, _, _, _, _, _, _, h⟩ := elapse_only s; rw [h]
@[simp] theorem elapse_frame_dynamic  (s : State) : (s.elapse).frame.dynamic = s.frame.dynamic := by obtain ⟨_, _, _, _, _, _, _, _, _, _, _, _, _, _, h⟩ := elapse_only s; rw [h]
@[simp] theorem elapse_frame_tried  (s : State) : (s.elapse).frame.tried = s.frame.tried := by obtain ⟨_, _, _, _, _, _, _, _, _, _, _, _, _, _, h⟩ := elapse_only s; rw [h]
@[simp] theorem elapse_frame_waiting  (s : State) : (s.elapse).frame.waiting = s.frame.waiting := by obtain ⟨_, _, _, _, _, _, _, _, _, _, _, _, _, _, h⟩ := elapse_only s; rw [h]
@[simp] theorem elapse_frame_pulsesSent  (s : State) : (s.elapse).frame.pulsesSent = s.frame.pulsesSent := by obtain ⟨_, _, _, _, _, _, _, _, _, _, _, _, _, _, h⟩ := elapse_only s; rw [h]
@[simp] theorem elapse_frame_ceCyc  (s : State) : (s.elapse).frame.ceCyc = s.frame.ceCyc := by obtain ⟨_, _, _, _, _, _, _, _, _, _, _, _, _, _, h⟩ := elapse_only s; rw [h]
@[simp] theorem elapse_frame_ceFrom  (s : State) : (s.elapse).frame.ceFrom = s.frame.ceFrom := by obtain ⟨_, _, _, _, _, _, _, _, _, _, _, _, _, _, h⟩ := elapse_only s; rw [h]
@[simp] theorem elapse_frame_workSlots  (s : State) : (s.elapse).frame.workSlots = s.frame.workSlots := by obtain ⟨_, _, _, _, _, _, _, _, _, _, _, _, _, _, h⟩ := elapse_only s; rw [h]
@[simp] theorem elapse_frame_corFree  (s : State) : (s.elapse).frame.corFree = s.frame.corFree := by obtain ⟨_, _, _, _, _, _, _, _, _, _, _, _, _, _, h⟩ := elapse_only s; rw [h]
@[simp] theorem elapse_frame_corEnd  (s : State) : (s.elapse).frame.corEnd = s.frame.corEnd := by obtain ⟨_, _, _, _, _, _, _, _, _, _, _, _, _, _, h⟩ := elapse_only s; rw [h]
@[simp] theorem elapse_frame_acEnd  (s : State) : (s.elapse).frame.acEnd = s.frame.acEnd := by obtain ⟨_, _, _, _, _, _, _, _, _, _, _, _, _, _, h⟩ := elapse_only s; rw [h]
@[simp] theorem elapse_frame_flowStarted  (s : State) : (s.elapse).frame.flowStarted = s.frame.flowStarted := by obtain ⟨_, _, _, _, _, _, _, _, _, _, _, _, _, _, h⟩ := elapse_only s; rw [h]
@[simp] theorem elapse_frame_flowDone  (s : State) : (s.elapse).frame.flowDone = s.frame.flowDone := by obtain ⟨_, _, _, _, _, _, _, _, _, _, _, _, _, _, h⟩ := elapse_only s; rw [h]
@[simp] theorem elapse_frame_flowCyc  (s : State) : (s.elapse).frame.flowCyc = s.frame.flowCyc := by obtain ⟨_, _, _, _, _, _, _, _, _, _, _, _, _, _, h⟩ := elapse_only s; rw [h]
@[simp] theorem elapse_frame_cause  (s : State) : (s.elapse).frame.cause = s.frame.cause := by obtain ⟨_, _, _, _, _, _, _, _, _, _, _, _, _, _, h⟩ := elapse_only s; rw [h]
@[simp] theorem elapse_frame_chainDone  (s : State) : (s.elapse).frame.chainDone = s.frame.chainDone := by obtain ⟨_, _, _, _, _, _, _, _, _, _, _, _, _, _, h⟩ := elapse_only s; rw [h]

@[simp] theorem settlePins_pwr_state  (s : State) : (s.settlePins).pwr.state = s.pwr.state := by obtain ⟨_, _, _, _, _, h⟩ := settlePins_only s; rw [h]
@[simp] theorem settlePins_pwr_mtime  (s : State) : (s.settlePins).pwr.mtime = s.pwr.mtime := by obtain ⟨_, _, _, _, _, h⟩ := settlePins_only s; rw [h]
@[simp] theorem settlePins_pwr_wickStart  (s : State) : (s.settlePins).pwr.wickStart = s.pwr.wickStart := by obtain ⟨_, _, _, _, _, h⟩ := settlePins_only s; rw [h]
@[simp] theorem settlePins_pwr_finalDue  (s : State) : (s.settlePins).pwr.finalDue = s.pwr.finalDue := by obtain ⟨_, _, _, _, _, h⟩ := settlePins_only s; rw [h]
@[simp] theorem settlePins_pwr_wakePending  (s : State) : (s.settlePins).pwr.wakePending = s.pwr.wakePending := by obtain ⟨_, _, _, _, _, h⟩ := settlePins_only s; rw [h]
@[simp] theorem settlePins_pwr_lastWake  (s : State) : (s.settlePins).pwr.lastWake = s.pwr.lastWake := by obtain ⟨_, _, _, _, _, h⟩ := settlePins_only s; rw [h]
@[simp] theorem settlePins_pwr_wakeFails  (s : State) : (s.settlePins).pwr.wakeFails = s.pwr.wakeFails := by obtain ⟨_, _, _, _, _, h⟩ := settlePins_only s; rw [h]
@[simp] theorem settlePins_pwr_res  (s : State) : (s.settlePins).pwr.res = s.pwr.res := by obtain ⟨_, _, _, _, _, h⟩ := settlePins_only s; rw [h]
@[simp] theorem settlePins_pwr_resSnap  (s : State) : (s.settlePins).pwr.resSnap = s.pwr.resSnap := by obtain ⟨_, _, _, _, _, h⟩ := settlePins_only s; rw [h]
@[simp] theorem settlePins_pwr_resFrame  (s : State) : (s.settlePins).pwr.resFrame = s.pwr.resFrame := by obtain ⟨_, _, _, _, _, h⟩ := settlePins_only s; rw [h]
@[simp] theorem settlePins_pwr_resClear  (s : State) : (s.settlePins).pwr.resClear = s.pwr.resClear := by obtain ⟨_, _, _, _, _, h⟩ := settlePins_only s; rw [h]
@[simp] theorem settlePins_pwr_command  (s : State) : (s.settlePins).pwr.command = s.pwr.command := by obtain ⟨_, _, _, _, _, h⟩ := settlePins_only s; rw [h]
@[simp] theorem settlePins_pwr_taperExit  (s : State) : (s.settlePins).pwr.taperExit = s.pwr.taperExit := by obtain ⟨_, _, _, _, _, h⟩ := settlePins_only s; rw [h]
@[simp] theorem settlePins_pwr_startMode  (s : State) : (s.settlePins).pwr.startMode = s.pwr.startMode := by obtain ⟨_, _, _, _, _, h⟩ := settlePins_only s; rw [h]
@[simp] theorem settlePins_pwr_failedStarts  (s : State) : (s.settlePins).pwr.failedStarts = s.pwr.failedStarts := by obtain ⟨_, _, _, _, _, h⟩ := settlePins_only s; rw [h]
@[simp] theorem settlePins_pwr_startCount  (s : State) : (s.settlePins).pwr.startCount = s.pwr.startCount := by obtain ⟨_, _, _, _, _, h⟩ := settlePins_only s; rw [h]
@[simp] theorem settlePins_pwr_taperLatchBk  (s : State) : (s.settlePins).pwr.taperLatchBk = s.pwr.taperLatchBk := by obtain ⟨_, _, _, _, _, h⟩ := settlePins_only s; rw [h]
@[simp] theorem settlePins_pwr_taperLatchMetro  (s : State) : (s.settlePins).pwr.taperLatchMetro = s.pwr.taperLatchMetro := by obtain ⟨_, _, _, _, _, h⟩ := settlePins_only s; rw [h]
@[simp] theorem settlePins_pwr_taperCode  (s : State) : (s.settlePins).pwr.taperCode = s.pwr.taperCode := by obtain ⟨_, _, _, _, _, h⟩ := settlePins_only s; rw [h]
@[simp] theorem settlePins_pwr_boundaries  (s : State) : (s.settlePins).pwr.boundaries = s.pwr.boundaries := by obtain ⟨_, _, _, _, _, h⟩ := settlePins_only s; rw [h]
@[simp] theorem settlePins_pwr_succeeded  (s : State) : (s.settlePins).pwr.succeeded = s.pwr.succeeded := by obtain ⟨_, _, _, _, _, h⟩ := settlePins_only s; rw [h]
@[simp] theorem settlePins_pwr_history  (s : State) : (s.settlePins).pwr.history = s.pwr.history := by obtain ⟨_, _, _, _, _, h⟩ := settlePins_only s; rw [h]
@[simp] theorem settlePins_pwr_open_  (s : State) : (s.settlePins).pwr.open_ = s.pwr.open_ := by obtain ⟨_, _, _, _, _, h⟩ := settlePins_only s; rw [h]
@[simp] theorem settlePins_pwr_endReason  (s : State) : (s.settlePins).pwr.endReason = s.pwr.endReason := by obtain ⟨_, _, _, _, _, h⟩ := settlePins_only s; rw [h]
@[simp] theorem settlePins_pwr_backoff  (s : State) : (s.settlePins).pwr.backoff = s.pwr.backoff := by obtain ⟨_, _, _, _, _, h⟩ := settlePins_only s; rw [h]
@[simp] theorem settlePins_pwr_nrst  (s : State) : (s.settlePins).pwr.nrst = s.pwr.nrst := by obtain ⟨_, _, _, _, _, h⟩ := settlePins_only s; rw [h]
@[simp] theorem settlePins_pwr_testm  (s : State) : (s.settlePins).pwr.testm = s.pwr.testm := by obtain ⟨_, _, _, _, _, h⟩ := settlePins_only s; rw [h]
@[simp] theorem settlePins_pwr_resumed  (s : State) : (s.settlePins).pwr.resumed = s.pwr.resumed := by obtain ⟨_, _, _, _, _, h⟩ := settlePins_only s; rw [h]
@[simp] theorem settlePins_pwr_wakeFailReplay  (s : State) : (s.settlePins).pwr.wakeFailReplay = s.pwr.wakeFailReplay := by obtain ⟨_, _, _, _, _, h⟩ := settlePins_only s; rw [h]
@[simp] theorem settlePins_pwr_keyDown  (s : State) : (s.settlePins).pwr.keyDown = s.pwr.keyDown := by obtain ⟨_, _, _, _, _, h⟩ := settlePins_only s; rw [h]
@[simp] theorem settlePins_pwr_keySince  (s : State) : (s.settlePins).pwr.keySince = s.pwr.keySince := by obtain ⟨_, _, _, _, _, h⟩ := settlePins_only s; rw [h]
@[simp] theorem settlePins_pwr_vddio  (s : State) : (s.settlePins).pwr.vddio = s.pwr.vddio := by obtain ⟨_, _, _, _, _, h⟩ := settlePins_only s; rw [h]

@[simp] theorem settlePins_ac_ctx  (s : State) : (s.settlePins).ac.ctx = s.ac.ctx := by obtain ⟨_, _, _, _, _, h⟩ := settlePins_only s; rw [h]
@[simp] theorem settlePins_ac_captures  (s : State) : (s.settlePins).ac.captures = s.ac.captures := by obtain ⟨_, _, _, _, _, h⟩ := settlePins_only s; rw [h]
@[simp] theorem settlePins_ac_flight  (s : State) : (s.settlePins).ac.flight = s.ac.flight := by obtain ⟨_, _, _, _, _, h⟩ := settlePins_only s; rw [h]
@[simp] theorem settlePins_ac_chainSat  (s : State) : (s.settlePins).ac.chainSat = s.ac.chainSat := by obtain ⟨_, _, _, _, _, h⟩ := settlePins_only s; rw [h]
@[simp] theorem settlePins_ac_vsdGood  (s : State) : (s.settlePins).ac.vsdGood = s.ac.vsdGood := by obtain ⟨_, _, _, _, _, h⟩ := settlePins_only s; rw [h]
@[simp] theorem settlePins_ac_vsdDroop  (s : State) : (s.settlePins).ac.vsdDroop = s.ac.vsdDroop := by obtain ⟨_, _, _, _, _, h⟩ := settlePins_only s; rw [h]
@[simp] theorem settlePins_ac_vhdAbove5  (s : State) : (s.settlePins).ac.vhdAbove5 = s.ac.vhdAbove5 := by obtain ⟨_, _, _, _, _, h⟩ := settlePins_only s; rw [h]
@[simp] theorem settlePins_ac_vhdLow  (s : State) : (s.settlePins).ac.vhdLow = s.ac.vhdLow := by obtain ⟨_, _, _, _, _, h⟩ := settlePins_only s; rw [h]
@[simp] theorem settlePins_ac_calGain  (s : State) : (s.settlePins).ac.calGain = s.ac.calGain := by obtain ⟨_, _, _, _, _, h⟩ := settlePins_only s; rw [h]
@[simp] theorem settlePins_ac_calR  (s : State) : (s.settlePins).ac.calR = s.ac.calR := by obtain ⟨_, _, _, _, _, h⟩ := settlePins_only s; rw [h]
@[simp] theorem settlePins_ac_calFaulty  (s : State) : (s.settlePins).ac.calFaulty = s.ac.calFaulty := by obtain ⟨_, _, _, _, _, h⟩ := settlePins_only s; rw [h]
@[simp] theorem settlePins_ac_calFaults  (s : State) : (s.settlePins).ac.calFaults = s.ac.calFaults := by obtain ⟨_, _, _, _, _, h⟩ := settlePins_only s; rw [h]
@[simp] theorem settlePins_ac_closeStamps  (s : State) : (s.settlePins).ac.closeStamps = s.ac.closeStamps := by obtain ⟨_, _, _, _, _, h⟩ := settlePins_only s; rw [h]
@[simp] theorem settlePins_ac_orderErrors  (s : State) : (s.settlePins).ac.orderErrors = s.ac.orderErrors := by obtain ⟨_, _, _, _, _, h⟩ := settlePins_only s; rw [h]
@[simp] theorem settlePins_ac_overflows  (s : State) : (s.settlePins).ac.overflows = s.ac.overflows := by obtain ⟨_, _, _, _, _, h⟩ := settlePins_only s; rw [h]
@[simp] theorem settlePins_ac_timeouts  (s : State) : (s.settlePins).ac.timeouts = s.ac.timeouts := by obtain ⟨_, _, _, _, _, h⟩ := settlePins_only s; rw [h]
@[simp] theorem settlePins_ac_pllLocked  (s : State) : (s.settlePins).ac.pllLocked = s.ac.pllLocked := by obtain ⟨_, _, _, _, _, h⟩ := settlePins_only s; rw [h]
@[simp] theorem settlePins_ac_dllLocked  (s : State) : (s.settlePins).ac.dllLocked = s.ac.dllLocked := by obtain ⟨_, _, _, _, _, h⟩ := settlePins_only s; rw [h]
@[simp] theorem settlePins_ac_capture  (s : State) : (s.settlePins).ac.capture = s.ac.capture := by obtain ⟨_, _, _, _, _, h⟩ := settlePins_only s; rw [h]
@[simp] theorem settlePins_ac_waveSkipped  (s : State) : (s.settlePins).ac.waveSkipped = s.ac.waveSkipped := by obtain ⟨_, _, _, _, _, h⟩ := settlePins_only s; rw [h]
@[simp] theorem settlePins_ac_waves  (s : State) : (s.settlePins).ac.waves = s.ac.waves := by obtain ⟨_, _, _, _, _, h⟩ := settlePins_only s; rw [h]
@[simp] theorem settlePins_ac_gate17  (s : State) : (s.settlePins).ac.gate17 = s.ac.gate17 := by obtain ⟨_, _, _, _, _, h⟩ := settlePins_only s; rw [h]
@[simp] theorem settlePins_ac_gate18  (s : State) : (s.settlePins).ac.gate18 = s.ac.gate18 := by obtain ⟨_, _, _, _, _, h⟩ := settlePins_only s; rw [h]

@[simp] theorem linkError_pwr_doms (port : Nat) (s : State) : (s.linkError port).pwr.doms = s.pwr.doms := by obtain ⟨_, _, _, _, _, _, _, _, h⟩ := linkError_only port s; rw [h]
@[simp] theorem linkError_pwr_mtime (port : Nat) (s : State) : (s.linkError port).pwr.mtime = s.pwr.mtime := by obtain ⟨_, _, _, _, _, _, _, _, h⟩ := linkError_only port s; rw [h]
@[simp] theorem linkError_pwr_wickStart (port : Nat) (s : State) : (s.linkError port).pwr.wickStart = s.pwr.wickStart := by obtain ⟨_, _, _, _, _, _, _, _, h⟩ := linkError_only port s; rw [h]
@[simp] theorem linkError_pwr_finalDue (port : Nat) (s : State) : (s.linkError port).pwr.finalDue = s.pwr.finalDue := by obtain ⟨_, _, _, _, _, _, _, _, h⟩ := linkError_only port s; rw [h]
@[simp] theorem linkError_pwr_lastWake (port : Nat) (s : State) : (s.linkError port).pwr.lastWake = s.pwr.lastWake := by obtain ⟨_, _, _, _, _, _, _, _, h⟩ := linkError_only port s; rw [h]
@[simp] theorem linkError_pwr_wakeFails (port : Nat) (s : State) : (s.linkError port).pwr.wakeFails = s.pwr.wakeFails := by obtain ⟨_, _, _, _, _, _, _, _, h⟩ := linkError_only port s; rw [h]
@[simp] theorem linkError_pwr_resSnap (port : Nat) (s : State) : (s.linkError port).pwr.resSnap = s.pwr.resSnap := by obtain ⟨_, _, _, _, _, _, _, _, h⟩ := linkError_only port s; rw [h]
@[simp] theorem linkError_pwr_resFrame (port : Nat) (s : State) : (s.linkError port).pwr.resFrame = s.pwr.resFrame := by obtain ⟨_, _, _, _, _, _, _, _, h⟩ := linkError_only port s; rw [h]
@[simp] theorem linkError_pwr_resClear (port : Nat) (s : State) : (s.linkError port).pwr.resClear = s.pwr.resClear := by obtain ⟨_, _, _, _, _, _, _, _, h⟩ := linkError_only port s; rw [h]
@[simp] theorem linkError_pwr_command (port : Nat) (s : State) : (s.linkError port).pwr.command = s.pwr.command := by obtain ⟨_, _, _, _, _, _, _, _, h⟩ := linkError_only port s; rw [h]
@[simp] theorem linkError_pwr_taperExit (port : Nat) (s : State) : (s.linkError port).pwr.taperExit = s.pwr.taperExit := by obtain ⟨_, _, _, _, _, _, _, _, h⟩ := linkError_only port s; rw [h]
@[simp] theorem linkError_pwr_startMode (port : Nat) (s : State) : (s.linkError port).pwr.startMode = s.pwr.startMode := by obtain ⟨_, _, _, _, _, _, _, _, h⟩ := linkError_only port s; rw [h]
@[simp] theorem linkError_pwr_failedStarts (port : Nat) (s : State) : (s.linkError port).pwr.failedStarts = s.pwr.failedStarts := by obtain ⟨_, _, _, _, _, _, _, _, h⟩ := linkError_only port s; rw [h]
@[simp] theorem linkError_pwr_startCount (port : Nat) (s : State) : (s.linkError port).pwr.startCount = s.pwr.startCount := by obtain ⟨_, _, _, _, _, _, _, _, h⟩ := linkError_only port s; rw [h]
@[simp] theorem linkError_pwr_taperLatchBk (port : Nat) (s : State) : (s.linkError port).pwr.taperLatchBk = s.pwr.taperLatchBk := by obtain ⟨_, _, _, _, _, _, _, _, h⟩ := linkError_only port s; rw [h]
@[simp] theorem linkError_pwr_taperLatchMetro (port : Nat) (s : State) : (s.linkError port).pwr.taperLatchMetro = s.pwr.taperLatchMetro := by obtain ⟨_, _, _, _, _, _, _, _, h⟩ := linkError_only port s; rw [h]
@[simp] theorem linkError_pwr_taperCode (port : Nat) (s : State) : (s.linkError port).pwr.taperCode = s.pwr.taperCode := by obtain ⟨_, _, _, _, _, _, _, _, h⟩ := linkError_only port s; rw [h]
@[simp] theorem linkError_pwr_boundaries (port : Nat) (s : State) : (s.linkError port).pwr.boundaries = s.pwr.boundaries := by obtain ⟨_, _, _, _, _, _, _, _, h⟩ := linkError_only port s; rw [h]
@[simp] theorem linkError_pwr_succeeded (port : Nat) (s : State) : (s.linkError port).pwr.succeeded = s.pwr.succeeded := by obtain ⟨_, _, _, _, _, _, _, _, h⟩ := linkError_only port s; rw [h]
@[simp] theorem linkError_pwr_history (port : Nat) (s : State) : (s.linkError port).pwr.history = s.pwr.history := by obtain ⟨_, _, _, _, _, _, _, _, h⟩ := linkError_only port s; rw [h]
@[simp] theorem linkError_pwr_open_ (port : Nat) (s : State) : (s.linkError port).pwr.open_ = s.pwr.open_ := by obtain ⟨_, _, _, _, _, _, _, _, h⟩ := linkError_only port s; rw [h]
@[simp] theorem linkError_pwr_endReason (port : Nat) (s : State) : (s.linkError port).pwr.endReason = s.pwr.endReason := by obtain ⟨_, _, _, _, _, _, _, _, h⟩ := linkError_only port s; rw [h]
@[simp] theorem linkError_pwr_backoff (port : Nat) (s : State) : (s.linkError port).pwr.backoff = s.pwr.backoff := by obtain ⟨_, _, _, _, _, _, _, _, h⟩ := linkError_only port s; rw [h]
@[simp] theorem linkError_pwr_nrst (port : Nat) (s : State) : (s.linkError port).pwr.nrst = s.pwr.nrst := by obtain ⟨_, _, _, _, _, _, _, _, h⟩ := linkError_only port s; rw [h]
@[simp] theorem linkError_pwr_testm (port : Nat) (s : State) : (s.linkError port).pwr.testm = s.pwr.testm := by obtain ⟨_, _, _, _, _, _, _, _, h⟩ := linkError_only port s; rw [h]
@[simp] theorem linkError_pwr_resumed (port : Nat) (s : State) : (s.linkError port).pwr.resumed = s.pwr.resumed := by obtain ⟨_, _, _, _, _, _, _, _, h⟩ := linkError_only port s; rw [h]
@[simp] theorem linkError_pwr_wakeFailReplay (port : Nat) (s : State) : (s.linkError port).pwr.wakeFailReplay = s.pwr.wakeFailReplay := by obtain ⟨_, _, _, _, _, _, _, _, h⟩ := linkError_only port s; rw [h]
@[simp] theorem linkError_pwr_keyDown (port : Nat) (s : State) : (s.linkError port).pwr.keyDown = s.pwr.keyDown := by obtain ⟨_, _, _, _, _, _, _, _, h⟩ := linkError_only port s; rw [h]
@[simp] theorem linkError_pwr_keySince (port : Nat) (s : State) : (s.linkError port).pwr.keySince = s.pwr.keySince := by obtain ⟨_, _, _, _, _, _, _, _, h⟩ := linkError_only port s; rw [h]
@[simp] theorem linkError_pwr_vddio (port : Nat) (s : State) : (s.linkError port).pwr.vddio = s.pwr.vddio := by obtain ⟨_, _, _, _, _, _, _, _, h⟩ := linkError_only port s; rw [h]

@[simp] theorem linkError_perf_clear (port : Nat) (s : State) : (s.linkError port).perf.clear = s.perf.clear := by obtain ⟨_, _, _, _, _, _, _, _, h⟩ := linkError_only port s; rw [h]
@[simp] theorem linkError_perf_cur (port : Nat) (s : State) : (s.linkError port).perf.cur = s.perf.cur := by obtain ⟨_, _, _, _, _, _, _, _, h⟩ := linkError_only port s; rw [h]
@[simp] theorem linkError_perf_idle (port : Nat) (s : State) : (s.linkError port).perf.idle = s.perf.idle := by obtain ⟨_, _, _, _, _, _, _, _, h⟩ := linkError_only port s; rw [h]
@[simp] theorem linkError_perf_latches (port : Nat) (s : State) : (s.linkError port).perf.latches = s.perf.latches := by obtain ⟨_, _, _, _, _, _, _, _, h⟩ := linkError_only port s; rw [h]
@[simp] theorem linkError_perf_uen (port : Nat) (s : State) : (s.linkError port).perf.uen = s.perf.uen := by obtain ⟨_, _, _, _, _, _, _, _, h⟩ := linkError_only port s; rw [h]

@[simp] theorem linkError_q_spiIn (port : Nat) (s : State) : (s.linkError port).q.spiIn = s.q.spiIn := by obtain ⟨_, _, _, _, _, _, _, _, h⟩ := linkError_only port s; rw [h]
@[simp] theorem linkError_q_spiOut (port : Nat) (s : State) : (s.linkError port).q.spiOut = s.q.spiOut := by obtain ⟨_, _, _, _, _, _, _, _, h⟩ := linkError_only port s; rw [h]
@[simp] theorem linkError_q_spiHeld (port : Nat) (s : State) : (s.linkError port).q.spiHeld = s.q.spiHeld := by obtain ⟨_, _, _, _, _, _, _, _, h⟩ := linkError_only port s; rw [h]
@[simp] theorem linkError_q_spiError (port : Nat) (s : State) : (s.linkError port).q.spiError = s.q.spiError := by obtain ⟨_, _, _, _, _, _, _, _, h⟩ := linkError_only port s; rw [h]
@[simp] theorem linkError_q_status (port : Nat) (s : State) : (s.linkError port).q.status = s.q.status := by obtain ⟨_, _, _, _, _, _, _, _, h⟩ := linkError_only port s; rw [h]
@[simp] theorem linkError_q_sent (port : Nat) (s : State) : (s.linkError port).q.sent = s.q.sent := by obtain ⟨_, _, _, _, _, _, _, _, h⟩ := linkError_only port s; rw [h]
@[simp] theorem linkError_q_coreIn (port : Nat) (s : State) : (s.linkError port).q.coreIn = s.q.coreIn := by obtain ⟨_, _, _, _, _, _, _, _, h⟩ := linkError_only port s; rw [h]
@[simp] theorem linkError_q_coreHeld (port : Nat) (s : State) : (s.linkError port).q.coreHeld = s.q.coreHeld := by obtain ⟨_, _, _, _, _, _, _, _, h⟩ := linkError_only port s; rw [h]
@[simp] theorem linkError_q_coreOut (port : Nat) (s : State) : (s.linkError port).q.coreOut = s.q.coreOut := by obtain ⟨_, _, _, _, _, _, _, _, h⟩ := linkError_only port s; rw [h]
@[simp] theorem linkError_q_popped (port : Nat) (s : State) : (s.linkError port).q.popped = s.q.popped := by obtain ⟨_, _, _, _, _, _, _, _, h⟩ := linkError_only port s; rw [h]
@[simp] theorem linkError_q_gens (port : Nat) (s : State) : (s.linkError port).q.gens = s.q.gens := by obtain ⟨_, _, _, _, _, _, _, _, h⟩ := linkError_only port s; rw [h]
@[simp] theorem linkError_q_spiDropped (port : Nat) (s : State) : (s.linkError port).q.spiDropped = s.q.spiDropped := by obtain ⟨_, _, _, _, _, _, _, _, h⟩ := linkError_only port s; rw [h]
@[simp] theorem linkError_q_coreDropped (port : Nat) (s : State) : (s.linkError port).q.coreDropped = s.q.coreDropped := by obtain ⟨_, _, _, _, _, _, _, _, h⟩ := linkError_only port s; rw [h]

@[simp] theorem answer_pwr_doms (r : Request) (byCore : Bool) (abort : Nat) (data : List Nat) (s : State) : (s.answer r byCore abort data).pwr.doms = s.pwr.doms := by obtain ⟨_, _, _, _, _, _, _, _, _, _, _, _, _, _, _, _, _, _, _, _, h⟩ := answer_only r byCore abort data s; rw [h]
@[simp] theorem answer_pwr_mtime (r : Request) (byCore : Bool) (abort : Nat) (data : List Nat) (s : State) : (s.answer r byCore abort data).pwr.mtime = s.pwr.mtime := by obtain ⟨_, _, _, _, _, _, _, _, _, _, _, _, _, _, _, _, _, _, _, _, h⟩ := answer_only r byCore abort data s; rw [h]
@[simp] theorem answer_pwr_wickStart (r : Request) (byCore : Bool) (abort : Nat) (data : List Nat) (s : State) : (s.answer r byCore abort data).pwr.wickStart = s.pwr.wickStart := by obtain ⟨_, _, _, _, _, _, _, _, _, _, _, _, _, _, _, _, _, _, _, _, h⟩ := answer_only r byCore abort data s; rw [h]
@[simp] theorem answer_pwr_finalDue (r : Request) (byCore : Bool) (abort : Nat) (data : List Nat) (s : State) : (s.answer r byCore abort data).pwr.finalDue = s.pwr.finalDue := by obtain ⟨_, _, _, _, _, _, _, _, _, _, _, _, _, _, _, _, _, _, _, _, h⟩ := answer_only r byCore abort data s; rw [h]
@[simp] theorem answer_pwr_lastWake (r : Request) (byCore : Bool) (abort : Nat) (data : List Nat) (s : State) : (s.answer r byCore abort data).pwr.lastWake = s.pwr.lastWake := by obtain ⟨_, _, _, _, _, _, _, _, _, _, _, _, _, _, _, _, _, _, _, _, h⟩ := answer_only r byCore abort data s; rw [h]
@[simp] theorem answer_pwr_wakeFails (r : Request) (byCore : Bool) (abort : Nat) (data : List Nat) (s : State) : (s.answer r byCore abort data).pwr.wakeFails = s.pwr.wakeFails := by obtain ⟨_, _, _, _, _, _, _, _, _, _, _, _, _, _, _, _, _, _, _, _, h⟩ := answer_only r byCore abort data s; rw [h]
@[simp] theorem answer_pwr_resSnap (r : Request) (byCore : Bool) (abort : Nat) (data : List Nat) (s : State) : (s.answer r byCore abort data).pwr.resSnap = s.pwr.resSnap := by obtain ⟨_, _, _, _, _, _, _, _, _, _, _, _, _, _, _, _, _, _, _, _, h⟩ := answer_only r byCore abort data s; rw [h]
@[simp] theorem answer_pwr_resFrame (r : Request) (byCore : Bool) (abort : Nat) (data : List Nat) (s : State) : (s.answer r byCore abort data).pwr.resFrame = s.pwr.resFrame := by obtain ⟨_, _, _, _, _, _, _, _, _, _, _, _, _, _, _, _, _, _, _, _, h⟩ := answer_only r byCore abort data s; rw [h]
@[simp] theorem answer_pwr_resClear (r : Request) (byCore : Bool) (abort : Nat) (data : List Nat) (s : State) : (s.answer r byCore abort data).pwr.resClear = s.pwr.resClear := by obtain ⟨_, _, _, _, _, _, _, _, _, _, _, _, _, _, _, _, _, _, _, _, h⟩ := answer_only r byCore abort data s; rw [h]
@[simp] theorem answer_pwr_command (r : Request) (byCore : Bool) (abort : Nat) (data : List Nat) (s : State) : (s.answer r byCore abort data).pwr.command = s.pwr.command := by obtain ⟨_, _, _, _, _, _, _, _, _, _, _, _, _, _, _, _, _, _, _, _, h⟩ := answer_only r byCore abort data s; rw [h]
@[simp] theorem answer_pwr_taperExit (r : Request) (byCore : Bool) (abort : Nat) (data : List Nat) (s : State) : (s.answer r byCore abort data).pwr.taperExit = s.pwr.taperExit := by obtain ⟨_, _, _, _, _, _, _, _, _, _, _, _, _, _, _, _, _, _, _, _, h⟩ := answer_only r byCore abort data s; rw [h]
@[simp] theorem answer_pwr_startMode (r : Request) (byCore : Bool) (abort : Nat) (data : List Nat) (s : State) : (s.answer r byCore abort data).pwr.startMode = s.pwr.startMode := by obtain ⟨_, _, _, _, _, _, _, _, _, _, _, _, _, _, _, _, _, _, _, _, h⟩ := answer_only r byCore abort data s; rw [h]
@[simp] theorem answer_pwr_failedStarts (r : Request) (byCore : Bool) (abort : Nat) (data : List Nat) (s : State) : (s.answer r byCore abort data).pwr.failedStarts = s.pwr.failedStarts := by obtain ⟨_, _, _, _, _, _, _, _, _, _, _, _, _, _, _, _, _, _, _, _, h⟩ := answer_only r byCore abort data s; rw [h]
@[simp] theorem answer_pwr_startCount (r : Request) (byCore : Bool) (abort : Nat) (data : List Nat) (s : State) : (s.answer r byCore abort data).pwr.startCount = s.pwr.startCount := by obtain ⟨_, _, _, _, _, _, _, _, _, _, _, _, _, _, _, _, _, _, _, _, h⟩ := answer_only r byCore abort data s; rw [h]
@[simp] theorem answer_pwr_taperLatchBk (r : Request) (byCore : Bool) (abort : Nat) (data : List Nat) (s : State) : (s.answer r byCore abort data).pwr.taperLatchBk = s.pwr.taperLatchBk := by obtain ⟨_, _, _, _, _, _, _, _, _, _, _, _, _, _, _, _, _, _, _, _, h⟩ := answer_only r byCore abort data s; rw [h]
@[simp] theorem answer_pwr_taperLatchMetro (r : Request) (byCore : Bool) (abort : Nat) (data : List Nat) (s : State) : (s.answer r byCore abort data).pwr.taperLatchMetro = s.pwr.taperLatchMetro := by obtain ⟨_, _, _, _, _, _, _, _, _, _, _, _, _, _, _, _, _, _, _, _, h⟩ := answer_only r byCore abort data s; rw [h]
@[simp] theorem answer_pwr_taperCode (r : Request) (byCore : Bool) (abort : Nat) (data : List Nat) (s : State) : (s.answer r byCore abort data).pwr.taperCode = s.pwr.taperCode := by obtain ⟨_, _, _, _, _, _, _, _, _, _, _, _, _, _, _, _, _, _, _, _, h⟩ := answer_only r byCore abort data s; rw [h]
@[simp] theorem answer_pwr_boundaries (r : Request) (byCore : Bool) (abort : Nat) (data : List Nat) (s : State) : (s.answer r byCore abort data).pwr.boundaries = s.pwr.boundaries := by obtain ⟨_, _, _, _, _, _, _, _, _, _, _, _, _, _, _, _, _, _, _, _, h⟩ := answer_only r byCore abort data s; rw [h]
@[simp] theorem answer_pwr_succeeded (r : Request) (byCore : Bool) (abort : Nat) (data : List Nat) (s : State) : (s.answer r byCore abort data).pwr.succeeded = s.pwr.succeeded := by obtain ⟨_, _, _, _, _, _, _, _, _, _, _, _, _, _, _, _, _, _, _, _, h⟩ := answer_only r byCore abort data s; rw [h]
@[simp] theorem answer_pwr_history (r : Request) (byCore : Bool) (abort : Nat) (data : List Nat) (s : State) : (s.answer r byCore abort data).pwr.history = s.pwr.history := by obtain ⟨_, _, _, _, _, _, _, _, _, _, _, _, _, _, _, _, _, _, _, _, h⟩ := answer_only r byCore abort data s; rw [h]
@[simp] theorem answer_pwr_open_ (r : Request) (byCore : Bool) (abort : Nat) (data : List Nat) (s : State) : (s.answer r byCore abort data).pwr.open_ = s.pwr.open_ := by obtain ⟨_, _, _, _, _, _, _, _, _, _, _, _, _, _, _, _, _, _, _, _, h⟩ := answer_only r byCore abort data s; rw [h]
@[simp] theorem answer_pwr_endReason (r : Request) (byCore : Bool) (abort : Nat) (data : List Nat) (s : State) : (s.answer r byCore abort data).pwr.endReason = s.pwr.endReason := by obtain ⟨_, _, _, _, _, _, _, _, _, _, _, _, _, _, _, _, _, _, _, _, h⟩ := answer_only r byCore abort data s; rw [h]
@[simp] theorem answer_pwr_backoff (r : Request) (byCore : Bool) (abort : Nat) (data : List Nat) (s : State) : (s.answer r byCore abort data).pwr.backoff = s.pwr.backoff := by obtain ⟨_, _, _, _, _, _, _, _, _, _, _, _, _, _, _, _, _, _, _, _, h⟩ := answer_only r byCore abort data s; rw [h]
@[simp] theorem answer_pwr_nrst (r : Request) (byCore : Bool) (abort : Nat) (data : List Nat) (s : State) : (s.answer r byCore abort data).pwr.nrst = s.pwr.nrst := by obtain ⟨_, _, _, _, _, _, _, _, _, _, _, _, _, _, _, _, _, _, _, _, h⟩ := answer_only r byCore abort data s; rw [h]
@[simp] theorem answer_pwr_testm (r : Request) (byCore : Bool) (abort : Nat) (data : List Nat) (s : State) : (s.answer r byCore abort data).pwr.testm = s.pwr.testm := by obtain ⟨_, _, _, _, _, _, _, _, _, _, _, _, _, _, _, _, _, _, _, _, h⟩ := answer_only r byCore abort data s; rw [h]
@[simp] theorem answer_pwr_resumed (r : Request) (byCore : Bool) (abort : Nat) (data : List Nat) (s : State) : (s.answer r byCore abort data).pwr.resumed = s.pwr.resumed := by obtain ⟨_, _, _, _, _, _, _, _, _, _, _, _, _, _, _, _, _, _, _, _, h⟩ := answer_only r byCore abort data s; rw [h]
@[simp] theorem answer_pwr_wakeFailReplay (r : Request) (byCore : Bool) (abort : Nat) (data : List Nat) (s : State) : (s.answer r byCore abort data).pwr.wakeFailReplay = s.pwr.wakeFailReplay := by obtain ⟨_, _, _, _, _, _, _, _, _, _, _, _, _, _, _, _, _, _, _, _, h⟩ := answer_only r byCore abort data s; rw [h]
@[simp] theorem answer_pwr_keyDown (r : Request) (byCore : Bool) (abort : Nat) (data : List Nat) (s : State) : (s.answer r byCore abort data).pwr.keyDown = s.pwr.keyDown := by obtain ⟨_, _, _, _, _, _, _, _, _, _, _, _, _, _, _, _, _, _, _, _, h⟩ := answer_only r byCore abort data s; rw [h]
@[simp] theorem answer_pwr_keySince (r : Request) (byCore : Bool) (abort : Nat) (data : List Nat) (s : State) : (s.answer r byCore abort data).pwr.keySince = s.pwr.keySince := by obtain ⟨_, _, _, _, _, _, _, _, _, _, _, _, _, _, _, _, _, _, _, _, h⟩ := answer_only r byCore abort data s; rw [h]
@[simp] theorem answer_pwr_vddio (r : Request) (byCore : Bool) (abort : Nat) (data : List Nat) (s : State) : (s.answer r byCore abort data).pwr.vddio = s.pwr.vddio := by obtain ⟨_, _, _, _, _, _, _, _, _, _, _, _, _, _, _, _, _, _, _, _, h⟩ := answer_only r byCore abort data s; rw [h]

@[simp] theorem answer_perf_clear (r : Request) (byCore : Bool) (abort : Nat) (data : List Nat) (s : State) : (s.answer r byCore abort data).perf.clear = s.perf.clear := by obtain ⟨_, _, _, _, _, _, _, _, _, _, _, _, _, _, _, _, _, _, _, _, h⟩ := answer_only r byCore abort data s; rw [h]
@[simp] theorem answer_perf_cur (r : Request) (byCore : Bool) (abort : Nat) (data : List Nat) (s : State) : (s.answer r byCore abort data).perf.cur = s.perf.cur := by obtain ⟨_, _, _, _, _, _, _, _, _, _, _, _, _, _, _, _, _, _, _, _, h⟩ := answer_only r byCore abort data s; rw [h]
@[simp] theorem answer_perf_idle (r : Request) (byCore : Bool) (abort : Nat) (data : List Nat) (s : State) : (s.answer r byCore abort data).perf.idle = s.perf.idle := by obtain ⟨_, _, _, _, _, _, _, _, _, _, _, _, _, _, _, _, _, _, _, _, h⟩ := answer_only r byCore abort data s; rw [h]
@[simp] theorem answer_perf_latches (r : Request) (byCore : Bool) (abort : Nat) (data : List Nat) (s : State) : (s.answer r byCore abort data).perf.latches = s.perf.latches := by obtain ⟨_, _, _, _, _, _, _, _, _, _, _, _, _, _, _, _, _, _, _, _, h⟩ := answer_only r byCore abort data s; rw [h]
@[simp] theorem answer_perf_uen (r : Request) (byCore : Bool) (abort : Nat) (data : List Nat) (s : State) : (s.answer r byCore abort data).perf.uen = s.perf.uen := by obtain ⟨_, _, _, _, _, _, _, _, _, _, _, _, _, _, _, _, _, _, _, _, h⟩ := answer_only r byCore abort data s; rw [h]

@[simp] theorem answer_q_spiIn (r : Request) (byCore : Bool) (abort : Nat) (data : List Nat) (s : State) : (s.answer r byCore abort data).q.spiIn = s.q.spiIn := by obtain ⟨_, _, _, _, _, _, _, _, _, _, _, _, _, _, _, _, _, _, _, _, h⟩ := answer_only r byCore abort data s; rw [h]
@[simp] theorem answer_q_spiError (r : Request) (byCore : Bool) (abort : Nat) (data : List Nat) (s : State) : (s.answer r byCore abort data).q.spiError = s.q.spiError := by obtain ⟨_, _, _, _, _, _, _, _, _, _, _, _, _, _, _, _, _, _, _, _, h⟩ := answer_only r byCore abort data s; rw [h]
@[simp] theorem answer_q_status (r : Request) (byCore : Bool) (abort : Nat) (data : List Nat) (s : State) : (s.answer r byCore abort data).q.status = s.q.status := by obtain ⟨_, _, _, _, _, _, _, _, _, _, _, _, _, _, _, _, _, _, _, _, h⟩ := answer_only r byCore abort data s; rw [h]
@[simp] theorem answer_q_sent (r : Request) (byCore : Bool) (abort : Nat) (data : List Nat) (s : State) : (s.answer r byCore abort data).q.sent = s.q.sent := by obtain ⟨_, _, _, _, _, _, _, _, _, _, _, _, _, _, _, _, _, _, _, _, h⟩ := answer_only r byCore abort data s; rw [h]
@[simp] theorem answer_q_coreOut (r : Request) (byCore : Bool) (abort : Nat) (data : List Nat) (s : State) : (s.answer r byCore abort data).q.coreOut = s.q.coreOut := by obtain ⟨_, _, _, _, _, _, _, _, _, _, _, _, _, _, _, _, _, _, _, _, h⟩ := answer_only r byCore abort data s; rw [h]
@[simp] theorem answer_q_popped (r : Request) (byCore : Bool) (abort : Nat) (data : List Nat) (s : State) : (s.answer r byCore abort data).q.popped = s.q.popped := by obtain ⟨_, _, _, _, _, _, _, _, _, _, _, _, _, _, _, _, _, _, _, _, h⟩ := answer_only r byCore abort data s; rw [h]
@[simp] theorem answer_q_gens (r : Request) (byCore : Bool) (abort : Nat) (data : List Nat) (s : State) : (s.answer r byCore abort data).q.gens = s.q.gens := by obtain ⟨_, _, _, _, _, _, _, _, _, _, _, _, _, _, _, _, _, _, _, _, h⟩ := answer_only r byCore abort data s; rw [h]
@[simp] theorem answer_q_linkErrors (r : Request) (byCore : Bool) (abort : Nat) (data : List Nat) (s : State) : (s.answer r byCore abort data).q.linkErrors = s.q.linkErrors := by obtain ⟨_, _, _, _, _, _, _, _, _, _, _, _, _, _, _, _, _, _, _, _, h⟩ := answer_only r byCore abort data s; rw [h]
@[simp] theorem answer_q_spiDropped (r : Request) (byCore : Bool) (abort : Nat) (data : List Nat) (s : State) : (s.answer r byCore abort data).q.spiDropped = s.q.spiDropped := by obtain ⟨_, _, _, _, _, _, _, _, _, _, _, _, _, _, _, _, _, _, _, _, h⟩ := answer_only r byCore abort data s; rw [h]
@[simp] theorem answer_q_coreDropped (r : Request) (byCore : Bool) (abort : Nat) (data : List Nat) (s : State) : (s.answer r byCore abort data).q.coreDropped = s.q.coreDropped := by obtain ⟨_, _, _, _, _, _, _, _, _, _, _, _, _, _, _, _, _, _, _, _, h⟩ := answer_only r byCore abort data s; rw [h]

@[simp] theorem answer_core_state (r : Request) (byCore : Bool) (abort : Nat) (data : List Nat) (s : State) : (s.answer r byCore abort data).core.state = s.core.state := by obtain ⟨_, _, _, _, _, _, _, _, _, _, _, _, _, _, _, _, _, _, _, _, h⟩ := answer_only r byCore abort data s; rw [h]
@[simp] theorem answer_core_csr (r : Request) (byCore : Bool) (abort : Nat) (data : List Nat) (s : State) : (s.answer r byCore abort data).core.csr = s.core.csr := by obtain ⟨_, _, _, _, _, _, _, _, _, _, _, _, _, _, _, _, _, _, _, _, h⟩ := answer_only r byCore abort data s; rw [h]
@[simp] theorem answer_core_icache (r : Request) (byCore : Bool) (abort : Nat) (data : List Nat) (s : State) : (s.answer r byCore abort data).core.icache = s.core.icache := by obtain ⟨_, _, _, _, _, _, _, _, _, _, _, _, _, _, _, _, _, _, _, _, h⟩ := answer_only r byCore abort data s; rw [h]
@[simp] theorem answer_core_dmaActive (r : Request) (byCore : Bool) (abort : Nat) (data : List Nat) (s : State) : (s.answer r byCore abort data).core.dmaActive = s.core.dmaActive := by obtain ⟨_, _, _, _, _, _, _, _, _, _, _, _, _, _, _, _, _, _, _, _, h⟩ := answer_only r byCore abort data s; rw [h]
@[simp] theorem answer_core_dmaError (r : Request) (byCore : Bool) (abort : Nat) (data : List Nat) (s : State) : (s.answer r byCore abort data).core.dmaError = s.core.dmaError := by obtain ⟨_, _, _, _, _, _, _, _, _, _, _, _, _, _, _, _, _, _, _, _, h⟩ := answer_only r byCore abort data s; rw [h]
@[simp] theorem answer_core_debugData (r : Request) (byCore : Bool) (abort : Nat) (data : List Nat) (s : State) : (s.answer r byCore abort data).core.debugData = s.core.debugData := by obtain ⟨_, _, _, _, _, _, _, _, _, _, _, _, _, _, _, _, _, _, _, _, h⟩ := answer_only r byCore abort data s; rw [h]
@[simp] theorem answer_core_failedStep (r : Request) (byCore : Bool) (abort : Nat) (data : List Nat) (s : State) : (s.answer r byCore abort data).core.failedStep = s.core.failedStep := by obtain ⟨_, _, _, _, _, _, _, _, _, _, _, _, _, _, _, _, _, _, _, _, h⟩ := answer_only r byCore abort data s; rw [h]
@[simp] theorem answer_core_secVersion (r : Request) (byCore : Bool) (abort : Nat) (data : List Nat) (s : State) : (s.answer r byCore abort data).core.secVersion = s.core.secVersion := by obtain ⟨_, _, _, _, _, _, _, _, _, _, _, _, _, _, _, _, _, _, _, _, h⟩ := answer_only r byCore abort data s; rw [h]
@[simp] theorem answer_core_resets (r : Request) (byCore : Bool) (abort : Nat) (data : List Nat) (s : State) : (s.answer r byCore abort data).core.resets = s.core.resets := by obtain ⟨_, _, _, _, _, _, _, _, _, _, _, _, _, _, _, _, _, _, _, _, h⟩ := answer_only r byCore abort data s; rw [h]
@[simp] theorem answer_core_wfi (r : Request) (byCore : Bool) (abort : Nat) (data : List Nat) (s : State) : (s.answer r byCore abort data).core.wfi = s.core.wfi := by obtain ⟨_, _, _, _, _, _, _, _, _, _, _, _, _, _, _, _, _, _, _, _, h⟩ := answer_only r byCore abort data s; rw [h]
@[simp] theorem answer_core_halted (r : Request) (byCore : Bool) (abort : Nat) (data : List Nat) (s : State) : (s.answer r byCore abort data).core.halted = s.core.halted := by obtain ⟨_, _, _, _, _, _, _, _, _, _, _, _, _, _, _, _, _, _, _, _, h⟩ := answer_only r byCore abort data s; rw [h]
@[simp] theorem answer_core_l16 (r : Request) (byCore : Bool) (abort : Nat) (data : List Nat) (s : State) : (s.answer r byCore abort data).core.l16 = s.core.l16 := by obtain ⟨_, _, _, _, _, _, _, _, _, _, _, _, _, _, _, _, _, _, _, _, h⟩ := answer_only r byCore abort data s; rw [h]
@[simp] theorem answer_core_l17 (r : Request) (byCore : Bool) (abort : Nat) (data : List Nat) (s : State) : (s.answer r byCore abort data).core.l17 = s.core.l17 := by obtain ⟨_, _, _, _, _, _, _, _, _, _, _, _, _, _, _, _, _, _, _, _, h⟩ := answer_only r byCore abort data s; rw [h]
@[simp] theorem answer_core_l18 (r : Request) (byCore : Bool) (abort : Nat) (data : List Nat) (s : State) : (s.answer r byCore abort data).core.l18 = s.core.l18 := by obtain ⟨_, _, _, _, _, _, _, _, _, _, _, _, _, _, _, _, _, _, _, _, h⟩ := answer_only r byCore abort data s; rw [h]
@[simp] theorem answer_core_withheld (r : Request) (byCore : Bool) (abort : Nat) (data : List Nat) (s : State) : (s.answer r byCore abort data).core.withheld = s.core.withheld := by obtain ⟨_, _, _, _, _, _, _, _, _, _, _, _, _, _, _, _, _, _, _, _, h⟩ := answer_only r byCore abort data s; rw [h]
@[simp] theorem answer_core_msip (r : Request) (byCore : Bool) (abort : Nat) (data : List Nat) (s : State) : (s.answer r byCore abort data).core.msip = s.core.msip := by obtain ⟨_, _, _, _, _, _, _, _, _, _, _, _, _, _, _, _, _, _, _, _, h⟩ := answer_only r byCore abort data s; rw [h]
@[simp] theorem answer_core_enable (r : Request) (byCore : Bool) (abort : Nat) (data : List Nat) (s : State) : (s.answer r byCore abort data).core.enable = s.core.enable := by obtain ⟨_, _, _, _, _, _, _, _, _, _, _, _, _, _, _, _, _, _, _, _, h⟩ := answer_only r byCore abort data s; rw [h]
@[simp] theorem answer_core_priority (r : Request) (byCore : Bool) (abort : Nat) (data : List Nat) (s : State) : (s.answer r byCore abort data).core.priority = s.core.priority := by obtain ⟨_, _, _, _, _, _, _, _, _, _, _, _, _, _, _, _, _, _, _, _, h⟩ := answer_only r byCore abort data s; rw [h]
@[simp] theorem answer_core_threshold (r : Request) (byCore : Bool) (abort : Nat) (data : List Nat) (s : State) : (s.answer r byCore abort data).core.threshold = s.core.threshold := by obtain ⟨_, _, _, _, _, _, _, _, _, _, _, _, _, _, _, _, _, _, _, _, h⟩ := answer_only r byCore abort data s; rw [h]
@[simp] theorem answer_core_claim (r : Request) (byCore : Bool) (abort : Nat) (data : List Nat) (s : State) : (s.answer r byCore abort data).core.claim = s.core.claim := by obtain ⟨_, _, _, _, _, _, _, _, _, _, _, _, _, _, _, _, _, _, _, _, h⟩ := answer_only r byCore abort data s; rw [h]
@[simp] theorem answer_core_claimInfo (r : Request) (byCore : Bool) (abort : Nat) (data : List Nat) (s : State) : (s.answer r byCore abort data).core.claimInfo = s.core.claimInfo := by obtain ⟨_, _, _, _, _, _, _, _, _, _, _, _, _, _, _, _, _, _, _, _, h⟩ := answer_only r byCore abort data s; rw [h]
@[simp] theorem answer_core_claimArg (r : Request) (byCore : Bool) (abort : Nat) (data : List Nat) (s : State) : (s.answer r byCore abort data).core.claimArg = s.core.claimArg := by obtain ⟨_, _, _, _, _, _, _, _, _, _, _, _, _, _, _, _, _, _, _, _, h⟩ := answer_only r byCore abort data s; rw [h]
@[simp] theorem answer_core_claimFrame (r : Request) (byCore : Bool) (abort : Nat) (data : List Nat) (s : State) : (s.answer r byCore abort data).core.claimFrame = s.core.claimFrame := by obtain ⟨_, _, _, _, _, _, _, _, _, _, _, _, _, _, _, _, _, _, _, _, h⟩ := answer_only r byCore abort data s; rw [h]
@[simp] theorem answer_core_mtimecmp (r : Request) (byCore : Bool) (abort : Nat) (data : List Nat) (s : State) : (s.answer r byCore abort data).core.mtimecmp = s.core.mtimecmp := by obtain ⟨_, _, _, _, _, _, _, _, _, _, _, _, _, _, _, _, _, _, _, _, h⟩ := answer_only r byCore abort data s; rw [h]
@[simp] theorem answer_core_mtip (r : Request) (byCore : Bool) (abort : Nat) (data : List Nat) (s : State) : (s.answer r byCore abort data).core.mtip = s.core.mtip := by obtain ⟨_, _, _, _, _, _, _, _, _, _, _, _, _, _, _, _, _, _, _, _, h⟩ := answer_only r byCore abort data s; rw [h]
@[simp] theorem answer_core_wdt (r : Request) (byCore : Bool) (abort : Nat) (data : List Nat) (s : State) : (s.answer r byCore abort data).core.wdt = s.core.wdt := by obtain ⟨_, _, _, _, _, _, _, _, _, _, _, _, _, _, _, _, _, _, _, _, h⟩ := answer_only r byCore abort data s; rw [h]
@[simp] theorem answer_core_wdtCount (r : Request) (byCore : Bool) (abort : Nat) (data : List Nat) (s : State) : (s.answer r byCore abort data).core.wdtCount = s.core.wdtCount := by obtain ⟨_, _, _, _, _, _, _, _, _, _, _, _, _, _, _, _, _, _, _, _, h⟩ := answer_only r byCore abort data s; rw [h]
@[simp] theorem answer_core_hold (r : Request) (byCore : Bool) (abort : Nat) (data : List Nat) (s : State) : (s.answer r byCore abort data).core.hold = s.core.hold := by obtain ⟨_, _, _, _, _, _, _, _, _, _, _, _, _, _, _, _, _, _, _, _, h⟩ := answer_only r byCore abort data s; rw [h]
@[simp] theorem answer_core_reqHdr (r : Request) (byCore : Bool) (abort : Nat) (data : List Nat) (s : State) : (s.answer r byCore abort data).core.reqHdr = s.core.reqHdr := by obtain ⟨_, _, _, _, _, _, _, _, _, _, _, _, _, _, _, _, _, _, _, _, h⟩ := answer_only r byCore abort data s; rw [h]
@[simp] theorem answer_core_reqLen (r : Request) (byCore : Bool) (abort : Nat) (data : List Nat) (s : State) : (s.answer r byCore abort data).core.reqLen = s.core.reqLen := by obtain ⟨_, _, _, _, _, _, _, _, _, _, _, _, _, _, _, _, _, _, _, _, h⟩ := answer_only r byCore abort data s; rw [h]
@[simp] theorem answer_core_custHdr (r : Request) (byCore : Bool) (abort : Nat) (data : List Nat) (s : State) : (s.answer r byCore abort data).core.custHdr = s.core.custHdr := by obtain ⟨_, _, _, _, _, _, _, _, _, _, _, _, _, _, _, _, _, _, _, _, h⟩ := answer_only r byCore abort data s; rw [h]
@[simp] theorem answer_core_custInfo (r : Request) (byCore : Bool) (abort : Nat) (data : List Nat) (s : State) : (s.answer r byCore abort data).core.custInfo = s.core.custInfo := by obtain ⟨_, _, _, _, _, _, _, _, _, _, _, _, _, _, _, _, _, _, _, _, h⟩ := answer_only r byCore abort data s; rw [h]
@[simp] theorem answer_core_custResult (r : Request) (byCore : Bool) (abort : Nat) (data : List Nat) (s : State) : (s.answer r byCore abort data).core.custResult = s.core.custResult := by obtain ⟨_, _, _, _, _, _, _, _, _, _, _, _, _, _, _, _, _, _, _, _, h⟩ := answer_only r byCore abort data s; rw [h]
@[simp] theorem answer_core_custData (r : Request) (byCore : Bool) (abort : Nat) (data : List Nat) (s : State) : (s.answer r byCore abort data).core.custData = s.core.custData := by obtain ⟨_, _, _, _, _, _, _, _, _, _, _, _, _, _, _, _, _, _, _, _, h⟩ := answer_only r byCore abort data s; rw [h]
@[simp] theorem answer_core_held (r : Request) (byCore : Bool) (abort : Nat) (data : List Nat) (s : State) : (s.answer r byCore abort data).core.held = s.core.held := by obtain ⟨_, _, _, _, _, _, _, _, _, _, _, _, _, _, _, _, _, _, _, _, h⟩ := answer_only r byCore abort data s; rw [h]
@[simp] theorem answer_core_heldAt (r : Request) (byCore : Bool) (abort : Nat) (data : List Nat) (s : State) : (s.answer r byCore abort data).core.heldAt = s.core.heldAt := by obtain ⟨_, _, _, _, _, _, _, _, _, _, _, _, _, _, _, _, _, _, _, _, h⟩ := answer_only r byCore abort data s; rw [h]
@[simp] theorem answer_core_custTimeouts (r : Request) (byCore : Bool) (abort : Nat) (data : List Nat) (s : State) : (s.answer r byCore abort data).core.custTimeouts = s.core.custTimeouts := by obtain ⟨_, _, _, _, _, _, _, _, _, _, _, _, _, _, _, _, _, _, _, _, h⟩ := answer_only r byCore abort data s; rw [h]
@[simp] theorem answer_core_mailOut (r : Request) (byCore : Bool) (abort : Nat) (data : List Nat) (s : State) : (s.answer r byCore abort data).core.mailOut = s.core.mailOut := by obtain ⟨_, _, _, _, _, _, _, _, _, _, _, _, _, _, _, _, _, _, _, _, h⟩ := answer_only r byCore abort data s; rw [h]
@[simp] theorem answer_core_mailPublished (r : Request) (byCore : Bool) (abort : Nat) (data : List Nat) (s : State) : (s.answer r byCore abort data).core.mailPublished = s.core.mailPublished := by obtain ⟨_, _, _, _, _, _, _, _, _, _, _, _, _, _, _, _, _, _, _, _, h⟩ := answer_only r byCore abort data s; rw [h]
@[simp] theorem answer_core_mailUnread (r : Request) (byCore : Bool) (abort : Nat) (data : List Nat) (s : State) : (s.answer r byCore abort data).core.mailUnread = s.core.mailUnread := by obtain ⟨_, _, _, _, _, _, _, _, _, _, _, _, _, _, _, _, _, _, _, _, h⟩ := answer_only r byCore abort data s; rw [h]
@[simp] theorem answer_core_fwMin (r : Request) (byCore : Bool) (abort : Nat) (data : List Nat) (s : State) : (s.answer r byCore abort data).core.fwMin = s.core.fwMin := by obtain ⟨_, _, _, _, _, _, _, _, _, _, _, _, _, _, _, _, _, _, _, _, h⟩ := answer_only r byCore abort data s; rw [h]

@[simp] theorem answer_iol_state (r : Request) (byCore : Bool) (abort : Nat) (data : List Nat) (s : State) : (s.answer r byCore abort data).iol.state = s.iol.state := by obtain ⟨_, _, _, _, _, _, _, _, _, _, _, _, _, _, _, _, _, _, _, _, h⟩ := answer_only r byCore abort data s; rw [h]
@[simp] theorem answer_iol_config (r : Request) (byCore : Bool) (abort : Nat) (data : List Nat) (s : State) : (s.answer r byCore abort data).iol.config = s.iol.config := by obtain ⟨_, _, _, _, _, _, _, _, _, _, _, _, _, _, _, _, _, _, _, _, h⟩ := answer_only r byCore abort data s; rw [h]
@[simp] theorem answer_iol_cycleLast (r : Request) (byCore : Bool) (abort : Nat) (data : List Nat) (s : State) : (s.answer r byCore abort data).iol.cycleLast = s.iol.cycleLast := by obtain ⟨_, _, _, _, _, _, _, _, _, _, _, _, _, _, _, _, _, _, _, _, h⟩ := answer_only r byCore abort data s; rw [h]
@[simp] theorem answer_iol_lastStart (r : Request) (byCore : Bool) (abort : Nat) (data : List Nat) (s : State) : (s.answer r byCore abort data).iol.lastStart = s.iol.lastStart := by obtain ⟨_, _, _, _, _, _, _, _, _, _, _, _, _, _, _, _, _, _, _, _, h⟩ := answer_only r byCore abort data s; rw [h]
@[simp] theorem answer_iol_hello (r : Request) (byCore : Bool) (abort : Nat) (data : List Nat) (s : State) : (s.answer r byCore abort data).iol.hello = s.iol.hello := by obtain ⟨_, _, _, _, _, _, _, _, _, _, _, _, _, _, _, _, _, _, _, _, h⟩ := answer_only r byCore abort data s; rw [h]
@[simp] theorem answer_iol_heard (r : Request) (byCore : Bool) (abort : Nat) (data : List Nat) (s : State) : (s.answer r byCore abort data).iol.heard = s.iol.heard := by obtain ⟨_, _, _, _, _, _, _, _, _, _, _, _, _, _, _, _, _, _, _, _, h⟩ := answer_only r byCore abort data s; rw [h]
@[simp] theorem answer_iol_pdIn (r : Request) (byCore : Bool) (abort : Nat) (data : List Nat) (s : State) : (s.answer r byCore abort data).iol.pdIn = s.iol.pdIn := by obtain ⟨_, _, _, _, _, _, _, _, _, _, _, _, _, _, _, _, _, _, _, _, h⟩ := answer_only r byCore abort data s; rw [h]
@[simp] theorem answer_iol_pdNext (r : Request) (byCore : Bool) (abort : Nat) (data : List Nat) (s : State) : (s.answer r byCore abort data).iol.pdNext = s.iol.pdNext := by obtain ⟨_, _, _, _, _, _, _, _, _, _, _, _, _, _, _, _, _, _, _, _, h⟩ := answer_only r byCore abort data s; rw [h]
@[simp] theorem answer_iol_pdValid (r : Request) (byCore : Bool) (abort : Nat) (data : List Nat) (s : State) : (s.answer r byCore abort data).iol.pdValid = s.iol.pdValid := by obtain ⟨_, _, _, _, _, _, _, _, _, _, _, _, _, _, _, _, _, _, _, _, h⟩ := answer_only r byCore abort data s; rw [h]
@[simp] theorem answer_iol_pdOut (r : Request) (byCore : Bool) (abort : Nat) (data : List Nat) (s : State) : (s.answer r byCore abort data).iol.pdOut = s.iol.pdOut := by obtain ⟨_, _, _, _, _, _, _, _, _, _, _, _, _, _, _, _, _, _, _, _, h⟩ := answer_only r byCore abort data s; rw [h]
@[simp] theorem answer_iol_pdOutValid (r : Request) (byCore : Bool) (abort : Nat) (data : List Nat) (s : State) : (s.answer r byCore abort data).iol.pdOutValid = s.iol.pdOutValid := by obtain ⟨_, _, _, _, _, _, _, _, _, _, _, _, _, _, _, _, _, _, _, _, h⟩ := answer_only r byCore abort data s; rw [h]
@[simp] theorem answer_iol_pdOutNew (r : Request) (byCore : Bool) (abort : Nat) (data : List Nat) (s : State) : (s.answer r byCore abort data).iol.pdOutNew = s.iol.pdOutNew := by obtain ⟨_, _, _, _, _, _, _, _, _, _, _, _, _, _, _, _, _, _, _, _, h⟩ := answer_only r byCore abort data s; rw [h]
@[simp] theorem answer_iol_events (r : Request) (byCore : Bool) (abort : Nat) (data : List Nat) (s : State) : (s.answer r byCore abort data).iol.events = s.iol.events := by obtain ⟨_, _, _, _, _, _, _, _, _, _, _, _, _, _, _, _, _, _, _, _, h⟩ := answer_only r byCore abort data s; rw [h]
@[simp] theorem answer_iol_lastEvent (r : Request) (byCore : Bool) (abort : Nat) (data : List Nat) (s : State) : (s.answer r byCore abort data).iol.lastEvent = s.iol.lastEvent := by obtain ⟨_, _, _, _, _, _, _, _, _, _, _, _, _, _, _, _, _, _, _, _, h⟩ := answer_only r byCore abort data s; rw [h]
@[simp] theorem answer_iol_downloading (r : Request) (byCore : Bool) (abort : Nat) (data : List Nat) (s : State) : (s.answer r byCore abort data).iol.downloading = s.iol.downloading := by obtain ⟨_, _, _, _, _, _, _, _, _, _, _, _, _, _, _, _, _, _, _, _, h⟩ := answer_only r byCore abort data s; rw [h]
@[simp] theorem answer_iol_download (r : Request) (byCore : Bool) (abort : Nat) (data : List Nat) (s : State) : (s.answer r byCore abort data).iol.download = s.iol.download := by obtain ⟨_, _, _, _, _, _, _, _, _, _, _, _, _, _, _, _, _, _, _, _, h⟩ := answer_only r byCore abort data s; rw [h]
@[simp] theorem answer_iol_uploading (r : Request) (byCore : Bool) (abort : Nat) (data : List Nat) (s : State) : (s.answer r byCore abort data).iol.uploading = s.iol.uploading := by obtain ⟨_, _, _, _, _, _, _, _, _, _, _, _, _, _, _, _, _, _, _, _, h⟩ := answer_only r byCore abort data s; rw [h]
@[simp] theorem answer_iol_uploadFlag (r : Request) (byCore : Bool) (abort : Nat) (data : List Nat) (s : State) : (s.answer r byCore abort data).iol.uploadFlag = s.iol.uploadFlag := by obtain ⟨_, _, _, _, _, _, _, _, _, _, _, _, _, _, _, _, _, _, _, _, h⟩ := answer_only r byCore abort data s; rw [h]
@[simp] theorem answer_iol_reply (r : Request) (byCore : Bool) (abort : Nat) (data : List Nat) (s : State) : (s.answer r byCore abort data).iol.reply = s.iol.reply := by obtain ⟨_, _, _, _, _, _, _, _, _, _, _, _, _, _, _, _, _, _, _, _, h⟩ := answer_only r byCore abort data s; rw [h]

@[simp] theorem answer_mbus_baud (r : Request) (byCore : Bool) (abort : Nat) (data : List Nat) (s : State) : (s.answer r byCore abort data).mbus.baud = s.mbus.baud := by obtain ⟨_, _, _, _, _, _, _, _, _, _, _, _, _, _, _, _, _, _, _, _, h⟩ := answer_only r byCore abort data s; rw [h]
@[simp] theorem answer_mbus_heard (r : Request) (byCore : Bool) (abort : Nat) (data : List Nat) (s : State) : (s.answer r byCore abort data).mbus.heard = s.mbus.heard := by obtain ⟨_, _, _, _, _, _, _, _, _, _, _, _, _, _, _, _, _, _, _, _, h⟩ := answer_only r byCore abort data s; rw [h]
@[simp] theorem answer_mbus_session (r : Request) (byCore : Bool) (abort : Nat) (data : List Nat) (s : State) : (s.answer r byCore abort data).mbus.session = s.mbus.session := by obtain ⟨_, _, _, _, _, _, _, _, _, _, _, _, _, _, _, _, _, _, _, _, h⟩ := answer_only r byCore abort data s; rw [h]
@[simp] theorem answer_mbus_fcb (r : Request) (byCore : Bool) (abort : Nat) (data : List Nat) (s : State) : (s.answer r byCore abort data).mbus.fcb = s.mbus.fcb := by obtain ⟨_, _, _, _, _, _, _, _, _, _, _, _, _, _, _, _, _, _, _, _, h⟩ := answer_only r byCore abort data s; rw [h]
@[simp] theorem answer_mbus_selected (r : Request) (byCore : Bool) (abort : Nat) (data : List Nat) (s : State) : (s.answer r byCore abort data).mbus.selected = s.mbus.selected := by obtain ⟨_, _, _, _, _, _, _, _, _, _, _, _, _, _, _, _, _, _, _, _, h⟩ := answer_only r byCore abort data s; rw [h]
@[simp] theorem answer_mbus_telegram (r : Request) (byCore : Bool) (abort : Nat) (data : List Nat) (s : State) : (s.answer r byCore abort data).mbus.telegram = s.mbus.telegram := by obtain ⟨_, _, _, _, _, _, _, _, _, _, _, _, _, _, _, _, _, _, _, _, h⟩ := answer_only r byCore abort data s; rw [h]
@[simp] theorem answer_mbus_pages (r : Request) (byCore : Bool) (abort : Nat) (data : List Nat) (s : State) : (s.answer r byCore abort data).mbus.pages = s.mbus.pages := by obtain ⟨_, _, _, _, _, _, _, _, _, _, _, _, _, _, _, _, _, _, _, _, h⟩ := answer_only r byCore abort data s; rw [h]
@[simp] theorem answer_mbus_last (r : Request) (byCore : Bool) (abort : Nat) (data : List Nat) (s : State) : (s.answer r byCore abort data).mbus.last = s.mbus.last := by obtain ⟨_, _, _, _, _, _, _, _, _, _, _, _, _, _, _, _, _, _, _, _, h⟩ := answer_only r byCore abort data s; rw [h]
@[simp] theorem answer_mbus_sent (r : Request) (byCore : Bool) (abort : Nat) (data : List Nat) (s : State) : (s.answer r byCore abort data).mbus.sent = s.mbus.sent := by obtain ⟨_, _, _, _, _, _, _, _, _, _, _, _, _, _, _, _, _, _, _, _, h⟩ := answer_only r byCore abort data s; rw [h]
@[simp] theorem answer_mbus_accessNo (r : Request) (byCore : Bool) (abort : Nat) (data : List Nat) (s : State) : (s.answer r byCore abort data).mbus.accessNo = s.mbus.accessNo := by obtain ⟨_, _, _, _, _, _, _, _, _, _, _, _, _, _, _, _, _, _, _, _, h⟩ := answer_only r byCore abort data s; rw [h]
@[simp] theorem answer_mbus_flags (r : Request) (byCore : Bool) (abort : Nat) (data : List Nat) (s : State) : (s.answer r byCore abort data).mbus.flags = s.mbus.flags := by obtain ⟨_, _, _, _, _, _, _, _, _, _, _, _, _, _, _, _, _, _, _, _, h⟩ := answer_only r byCore abort data s; rw [h]
@[simp] theorem answer_mbus_shown (r : Request) (byCore : Bool) (abort : Nat) (data : List Nat) (s : State) : (s.answer r byCore abort data).mbus.shown = s.mbus.shown := by obtain ⟨_, _, _, _, _, _, _, _, _, _, _, _, _, _, _, _, _, _, _, _, h⟩ := answer_only r byCore abort data s; rw [h]
@[simp] theorem answer_mbus_hello (r : Request) (byCore : Bool) (abort : Nat) (data : List Nat) (s : State) : (s.answer r byCore abort data).mbus.hello = s.mbus.hello := by obtain ⟨_, _, _, _, _, _, _, _, _, _, _, _, _, _, _, _, _, _, _, _, h⟩ := answer_only r byCore abort data s; rw [h]

@[simp] theorem answer_pl_rising (r : Request) (byCore : Bool) (abort : Nat) (data : List Nat) (s : State) : (s.answer r byCore abort data).pl.rising = s.pl.rising := by obtain ⟨_, _, _, _, _, _, _, _, _, _, _, _, _, _, _, _, _, _, _, _, h⟩ := answer_only r byCore abort data s; rw [h]
@[simp] theorem answer_pl_falling (r : Request) (byCore : Bool) (abort : Nat) (data : List Nat) (s : State) : (s.answer r byCore abort data).pl.falling = s.pl.falling := by obtain ⟨_, _, _, _, _, _, _, _, _, _, _, _, _, _, _, _, _, _, _, _, h⟩ := answer_only r byCore abort data s; rw [h]
@[simp] theorem answer_pl_period18 (r : Request) (byCore : Bool) (abort : Nat) (data : List Nat) (s : State) : (s.answer r byCore abort data).pl.period18 = s.pl.period18 := by obtain ⟨_, _, _, _, _, _, _, _, _, _, _, _, _, _, _, _, _, _, _, _, h⟩ := answer_only r byCore abort data s; rw [h]
@[simp] theorem answer_pl_locked (r : Request) (byCore : Bool) (abort : Nat) (data : List Nat) (s : State) : (s.answer r byCore abort data).pl.locked = s.pl.locked := by obtain ⟨_, _, _, _, _, _, _, _, _, _, _, _, _, _, _, _, _, _, _, _, h⟩ := answer_only r byCore abort data s; rw [h]
@[simp] theorem answer_pl_goodRun (r : Request) (byCore : Bool) (abort : Nat) (data : List Nat) (s : State) : (s.answer r byCore abort data).pl.goodRun = s.pl.goodRun := by obtain ⟨_, _, _, _, _, _, _, _, _, _, _, _, _, _, _, _, _, _, _, _, h⟩ := answer_only r byCore abort data s; rw [h]
@[simp] theorem answer_pl_badRun (r : Request) (byCore : Bool) (abort : Nat) (data : List Nat) (s : State) : (s.answer r byCore abort data).pl.badRun = s.pl.badRun := by obtain ⟨_, _, _, _, _, _, _, _, _, _, _, _, _, _, _, _, _, _, _, _, h⟩ := answer_only r byCore abort data s; rw [h]
@[simp] theorem answer_pl_quietPos (r : Request) (byCore : Bool) (abort : Nat) (data : List Nat) (s : State) : (s.answer r byCore abort data).pl.quietPos = s.pl.quietPos := by obtain ⟨_, _, _, _, _, _, _, _, _, _, _, _, _, _, _, _, _, _, _, _, h⟩ := answer_only r byCore abort data s; rw [h]
@[simp] theorem answer_pl_quietNeg (r : Request) (byCore : Bool) (abort : Nat) (data : List Nat) (s : State) : (s.answer r byCore abort data).pl.quietNeg = s.pl.quietNeg := by obtain ⟨_, _, _, _, _, _, _, _, _, _, _, _, _, _, _, _, _, _, _, _, h⟩ := answer_only r byCore abort data s; rw [h]
@[simp] theorem answer_pl_sensed (r : Request) (byCore : Bool) (abort : Nat) (data : List Nat) (s : State) : (s.answer r byCore abort data).pl.sensed = s.pl.sensed := by obtain ⟨_, _, _, _, _, _, _, _, _, _, _, _, _, _, _, _, _, _, _, _, h⟩ := answer_only r byCore abort data s; rw [h]
@[simp] theorem answer_pl_inbox (r : Request) (byCore : Bool) (abort : Nat) (data : List Nat) (s : State) : (s.answer r byCore abort data).pl.inbox = s.pl.inbox := by obtain ⟨_, _, _, _, _, _, _, _, _, _, _, _, _, _, _, _, _, _, _, _, h⟩ := answer_only r byCore abort data s; rw [h]
@[simp] theorem answer_pl_events (r : Request) (byCore : Bool) (abort : Nat) (data : List Nat) (s : State) : (s.answer r byCore abort data).pl.events = s.pl.events := by obtain ⟨_, _, _, _, _, _, _, _, _, _, _, _, _, _, _, _, _, _, _, _, h⟩ := answer_only r byCore abort data s; rw [h]
@[simp] theorem answer_pl_tx (r : Request) (byCore : Bool) (abort : Nat) (data : List Nat) (s : State) : (s.answer r byCore abort data).pl.tx = s.pl.tx := by obtain ⟨_, _, _, _, _, _, _, _, _, _, _, _, _, _, _, _, _, _, _, _, h⟩ := answer_only r byCore abort data s; rw [h]
@[simp] theorem answer_pl_txNext (r : Request) (byCore : Bool) (abort : Nat) (data : List Nat) (s : State) : (s.answer r byCore abort data).pl.txNext = s.pl.txNext := by obtain ⟨_, _, _, _, _, _, _, _, _, _, _, _, _, _, _, _, _, _, _, _, h⟩ := answer_only r byCore abort data s; rw [h]
@[simp] theorem answer_pl_pulseAt (r : Request) (byCore : Bool) (abort : Nat) (data : List Nat) (s : State) : (s.answer r byCore abort data).pl.pulseAt = s.pl.pulseAt := by obtain ⟨_, _, _, _, _, _, _, _, _, _, _, _, _, _, _, _, _, _, _, _, h⟩ := answer_only r byCore abort data s; rw [h]
@[simp] theorem answer_pl_ple (r : Request) (byCore : Bool) (abort : Nat) (data : List Nat) (s : State) : (s.answer r byCore abort data).pl.ple = s.pl.ple := by obtain ⟨_, _, _, _, _, _, _, _, _, _, _, _, _, _, _, _, _, _, _, _, h⟩ := answer_only r byCore abort data s; rw [h]
@[simp] theorem answer_pl_poll (r : Request) (byCore : Bool) (abort : Nat) (data : List Nat) (s : State) : (s.answer r byCore abort data).pl.poll = s.pl.poll := by obtain ⟨_, _, _, _, _, _, _, _, _, _, _, _, _, _, _, _, _, _, _, _, h⟩ := answer_only r byCore abort data s; rw [h]
@[simp] theorem answer_pl_cycleOn (r : Request) (byCore : Bool) (abort : Nat) (data : List Nat) (s : State) : (s.answer r byCore abort data).pl.cycleOn = s.pl.cycleOn := by obtain ⟨_, _, _, _, _, _, _, _, _, _, _, _, _, _, _, _, _, _, _, _, h⟩ := answer_only r byCore abort data s; rw [h]
@[simp] theorem answer_pl_request (r : Request) (byCore : Bool) (abort : Nat) (data : List Nat) (s : State) : (s.answer r byCore abort data).pl.request = s.pl.request := by obtain ⟨_, _, _, _, _, _, _, _, _, _, _, _, _, _, _, _, _, _, _, _, h⟩ := answer_only r byCore abort data s; rw [h]
@[simp] theorem answer_pl_response (r : Request) (byCore : Bool) (abort : Nat) (data : List Nat) (s : State) : (s.answer r byCore abort data).pl.response = s.pl.response := by obtain ⟨_, _, _, _, _, _, _, _, _, _, _, _, _, _, _, _, _, _, _, _, h⟩ := answer_only r byCore abort data s; rw [h]
@[simp] theorem answer_pl_status (r : Request) (byCore : Bool) (abort : Nat) (data : List Nat) (s : State) : (s.answer r byCore abort data).pl.status = s.pl.status := by obtain ⟨_, _, _, _, _, _, _, _, _, _, _, _, _, _, _, _, _, _, _, _, h⟩ := answer_only r byCore abort data s; rw [h]
@[simp] theorem answer_pl_txFrames (r : Request) (byCore : Bool) (abort : Nat) (data : List Nat) (s : State) : (s.answer r byCore abort data).pl.txFrames = s.pl.txFrames := by obtain ⟨_, _, _, _, _, _, _, _, _, _, _, _, _, _, _, _, _, _, _, _, h⟩ := answer_only r byCore abort data s; rw [h]
@[simp] theorem answer_pl_rxFrames (r : Request) (byCore : Bool) (abort : Nat) (data : List Nat) (s : State) : (s.answer r byCore abort data).pl.rxFrames = s.pl.rxFrames := by obtain ⟨_, _, _, _, _, _, _, _, _, _, _, _, _, _, _, _, _, _, _, _, h⟩ := answer_only r byCore abort data s; rw [h]
@[simp] theorem answer_pl_crcErrors (r : Request) (byCore : Bool) (abort : Nat) (data : List Nat) (s : State) : (s.answer r byCore abort data).pl.crcErrors = s.pl.crcErrors := by obtain ⟨_, _, _, _, _, _, _, _, _, _, _, _, _, _, _, _, _, _, _, _, h⟩ := answer_only r byCore abort data s; rw [h]
@[simp] theorem answer_pl_erased (r : Request) (byCore : Bool) (abort : Nat) (data : List Nat) (s : State) : (s.answer r byCore abort data).pl.erased = s.pl.erased := by obtain ⟨_, _, _, _, _, _, _, _, _, _, _, _, _, _, _, _, _, _, _, _, h⟩ := answer_only r byCore abort data s; rw [h]
@[simp] theorem answer_pl_refused (r : Request) (byCore : Bool) (abort : Nat) (data : List Nat) (s : State) : (s.answer r byCore abort data).pl.refused = s.pl.refused := by obtain ⟨_, _, _, _, _, _, _, _, _, _, _, _, _, _, _, _, _, _, _, _, h⟩ := answer_only r byCore abort data s; rw [h]
@[simp] theorem answer_pl_rejects (r : Request) (byCore : Bool) (abort : Nat) (data : List Nat) (s : State) : (s.answer r byCore abort data).pl.rejects = s.pl.rejects := by obtain ⟨_, _, _, _, _, _, _, _, _, _, _, _, _, _, _, _, _, _, _, _, h⟩ := answer_only r byCore abort data s; rw [h]

/-! ### In RUN, and wherever the device neither dozes nor sleeps, no event changes the power manager -/

theorem raise_pwr_awake (e : Raised) (s : State) (h : s.pwr.state ≠ .doze) (h2 : s.pwr.state ≠ .wick)
    (h3 : s.pwr.state ≠ .snuff) : (s.raise e).pwr = s.pwr := wake_awake s.pwr h h2 h3 e.ev

theorem raiseAll_pwr_awake (es : List Raised) (s : State) (h : s.pwr.state ≠ .doze) (h2 : s.pwr.state ≠ .wick)
    (h3 : s.pwr.state ≠ .snuff) : (s.raiseAll es).pwr = s.pwr := by
  obtain ⟨_, _, e⟩ := raiseAll_awake es s (wake_awake s.pwr h h2 h3)
  rw [e]

theorem raiseIf_pwr_awake (c : Bool) (e : Raised) (s : State) (h : s.pwr.state ≠ .doze) (h2 : s.pwr.state ≠ .wick)
    (h3 : s.pwr.state ≠ .snuff) : (s.raiseIf c e).pwr = s.pwr := by
  unfold State.raiseIf
  split
  · exact raise_pwr_awake e s h h2 h3
  · rfl

theorem count_pwr_awake (acts : List Act) (s : State) (h : s.pwr.state ≠ .doze) (h2 : s.pwr.state ≠ .wick)
    (h3 : s.pwr.state ≠ .snuff) : (s.count acts).pwr = s.pwr := by
  obtain ⟨_, _, _, _, e⟩ := count_awake acts s (wake_awake s.pwr h h2 h3)
  rw [e]

theorem passTicks_state_awake (n : Nat) (s : State) (h : s.pwr.state ≠ .doze) (h2 : s.pwr.state ≠ .wick)
    (h3 : s.pwr.state ≠ .snuff) : (s.passTicks n).pwr.state = s.pwr.state := by
  unfold State.passTicks
  rw [count_pwr_awake] <;> assumption

/-- MTIME over some ticks (R563). -/
@[simp] theorem passTicks_pwr_mtime (n : Nat) (s : State) :
    (s.passTicks n).pwr.mtime = if s.pwr.state = .dark then s.pwr.mtime else (s.pwr.mtime + n) % 2 ^ 64 := by
  unfold State.passTicks
  rw [count_pwr_mtime]

theorem elapse_state_awake (s : State) (h : s.pwr.state ≠ .doze) (h2 : s.pwr.state ≠ .wick)
    (h3 : s.pwr.state ≠ .snuff) : s.elapse.pwr.state = s.pwr.state := by
  unfold State.elapse State.elapseBy
  dsimp only
  split
  · rfl
  · rw [passTicks_state_awake] <;> assumption

/-- A core that is woken from WFI changes in nothing else. -/
theorem coreWake_only (s : State) : ∃ w, s.coreWake = { s with core := { s.core with wfi := w } } := by
  unfold State.coreWake
  split
  · exact ⟨_, rfl⟩
  · split <;> exact ⟨_, rfl⟩

/-! ### coreWake -/

@[simp] theorem coreWake_mode  (s : State) : (s.coreWake).mode = s.mode := by
  obtain ⟨_, h⟩ := coreWake_only s
  rw [h]
@[simp] theorem coreWake_modePending  (s : State) : (s.coreWake).modePending = s.modePending := by
  obtain ⟨_, h⟩ := coreWake_only s
  rw [h]
@[simp] theorem coreWake_events  (s : State) : (s.coreWake).events = s.events := by
  obtain ⟨_, h⟩ := coreWake_only s
  rw [h]
@[simp] theorem coreWake_bkLatches  (s : State) : (s.coreWake).bkLatches = s.bkLatches := by
  obtain ⟨_, h⟩ := coreWake_only s
  rw [h]
@[simp] theorem coreWake_set  (s : State) : (s.coreWake).set = s.set := by
  obtain ⟨_, h⟩ := coreWake_only s
  rw [h]
@[simp] theorem coreWake_q  (s : State) : (s.coreWake).q = s.q := by
  obtain ⟨_, h⟩ := coreWake_only s
  rw [h]
@[simp] theorem coreWake_frame  (s : State) : (s.coreWake).frame = s.frame := by
  obtain ⟨_, h⟩ := coreWake_only s
  rw [h]
@[simp] theorem coreWake_sync  (s : State) : (s.coreWake).sync = s.sync := by
  obtain ⟨_, h⟩ := coreWake_only s
  rw [h]
@[simp] theorem coreWake_ledger  (s : State) : (s.coreWake).ledger = s.ledger := by
  obtain ⟨_, h⟩ := coreWake_only s
  rw [h]
@[simp] theorem coreWake_ac  (s : State) : (s.coreWake).ac = s.ac := by
  obtain ⟨_, h⟩ := coreWake_only s
  rw [h]
@[simp] theorem coreWake_sen  (s : State) : (s.coreWake).sen = s.sen := by
  obtain ⟨_, h⟩ := coreWake_only s
  rw [h]
@[simp] theorem coreWake_flow  (s : State) : (s.coreWake).flow = s.flow := by
  obtain ⟨_, h⟩ := coreWake_only s
  rw [h]
@[simp] theorem coreWake_qty  (s : State) : (s.coreWake).qty = s.qty := by
  obtain ⟨_, h⟩ := coreWake_only s
  rw [h]
@[simp] theorem coreWake_bill  (s : State) : (s.coreWake).bill = s.bill := by
  obtain ⟨_, h⟩ := coreWake_only s
  rw [h]
@[simp] theorem coreWake_clk  (s : State) : (s.coreWake).clk = s.clk := by
  obtain ⟨_, h⟩ := coreWake_only s
  rw [h]
@[simp] theorem coreWake_pwr  (s : State) : (s.coreWake).pwr = s.pwr := by
  obtain ⟨_, h⟩ := coreWake_only s
  rw [h]
@[simp] theorem coreWake_perf  (s : State) : (s.coreWake).perf = s.perf := by
  obtain ⟨_, h⟩ := coreWake_only s
  rw [h]
@[simp] theorem coreWake_cal  (s : State) : (s.coreWake).cal = s.cal := by
  obtain ⟨_, h⟩ := coreWake_only s
  rw [h]
@[simp] theorem coreWake_acc  (s : State) : (s.coreWake).acc = s.acc := by
  obtain ⟨_, h⟩ := coreWake_only s
  rw [h]
@[simp] theorem coreWake_log  (s : State) : (s.coreWake).log = s.log := by
  obtain ⟨_, h⟩ := coreWake_only s
  rw [h]
@[simp] theorem coreWake_iol  (s : State) : (s.coreWake).iol = s.iol := by
  obtain ⟨_, h⟩ := coreWake_only s
  rw [h]
@[simp] theorem coreWake_mbus  (s : State) : (s.coreWake).mbus = s.mbus := by
  obtain ⟨_, h⟩ := coreWake_only s
  rw [h]
@[simp] theorem coreWake_pl  (s : State) : (s.coreWake).pl = s.pl := by
  obtain ⟨_, h⟩ := coreWake_only s
  rw [h]
@[simp] theorem coreWake_disp  (s : State) : (s.coreWake).disp = s.disp := by
  obtain ⟨_, h⟩ := coreWake_only s
  rw [h]
@[simp] theorem coreWake_mem  (s : State) : (s.coreWake).mem = s.mem := by
  obtain ⟨_, h⟩ := coreWake_only s
  rw [h]
@[simp] theorem coreWake_pending  (s : State) : (s.coreWake).pending = s.pending := by
  obtain ⟨_, h⟩ := coreWake_only s
  rw [h]

@[simp] theorem coreWake_core_state  (s : State) : (s.coreWake).core.state = s.core.state := by
  obtain ⟨_, h⟩ := coreWake_only s
  rw [h]
@[simp] theorem coreWake_core_csr  (s : State) : (s.coreWake).core.csr = s.core.csr := by
  obtain ⟨_, h⟩ := coreWake_only s
  rw [h]
@[simp] theorem coreWake_core_icache  (s : State) : (s.coreWake).core.icache = s.core.icache := by
  obtain ⟨_, h⟩ := coreWake_only s
  rw [h]
@[simp] theorem coreWake_core_dmaActive  (s : State) : (s.coreWake).core.dmaActive = s.core.dmaActive := by
  obtain ⟨_, h⟩ := coreWake_only s
  rw [h]
@[simp] theorem coreWake_core_dmaError  (s : State) : (s.coreWake).core.dmaError = s.core.dmaError := by
  obtain ⟨_, h⟩ := coreWake_only s
  rw [h]
@[simp] theorem coreWake_core_debugData  (s : State) : (s.coreWake).core.debugData = s.core.debugData := by
  obtain ⟨_, h⟩ := coreWake_only s
  rw [h]
@[simp] theorem coreWake_core_failedStep  (s : State) : (s.coreWake).core.failedStep = s.core.failedStep := by
  obtain ⟨_, h⟩ := coreWake_only s
  rw [h]
@[simp] theorem coreWake_core_secVersion  (s : State) : (s.coreWake).core.secVersion = s.core.secVersion := by
  obtain ⟨_, h⟩ := coreWake_only s
  rw [h]
@[simp] theorem coreWake_core_resets  (s : State) : (s.coreWake).core.resets = s.core.resets := by
  obtain ⟨_, h⟩ := coreWake_only s
  rw [h]
@[simp] theorem coreWake_core_halted  (s : State) : (s.coreWake).core.halted = s.core.halted := by
  obtain ⟨_, h⟩ := coreWake_only s
  rw [h]
@[simp] theorem coreWake_core_l16  (s : State) : (s.coreWake).core.l16 = s.core.l16 := by
  obtain ⟨_, h⟩ := coreWake_only s
  rw [h]
@[simp] theorem coreWake_core_l17  (s : State) : (s.coreWake).core.l17 = s.core.l17 := by
  obtain ⟨_, h⟩ := coreWake_only s
  rw [h]
@[simp] theorem coreWake_core_l18  (s : State) : (s.coreWake).core.l18 = s.core.l18 := by
  obtain ⟨_, h⟩ := coreWake_only s
  rw [h]
@[simp] theorem coreWake_core_withheld  (s : State) : (s.coreWake).core.withheld = s.core.withheld := by
  obtain ⟨_, h⟩ := coreWake_only s
  rw [h]
@[simp] theorem coreWake_core_msip  (s : State) : (s.coreWake).core.msip = s.core.msip := by
  obtain ⟨_, h⟩ := coreWake_only s
  rw [h]
@[simp] theorem coreWake_core_enable  (s : State) : (s.coreWake).core.enable = s.core.enable := by
  obtain ⟨_, h⟩ := coreWake_only s
  rw [h]
@[simp] theorem coreWake_core_priority  (s : State) : (s.coreWake).core.priority = s.core.priority := by
  obtain ⟨_, h⟩ := coreWake_only s
  rw [h]
@[simp] theorem coreWake_core_threshold  (s : State) : (s.coreWake).core.threshold = s.core.threshold := by
  obtain ⟨_, h⟩ := coreWake_only s
  rw [h]
@[simp] theorem coreWake_core_claim  (s : State) : (s.coreWake).core.claim = s.core.claim := by
  obtain ⟨_, h⟩ := coreWake_only s
  rw [h]
@[simp] theorem coreWake_core_claimInfo  (s : State) : (s.coreWake).core.claimInfo = s.core.claimInfo := by
  obtain ⟨_, h⟩ := coreWake_only s
  rw [h]
@[simp] theorem coreWake_core_claimArg  (s : State) : (s.coreWake).core.claimArg = s.core.claimArg := by
  obtain ⟨_, h⟩ := coreWake_only s
  rw [h]
@[simp] theorem coreWake_core_claimFrame  (s : State) : (s.coreWake).core.claimFrame = s.core.claimFrame := by
  obtain ⟨_, h⟩ := coreWake_only s
  rw [h]
@[simp] theorem coreWake_core_mtimecmp  (s : State) : (s.coreWake).core.mtimecmp = s.core.mtimecmp := by
  obtain ⟨_, h⟩ := coreWake_only s
  rw [h]
@[simp] theorem coreWake_core_mtip  (s : State) : (s.coreWake).core.mtip = s.core.mtip := by
  obtain ⟨_, h⟩ := coreWake_only s
  rw [h]
@[simp] theorem coreWake_core_wdt  (s : State) : (s.coreWake).core.wdt = s.core.wdt := by
  obtain ⟨_, h⟩ := coreWake_only s
  rw [h]
@[simp] theorem coreWake_core_wdtCount  (s : State) : (s.coreWake).core.wdtCount = s.core.wdtCount := by
  obtain ⟨_, h⟩ := coreWake_only s
  rw [h]
@[simp] theorem coreWake_core_hold  (s : State) : (s.coreWake).core.hold = s.core.hold := by
  obtain ⟨_, h⟩ := coreWake_only s
  rw [h]
@[simp] theorem coreWake_core_reqHdr  (s : State) : (s.coreWake).core.reqHdr = s.core.reqHdr := by
  obtain ⟨_, h⟩ := coreWake_only s
  rw [h]
@[simp] theorem coreWake_core_reqLen  (s : State) : (s.coreWake).core.reqLen = s.core.reqLen := by
  obtain ⟨_, h⟩ := coreWake_only s
  rw [h]
@[simp] theorem coreWake_core_reqBusy  (s : State) : (s.coreWake).core.reqBusy = s.core.reqBusy := by
  obtain ⟨_, h⟩ := coreWake_only s
  rw [h]
@[simp] theorem coreWake_core_reqResult  (s : State) : (s.coreWake).core.reqResult = s.core.reqResult := by
  obtain ⟨_, h⟩ := coreWake_only s
  rw [h]
@[simp] theorem coreWake_core_reqData  (s : State) : (s.coreWake).core.reqData = s.core.reqData := by
  obtain ⟨_, h⟩ := coreWake_only s
  rw [h]
@[simp] theorem coreWake_core_custHdr  (s : State) : (s.coreWake).core.custHdr = s.core.custHdr := by
  obtain ⟨_, h⟩ := coreWake_only s
  rw [h]
@[simp] theorem coreWake_core_custInfo  (s : State) : (s.coreWake).core.custInfo = s.core.custInfo := by
  obtain ⟨_, h⟩ := coreWake_only s
  rw [h]
@[simp] theorem coreWake_core_custResult  (s : State) : (s.coreWake).core.custResult = s.core.custResult := by
  obtain ⟨_, h⟩ := coreWake_only s
  rw [h]
@[simp] theorem coreWake_core_custData  (s : State) : (s.coreWake).core.custData = s.core.custData := by
  obtain ⟨_, h⟩ := coreWake_only s
  rw [h]
@[simp] theorem coreWake_core_held  (s : State) : (s.coreWake).core.held = s.core.held := by
  obtain ⟨_, h⟩ := coreWake_only s
  rw [h]
@[simp] theorem coreWake_core_heldAt  (s : State) : (s.coreWake).core.heldAt = s.core.heldAt := by
  obtain ⟨_, h⟩ := coreWake_only s
  rw [h]
@[simp] theorem coreWake_core_custTimeouts  (s : State) : (s.coreWake).core.custTimeouts = s.core.custTimeouts := by
  obtain ⟨_, h⟩ := coreWake_only s
  rw [h]
@[simp] theorem coreWake_core_mailOut  (s : State) : (s.coreWake).core.mailOut = s.core.mailOut := by
  obtain ⟨_, h⟩ := coreWake_only s
  rw [h]
@[simp] theorem coreWake_core_mailPublished  (s : State) : (s.coreWake).core.mailPublished = s.core.mailPublished := by
  obtain ⟨_, h⟩ := coreWake_only s
  rw [h]
@[simp] theorem coreWake_core_mailUnread  (s : State) : (s.coreWake).core.mailUnread = s.core.mailUnread := by
  obtain ⟨_, h⟩ := coreWake_only s
  rw [h]
@[simp] theorem coreWake_core_fwMin  (s : State) : (s.coreWake).core.fwMin = s.core.fwMin := by
  obtain ⟨_, h⟩ := coreWake_only s
  rw [h]

@[simp] theorem modCore_core (f : AppCore → AppCore) (s : State) : (s.modCore f).core = f s.core := rfl
@[simp] theorem modPerf_perf (f : Perf → Perf) (s : State) : (s.modPerf f).perf = f s.perf := rfl
@[simp] theorem modIol_iol (f : IoLink → IoLink) (s : State) : (s.modIol f).iol = f s.iol := rfl
@[simp] theorem modMbus_mbus (f : MBus → MBus) (s : State) : (s.modMbus f).mbus = f s.mbus := rfl
@[simp] theorem modPl_pl (f : Powerline → Powerline) (s : State) : (s.modPl f).pl = f s.pl := rfl
@[simp] theorem modDisp_disp (f : Display → Display) (s : State) : (s.modDisp f).disp = f s.disp := rfl

end Sys2Proof.Laws
end

