-- ==== Sys2Proof/Laws/Store.lean ====
section
/-! SUPPORT. The laws of the sparse stores and of memory: a read after a write, and the canonical form is kept. -/

namespace Sys2Proof.Laws

open Sys2Proof.Machine

theorem Pairs_mem_drop {β : Type} (m : Pairs β) (k : Nat) (q : Nat × β) (h : q ∈ Pairs.drop m k) :
    q ∈ m ∧ q.1 ≠ k := by
  induction m with
  | nil => simp [Pairs.drop] at h
  | cons p m ih =>
    simp only [Pairs.drop] at h
    split at h
    · exact ⟨List.mem_cons_of_mem _ (ih h).1, (ih h).2⟩
    · rename_i hp
      rcases List.mem_cons.mp h with rfl | h
      · exact ⟨List.mem_cons_self .., hp⟩
      · exact ⟨List.mem_cons_of_mem _ (ih h).1, (ih h).2⟩

theorem Pairs_find_drop_same {β : Type} (m : Pairs β) (k : Nat) : (Pairs.drop m k).find k = none := by
  induction m with
  | nil => rfl
  | cons p m ih =>
    simp only [Pairs.drop]
    split
    · exact ih
    · rename_i hp
      simp [Pairs.find, hp, ih]

theorem Pairs_find_drop_other {β : Type} (m : Pairs β) (k a : Nat) (h : a ≠ k) :
    (Pairs.drop m k).find a = m.find a := by
  induction m with
  | nil => rfl
  | cons p m ih =>
    simp only [Pairs.drop, Pairs.find]
    split
    · rename_i hp
      rw [ih, if_neg (by omega)]
    · simp [Pairs.find, ih]

theorem Pairs_find_place_same {β : Type} (m : Pairs β) (k : Nat) (v : β) (h : m.find k = none) :
    (Pairs.place k v m).find k = some v := by
  induction m with
  | nil => simp [Pairs.place, Pairs.find]
  | cons p m ih =>
    obtain ⟨a, b⟩ := p
    simp only [Pairs.find] at h
    split at h
    · cases h
    · rename_i hne
      simp only [Pairs.place]
      split
      · simp [Pairs.find]
      · simp [Pairs.find, hne, ih h]

theorem Pairs_find_place_other {β : Type} (m : Pairs β) (k a : Nat) (v : β) (h : a ≠ k) :
    (Pairs.place k v m).find a = m.find a := by
  induction m with
  | nil => simp [Pairs.place, Pairs.find, Ne.symm h]
  | cons p m ih =>
    simp only [Pairs.place]
    split
    · simp [Pairs.find, Ne.symm h]
    · simp [Pairs.find, ih]

/-- A read of the key written gives the value written. -/
@[simp] theorem Pairs_get_set_same {β : Type} [DecidableEq β] (d : Nat → β) (m : Pairs β) (k : Nat) (v : β) :
    Pairs.get d (Pairs.set d m k v) k = v := by
  unfold Pairs.get Pairs.set
  split
  · rename_i h; rw [Pairs_find_drop_same]; simp [h]
  · rw [Pairs_find_place_same _ _ _ (Pairs_find_drop_same m k)]; rfl

/-- A write leaves every other key alone. -/
theorem Pairs_get_set_other {β : Type} [DecidableEq β] (d : Nat → β) (m : Pairs β) (k a : Nat) (v : β) (h : a ≠ k) :
    Pairs.get d (Pairs.set d m k v) a = Pairs.get d m a := by
  unfold Pairs.get Pairs.set
  split
  · rw [Pairs_find_drop_other _ _ _ h]
  · rw [Pairs_find_place_other _ _ _ _ h, Pairs_find_drop_other _ _ _ h]

theorem Pairs_rising_cons {β : Type} (p : Nat × β) (m : Pairs β) :
    Pairs.rising (p :: m) = true ↔ (∀ q ∈ m, p.1 < q.1) ∧ Pairs.rising m = true := by
  induction m generalizing p with
  | nil => simp [Pairs.rising]
  | cons q m ih =>
    simp only [Pairs.rising, Bool.and_eq_true, decide_eq_true_eq, ih, List.mem_cons, forall_eq_or_imp]
    constructor
    · rintro ⟨h, h2, h3⟩; exact ⟨⟨h, fun r hr => Nat.lt_trans h (h2 r hr)⟩, h2, h3⟩
    · rintro ⟨⟨h, _⟩, h2, h3⟩; exact ⟨h, h2, h3⟩

theorem Pairs_rising_drop {β : Type} (m : Pairs β) (k : Nat) (h : m.rising = true) : (m.drop k).rising = true := by
  induction m with
  | nil => rfl
  | cons p m ih =>
    rw [Pairs_rising_cons] at h
    simp only [Pairs.drop]
    split
    · exact ih h.2
    · rw [Pairs_rising_cons]
      exact ⟨fun q hq => h.1 q (Pairs_mem_drop m k q hq).1, ih h.2⟩

theorem Pairs_mem_place {β : Type} (m : Pairs β) (k : Nat) (v : β) (q : Nat × β) (h : q ∈ Pairs.place k v m) :
    q = (k, v) ∨ q ∈ m := by
  induction m with
  | nil => simp [Pairs.place] at h; exact .inl h
  | cons p m ih =>
    simp only [Pairs.place] at h
    split at h
    · simpa using h
    · rcases List.mem_cons.mp h with rfl | h
      · exact .inr (List.mem_cons_self ..)
      · rcases ih h with h | h
        · exact .inl h
        · exact .inr (List.mem_cons_of_mem _ h)

theorem Pairs_rising_place {β : Type} (m : Pairs β) (k : Nat) (v : β) (h : m.rising = true)
    (hk : ∀ q ∈ m, q.1 ≠ k) : (Pairs.place k v m).rising = true := by
  induction m with
  | nil => rfl
  | cons p m ih =>
    simp only [Pairs.place]
    rw [Pairs_rising_cons] at h
    split
    · rename_i hlt
      rw [Pairs_rising_cons, Pairs_rising_cons]
      refine ⟨?_, h⟩
      intro q hq
      rcases List.mem_cons.mp hq with rfl | hq
      · exact hlt
      · exact Nat.lt_trans hlt (h.1 q hq)
    · rename_i hge
      have hne : p.1 ≠ k := hk p (List.mem_cons_self ..)
      rw [Pairs_rising_cons]
      refine ⟨?_, ih h.2 fun q hq => hk q (List.mem_cons_of_mem _ hq)⟩
      intro q hq
      rcases Pairs_mem_place m k v q hq with rfl | hq
      · exact Nat.lt_of_le_of_ne (Nat.le_of_not_lt hge) hne
      · exact h.1 q hq

/-- A write keeps the canonical form of a store. -/
theorem Pairs_wf_set {β : Type} [DecidableEq β] (d : Nat → β) (m : Pairs β) (k : Nat) (v : β)
    (h : Pairs.wf d m = true) : Pairs.wf d (Pairs.set d m k v) = true := by
  simp only [Pairs.wf, Bool.and_eq_true, List.all_eq_true] at h ⊢
  unfold Pairs.set
  split
  · exact ⟨Pairs_rising_drop m k h.1, fun q hq => h.2 q (Pairs_mem_drop m k q hq).1⟩
  · rename_i hv
    refine ⟨Pairs_rising_place _ k v (Pairs_rising_drop m k h.1) ?_, ?_⟩
    · exact fun q hq => (Pairs_mem_drop m k q hq).2
    · intro q hq
      rcases Pairs_mem_place _ k v q hq with rfl | hq
      · simpa using hv
      · exact h.2 q (Pairs_mem_drop m k q hq).1

/-- A byte reads as it was last written. -/
@[simp] theorem Memory_read_write_same (m : Memory) (a : Nat) (b : BitVec 8) : Memory.read (Memory.write m a b) a = b :=
  Pairs_get_set_same ..

/-- A byte write leaves every other byte alone. -/
theorem Memory_read_write_other (m : Memory) (a c : Nat) (b : BitVec 8) (h : c ≠ a) :
    Memory.read (Memory.write m a b) c = Memory.read m c :=
  Pairs_get_set_other _ _ _ _ _ h

/-- A byte write keeps the canonical form. -/
theorem Memory_wf_write (m : Memory) (a : Nat) (b : BitVec 8) (h : Memory.wf m = true) :
    Memory.wf (Memory.write m a b) = true :=
  Pairs_wf_set _ _ _ _ h

/-- A write of several bytes keeps the canonical form. -/
theorem Memory_wf_writeBytes (bs : List Nat) (m : Memory) (a : Nat) (h : Memory.wf m = true) :
    Memory.wf (Memory.writeBytes m a bs) = true := by
  induction bs generalizing m a with
  | nil => exact h
  | cons b bs ih => exact ih _ _ (Memory_wf_write _ _ _ h)

/-- A write of several bytes leaves every byte outside them alone. -/
theorem Memory_read_writeBytes_other (bs : List Nat) (m : Memory) (a c : Nat)
    (h : c < a ∨ a + bs.length ≤ c) : Memory.read (Memory.writeBytes m a bs) c = Memory.read m c := by
  induction bs generalizing m a with
  | nil => rfl
  | cons b bs ih =>
    simp only [List.length_cons] at h
    rw [Memory.writeBytes, ih _ _ (by omega), Memory_read_write_other _ _ _ _ (by omega)]

end Sys2Proof.Laws
end

