-- ==== Sys2Proof/Machine/PinStates.lean ====
section
/-! DEFINITION. The states of the pins (Table 20.6, R229, R500, R606, R628, R629, R632) as functions of the state: what
each pin presents to the board at a ledger cycle of the frame. The pins of the transducers are those of Table 3.9 (Pins). -/

namespace Sys2Proof.Machine

open Sys2Proof

/-- What a pin presents: a state of an XD pin, high impedance, a passive path, a level, an analog switch or drive, or, at a pin that
only receives, whether it is read. -/
inductive PinState where
  | xd (x : XdState)
  | highZ
  | clamp1k               -- 1 kΩ to AGX
  | charging              -- the 5 Ω switch to the 1.8 V sense supply
  | toAgx                 -- the port switch to AGX
  | excited               -- the bridge excitation
  | pull100k              -- 100 kΩ to GND
  | pullDown100k          -- the internal pull-down of DBGC and DBGD
  | pullUp50k             -- the internal pull-up of NRST
  | low
  | high
  | sinking               -- open drain, to ground
  | released              -- open drain, off
  | volts (mv : Int)      -- a display pin driven to a level
  | waveform              -- an LCD waveform
  | pump                  -- the pump reservoir
  | discharged            -- to GND through 10 kΩ
  | stopped
  | oscillating
  | silent                -- at most one unit load
  | slave
  | listening
  | sampled
  | notSampled
  | input
  deriving DecidableEq, Repr

/-- The signals of Table 20.6. -/
inductive Signal where
  | xd (n : Nat)
  | tcap
  | tref
  | ts (n : Nat)
  | bridge
  | hfCrystal
  | lfCrystal
  | segment (n : Nat)
  | common (n : Nat)
  | vep
  | po (n : Nat)
  | fto
  | aca
  | acb
  | lantern
  | syno
  | sdo
  | sirq
  | len
  | ltx
  | pld
  | ple
  | ocxh
  | mbus
  | key
  | tamper (n : Nat)
  | nrst
  | dbgc
  | dbgd
  | input1                -- another input of bank VDDIO1
  | input2                -- another input of bank VDDIO2
  deriving DecidableEq, Repr

/-- The columns of Table 20.6. -/
inductive PinColumn where
  | unpowered
  | reset
  | run
  | wick
  | snuff
  | dark
  | taper
  deriving DecidableEq, Repr

/-- The column that holds (R627): RUN holds in DOZE too, and TAPER wherever a frame is open in that mode but in WICK. DARK
without a supply of BK is unpowered. -/
def State.pinColumn (s : State) : PinColumn :=
  if s.pwr.nrst then .reset
  else match s.pwr.state with
    | .dark => if s.cal.vmain || s.cal.vbat || s.cal.vbkp then .dark else .unpowered
    | .starting => .reset
    | .hold => .reset
    | .snuff => .snuff
    | .wick => .wick
    | .run => if s.mode = .taper then .taper else .run
    | .doze => if s.mode = .taper then .taper else .run

/-- Jobs may run: RUN or DOZE, TAPER included. -/
def PinColumn.awake (c : PinColumn) : Bool := decide (c = .run) || decide (c = .taper)

/-- The column in which AO has no power. -/
def PinColumn.off (c : PinColumn) : Bool := decide (c = .unpowered) || decide (c = .dark)

/-- The supply of a bank is present: 0 VDDIO1, 1 VDDIO2. -/
def State.bankUp (bank : Nat) (s : State) : Bool := s.pwr.vddio.getD bank false

/-- VMAIN or VBAT is present (R628). -/
def State.mainSupply (s : State) : Bool := s.cal.vmain || s.cal.vbat

/-- A push-pull level. -/
def PinState.level (x : Bool) : PinState := if x then .high else .low

/-- An output with a 100 kΩ path: driven while its bank has its supply, else on the path (R628). -/
def State.drivenOr (bank : Nat) (x : Bool) (s : State) : PinState :=
  if s.pinColumn.off || !s.bankUp bank then .pull100k else .level x

/-- An output without such a path: high-impedance where its bank has no supply (R606). -/
def State.drivenZ (bank : Nat) (x : PinState) (s : State) : PinState :=
  if s.pinColumn.off || !s.bankUp bank then .highZ else x

/-- Ledger cycles of the discharge under way up to a time of the frame; none where none is under way. -/
def State.dischargeAt (cyc : Nat) (s : State) : Option (Option Nat × Nat) :=
  if s.pinColumn = .run then s.sen.job.map fun j => (j.current, cyc - j.since) else none

/-- TCAP (Table 7.2): charged for 8 µs, then open but for the port switch; at AGX through 1 kΩ outside a discharge (R229). -/
def State.tcapPin (cyc : Nat) (s : State) : PinState :=
  match s.dischargeAt cyc with
  | none => .clamp1k
  | some (_, t) => if t < us 8 / 125 then .charging else .highZ

/-- TREF, or TS n: its port switch closes 10 µs after the discharge began (Table 7.2, R229). -/
def State.sensorPin (port : Option Nat) (cyc : Nat) (s : State) : PinState :=
  match s.dischargeAt cyc with
  | some (p, t) => if p = port ∧ us 10 / 125 ≤ t then .toAgx else .highZ
  | none => .highZ

/-- The HF crystal (Table 20.6): it runs with TM, and under CLOCK_SELECT 1 in WICK too; under CLOCK_SELECT 2 there is none
outside TAPER (R205). -/
def State.hfPin (s : State) : PinState :=
  match s.pinColumn with
  | .unpowered => .highZ
  | .reset => if s.clk.hfxReady then .oscillating else .stopped
  | .wick => if s.on_ 0x0400 1 = 1 then .oscillating else .stopped
  | .run => if (s.pwr.dom 2).on && s.on_ 0x0400 1 != 2 then .oscillating else .stopped
  | .taper => if (s.pwr.dom 2).on then .oscillating else .stopped
  | .snuff => .stopped
  | .dark => .stopped

/-- The panel is driven at all (Table 16.2). -/
def State.panelOn (s : State) : Bool :=
  s.dispMode != 0 && (s.pinColumn.awake || decide (s.pinColumn = .wick))

/-- DS n (Table 16.2). -/
def State.segmentPin (n : Nat) (s : State) : PinState :=
  if !s.panelOn then .pull100k
  else if s.dispMode = 2 then .waveform
  else if s.disp.waving.isEmpty then .volts 0
  else match natAt s.disp.driven n with
    | 1 => .volts 15000
    | 2 => .volts (-15000)
    | _ => .volts 0

/-- DC n (Table 16.2): under LCD the commons in use carry waveforms, the others 0 V. -/
def State.commonPin (n : Nat) (s : State) : PinState :=
  if !s.panelOn then .pull100k
  else if s.dispMode = 2 ∧ (n < 4 ∨ bitAt (s.on_ 0x1A00 1) 2 = true) then .waveform
  else .volts 0

/-- VEP and VEN (Table 16.2). -/
def State.vepPin (s : State) : PinState :=
  if s.panelOn && s.dispMode == 1 && (s.pwr.dom 5).on && s.disp.pumping then .pump else .discharged

/-- PO n (R320): it sinks during a pulse, or while its direction level is active. -/
def State.poPin (n : Nat) (s : State) : PinState :=
  let o := s.qty.outs.getD n PulseOut.reset
  if s.pinColumn.off || decide (s.pinColumn = .reset) then .released
  else if o.high || o.dirLevel then .sinking else .released

/-- A link or supply output at its level in RUN and WICK, low elsewhere. -/
def State.inFrame (x : Bool) (s : State) : Bool := x && (s.pinColumn.awake || decide (s.pinColumn = .wick))

/-- The state of a pin at a ledger cycle of the frame (R627). IO-Link and SPI transmissions are parts of commands, so that between
commands LEN and LTX are low and SDO is high-impedance; the 1 µs for which a reset first drives SYNO inactive (R629) is part
of the reset. -/
def State.pin (p : Signal) (cyc : Nat) (s : State) : PinState :=
  let c := s.pinColumn
  match p with
  | .xd n => .xd (s.xdPin n (500 * cyc))
  | .tcap => s.tcapPin cyc
  | .tref => s.sensorPin none cyc
  | .ts n => s.sensorPin (some n) cyc
  | .bridge => if c = .run ∧ s.sen.exciting = true then .excited else .highZ
  | .hfCrystal => s.hfPin
  | .lfCrystal => if c = .unpowered then .stopped else .oscillating
  | .segment n => s.segmentPin n
  | .common n => s.commonPin n
  | .vep => s.vepPin
  | .po n => s.poPin n
  | .fto => s.drivenOr 1 (decide (c = .run) && s.ftoActive && s.qty.fto.high)
  | .aca => s.drivenOr 1 (decide (c = .run) && s.bill.drive.1)
  | .acb => s.drivenOr 1 (decide (c = .run) && s.bill.drive.2)
  | .lantern => s.drivenZ 0 (.level (s.inFrame s.frame.lantern))
  | .syno =>
    if c = .reset then .highZ
    else s.drivenZ 0 (.level (if c = .snuff then bitAt (s.on_ 0x0301 7) 7 else s.synoLevel))
  | .sdo => .highZ
  | .sirq => if c = .reset then .highZ else s.drivenZ 0 (.level (!(s.inFrame s.q.sirq)))
  | .len => s.drivenOr 0 false
  | .ltx => s.drivenOr 0 false
  | .pld => s.drivenOr 1 (s.inFrame (s.plOn && s.pld cyc))
  | .ple => s.drivenOr 1 (s.inFrame (s.plOn && s.plEnable cyc))
  | .ocxh => s.drivenOr 1 ((decide (c = .run) || decide (c = .wick)) && s.on_ 0x0400 1 == 1 && decide (s.mode ≠ .taper))
  | .mbus => if c.off || decide (c = .reset) then .silent else if c = .snuff then .listening else .slave
  | .key => if c = .unpowered then .highZ else if c = .dark then .notSampled else .sampled
  | .tamper _ => if c = .unpowered then .highZ else .sampled
  | .nrst => if s.mainSupply && s.bankUp 0 then .pullUp50k else .highZ
  | .dbgc => if s.mainSupply then .pullDown100k else .highZ
  | .dbgd => if s.mainSupply && !(s.acc.sealed || decide (s.mode = .taper)) then .pullDown100k else .highZ
  | .input1 => if c.off || !s.bankUp 0 then .highZ else .input
  | .input2 => if c.off || !s.bankUp 1 then .highZ else .input

end Sys2Proof.Machine
end

