-- ==== Sys2Proof/WellFormed.lean ====
section
/-! DEFINITION. Which commands can come from outside: every operand is a value that its wire, field or measurement can
carry. -/

namespace Sys2Proof

/-- A list of bytes. -/
def byteList (l : List Nat) : Bool := l.all fun x => decide (x < 256)

/-- A list of words. -/
def wordList (l : List Nat) : Bool := l.all fun x => decide (x < 2 ^ 32)

/-- A calibration is of one of the 19 inputs of the TDC. -/
def CalReading.ok (c : CalReading) : Bool := decide (c.input < 19)

/-- A stop of the gate timebase has a 40-bit coarse count (R181). -/
def stopOk (x : Nat × Nat) : Bool := decide (x.1 < 2 ^ 40)

/-- A difference in a commit record: an offset in it, and the bits of the byte there that differ. -/
def diffOk (x : Nat × Nat) : Bool := decide (x.1 < 2048) && decide (0 < x.2) && decide (x.2 < 256)

/-- The stops of a gate reading are those of the gate timebase. -/
def GateReading.ok (g : GateReading) : Bool := g.cal.ok && g.stops.all stopOk

/-- A sample has 12 bits. -/
def sampleOk (x : Int) : Bool := decide (-2048 ≤ x) && decide (x ≤ 2047)

/-- Slots are of a block with slot accounting; those of the sequencers' jobs are accounted for by the jobs (R589). -/
def SlotUse.ok (u : SlotUse) : Bool :=
  decide (2 ≤ u.block) && decide (u.block ≤ 4) && decide (u.cls < 3) && decide (u.priv < 3) &&
    (u.block == 4 || (u.retired == 0 && u.wasted == 0))

/-- Program counter and register values have 32 bits, register numbers 12. -/
def CoreAt.ok (a : CoreAt) : Bool :=
  decide (a.pc < 2 ^ 32) && a.csrs.all fun x => decide (x.1 < 4096) && decide (x.2 < 2 ^ 32)

/-- An occurrence is of one of the six blocks, with fields of the widths of Table 18.2; issue slots come apart (R591). -/
def Act.ok (a : Act) : Bool :=
  decide (a.block < 6) && decide (a.event < 256) && !(decide (0x30 ≤ a.event) && decide (a.event ≤ 0x35)) && decide (a.cls < 3) && decide (a.priv < 3) && decide (a.master < 5)

/-- The figures of a frame are occurrences and slots that can be. -/
def FrameFigures.ok (f : FrameFigures) : Bool := f.acts.all Act.ok && f.slots.all SlotUse.ok

/-- Damage is in one of the two banks. -/
def StartFound.ok (x : StartFound) : Bool := x.damage.all fun y => decide (y.1 < 2) && diffOk y.2

/-- The stop on input 18 is one of the gate timebase. -/
def CrossingMeas.ok (m : CrossingMeas) : Bool := (m.input18.map stopOk).getD true

/-- A powerline session has one of 24 places. -/
def Via.ok : Via → Bool
  | .powerline n => decide (n < 24)
  | _ => true

/-- An envelope's fields have their widths. -/
def Carrier.ok : Carrier → Bool
  | .plain => true
  | .auth role counter mac => decide (role < 256) && decide (counter < 2 ^ 32) && decide (mac.length = 8) && byteList mac
  | .enveloped role counter mac => decide (role < 256) && decide (counter < 2 ^ 32) && decide (mac.length = 8) && byteList mac

/-- A sender's fields have their widths. -/
def Sender.ok (p : Sender) : Bool := p.via.ok && decide (p.gen < 16) && decide (p.id < 65536) && p.carrier.ok

/-- The operands of a command are ones that can come from outside. -/
def Instr.wellFormed : Instr → Bool
  | .frameBoundary gate _ _ _ figures edge => gate.all stopOk && figures.ok && edge.all Act.ok
  | .synoPulseEnd => true
  | .commitComplete diff => diff.all diffOk
  | .billingSnapshotWrite => true
  | .shotGroupStart group _ _ _ cals => decide (group < 128) && cals.all CalReading.ok
  | .vhdRecovered group _ => decide (group < 128)
  | .heldShotGivenUp group _ => decide (group < 128)
  | .reverseTransmission ctx _ _ => decide (ctx < 64)
  | .windowClose ctx _ _ samples _ => decide (ctx < 64) && samples.all sampleOk
  | .tdcCountWrap ctx _ _ _ _ => decide (ctx < 64)
  | .tdcStopTimeout ctx _ _ _ => decide (ctx < 64)
  | .retrySlotStart group _ _ cals => decide (group < 64) && cals.all CalReading.ok
  | .correlationComplete ctx _ _ => decide (ctx < 64)
  | .acquisitionSearchComplete ctx _ => decide (ctx < 64)
  | .waveformCopyComplete ctx _ _ => decide (ctx < 64)
  | .flowComputationComplete _ => true
  | .sensorJobStart _ cal => cal.ok
  | .dischargeStop _ _ _ => true
  | .dischargeStopLimit _ _ _ => true
  | .pressureConversionStart _ => true
  | .pressureConversionComplete _ _ _ => true
  | .internalTempConversion _ _ => true
  | .pllLockLost _ _ cal => cal.ok
  | .tmInputCalibration gate => gate.ok
  | .wickEntryComplete _ wake => (wake.map fun e => decide (e < 64)).getD true
  | .wickExit _ => true
  | .domainReady domain _ _ => decide (domain < 6)
  | .regulatorTimeout domain _ commit final => decide (domain < 6) && commit.all diffOk && final.all diffOk
  | .hfCrystalReady _ _ => true
  | .crystalReadyTimeout _ => true
  | .crystalRetry => true
  | .ocxoGateEnd _ _ _ => true
  | .ocxoEdgeLost _ => true
  | .lfCrystalStopped => true
  | .syncReferenceEvent _ => true
  | .calendarSecond => true
  | .trimWindowStart => true
  | .tamperSample _ _ _ => true
  | .keyPress => true
  | .keyRelease ms => decide (ms < 2 ^ 32)
  | .actKeyHoldExpiry => true
  | .backupSwitchover _ _ _ => true
  | .vmainRise _ _ => true
  | .bkRetentionTrip => true
  | .brownout _ supply vcap commit => decide (1 ≤ supply) && decide (supply ≤ 2) && decide (vcap < 2 ^ 32) && commit.all diffOk
  | .finalCommitComplete diff => diff.all diffOk
  | .brownoutHoldRecovery => true
  | .vcapHoldLost => true
  | .nrstAssert _ commit final => commit.all diffOk && final.all diffOk
  | .nrstRelease => true
  | .testmRelease => true
  | .backoffExpiry => true
  | .startSequence _ found => found.ok
  | .startRegulatorTimeout => true
  | .openingBoundary => true
  | .accumulationStartTimeout => true
  | .microcodeAckTimeout => true
  | .snuffWake _ => true
  | .iolWake => true
  | .spiScsWake => true
  | .mbusStartBitWake => true
  | .eventDelivery _ => true
  | .eventLogWrite => true
  | .odRead via gen id index sub => via.ok && decide (gen < 16) && decide (id < 65536) && decide (index < 65536) && decide (sub < 256)
  | .odWrite via gen id index sub data => via.ok && decide (gen < 16) && decide (id < 65536) && decide (index < 65536) && decide (sub < 256) && byteList data
  | .odWriteAuth via gen id index sub data => via.ok && decide (gen < 16) && decide (id < 65536) && decide (index < 65536) && decide (sub < 256) && byteList data
  | .authEnvelope via gen id data => via.ok && decide (gen < 16) && decide (id < 65536) && byteList data
  | .authLockoutExpiry role => decide (1 ≤ role) && decide (role ≤ 3)
  | .hello _ payload => wordList payload
  | .helloExchange via gen id data => via.ok && decide (gen < 16) && decide (id < 65536) && byteList data
  | .modeConfig by_ => by_.ok
  | .modeMeasure by_ => by_.ok
  | .modeVerify by_ => by_.ok
  | .sealSet by_ => by_.ok
  | .sealClear by_ => by_.ok
  | .factoryLock by_ => by_.ok
  | .qtyClear by_ => by_.ok
  | .taperExit by_ => by_.ok
  | .powerCommandReset by_ => by_.ok
  | .powerCommandSnuff by_ => by_.ok
  | .residencyClear by_ => by_.ok
  | .calSet by_ datetime => by_.ok && decide (datetime < 2 ^ 64)
  | .dstCommand by_ value => by_.ok && decide (value < 256)
  | .tamperClear by_ mask => by_.ok && decide (mask < 256)
  | .passiveActivateAt by_ seconds => by_.ok && decide (seconds < 2 ^ 48)
  | .billingCloseNow by_ => by_.ok
  | .creditTopup by_ topup _ => by_.ok && decide (topup < 2 ^ 32)
  | .actDisconnect by_ => by_.ok
  | .actArm by_ => by_.ok
  | .actConnect by_ => by_.ok
  | .actClearFault by_ => by_.ok
  | .actuatorEndReached _ => true
  | .actuatorDone _ => true
  | .actuatorFault _ _ _ => true
  | .actuatorReverseEnd _ => true
  | .actuatorPauseEnd _ => true
  | .zeroCaptureStart by_ ctx pairs => by_.ok && decide (ctx < 64) && decide (pairs < 65536)
  | .zeroCaptureStop by_ ctx => by_.ok && decide (ctx < 64)
  | .templateCaptureStart by_ ctx pairs anchor => by_.ok && decide (ctx < 64) && decide (1 ≤ pairs) && decide (pairs ≤ 1023) && decide (anchor < 512)
  | .templateCaptureStop by_ ctx => by_.ok && decide (ctx < 64)
  | .ctxStageSet by_ ctx low => by_.ok && decide (ctx < 64) && decide (low < 4)
  | .ctxStageApply by_ ctx low => by_.ok && decide (ctx < 64) && decide (low < 4)
  | .perfSelWrite by_ block counter value => by_.ok && decide (block < 6) && decide (counter < 8) && decide (value < 2 ^ 32)
  | .perfOvfClear by_ mask => by_.ok && decide (mask < 2 ^ 48)
  | .perfOverflow block counter => decide (block < 6) && decide (counter < 8)
  | .fwCommandVerify by_ => by_.ok
  | .fwCommandLoader by_ => by_.ok
  | .fwBlock by_ offset data => by_.ok && decide (offset < 2 ^ 32) && decide (data.length = 256) && byteList data
  | .fwMinVersion by_ version => by_.ok && decide (version < 2 ^ 32)
  | .keyChange by_ role wrapped => by_.ok && decide (1 ≤ role) && decide (role ≤ 2) && decide (wrapped.length = 24) && byteList wrapped
  | .bootKeyHash by_ hash => by_.ok && decide (hash.length = 32) && byteList hash
  | .mailboxIn by_ data => by_.ok && decide (data.length = 32) && byteList data
  | .bootVerifyComplete => true
  | .wfi mie => decide (mie < 2 ^ 32)
  | .mtimecmpMatch => true
  | .msipWrite value => decide (value < 2 ^ 32)
  | .claim => true
  | .localAck value => decide (value < 2 ^ 32)
  | .wdtKick value => decide (value < 2 ^ 32)
  | .coreWatchdog pc => decide (pc < 2 ^ 32)
  | .reservationSpent => true
  | .reqGo value => decide (value < 2 ^ 32)
  | .customerRequestHeld => true
  | .custDone value => decide (value < 2 ^ 32)
  | .custTimeout => true
  | .mailboxTaken => true
  | .mailbox => true
  | .inDataPop => true
  | .outSubmit value => decide (value < 2 ^ 32)
  | .firewallAccessFault addr master access core => decide (addr < 2 ^ 32) && decide (master < 5) && decide (access < 3) && core.ok
  | .countLoRead master off _ => decide (master < 5) && decide (off < 4096)
  | .spiStatus pre => decide (pre.length ≤ 8) && byteList pre
  | .spiWrite pre words => decide (pre.length ≤ 8) && byteList pre && wordList words
  | .spiRead pre clocked => decide (pre.length ≤ 8) && byteList pre && decide (clocked < 4096)
  | .iolMSequence _ _ command pdOut _ => decide (command < 4) && byteList pdOut.1
  | .iolIsdu _ index sub data => decide (index < 65536) && decide (sub < 256) && byteList data
  | .paramUploadStart => true
  | .paramUploadEnd => true
  | .paramDownloadStart => true
  | .paramDownloadEnd => true
  | .paramDownloadStore => true
  | .paramBreak => true
  | .iolFallback => true
  | .iolSessionTimeout => true
  | .sndNke addr => decide (addr < 256)
  | .reqUd2 addr _ => decide (addr < 256)
  | .reqUd1 addr _ => decide (addr < 256)
  | .mbusSetPrimaryAddress addr value _ => decide (addr < 256) && decide (value < 256)
  | .mbusDictionaryRequest addr _ op id index sub data => decide (addr < 256) && decide (op < 256) && decide (id < 65536) && decide (index < 65536) && decide (sub < 256) && byteList data
  | .mbusSelection _ id manufacturer version medium => decide (id < 2 ^ 32) && decide (manufacturer < 65536) && decide (version < 256) && decide (medium < 256)
  | .mbusApplicationReset addr _ => decide (addr < 256)
  | .mbusBaudChange addr ci _ => decide (addr < 256) && decide (0xB8 ≤ ci) && decide (ci ≤ 0xBD)
  | .mbusFrameIgnored _ addr c ci => decide (addr < 256) && decide (c < 256) && decide (ci < 256)
  | .mbusSessionIdle => true
  | .mbusBaudRevert => true
  | .plZeroCrossing _ _ meas => meas.ok
  | .plCrossingMissed => true
  | .plFrame _ => true
  | .plPollStatus => true
  | .plPollRead => true
  | .plPollReadNext => true
  | .plPollWrite => true
  | .plPollWriteMore => true
  | .plReplyDeadline => true
  | .plReplyReceived => true
  | .plPollTimeout => true
  | .plCycleStart => true
  | .plMasterRequest by_ data => by_.ok && decide (data.length = 26) && byteList data
  | .plWakePattern => true
  | .plSessionIdle session => decide (session < 24)
  | .plTransmissionEnd => true
  | .dispUpdate by_ regions => by_.ok && decide (regions < 65536)
  | .displayUpdateAdmitted region _ => decide (region < 16)
  | .pumpBurst region _ => decide (region < 16)
  | .waveformStart region _ => decide (region < 16)
  | .drivenPhase _ _ => true
  | .displayDone region => decide (region < 16)
  | .lcdFrameStart _ => true
  | .pulseStart output _ => decide (output < 8)
  | .pulseEnd output _ => decide (output < 8)
  | .ftoPulse _ => true
  | .aoPowerUp => true
  | .plTransmitPulse _ => true
  | .ftoPulseEnd _ => true
  | .vsdPumpSettled _ => true
  | .debugCommand op addr width value => decide (op < 6) && decide (addr < 2 ^ 32) && (width == 1 || width == 2 || width == 4) && decide (value < 2 ^ 32)
  | .coreMemoryWrite addr width value _ _ core => decide (addr < 2 ^ 32) && (width == 1 || width == 2 || width == 4) && decide (value < 2 ^ 32) && core.ok

end Sys2Proof
end

