-- ==== Sys2Proof/Tests/Slice0.lean ====
section
/-! SUPPORT. Tests of the model: an ill-formed term for each check of WellFormed, the worked examples of the spec, and for each
statement a state and operands that meet its hypotheses. -/

set_option Elab.async false

namespace Sys2Proof.Tests

open Sys2Proof Sys2Proof.Machine Sys2Proof.Laws

/-! ### States -/

/-- The six domains on and ready. -/
def allOn : List Domain := List.replicate 6 { on := true, ready := true, retried := false, since := 0 }

/-- The device in RUN in MEASURE, a frame open and past its commit slot. -/
def running : State := { State.reset with
  mode := .measure
  pwr := { State.reset.pwr with state := .run, doms := allOn }
  frame := { State.reset.frame with running := true, length := 32768, number := 8, cyc := 5000, lantern := true }
  q := { State.reset.q with gens := [0, 1, 1, 1] } }

/-- A setting written and in force. -/
def withSet (index sub v : Nat) (s : State) : State := { s with set := s.set.write (key index sub) v }

/-- The same in the commit slot. -/
def inSlot (s : State) : State := { s with frame := { s.frame with committing := true } }

/-- The next state a command answers. -/
def after (c : Instr) (s : State) : State :=
  match exec c s with
  | .next t => t
  | _ => s

/-- The device that has been through the start sequence. -/
def started : State := after (.startSequence false ⟨false, []⟩) State.reset

/-- The device in the commit slot of its first frame. -/
def opened : State := after .openingBoundary started
/-! ### Hypotheses: frames, events and snapshots -/

theorem hyp_Queue : ({ running with pending := [.claim, .mailbox] } : State).pending = .claim :: [.mailbox] := rfl

theorem hyp_IdleStep : State.reset.pending = [] ∧ State.reset.frame.running = false ∧ State.reset.pwr.state = .starting ∧
    State.reset.frame.tick ≤ State.reset.frame.done ∧ State.reset.cal.prescaler + State.reset.cal.owed + 2 < 32768 ∧
    State.reset.cal.window + 1 < 8388608 ∧ State.reset.cal.trim.natAbs ≤ 8388608 := by decide +kernel

theorem hyp_FrameBoundary : running.frame.running = true ∧ running.frame.committing = false := by decide +kernel

theorem hyp_CommitComplete : opened.frame.running = true ∧ opened.frame.committing = true ∧ opened.pwr.taperExit = false ∧
    opened.pwr.command = 0 ∧ opened.acc.waiting = [] ∧ opened.q.spiIn = [] ∧ opened.qty.writing.isSome = true := by decide +kernel

/-- SYNI is the source, four events to a frame. -/
def synced : State := withSet 0x0301 1 1 (withSet 0x0301 2 4 running)

theorem hyp_SyncFirst : synced.frame.running = true ∧ synced.syncSource = 1 ∧
    synced.syncEventAt (synced.frame.base + 8 * 6000) = some 48000 ∧ 0 < synced.period ∧ 0 < synced.syncEvents ∧
    synced.sync.started = false ∧ running.syncEventAt 48000 = none := by decide +kernel

/-- The index has been started at the boundary. -/
def syncRuns : State := { synced with sync := { synced.sync with started := true } }

theorem hyp_SyncAccepted : syncRuns.sync.started = true ∧ syncRuns.syncEventAt (syncRuns.frame.base + 8 * 8000000) = some 64000000 ∧
    (64000000 : Rat) = (if syncRuns.sync.intervals.length < syncRuns.syncEvents
      then (syncRuns.period * 15625 : Rat) / (syncRuns.syncEvents : Rat)
      else (syncRuns.sync.intervals.take syncRuns.syncEvents).foldl (· + ·) 0 / (syncRuns.syncEvents : Rat)) ∧
    |((64000000 : Nat) : Rat) - (syncRuns.sync.last : Rat) - ((1 : Nat) : Rat) * 64000000| ≤ 64000000 / 50 := by decide +kernel

theorem hyp_SyncRejected (n : Nat) (hn : 1 ≤ n) :
    (64000000 : Rat) / 50 < |((32000000 : Nat) : Rat) - (syncRuns.sync.last : Rat) - (n : Rat) * 64000000| := by
  have h : (1 : Rat) ≤ n := by exact_mod_cast hn
  have e : (((32000000 : Nat) : Rat) - (syncRuns.sync.last : Rat)) = 32000000 := by decide +kernel
  rw [e, abs_of_neg (by linarith)]
  linarith

/-- Raised for the log, the event 37. -/
def pend37 : Pend :=
  { dest := .log, ev := 37, count := 3, code := 9, arg := 5, src := 1, cls := 2, latched := false, offered := false, frame := 8, tick := 1, at_ := 0,
    seconds := 0 }

theorem hyp_Coalesces : (∃ p ∈ [pend37], p.dest = Dest.log ∧ p.ev = 37) ∧ (∀ p ∈ [pend37], ¬(p.dest = Dest.core ∧ p.ev = 37)) ∧
    pend37.latched = false ∧ pend37.ev < 64 ∧ pend37.count < 256 ∧ pend37.code < 65536 ∧ pend37.frame < 2 ^ 48 ∧ pend37.tick < 2 ^ 20 ∧
    pend37.arg < 2 ^ 32 := by decide +kernel

/-- An occurrence of each destination waits. -/
def pendings : State :=
  { running with events := [Dest.core, .host, .log, .iol, .mbus, .pl].map fun d => { pend37 with dest := d } }

theorem hyp_EventDelivery : ∀ d ∈ [Dest.core, .host, .log, .iol, .mbus, .pl],
    pendings.nextFor d = some { pend37 with dest := d } ∧ pendings.hasRoom d = true ∧ pendings.core.wfi = none := by decide +kernel

/-- The log has an entry due. -/
def logDue : State := { running with log := { running.log with due := [pend37] } }

theorem hyp_EventLogWrite : logDue.log.due = pend37 :: [] ∧ logDue.frame.committing = false ∧ logDue.ceUp = true := by decide +kernel

/-- Two snapshots of thirty are to be written, their commit complete. -/
def snapping : State :=
  { running with
    qty := { running.qty with banks := [opened.qty.writing.map fun c => { c with bill := { c.bill with seqNext := 30 } }, none] },
    bill := { running.bill with group := some { first := 28, count := 2, flags := 0 }, groupDue := true } }

theorem hyp_Snapshots : snapping.bill.group = some { first := 28, count := 2, flags := 0 } ∧ snapping.bill.groupDue = true ∧
    snapping.bill.slots.length = 24 ∧ (snapping.qty.latest.any fun q => decide ((snapping.bill.executed q.2).bill.seqNext < 2 ^ 32) &&
      decide (24 ≤ (snapping.bill.executed q.2).bill.seqNext)) = true := by decide +kernel
/-! ### Hypotheses: shots and measurements -/

/-- A shot of group 3 with context 3 alone. -/
def shot3 (kind : Nat) : Planned :=
  { group := 3, kind := kind, members := [3], start := 1000000, latest := 2000000, length := 1000 }

/-- A context changed. -/
def withCtx (n : Nat) (f : Ctx → Ctx) (s : State) : State := { s with ac := { s.ac with ctx := modAt s.ac.ctx n f } }

/-- The frame has planned a shot. -/
def planning (kind : Nat) : State := { running with frame := { running.frame with planned := [shot3 kind] } }

theorem hyp_FirstShot : (planning 0).measuring = true ∧ (planning 0).plannedFor 3 .first = some (shot3 0) ∧
    (planning 0).plannedFor 4 .first = none ∧
    (((planning 0).atCyc 9000).concerned (shot3 0)) = [3] ∧ vhdThreshold ((planning 0).atCyc 9000).eff [3] = 0 ∧
    ((planning 0).atCyc 9000).ac.ctx.length = 64 ∧ [3].count 3 = 1 := by decide +kernel

/-- Its context is a high-drive one. -/
theorem hyp_ShotHeld : (withSet 0x0903 2 0x0100 (planning 0)).plannedFor 3 .first = some (shot3 0) ∧
    ((withSet 0x0903 2 0x0100 (planning 0)).concerned (shot3 0)) ≠ [] ∧
    3000 ≤ vhdThreshold (withSet 0x0903 2 0x0100 (planning 0)).eff [3] := by decide +kernel

/-- The plan has one row, group 3 with context 3 and one reserved retry. -/
def withPlan (s : State) : State := withSet 0x0310 1 0x10000D03 (withSet 0x0903 1 1 s)

/-- An acquisition shot is planned; context 3 asks for a search. -/
def acquiring : State := withPlan (planning 4)

theorem hyp_AcquisitionShot : acquiring.measuring = true ∧ acquiring.plannedFor 3 .acquisition = some (shot3 4) ∧
    acquiring.concerned (shot3 4) = [3] := by decide +kernel

/-- An attempt that has fired in both directions. -/
def attempt : Attempt :=
  { number := 0, start := 5000, dynamic := false, acquisition := false, slots := 0, up := { DirRun.blank with fired := true },
    dn := { DirRun.blank with fired := true }, decided := false, valid := false, reason := 0, value := 0, hasDt := false, dt := 0 }

/-- A retry of context 3 is planned, its first attempt has failed by amplitude. -/
def retrying : State :=
  withCtx 3 (fun c => { c with attempts := 1, acqRequested := false,
                               current := some { attempt with up := { attempt.up with reason := 2 } } }) (withPlan (planning 1))

theorem hyp_Retry : retrying.frame.planned.find? (fun q => q.group == 3 && decide (1 ≤ q.kind) && decide (q.kind ≤ 3)) = some (shot3 1) ∧
    retrying.concerned (shot3 1) = [3] ∧ running.frame.planned = [] ∧
    (withCtx 3 (fun c => { c with result := some attempt }) retrying).concerned (shot3 1) = [] := by decide +kernel

/-- A shot of group 3 is held. -/
def flight3 : Flight := { group := 3, kind := 0, members := [3], start := 5000, held := true, latest := 9000 }

/-- The same in the state. -/
def holding : State := { running with ac := { running.ac with flight := [flight3] } }

theorem hyp_HeldShot : holding.heldFlight 3 = some flight3 ∧ holding.heldFlight 4 = none ∧ (holding.atCyc 6000).ac.ctx.length = 64 ∧
    flight3.members.count 3 = 1 ∧ (holding.atCyc 6000).frame.planned = [] ∧ (holding.atCyc 6000).frame.waiting = [] ∧
    (holding.atCyc 6000).frame.nowQ + costGroup (holding.atCyc 6000).eff flight3.members ≤ (holding.atCyc 6000).limit + 48000 ∧
    (holding.atCyc 64000000).limit + 48000 < (holding.atCyc 64000000).frame.nowQ + costGroup (holding.atCyc 64000000).eff flight3.members ∧
    flight3.kind ≠ 4 ∧ ({ flight3 with kind := 4 } : Flight).kind = 4 := by decide +kernel

/-- Context 3 is sequential, its down direction has fired. -/
def reversing : State := withCtx 3 (fun c => { c with current := some { attempt with up := DirRun.blank } }) (withSet 0x0903 1 3 running)

theorem hyp_Reverse : ctxSequential reversing.eff 3 = true ∧ ctxSequential running.eff 3 = false ∧
    ({ attempt with up := DirRun.blank } : Attempt).dn.fired = true ∧ ({ attempt with up := DirRun.blank } : Attempt).up.fired = false ∧
    (reversing.ac.ctx[3]?.any fun c => decide (c.acq = none) && decide (c.current = some { attempt with up := DirRun.blank })) = true ∧
    cycOf32 (reverseAt reversing.eff 3 DirRun.blank.at_) ≤ 10 ^ 9 ∧ 0 < cycOf32 (reverseAt reversing.eff 3 attempt.dn.at_) ∧
    (running.pwr.dom 0).on = true ∧ (State.reset.pwr.dom 0).on = false := by decide +kernel

/-- Attempts of context 3 are under way, one of an acquisition. -/
def flying : State := withCtx 3 (fun c => { c with current := some attempt, acq := some { attempt with acquisition := true } })
  (withSet 0x0903 8 10000 running)

theorem hyp_WindowClose : (flying.ac.ctxAt 3).attempt true = some { attempt with acquisition := true } ∧
    (flying.ac.ctxAt 3).attempt false = some attempt ∧ (attempt.dir true).fired = true ∧ (attempt.dir true).closed = false ∧
    (attempt.dir true).missing = false ∧ flying.ac.ctx.length = 64 ∧ ctxWs flying.eff 3 + ctxWl flying.eff 3 ≤ 65535 := by
  decide +kernel

/-- The window of context 3 is a long one. -/
def longWindow : State := withSet 0x0903 8 72000 flying

theorem hyp_Timeout : (longWindow.ac.ctxAt 3).attempt false = some attempt ∧
    65535 < ctxWs longWindow.eff 3 + ctxWl longWindow.eff 3 := by decide +kernel

/-- A calibration of an input, a count of 512 between its readings. -/
def cal (input : Nat) : CalReading := { input := input, r1 := 100, r2 := 612, again := none }

theorem hyp_InputCalibration : (cal 17).input = 17 ∧ (cal 18).input = 18 ∧ (cal 3).input ≠ 17 ∧ (cal 3).input ≠ 18 ∧
    (cal 17).r1 + 448 ≤ (cal 17).r2 ∧ (cal 17).r2 ≤ (cal 17).r1 + 576 := by decide

/-- Both windows of the attempts are closed. -/
def closed3 : State :=
  let a := { attempt with up := { attempt.up with closed := true }, dn := { attempt.dn with closed := true } }
  let s := withCtx 3 (fun c => { c with current := some a, acq := some { a with acquisition := true } }) running
  { s with ac := { s.ac with waves := [{ ctx := 3, up := true, dir := DirRun.blank, samples := [] }] } }

theorem hyp_SearchesAndCopies : closed3.ac.ctx.length = 64 ∧ (∃ w ∈ closed3.ac.waves, w.ctx = 3 ∧ w.up = true) ∧
    (∀ w ∈ closed3.ac.waves, w.ctx ≠ 4 ∨ w.up ≠ true) ∧ (closed3.ac.ctxAt 4).current = none ∧
    ((closed3.ac.ctxAt 3).current.any fun a => (a.dir true).closed && !(a.dir true).correlated && (a.dir true).reason == 0) = true ∧
    ((closed3.ac.ctxAt 3).acq.any fun a => a.up.closed && a.dn.closed) = true := by decide +kernel
/-! ### Hypotheses: sensors, clocks and the calendar -/

/-- A row of the plan asks for temperature sensors. -/
def sensing : State := { running with sen := { running.sen with rows := [3, 4] } }

theorem hyp_SensorJob : sensing.measuring = true ∧ sensing.sen.job = none ∧ sensing.sen.rows = 3 :: [4] ∧ running.sen.rows = [] ∧
    (cal 16).r1 + 448 ≤ (cal 16).r2 ∧ (cal 16).r2 ≤ (cal 16).r1 + 576 := by decide +kernel

/-- A job at its reference. -/
def job : SensorJob :=
  { start := 5000, row := 0, current := none, left := [1], r1 := 100, r2 := 612, faulty := false, tref := 0, refCode := 0, since := 5000 }

/-- The job is under way. -/
def timing (j : SensorJob) : State := { running with sen := { running.sen with job := some j } }

theorem hyp_DischargeStop : stopTaken (stopLimit (timing job).eff job.current) 100000 = true ∧
    stopTaken (stopLimit (timing job).eff job.current) 1000000000 = false ∧
    131072 ≤ stampTime job.r1 job.r2 (100000, 6) ∧ job.current = none ∧ job.left = 1 :: [] ∧ job.faulty = false ∧
    (let nominal : Rat := quo (((timing job).on_ 0x0B08 1 * (timing job).on_ 0x0B08 2 : Nat) : Rat) 1000000 * 65536
     absR (((stampTime job.r1 job.r2 (100000, 6)).toNat : Rat) - nominal) * 1000000 ≤ nominal * ((timing job).on_ 0x0B08 3 : Rat)) := by
  decide +kernel

theorem hyp_DischargeLimit : (timing { job with left := [] }).sen.job = some { job with left := [] } ∧ running.sen.job = none := by
  decide +kernel

/-- The shot of context 3 is in flight, with an attempt that has passed its correlation. -/
def measuredShot (kind : Nat) : State :=
  let a := { attempt with up := { attempt.up with closed := true, correlated := true } }
  let s := withCtx 3 (fun c => { c with current := some a, acq := some a }) running
  { s with ac := { s.ac with flight := [{ flight3 with held := false, kind := kind }] } }

theorem hyp_LockLost : running.sen.job = none ∧ (measuredShot 0).ac.ctx.length = 64 ∧
    (∀ k ∈ [0, 4], ((measuredShot k).ac.flight.any fun f => !f.held && f.members.contains 3 && f.kind == k) = true) ∧
    ((measuredShot 0).ac.ctxAt 3).current.isSome = true ∧ ((measuredShot 4).ac.ctxAt 3).acq.isSome = true ∧
    (∀ f ∈ flying.ac.flight, f.held = true ∨ 3 ∉ f.members) ∧ (flying.ac.ctxAt 3).current = some attempt ∧
    (timing { job with left := [], current := some 2 }).sen.vals[2]? = some Sensed.reset := by decide +kernel

/-- The bridge is excited. -/
def exciting : State := { running with sen := { running.sen with exciting := true } }

theorem hyp_Pressure : exciting.sen.exciting = true ∧ exciting.sen.vals[4]? = some Sensed.reset ∧
    exciting.pressureOutcome (max (-8388608) (min 8388607 0)) 0 = (0, (exciting.pressureOutcome 0 0).2) := by decide +kernel

/-- A second that the period divides, and one that it does not. -/
def secondAt (n : Nat) : State := { running with cal := { running.cal with seconds := n } }

theorem hyp_InternalTemp : (secondAt 3600).sen.vals[5]? = some Sensed.reset ∧ (secondAt 3600).pwr.aoDown = false ∧
    (secondAt 3600).cal.seconds % (max 1 ((secondAt 3600).on_ 0x0B40 2)) = 0 ∧
    (secondAt 3601).cal.seconds % (max 1 ((secondAt 3601).on_ 0x0B40 2)) ≠ 0 := by decide +kernel

theorem hyp_FlowComputation : ({ running with frame := { running.frame with flowStarted := true } } : State).measuring = true ∧
    running.frame.flowDone = false := by decide +kernel

theorem hyp_Crystal : running.on_ 0x0400 1 ≠ 2 ∧ ((running.atCyc 9000).pwr.dom 2).on = true ∧ (running.atCyc 9000).clk.hfxFailed = false ∧
    (running.atCyc 9000).measuring = true ∧ (withSet 0x0400 1 2 running).on_ 0x0400 1 = 2 ∧ running.mode ≠ .taper := by decide +kernel

/-- TM was switched on long ago, and the crystal is not ready. -/
def late : State := running.atCyc 200000

theorem hyp_CrystalTimeout : (late.pwr.dom 2).since + usNow 2000 ≤ late.frame.now ∧ late.clk.hfxFailed = false ∧
    late.clk.hfxReady = false ∧ (running.atCyc 6000).frame.now < ((running.atCyc 6000).pwr.dom 2).since + usNow 2000 := by decide +kernel

/-- The same in CONFIG: the fallback meets no work. -/
theorem hyp_FellBack : (State.atCyc { running with mode := .config } 200000).measuring = false ∧
    (State.atCyc { running with mode := .config } 200000).ac.flight = [] ∧
    (∀ n, n < 64 → ((State.atCyc { running with mode := .config } 200000).ac.ctxAt n).current = none) := by decide +kernel

/-- The crystal has failed and its retry is due. -/
def failedCrystal : State := { running with clk := { running.clk with hfxFailed := true, retryIn := 0 } }

theorem hyp_CrystalRetry : failedCrystal.clk.hfxFailed = true ∧ failedCrystal.clk.trial = false ∧ failedCrystal.clk.trialReady = false ∧
    failedCrystal.clk.retryIn = 0 ∧ running.clk.hfxFailed = false ∧ (failedCrystal.atCyc 200000).clk.hfxFailed = true ∧
    (failedCrystal.atCyc 200000).clk.trial = false := by decide +kernel

/-- The OCXO is the reference, with seven gates of a drift. -/
def ocxo (warm : Bool) (beyond count step : Nat) : State :=
  withSet 0x0400 1 1 { running with clk := { running.clk with
    ocxoWarm := warm, overDrift := beyond, warmCount := count, gates := (List.range 7).map fun i => (1000 - 100 * i, (-(step * i : Nat) : Int)) } }

theorem hyp_OcxoGate : (withSet 0x0400 1 1 running).heater = true ∧ (withSet 0x0400 1 1 running).clk.gates.length ≤ 6 := by decide +kernel

/-- The drift after one more gate. -/
def driftAfter (s : State) : Option Rat :=
  driftOf ((((s.frame.at_ 6000).now, fitS 32 (gateError 100 10000)) :: s.clk.gates).take 8)

theorem hyp_OcxoWarms : (ocxo false 1 100 0).heater = true ∧ (ocxo false 1 100 0).clk.ocxoWarm = false ∧
    driftAfter (ocxo false 1 100 0) = some 0 ∧ absR 0 ≤ ((ocxo false 1 100 0).on_ 0x0402 1 : Rat) ∧
    (ocxo false 1 100 0).on_ 0x0402 3 ≤ (ocxo false 1 100 0).clk.warmCount + 1 ∧
    (ocxo false 1 0 0).clk.warmCount + 1 < (ocxo false 1 0 0).on_ 0x0402 3 ∧ (ocxo true 1 0 0).clk.ocxoWarm = true := by decide +kernel

theorem hyp_OcxoIsLost : (ocxo true 1 0 3).clk.ocxoWarm = true ∧ 1 ≤ (ocxo true 1 0 3).clk.overDrift ∧
    driftAfter (ocxo true 1 0 3) = some (445747200000 / 74587) ∧
    4 * ((ocxo true 1 0 3).on_ 0x0402 1 : Rat) < absR (445747200000 / 74587) ∧ (ocxo true 0 0 3).clk.overDrift = 0 ∧
    ((ocxo false 1 0 3).on_ 0x0402 1 : Rat) < absR (445747200000 / 74587) ∧ 0 < (ocxo false 1 0 3).on_ 0x0402 3 ∧
    ((ocxo true 1 0 0).atCyc 6000).clk.ocxoWarm = true ∧ (running.atCyc 6000).clk.ocxoWarm = false := by decide +kernel

theorem hyp_LfCrystal : running.clk.rtcOnLfrc = false ∧ running.pwr.aoDown = false := by decide +kernel

/-- What is left of the second has passed. -/
def secondOver (s : State) : State := s.elapse.runTicks s.elapse.cal.periodsLeft

theorem hyp_CalendarSecond : (secondOver running).cal.seconds = running.cal.seconds ∧ bitAt (running.on_ 0x0501 2) 0 = false ∧
    running.on_ 0x0504 1 = 0 ∧ running.cal.window ≤ 8388608 := by decide +kernel

/-- An alarm is set for the next second. -/
def alarmed : State := withSet 0x0504 1 1 (withSet 0x0504 2 60 running)

theorem hyp_Alarm : bitAt (alarmed.on_ 0x0501 2) 0 = false ∧ alarmed.on_ 0x0504 1 ≠ 0 ∧
    alarmed.on_ 0x0504 1 = (alarmed.cal.seconds + 1) % 2 ^ 48 := by decide +kernel

/-- The last Sunday of March, 02:00. -/
def forward : Nat := 3 * 2 ^ 17 + 5 * 2 ^ 14 + 7 * 2 ^ 11 + 2 * 2 ^ 6

/-- The rules are on, a second before the forward moment of 2026. -/
def beforeDst : State := withSet 0x0501 2 1 (withSet 0x0501 3 forward (secondAt (ruleMoment forward 2026 - 1)))

theorem hyp_Dst : bitAt (beforeDst.on_ 0x0501 2) 0 = true ∧ beforeDst.on_ 0x0504 1 = 0 ∧ beforeDst.cal.calend = false ∧
    beforeDst.cal.seconds < 12622780799 ∧ beforeDst.cal.dst = false ∧
    beforeDst.cal.seconds + 1 = ruleMoment (beforeDst.on_ 0x0501 3)
      (Fields.of (beforeDst.cal.seconds + 1 + if beforeDst.cal.dst then 3600 else 0)).year := by decide +kernel

/-- Input 1 is enabled, active high, with a run of one sample. -/
def tampering : State :=
  withSet 0x0505 2 0x8A { running with cal := { running.cal with tamper := running.cal.tamper.map fun x => { x with run := 1 } } }

theorem hyp_Tamper : tampering.cal.tamper[1]? = some { Tamper.reset with run := 1 } ∧ bitAt (tampering.on_ 0x0505 2) 7 = true ∧
    bitAt (tampering.on_ 0x0505 2) 3 = [false, true, false].getD 1 false ∧ field (tampering.on_ 0x0505 2) 2 0 ≤ 1 + 1 ∧
    Tamper.reset.latch = false ∧ bitAt (running.on_ 0x0505 2) 7 = false ∧
    1 + 1 < field ((withSet 0x0505 2 0x8F tampering).on_ 0x0505 2) 2 0 := by decide +kernel

theorem hyp_Backup : ({ running with cal := { running.cal with source := 3, lossDue := false } } : State).cal.source = 3 ∧
    ({ running with cal := { running.cal with source := 3, lossDue := false } } : State).cal.lossDue = false ∧ running.cal.source ≠ 3 ∧
    running.acc.lockout[2 - 1]? = some 0 ∧
    ({ running with acc := { running.acc with lockout := [0, 100, 0] } } : State).acc.lockout[2 - 1]? = some 100 := by decide +kernel

/-! ### Hypotheses: power -/

/-- WICK is enabled and the core waits. -/
def drowsy : State := withSet 0x0200 1 1 { running with core := { running.core with state := 2, wfi := some 0 } }

/-- What the entry to WICK meets: its time has come. -/
def entering (s : State) : State := State.elapse (State.settlePins { s with frame := s.frame.at_ 6000 })

theorem hyp_WickEntry : drowsy.frame.running = true ∧ drowsy.frame.committing = false ∧ drowsy.working = false ∧ drowsy.pwr.doms.length = 6 ∧
    (entering drowsy).wickBarred = false ∧ (entering drowsy).gapShort = false ∧ (entering drowsy).pwr.wakePending = none ∧
    0 < drowsy.pwr.res.short.length ∧ drowsy.on_ 0x0400 1 ≠ 1 ∧ (entering (withSet 0x0400 1 1 drowsy)).wickBarred = false ∧
    (entering (withSet 0x0200 1 0 drowsy)).wickBarred = true := by decide +kernel

/-- The device in a power state. -/
def inPower (p : PState) (wake : Option Nat) : State := { running with pwr := { running.pwr with state := p, wakePending := wake } }

theorem hyp_WickExit : (inPower .wick none).pwr.state = .wick ∧ (inPower .wick none).core.wfi = none ∧
    (inPower .wick none).pwr.doms.length = 6 ∧ running.pwr.state ≠ .wick := by decide +kernel

/-- A domain is on and not ready. -/
def waking (d : Nat) (again : Bool) : State :=
  { running with pwr := { running.pwr with doms := setAt allOn d { on := true, ready := false, retried := again, since := 30000 } } }

theorem hyp_Domains : ((waking 1 false).atCyc 5000).pwr.doms[1]? = some { on := true, ready := false, retried := false, since := 30000 } ∧
    ((waking 1 false).atCyc 5000).frame.now ≤ ({ on := true, ready := false, retried := false, since := 30000 } : Domain).timeout ∧
    ((waking 1 false).atCyc 5000).frame.now ≤ 30000 + usNow (if 1 = 3 then 40 else 130) ∧
    30000 + usNow (if 3 = 3 then 40 else 130) < ((waking 3 false).atCyc 7000).frame.now ∧ ((waking 3 false).atCyc 7000).measuring = true ∧
    ((waking 3 false).atCyc 7000).frame.now ≤ ({ on := true, ready := false, retried := false, since := 30000 } : Domain).timeout ∧
    (running.pwr.dom 1).ready = true := by decide +kernel

/-- Long after, its regulator has timed out. -/
def timedOut (d : Nat) (again : Bool) : State := (waking d again).atCyc 200000

theorem hyp_RegulatorTimeout : (timedOut 1 false).pwr.doms[1]? = some { on := true, ready := false, retried := false, since := 30000 } ∧
    ({ on := true, ready := false, retried := false, since := 30000 } : Domain).timeout ≤ (timedOut 1 false).frame.now ∧
    (timedOut 1 false).frame.running = true ∧ (timedOut 1 false).pwr.aoDown = false ∧ ((timedOut 1 true).pwr.dom 3).ready = true ∧
    (timedOut 3 true).pwr.doms[3]? = some { on := true, ready := false, retried := true, since := 30000 } ∧
    ((waking 1 false).atCyc 5000).frame.now < (((waking 1 false).atCyc 5000).pwr.dom 1).timeout := by decide +kernel

theorem hyp_WakeSources : running.pwr.aoDown = false ∧ (inPower .dark none).pwr.aoDown = true ∧ (inPower .doze none).pwr.state = .doze ∧
    (inPower .wick none).pwr.state = .wick ∧ running.pwr.state ≠ .doze := by decide +kernel

theorem hyp_Brownout : running.pwr.aoDown = false ∧ running.pwr.state = .run ∧ running.frame.running = true ∧
    State.reset.pwr.aoDown = false ∧ State.reset.frame.running = false ∧ State.reset.qty.writing = none ∧
    (inPower .hold none).pwr.state = .hold ∧ (inPower .dark none).pwr.state = .dark ∧
    (inPower .wick none).pwr.state = .wick ∧ (inPower .wick none).pwr.doms.length = 6 := by decide +kernel

/-- A brownout has cut the frame. -/
def browned : State := after (.brownout 6000 1 3000 []) running

theorem hyp_FinalCommit : browned.frame.running = false ∧ (browned.qty.writing.any fun c => c.partial_) = true := by decide +kernel

/-- The same with NRST held. -/
def pinned (s : State) : State := { s with pwr := { s.pwr with nrst := true } }

theorem hyp_ResetPin : (pinned State.reset).pwr.nrst = true ∧ (pinned State.reset).pwr.state = .starting ∧ running.pwr.nrst = false ∧
    running.pwr.state ≠ .dark ∧ State.reset.frame.running = false ∧
    ({ browned with pwr := { browned.pwr with state := .hold } } : State).frame.running = false := by decide +kernel

/-- A start whose backup domain kept its state. -/
def kept : State := { State.reset with cal := { State.reset.cal with lossDue := false } }

theorem hyp_Start : kept.mayStart = true ∧ running.mayStart = false ∧ kept.pwr.doms.length = 6 ∧ kept.pwr.open_ = false ∧
    kept.pwr.startMode = 0 ∧ kept.pwr.taperLatchBk = false ∧ kept.pwr.taperLatchMetro = false ∧
    kept.pwr.failedStarts < kept.on_ 0x0201 3 ∧ kept.cal.lossDue = false ∧ kept.pwr.testm = false ∧
    started.pwr.state = .starting ∧ started.pwr.nrst = false ∧ started.ceUp = true ∧ State.reset.ceUp = false ∧
    (pinned State.reset).mayStart = false := by decide +kernel

/-- The watchdog of the core has run out. -/
def barking : State := { running with core := { running.core with wdt := 2 ^ 31 + 3, wdtCount := 3, state := 2 } }

theorem hyp_Watchdogs : barking.pwr.state = .run ∧ barking.acc.waiting = [] ∧ barking.acc.customer = [] ∧ barking.core.held = none ∧
    barking.q.spiIn = [] ∧ bitAt barking.core.wdt 31 = true ∧ barking.core.wdt % 65536 ≤ barking.core.wdtCount ∧
    barking.core.halted = false ∧ bitAt running.core.wdt 31 = false ∧
    (inPower .snuff (some 54)).pwr.state = .snuff ∧ (inPower .snuff (some 54)).pwr.wakePending = some 54 := by decide +kernel
/-! ### Hypotheses: outputs -/

/-- The counter of output 2 in MODE 1 owes two pulses. -/
def owing : PulseOut := { PulseOut.reset with backlog := 2, first := 1, spacing := 4 }

/-- Output 2 in MODE 1. -/
def pulsing (o : PulseOut) : State :=
  withSet 0x1100 3 (2 ^ 30) { running with qty := { running.qty with outs := setAt running.qty.outs 2 o } }

theorem hyp_PulseStart : (pulsing owing).qty.outs[2]? = some owing ∧ (pulsing owing).frame.running = true ∧
    field ((pulsing owing).on_ 0x1100 3) 31 30 = 1 ∧ 0 < owing.backlog ∧ owing.high = false ∧
    owing.first ≤ ((pulsing owing).frame.at_ 6000).absTick ∧ owing.edge = none := by decide +kernel

/-- A pulse of it is in progress. -/
def pulse : PulseOut := { owing with high := true, ends := 4 }

theorem hyp_PulseEnd : (pulsing pulse).qty.outs[2]? = some pulse ∧ pulse.high = true ∧
    pulse.ends ≤ ((pulsing pulse).frame.at_ (min 32000000 ((pulsing pulse).frame.cycOfTick pulse.ends))).absTick ∧ owing.high = false := by decide +kernel

/-- The FTO owes two pulses. -/
def toTest (high : Bool) : State := withSet 0x1110 1 (2 ^ 15) { running with
  mode := .verify, qty := { running.qty with fto := { running.qty.fto with owed := 2, spacing := 1000, high := high } } }

theorem hyp_FtoPulse : (toTest false).frame.running = true ∧ (toTest false).mode = .verify ∧ bitAt ((toTest false).on_ 0x1110 1) 15 = true ∧
    (toTest false).qty.fto.begun < (toTest false).qty.fto.owed ∧ (toTest false).qty.fto.high = false ∧
    4096 + (toTest false).qty.fto.begun * (toTest false).qty.fto.spacing < (toTest false).frame.endCyc ∧ (toTest true).qty.fto.high = true ∧
    (toTest true).qty.fto.falls ≤ ((toTest true).frame.at_ (min 32000000 (((toTest true).qty.fto.falls - (toTest true).frame.base + 7) / 8))).now := by
  decide +kernel

/-- A movement in a phase. -/
def moving (phase : Nat) : Movement := { target := 3, cause := 1, start := 100, since := 100, travel := 0, used := 0, phase := phase }

/-- The same under way. -/
def driving (n : Nat) : State := { running with bill := { running.bill with move := some (moving n) } }

theorem hyp_Actuator : (∀ n ∈ [0, 1, 2, 3], (driving n).bill.move = some (moving n)) ∧ (moving 0).phase = 0 ∧ (moving 1).phase = 1 ∧
    ((driving 0).frame.at_ 6000).now ≤ (moving 0).start + 512000 * (100 * field ((driving 0).on_ 0x1410 1) 23 16) ∧
    (moving 1).since + 512000 * (10 * field ((driving 1).on_ 0x1410 1) 15 8) ≤ ((driving 1).frame.at_ 64000000).now ∧
    (moving 2).since + 512000 * 200 ≤ ((driving 2).frame.at_ 64000000).now ∧
    (moving 3).since + 512000 * 500 ≤ ((driving 3).frame.at_ 64000000).now ∧
    ((driving 2).frame.at_ 6000).now < (moving 2).since + 512000 * 200 ∧ running.bill.move = none := by decide +kernel

theorem hyp_ActuatorFault : (driving 0).faultStands 4 0 = true ∧ (driving 0).faultStands 5 0 = false := by decide +kernel
/-! ### Hypotheses: the object dictionary -/

/-- The key of the METROLOGY role in these tests. -/
def mk : List Nat := List.range 16

/-- The device in CONFIG, with a METROLOGY key and a boot key. -/
def keyed : State := { running with mode := .config, acc := { running.acc with metrologyKey := some mk, bootHash := some [1] } }

/-- The core asks without an envelope. -/
def op : Sender := { via := .window, gen := 3, id := 7, carrier := .plain }

/-- The core asks with an envelope of the METROLOGY role. -/
def met (counter index sub : Nat) (value : List Nat) : Sender := sealedBy mk .window 3 2 counter index sub value

/-- Proved from the entry point of OPERATOR writes. -/
theorem hyp_ModeCommands : keyed.acceptsWrite op 0x0120 2 [1] ∧ keyed.acceptsWrite op 0x0120 2 [2] ∧
    keyed.acceptsWrite op 0x0120 2 [3] :=
  ⟨accepts_plain _ _ _ _ _ (by decide +kernel), accepts_plain _ _ _ _ _ (by decide +kernel), accepts_plain _ _ _ _ _ (by decide +kernel)⟩

/-- Context 3 is defined, the plan measures it in every frame, and it is path 0. -/
def configured : State :=
  withSet 0x0310 1 0x10000003 (withSet 0x0C01 1 3 (withSet 0x0903 1 1 (withSet 0x0903 0x0B 120000 (withSet 0x0903 0x0C 100000 keyed))))

/-- The same with two rows of that context. -/
def refusedPlan : State := withSet 0x0310 2 0x10000003 configured

theorem hyp_ModeVerdicts : configured.mode ≠ .measure ∧ (verdict configured.get).ok = true ∧ flowFault configured.get = 0 ∧
    quantityFault configured.get = 0 ∧ running.mode = .measure ∧ (verdict refusedPlan.get).ok = false ∧ refusedPlan.mode ≠ .measure ∧
    (verdict keyed.get).ok = true ∧ flowFault keyed.get ≠ 0 := by decide +kernel

theorem hyp_ModeAccepted : configured.acceptsWrite op 0x0120 2 [2] ∧ refusedPlan.acceptsWrite op 0x0120 2 [2] ∧
    ({ keyed with mode := .measure } : State).acceptsWrite op 0x0120 2 [2] :=
  ⟨accepts_plain _ _ _ _ _ (by decide +kernel), accepts_plain _ _ _ _ _ (by decide +kernel), accepts_plain _ _ _ _ _ (by decide +kernel)⟩

theorem hyp_Seal : keyed.acceptsWrite (met 5 0x0140 1 [0xC3]) 0x0140 1 [0xC3] :=
  accepts_auth _ _ _ _ _ _ _ _ _ (by rfl) (by decide +kernel)

/-- The device with its seal set. -/
def closed : State := { keyed with acc := { keyed.acc with sealed := true, sealedOnce := true, factoryEnded := true } }

theorem hyp_SealClear : closed.acceptsWrite (met 5 0x0140 1 [0x3C]) 0x0140 1 [0x3C] :=
  accepts_auth _ _ _ _ _ _ _ _ _ (by rfl) (by decide +kernel)

theorem hyp_FactoryLock : keyed.acceptsWrite (sealedBy Config.factoryKey .window 3 3 5 0x0140 4 [0x96]) 0x0140 4 [0x96] :=
  accepts_auth _ _ _ _ _ _ _ _ _ (by rfl) (by decide +kernel)

/-- An envelope of the FACTORY role. -/
def factoryEnvelope : List Nat := envelopeBytes 3 0x0140 4 5 [0x96] (List.replicate 8 0)

theorem hyp_FactoryEnded : closed.servesNow (closed.asked .window 3 2 0x0150 1 7 factoryEnvelope) ∧
    (closed.expect (closed.asked .window 3 2 0x0150 1 7 factoryEnvelope)).formAbort
      (closed.asked .window 3 2 0x0150 1 7 factoryEnvelope) = abortOk ∧
    ((Envelope.of factoryEnvelope).any fun e => e.role == 3) = true ∧ closed.acc.factoryEnded = true := by
  unfold State.servesNow
  decide +kernel

theorem hyp_QtyClear : keyed.acceptsWrite (met 5 0x1007 5 [0xA5]) 0x1007 5 [0xA5] :=
  accepts_auth _ _ _ _ _ _ _ _ _ (by rfl) (by decide +kernel)

theorem hyp_PowerCommands : keyed.acceptsWrite op 0x0201 1 [1] ∧ keyed.acceptsWrite op 0x0201 1 [2] ∧
    keyed.acceptsWrite op 0x0223 1 [0xA5] :=
  ⟨accepts_plain _ _ _ _ _ (by decide +kernel), accepts_plain _ _ _ _ _ (by decide +kernel), accepts_plain _ _ _ _ _ (by decide +kernel)⟩

/-- The device in TAPER. -/
def tapered : State := { keyed with mode := .taper }

theorem hyp_TaperExit : tapered.acceptsWrite (met 5 0x0201 2 [0x5A]) 0x0201 2 [0x5A] :=
  accepts_auth _ _ _ _ _ _ _ _ _ (by rfl) (by decide +kernel)

/-- The actuator is at rest in a state, time is valid. -/
def resting (act : Nat) : State := { keyed with
  bill := { keyed.bill with st := { keyed.bill.st with act := act } }, cal := { keyed.cal with invalid := false, calend := false } }

theorem hyp_Billing : (resting 1).acceptsWrite op 0x1301 2 [1] ∧ (resting 1).acceptsWrite op 0x1410 5 [1] ∧
    (resting 3).acceptsWrite op 0x1410 5 [2] ∧ (resting 4).acceptsWrite op 0x1410 5 [3] ∧ (resting 6).acceptsWrite op 0x1410 5 [4] :=
  ⟨accepts_plain _ _ _ _ _ (by decide +kernel), accepts_plain _ _ _ _ _ (by decide +kernel), accepts_plain _ _ _ _ _ (by decide +kernel),
    accepts_plain _ _ _ _ _ (by decide +kernel), accepts_plain _ _ _ _ _ (by decide +kernel)⟩

theorem hyp_TopUps : keyed.acceptsWrite op 0x1402 1 (leBytes 4 5 ++ leBytes 8 (unsigned 64 (-3))) ∧
    keyed.acceptsWrite op 0x1200 2 (leBytes 6 0) ∧ (resting 1).acceptsWrite op 0x1200 2 (leBytes 6 820540800) :=
  ⟨accepts_plain _ _ _ _ _ (by decide +kernel), accepts_plain _ _ _ _ _ (by decide +kernel), accepts_plain _ _ _ _ _ (by decide +kernel)⟩

theorem hyp_PerfWrites : keyed.acceptsWrite op (0x1C10 + 2) (3 + 1) (leBytes 4 0x80000000) ∧ keyed.acceptsWrite op 0x1C30 1 (leBytes 6 7) :=
  ⟨accepts_plain _ _ _ _ _ (by decide +kernel), accepts_plain _ _ _ _ _ (by decide +kernel)⟩

/-- 2026-01-01 00:00 as a DATETIME. -/
def newYear : Nat := datetimeWord (Fields.of 820540800) false false false 12000

theorem hyp_TimeIsSet : newYear < 2 ^ 64 ∧ keyed.on_ 0x0504 1 = 0 ∧ keyed.acceptsWrite op 0x0500 2 (leBytes 8 newYear) ∧
    keyed.acceptsWrite op 0x0501 1 [1] :=
  ⟨by decide +kernel, by decide +kernel, accepts_plain _ _ _ _ _ (by decide +kernel), accepts_plain _ _ _ _ _ (by decide +kernel)⟩

theorem hyp_TamperClear : keyed.acceptsWrite (met 5 0x050A 1 [5]) 0x050A 1 [5] :=
  accepts_auth _ _ _ _ _ _ _ _ _ (by rfl) (by decide +kernel)

theorem hyp_TamperAgain : tampering.cal.tamper[1]? = some { Tamper.reset with run := 1 } ∧
    ({ Tamper.reset with run := 1 } : Tamper).latch = false ∧
    field ((withSet 0x0505 2 0x89 tampering).on_ 0x0505 2) 2 0 ≤ ({ Tamper.reset with run := 1 } : Tamper).run := by decide +kernel

/-- The same device in VERIFY. -/
def defined3 : State := { configured with mode := .verify }

theorem hyp_ZeroCapture : defined3.acceptsWrite (met 5 (0x0900 + 3) 0x1F (leBytes 2 8)) (0x0900 + 3) 0x1F (leBytes 2 8) ∧
    defined3.acceptsWrite (met 5 (0x0900 + 3) 0x1F [0, 0]) (0x0900 + 3) 0x1F [0, 0] :=
  ⟨accepts_auth _ _ _ _ _ _ _ _ _ (by rfl) (by decide +kernel), accepts_auth _ _ _ _ _ _ _ _ _ (by rfl) (by decide +kernel)⟩

theorem hyp_TemplateCapture :
    defined3.acceptsWrite (met 5 0x0A20 1 (leBytes 4 (3 * 2 ^ 26 + 16 * 65536 + 40))) 0x0A20 1 (leBytes 4 (3 * 2 ^ 26 + 16 * 65536 + 40)) ∧
    defined3.acceptsWrite (met 5 0x0A20 1 (leBytes 4 (3 * 2 ^ 26))) 0x0A20 1 (leBytes 4 (3 * 2 ^ 26)) :=
  ⟨accepts_auth _ _ _ _ _ _ _ _ _ (by rfl) (by decide +kernel), accepts_auth _ _ _ _ _ _ _ _ _ (by rfl) (by decide +kernel)⟩

theorem hyp_StageSet : keyed.staging 3 = false ∧ keyed.at_ 0x0903 1 % 4 = 0 ∧
    keyed.acceptsWrite (met 5 (0x0900 + 3) 1 [4 + 0]) (0x0900 + 3) 1 [4 + 0] :=
  ⟨by decide +kernel, by decide +kernel, accepts_auth _ _ _ _ _ _ _ _ _ (by rfl) (by decide +kernel)⟩

/-- Context 3 is staging, with a write of its PINS staged. -/
def staged3 : State := withSet 0x0903 1 4 { keyed with
  ac := { keyed.ac with ctx := setAt keyed.ac.ctx 3 { keyed.ac.ctxAt 3 with staged := [(ck 3 2, 0x0809)] } } }

theorem hyp_StageApply : staged3.staging 3 = true ∧ ((staged3.ctxLedger 3 1 0).all fun x => x.2.isEmpty) = true ∧ keyed.staging 3 = false ∧
    ((keyed.ctxLedger 3 1 0).all fun x => x.2.isEmpty) = true ∧
    (staged3.ac.ctx[3]?.map fun c => c.staged) = some [(ck 3 2, 0x0809)] ∧
    staged3.acceptsWrite (met 5 (0x0900 + 3) 1 [0]) (0x0900 + 3) 1 [0] :=
  ⟨by decide +kernel, by decide +kernel, by decide +kernel, by decide +kernel, by decide +kernel,
    accepts_auth _ _ _ _ _ _ _ _ _ (by rfl) (by decide +kernel)⟩

theorem hyp_StagedWrite : keyed.acceptsWrite (met 5 (0x0900 + 3) 1 [0]) (0x0900 + 3) 1 [0] :=
  accepts_auth _ _ _ _ _ _ _ _ _ (by rfl) (by decide +kernel)

/-- The core is in the loader. -/
def loading : State := { keyed with core := { keyed.core with state := 3 } }

theorem hyp_Firmware : loading.acceptsWrite op 0x1D00 4 [1] ∧ keyed.acceptsWrite op 0x1D00 4 [2] ∧
    loading.acceptsWrite op 0x1D00 5 (leBytes 4 512 ++ List.replicate 256 7) ∧ keyed.acceptsWrite op 0x1D00 6 (leBytes 4 9) ∧
    keyed.acceptsWrite op 0x1D02 1 (List.range 32) :=
  ⟨accepts_plain _ _ _ _ _ (by decide +kernel), accepts_plain _ _ _ _ _ (by decide +kernel), accepts_plain _ _ _ _ _ (by decide +kernel),
    accepts_plain _ _ _ _ _ (by decide +kernel), accepts_plain _ _ _ _ _ (by decide +kernel)⟩

theorem hyp_BootKeyHash : ({ keyed with acc := { keyed.acc with bootHash := none } } : State).acceptsWrite
      (sealedBy Config.factoryKey .window 3 3 5 0x1530 1 (List.range 32)) 0x1530 1 (List.range 32) :=
  accepts_auth _ _ _ _ _ _ _ _ _ (by rfl) (by decide +kernel)

/-- A key change in an envelope of the METROLOGY role. -/
def newKey : Sender := met 5 0x1520 1 (List.range 24)

theorem hyp_KeyChange : (∃ mac, newKey.carrier = .auth 2 5 mac) ∧ keyed.mode ≠ .taper ∧ keyed.acc.sealed = false ∧
    keyed.servesNow (keyed.carried newKey 0x1520 1 (List.range 24)) ∧
    (keyed.expect (keyed.carried newKey 0x1520 1 (List.range 24))).formAbort (keyed.carried newKey 0x1520 1 (List.range 24)) = abortOk ∧
    ((keyed.expect (keyed.carried newKey 0x1520 1 (List.range 24))).authenticate (keyed.carried newKey 0x1520 1 (List.range 24))).2 =
      (abortOk, { via := newKey.via, gen := keyed.sessionGen newKey.via, index := 0x1520, sub := 1, data := List.range 24
                  role := Role.ofCode 2, env := some (Role.ofCode 2) }) :=
  ⟨⟨_, rfl⟩, by decide, rfl, by unfold State.servesNow; decide +kernel, by decide +kernel,
    congrArg Prod.snd (authenticate_sealed mk keyed .window 3 2 5 0x1520 1 (List.range 24) (by rfl) (by decide +kernel))⟩

/-- A setting of the clock group, and one of the flow group. -/
theorem hyp_AcceptedWrites : keyed.acceptsWrite (met 5 0x0402 1 [7, 0]) 0x0402 1 [7, 0] ∧
    keyed.acceptsWrite (met 5 0x0C00 2 (leBytes 4 10000)) 0x0C00 2 (leBytes 4 10000) :=
  ⟨accepts_auth _ _ _ _ _ _ _ _ _ (by rfl) (by decide +kernel), accepts_auth _ _ _ _ _ _ _ _ _ (by rfl) (by decide +kernel)⟩

theorem hyp_ReadsReturn : keyed.servesNow (keyed.asked .window 3 1 0x0402 1 7 []) ∧
    (keyed.expect (keyed.asked .window 3 1 0x0402 1 7 [])).formAbort (keyed.asked .window 3 1 0x0402 1 7 []) = abortOk ∧
    ((rowOf (key 0x0402 1)).any fun row => row.rw) = true ∧ readsZero 0x0402 1 = false ∧ readsEmpty 0x0402 1 = false ∧
    customerIndex 0x0402 = false := by
  unfold State.servesNow
  decide +kernel

theorem hyp_WritesWithoutRole : keyed.servesNow (keyed.asked .window 3 2 0x0402 1 7 [7, 0]) ∧
    (keyed.expect (keyed.asked .window 3 2 0x0402 1 7 [7, 0])).formAbort (keyed.asked .window 3 2 0x0402 1 7 [7, 0]) = abortOk ∧
    ((rowOf (key 0x0402 1)).any fun row => decide (1 < row.role.rank)) = true := by
  unfold State.servesNow
  decide +kernel

/-- An envelope of the METROLOGY role with a MAC of zeros. -/
def wrongMac : List Nat := envelopeBytes 2 0x0402 1 5 [7, 0] (List.replicate 8 0)

/-- Its eight checks have failed. -/
def lockedOut : State := { keyed with acc := { keyed.acc with lockout := [0, 100, 0] } }

theorem hyp_EnvelopeFails : keyed.servesNow (keyed.asked .window 3 2 0x0150 1 7 wrongMac) ∧
    (keyed.expect (keyed.asked .window 3 2 0x0150 1 7 wrongMac)).formAbort (keyed.asked .window 3 2 0x0150 1 7 wrongMac) = abortOk ∧
    ((Envelope.of wrongMac).any fun e => e.role == 2) = true ∧
    natAt lockedOut.acc.lockout 1 ≠ 0 ∧ natAt keyed.acc.lockout 1 = 0 ∧ natAt keyed.acc.failRun 1 = 0 := by
  unfold State.servesNow
  decide +kernel

theorem hyp_EnvelopeReplayed :
    ((Envelope.of (envelopeBytes 2 0x0402 1 0 [7, 0] (List.replicate 8 0))).any fun e => decide (e.counter ≤ natAt keyed.acc.replay 1)) = true := by
  decide +kernel

/-- An envelope of the METROLOGY role, verified, of an entry that only reads. -/
def readOnlyEnvelope : Envelope :=
  { role := 2, index := 0x0400, sub := 2, counter := 5, value := [0, 0], body := envelopeBytes 2 0x0400 2 5 [0, 0] []
    mac := macFor mk 2 0x0400 2 5 [0, 0] }

theorem hyp_EnvelopeVerifies : keyed.macOk readOnlyEnvelope = true ∧ natAt keyed.acc.replay (readOnlyEnvelope.role - 1) < readOnlyEnvelope.counter ∧
    ((rowOf (key 0x0400 2)).any fun row => !row.rw) = true ∧ customerIndex 0x0400 = false :=
  ⟨by simp [State.macOk, State.roleKey, readOnlyEnvelope, macFor, keyed], by decide +kernel, by decide +kernel, by decide +kernel⟩

/-- A HELLO offer of the generations 1 to 3. -/
def offer : List Nat := [0x13000001, 0, 0, 0, 0]

theorem hyp_Hello : keyed.linksUp = true ∧ helloOffer offer = some (1, 3) ∧ keyed.q.spiIn = [] ∧ keyed.frame.committing = false ∧
    keyed.portWaits 1 = false ∧ (keyed.acc.waiting.any fun x => x.via.port == 1) = false ∧ keyed.q.gens.length = 4 := by decide +kernel

theorem hyp_HelloExchange : helloOffer (wordsOf 5 (offer.flatMap (leBytes 4))) = some (1, 3) ∧
    keyed.accepts (keyed.asked .mbus 1 2 0x1801 1 7 (offer.flatMap (leBytes 4))) 0x1801 1 (offer.flatMap (leBytes 4)) :=
  ⟨by decide +kernel, accepts_of _ _ _ _ _ _ rfl (by decide +kernel)⟩

/-! ### Hypotheses: the application core -/

/-- The core runs. -/
def coring : State := { running with core := { running.core with state := 2 } }

/-- An event of the core. -/
def coreEvent (n count : Nat) : Pend := { pend37 with dest := .core, ev := n, count := count, offered := true }

/-- Two events of one priority, enabled. -/
def claiming : State := { coring with
  events := [coreEvent 9 1, coreEvent 7 2], core := { coring.core with enable := 2 ^ 64 - 1, priority := List.replicate 64 1 } }

theorem hyp_CoreClaims : coring.coreRuns = true ∧ claiming.coreRuns = true ∧ (∀ q ∈ coring.events, coring.core.eligible q = false) ∧
    (∃ q ∈ claiming.events, claiming.core.eligible q = true) ∧ coring.ceUp = true ∧
    ({ coring with core := { coring.core with mtimecmp := 0, wfi := some 8 } } : State).core.mtimecmp ≤ coring.pwr.mtime ∧
    bitAt 8 3 = true ∧ ({ coring with core := { coring.core with state := 0 } } : State).coreRuns = false ∧
    coring.pwr.mtime < ({ coring with core := { coring.core with mtimecmp := 1 } } : State).core.mtimecmp := by decide +kernel

/-- The core's reservation is spent in one state and not yet in the other. -/
theorem hyp_ReservationSpent :
    us 60 + coreTime coring.eff (framePhase coring.eff coring.frame.number) ≤
      ({ coring with frame := { coring.frame with cyc := 640000 } } : State).frame.nowQ ∧
    ({ coring with frame := { coring.frame with cyc := 0 } } : State).frame.nowQ <
      us 60 + coreTime coring.eff (framePhase coring.eff coring.frame.number) := by decide +kernel

/-- A customer request of IO-Link. -/
def customerRequest : Request :=
  { via := .isdu, gen := 1, hdr := 1, bad := false, op := 2, index := 0x3000, sub := 1, id := 4, data := [1, 2, 3, 4] }

/-- It has passed the security block and its core work is admitted. -/
def asking : State := { coring with
  acc := { coring.acc with customer := [customerRequest] }, frame := { coring.frame with waiting := [custJob 2] } }

/-- It is held, and the core answers it with a code. -/
def heldRequest (code : Nat) : State := { coring with
  core := { coring.core with held := some customerRequest, custResult := 4 * 65536 + code } }

theorem hyp_Customer : (inSlot coring).coreRuns = true ∧ (inSlot coring).core.reqBusy = false ∧ (inSlot coring).frame.committing = true ∧
    coring.frame.committing = false ∧ coring.portWaits 0 = false ∧ (coring.acc.waiting.any fun x => x.via.port == 0) = false ∧
    asking.admittedRequest = some customerRequest ∧ asking.core.held = none ∧ asking.core.state = 2 ∧ asking.frame.running = true ∧
    coring.admittedRequest = none ∧ coring.core.held = none := by decide +kernel

theorem hyp_CustomerAnswers : ∀ code ∈ [abortOk, abortRange, abortAuth], (heldRequest code).coreRuns = true ∧
    (heldRequest code).core.held = some customerRequest ∧ customerRequest.via = .isdu ∧ customerIndex customerRequest.index = true ∧
    (heldRequest code).acc.customer = [] ∧ (heldRequest code).acc.waiting = [] ∧ (heldRequest code).q.spiIn = [] ∧
    (heldRequest code).core.custResult % 65536 = code := by decide +kernel

/-- The core has let CUST_TIMEOUT pass, and before it has passed. -/
theorem hyp_CustomerTimeout : (heldRequest 0).core.heldAt + usNow (1000 * coring.on_ 0x1D01 2) ≤
      ({ heldRequest 0 with frame := { coring.frame with base := usNow 60000000 } } : State).frame.now ∧
    ({ coring with frame := { coring.frame with base := 0, cyc := 0 } } : State).frame.now <
      (heldRequest 0).core.heldAt + usNow (1000 * coring.on_ 0x1D01 2) := by decide +kernel

/-- A read request of the core's OUT queue. -/
def requestWords : List Nat :=
  ({ type := 6, gen := 3, cls := 2, src := 0x4B, qual := 1, frame := 0, payload := [0x01010300, 0] } : Record).words

/-- One of another type, which the core may not send. -/
def wrongWords : List Nat :=
  ({ type := 4, gen := 3, cls := 2, src := 0x4B, qual := 1, frame := 0, payload := [0, 0] } : Record).words

theorem hyp_Queues : ({ coring with q := { coring.q with coreIn := [5, 6] } } : State).q.coreHeld = [] ∧
    wholeRecords [1, 2, 3, 4].length [1, 2, 3, 4] = none ∧
    ((wholeRecords wrongWords.length wrongWords).any fun xs => xs.any fun x => x.bad) = true ∧
    ((wholeRecords requestWords.length requestWords).any fun xs => match xs with
      | [x] => !x.bad && x.record.type == 6
      | _ => false) = true := by decide +kernel

/-- The core is under boot verification; in one state its image lacks its MAGIC. -/
theorem hyp_BootVerify : ({ coring with core := { coring.core with state := 1 } } : State).core.state = 1 ∧ coring.core.state ≠ 1 ∧
    coring.mem.readBytes 0x10000000 4 ≠ [0x4B, 0x4C, 0x46, 0x49] := by decide +kernel

/-- The program of the core stands at 0x10000400, in machine mode or in user mode. -/
def standing (user : Bool) : CoreAt := { pc := 0x10000400, user := user, csrs := [] }

/-- PMP entry 0 lets the SRAM be read only. -/
def shielded : State := { coring with core := { coring.core with csr := { coring.core.csr with
  pmpcfg := setAt coring.core.csr.pmpcfg 0 0x89, pmpaddr := setAt coring.core.csr.pmpaddr 0 0x08008000 } } }

theorem hyp_Memory : (coring.coreAt (standing false)).core.csr.accessUser 2 = false ∧
    (coring.coreAt (standing true)).core.csr.accessUser 2 = true ∧
    (coring.coreAt (standing false)).core.csr.pmpAllows 0x20000000 4 2 false = true ∧
    (shielded.coreAt (standing false)).core.csr.pmpAllows 0x20000000 4 2 false = false ∧
    (coring.coreAt (standing false)).accessFaults 0x20000000 2 false = false ∧
    (shielded.coreAt (standing false)).accessFaults 0x20000003 2 false = false ∧
    (coring.coreAt (standing false)).accessFaults 0x7FFC 2 false = true ∧
    (coring.coreAt (standing true)).accessFaults 0x40003008 2 true = true ∧
    (coring.coreAt (standing false)).accessFaults 0x30000000 0 false = true ∧ coring.coreRuns = true ∧
    running.coreRuns = false ∧ running.accessFaults 0x7FFC 2 false = true ∧ running.accessFaults 0x20000000 1 false = false ∧
    0x1005DFFC + 4 ≤ 0x1005E000 ∧ 0x300000FC + 4 ≤ 0x30000100 := by decide +kernel

/-- The core is halted by the debug module. -/
def halting : State := { coring with core := { coring.core with halted := true } }

theorem hyp_Debug : coring.acc.sealed = false ∧ coring.mode ≠ .taper ∧ coring.core.state ≠ 0 ∧ coring.ceUp = true ∧
    coring.accessFaults 0x7FFC 2 false = true ∧ coring.accessFaults 0x8000 1 false = true ∧ coring.core.halted = false ∧
    halting.core.halted = true ∧ halting.acc.sealed = false ∧ halting.mode ≠ .taper ∧ halting.ceUp = true ∧
    ({ halting with acc := { halting.acc with sealed := true } } : State).acc.sealed = true := by decide +kernel

/-- Counter 3 of block 2 stands at its last value, counter 4 follows it, chained or not. -/
def counting (chain : Nat) : State := withSet 0x1C12 5 (0x80000041 + chain * 2 ^ 30) (withSet 0x1C12 4 0x80000041 { coring with
  perf := { coring.perf with counts := setAt (setAt coring.perf.counts 19 (2 ^ 48 - 1)) 20 41 } })

theorem hyp_Counters : ∀ chain ∈ [0, 1], (counting chain).perf.counts.length = 48 ∧ (counting chain).perf.ovf.length = 48 ∧
    ((counting chain).pwr.dom (blockDomain 2)).on = true ∧
    bitAt ((counting chain).perfSel 2 3) 31 = true ∧ bitAt ((counting chain).perfSel 2 3) 30 = false ∧
    (counting chain).perf.counts[19]? = some (2 ^ 48 - 1) ∧ (counting chain).perf.counts[20]? = some 41 ∧
    bitAt ((counting chain).perfSel 2 4) 31 = true ∧ bitAt ((counting chain).perfSel 2 4) 30 = (chain == 1) ∧
    (counting chain).perf.cur.partner 0 = some 0 ∧ (counting chain).perf.cur.partner 4 = none ∧ (counting chain).perf.uen = false ∧
    ({ counting chain with perf := { (counting chain).perf with uen := true } } : State).perf.uen = true ∧
    coring.perf.counts[19]? ≠ some (2 ^ 48 - 1) := by decide +kernel
/-! ### Hypotheses: the field links -/

/-- Primary address 7, IO-Link enabled. -/
def linked : State := withSet 0x1808 1 7 (withSet 0x1802 1 0x8000 running)

/-- A preamble: a command and a number of words. -/
def preamble (command n : Nat) : List Nat := [command, 0] ++ leBytes 2 n ++ [0, 0, 0, 0]

/-- A read request of the SPI host. -/
def hostWords : List Nat :=
  ({ type := 6, gen := 1, cls := 2, src := 0xFF, qual := 1, frame := 0, payload := [0x01010300, 0] } : Record).words

/-- A record that the host may not send. -/
def hostUnsound : List Nat :=
  ({ type := 4, gen := 1, cls := 2, src := 0xFF, qual := 1, frame := 0, payload := [0, 0] } : Record).words

/-- A record for the host. -/
def hostRecord : OutRec :=
  { record := { type := 5, gen := 1, cls := 2, src := 1, qual := 1, frame := 0, payload := [1, 2, 3] }, sirq := true }

/-- The host's queue holds two records. -/
def sending : State := { linked with q := { linked.q with spiOut := [hostRecord, hostRecord] } }

theorem hyp_Spi : (inSlot linked).lkUp = true ∧ preambleFaulty (preamble 0 0) = false ∧ natAt (preamble 0 0) 0 = 0 ∧
    preambleFaulty (preamble 3 0) = true ∧ natAt (preamble 1 hostWords.length) 0 = 1 ∧
    preambleFaulty (preamble 1 hostWords.length) = false ∧ preambleWords (preamble 1 hostWords.length) ≤ hostWords.length ∧
    preambleWords (preamble 1 hostWords.length) ≤ 512 - (inSlot linked).q.spiInWords ∧
    ((wholeRecords hostWords.length hostWords).any fun xs => match xs with
      | [x] => !x.bad
      | _ => false) = true ∧ (inSlot linked).frame.committing = true ∧
    linked.frame.committing = false ∧ linked.q.spiIn = [] ∧ linked.portWaits 1 = false ∧
    (linked.acc.waiting.any fun r => r.via.port == 1) = false ∧
    ((wholeRecords hostUnsound.length hostUnsound).any fun xs => match xs with
      | [x] => x.bad
      | _ => false) = true ∧ preambleFaulty (preamble 1 hostUnsound.length) = false ∧
    preambleWords (preamble 1 hostUnsound.length) ≤ hostUnsound.length ∧
    hostWords.length < preambleWords (preamble 1 (hostWords.length + 1)) ∧ State.reset.lkUp = false := by decide +kernel

theorem hyp_SpiRead : sending.lkUp = true ∧ preambleFaulty (preamble 2 hostRecord.record.size) = false ∧
    natAt (preamble 2 hostRecord.record.size) 0 = 2 ∧ sending.q.spiOut = hostRecord :: [hostRecord] ∧ sending.q.spiHeld = [] ∧
    preambleWords (preamble 2 hostRecord.record.size) = hostRecord.record.size ∧ hostRecord.record.size ≤ 20 ∧
    (∀ r ∈ [hostRecord], 2 ≤ r.record.size) ∧ hostRecord.record.size = hostRecord.record.words.length := by decide +kernel

/-- An IO-Link session in a state. -/
def iolIn (st : Nat) : State := { linked with
  iol := { linked.iol with state := st, config := 0x8002, downloading := st == 3 }, q := { linked.q with gens := [0, 1, 1, 1] } }

/-- An event of IO-Link is pending. -/
def reporting : State := { iolIn 3 with iol := { (iolIn 3).iol with
  events := [{ pend37 with dest := .iol, offered := true }] } }

/-- The master has been silent for a second. -/
def silent : State := { iolIn 1 with frame := { linked.frame with base := usNow 2000000 } }

theorem hyp_IoLink : linked.linksUp = true ∧ linked.pwr.state = .run ∧ bitAt (linked.on_ 0x1802 1) 15 = true ∧ linked.q.gens.length = 4 ∧
    linked.pwr.doms.length = 6 ∧ (iolIn 1).lkUp = true ∧ (iolIn 1).iol.state ≠ 0 ∧ (iolIn 3).iol.state = 3 ∧ 0 < (iolIn 3).iol.outLen ∧
    linked.iol.state = 0 ∧ bitAt ((withSet 0x1802 1 0 linked).on_ 0x1802 1) 15 = false ∧ State.reset.linksUp = false ∧
    (reporting.iol.events.length = 1 ∧ reporting.iol.state = 3 ∧ reporting.lkUp = true) ∧
    (iolIn 1).frame.now < (iolIn 1).iol.heard + usNow 1000000 ∧ silent.iol.state ≠ 0 ∧
    silent.iol.heard + usNow 1000000 ≤ silent.frame.now ∧ silent.q.gens.length = 4 := by decide +kernel

theorem hyp_Isdu : (iolIn 1).iol.busy = false ∧ ((rowOf (key 0x0300 1)).any fun row => row.rw && decide (row.gen ≤ (iolIn 1).sessionGen .isdu) &&
      decide (row.ty.bytes ≤ 232)) = true ∧ readsZero 0x0300 1 = false ∧ readsEmpty 0x0300 1 = false ∧ (iolIn 1).mode ≠ .taper ∧
    highestSub 0x0300 ((iolIn 1).sessionGen .isdu) ≠ 0 ∧ indexExists 0x0300 = true ∧
    (iolIn 1).servesNow ((iolIn 1).asked .isdu ((iolIn 1).sessionGen .isdu) 1 0x0300 1 0 []) := by
  unfold State.servesNow
  decide +kernel

theorem hyp_IsduType : (rowOf (key 0x0300 1)).map Row.ty = some (.u 32) := by decide +kernel

/-- A download has written a value to an entry that is not listed for Data Storage. -/
def downloaded : State := { iolIn 3 with iol := { (iolIn 3).iol with download := [(0x1802, 1, [0])] } }

theorem hyp_DataStorage : (withSet 0x1803 0x11 1 (iolIn 3)).on_ 0x1803 0x11 ≠ 0 ∧ (iolIn 3).on_ 0x1803 0x11 = 0 ∧ (iolIn 3).iol.downloading = true ∧
    (iolIn 3).iol.download = [] ∧ downloaded.iol.downloading = true ∧ downloaded.iol.download = (0x1802, 1, [0]) :: [] ∧
    downloaded.dsItems.contains (0x1802, 1) = false ∧ (downloaded.applyDownload downloaded.iol.download).isNone = true ∧
    ((iolIn 3).applyDownload (iolIn 3).iol.download).isSome = true ∧ (iolIn 1).iol.downloading = false := by decide +kernel

/-- An M-Bus session, with a kept telegram of FCB 1. -/
def onBus : State := { linked with
  mbus := { linked.mbus with session := true, fcb := some 1, last := [0x72], telegram := 1 }, q := { linked.q with gens := [0, 1, 0, 1] } }

/-- The same, selected by its identification. -/
def selectedOn : State := { onBus with mbus := { onBus.mbus with selected := true } }

/-- Nothing has come over the bus for a day. -/
def quiet : State := { onBus with frame := { onBus.frame with base := 86400 * 32768 * 15625 } }

theorem hyp_MBus : linked.lkUp = true ∧ linked.on_ 0x1808 1 = 7 ∧ linked.q.gens.length = 4 ∧ 0xB8 ≤ 0xBB ∧ linked.on_ 0x1808 1 ≠ 0 ∧
    linked.selectionMatches 0xFFFFFFFF 0xFFFF 0xFF 0xFF = true ∧ linked.selectionMatches 1 2 3 4 = false ∧ linked.mbusAddressed 8 = false ∧
    onBus.mbus.session = true ∧ onBus.q.gens.length = 4 ∧ linked.mbusAddressed 7 = true ∧ linked.mbusAddressed 255 = true ∧
    linked.mbusAddressed 253 = false ∧ selectedOn.mbusAddressed 253 = true ∧ selectedOn.selectionMatches 1 2 3 4 = false ∧
    linked.mbus.session = false ∧ onBus.frame.absTick < onBus.mbus.heard + 32768 * onBus.on_ 0x1808 8 ∧
    quiet.mbus.session = true ∧ quiet.mbus.heard + 32768 * quiet.on_ 0x1808 8 ≤ quiet.frame.absTick ∧ quiet.q.gens.length = 4 ∧
    quiet.mbus.heard + 32768 * 600 ≤ quiet.frame.absTick ∧ onBus.frame.absTick < onBus.mbus.heard + 32768 * 600 := by decide +kernel

/-- Error flags stand, one of them shown by the telegram before. -/
def flagged : State := { onBus with mbus := { onBus.mbus with flags := 5, shown := 1 } }

/-- A dictionary request is open. -/
def asked8 : State := after (.mbusDictionaryRequest 7 false 1 8 0x0300 1 []) (inSlot onBus)

theorem hyp_MBusAnswers : onBus.lkUp = true ∧ onBus.mbusAddressed 7 = true ∧ onBus.mbus.fcb = some (if true then 1 else 0) ∧ onBus.mbus.last ≠ [] ∧
    onBus.mbus.fcb ≠ some (if false then 1 else 0) ∧ onBus.mbus.request = none ∧ onBus.mbus.telegram = 1 ∧ onBus.mbus.flags = 0 ∧
    flagged.lkUp = true ∧ flagged.mbusAddressed 7 = true ∧ flagged.mbus.flags - (flagged.mbus.flags &&& flagged.mbus.shown) ≠ 0 ∧
    flagged.mbus.fcb ≠ some (if false then 1 else 0) ∧ asked8.mbus.request.isSome = true ∧ asked8.mbusAddressed 7 = true ∧
    (inSlot onBus).mbus.request = none ∧ (inSlot onBus).frame.committing = true := by decide +kernel

/-- The device has no primary address. -/
def unaddressed : State := withSet 0x1808 1 0 onBus

theorem hyp_MBusAddress : unaddressed.lkUp = true ∧ unaddressed.mbusAddressed 0 = true ∧ 0 = unaddressed.on_ 0x1808 1 ∧
    unaddressed.mode ≠ .taper ∧ unaddressed.modePending = none ∧ unaddressed.acc.sealed = false ∧
    ({ linked with mode := .taper } : State).mode = .taper := by decide +kernel

/-! ### Hypotheses: the powerline link -/

/-- The powerline link is enabled, with address 5. -/
def mains : State := withSet 0x1900 1 0x80 (withSet 0x1900 4 5 running)

/-- The tracker is locked on sixteen crossings of 50 Hz. -/
def locked : State := { mains with
  pl := { mains.pl with rising := (List.range 16).map fun i => 1000 + 20971 * i, goodRun := 16, locked := true } }

/-- Two crossings are held. -/
def twoCrossings : State := { mains with pl := { mains.pl with rising := [100, 21071] } }

theorem hyp_Crossings : running.plOn = false ∧ mains.plOn = true ∧ mains.pl.rising = [] ∧ mains.pl.falling = [] ∧
    twoCrossings.pl.rising.length < 3 ∧ twoCrossings.pl.rising.getLast? = some 21071 ∧
    |((21071 + 20972 : Nat) : Rat) - ((21071 : Nat) : Rat) - ((1 : Nat) : Rat) * mains.mainsPeriod| ≤ mains.mainsPeriod / 100 ∧
    locked.plOn = true ∧ locked.zcLine true = some (20971, 1000, 15) ∧ locked.pl.rising ≠ [] ∧ locked.pl.badRun + 1 < 8 ∧
    |((1000 + 20971 * 20 + 50 : Nat) : Rat) - (1000 + 20971 * ((20 : Int) : Rat))| ≤ 1048576 / 10000 ∧
    (running.pwr.dom 2).on = true ∧ (State.reset.pwr.dom 2).on = false ∧ (1000 : Rat) ≤ 20971 ∧
    (∀ k ∈ [1, 2, 3, 4, 5, 6, 7, 8], mains.mainsPeriod / 100 <
      |((21071 + 5000 : Nat) : Rat) - ((21071 : Nat) : Rat) - ((k : Nat) : Rat) * mains.mainsPeriod|) := by decide +kernel

theorem hyp_CrossingRejected (n : Int) :
    (1048576 : Rat) / 10000 < |((1000 + 20971 * 20 + 500 : Nat) : Rat) - (1000 + 20971 * (n : Rat))| := by
  rcases lt_or_ge (20 : Int) n with h | h
  · have h' : (21 : Rat) ≤ n := by exact_mod_cast h
    rw [lt_abs]
    right
    push_cast
    linarith
  · have h' : (n : Rat) ≤ 20 := by exact_mod_cast h
    rw [lt_abs]
    left
    push_cast
    linarith

/-- A transmission of one bit, with its pulses sent. -/
def txOf (sent : Nat) : PlTx := { bytes := [1], halves := [true, false], sent := sent, admitted := true, after := 0 }

/-- Seven bad crossings in a row, with a transmission under way. -/
def losing (tx : Option PlTx) : State := { locked with pl := { locked.pl with badRun := 7, tx := tx } }

theorem hyp_CrossingsLost : 7 ≤ (losing none).pl.badRun ∧ locked.pl.badRun < 7 ∧ (∀ e ∈ (losing none).set.edits, e.due ≠ .txEnd) ∧
    (losing none).pl.tx = none ∧ (losing (some (txOf 0))).pl.tx ≠ none ∧ (losing none).zcLine true = some (20971, 1000, 15) := by
  decide +kernel

/-- The pulses of a transmission; in a frame or in none. -/
def sendingPulse (sent : Nat) (next : Option PlTx) (inFrame : Bool) : State := { locked with
  frame := { locked.frame with running := inFrame }
  pl := { locked.pl with tx := some (txOf sent), txNext := next, pulseAt := some 600000, ple := true } }

theorem hyp_Pulses : (sendingPulse 0 none true).plOn = true ∧ (sendingPulse 0 none true).pl.locked = true ∧
    (sendingPulse 0 none true).nextPulse = some 590681 ∧ (sendingPulse 0 none true).frame.base + 8 * 73835 ≤ 590681 + usNow 20 ∧
    590681 ≤ (sendingPulse 0 none true).frame.base + 8 * 73835 + usNow 20 ∧
    590681 + usNow 20 < (sendingPulse 0 none true).frame.base + 8 * 80000 ∧ locked.nextPulse = none := by decide +kernel

theorem hyp_TransmissionEnds : ∀ running ∈ [true, false], ∀ next ∈ [none, some { txOf 0 with admitted := false }],
    (sendingPulse 2 next running).pl.tx = some (txOf 2) ∧ (txOf 2).admitted = true ∧ (txOf 2).sent = (txOf 2).halves.length ∧
    (sendingPulse 2 next running).frame.running = running ∧ (sendingPulse 2 next running).pleFall ≤ (sendingPulse 2 next running).frame.endCyc ∧
    (sendingPulse 2 next running).pl.txNext = next ∧ (txOf 0).sent ≠ (txOf 0).halves.length := by decide +kernel

theorem hyp_TransmissionGoesOn : ({ sendingPulse 2 none true with frame := { locked.frame with length := 2 } } : State).frame.endCyc <
    ({ sendingPulse 2 none true with frame := { locked.frame with length := 2 } } : State).pleFall := by decide +kernel

/-- The pairs of half-cycles that carry a frame. -/
def pairsOf (bytes : List Nat) : List ((Nat × Nat) × (Nat × Nat)) :=
  (locked.plHalves bytes).map fun b => if b then ((500, 100), (100, 100)) else ((100, 100), (500, 100))

/-- A frame of a kind, TOG 1, from its addresses and payload. -/
def frameBytes (kind gen dst src : Nat) (payload : List Nat) : List Nat :=
  [gen * 16 + kind, 128 + payload.length] ++ leBytes 2 dst ++ leBytes 2 src ++ payload

/-- A frame is judged good. -/
def goodAs (b : List Nat) (s : State) : Bool := match judgeFrame (s.receive (pairsOf b)).bits.reverse with
  | .good x => decide (x = b)
  | _ => false

/-- A damaged frame is discarded. -/
def badAs (b : List Nat) (s : State) : Bool := match judgeFrame (s.receive (setAt (pairsOf b) 40 ((100, 100), (100, 100)))).bits.reverse with
  | .discarded _ _ => true
  | _ => false

theorem hyp_FramesReceived : locked.plRepeat = 1 ∧ locked.pl.quietPos = [] ∧ locked.pl.quietNeg = [] ∧ mains.pl.locked = false ∧
    goodAs (frameBytes 0 0 5 9 [1]) locked = true ∧ locked.forDevice (frameBytes 0 0 5 9 [1]) = true ∧
    locked.forDevice (frameBytes 0 0 6 9 [1]) = false ∧ locked.plMaster = false ∧ frameKind (frameBytes 0 0 5 9 [1]) = 0 ∧
    frameDst (frameBytes 0 0 5 9 [1]) ≠ 0xFFFF ∧ pollOk (framePayload (frameBytes 0 0 5 9 [1])) = true ∧ locked.pl.sessions.length = 24 := by
  decide +kernel

theorem hyp_FramesDiscarded : goodAs (frameBytes 0 0 6 9 [1]) locked = true ∧ badAs (frameBytes 0 0 5 9 [1]) locked = true ∧
    (match judgeFrame (locked.receive []).bits.reverse with
      | .none => true
      | _ => false) = true := by decide +kernel

/-- A receiver that has sensed the wake pattern, or half-cycles with a pulse at one place too many. -/
def wakeSensing (extra : Nat) : State := { locked with
  pl := { locked.pl with sensed := (List.range 15).map fun i => (i % 2 == 0, i % 2 == 0 || i == extra) } }

theorem hyp_WakePattern : (wakeSensing 20).pl.sensed.length = 15 ∧ (wakeSensing 20).plOn = true ∧ (wakeSensing 20).pl.locked = true ∧ locked.pl.sensed.length ≠ 15 ∧
    (∀ i < 15, (((wakeSensing 20).pl.sensed.getD i (false, false)).2 = true ↔ i % 2 = 0)) ∧
    (∃ i < 15, ¬(((wakeSensing 3).pl.sensed.getD i (false, false)).2 = true ↔ i % 2 = 0)) := by decide +kernel

/-- A run of half-cycles of alternating polarity, each sensed at the crossing that ends it, is the wake pattern (R407). -/
theorem test_wake_sensed :
    ((List.range 15).foldl (fun (s : State) i => s.senseHalf (i % 2 == 1) (some (if i % 2 = 0 then (500, 100) else (100, 100)))) locked).pl.wakeSeen = true := by
  decide +kernel

/-- A session of the master at address 9. -/
def partner : PlSession := { PlSession.free with address := 9, gen := 1 }

/-- A POLL of a payload waits in a session. -/
def polled (payload : List Nat) (x : PlSession) : State := { locked with
  pl := { locked.pl with inbox := [frameBytes 0 1 5 9 payload], sessions := setAt locked.pl.sessions 3 x } }

/-- The payload of a POLL. -/
def pollBytes (op seg index sub total : Nat) (data : List Nat) : List Nat :=
  [op, seg] ++ leBytes 2 index ++ [sub, 0] ++ leBytes 2 total ++ data

theorem hyp_PollStatus : (polled [1] partner).pollToServe 1 3 (frameBytes 0 1 5 9 [1]) ∧ (polled [1] partner).pl.toldElsewhere 3 = false := by
  unfold State.pollToServe
  decide +kernel

/-- The frame of a READ of FRAME_TICKS. -/
def readFrame : List Nat := frameBytes 0 1 5 9 (pollBytes 2 0 0x0300 1 0 [])

/-- It waits. -/
def reading : State := polled (pollBytes 2 0 0x0300 1 0 []) partner

theorem hyp_PollRead : reading.pollToServe 2 3 readFrame ∧
    reading.servesNow (reading.asked (.powerline 3) (frameGen readFrame) 1 (pollIndex readFrame) (pollSub readFrame) 0 []) ∧
    reading.formAbort (reading.asked (.powerline 3) (frameGen readFrame) 1 (pollIndex readFrame) (pollSub readFrame) 0 []) = abortOk ∧
    ((rowOf (key (pollIndex readFrame) (pollSub readFrame))).any fun row => row.rw) = true ∧
    readsZero (pollIndex readFrame) (pollSub readFrame) = false ∧ readsEmpty (pollIndex readFrame) (pollSub readFrame) = false ∧
    customerIndex (pollIndex readFrame) = false := by
  unfold State.pollToServe State.servesNow
  decide +kernel

theorem hyp_PollReadNext :
    (polled (pollBytes 4 3 0x1A30 1 0 []) { partner with copy := some (List.range 50) }).pollToServe 4 3
      (frameBytes 0 1 5 9 (pollBytes 4 3 0x1A30 1 0 [])) ∧
    ((polled (pollBytes 4 3 0x1A30 1 0 []) { partner with copy := some (List.range 50) }).pl.session 3).copy = some (List.range 50) := by
  unfold State.pollToServe
  decide +kernel

/-- The first segment of a WRITE, and a later one. -/
def segment (seg : Nat) : List Nat := pollBytes 3 seg 0x0150 1 40 (List.range 16)

theorem hyp_PollWrite : (polled (segment 0) partner).pollToServe 3 3 (frameBytes 0 1 5 9 (segment 0)) ∧
    pollSeg (frameBytes 0 1 5 9 (segment 0)) = 0 ∧ pollTotal (frameBytes 0 1 5 9 (segment 0)) = 40 ∧
    (pollData (frameBytes 0 1 5 9 (segment 0))).length = 16 ∧
    (polled (segment 2) partner).pollToServe 3 3 (frameBytes 0 1 5 9 (segment 2)) ∧ pollSeg (frameBytes 0 1 5 9 (segment 2)) = 2 := by
  unfold State.pollToServe
  decide +kernel

/-- A METROLOGY envelope of XTAL_AGREE with a MAC. -/
def envelope (mac : List Nat) : List Nat := envelopeBytes 2 0x0400 3 5 (leBytes 4 300) mac

/-- The last segment of its WRITE, after the first. -/
def lastSegment (seg : Nat) (mac : List Nat) : List Nat := frameBytes 0 1 5 9 (pollBytes 5 seg 0x0150 1 24 mac)

/-- It waits, its assembly holding the first. -/
def assembling (seg : Nat) (mac : List Nat) : State := { polled (pollBytes 5 seg 0x0150 1 24 mac)
    { partner with assembly := some (0x0150, 1, 24, (envelope mac).take 16), seg := 1 } with
  mode := .config, acc := { locked.acc with metrologyKey := some mk } }

theorem hyp_PollWriteMore : (assembling 1 [1, 2, 3, 4, 5, 6, 7, 8]).pollToServe 5 3 (lastSegment 1 [1, 2, 3, 4, 5, 6, 7, 8]) ∧
    pollSeg (lastSegment 2 [1, 2, 3, 4, 5, 6, 7, 8]) ≠ ((assembling 2 [1, 2, 3, 4, 5, 6, 7, 8]).pl.session 3).seg ∧
    (assembling 2 [1, 2, 3, 4, 5, 6, 7, 8]).pollToServe 5 3 (lastSegment 2 [1, 2, 3, 4, 5, 6, 7, 8]) := by
  unfold State.pollToServe
  decide +kernel

/-- The MAC of the envelope. -/
def writeMac : List Nat := macFor mk 2 0x0400 3 5 (leBytes 4 300)

theorem writeMac_bytes : ∃ a b c d e f g h, writeMac = [a, b, c, d, e, f, g, h] := by
  have h : writeMac.length = 8 := by decide +kernel
  match writeMac, h with
  | [a, b, c, d, e, f, g, h], _ => exact ⟨a, b, c, d, e, f, g, h, rfl⟩

/-- The request of the assembled write. -/
def assembledRequest (mac : List Nat) : Request :=
  (assembling 1 mac).asked (.powerline 3) (frameGen (lastSegment 1 mac)) 2 0x0150 1 0
    ((envelope mac).take 16 ++ pollData (lastSegment 1 mac))

theorem assembling_front (a b c d e f g h : Nat) :
    (assembling 1 [a, b, c, d, e, f, g, h]).frontPoll = some (lastSegment 1 [a, b, c, d, e, f, g, h], 3) := by
  have hm : (assembling 1 [a, b, c, d, e, f, g, h]).plMaster = false := (show _ = locked.plMaster from rfl).trans (by decide +kernel)
  have hk : frameKind (lastSegment 1 [a, b, c, d, e, f, g, h]) = 0 := by simp [frameKind, lastSegment, frameBytes, natAt]
  have hf : ((List.range 24).find? fun n => ((assembling 1 [a, b, c, d, e, f, g, h]).pl.session n).address ==
      frameSrc (lastSegment 1 [a, b, c, d, e, f, g, h])) = some 3 := by rfl
  have hi : (assembling 1 [a, b, c, d, e, f, g, h]).pl.inbox = [lastSegment 1 [a, b, c, d, e, f, g, h]] := rfl
  simp only [State.frontPoll, hi, hm, hk, hf]
  simp

theorem hyp_LastSegment : (assembling 1 writeMac).pollToServe 5 3 (lastSegment 1 writeMac) ∧
    pollSeg (lastSegment 1 writeMac) = ((assembling 1 writeMac).pl.session 3).seg ∧
    ((assembling 1 writeMac).pl.session 3).assembly = some (0x0150, 1, 24, (envelope writeMac).take 16) ∧
    pollIndex (lastSegment 1 writeMac) = 0x0150 ∧ pollSub (lastSegment 1 writeMac) = 1 ∧
    ((envelope writeMac).take 16).length + (pollData (lastSegment 1 writeMac)).length = 24 ∧
    (pollData (lastSegment 1 writeMac)).length ≤ 16 := by
  have ho : (assembling 1 writeMac).plOn = true := (show _ = locked.plOn from rfl).trans (by decide +kernel)
  obtain ⟨a, b, c, d, e, f, g, h, hm⟩ := writeMac_bytes
  rw [hm] at ho ⊢
  have hg : frameGen (lastSegment 1 [a, b, c, d, e, f, g, h]) = 1 := by simp [frameGen, lastSegment, frameBytes, natAt]
  exact ⟨⟨ho, rfl, assembling_front a b c d e f g h, rfl, rfl, .inl rfl, hg.le⟩, rfl, rfl, rfl, rfl, rfl,
    by show 8 ≤ 16; decide⟩

theorem hyp_PollWriteAccepted : (assembling 1 writeMac).accepts (assembledRequest writeMac) 0x0400 3 (leBytes 4 300) := by
  refine accepts_of (openedBy (assembling 1 writeMac) (assembledRequest writeMac) 2 5 0x0400 3 (leBytes 4 300)) _ _ _ _ _ ?_
    (by decide +kernel)
  have h : (envelope writeMac).take 16 ++ pollData (lastSegment 1 writeMac) = envelope writeMac := by
    obtain ⟨a, b, c, d, e, f, g, h, hm⟩ := writeMac_bytes
    rw [hm]
    rfl
  have he : (assembledRequest writeMac).envelope = some ⟨2, 0x0400, 3, 5, leBytes 4 300, envelopeBytes 2 0x0400 3 5 (leBytes 4 300) [],
      writeMac⟩ := by
    have h2 : (assembledRequest writeMac).envelope = Envelope.of ((envelope writeMac).take 16 ++ pollData (lastSegment 1 writeMac)) := rfl
    rw [h2, h]
    exact Envelope_of_bytes _ _ _ _ _ _ (by decide) (by decide) (by decide) (by decide) (by decide +kernel) (by decide +kernel)
  have hr : ((assembling 1 writeMac).expect (assembledRequest writeMac)).roleKey 2 = some mk := rfl
  have hk : ((assembling 1 writeMac).expect (assembledRequest writeMac)).macOk ⟨2, 0x0400, 3, 5, leBytes 4 300,
      envelopeBytes 2 0x0400 3 5 (leBytes 4 300) [], writeMac⟩ = true := by
    simp only [State.macOk, hr]
    simp [writeMac, macFor]
  exact authenticate_ok _ _ _ he (by rintro ⟨ha, -⟩; exact absurd ha (by decide)) (by decide +kernel)
    hk (by decide +kernel)

/-- A whole value of CRYSTAL_RETRY_FRAMES in one WRITE. -/
def wholeWrite : List Nat := pollBytes 3 0 0x0400 4 2 [100, 0]

/-- It waits, in CONFIG. -/
def writing : State := { polled wholeWrite partner with mode := .config }

theorem hyp_PollWriteWhole : writing.pollToServe 3 3 (frameBytes 0 1 5 9 wholeWrite) ∧
    pollSeg (frameBytes 0 1 5 9 wholeWrite) = 0 ∧
    (pollData (frameBytes 0 1 5 9 wholeWrite)).length = pollTotal (frameBytes 0 1 5 9 wholeWrite) ∧
    pollTotal (frameBytes 0 1 5 9 wholeWrite) ≤ 16 ∧
    writing.servesNow (writing.asked (.powerline 3) 1 2 0x0400 4 0 [100, 0]) ∧
    writing.formAbort (writing.asked (.powerline 3) 1 2 0x0400 4 0 [100, 0]) = abortOk ∧
    frameGen (frameBytes 0 1 5 9 wholeWrite) = 1 ∧ pollData (frameBytes 0 1 5 9 wholeWrite) = [100, 0] ∧
    pollIndex (frameBytes 0 1 5 9 wholeWrite) = 0x0400 ∧ pollSub (frameBytes 0 1 5 9 wholeWrite) = 4 ∧
    ((rowOf (key 0x0400 4)).any fun row => decide (row.role ≠ .pub)) = true ∧ customerIndex 0x0400 = false := by
  unfold State.pollToServe State.servesNow
  decide +kernel

/-- A POLL whose kept answer, wait and GEN are given. -/
def pollIn (wait : PlWait) (reply : Option (List Nat)) (tog : Nat) (payload : List Nat) : State :=
  polled payload { partner with wait := wait, reply := reply, tog := tog }

/-- A POLL of GEN 2 in a session of generation 1. -/
def newer : State := { polled [1] partner with pl := { (polled [1] partner).pl with inbox := [frameBytes 0 2 5 9 [1]] } }

theorem hyp_PollsAnswered : (∀ s ∈ [pollIn .none (some [7]) 1 [1], pollIn (.busy 2 0) (some [7]) 1 [1], pollIn (.ready [7]) none 0 [1],
      pollIn (.busy 2 0) none 0 [1]],
      s.plOn = true ∧ s.pl.sessions.length = 24 ∧ s.frontPoll = some (frameBytes 0 1 5 9 [1], 3) ∧
      natAt (framePayload (frameBytes 0 1 5 9 [1])) 0 = 1) ∧
    frameTog (frameBytes 0 1 5 9 [1]) = 1 ∧ newer.plOn = true ∧ newer.pl.sessions.length = 24 ∧
    newer.frontPoll = some (frameBytes 0 2 5 9 [1], 3) ∧ (newer.pl.session 3).gen < frameGen (frameBytes 0 2 5 9 [1]) ∧
    (newer.pl.session 3).wait = .none ∧ (newer.pl.session 3).reply = none ∧ locked.frontPoll = none := by decide +kernel

theorem hyp_ReplyDeadline : ∀ w ∈ [PlWait.busy 2 0, .ready [7]],
    (pollIn w none 0 (pollBytes 2 0 0x0300 1 0 [])).pl.sessions.length = 24 ∧
    (pollIn w none 0 (pollBytes 2 0 0x0300 1 0 [])).frontPoll = some (readFrame, 3) ∧
    ((pollIn w none 0 (pollBytes 2 0 0x0300 1 0 [])).pl.session 3).wait = w := by decide +kernel

/-- The master of two slaves, with two repeats. -/
def master : State := withSet 0x1920 3 77 (withSet 0x1920 7 78 (withSet 0x1900 7 2 (withSet 0x1900 1 0xC0 locked)))

/-- A POLL of slave 2 waits for its REPLY. -/
def awaiting (repeats : Nat) (inbox : List (List Nat)) : State := { master with pl := { master.pl with
  poll := some { slave := 2, payload := [1], repeats := repeats, request := true }, inbox := inbox, cycleOn := true
  sessions := setAt master.pl.sessions 2 { PlSession.free with address := 77, tog := 1, gen := 1 } } }

/-- A cycle began at tick 0, the frame at `base`. -/
def onCycle (base : Nat) : State := withSet 0x1900 9 60
  { master with pl := { master.pl with cycleAt := some 0 }, frame := { master.frame with base := base } }

theorem hyp_Master : master.plOn = true ∧ master.plMaster = true ∧ master.pl.cycleOn = false ∧ master.pl.tx = none ∧
    master.pl.sessions.length = 24 ∧ (∀ m, m < 2 → master.on_ 0x1920 (m + 1) = 0) ∧ master.on_ 0x1920 (2 + 1) ≠ 0 ∧
    master.pl.request = none ∧ master.pl.cycleAt = none ∧
    (onCycle 0).pl.cycleAt = some 0 ∧ (onCycle 0).frame.absTick < 0 + 32768 * (onCycle 0).on_ 0x1900 9 ∧
    0 + 32768 * (onCycle (86400 * 32768 * 15625)).on_ 0x1900 9 ≤ (onCycle (86400 * 32768 * 15625)).frame.absTick ∧ bitAt (master.on_ 0x1900 1) 2 = false ∧ (∀ m, m < 24 → (withSet 0x1900 1 0xC0 locked).on_ 0x1920 (m + 1) = 0) := by
  decide +kernel

theorem hyp_MasterReplies : (awaiting 0 [frameBytes 1 1 5 77 [1, 0, 2, 0]]).awaitedReply (frameBytes 1 1 5 77 [1, 0, 2, 0]) = true ∧
    (awaiting 0 []).pl.status.length = 24 ∧ (awaiting 0 [frameBytes 1 1 5 78 [1]]).awaitedReply (frameBytes 1 1 5 78 [1]) = false ∧
    master.pl.poll = none ∧ (awaiting 0 []).pl.tx = none ∧ 0 < (awaiting 0 []).on_ 0x1900 7 ∧
    (awaiting 2 []).on_ 0x1900 7 ≤ 2 ∧ (awaiting 0 []).pl.sessions.length = 24 := by decide +kernel

/-- Session 3 has been heard of at tick 0. -/
def heardOf (base : Nat) : State := { polled [1] partner with frame := { locked.frame with base := base } }

theorem hyp_SessionIdle : 3 < (heardOf 0).pl.sessions.length ∧ ((heardOf 0).pl.session 4).address = 0 ∧
    ((heardOf 0).pl.session 3).address ≠ 0 ∧
    (heardOf 0).frame.absTick < ((heardOf 0).pl.session 3).heard + 32768 * (heardOf 0).on_ 0x1900 8 ∧
    ((heardOf (86400 * 32768 * 15625)).pl.session 3).heard + 32768 * (heardOf (86400 * 32768 * 15625)).on_ 0x1900 8 ≤
      (heardOf (86400 * 32768 * 15625)).frame.absTick := by decide +kernel

theorem hyp_MasterRequest : master.acceptsWrite op 0x1921 1 ([2, 0, 1, 0, 0, 0, 0, 0] ++ List.replicate 18 0) ∧ master.pl.tx = none :=
  ⟨accepts_plain _ _ _ _ _ (by decide +kernel), rfl⟩

/-! ### Hypotheses: the display -/

/-- An e-paper panel whose region 3 has three segments, asked for their levels 3; the waveform of 0 to 3 in band 0. -/
def paper : State := withSet 0x1A00 1 1 (withSet 0x1A01 4 7 (withSet 0x1A02 1 0x3F
  (withSet 0x1A10 4 (3 + 2 ^ 8 + 2 * 2 ^ 10 + 2 ^ 12) running)))

/-- The update has been asked for. -/
def wanted : State := after (.dispUpdate op 8) paper

/-- The plan of the update that runs or waits in region 3, and the ledger's times for its bursts. -/
def planOf (s : State) : Option (DispRun × List Nat) := (s.disp.region 3).run.bind fun u => s.placeUpdate 3 u

/-- The times of its bursts. -/
def bursts : List Nat := ((planOf wanted).map Prod.snd).getD []

/-- It is admitted. -/
def admitted : State := after (.displayUpdateAdmitted 3 bursts) wanted

/-- Its bursts before S have charged the reservoirs. -/
def charged : State := (bursts.take 8).foldl (fun s b => after (.pumpBurst 3 b) s) admitted

/-- A cycle of the tick that ends at S of the update of a region. -/
def startCyc (s : State) (r : Nat) : Nat :=
  s.frame.cycOfTick (((s.disp.region r).run.map fun u => (s.startPhase u 0).2 - 1).getD 0) + 1

/-- That of region 3. -/
def atS : Nat := startCyc charged 3

/-- Its waveform has begun. -/
def waving : State := after (.waveformStart 3 atS) charged

/-- Its three phases are driven. -/
def driven : State := [0, 1, 2].foldl (fun s _ => after (.drivenPhase 14000 14000) s) waving

theorem hyp_Update : (withSet 0x1A00 1 0 paper).acceptsWrite op 0x1A02 2 (leBytes 2 8) ∧ (withSet 0x1A00 1 0 paper).dispMode ≠ 1 ∧
    paper.acceptsWrite op 0x1A02 2 (leBytes 2 (2 ^ 3)) ∧ paper.dispMode = 1 ∧ (paper.disp.region 3).run = none ∧
    paper.disp.regions.length = 16 ∧ charged.acceptsWrite op 0x1A02 2 (leBytes 2 (2 ^ 3)) ∧ (charged.disp.region 3).queued = none ∧
    ((charged.disp.region 3).run.any fun u => u.started) = true ∧ charged.disp.regions.length = 16 :=
  ⟨accepts_plain _ _ _ _ _ (by decide +kernel), by decide +kernel, accepts_plain _ _ _ _ _ (by decide +kernel), by decide +kernel,
    by decide +kernel, by decide +kernel, accepts_plain _ _ _ _ _ (by decide +kernel), by decide +kernel, by decide +kernel, by decide +kernel⟩

theorem hyp_UpdateRequested : ((wanted.disp.region 3).run.any fun u => !u.started) = true ∧
    wanted.acceptsWrite op 0x1A02 2 (leBytes 2 (2 ^ 3)) :=
  ⟨by decide +kernel, accepts_plain _ _ _ _ _ (by decide +kernel)⟩

/-- The charge of the update on the slack of its frame. -/
def extraOf (s : State) : Nat := s.burstSlack (bursts ++ s.otherBursts 3) - s.burstSlack (s.otherBursts 3)

/-- The same with so much work admitted before it that its charge has no room. -/
def crowded : State := { wanted with frame := { wanted.frame with acEnd := wanted.limit } }

/-- The frames are too short for a burst. -/
def unplaced : State := withSet 0x0300 1 4 { wanted with frame := { wanted.frame with length := 4 } }

theorem hyp_UpdateAdmitted : ((wanted.disp.region 3).run.any fun u => !u.started && (wanted.placeUpdate 3 u).isSome) = true ∧
    dispJob 3 ∈ wanted.frame.dynamic ∧ dispJob 3 ∉ wanted.frame.tried ∧ wanted.updateNext 3 = true ∧ wanted.dispMode = 1 ∧
    wanted.frame.running = true ∧ wanted.disp.regions.length = 16 ∧ bursts.length = 8 ∧
    max wanted.frame.acEnd wanted.frame.nowQ + extraOf wanted + wanted.plSetAside ≤ wanted.limit ∧
    wanted.disp.regions.length = 16 ∧ crowded.limit < max crowded.frame.acEnd crowded.frame.nowQ + extraOf crowded + crowded.plSetAside ∧ extraOf crowded ≠ 0 ∧
    (planOf crowded).map Prod.snd = some bursts ∧ crowded.updateNext 3 = true := by decide +kernel

theorem hyp_UpdateUnplaced : ((unplaced.disp.region 3).run.any fun u => !u.started && (unplaced.placeUpdate 3 u).isNone) = true ∧
    dispJob 3 ∈ unplaced.frame.dynamic ∧ dispJob 3 ∉ unplaced.frame.tried ∧ unplaced.updateNext 3 = true ∧ unplaced.dispMode = 1 ∧
    unplaced.frame.running = true := by decide +kernel

theorem hyp_PumpBurst : ((admitted.disp.region 3).run.any fun u => admitted.disp.burstDue u && admitted.updateOn 3 u &&
      (u.at_[u.done]? == some (admitted.frame.base + 8 * natAt bursts 0))) = true ∧ admitted.disp.regions.length = 16 ∧
    ((charged.disp.region 3).run.any fun u => !charged.disp.burstDue u) = true := by decide +kernel

theorem hyp_Waveform : ((charged.disp.region 3).run.any fun u => charged.updateOn 3 u && decide (u.pre ≤ u.done) && !u.waving &&
      decide (charged.frame.tickFrom atS = (charged.startPhase u atS).2)) = true ∧
    charged.dispMode = 1 ∧ charged.disp.regions.length = 16 ∧ charged.disp.clockRuns = false ∧ waving.disp.clockRuns = true ∧
    ((waving.disp.region 3).run.any fun u => u.waving) = true := by decide +kernel

/-- Region 4 waits for S while the waveform of region 3 runs. -/
def second : State := { waving with disp := { waving.disp with regions := setAt waving.disp.regions 4 (charged.disp.region 3) } }

theorem hyp_WaveformSecond : ((second.disp.region 4).run.any fun u => second.updateOn 4 u && decide (u.pre ≤ u.done) && !u.waving &&
      decide (second.frame.tickFrom (startCyc second 4) = (second.startPhase u (startCyc second 4)).2)) = true ∧
    second.dispMode = 1 ∧ second.disp.clockRuns = true ∧ second.disp.regions.length = 16 := by decide +kernel

theorem hyp_DrivenPhase : waving.disp.clockRuns = true ∧ phaseTick waving.disp.clock waving.disp.phase ≤ waving.frame.baseTick + waving.frame.length ∧
    (waving.disp.codesNow.map Prod.fst).Nodup ∧ waving.disp.dc.length = 96 ∧ waving.disp.driven.length = 96 ∧ charged.disp.clockRuns = false := by
  decide +kernel

theorem hyp_DisplayDone : ((driven.disp.region 3).run.any fun u => u.waving && decide (u.first + u.length ≤ driven.disp.phase) &&
      decide (phaseTick driven.disp.clock (u.first + u.length) ≤ driven.frame.baseTick + driven.frame.length)) = true ∧
    (driven.disp.region 3).queued = none ∧ driven.disp.levels.length = 96 ∧ driven.disp.balDue.length = 96 ∧ driven.disp.driven.length = 96 ∧
    ((charged.disp.region 3).run.any fun u => !u.waving) = true := by decide +kernel

/-- An LCD panel, its last frame begun at a tick. -/
def lcd (at_ : Option Nat) : State := withSet 0x1A00 1 2 { running with disp := { running.disp with lcdAt := at_ } }

theorem hyp_LcdFrame : (lcd none).dispMode = 2 ∧ (lcd none).frame.running = true ∧ (lcd none).mode ≠ .taper ∧
    (lcd (some 0)).frame.tickFrom 70000 < 0 + (lcd (some 0)).lcdTicks ∧
    0 + (lcd (some 0)).lcdTicks ≤ (lcd (some 0)).frame.tickFrom 7000000 ∧ running.dispMode ≠ 2 ∧
    ({ lcd none with mode := .taper } : State).mode = .taper := by decide +kernel

/-! ### Hypotheses: the machine -/

theorem hyp_Inv : State.reset.Inv := by
  unfold State.Inv
  decide +kernel

/-! ### A command that cannot come from outside is not well formed: one for each check -/

/-- A sender of a place that is none of the 24, with a GEN, a REQ_ID, a role, a counter or a MAC that does not fit. -/
def badSenders : List Sender :=
  [{ op with via := .powerline 24 }, { op with gen := 16 }, { op with id := 65536 }, { op with carrier := .auth 256 0 (List.replicate 8 0) },
   { op with carrier := .auth 2 (2 ^ 32) (List.replicate 8 0) }, { op with carrier := .auth 2 0 [1, 2, 3] },
   { op with carrier := .auth 2 0 (List.replicate 8 256) }, { op with carrier := .enveloped 256 0 (List.replicate 8 0) },
   { op with carrier := .enveloped 2 (2 ^ 32) (List.replicate 8 0) }, { op with carrier := .enveloped 2 0 [1, 2, 3] },
   { op with carrier := .enveloped 2 0 (List.replicate 8 256) }]

theorem test_illformed_sender : op.ok = true ∧ ∀ p ∈ badSenders, p.ok = false ∧
    ∀ c ∈ [Instr.modeConfig p, .modeMeasure p, .modeVerify p, .sealSet p, .sealClear p, .factoryLock p, .qtyClear p, .taperExit p,
      .powerCommandReset p, .powerCommandSnuff p, .residencyClear p, .calSet p 0, .dstCommand p 1, .tamperClear p 1, .passiveActivateAt p 0,
      .billingCloseNow p, .creditTopup p 1 1, .actDisconnect p, .actArm p, .actConnect p, .actClearFault p, .zeroCaptureStart p 0 1,
      .zeroCaptureStop p 0, .templateCaptureStart p 0 1 0, .templateCaptureStop p 0, .ctxStageSet p 0 0, .ctxStageApply p 0 0,
      .perfSelWrite p 0 0 0, .perfOvfClear p 0, .fwCommandVerify p, .fwCommandLoader p, .fwBlock p 0 (List.replicate 256 0),
      .fwMinVersion p 0, .keyChange p 1 (List.replicate 24 0), .bootKeyHash p (List.replicate 32 0), .mailboxIn p (List.replicate 32 0),
      .plMasterRequest p (List.replicate 26 0), .dispUpdate p 0], c.wellFormed = false := by decide +kernel

theorem test_illformed_operands : ∀ c ∈ [Instr.calSet op (2 ^ 64), .dstCommand op 256, .tamperClear op 256, .passiveActivateAt op (2 ^ 48),
    .creditTopup op (2 ^ 32) 1, .zeroCaptureStart op 64 1, .zeroCaptureStart op 0 65536, .zeroCaptureStop op 64,
    .templateCaptureStart op 64 1 0, .templateCaptureStart op 0 0 0, .templateCaptureStart op 0 1024 0, .templateCaptureStart op 0 1 512,
    .templateCaptureStop op 64, .ctxStageSet op 64 0, .ctxStageSet op 0 4, .ctxStageApply op 64 0, .ctxStageApply op 0 4,
    .perfSelWrite op 6 0 0, .perfSelWrite op 0 8 0, .perfSelWrite op 0 0 (2 ^ 32), .perfOvfClear op (2 ^ 48), .perfOverflow 6 0,
    .perfOverflow 0 8, .fwBlock op (2 ^ 32) (List.replicate 256 0), .fwBlock op 0 [0], .fwBlock op 0 (List.replicate 256 256),
    .fwMinVersion op (2 ^ 32), .keyChange op 0 (List.replicate 24 0), .keyChange op 3 (List.replicate 24 0), .keyChange op 1 [0],
    .keyChange op 1 (List.replicate 24 256), .bootKeyHash op [0], .bootKeyHash op (List.replicate 32 256), .mailboxIn op [0],
    .mailboxIn op (List.replicate 32 256), .plMasterRequest op [0], .plMasterRequest op (List.replicate 26 256), .dispUpdate op 65536],
    c.wellFormed = false := by decide +kernel

/-- Where the core stands, with a program counter or a register number or value that does not fit. -/
def badCores : List CoreAt := [⟨2 ^ 32, false, []⟩, ⟨0, false, [(4096, 0)]⟩, ⟨0, false, [(0x300, 2 ^ 32)]⟩]

/-- Differences in a commit record that are none. -/
def badDiffs : List (Nat × Nat) := [(2048, 1), (0, 0), (0, 256)]

theorem test_illformed_parts : (∀ c ∈ badCores, Instr.wellFormed (.firewallAccessFault 0 0 1 c) = false ∧
      Instr.wellFormed (.coreMemoryWrite 0 4 0 true true c) = false) ∧
    (∀ d ∈ badDiffs, Instr.wellFormed (.commitComplete [d]) = false ∧ Instr.wellFormed (.finalCommitComplete [d]) = false ∧
      Instr.wellFormed (.regulatorTimeout 0 0 [d] []) = false ∧ Instr.wellFormed (.regulatorTimeout 0 0 [] [d]) = false ∧
      Instr.wellFormed (.brownout 0 1 0 [d]) = false ∧ Instr.wellFormed (.nrstAssert 0 [d] []) = false ∧
      Instr.wellFormed (.nrstAssert 0 [] [d]) = false ∧ Instr.wellFormed (.startSequence false ⟨false, [(0, d)]⟩) = false) ∧
    Instr.wellFormed (.startSequence false ⟨false, [(2, 0, 1)]⟩) = false ∧
    (∀ u ∈ [SlotUse.mk 1 0 0 0 0 0, ⟨5, 0, 0, 0, 0, 0⟩, ⟨2, 3, 0, 0, 0, 0⟩, ⟨2, 0, 3, 0, 0, 0⟩, ⟨2, 0, 0, 1, 0, 0⟩, ⟨3, 0, 0, 0, 1, 0⟩],
      Instr.wellFormed (.frameBoundary [] 0 false false ⟨[], [u]⟩ []) = false) ∧
    ∀ a ∈ [Act.mk 6 0 0 0 0 none 1, ⟨0, 256, 0, 0, 0, none, 1⟩, ⟨4, 0x30, 0, 0, 0, none, 1⟩, ⟨4, 0x35, 0, 0, 0, none, 1⟩,
        ⟨0, 0, 3, 0, 0, none, 1⟩, ⟨0, 0, 0, 3, 0, none, 1⟩, ⟨0, 0, 0, 0, 5, none, 1⟩],
      Instr.wellFormed (.frameBoundary [] 0 false false ⟨[a], []⟩ []) = false ∧
      Instr.wellFormed (.frameBoundary [] 0 false false ⟨[], []⟩ [a]) = false := by decide +kernel

theorem test_illformed_acoustics : ∀ c ∈ [Instr.frameBoundary [(2 ^ 40, 0)] 0 false false ⟨[], []⟩ [],
    .shotGroupStart 128 .first 0 0 [], .shotGroupStart 0 .first 0 0 [⟨19, 0, 0, none⟩], .vhdRecovered 128 0, .heldShotGivenUp 128 0,
    .reverseTransmission 64 false 0, .windowClose 64 true false [] ⟨[], false⟩, .windowClose 0 true false [2048] ⟨[], false⟩,
    .windowClose 0 true false [-2049] ⟨[], false⟩, .tdcCountWrap 64 true false 0 0, .tdcStopTimeout 64 true false 0,
    .retrySlotStart 64 0 0 [], .retrySlotStart 0 0 0 [⟨19, 0, 0, none⟩], .correlationComplete 64 true 0, .acquisitionSearchComplete 64 0,
    .waveformCopyComplete 64 true 0, .sensorJobStart 0 ⟨19, 0, 0, none⟩, 
    .pllLockLost 0 true ⟨19, 0, 0, none⟩, .tmInputCalibration ⟨⟨19, 0, 0, none⟩, []⟩,
    .tmInputCalibration ⟨⟨17, 0, 0, none⟩, [(2 ^ 40, 0)]⟩],
    c.wellFormed = false := by decide +kernel

theorem test_illformed_device : ∀ c ∈ [Instr.wickEntryComplete 0 (some 64), .domainReady 6 true 0, .regulatorTimeout 6 0 [] [],
    .keyRelease (2 ^ 32), .brownout 0 0 0 [], .brownout 0 3 0 [], .brownout 0 1 (2 ^ 32) [], .authLockoutExpiry 0, .authLockoutExpiry 4,
    .hello true [2 ^ 32], .wfi (2 ^ 32), .msipWrite (2 ^ 32), .localAck (2 ^ 32), .wdtKick (2 ^ 32), .coreWatchdog (2 ^ 32), .reqGo (2 ^ 32),
    .custDone (2 ^ 32), .outSubmit (2 ^ 32), .firewallAccessFault (2 ^ 32) 0 1 (standing true), .firewallAccessFault 0 5 1 (standing true),
    .firewallAccessFault 0 0 3 (standing true), .countLoRead 5 0 true,
    .countLoRead 0 4096 true, .displayUpdateAdmitted 16 [], .pumpBurst 16 0, .waveformStart 16 0, .displayDone 16, .pulseStart 8 0,
    .pulseEnd 8 0, .debugCommand 6 0 4 0, .debugCommand 3 (2 ^ 32) 4 0, .debugCommand 3 0 3 0, .debugCommand 3 0 4 (2 ^ 32),
    .coreMemoryWrite (2 ^ 32) 4 0 true true (standing true), .coreMemoryWrite 0 3 0 true true (standing true),
    .coreMemoryWrite 0 4 (2 ^ 32) true true (standing true),
    .plSessionIdle 24, .plZeroCrossing true 0 ⟨some (2 ^ 40, 0), none⟩], c.wellFormed = false := by decide +kernel

theorem test_illformed_requests : ∀ c ∈ [Instr.odRead (.powerline 24) 1 0 0 0, .odRead .spi 16 0 0 0, .odRead .spi 1 65536 0 0,
    .odRead .spi 1 0 65536 0, .odRead .spi 1 0 0 256, .odWrite (.powerline 24) 1 0 0 0 [], .odWrite .spi 16 0 0 0 [], .odWrite .spi 1 65536 0 0 [],
    .odWrite .spi 1 0 65536 0 [], .odWrite .spi 1 0 0 256 [], .odWrite .spi 1 0 0 0 [256], .odWriteAuth (.powerline 24) 1 0 0 0 [],
    .odWriteAuth .spi 16 0 0 0 [], .odWriteAuth .spi 1 65536 0 0 [], .odWriteAuth .spi 1 0 65536 0 [], .odWriteAuth .spi 1 0 0 256 [],
    .odWriteAuth .spi 1 0 0 0 [256], .authEnvelope (.powerline 24) 1 0 [], .authEnvelope .spi 16 0 [], .authEnvelope .spi 1 65536 [],
    .authEnvelope .spi 1 0 [256], .helloExchange (.powerline 24) 1 0 [], .helloExchange .spi 16 0 [], .helloExchange .spi 1 65536 [],
    .helloExchange .spi 1 0 [256]], c.wellFormed = false := by decide +kernel

theorem test_illformed_links : ∀ c ∈ [Instr.spiStatus (List.replicate 9 0), .spiStatus (List.replicate 8 256), .spiWrite (List.replicate 9 0) [],
    .spiWrite (List.replicate 8 256) [],
    .spiWrite (List.replicate 8 0) [2 ^ 32], .spiRead (List.replicate 9 0) 0, .spiRead (List.replicate 8 256) 0, .spiRead (List.replicate 8 0) 4096,
    .iolMSequence 0 true 4 ([], true) false, .iolMSequence 0 true 0 ([256], true) false, .iolIsdu true 65536 0 [], .iolIsdu true 0 256 [], .iolIsdu true 0 0 [256],
    .sndNke 256, .reqUd2 256 true, .reqUd1 256 true, .mbusSetPrimaryAddress 256 0 true, .mbusSetPrimaryAddress 0 256 true,
    .mbusDictionaryRequest 256 true 0 0 0 0 [], .mbusDictionaryRequest 0 true 256 0 0 0 [], .mbusDictionaryRequest 0 true 0 65536 0 0 [],
    .mbusDictionaryRequest 0 true 0 0 65536 0 [], .mbusDictionaryRequest 0 true 0 0 0 256 [], .mbusDictionaryRequest 0 true 0 0 0 0 [256],
    .mbusSelection true (2 ^ 32) 0 0 0, .mbusSelection true 0 65536 0 0, .mbusSelection true 0 0 256 0, .mbusSelection true 0 0 0 256,
    .mbusApplicationReset 256 true, .mbusBaudChange 256 0xB8 true, .mbusBaudChange 0 0xB7 true, .mbusBaudChange 0 0xBE true,
    .mbusFrameIgnored true 256 0 0, .mbusFrameIgnored true 0 256 0, .mbusFrameIgnored true 0 0 256], c.wellFormed = false := by
  decide +kernel

theorem test_wellformed : ∀ c ∈ [Instr.odRead .window 3 7 0x0300 1, .sealSet op, .mbusBaudChange 7 0xBB true,
    .shotGroupStart 0 .first 480000 9000 [cal 0, cal 1], .brownout 6000 2 3000 [(16, 1)], .coreMemoryWrite 0x20000000 4 7 false true (standing false)], c.wellFormed = true := by decide +kernel

/-! ### The worked examples of the spec -/

/-- The header of the SHOT_RETRY record under R40: 0x0530_0501_3A7C_0005. -/
theorem test_header : ({ type := 5, gen := 3, cls := 0, src := 5, qual := 1, frame := 0x3A7C, payload := [0x0801_0000, 0x0012_3A7C, 0, 0x708, 0] } :
    Record).header = [0x3A7C_0005, 0x0530_0501] := by decide +kernel

/-- Settings written one after another into a state. -/
def withAll (ws : List (Nat × Nat × Nat)) (s : State) : State := ws.foldl (fun s w => withSet w.1 w.2.1 w.2.2 s) s

/-- The battery plan of Table 2.9: LEDGER_MIN_SLACK is 27 973 092 cycles. -/
theorem test_batteryPlan : verdict (withAll [(0x0900, 1, 1), (0x0901, 1, 1), (0x0901, 2, 0x0A0B), (0x0901, 3, 0x23),
    (0x0310, 1, 0x1000_0100), (0x0310, 2, 0x1000_0101), (0x0C00, 1, 2)] State.reset).get = .admitted 27973092 0 := by decide +kernel

/-- The settings of the 32-path plan before Table 2.10, its contexts in groups of eight. -/
def mainsPlan (rsv acq : Nat) : View := fun k =>
  let i := k / 256
  let sub := k % 256
  if 0x0900 ≤ i ∧ i < 0x0920 then
    if sub = 1 then 1
    else if sub = 2 then (2 * (i % 8) + 1) * 256 + 2 * (i % 8)
    else if sub = 3 then 2 * (i % 8) * 16 + 2 * (i % 8) + 1
    else if sub = 8 then 560000
    else if sub = 15 then 512
    else if sub = 24 then 2
    else State.reset.get k
  else if i = 0x0310 then
    if sub ≤ 32 then 0x1000_0000 + (sub - 1) / 8 * 1024 + rsv * 256 + (sub - 1)
    else if sub = 33 then 0x2400_0003
    else if sub = 34 then acq
    else if sub = 35 then 0x5000_0002
    else if sub = 36 then 0x4000_05DC
    else 0
  else if k = key 0x0300 1 then 256
  else if k = key 0x0C00 1 then 32
  else if k = key 0x0B03 1 ∨ k = key 0x0B03 2 then 1000000
  else State.reset.get k

/-- Its first version is refused in row 0x11 with CODE 0x1000 and ARG 0x0002_6A04, its second in row 0x23 with CODE 0x7000 and ARG
0x0000_0204. -/
theorem test_mainsPlanRefused : verdict (mainsPlan 2 0x3400_0000) = .refused 0x1000 0x0002_6A04 0x11 ∧
    verdict (mainsPlan 1 0x3400_0000) = .refused 0x7000 0x0204 0x23 := by decide +kernel

/-- Its third version is admitted: LEDGER_MIN_SLACK 10 748 cycles, LEDGER_WORST_PHASE 8. -/
theorem test_mainsPlanAdmitted : verdict (mainsPlan 1 0x3408_0000) = .admitted 10748 8 := by decide +kernel

/-- The stamp under R168: 5 576 753 280 TU. -/
theorem test_stamp : stampTime 561 1073 (85095, 51) = 5576753280 := by decide +kernel

/-- The regression under R182, in ns: P is 1 001.2536 and a is 85 094.5006 to four places. -/
theorem test_regression : (regress 1000 [85094502 / 1000, 86095752 / 1000, 87097010 / 1000, 88098258 / 1000, 89099517 / 1000]).map
    (fun p => (p.1, roundAway (p.2 * 10000))) = some (10012536 / 10000, 850945006) := by decide +kernel

/-- The retuned half-period under R107: 80 180. -/
theorem test_retuned : retuned (withAll [(0x0903, 4, 200000), (0x0903, 5, 0x0D02_0000)] State.reset).eff 3 80000 196400 = 80180 := by
  decide +kernel

/-- The qualification under R214: QUAL_K is −794 422, and the times of the worked measurement are corrected by it. -/
theorem test_qualification : qualK 1 0 [[0, 2000370000]] = some (-794422) ∧ scaled (some (-794422)) 5438310400 = 5437304499 ∧
    scaled (some (-794422)) 5441891200 = 5440884636 := by decide +kernel

/-- The Pt500 sensors of the worked sensor job: 70 000 mK and 40 000 mK, with a discharge limit of 110 µs. -/
theorem test_sensorJob : dischargeUs State.reset.get 1000000 = 110 ∧
    portTemp (withAll [(0x0B00, 1, 1), (0x0B01, 1, 500000)] State.reset).eff 0 (635375625 / 1000) = some 70000 ∧
    portTemp (withAll [(0x0B00, 2, 1), (0x0B01, 2, 500000)] State.reset).eff 1 577704 = some 40000 := by decide +kernel

/-- The path of the domestic meter. -/
def domestic : State :=
  withAll [(0x0903, 0x0B, 120000), (0x0903, 0x0C, 100000), (0x0903, 0x0D, 131072000), (0x0903, 0x0E, 1280), (0x0C00, 2, 10000)] State.reset

/-- Table 8.4: c is 1 481.3107 m/s to four places and PATH_VELOCITY is 599 249. -/
theorem test_pathSpeeds : (pathSpeeds domestic.eff 3 { attempt with
      up := { attempt.up with time := 5441891200 }, dn := { attempt.dn with time := 5438310400 }, dt := 3580800 }).map
    (fun p => (roundAway (p.1 * 10000), roundAway (p.2 * 1000000))) = some (14813106, 599249) := by decide +kernel

/-- The heat example before R310: VOL_FWD rises by 22 369 and its residue becomes 0x4BC6_A7F0. -/
theorem test_volume : Reg.add (fixed (44737842 * frameSeconds 16384 0 / 1000)) { value := 1000, residue := 0x6000_0000 } =
    { value := 23369, residue := 0x4BC6_A7F0 } := by decide +kernel

/-- The calorific value at y = 0.10 with entry 3: 36 824 500 J/m³. -/
theorem test_calorific : calorific State.reset.eff 3 (1 / 10) = 36824500 := by decide +kernel

/-- FTO under R328: n is 223 with 690 000 kept, and the spacing is 143 479 cycles. -/
theorem test_fto : (fun f => (f.owed, f.acc, f.spacing)) (Fto.gain (6 * 256) 10000 (2 ^ 32 - 1) [22369] 32000000 State.reset.qty.fto).1 =
    (223, 690000, 143479) := by decide +kernel

/-- The rate under R344: RTC_RATE is 40 600. -/
theorem test_rtcRate : rateOf (withAll [(0x0502, 1, 25000), (0x0502, 2, 2 ^ 32 - 34), (0x0502, 3, 1200), (0x0503, 4, 65536 - 150)]
    State.reset).eff (-10000) = 40600 := by decide +kernel

/-- The trim windows of it, by their corrections: 341, 340 and 341. -/
theorem test_trimWindows : (fun s : State =>
      let a := trimWindowStart s
      let b := trimWindowStart a
      [a.cal.trim, b.cal.trim, (trimWindowStart b).cal.trim])
    (withSet 0x0502 4 1 { State.reset with cal := { State.reset.cal with rate := 40600 } }) = [341, 340, 341] := by decide +kernel

/-- The slow rise of VMAIN: VMAIN_RISE reads 0x00BE; seconds 820 540 800 are 2026-01-01 00:00:00. -/
theorem test_slowRise : (after (.vmainRise 1720 190) { kept with cal := { kept.cal with source := 3 } }).cal.vmainRise = 0x00BE ∧
    (fun f : Fields => (f.year, f.month, f.day, f.hour, f.minute, f.second)) (Fields.of 820540800) = (2026, 1, 1, 0, 0, 0) := by decide +kernel

/-- The records of the M-Bus example: volume forward, the VIF of energy, and the temperatures. -/
theorem test_mbusRecords :
    ({ running with qty := { running.qty with regs := setAt running.qty.regs 0 { value := 1234567890123, residue := 0 } } } :
      State).mbusRecord 0 = [0x07, 0x13, 0x87, 0xD6, 0x12, 0, 0, 0, 0, 0] ∧
    running.energyVif = 0x0B ∧ hundredth 70000 = [0x58, 0x1B] ∧ hundredth 40000 = [0xA0, 0x0F] ∧ hundredth 30000 = [0xB8, 0x0B] := by
  decide +kernel

/-- Its flow record: 1611. -/
theorem test_mbusFlow : ({ running with flow := { running.flow with last := some { running.flow.blankOut with q := 44737842 } } } :
    State).mbusRecord 4 = [0x04, 0x3A, 0x4B, 0x06, 0, 0] := by decide +kernel

/-- The POLL of the powerline example: its header is 30 88 23 01 01 00 and it has 141 bits. -/
theorem test_poll : frameBytes 0 3 0x0123 1 [2, 0, 0, 0x10, 1, 0, 0, 0] = [0x30, 0x88, 0x23, 0x01, 0x01, 0x00, 2, 0, 0, 0x10, 1, 0, 0, 0] ∧
    (locked.plHalves (frameBytes 0 3 0x0123 1 [2, 0, 0, 0x10, 1, 0, 0, 0])).length = 141 := by decide +kernel

/-- The REPLY of it has 237 bits, and its payload is 02 00 00 00 00 00 0C 00 with the first 12 bytes of the register. -/
theorem test_reply : plReply 2 0 abortOk 0 12 (leBytes 12 0x011F_71FB_04CB) =
      [2, 0, 0, 0, 0, 0, 0x0C, 0, 0xCB, 0x04, 0xFB, 0x71, 0x1F, 0x01, 0, 0, 0, 0, 0, 0] ∧
    (locked.plHalves (frameBytes 1 3 1 0x0123 (plReply 2 0 abortOk 0 12 (leBytes 12 0x011F_71FB_04CB)))).length = 237 := by decide +kernel

/-- A read of entry 0x3000:01 from the master of IO-Link, as PUBLIC. -/
def customerRead : Request := { customerRequest with op := 1, hdr := 0, data := [] }

/-- Table 17.5: CUST_HDR is 0x0101_3000 and CUST_INFO 0x2001_0000. -/
theorem test_customerHeld : (fun t : State => (t.core.custHdr, t.core.custInfo, t.core.l16))
    (after .customerRequestHeld { asking with acc := { asking.acc with customer := [customerRead] } }) =
      (0x0101_3000, 0x2001_0000, true) := by decide +kernel

/-- Table 17.5: the bytes DC 05 00 00 of the core come as 00 00 05 DC. -/
theorem test_customerAnswer : (after (.custDone 1) { coring with core := { coring.core with
      held := some customerRead, custResult := 0x0004_0000, custData := [0xDC, 5] ++ List.replicate 1042 0 } }).iol.response =
    some (0, [0, 0, 5, 0xDC]) := by decide +kernel

/-- The balance-due segment after Table 16.4: 17 phases. -/
theorem test_balance : balPhases 2250 true = 17 := by decide +kernel


end Sys2Proof.Tests
end

section
/-! PROOF. Coalescing of pending occurrences (R37, R38) and the EVENT record (R28, R40). -/

namespace Sys2Proof.Proofs

open Sys2Proof Sys2Proof.Machine

/-! ### Pending occurrences -/

theorem Pend_is_iff (p : Pend) (d : Dest) (ev : Nat) : p.is d ev = true ↔ p.dest = d ∧ p.ev = ev := by
  simp [Pend.is]

/-- Some occurrence of an event waits for a destination, as the model tests it. -/
theorem any_is_iff (d : Dest) (ev : Nat) (l : List Pend) :
    (l.any fun p => p.is d ev) = true ↔ ∃ p ∈ l, p.dest = d ∧ p.ev = ev := by
  simp only [List.any_eq_true, Pend_is_iff]

@[simp] theorem coalesce_length (d : Dest) (e : Raised) (l : List Pend) :
    (Pend.coalesce d e l).length = l.length := by
  induction l with
  | nil => rfl
  | cons p ps ih =>
    unfold Pend.coalesce
    split
    · rfl
    · exact congrArg (· + 1) ih

/-- Where no occurrence of the event waits, coalescing changes nothing. -/
theorem coalesce_eq_self (d : Dest) (e : Raised) (l : List Pend) (h : (l.any fun p => p.is d e.ev) = false) :
    Pend.coalesce d e l = l := by
  induction l with
  | nil => rfl
  | cons p ps ih =>
    obtain ⟨hp, hps⟩ : p.is d e.ev = false ∧ (ps.any fun q => q.is d e.ev) = false := by simpa using h
    simp [Pend.coalesce, hp, ih hps]

/-- Coalescing touches the last occurrence of the event alone. -/
theorem coalesce_getElem? (d : Dest) (e : Raised) (l : List Pend) (i : Nat) :
    (Pend.coalesce d e l)[i]? = l[i]?.map fun p =>
      if p.is d e.ev = true ∧ ((l.drop (i + 1)).any fun q => q.is d e.ev) = false then p.again e else p := by
  induction l generalizing i with
  | nil => rfl
  | cons p ps ih =>
    by_cases hlast : p.is d e.ev = true ∧ (ps.any fun q => q.is d e.ev) = false
    · have hps : Pend.coalesce d e ps = ps := coalesce_eq_self d e ps hlast.2
      have hhead : Pend.coalesce d e (p :: ps) = p.again e :: ps := by simp [Pend.coalesce, hlast]
      cases i with
      | zero => simp [hhead, hlast]
      | succ i => simpa [hhead, hps] using ih i
    · have hhead : Pend.coalesce d e (p :: ps) = p :: Pend.coalesce d e ps := by
        simp only [Pend.coalesce, Bool.and_eq_true, Bool.not_eq_true', hlast, if_false]
      cases i with
      | zero => simp only [hhead, List.getElem?_cons_zero, Option.map_some, Nat.zero_add, List.drop_succ_cons, List.drop_zero,
          hlast, if_false]
      | succ i => simpa [hhead] using ih i

@[simp] theorem placePend_length (p : Pend) (l : List Pend) : (placePend p l).length = l.length + 1 := by
  induction l with
  | nil => rfl
  | cons q qs ih =>
    unfold placePend
    split
    · rfl
    · exact congrArg (· + 1) ih

theorem mem_placePend_self (p : Pend) (l : List Pend) : p ∈ placePend p l := by
  induction l with
  | nil => exact List.mem_singleton_self p
  | cons q qs ih =>
    unfold placePend
    split
    · exact List.mem_cons_self
    · exact List.mem_cons_of_mem q ih

/-- Raising an event that waits for the destination coalesces (R38). -/
theorem pendFor_of_mem (d : Dest) (f : Frame) (seconds : Nat) (e : Raised) (l : List Pend)
    (h : ∃ p ∈ l, p.dest = d ∧ p.ev = e.ev) : pendFor d f seconds e l = Pend.coalesce d e l :=
  if_pos ((any_is_iff d e.ev l).2 h)

/-- The first occurrence of an event for a destination, stamped from the frame and the seconds counter (R37). -/
def firstPend (d : Dest) (f : Frame) (seconds : Nat) (e : Raised) : Pend :=
  { dest := d, ev := e.ev, count := 1, code := e.code, arg := e.arg, src := e.src, cls := e.cls, latched := false, offered := false,
    frame := f.number, tick := f.tick, at_ := f.absTick, seconds := seconds }

/-- Raising an event that does not wait for the destination adds its first occurrence. -/
theorem pendFor_of_not_mem (d : Dest) (f : Frame) (seconds : Nat) (e : Raised) (l : List Pend)
    (h : ∀ p ∈ l, ¬(p.dest = d ∧ p.ev = e.ev)) :
    pendFor d f seconds e l = placePend (firstPend d f seconds e) l := by
  refine if_neg fun hany => ?_
  obtain ⟨p, hp, hi⟩ := (any_is_iff d e.ev l).1 hany
  exact h p hp hi

/-- The words of an occurrence that no latch holds, its fields within their widths (Table 1.9). -/
theorem Pend_words_of_fits (p : Pend) (hlat : p.latched = false) (hev : p.ev < 64) (hcount : p.count < 256)
    (hcode : p.code < 65536) (hframe : p.frame < 2 ^ 48) (htick : p.tick < 2 ^ 20) (harg : p.arg < 2 ^ 32) :
    p.words = [p.ev * 2 ^ 24 + p.count * 2 ^ 16 + p.code, p.frame % 2 ^ 32, p.frame / 2 ^ 32, p.tick, p.arg] := by
  have hhigh : p.frame / 2 ^ 32 < 65536 := by omega
  simp only [Pend.words, hlat, flagAt, Bool.false_eq_true, if_false, Nat.zero_add, Nat.mod_eq_of_lt hev, Nat.mod_eq_of_lt hcount,
    Nat.mod_eq_of_lt hcode, Nat.mod_eq_of_lt hhigh, Nat.mod_eq_of_lt htick, Nat.mod_eq_of_lt harg]
  rfl

/-- Settles O6: the last pending occurrence alone takes the repeat, by the rule of `Pend.coalesce` for each place. -/
theorem anEventRaisedAgainCoalesces : Obligations.AnEventRaisedAgainCoalesces := by
  unfold Obligations.AnEventRaisedAgainCoalesces
  refine ⟨fun d f seconds e l hmem => ?_, fun d f seconds e l hnone => ?_,
    fun gen p hlat hev hcount hcode hframe htick harg => ?_⟩
  · rw [pendFor_of_mem d f seconds e l hmem]
    refine ⟨coalesce_length d e l, fun i p hp => ?_⟩
    simp only [coalesce_getElem?, hp, Option.map_some, Pend_is_iff, and_assoc, Pend.again, satInc]
  · rw [pendFor_of_not_mem d f seconds e l hnone]
    exact ⟨placePend_length _ l, _, mem_placePend_self _ l, rfl, rfl, rfl, rfl, rfl, rfl, rfl, rfl, rfl⟩
  · exact ⟨rfl, rfl, rfl, Pend_words_of_fits p hlat hev hcount hcode hframe htick harg⟩

end Sys2Proof.Proofs
end

section
/-! PROOF. The steps of a window's close: what each changes beside the frame's plan and the acoustic blocks, the captures, and the
windows of the attempts. -/

namespace Sys2Proof.Proofs

open Sys2Proof Sys2Proof.Machine Sys2Proof.Laws

/-! ### What counting and events change -/

theorem CountsOnly_refl (s : State) : CountsOnly s s := rfl

theorem CountsOnly_trans {u v t : State} (h1 : CountsOnly u v) (h2 : CountsOnly v t) : CountsOnly u t := by
  unfold CountsOnly at h1 h2 ⊢
  rw [h1] at h2
  exact h2

theorem CountsOnly_raise (e : Raised) (s : State) : CountsOnly s (s.raise e) := by
  obtain ⟨_, _, _, _, _, h⟩ := raise_only e s
  rw [h]
  rfl

theorem CountsOnly_raiseAll (es : List Raised) (s : State) : CountsOnly s (s.raiseAll es) := by
  obtain ⟨_, _, _, _, _, h⟩ := raiseAll_only es s
  rw [h]
  rfl

theorem CountsOnly_count (acts : List Act) (s : State) : CountsOnly s (s.count acts) := by
  obtain ⟨_, _, _, _, _, _, _, h⟩ := count_only acts s
  rw [h]
  rfl

theorem CountsOnly_ac {u t : State} {a : Acoustic} (h : CountsOnly { u with ac := a } t) : t.ac = a := by
  rw [h]

/-- Beside the frame's plan and the acoustic blocks, only what counting and events change. -/
def PlanOnly (u t : State) : Prop := CountsOnly { u with frame := t.frame, ac := t.ac } t

theorem PlanOnly_of_CountsOnly {u t : State} (h : CountsOnly u t) : PlanOnly u t := by
  unfold PlanOnly
  rw [h]
  rfl

theorem PlanOnly_trans {u v t : State} (h1 : PlanOnly u v) (h2 : PlanOnly v t) : PlanOnly u t := by
  unfold PlanOnly CountsOnly at h1 h2 ⊢
  rw [h1] at h2
  exact h2

theorem PlanOnly_of_plan (f : Frame) (a : Acoustic) (s : State) : PlanOnly s { s with frame := f, ac := a } := rfl

/-! ### Contexts, attempts and their windows -/

theorem modAt_eq_modify {α : Type} (l : List α) (n : Nat) (f : α → α) : modAt l n f = l.modify n f := by
  induction l generalizing n with
  | nil => cases n <;> rfl
  | cons x xs ih => cases n <;> simp [modAt, ih]

theorem ctxAt_modCtx_same (a : Acoustic) (n : Nat) (f : Ctx → Ctx) (h : n < a.ctx.length) :
    (a.modCtx n f).ctxAt n = f (a.ctxAt n) := by
  simp [Acoustic.modCtx, Acoustic.ctxAt, modAt_eq_modify, List.getD_eq_getElem?_getD, h]

theorem ctxAt_modCtx_other (a : Acoustic) (n k : Nat) (f : Ctx → Ctx) (h : k ≠ n) :
    (a.modCtx n f).ctxAt k = a.ctxAt k := by
  simp [Acoustic.modCtx, Acoustic.ctxAt, modAt_eq_modify, List.getD_eq_getElem?_getD, h.symm]

/-- A context past the end of the list stays as it was. -/
theorem ctxAt_modCtx_past (a : Acoustic) (n : Nat) (f : Ctx → Ctx) (h : a.ctx.length ≤ n) :
    (a.modCtx n f).ctxAt n = a.ctxAt n := by
  simp [Acoustic.modCtx, Acoustic.ctxAt, modAt_eq_modify, List.getD_eq_getElem?_getD, h]

@[simp] theorem attempt_modAttempt (acq : Bool) (f : Attempt → Attempt) (c : Ctx) :
    (c.modAttempt acq f).attempt acq = (c.attempt acq).map f := by
  cases acq <;> rfl

@[simp] theorem dir_setDir_same (up : Bool) (d : DirRun) (a : Attempt) : (a.setDir up d).dir up = d := by
  cases up <;> rfl

@[simp] theorem dir_setDir_other (up : Bool) (d : DirRun) (a : Attempt) : (a.setDir up d).dir (!up) = a.dir (!up) := by
  cases up <;> rfl

/-- Which windows of an attempt have closed, and when: those of its up and of its down direction. -/
def attemptWindows (a : Attempt) : (Bool × Nat) × Bool × Nat :=
  ((a.up.closed, a.up.closedAt), a.dn.closed, a.dn.closedAt)

/-- Equal windows are equal in each direction. -/
theorem windows_dir {a b : Attempt} (h : attemptWindows a = attemptWindows b) (up : Bool) :
    (a.dir up).closed = (b.dir up).closed ∧ (a.dir up).closedAt = (b.dir up).closedAt := by
  simp only [attemptWindows, Prod.mk.injEq] at h
  cases up
  · exact h.2
  · exact h.1

/-- Deciding an attempt and settling its issue slots leave its windows. -/
theorem windows_judge (gateJump slots : Nat) (dtRef : Option Int) (notAcquired : Bool) (a : Attempt) :
    attemptWindows { a.judge gateJump dtRef notAcquired with slots := slots } = attemptWindows a := by
  simp only [Attempt.judge, attemptWindows]
  split <;> rfl

/-- The windows of the attempt that a context holds, and of its acquisition shot. -/
def ctxWindows (acq : Bool) (c : Ctx) : Option ((Bool × Nat) × Bool × Nat) := (c.attempt acq).map attemptWindows

theorem windows_addScore (n driftMin score : Nat) (c : Ctx) (acq : Bool) :
    ctxWindows acq (c.addScore n driftMin score).1 = ctxWindows acq c := by
  simp only [Ctx.addScore]
  split
  · rfl
  · split <;> rfl

/-- A decided attempt becomes the one under way; the acquisition shot stands. -/
theorem windows_decided (v : View) (n : Nat) (a : Attempt) (c : Ctx) (acq : Bool) :
    ctxWindows acq (c.decided v n a).1 = if acq then ctxWindows true c else some (attemptWindows a) := by
  have hbase : ∀ r cu cd ref, ctxWindows acq { c with current := some a, dtRef := ref, result := r, centreUp := cu, centreDn := cd } =
      if acq then ctxWindows true c else some (attemptWindows a) := by
    intros; cases acq <;> rfl
  simp only [Ctx.decided]
  split
  · rw [windows_addScore]; exact hbase _ _ _ _
  · exact hbase _ _ _ _

/-! ### A step that closes no window -/

/-- A step that keeps the captures and closes no window: beside the frame's plan and the acoustic blocks only what counting and
events change differs, and the windows of every attempt stand. -/
structure KeepsWindows (u t : State) : Prop where
  outside : PlanOnly u t
  captures : t.ac.captures = u.ac.captures
  windows : ∀ n acq, ctxWindows acq (t.ac.ctxAt n) = ctxWindows acq (u.ac.ctxAt n)

theorem KeepsWindows_trans {u v t : State} (h1 : KeepsWindows u v) (h2 : KeepsWindows v t) : KeepsWindows u t where
  outside := PlanOnly_trans h1.outside h2.outside
  captures := h2.captures.trans h1.captures
  windows n acq := (h2.windows n acq).trans (h1.windows n acq)

/-- A step that counts and raises events closes no window. -/
theorem KeepsWindows_of_CountsOnly {u t : State} (h : CountsOnly u t) : KeepsWindows u t where
  outside := PlanOnly_of_CountsOnly h
  captures := by rw [h]
  windows n acq := by rw [h]

theorem KeepsWindows_refl (s : State) : KeepsWindows s s := KeepsWindows_of_CountsOnly (CountsOnly_refl s)

/-- A new plan of the frame and new acoustic blocks with the same captures and contexts. -/
theorem KeepsWindows_of_plan (f : Frame) (a : Acoustic) (s : State) (hcap : a.captures = s.ac.captures) (hctx : a.ctx = s.ac.ctx) :
    KeepsWindows s { s with frame := f, ac := a } where
  outside := PlanOnly_of_plan f a s
  captures := hcap
  windows n acq := by simp only [Acoustic.ctxAt, hctx]

/-- A change of one context that leaves the windows of its attempts. -/
theorem KeepsWindows_modCtx (s : State) (n : Nat) (f : Ctx → Ctx)
    (hf : ∀ acq, ctxWindows acq (f (s.ac.ctxAt n)) = ctxWindows acq (s.ac.ctxAt n)) :
    KeepsWindows s { s with ac := s.ac.modCtx n f } where
  outside := PlanOnly_of_plan s.frame _ s
  captures := rfl
  windows k acq := by
    by_cases hk : k = n
    · subst hk
      rcases Nat.lt_or_ge k s.ac.ctx.length with hlt | hge
      · exact (congrArg (ctxWindows acq) (ctxAt_modCtx_same s.ac k f hlt)).trans (hf acq)
      · exact congrArg (ctxWindows acq) (ctxAt_modCtx_past s.ac k f hge)
    · exact congrArg (ctxWindows acq) (ctxAt_modCtx_other s.ac n k f hk)

theorem KeepsWindows_endShots (s : State) : KeepsWindows s s.endShots := KeepsWindows_of_plan s.frame _ s rfl rfl

theorem KeepsWindows_startFlow (s : State) : KeepsWindows s s.startFlow := by
  unfold State.startFlow
  split
  · exact KeepsWindows_of_plan _ s.ac s rfl rfl
  · exact KeepsWindows_refl s

/-- The admission of a retry changes the frame's plan alone. -/
theorem KeepsWindows_considerRetry (s : State) (g : Nat) : KeepsWindows s (s.considerRetry g) := by
  simp only [State.considerRetry]
  split
  · exact KeepsWindows_refl s
  · split
    · exact KeepsWindows_of_plan _ s.ac s rfl rfl
    · exact KeepsWindows_of_plan _ s.ac s rfl rfl

theorem KeepsWindows_failed (s : State) (n : Nat) : KeepsWindows s (s.failed n) := by
  simp only [State.failed]
  split
  · exact KeepsWindows_refl s
  · exact KeepsWindows_trans (KeepsWindows_modCtx s n _ fun acq => by cases acq <;> rfl) (KeepsWindows_considerRetry _ _)

/-- A decided attempt with the same windows takes the place of the one under way, and its events and slots are counted. -/
theorem KeepsWindows_decided (s : State) (n : Nat) (a b : Attempt) (acts : List Act)
    (hcur : (s.ac.ctxAt n).current = some a) (hwin : attemptWindows b = attemptWindows a) :
    KeepsWindows s ((State.raiseAll ((s.ac.ctxAt n).decided s.eff n b).2
      { s with ac := s.ac.modCtx n fun _ => ((s.ac.ctxAt n).decided s.eff n b).1 }).count acts) := by
  refine KeepsWindows_trans (KeepsWindows_modCtx s n _ fun acq => ?_)
    (KeepsWindows_of_CountsOnly (CountsOnly_trans (CountsOnly_raiseAll _ _) (CountsOnly_count _ _)))
  rw [windows_decided]
  cases acq
  · simp [ctxWindows, Ctx.attempt, hcur, hwin]
  · rfl

/-- Settling a context closes no window, whether its attempt is decided, fails, or waits. -/
theorem KeepsWindows_settle (s : State) (n : Nat) : KeepsWindows s (s.settle n) := by
  simp only [State.settle]
  split
  next => exact KeepsWindows_refl s
  next a hcur =>
    split
    · exact KeepsWindows_refl s
    · split
      · have hdec := fun acts => KeepsWindows_decided s n a _ acts hcur
          (windows_judge (s.eff (ck n 0x16)) 0 (s.ac.ctxAt n).dtRef (s.ac.ctxAt n).acqRequested a)
        split
        · exact hdec _
        · split
          · exact KeepsWindows_trans (hdec _) (KeepsWindows_failed _ n)
          · exact hdec _
      · split
        · exact KeepsWindows_failed s n
        · exact KeepsWindows_refl s

theorem KeepsWindows_requestWave (s : State) (n : Nat) (up : Bool) (d : DirRun) : KeepsWindows s (s.requestWave n up d) := by
  simp only [State.requestWave]
  split
  · split
    · exact KeepsWindows_of_plan _ _ s rfl rfl
    · exact KeepsWindows_of_plan s.frame _ s rfl rfl
  · exact KeepsWindows_refl s

/-! ### The copies that a window ends -/

/-- The plan's admitted jobs, the copies of captures and the count of copies not sent, put to other values. -/
def withCopies (jobs : List DynJob) (waves : List WaveCopy) (skipped : Nat) (s : State) : State :=
  { s with frame := { s.frame with waiting := jobs }, ac := { s.ac with waves := waves, waveSkipped := skipped } }

theorem skipWaves_eq_withCopies {α : Type} (gone : List α) (s : State) :
    ∃ k, gone.foldl (fun acc _ => State.skipWave acc) s = withCopies s.frame.waiting s.ac.waves k s := by
  induction gone generalizing s with
  | nil => exact ⟨s.ac.waveSkipped, rfl⟩
  | cons g gs ih =>
    obtain ⟨k, h⟩ := ih s.skipWave
    exact ⟨k, h⟩

theorem dropWaves_eq_withCopies (s : State) (chain : Nat) : ∃ jobs waves k, s.dropWaves chain = withCopies jobs waves k s := by
  unfold State.dropWaves
  obtain ⟨k, h⟩ := skipWaves_eq_withCopies (s.ac.waves.filter fun w => w.dir.chain == chain)
    { s with
      frame := { s.frame with waiting := s.frame.waiting.filter fun j =>
        !((s.ac.waves.filter fun w => w.dir.chain == chain).any fun w => waveJob w.ctx w.up == j) }
      ac := { s.ac with waves := s.ac.waves.filter fun w => w.dir.chain != chain } }
  exact ⟨_, _, k, h⟩

section Copies

variable (jobs : List DynJob) (waves : List WaveCopy) (skipped : Nat)

/-! The copies have no part in the passing of time: moving the time and dropping copies commute. -/

theorem raiseAll_withCopies (es : List Raised) (s : State) :
    (withCopies jobs waves skipped s).raiseAll es = withCopies jobs waves skipped (s.raiseAll es) := by
  induction es generalizing s with
  | nil => rfl
  | cons e es ih => exact ih (s.raise e)

@[simp] theorem withCopies_pwr (s : State) : (withCopies jobs waves skipped s).pwr = s.pwr := rfl
@[simp] theorem withCopies_now (s : State) : (withCopies jobs waves skipped s).frame.now = s.frame.now := rfl
@[simp] theorem withCopies_tick (s : State) : (withCopies jobs waves skipped s).frame.tick = s.frame.tick := rfl
@[simp] theorem withCopies_done (s : State) : (withCopies jobs waves skipped s).frame.done = s.frame.done := rfl
@[simp] theorem withCopies_dpNeeded (s : State) : (withCopies jobs waves skipped s).dpNeeded = s.dpNeeded := rfl

theorem count1_withCopies (a : Act) (s : State) :
    (withCopies jobs waves skipped s).count1 a = withCopies jobs waves skipped (s.count1 a) := by
  by_cases hon : (s.pwr.dom (blockDomain a.block)).on = true
  · simp only [State.count1, withCopies_pwr, hon, if_true]
    rw [← raiseAll_withCopies]
    rfl
  · simp only [State.count1, withCopies_pwr, hon, Bool.false_eq_true, if_false]

theorem count_withCopies (acts : List Act) (s : State) :
    (withCopies jobs waves skipped s).count acts = withCopies jobs waves skipped (s.count acts) := by
  induction acts generalizing s with
  | nil => rfl
  | cons a acts ih =>
    calc (withCopies jobs waves skipped s).count (a :: acts)
        = State.count acts ((withCopies jobs waves skipped s).count1 a) := rfl
      _ = withCopies jobs waves skipped (State.count acts (s.count1 a)) := by rw [count1_withCopies, ih]

theorem passTicks_withCopies (n : Nat) (s : State) :
    (withCopies jobs waves skipped s).passTicks n = withCopies jobs waves skipped (s.passTicks n) := by
  unfold State.passTicks
  rw [← count_withCopies]
  rfl

theorem elapse_withCopies (s : State) :
    (withCopies jobs waves skipped s).elapse = withCopies jobs waves skipped s.elapse := by
  by_cases hdone : s.frame.tick - s.frame.done = 0
  · simp only [State.elapse, State.elapseBy, withCopies_tick, withCopies_done, hdone, if_true]
    rfl
  · simp only [State.elapse, State.elapseBy, withCopies_tick, withCopies_done, hdone, if_false]
    rw [← passTicks_withCopies]
    rfl

theorem toPower_withCopies (p : PState) (s : State) :
    (withCopies jobs waves skipped s).toPower p = withCopies jobs waves skipped (s.toPower p) := by
  by_cases hsame : s.elapse.pwr.state = p
  · simp only [State.toPower, elapse_withCopies, withCopies_pwr, hsame, if_true]
    rfl
  · simp only [State.toPower, elapse_withCopies, withCopies_pwr, hsame, if_false]
    rfl

theorem leaveWick_withCopies (source : Nat) (s : State) :
    (withCopies jobs waves skipped s).leaveWick source = withCopies jobs waves skipped (s.leaveWick source) := by
  by_cases hwick : s.pwr.state = .wick
  · simp only [State.leaveWick, toPower_withCopies, withCopies_pwr, withCopies_now, withCopies_dpNeeded, hwick, if_true]
    rfl
  · simp only [State.leaveWick, withCopies_pwr, hwick, if_false]

theorem settlePins_withCopies (s : State) :
    (withCopies jobs waves skipped s).settlePins = withCopies jobs waves skipped s.settlePins := by
  have hhdEnd : (withCopies jobs waves skipped s).ac.hdEnd = s.ac.hdEnd := rfl
  have hflight : (withCopies jobs waves skipped s).ac.flight = s.ac.flight := rfl
  have hlinks : (withCopies jobs waves skipped s).ac.links = s.ac.links := rfl
  have hcyc : (withCopies jobs waves skipped s).frame.cyc = s.frame.cyc := rfl
  simp only [State.settlePins, hhdEnd, hflight, hlinks, hcyc]
  generalize (s.ac.hdEnd.map fun e => decide (e ≤ 500 * s.frame.cyc)).getD false = off
  generalize (s.ac.flight.isEmpty && s.ac.links.all fun l => decide (l.ends ≤ 500 * s.frame.cyc)) = ended
  cases off <;> cases ended <;> rfl

theorem atCyc_withCopies (s : State) (cyc : Nat) :
    (withCopies jobs waves skipped s).atCyc cyc = withCopies jobs waves skipped (s.atCyc cyc) := by
  have hmoved : ({ withCopies jobs waves skipped s with frame := (withCopies jobs waves skipped s).frame.at_ cyc } : State) =
      withCopies jobs waves skipped { s with frame := s.frame.at_ cyc } := rfl
  simp only [State.atCyc, hmoved, settlePins_withCopies]
  generalize State.settlePins { s with frame := s.frame.at_ cyc } = v
  by_cases hdoze : v.pwr.state = .doze
  · simp only [withCopies_pwr, hdoze, if_true, toPower_withCopies]
  · simp only [withCopies_pwr, hdoze, if_false, leaveWick_withCopies]

end Copies

end Sys2Proof.Proofs
end

section
/-! PROOF. A window closes (R22, R91, R118, R138), a measurement ends without a stop (R171 to R173), and an input of the TDC is
calibrated (R169 to R181). -/

namespace Sys2Proof.Proofs

open Sys2Proof Sys2Proof.Machine Sys2Proof.Laws

/-! ### The stated time -/

@[simp] theorem toPower_set (p : PState) (s : State) : (s.toPower p).set = s.set := by
  simp only [State.toPower]
  split <;> exact elapse_set s

@[simp] theorem toPower_ac (p : PState) (s : State) : (s.toPower p).ac = s.ac := by
  simp only [State.toPower]
  split <;> exact elapse_ac s

@[simp] theorem leaveWick_set (source : Nat) (s : State) : (s.leaveWick source).set = s.set := by
  simp only [State.leaveWick]
  split
  · exact toPower_set .run s
  · rfl

@[simp] theorem leaveWick_ac (source : Nat) (s : State) : (s.leaveWick source).ac = s.ac := by
  simp only [State.leaveWick]
  split
  · exact toPower_ac .run s
  · rfl

/-- A stated time leaves the settings. -/
@[simp] theorem atCyc_set (s : State) (cyc : Nat) : (s.atCyc cyc).set = s.set := by
  simp only [State.atCyc]
  split <;> simp

@[simp] theorem atCyc_eff (s : State) (cyc : Nat) : (s.atCyc cyc).eff = s.eff := by
  funext k
  simp only [State.eff, atCyc_set]

/-- Of the acoustic blocks a stated time settles the pins alone. -/
theorem atCyc_ac_only (s : State) (cyc : Nat) :
    ∃ hd cb ls dr, (s.atCyc cyc).ac = { s.ac with hdEnd := hd, crossbar := cb, links := ls, drives := dr } := by
  obtain ⟨_, hd, cb, ls, dr, h⟩ := settlePins_only { s with frame := s.frame.at_ cyc }
  refine ⟨hd, cb, ls, dr, ?_⟩
  simp only [State.atCyc]
  split <;> simp [h]

@[simp] theorem atCyc_captures (s : State) (cyc : Nat) : (s.atCyc cyc).ac.captures = s.ac.captures := by
  obtain ⟨_, _, _, _, h⟩ := atCyc_ac_only s cyc
  rw [h]

@[simp] theorem atCyc_ctx (s : State) (cyc : Nat) : (s.atCyc cyc).ac.ctx = s.ac.ctx := by
  obtain ⟨_, _, _, _, h⟩ := atCyc_ac_only s cyc
  rw [h]

@[simp] theorem atCyc_ctxAt (s : State) (cyc n : Nat) : (s.atCyc cyc).ac.ctxAt n = s.ac.ctxAt n := by
  simp only [Acoustic.ctxAt, atCyc_ctx]

@[simp] theorem atCyc_overflows (s : State) (cyc : Nat) : (s.atCyc cyc).ac.overflows = s.ac.overflows := by
  obtain ⟨_, _, _, _, h⟩ := atCyc_ac_only s cyc
  rw [h]

@[simp] theorem atCyc_timeouts (s : State) (cyc : Nat) : (s.atCyc cyc).ac.timeouts = s.ac.timeouts := by
  obtain ⟨_, _, _, _, h⟩ := atCyc_ac_only s cyc
  rw [h]

/-! ### The samples of a window -/

/-- What the capture of a window holds: WIN_LEN samples clamped to 12 bits, with the sign that the receiving pin gives them. -/
theorem windowOf_samples (v : View) (n : Nat) (up : Bool) (m : WindowMeas) :
    (windowOf v n up m).samples.length = ctxWinLen v n ∧
    ∀ i, i < ctxWinLen v n → (windowOf v n up m).samples[i]? = some
      (let x := max (-2048) (min 2047 (m.samples.getD i 0))
       if pinInvert v (rxPin v n up) then max (-2048) (min 2047 (-x)) else x) := by
  cases hinv : pinInvert v (rxPin v n up)
  · simp +contextual [windowOf, hinv, captureOf, adcSample, sampleAt]
  · simp +contextual [windowOf, hinv, captureOf, adcSample, sampleAt, WindowMeas.inverted]

/-! ### A window closes -/

/-- WINDOW_CLOSE of an open window of a fired direction: the measured direction takes its place in the attempt, its capture is
kept, and what follows counts, ends shots and settles the context. -/
theorem windowClose_eq (n : Nat) (up acq : Bool) (m : WindowMeas) (s u : State) (a : Attempt)
    (hat : (s.ac.ctxAt n).attempt acq = some a) (hfired : (a.dir up).fired = true) (hopen : (a.dir up).closed = false)
    (hu : u = s.atCyc ((a.dir up).closeCyc s.eff n)) :
    ∃ (d : DirRun) (f : Ctx → Ctx) (ac : Acoustic) (es : List Raised) (acts : List Act),
      (windowClose n up acq m s =
        let v := (({ u with ac := ac }.raiseAll es).count acts).endShots
        if acq then v else (v.settle n).startFlow) ∧
      d.closed = true ∧ d.closedAt = u.frame.cyc ∧
      ac.captures = setAt u.ac.captures (a.dir up).chain (windowOf s.eff n up m).samples ∧
      ac.ctx = modAt u.ac.ctx n f ∧ ∀ c, (f c).attempt acq = (c.attempt acq).map (Attempt.setDir up d) := by
  have heff : u.eff = s.eff := by rw [hu, atCyc_eff]
  simp only [windowClose, hat, hfired, hopen, Bool.not_true, Bool.or_self, Bool.false_eq_true, if_false, ← hu, heff]
  refine ⟨((a.dir up).close_ s.eff n (u.ac.ctxAt n).h u.frame.cyc u.scaleK (windowOf s.eff n up m)).1,
    _, _, _, _, rfl, rfl, rfl, rfl, rfl, fun c => ?_⟩
  cases acq <;> rfl

/-- The state that a window's close leaves: the windows of the attempt are those it had but for the one that closed at the stated
time, and the capture is kept for the chain. -/
theorem windowClose_closes (n : Nat) (up acq : Bool) (m : WindowMeas) (s u : State) (a : Attempt)
    (hat : (s.ac.ctxAt n).attempt acq = some a) (hfired : (a.dir up).fired = true) (hopen : (a.dir up).closed = false)
    (hu : u = s.atCyc ((a.dir up).closeCyc s.eff n)) :
    PlanOnly u (windowClose n up acq m s) ∧
    (windowClose n up acq m s).ac.captures = setAt s.ac.captures (a.dir up).chain (windowOf s.eff n up m).samples ∧
    (n < s.ac.ctx.length → ∃ d : DirRun, d.closed = true ∧ d.closedAt = u.frame.cyc ∧
      ctxWindows acq ((windowClose n up acq m s).ac.ctxAt n) = some (attemptWindows (a.setDir up d))) := by
  obtain ⟨d, f, ac, es, acts, heq, hclosed, hat', hcap, hctx, hf⟩ := windowClose_eq n up acq m s u a hat hfired hopen hu
  have hctx' : u.ac.ctx = s.ac.ctx := by rw [hu, atCyc_ctx]
  have hkeeps : KeepsWindows { u with ac := ac } (windowClose n up acq m s) := by
    have htail := KeepsWindows_trans
      (KeepsWindows_of_CountsOnly (CountsOnly_trans (CountsOnly_raiseAll es { u with ac := ac }) (CountsOnly_count acts _)))
      (KeepsWindows_endShots _)
    rw [heq]
    cases acq
    · exact KeepsWindows_trans htail (KeepsWindows_trans (KeepsWindows_settle _ n) (KeepsWindows_startFlow _))
    · exact htail
  refine ⟨PlanOnly_trans (PlanOnly_of_plan u.frame ac u) hkeeps.outside, ?_, fun hn => ⟨d, hclosed, hat', ?_⟩⟩
  · rw [hkeeps.captures]
    simpa only [hu, atCyc_captures] using hcap
  · have hrecorded : ac.ctxAt n = f (s.ac.ctxAt n) := by
      rw [← ctxAt_modCtx_same s.ac n f hn]
      simp only [Acoustic.ctxAt, Acoustic.modCtx, hctx, hctx']
    rw [hkeeps.windows n acq]
    simp only [ctxWindows, hrecorded, hf, hat, Option.map_some]

/-! ### The work on the first attempt's capture -/

/-- After its close, a window of a first attempt gives its samples to a template capture and its copy is requested: no window
closes by that. -/
theorem windowCloseAll_keeps (n : Nat) (up acq : Bool) (m : WindowMeas) (s : State) (a : Attempt)
    (hat : (s.ac.ctxAt n).attempt acq = some a) (hfired : (a.dir up).fired = true) (hopen : (a.dir up).closed = false) :
    KeepsWindows (windowClose n up acq m (s.dropWaves (a.dir up).chain)) (windowCloseAll n up acq m s) := by
  simp only [windowCloseAll, hat, hfired, hopen, Bool.not_true, Bool.or_self, Bool.false_eq_true, if_false]
  generalize windowClose n up acq m (s.dropWaves (a.dir up).chain) = v
  split
  · exact KeepsWindows_refl v
  · split
    · exact KeepsWindows_refl v
    · refine KeepsWindows_trans ?_ (KeepsWindows_requestWave _ n up _)
      exact KeepsWindows_of_plan v.frame _ v rfl rfl

/-- WINDOW_CLOSE with the work on the capture, against the state at the time that the window ends. -/
theorem windowCloseAll_closes (n : Nat) (up acq : Bool) (m : WindowMeas) (s u : State) (a : Attempt)
    (hat : (s.ac.ctxAt n).attempt acq = some a) (hfired : (a.dir up).fired = true) (hopen : (a.dir up).closed = false)
    (hu : u = s.atCyc ((a.dir up).closeCyc s.eff n)) :
    PlanOnly u (windowCloseAll n up acq m s) ∧
    (windowCloseAll n up acq m s).ac.captures = setAt s.ac.captures (a.dir up).chain (windowOf s.eff n up m).samples ∧
    (n < s.ac.ctx.length → ∃ d : DirRun, d.closed = true ∧ d.closedAt = u.frame.cyc ∧
      ctxWindows acq ((windowCloseAll n up acq m s).ac.ctxAt n) = some (attemptWindows (a.setDir up d))) := by
  have hkeeps := windowCloseAll_keeps n up acq m s a hat hfired hopen
  obtain ⟨jobs, waves, k, hdrop⟩ := dropWaves_eq_withCopies s (a.dir up).chain
  rw [hdrop] at hkeeps
  have htime : withCopies jobs waves k u = (withCopies jobs waves k s).atCyc ((a.dir up).closeCyc s.eff n) := by
    rw [hu, atCyc_withCopies]
  obtain ⟨houtside, hcap, hwin⟩ := windowClose_closes n up acq m (withCopies jobs waves k s) _ a hat hfired hopen htime
  refine ⟨PlanOnly_trans (PlanOnly_trans (PlanOnly_of_plan _ _ u) houtside) hkeeps.outside, hkeeps.captures.trans hcap, fun hn => ?_⟩
  obtain ⟨d, hclosed, hat', hd⟩ := hwin hn
  exact ⟨d, hclosed, hat', (hkeeps.windows n acq).trans hd⟩

/-- A window that is not open leaves WINDOW_CLOSE without effect. -/
theorem windowCloseAll_of_not_open (n : Nat) (up acq : Bool) (m : WindowMeas) (s : State)
    (h : (s.ac.ctxAt n).attempt acq = none ∨
      ∃ a, (s.ac.ctxAt n).attempt acq = some a ∧ ((a.dir up).fired = false ∨ (a.dir up).closed = true)) :
    windowCloseAll n up acq m s = s := by
  obtain hnone | ⟨a, hat, hshut⟩ := h
  · simp only [windowCloseAll, hnone]
  · have hshut' : (!(a.dir up).fired || (a.dir up).closed) = true := by simpa using hshut
    simp only [windowCloseAll, hat, hshut', if_true]

/-! ### A measurement ends without a stop -/

/-- The wrap of a long window's count, and the time-out of a short window, are none. -/
theorem tdcEnd_other_kind (wrap : Bool) (n : Nat) (up acq : Bool) (late cyc : Nat) (s : State)
    (h : shortWindow s.eff n ≠ wrap) : tdcEnd wrap n up acq late cyc s = s := by
  simp [tdcEnd, h]

/-- The acoustic blocks with the direction of an attempt marked as missing, counted in the counter of its kind of window. -/
def missingIn (short : Bool) (n : Nat) (up acq : Bool) (a : Attempt) (ac : Acoustic) : Acoustic :=
  let ac1 := ac.modCtx n (Ctx.modAttempt acq (Attempt.setDir up { a.dir up with missing := true }))
  if short then { ac1 with overflows := min (2 ^ 32 - 1) (ac.overflows + 1) }
  else { ac1 with timeouts := min (2 ^ 32 - 1) (ac.timeouts + 1) }

theorem missingIn_ctxAt (short : Bool) (n k : Nat) (up acq : Bool) (a : Attempt) (ac : Acoustic) :
    (missingIn short n up acq a ac).ctxAt k =
      (ac.modCtx n (Ctx.modAttempt acq (Attempt.setDir up { a.dir up with missing := true }))).ctxAt k := by
  cases short <;> rfl

theorem missingIn_attempt (short : Bool) (n : Nat) (up acq : Bool) (a : Attempt) (ac : Acoustic)
    (hat : (ac.ctxAt n).attempt acq = some a) (hn : n < ac.ctx.length) :
    ((missingIn short n up acq a ac).ctxAt n).attempt acq = some (a.setDir up { a.dir up with missing := true }) := by
  rw [missingIn_ctxAt, ctxAt_modCtx_same _ _ _ hn, attempt_modAttempt, hat, Option.map_some]

theorem missingIn_ctxAt_other (short : Bool) (n k : Nat) (up acq : Bool) (a : Attempt) (ac : Acoustic) (hk : k ≠ n) :
    (missingIn short n up acq a ac).ctxAt k = ac.ctxAt k := by
  rw [missingIn_ctxAt, ctxAt_modCtx_other _ _ _ _ hk]

/-- The end of an open measurement without a stop marks its direction as missing, raises one event and counts it. -/
theorem tdcEnd_eq (wrap : Bool) (n : Nat) (up acq : Bool) (late cyc : Nat) (s u : State) (a : Attempt)
    (hkind : shortWindow s.eff n = wrap) (hat : (u.ac.ctxAt n).attempt acq = some a) (hfired : (a.dir up).fired = true)
    (hopen : (a.dir up).closed = false) (hmissing : (a.dir up).missing = false) (hu : u = s.atCyc cyc) :
    ∃ e acts, tdcEnd wrap n up acq late cyc s = (State.raise e { u with ac := missingIn wrap n up acq a u.ac }).count acts := by
  have hruns : (!(a.dir up).fired || (a.dir up).closed || (a.dir up).missing) = false := by simp [hfired, hopen, hmissing]
  simp only [tdcEnd, hkind, beq_self_eq_true, if_true, acousticMissing, ← hu, hat, hruns, Bool.false_eq_true, if_false]
  cases wrap <;> exact ⟨_, _, rfl⟩

/-- Beside the mark and its counter only what events and counting change differs. -/
theorem tdcEnd_missing (wrap : Bool) (n : Nat) (up acq : Bool) (late cyc : Nat) (s u : State) (a : Attempt)
    (hkind : shortWindow s.eff n = wrap) (hat : (u.ac.ctxAt n).attempt acq = some a) (hfired : (a.dir up).fired = true)
    (hopen : (a.dir up).closed = false) (hmissing : (a.dir up).missing = false) (hu : u = s.atCyc cyc) :
    CountsOnly { u with ac := missingIn wrap n up acq a u.ac } (tdcEnd wrap n up acq late cyc s) := by
  obtain ⟨e, acts, heq⟩ := tdcEnd_eq wrap n up acq late cyc s u a hkind hat hfired hopen hmissing hu
  rw [heq]
  exact CountsOnly_trans (CountsOnly_raise e _) (CountsOnly_count acts _)

/-! ### An input is calibrated -/

/-- A sound first reading of a calibration stands (R170). -/
theorem calibrate_sound (c : CalReading) (a : Acoustic) (hlow : c.r1 + 448 ≤ c.r2) (hhigh : c.r2 ≤ c.r1 + 576) :
    a.calibrate c = { a with
      calR := setAt a.calR c.input (c.r1, c.r2)
      calGain := setAt a.calGain c.input (c.r2 - c.r1)
      calFaulty := a.calFaulty.filter fun i => i != c.input } := by
  simp [Acoustic.calibrate, calOutcome, calSound, hlow, hhigh]

/-- TM_INPUT_CALIBRATION of input 17 or 18: the calibration with the stops and readings of the input's gate, counted. -/
theorem tmInputCalibration_eq (c : CalReading) (stops : List (Nat × Nat)) (s : State) (h : c.input = 17 ∨ c.input = 18) :
    ∃ acts, tmInputCalibration c stops s = State.count acts { s with ac := { s.ac.calibrate c with
      gate17 := if c.input = 17 then gateCal (calOutcome c).1 (gateStops stops s.ac.gate17) else s.ac.gate17
      gate18 := if c.input = 18 then gateCal (calOutcome c).1 s.ac.gate18 else s.ac.gate18 } } := by
  obtain h17 | h18 := h
  · have h18 : c.input ≠ 18 := by omega
    simp only [tmInputCalibration, if_pos h17, if_neg h18]
    exact ⟨_, rfl⟩
  · have h17 : c.input ≠ 17 := by omega
    simp only [tmInputCalibration, if_neg h17, if_pos h18]
    exact ⟨_, rfl⟩

/-! ### The clauses -/

/-- WINDOW_CLOSE of an open window of a fired direction. -/
theorem windowClose_does (n : Nat) (up acq : Bool) (samples : List Int) (seen : WindowSeen) (s : State) (a : Attempt) (u : State)
    (hat : (s.ac.ctxAt n).attempt acq = some a) (hfired : (a.dir up).fired = true) (hopen : (a.dir up).closed = false)
    (hu : u = s.atCyc ((a.dir up).closeCyc s.eff n)) :
    Does (.windowClose n up acq samples seen) s fun t =>
      (∃ xs, t.ac.captures = setAt s.ac.captures (a.dir up).chain xs ∧ xs.length = ctxWinLen s.eff n ∧
        ∀ i, i < ctxWinLen s.eff n → xs[i]? = some
          (let x := max (-2048) (min 2047 (samples.getD i 0))
           if pinInvert s.eff (rxPin s.eff n up) then max (-2048) (min 2047 (-x)) else x)) ∧
      (s.ac.ctx.length = 64 → n < 64 →
        ∃ b, (t.ac.ctxAt n).attempt acq = some b ∧ (b.dir up).closed = true ∧ (b.dir up).closedAt = u.frame.cyc ∧
          (b.dir (!up)).closed = (a.dir (!up)).closed) ∧
      CountsOnly { u with frame := t.frame, ac := t.ac } t := by
  obtain ⟨houtside, hcap, hwin⟩ := windowCloseAll_closes n up acq (seen.meas samples) s u a hat hfired hopen hu
  refine ⟨_, rfl, ⟨_, hcap, windowOf_samples s.eff n up (seen.meas samples)⟩, fun hlen hn => ?_, houtside⟩
  obtain ⟨d, hclosed, hclosedAt, hd⟩ := hwin (hlen ▸ hn)
  obtain ⟨b, hb, hbd⟩ := Option.map_eq_some_iff.1 hd
  obtain ⟨hsame, hsameAt⟩ := windows_dir hbd up
  obtain ⟨hother, _⟩ := windows_dir hbd (!up)
  rw [dir_setDir_same] at hsame hsameAt
  rw [dir_setDir_other] at hother
  exact ⟨b, hb, hsame.trans hclosed, hsameAt.trans hclosedAt, hother⟩

/-- TM_INPUT_CALIBRATION of input 17 or 18. -/
theorem tmInputCalibration_does (c : CalReading) (stops : List (Nat × Nat)) (s : State) (h : c.input = 17 ∨ c.input = 18) :
    Does (.tmInputCalibration ⟨c, stops⟩) s fun t =>
      t.ac = { s.ac.calibrate c with gate17 := t.ac.gate17, gate18 := t.ac.gate18 } ∧
      (c.input = 17 → t.ac.gate17 = gateCal (calOutcome c).1 (gateStops stops s.ac.gate17) ∧ t.ac.gate18 = s.ac.gate18) ∧
      (c.input = 18 → t.ac.gate18 = gateCal (calOutcome c).1 s.ac.gate18 ∧ t.ac.gate17 = s.ac.gate17) ∧
      (c.r1 + 448 ≤ c.r2 → c.r2 ≤ c.r1 + 576 →
        t.ac.calR = setAt s.ac.calR c.input (c.r1, c.r2) ∧ t.ac.calGain = setAt s.ac.calGain c.input (c.r2 - c.r1) ∧
        t.ac.calFaulty = s.ac.calFaulty.filter (fun i => i != c.input) ∧ t.ac.calFaults = s.ac.calFaults) ∧
      CountsOnly { s with ac := t.ac } t := by
  obtain ⟨acts, heq⟩ := tmInputCalibration_eq c stops s h
  refine ⟨tmInputCalibration c stops s, rfl, ?_⟩
  simp only [heq, count_ac]
  refine ⟨trivial, fun h17 => ?_, fun h18 => ?_, fun hlow hhigh => ?_, CountsOnly_count _ _⟩
  · have h18 : c.input ≠ 18 := by omega
    exact ⟨if_pos h17, if_neg h18⟩
  · have h17 : c.input ≠ 17 := by omega
    exact ⟨if_pos h18, if_neg h17⟩
  · rw [calibrate_sound c s.ac hlow hhigh]
    exact ⟨rfl, rfl, rfl, rfl⟩

/-- Settles O11: the window that closes is the one change of the attempts' windows (`KeepsWindows` of every step that follows),
and a measurement without a stop and a calibration change their part of the acoustic blocks. -/
theorem windowsCloseAndAreJudged : Obligations.WindowsCloseAndAreJudged := by
  unfold Obligations.WindowsCloseAndAreJudged
  refine ⟨fun n up acq samples seen s => ⟨fun hshut => ?_, fun a u hat hfired hopen hu => ?_⟩,
    fun n late cyc up acq s => ⟨fun hlong => ?_, fun hshort => ?_, fun a u hat hfired hopen hmissing hn hlen hu => ?_⟩,
    fun c stops s => ⟨fun h17 h18 => ?_, tmInputCalibration_does c stops s⟩⟩
  · exact congrArg Host.Outcome.next (windowCloseAll_of_not_open n up acq (seen.meas samples) s hshut)
  · exact windowClose_does n up acq samples seen s a u hat hfired hopen hu
  · exact congrArg Host.Outcome.next (tdcEnd_other_kind true n up acq late cyc s (by simp [shortWindow, hlong]))
  · exact congrArg Host.Outcome.next (tdcEnd_other_kind false n up acq 0 cyc s (by simp [shortWindow, hshort]))
  · have hat' : (u.ac.ctxAt n).attempt acq = some a := by rw [hu, atCyc_ctxAt, hat]
    have hn' : n < u.ac.ctx.length := by rw [hu, atCyc_ctx, hlen]; exact hn
    have hover : u.ac.overflows = s.ac.overflows := by rw [hu, atCyc_overflows]
    have htime : u.ac.timeouts = s.ac.timeouts := by rw [hu, atCyc_timeouts]
    have hctxAt : ∀ k, u.ac.ctxAt k = s.ac.ctxAt k := fun k => by rw [hu, atCyc_ctxAt]
    have hothers : ∀ short k, k ≠ n → (missingIn short n up acq a u.ac).ctxAt k = s.ac.ctxAt k :=
      fun short k hk => (missingIn_ctxAt_other short n k up acq a u.ac hk).trans (hctxAt k)
    refine ⟨fun hshort => ?_, fun hlong => ?_⟩
    · have hkind : shortWindow s.eff n = true := by simp [shortWindow, hshort]
      have hcounts := tdcEnd_missing true n up acq late cyc s u a hkind hat' hfired hopen hmissing hu
      refine ⟨tdcEnd true n up acq late cyc s, rfl, ?_⟩
      rw [← hover]
      simp only [CountsOnly_ac hcounts]
      exact ⟨rfl, missingIn_attempt true n up acq a u.ac hat' hn', hothers true, hcounts⟩
    · have hkind : shortWindow s.eff n = false := by simp [shortWindow, hlong]
      have hcounts := tdcEnd_missing false n up acq 0 cyc s u a hkind hat' hfired hopen hmissing hu
      refine ⟨tdcEnd false n up acq 0 cyc s, rfl, ?_⟩
      rw [← htime]
      simp only [CountsOnly_ac hcounts]
      exact ⟨rfl, missingIn_attempt false n up acq a u.ac hat' hn', hothers false, hcounts⟩
  · simp only [exec, execTmInputCalibration, tmInputCalibration, if_neg h17, if_neg h18]

end Sys2Proof.Proofs
end

section
/-! PROOF. The reference events of the boundary (R78 to R80): the number of periods that an event lies beyond the last accepted
one, and its acceptance or rejection. -/

namespace Sys2Proof.Proofs

open Sys2Proof Sys2Proof.Machine

/-! ### Arithmetic of the prediction -/

theorem sumR_eq_foldl (l : List Rat) : sumR l = l.foldl (· + ·) 0 := by
  rw [← List.sum_eq_foldl]
  induction l with
  | nil => rfl
  | cons q qs ih => rw [sumR, ih, List.sum_cons]

theorem quo_of_ne_zero {b : Rat} (a : Rat) (hb : b ≠ 0) : quo a b = a / b := if_neg hb

/-- A value less than a half from a number that is at least 1 rounds to that number (R636). -/
theorem roundAway_of_near {q : Rat} {n : Nat} (hn : 1 ≤ n) (hnear : |q - n| < 1 / 2) : roundAway q = n := by
  obtain ⟨hlow, hhigh⟩ := abs_lt.1 hnear
  have hone : (1 : Rat) ≤ n := by exact_mod_cast hn
  have hpos : 0 ≤ q := by linarith
  have hfloor : ⌊q + 1 / 2⌋ = (n : Int) := by
    rw [Int.floor_eq_iff, Int.cast_natCast]
    constructor <;> linarith
  exact (if_pos hpos).trans hfloor

theorem ite_neg_eq_abs (q : Rat) : (if q < 0 then -q else q) = |q| := by
  split
  case isTrue hneg => exact (abs_of_neg hneg).symm
  case isFalse hnonneg => exact (abs_of_nonneg (not_lt.1 hnonneg)).symm

/-! ### The test of a reference event -/

/-- The n of R80: the whole number of periods `p`, at least 1, whose prediction lies nearest to an event `gap` after the last
accepted one. -/
def syncSteps (gap p : Rat) : Nat := (max 1 (roundAway (gap / p))).toNat

theorem one_le_syncSteps (gap p : Rat) : 1 ≤ syncSteps gap p := by
  unfold syncSteps
  omega

theorem syncSteps_cast (gap p : Rat) : ((syncSteps gap p : Nat) : Int) = max 1 (roundAway (gap / p)) := by
  unfold syncSteps
  omega

/-- Within p/50 of a prediction, the event is nearest to that prediction: a quotient within 1/50 of n rounds to n. -/
theorem syncSteps_of_near {gap p : Rat} {n : Nat} (hp : 0 < p) (hn : 1 ≤ n) (hnear : |gap - n * p| ≤ p / 50) :
    syncSteps gap p = n := by
  have hquot : |gap / p - n| ≤ 1 / 50 := by
    have hdiff : gap / p - n = (gap - n * p) / p := by field_simp
    rw [hdiff, abs_div, abs_of_pos hp, div_le_iff₀ hp]
    linarith
  rw [syncSteps, roundAway_of_near hn (by linarith)]
  omega

/-- The state of synchronization after an accepted event at `t`, `n` periods after the last accepted one (R79, R80). -/
def acceptEvent (k t n : Nat) (y : Sync) : Sync :=
  { y with
    last := t, index := y.index + n
    intervals := (((t : Rat) - (y.last : Rat)) / (n : Rat) :: y.intervals).take maxSyncEvents
    aligned := if (y.index + n) % k = 0 then t :: y.aligned else y.aligned }

/-- A rejected event is counted and changes nothing else (R80). -/
def rejectEvent (y : Sync) : Sync := { y with rejects := satInc (2 ^ 32 - 1) y.rejects }

theorem event_of_not_started (period k t : Nat) {y : Sync} (h : y.started = false) :
    y.event period k t = { y with started := true, last := t, index := 0, intervals := [], aligned := t :: y.aligned } := by
  simp [Sync.event, h]

/-- Once the index is started, an event is tested against the nearest prediction alone. -/
theorem event_of_started (period k t : Nat) {y : Sync} {p gap : Rat} (h : y.started = true) (hp : 0 < p)
    (href : y.reference period k = p) (hgap : gap = (t : Rat) - (y.last : Rat)) :
    y.event period k t =
      if |gap - syncSteps gap p * p| ≤ p / 50 then acceptEvent k t (syncSteps gap p) y else rejectEvent y := by
  have hgapInt : ((((t : Int) - (y.last : Int) : Int)) : Rat) = gap := by rw [hgap]; push_cast; rfl
  have hsteps : ((syncSteps gap p : Nat) : Rat) ≠ 0 := Nat.cast_ne_zero.2 (Nat.one_le_iff_ne_zero.1 (one_le_syncSteps gap p))
  simp only [Sync.event, h, Bool.not_true, Bool.false_eq_true, if_false, href, hgapInt, quo_of_ne_zero gap hp.ne',
    ← syncSteps_cast, Int.cast_natCast, Int.toNat_natCast, quo_of_ne_zero gap hsteps, ite_neg_eq_abs]
  rw [acceptEvent, rejectEvent, ← hgap, h]

theorem event_accepted (period k t n : Nat) {y : Sync} {p : Rat} (h : y.started = true) (hp : 0 < p)
    (href : y.reference period k = p) (hn : 1 ≤ n) (hnear : |(t : Rat) - (y.last : Rat) - n * p| ≤ p / 50) :
    y.event period k t = acceptEvent k t n y := by
  rw [event_of_started period k t h hp href rfl, syncSteps_of_near hp hn hnear, if_pos hnear]

theorem event_rejected (period k t : Nat) {y : Sync} {p : Rat} (h : y.started = true) (hp : 0 < p)
    (href : y.reference period k = p)
    (hfar : ∀ n : Nat, 1 ≤ n → p / 50 < |(t : Rat) - (y.last : Rat) - n * p|) :
    y.event period k t = rejectEvent y := by
  rw [event_of_started period k t h hp href rfl, if_neg (not_le.2 (hfar _ (one_le_syncSteps _ p)))]

/-- The reference period in use, written with the quotients of R80. -/
theorem reference_eq (period : Nat) {k : Nat} (y : Sync) (hk : 0 < k) :
    y.reference period k =
      if y.intervals.length < k then (period * 15625 : Rat) / (k : Rat)
      else (y.intervals.take k).foldl (· + ·) 0 / (k : Rat) := by
  have hk0 : (k : Rat) ≠ 0 := Nat.cast_ne_zero.2 hk.ne'
  simp only [Sync.reference, quo_of_ne_zero _ hk0, sumR_eq_foldl, tickNow, Nat.cast_mul, Nat.cast_ofNat]

/-! ### The command -/

theorem exec_syncReferenceEvent_of_no_event (cyc : Nat) (s : State)
    (h : s.frame.running = false ∨ s.syncEventAt (s.frame.base + 8 * cyc) = none) :
    exec (.syncReferenceEvent cyc) s = .next s := by
  have hnone : (if s.frame.running then s.syncEventAt (s.frame.base + 8 * cyc) else none) = none := by
    obtain hstopped | hno := h
    · simp [hstopped]
    · simp [hno]
  simp only [exec, execSyncReferenceEvent, syncReferenceEvent, hnone]

theorem exec_syncReferenceEvent_of_event (cyc t : Nat) (s : State) (hrun : s.frame.running = true)
    (hevent : s.syncEventAt (s.frame.base + 8 * cyc) = some t) :
    exec (.syncReferenceEvent cyc) s =
      .next { s with frame := s.frame.at_ cyc, sync := s.sync.event s.period s.syncEvents t } := by
  simp only [exec, execSyncReferenceEvent, syncReferenceEvent, hrun, if_true, hevent]

/-- Settles O5: the model tests one n, that of the nearest prediction, and an event within P/50 of any prediction is nearest to
that one (`syncSteps_of_near`). -/
theorem syncReferenceEventIsTestedAgainstItsPrediction : Obligations.SyncReferenceEventIsTestedAgainstItsPrediction := by
  unfold Obligations.SyncReferenceEventIsTestedAgainstItsPrediction
  refine ⟨fun now s hsyni => by simp only [State.syncEventAt, hsyni], exec_syncReferenceEvent_of_no_event,
    fun cyc t s hrun hevent _ hk => ?_⟩
  rw [exec_syncReferenceEvent_of_event cyc t s hrun hevent]
  refine ⟨fun hfirst => ?_, fun hstarted p hp hpref => ?_⟩
  · rw [event_of_not_started s.period s.syncEvents t hfirst]
  · have href : s.sync.reference s.period s.syncEvents = p := (reference_eq s.period s.sync hk).trans hpref.symm
    refine ⟨fun n hn hnear => ?_, fun hfar => ?_⟩
    · rw [event_accepted s.period s.syncEvents t n hstarted hp href hn hnear, acceptEvent, maxSyncEvents]
    · rw [event_rejected s.period s.syncEvents t hstarted hp href hfar, rejectEvent, satInc]

end Sys2Proof.Proofs
end

section
/-! PROOF. A shot is set up, fires its members, is held or left as slack (R102, R103, R115, R118, R141, R143). -/

namespace Sys2Proof.Proofs

open Sys2Proof Sys2Proof.Machine Sys2Proof.Laws

/-! ### The frame of a shot -/

theorem CountsOnly_eff {u t : State} (h : CountsOnly u t) : t.eff = u.eff := by
  rw [h]
  rfl

theorem CountsOnly_frame {u t : State} (h : CountsOnly u t) : t.frame = u.frame := by
  rw [h]

theorem CountsOnly_ledger {u t : State} (h : CountsOnly u t) : t.ledger = u.ledger := by
  rw [h]

/-- A shot's set-up and firing: the acoustic blocks as `Acoustic.shotFrom` leaves them, the supply of the pins, and what counting and
events change. -/
def ShotOnly (u t : State) : Prop :=
  CountsOnly { u with ac := u.ac.shotFrom t.ac, pwr := { u.pwr with doms := t.pwr.doms } } t

theorem ShotOnly_of_CountsOnly {u t : State} (h : CountsOnly u t) : ShotOnly u t := by
  unfold ShotOnly
  rw [h]
  rfl

theorem ShotOnly_trans {u v t : State} (h1 : ShotOnly u v) (h2 : ShotOnly v t) : ShotOnly u t := by
  unfold ShotOnly CountsOnly at h1 h2 ⊢
  rw [h1] at h2
  exact h2

theorem ShotOnly_eff {u t : State} (h : ShotOnly u t) : t.eff = u.eff := by
  rw [h]
  rfl

theorem ShotOnly_frame {u t : State} (h : ShotOnly u t) : t.frame = u.frame := by
  rw [h]

/-- Beside the contexts, only what counting and events change. -/
def CtxOnly (u t : State) : Prop := CountsOnly { u with ac := { u.ac with ctx := t.ac.ctx } } t

theorem CtxOnly_refl (s : State) : CtxOnly s s := rfl

theorem CtxOnly_trans {u v t : State} (h1 : CtxOnly u v) (h2 : CtxOnly v t) : CtxOnly u t := by
  unfold CtxOnly CountsOnly at h1 h2 ⊢
  rw [h1] at h2
  exact h2

theorem CtxOnly_eff {u t : State} (h : CtxOnly u t) : t.eff = u.eff := by
  rw [h]
  rfl

theorem ShotOnly_of_CtxOnly {u t : State} (h : CtxOnly u t) : ShotOnly u t := by
  unfold ShotOnly
  rw [h]
  rfl

/-! ### The set-up (R105, R115, R169) -/

theorem foldl_calibrate_only (used : List CalReading) (a : Acoustic) :
    ∃ g r f k, used.foldl (fun x c => x.calibrate c) a = { a with calGain := g, calR := r, calFaulty := f, calFaults := k } := by
  induction used generalizing a with
  | nil => exact ⟨_, _, _, _, rfl⟩
  | cons c cs ih =>
    obtain ⟨g, r, f, k, h⟩ := ih (a.calibrate c)
    exact ⟨g, r, f, k, h⟩

/-- A shot has been set up: the crossbar holds its members' routes; the contexts, the shots in flight and VHD_STATUS stand. -/
structure SetUpBy (s : State) (fl : Flight) (t : State) : Prop where
  outside : ShotOnly s t
  ctx : t.ac.ctx = s.ac.ctx
  flight : t.ac.flight = s.ac.flight
  vhdLow : t.ac.vhdLow = s.ac.vhdLow
  crossbar : t.ac.crossbar = fl.members.flatMap fun n => memberRoutes s.eff n s.frame.number

theorem route_setUpBy (s : State) (fl : Flight) (cals : List CalReading) :
    SetUpBy s fl ((s.calibrated fl.members cals).route fl) := by
  have hcal : ∃ g r f k, CountsOnly { s with ac := { s.ac with calGain := g, calR := r, calFaulty := f, calFaults := k } }
      (s.calibrated fl.members cals) := by
    obtain ⟨g, r, f, k, h⟩ := foldl_calibrate_only (cals.filter fun c => (groupInputs s.eff fl.members).contains c.input) s.ac
    refine ⟨g, r, f, k, ?_⟩
    rw [← h]
    exact CountsOnly_count _ _
  obtain ⟨g, r, f, k, hcal⟩ := hcal
  have hac := CountsOnly_ac hcal
  have heff : (s.calibrated fl.members cals).eff = s.eff := (CountsOnly_eff hcal :)
  have hframe : (s.calibrated fl.members cals).frame = s.frame := (CountsOnly_frame hcal :)
  refine ⟨?_, ?_, ?_, ?_, ?_⟩
  · unfold ShotOnly State.route
    generalize s.calibrated fl.members cals = v at hcal
    rw [hcal]
    rfl
  all_goals simp only [State.route, hac, heff, hframe]

theorem hdSetUp_setUpBy {s v : State} {fl : Flight} (h : SetUpBy s fl v) : SetUpBy s fl (v.hdSetUp fl) := by
  unfold State.hdSetUp
  split
  · exact ⟨ShotOnly_trans h.outside rfl, h.ctx, h.flight, h.vhdLow, h.crossbar⟩
  · exact h

theorem setUp_setUpBy (s : State) (fl : Flight) (cals : List CalReading) : SetUpBy s fl (s.setUp fl cals) :=
  hdSetUp_setUpBy (route_setUpBy s fl cals)

/-! ### The members fire (R118, R141, R142) -/

/-- A context takes the attempt that its shot fires, or the acquisition shot. -/
def takeAttempt (acq : Bool) (a : Attempt) (c : Ctx) : Ctx :=
  if acq then { c with acq := some a, acqServed := true }
  else { c with
    current := some a, attempts := c.attempts + 1, wantsRetry := false, shots := satInc (2 ^ 48 - 1) c.shots
    retries := if c.attempts = 0 then c.retries else satInc (2 ^ 48 - 1) c.retries }

theorem FiredAt_takeAttempt (s : State) (f n : Nat) (dynamic acq : Bool) :
    Ctx.FiredAt f acq dynamic (ctxSequential s.eff n) (s.ac.ctxAt n)
      (takeAttempt acq (s.newAttempt f n dynamic acq) (s.ac.ctxAt n)) := by
  cases acq
  · exact ⟨nofun, fun _ => ⟨rfl, rfl, rfl, rfl, _, rfl, rfl, rfl, rfl, rfl, rfl, rfl, rfl⟩⟩
  · exact ⟨fun _ => ⟨rfl, rfl, rfl, _, rfl, rfl, rfl, rfl, rfl, rfl⟩, nofun⟩

/-- A member that fires takes its attempt, and a retry raises SHOT_RETRY. -/
theorem fireMember_eq (s : State) (f n : Nat) (dynamic acq : Bool) :
    ∃ es, s.fireMember f dynamic acq n =
      State.raiseAll es { s with ac := s.ac.modCtx n (takeAttempt acq (s.newAttempt f n dynamic acq)) } := by
  cases acq
  · simp only [State.fireMember, Bool.false_eq_true, if_false]
    split
    · exact ⟨[], rfl⟩
    · exact ⟨[_], rfl⟩
    · exact ⟨[], rfl⟩
  · exact ⟨[], rfl⟩

theorem fireMember_only (s : State) (f n : Nat) (dynamic acq : Bool) : CtxOnly s (s.fireMember f dynamic acq n) := by
  obtain ⟨es, h⟩ := fireMember_eq s f n dynamic acq
  rw [h]
  unfold CtxOnly
  simp only [raiseAll_ac]
  exact CountsOnly_raiseAll es _

theorem fireMember_ac (s : State) (f n : Nat) (dynamic acq : Bool) :
    (s.fireMember f dynamic acq n).ac = s.ac.modCtx n (takeAttempt acq (s.newAttempt f n dynamic acq)) := by
  obtain ⟨es, h⟩ := fireMember_eq s f n dynamic acq
  rw [h, raiseAll_ac]

theorem modAt_length {α : Type} (l : List α) (n : Nat) (f : α → α) : (modAt l n f).length = l.length := by
  rw [modAt_eq_modify, List.length_modify]

/-- The members of a shot fire one after another. -/
def fireMembers (f : Nat) (dynamic acq : Bool) (ms : List Nat) (s : State) : State :=
  ms.foldl (fun acc n => acc.fireMember f dynamic acq n) s

theorem fireMembers_only (f : Nat) (dynamic acq : Bool) (ms : List Nat) (s : State) :
    CtxOnly s (fireMembers f dynamic acq ms s) := by
  induction ms generalizing s with
  | nil => exact CtxOnly_refl s
  | cons m ms ih => exact CtxOnly_trans (fireMember_only s f m dynamic acq) (ih _)

/-- A context that is no member stands. -/
theorem fireMembers_other (f : Nat) (dynamic acq : Bool) {ms : List Nat} (s : State) {n : Nat} (hn : n ∉ ms) :
    (fireMembers f dynamic acq ms s).ac.ctxAt n = s.ac.ctxAt n := by
  induction ms generalizing s with
  | nil => rfl
  | cons m ms ih =>
    obtain ⟨hm, hms⟩ : n ≠ m ∧ n ∉ ms := by simpa using hn
    calc (fireMembers f dynamic acq ms (s.fireMember f dynamic acq m)).ac.ctxAt n
        = (s.fireMember f dynamic acq m).ac.ctxAt n := ih _ hms
      _ = s.ac.ctxAt n := by rw [fireMember_ac, ctxAt_modCtx_other _ _ _ _ hm]

/-- A member listed once fires once: at its place in the list its context is the one that it had, and the others leave it. -/
theorem fireMembers_fired (f : Nat) (dynamic acq : Bool) {ms : List Nat} (s : State) {n : Nat} (hn : n < s.ac.ctx.length)
    (hcount : ms.count n = 1) :
    Ctx.FiredAt f acq dynamic (ctxSequential s.eff n) (s.ac.ctxAt n) ((fireMembers f dynamic acq ms s).ac.ctxAt n) := by
  induction ms generalizing s with
  | nil => simp at hcount
  | cons m ms ih =>
    change Ctx.FiredAt _ _ _ _ _ ((fireMembers f dynamic acq ms (s.fireMember f dynamic acq m)).ac.ctxAt n)
    by_cases hm : m = n
    · subst hm
      have hrest : m ∉ ms := by simpa [List.count_eq_zero] using hcount
      rw [fireMembers_other f dynamic acq _ hrest, fireMember_ac, ctxAt_modCtx_same _ _ _ hn]
      exact FiredAt_takeAttempt s f m dynamic acq
    · have hac := fireMember_ac s f m dynamic acq
      have hlen : n < (s.fireMember f dynamic acq m).ac.ctx.length := by
        rw [hac]
        exact (modAt_length s.ac.ctx m _).symm ▸ hn
      have hcount' : ms.count n = 1 := by rwa [List.count_cons_of_ne hm] at hcount
      have := ih (s.fireMember f dynamic acq m) hlen hcount'
      rwa [CtxOnly_eff (fireMember_only s f m dynamic acq), hac, ctxAt_modCtx_other _ _ _ _ (Ne.symm hm)] at this

/-! ### The shot fires -/

/-- A shot has fired at F: it is in flight, the crossbar and the supply of the pins stand, each member listed once has its attempt or
acquisition shot, and the other contexts stand. -/
structure FiredBy (s : State) (fl : Flight) (f : Nat) (t : State) : Prop where
  outside : ShotOnly s t
  doms : t.pwr.doms = s.pwr.doms
  crossbar : t.ac.crossbar = s.ac.crossbar
  flight : t.ac.flight = s.ac.flight.filter (fun q => q != fl) ++ [{ fl with held := false }]
  fired : ∀ n, n < s.ac.ctx.length → fl.members.count n = 1 →
    Ctx.FiredAt f (decide (fl.kind = 4)) (decide (fl.kind = 5)) (ctxSequential s.eff n) (s.ac.ctxAt n) (t.ac.ctxAt n)
  others : ∀ n, n ∉ fl.members → t.ac.ctxAt n = s.ac.ctxAt n

/-- The state in which the members of a shot fire: its pins are driven, and it is in flight. -/
def drivenBy (s : State) (fl : Flight) (f : Nat) : State :=
  { s.firePins fl f with ac := { (s.firePins fl f).ac with
      flight := s.ac.flight.filter (fun q => q != fl) ++ [{ fl with held := false }] } }

theorem fireAt_firedBy (s : State) (fl : Flight) (f : Nat) : FiredBy s fl f (s.fireAt fl f) := by
  obtain ⟨acts, heq⟩ : ∃ acts, s.fireAt fl f =
      (fireMembers f (fl.kind == 5) (fl.kind == 4) fl.members (drivenBy s fl f)).count acts := ⟨_, rfl⟩
  have hmembers := fireMembers_only f (fl.kind == 5) (fl.kind == 4) fl.members (drivenBy s fl f)
  have hcounts : CtxOnly (drivenBy s fl f) (s.fireAt fl f) := by
    rw [heq]
    refine CtxOnly_trans hmembers ?_
    unfold CtxOnly
    simp only [count_ac]
    exact CountsOnly_count acts _
  have hac : (s.fireAt fl f).ac = (fireMembers f (fl.kind == 5) (fl.kind == 4) fl.members (drivenBy s fl f)).ac := by
    rw [heq, count_ac]
  refine ⟨ShotOnly_trans (rfl : ShotOnly s (drivenBy s fl f)) (ShotOnly_of_CtxOnly hcounts), ?_, ?_, ?_, fun n hn hcount => ?_,
    fun n hn => ?_⟩
  · rw [hcounts]
    rfl
  · rw [hcounts]
    rfl
  · rw [hcounts]
    rfl
  · rw [hac]
    exact fireMembers_fired f _ _ (drivenBy s fl f) hn hcount
  · rw [hac]
    exact fireMembers_other f _ _ (drivenBy s fl f) hn

/-! ### Promises that break (R85, R87) -/

theorem breakPromises_only (s : State) (stepNo cause arg : Nat) (ms : List Nat) :
    CountsOnly { s with ledger := { s.ledger with broken := min (2 ^ 32 - 1) (s.ledger.broken + (ascending ms).length) } }
      (s.breakPromises stepNo cause arg ms) :=
  CountsOnly_trans (CountsOnly_raiseAll _ _) (CountsOnly_count _ _)

/-- The state in which a shot that is displaced, or not, has broken its promises. -/
def displacedBy (late : Bool) (ms : List Nat) (s : State) : State :=
  { s with ledger := { s.ledger with broken := brokenBy late ms s.ledger.broken } }

theorem displaceShot_only (c : Bool) (s : State) (cause late : Nat) (ms : List Nat) :
    CountsOnly (displacedBy c ms s) (if c then s.displaceShot cause late ms else s) := by
  cases c
  · exact CountsOnly_refl s
  · exact breakPromises_only s 2 cause (toCycles late) ms

/-! ### A shot starts, or is held (R102, R103) -/

theorem ShotOnly_compared (s : State) (above low : Bool) :
    ShotOnly s { s with ac := { s.ac with vhdAbove5 := above, vhdLow := low } } := rfl

/-- The comparison of VHD alone is shown before a shot fires; a shot of standard pins makes none. -/
theorem startShot_of_reached (s : State) (fl : Flight) (vhd : Nat) (cals : List CalReading)
    (h : vhdThreshold s.eff fl.members ≤ vhd) :
    ∃ above low, s.startShot fl vhd cals =
      State.fire { s with ac := { s.ac with vhdAbove5 := above, vhdLow := low } } fl cals := by
  simp only [State.startShot]
  split
  · exact ⟨_, _, rfl⟩
  · rw [if_neg (Nat.not_lt.2 h)]
    exact ⟨_, _, rfl⟩

theorem startShot_of_below (s : State) (fl : Flight) (vhd : Nat) (cals : List CalReading)
    (h : vhd < vhdThreshold s.eff fl.members) :
    ∃ above v, SetUpBy { s with ac := { s.ac with vhdAbove5 := above, vhdLow := true } } fl v ∧
      s.startShot fl vhd cals = { v with ac := { v.ac with flight := v.ac.flight ++ [{ fl with held := true }] } } := by
  simp only [State.startShot, if_neg (Nat.ne_zero_of_lt h), if_pos h]
  refine ⟨decide (5000 < vhd), _, setUp_setUpBy _ fl cals, ?_⟩
  simp only [Acoustic.sampleVhd, h, decide_true]

/-- A shot set up at the present time fires 6 µs later, over the routes of its members. -/
theorem fire_firedBy (s : State) (fl : Flight) (cals : List CalReading) :
    ∃ v, SetUpBy s fl v ∧ FiredBy v fl (500 * s.frame.cyc + 192000) (s.fire fl cals) :=
  ⟨_, setUp_setUpBy s fl cals, fireAt_firedBy _ fl _⟩

/-! ### A planned shot starts (R85, R118) -/

/-- The shot that a planned shot starts at the present time. -/
def flightOf (u : State) (p : Planned) : Flight :=
  { group := p.group, kind := if p.kind = 6 then 4 else p.kind, members := u.concerned p, start := u.frame.cyc, held := false
    latest := p.latest / 125 }

theorem flightOf_acquisition (u : State) (p : Planned) : ((flightOf u p).kind = 4) = (p.kind = 4 ∨ p.kind = 6) := by
  simp only [flightOf]
  split <;> simp_all

theorem flightOf_dynamic (u : State) (p : Planned) : ((flightOf u p).kind = 5) = (p.kind = 5) := by
  simp only [flightOf]
  split <;> simp_all

/-- The state in which a planned shot has left the plan. -/
def struck (u : State) (p : Planned) : State :=
  { u with frame := { u.frame with planned := u.frame.planned.erase p } }

/-- The state in which a planned shot has left the plan and the promises that its delay breaks are counted. -/
def unplanned (u : State) (p : Planned) : State :=
  displacedBy (decide (p.latest < u.frame.nowQ)) (u.concerned p) (struck u p)

/-- A planned shot that some context asks for starts from the state without it, but for events and counts. -/
theorem startPlanned_eq (u : State) (p : Planned) (vhd : Nat) (cals : List CalReading) (h : u.concerned p ≠ []) :
    ∃ v, CountsOnly (unplanned u p) v ∧ u.startPlanned p vhd cals = v.startShot (flightOf u p) vhd cals := by
  have hms : (u.concerned p).isEmpty = false := by simpa using h
  refine ⟨_, displaceShot_only _ (struck u p) u.frame.cause (u.frame.nowQ - p.latest) (u.concerned p), ?_⟩
  simp only [State.startPlanned, hms, Bool.false_eq_true, if_false, decide_eq_true_eq]
  by_cases hlate : p.latest < u.frame.nowQ
  · rw [if_neg (Nat.sub_ne_zero_of_lt hlate), if_pos hlate]
    rfl
  · rw [if_pos (Nat.sub_eq_zero_of_le (Nat.not_lt.1 hlate)), if_neg hlate]
    rfl

theorem startPlanned_fires (u : State) (p : Planned) (vhd : Nat) (cals : List CalReading) (h : u.concerned p ≠ [])
    (hvhd : vhdThreshold u.eff (u.concerned p) ≤ vhd) : u.ShotFired p (u.startPlanned p vhd cals) := by
  obtain ⟨v, hv, heq⟩ := startPlanned_eq u p vhd cals h
  have heff : v.eff = u.eff := (CountsOnly_eff hv :)
  have hac : v.ac = u.ac := CountsOnly_ac (u := unplanned u p) hv
  have hvframe : v.frame = { u.frame with planned := u.frame.planned.erase p } := (CountsOnly_frame hv :)
  obtain ⟨above, low, hfire⟩ := startShot_of_reached v (flightOf u p) vhd cals (by rw [heff]; exact hvhd)
  obtain ⟨w, hup, hfired⟩ := fire_firedBy { v with ac := { v.ac with vhdAbove5 := above, vhdLow := low } } (flightOf u p) cals
  rw [← hfire, ← heq] at hfired
  have hshot : ShotOnly (unplanned u p) (u.startPlanned p vhd cals) :=
    ShotOnly_trans (ShotOnly_of_CountsOnly hv)
      (ShotOnly_trans (ShotOnly_trans (ShotOnly_compared v above _) hup.outside) hfired.outside)
  have hframe : (u.startPlanned p vhd cals).frame = { u.frame with planned := u.frame.planned.erase p } :=
    (ShotOnly_frame hshot :)
  have hctx : ∀ n, w.ac.ctxAt n = u.ac.ctxAt n := fun n => by simp only [Acoustic.ctxAt, hup.ctx, hac]
  have hweff : w.eff = u.eff := (ShotOnly_eff hup.outside).trans heff
  refine ⟨hframe, ?_, ?_, fun n hn hcount hlen => ?_, fun n hn => (hfired.others n hn).trans (hctx n), ?_⟩
  · rw [hfired.flight]
    exact List.mem_append_right _ (List.mem_singleton_self _)
  · rw [hfired.crossbar, hup.crossbar]
    simp only [hvframe, flightOf]
    exact congrArg (fun e => (u.concerned p).flatMap fun n => memberRoutes e n u.frame.number) heff
  · have := hfired.fired n (by rw [hup.ctx]; simpa only [hac, hlen] using hn) hcount
    simpa only [flightOf_acquisition, flightOf_dynamic, hctx, hweff, hvframe] using this
  · rw [hframe]
    exact hshot

theorem startPlanned_held (u : State) (p : Planned) (vhd : Nat) (cals : List CalReading) (h : u.concerned p ≠ [])
    (hvhd : vhd < vhdThreshold u.eff (u.concerned p)) : u.ShotHeld p (u.startPlanned p vhd cals) := by
  obtain ⟨v, hv, heq⟩ := startPlanned_eq u p vhd cals h
  have heff : v.eff = u.eff := (CountsOnly_eff hv :)
  have hac : v.ac = u.ac := CountsOnly_ac (u := unplanned u p) hv
  obtain ⟨above, w, hup, hheld⟩ := startShot_of_below v (flightOf u p) vhd cals (by rw [heff]; exact hvhd)
  rw [← heq] at hheld
  have hshot : ShotOnly (unplanned u p) (u.startPlanned p vhd cals) := by
    rw [hheld]
    exact ShotOnly_trans (ShotOnly_of_CountsOnly hv)
      (ShotOnly_trans (ShotOnly_trans (ShotOnly_compared v above _) hup.outside) rfl)
  have hframe : (u.startPlanned p vhd cals).frame = { u.frame with planned := u.frame.planned.erase p } :=
    (ShotOnly_frame hshot :)
  refine ⟨hframe, ?_, ?_, ?_, ?_⟩
  · simp only [hheld, hup.flight, hac]
    rfl
  · simp only [hheld, hup.ctx, hac]
  · simp only [hheld, hup.vhdLow]
  · rw [hframe]
    exact hshot

/-- A planned shot that is due fires, is held, or is slack. -/
theorem startPlanned_starts (u : State) (p : Planned) (vhd : Nat) (cals : List CalReading) :
    u.Starts p vhd (u.startPlanned p vhd cals) := by
  refine ⟨startPlanned_fires u p vhd cals, startPlanned_held u p vhd cals, fun h => ?_⟩
  simp only [State.startPlanned, h, List.isEmpty_nil, if_true]

/-- Settles O9: both commands start the planned shot that they find (`startPlanned_starts`), and move the time where there is
none. -/
theorem shotsStart : Obligations.ShotsStart := by
  unfold Obligations.ShotsStart
  refine ⟨fun g due vhd kind cals s => ⟨fun hnone => ?_, fun p hmeasuring hp => ?_⟩,
    fun g due vhd cals q s hq => ⟨fun hnone => ?_, fun p hp => ?_⟩⟩
  · simp only [exec, execShotGroupStart, shotGroupStart]
    obtain hidle | hno := hnone
    · simp only [hidle, Bool.not_false, if_true]
    · simp only [hno, ite_self]
  · refine ⟨_, rfl, ?_⟩
    simp only [shotGroupStart, hmeasuring, hp, Bool.not_true, Bool.false_eq_true, if_false]
    exact startPlanned_starts _ p vhd cals
  · simp only [exec, execRetrySlotStart, retrySlotStart, ← hq, hnone]
  · refine ⟨_, rfl, ?_⟩
    simp only [retrySlotStart, ← hq, hp]
    exact startPlanned_starts _ p vhd cals

end Sys2Proof.Proofs
end

section
/-! PROOF. A held shot fires or is given up, a sequential member fires its second burst, and VSD settles (R85, R87, R97, R103, R104,
R118, R134). -/

namespace Sys2Proof.Proofs

open Sys2Proof Sys2Proof.Machine Sys2Proof.Laws

/-! ### Contexts whose shot is given up (R87, R148) -/

/-- A context whose shot is given up. -/
def giveUpCtx (c : Ctx) : Ctx := { c with givenUp := true, wantsRetry := false }

/-- The contexts of a shot that is given up, an acquisition shot's left as they are. -/
def giveUpAll (acquisition : Bool) (ms : List Nat) (a : Acoustic) : Acoustic :=
  if acquisition then a else ms.foldl (fun x n => x.modCtx n giveUpCtx) a

theorem foldl_giveUp_only (ms : List Nat) (a : Acoustic) :
    ∃ l, l.length = a.ctx.length ∧ ms.foldl (fun x n => x.modCtx n giveUpCtx) a = { a with ctx := l } := by
  induction ms generalizing a with
  | nil => exact ⟨_, rfl, rfl⟩
  | cons m ms ih =>
    obtain ⟨l, hl, h⟩ := ih (a.modCtx m giveUpCtx)
    exact ⟨l, hl.trans (modAt_length a.ctx m giveUpCtx), h⟩

theorem giveUpAll_only (acquisition : Bool) (ms : List Nat) (a : Acoustic) :
    giveUpAll acquisition ms a = { a with ctx := (giveUpAll acquisition ms a).ctx } := by
  cases acquisition
  · obtain ⟨l, _, h⟩ := foldl_giveUp_only ms a
    simp only [giveUpAll, Bool.false_eq_true, if_false, h]
  · rfl

/-- A change of one context leaves any context as it was, or changed in that way. -/
theorem ctxAt_modCtx_or (a : Acoustic) (m n : Nat) (f : Ctx → Ctx) :
    (a.modCtx m f).ctxAt n = a.ctxAt n ∨ (a.modCtx m f).ctxAt n = f (a.ctxAt n) := by
  by_cases hm : n = m
  · subst hm
    rcases Nat.lt_or_ge n a.ctx.length with hlt | hge
    · exact .inr (ctxAt_modCtx_same a n f hlt)
    · exact .inl (ctxAt_modCtx_past a n f hge)
  · exact .inl (ctxAt_modCtx_other a m n f hm)

theorem ctxAt_giveUpAll (acquisition : Bool) (ms : List Nat) (a : Acoustic) (n : Nat) :
    (giveUpAll acquisition ms a).ctxAt n = a.ctxAt n ∨ (giveUpAll acquisition ms a).ctxAt n = giveUpCtx (a.ctxAt n) := by
  cases acquisition
  · change (ms.foldl _ a).ctxAt n = _ ∨ (ms.foldl _ a).ctxAt n = _
    induction ms generalizing a with
    | nil => exact .inl rfl
    | cons m ms ih =>
      have hstep := ctxAt_modCtx_or a m n giveUpCtx
      obtain h | h := ih (a.modCtx m giveUpCtx)
      · rwa [List.foldl_cons, h]
      · rw [List.foldl_cons, h]
        exact .inr (hstep.elim (fun h' => congrArg giveUpCtx h') fun h' => (congrArg giveUpCtx h' :))
  · exact .inl rfl

theorem ctxAt_giveUpAll_other (acquisition : Bool) {ms : List Nat} (a : Acoustic) {n : Nat} (hn : n ∉ ms) :
    (giveUpAll acquisition ms a).ctxAt n = a.ctxAt n := by
  cases acquisition
  · change (ms.foldl _ a).ctxAt n = _
    induction ms generalizing a with
    | nil => rfl
    | cons m ms ih =>
      obtain ⟨hm, hms⟩ : n ≠ m ∧ n ∉ ms := by simpa using hn
      exact (ih (a.modCtx m giveUpCtx) hms).trans (ctxAt_modCtx_other a m n _ hm)
  · rfl

theorem ctxAt_giveUpAll_member {ms : List Nat} (a : Acoustic) {n : Nat} (hn : n ∈ ms) (hlen : n < a.ctx.length) :
    ((giveUpAll false ms a).ctxAt n).givenUp = true := by
  change ((ms.foldl _ a).ctxAt n).givenUp = true
  induction ms generalizing a with
  | nil => cases hn
  | cons m ms ih =>
    by_cases hms : n ∈ ms
    · exact ih (a.modCtx m giveUpCtx) hms ((modAt_length a.ctx m giveUpCtx).symm ▸ hlen)
    · obtain rfl : n = m := (List.mem_cons.1 hn).resolve_right hms
      have hrest := ctxAt_giveUpAll_other false (a.modCtx n giveUpCtx) hms
      exact (congrArg Ctx.givenUp (hrest.trans (ctxAt_modCtx_same a n _ hlen)))

/-- The state in which a shot of some contexts has been given up. -/
def givenUpBy (acquisition : Bool) (ms : List Nat) (s : State) : State :=
  { s with
    ac := giveUpAll acquisition ms s.ac
    ledger := { s.ledger with broken := min (2 ^ 32 - 1) (s.ledger.broken + (ascending ms).length) } }

theorem giveUpShot_only (s : State) (cause : Nat) (acquisition : Bool) (ms : List Nat) :
    CountsOnly (givenUpBy acquisition ms s) (s.giveUpShot cause acquisition ms) := by
  cases acquisition <;> exact breakPromises_only _ 3 cause 0 ms

/-! ### The rest of the frame is restored (R85) -/

/-- Feasibility has been restored: the time, the cause and the shots in flight stand, and a context is at most given up. -/
structure Restores (u t : State) : Prop where
  outside : CountsOnly { u with
    frame := t.frame, ledger := { u.ledger with broken := t.ledger.broken }
    ac := { u.ac with ctx := t.ac.ctx, waves := t.ac.waves, waveSkipped := t.ac.waveSkipped }
    disp := { u.disp with regions := t.disp.regions }, core := { u.core with withheld := t.core.withheld } } t
  cyc : t.frame.cyc = u.frame.cyc
  cause : t.frame.cause = u.frame.cause
  ctx : ∀ n, ∃ g w, t.ac.ctxAt n = { u.ac.ctxAt n with givenUp := g, wantsRetry := w }

theorem Restores_trans {u v t : State} (h1 : Restores u v) (h2 : Restores v t) : Restores u t where
  outside := by
    have ho1 := h1.outside
    have ho2 := h2.outside
    unfold CountsOnly at ho1 ho2 ⊢
    rw [ho1] at ho2
    exact ho2
  cyc := h2.cyc.trans h1.cyc
  cause := h2.cause.trans h1.cause
  ctx n := by
    obtain ⟨_, _, hv⟩ := h1.ctx n
    obtain ⟨g, w, ht⟩ := h2.ctx n
    exact ⟨g, w, by rw [ht, hv]⟩

theorem Restores_of_CountsOnly {u t : State} (h : CountsOnly u t) : Restores u t where
  outside := by rw [h]; rfl
  cyc := by rw [h]
  cause := by rw [h]
  ctx n := ⟨_, _, by rw [h]⟩

theorem Restores_refl (s : State) : Restores s s := Restores_of_CountsOnly (CountsOnly_refl s)

theorem Restores_foldl {α : Type} {f : State → α → State} (hf : ∀ s x, Restores s (f s x)) (l : List α) (s : State) :
    Restores s (l.foldl f s) := by
  induction l generalizing s with
  | nil => exact Restores_refl s
  | cons x xs ih => exact Restores_trans (hf s x) (ih _)

/-- A new plan of the frame, at the same time and for the same cause. -/
theorem Restores_of_frame (s : State) (f : Frame) (hcyc : f.cyc = s.frame.cyc) (hcause : f.cause = s.frame.cause) :
    Restores s { s with frame := f } where
  outside := rfl
  cyc := hcyc
  cause := hcause
  ctx _ := ⟨_, _, rfl⟩

theorem Restores_startFlow (s : State) : Restores s s.startFlow := by
  unfold State.startFlow
  split
  · exact Restores_of_frame s _ rfl rfl
  · exact Restores_refl s

theorem Restores_deferJob (cause : Nat) (s : State) (j : DynJob) : Restores s (s.deferJob cause j) := by
  unfold State.deferJob
  refine Restores_trans ?_ (Restores_of_CountsOnly (CountsOnly_raise _ _))
  split
  · exact ⟨rfl, rfl, rfl, fun _ => ⟨_, _, rfl⟩⟩
  · split
    · split
      · exact ⟨rfl, rfl, rfl, fun _ => ⟨_, _, rfl⟩⟩
      · exact ⟨rfl, rfl, rfl, fun _ => ⟨_, _, rfl⟩⟩
    · exact ⟨rfl, rfl, rfl, fun _ => ⟨_, _, rfl⟩⟩

theorem Restores_displaceShot (s : State) (cause late : Nat) (ms : List Nat) : Restores s (s.displaceShot cause late ms) :=
  Restores_trans (v := displacedBy true ms s) ⟨rfl, rfl, rfl, fun _ => ⟨_, _, rfl⟩⟩
    (Restores_of_CountsOnly (displaceShot_only true s cause late ms))

theorem Restores_giveUpPlanned (cause : Nat) (s : State) (p : Planned) : Restores s (s.giveUpPlanned cause p) := by
  refine Restores_trans (v := givenUpBy (p.kind == 4 || p.kind == 6) (s.concerned p) s) ⟨?_, rfl, rfl, fun n => ?_⟩
    (Restores_of_CountsOnly (giveUpShot_only s cause _ _))
  · unfold CountsOnly givenUpBy
    rw [giveUpAll_only]
  · obtain h | h := ctxAt_giveUpAll (p.kind == 4 || p.kind == 6) (s.concerned p) s.ac n
    · exact ⟨_, _, h⟩
    · exact ⟨_, _, h⟩

theorem Restores_restore (s : State) (cause t0 : Nat) :
    Restores { s with frame := { s.frame with cause := cause } } (s.restore cause t0) := by
  unfold State.restore
  extract_lets now live deferred s1 gv s2 laid s3
  have h1 : Restores _ s1 := Restores_foldl (Restores_deferJob cause) deferred _
  have h2 : Restores s1 s2 := Restores_foldl (Restores_giveUpPlanned cause) gv.2 s1
  have h3 : Restores s2 s3 := Restores_foldl (fun v p => by
    split
    · exact Restores_displaceShot v cause _ _
    · exact Restores_refl v) laid.2 s2
  refine Restores_trans h1 (Restores_trans h2 (Restores_trans h3 (Restores_trans ?_ (Restores_startFlow _))))
  exact Restores_of_frame s3 _ rfl rfl

theorem startFlow_ledger (s : State) : s.startFlow.ledger = s.ledger := by
  unfold State.startFlow
  split <;> rfl

/-- With no work left in the frame its restoration breaks no promise. -/
theorem restore_ledger_of_idle (s : State) (cause t0 : Nat) (hplanned : s.frame.planned = []) (hwaiting : s.frame.waiting = []) :
    (s.restore cause t0).ledger = s.ledger := by
  simp only [State.restore, startFlow_ledger, hplanned, hwaiting, List.filter_nil, List.length_nil, deferOchre, giveUpLast,
    State.layShots, List.foldl_nil]

/-! ### The stated time and a held shot -/

@[simp] theorem atCyc_flight (s : State) (cyc : Nat) : (s.atCyc cyc).ac.flight = s.ac.flight := by
  obtain ⟨_, _, _, _, h⟩ := atCyc_ac_only s cyc
  rw [h]

@[simp] theorem atCyc_heldFlight (s : State) (cyc g : Nat) : (s.atCyc cyc).heldFlight g = s.heldFlight g := by
  simp only [State.heldFlight, atCyc_flight]

theorem held_of_heldFlight {s : State} {g : Nat} {f : Flight} (h : s.heldFlight g = some f) : f.held = true := by
  have hsome := List.find?_some h
  simp only [Bool.and_eq_true] at hsome
  exact hsome.2

/-! ### VHD recovers (R103) -/

/-- The state in which a held shot is taken from those in flight, for CAUSE 3. -/
def taken (u : State) (f : Flight) : State :=
  { u with frame := { u.frame with cause := 3 }, ac := { u.ac with flight := u.ac.flight.filter fun q => q != f } }

/-- A held shot as it fires, its set-up taken to have started at a time. -/
def setUpAt (start : Nat) (f : Flight) : Flight := { f with start := start }

/-- VHD_RECOVERED of a held shot: it fires, may be displaced, and the rest of the frame is restored. -/
theorem vhdRecovered_eq (g cyc : Nat) (f : Flight) (s u : State) (hf : s.heldFlight g = some f) (hu : u = s.atCyc cyc) :
    ∃ v w, FiredBy (taken u f) (setUpAt (u.frame.cyc - 384) f) (500 * u.frame.cyc) v ∧
      CountsOnly (displacedBy (decide (f.latest < u.frame.cyc)) f.members v) w ∧
      vhdRecovered g cyc s = w.restore 3 u.frame.nowQ := by
  have hheld : u.heldFlight g = some f := by rw [hu, atCyc_heldFlight, hf]
  refine ⟨_, _, fireAt_firedBy (taken u f) (setUpAt (u.frame.cyc - 384) f) (500 * u.frame.cyc),
    displaceShot_only _ _ 3 (cycles (u.frame.cyc - f.latest)) f.members, ?_⟩
  simp only [vhdRecovered, ← hu, hheld, decide_eq_true_eq]
  rfl

/-- What a recovery changes beside what counting and events change: the plan, the broken promises, the shots with their pins, the
copies, the display's bursts, and the core's withheld interrupts. -/
def RecoveryOnly (u t : State) : Prop :=
  CountsOnly { u with
    frame := t.frame, ledger := { u.ledger with broken := t.ledger.broken }
    ac := { u.ac.shotFrom t.ac with waves := t.ac.waves, waveSkipped := t.ac.waveSkipped }
    disp := { u.disp with regions := t.disp.regions }, core := { u.core with withheld := t.core.withheld } } t

theorem RecoveryOnly_trans {u v t : State} (h1 : RecoveryOnly u v) (h2 : RecoveryOnly v t) : RecoveryOnly u t := by
  unfold RecoveryOnly CountsOnly at h1 h2 ⊢
  rw [h1] at h2
  exact h2

theorem RecoveryOnly_of_CountsOnly {u t : State} (h : CountsOnly u t) : RecoveryOnly u t := by
  unfold RecoveryOnly
  rw [h]
  rfl

theorem RecoveryOnly_of_Restores {u t : State} (h : Restores u t) : RecoveryOnly u t := by
  unfold RecoveryOnly
  rw [h.outside]
  rfl

/-- A shot that fires without a set-up leaves the supply of the pins. -/
theorem RecoveryOnly_of_FiredBy {s t : State} {fl : Flight} {f : Nat} (h : FiredBy s fl f t) : RecoveryOnly s t := by
  have hout := h.outside
  unfold ShotOnly at hout
  rw [h.doms] at hout
  unfold RecoveryOnly
  rw [hout]
  rfl

theorem vhdRecovered_does (g cyc : Nat) (f : Flight) (u s : State) (hf : s.heldFlight g = some f) (hu : u = s.atCyc cyc) :
    Does (.vhdRecovered g cyc) s fun t =>
      { f with start := u.frame.cyc - 384, held := false } ∈ t.ac.flight ∧ f ∉ t.ac.flight ∧ t.frame.cause = 3 ∧
      t.frame.cyc = u.frame.cyc ∧
      (∀ n, n < 64 → f.members.count n = 1 → u.ac.ctx.length = 64 →
        Ctx.FiredAt (500 * u.frame.cyc) (decide (f.kind = 4)) (decide (f.kind = 5)) (ctxSequential u.eff n)
          (u.ac.ctxAt n) (t.ac.ctxAt n)) ∧
      (u.frame.planned = [] → u.frame.waiting = [] →
        t.ledger.broken = brokenBy (decide (f.latest < u.frame.cyc)) f.members u.ledger.broken) ∧
      RecoveryOnly u t := by
  obtain ⟨v, w, hfired, hdisplaced, heq⟩ := vhdRecovered_eq g cyc f s u hf hu
  have hrestored := Restores_restore w 3 u.frame.nowQ
  have hheld := held_of_heldFlight hf
  refine ⟨_, rfl, ?_⟩
  rw [heq]
  generalize u.frame.cyc - 384 = start at hfired ⊢
  have hvframe : v.frame = (taken u f).frame := ShotOnly_frame hfired.outside
  have hwframe : w.frame = (taken u f).frame := (CountsOnly_frame hdisplaced).trans hvframe
  have hwac : w.ac = v.ac := CountsOnly_ac (u := displacedBy _ f.members v) hdisplaced
  have hvledger : v.ledger = u.ledger := by rw [hfired.outside]; rfl
  have hwledger : w.ledger.broken = brokenBy (decide (f.latest < u.frame.cyc)) f.members u.ledger.broken := by
    rw [CountsOnly_ledger hdisplaced, ← hvledger]
    rfl
  have hflight : (w.restore 3 u.frame.nowQ).ac.flight =
      (u.ac.flight.filter fun q => q != f).filter (fun q => q != setUpAt start f) ++
        [{ setUpAt start f with held := false }] := by
    rw [hrestored.outside]
    exact (congrArg Acoustic.flight hwac).trans hfired.flight
  refine ⟨?_, ?_, hrestored.cause, ?_, fun n hn hcount hlen => ?_, fun hplanned hwaiting => ?_, ?_⟩
  · simp [hflight, setUpAt]
  · have hother : f ≠ { setUpAt start f with held := false } := fun h => by
      rw [h] at hheld
      cases hheld
    simp [hflight, hother]
  · exact hrestored.cyc.trans (congrArg Frame.cyc hwframe :)
  · obtain ⟨gu, wr, hctx⟩ := hrestored.ctx n
    rw [hctx]
    change Ctx.FiredAt _ _ _ _ _ { w.ac.ctxAt n with givenUp := gu, wantsRetry := wr }
    rw [hwac]
    exact hfired.fired n (lt_of_lt_of_eq hn hlen.symm) hcount
  · rw [restore_ledger_of_idle w 3 _ (hwframe ▸ hplanned) (hwframe ▸ hwaiting), hwledger]
  · have hout : RecoveryOnly (taken u f) v := RecoveryOnly_of_FiredBy hfired
    refine RecoveryOnly_trans (RecoveryOnly_trans (v := taken u f) rfl hout) ?_
    refine RecoveryOnly_trans (RecoveryOnly_trans (v := displacedBy _ f.members v) rfl (RecoveryOnly_of_CountsOnly hdisplaced)) ?_
    exact RecoveryOnly_trans (v := { w with frame := { w.frame with cause := 3 } }) rfl (RecoveryOnly_of_Restores hrestored)

/-! ### A held shot is given up (R85, R103) -/

/-- The state in which a held shot is taken from those in flight, and HD goes off. -/
def dropped (u : State) (f : Flight) : State :=
  { u with pwr := u.pwr.switchOff 1, ac := { u.ac with flight := u.ac.flight.filter fun q => q != f } }

theorem startFlow_ac (s : State) : s.startFlow.ac = s.ac := by
  unfold State.startFlow
  split <;> rfl

/-- The start of the flow computation is all that it changes. -/
theorem startFlow_only (s : State) :
    ∃ started at_, s.startFlow = { s with frame := { s.frame with flowStarted := started, flowCyc := at_ } } := by
  unfold State.startFlow
  split
  · exact ⟨_, _, rfl⟩
  · exact ⟨_, _, rfl⟩

/-- The broken promises, the contexts and the shots in flight change, and the flow computation may have started. -/
def GivenUpOnly (u t : State) : Prop :=
  CountsOnly { u with
    frame := { u.frame with flowStarted := t.frame.flowStarted, flowCyc := t.frame.flowCyc }
    ledger := { u.ledger with broken := t.ledger.broken }, pwr := u.pwr.switchOff 1
    ac := { u.ac with ctx := t.ac.ctx, flight := t.ac.flight } } t

theorem GivenUpOnly_startFlow {u v : State} (h : GivenUpOnly u v) : GivenUpOnly u v.startFlow := by
  obtain ⟨_, _, heq⟩ := startFlow_only v
  rw [heq]
  unfold GivenUpOnly CountsOnly at h ⊢
  rw [h]

theorem heldShotGivenUp_waits (g cyc : Nat) (f : Flight) (u s : State) (hf : s.heldFlight g = some f) (hu : u = s.atCyc cyc)
    (hroom : u.frame.nowQ + costGroup u.eff f.members ≤ u.limit + 48000) : heldShotGivenUp g cyc s = u := by
  have hheld : u.heldFlight g = some f := by rw [hu, atCyc_heldFlight, hf]
  simp only [heldShotGivenUp, ← hu, hheld]
  exact if_pos hroom

theorem heldShotGivenUp_does (g cyc : Nat) (f : Flight) (u s : State) (hf : s.heldFlight g = some f) (hu : u = s.atCyc cyc)
    (hlate : u.limit + 48000 < u.frame.nowQ + costGroup u.eff f.members) :
    Does (.heldShotGivenUp g cyc) s fun t =>
      t.ac.flight = u.ac.flight.filter (fun q => q != f) ∧
      (f.kind ≠ 4 → u.ac.ctx.length = 64 → ∀ n ∈ f.members, n < 64 → (t.ac.ctxAt n).givenUp = true) ∧
      (f.kind = 4 → t.ac.ctx = u.ac.ctx) ∧
      (∀ n, n ∉ f.members → t.ac.ctxAt n = u.ac.ctxAt n) ∧
      t.ledger.broken = min (2 ^ 32 - 1) (u.ledger.broken + (ascending f.members).length) ∧ GivenUpOnly u t := by
  have hheld : u.heldFlight g = some f := by rw [hu, atCyc_heldFlight, hf]
  have heq : heldShotGivenUp g cyc s = ((dropped u f).giveUpShot 3 (f.kind == 4) f.members).startFlow := by
    simp only [heldShotGivenUp, ← hu, hheld]
    exact if_neg (Nat.not_le.2 hlate)
  have hgiven := giveUpShot_only (dropped u f) 3 (f.kind == 4) f.members
  have hac : ((dropped u f).giveUpShot 3 (f.kind == 4) f.members).startFlow.ac =
      giveUpAll (f.kind == 4) f.members (dropped u f).ac := by
    rw [startFlow_ac, CountsOnly_ac (u := givenUpBy (f.kind == 4) f.members (dropped u f)) hgiven]
  refine ⟨_, rfl, ?_⟩
  rw [heq]
  refine ⟨?_, fun hkind hlen n hn hlt => ?_, fun hkind => ?_, fun n hn => ?_, ?_, GivenUpOnly_startFlow ?_⟩
  · rw [hac, giveUpAll_only]
    rfl
  · have hattempt : (f.kind == 4) = false := by simpa using hkind
    rw [hac, hattempt]
    exact ctxAt_giveUpAll_member _ hn (lt_of_lt_of_eq hlt hlen.symm)
  · rw [hac, hkind]
    rfl
  · rw [hac]
    exact ctxAt_giveUpAll_other _ (dropped u f).ac hn
  · rw [startFlow_ledger, CountsOnly_ledger hgiven]
    rfl
  · unfold GivenUpOnly
    generalize (dropped u f).giveUpShot 3 (f.kind == 4) f.members = v at hgiven
    unfold givenUpBy at hgiven
    rw [giveUpAll_only] at hgiven
    rw [hgiven]
    rfl

/-! ### The second burst of a sequential member (R118) -/

/-- Without a burst to come, or before F2, only the time moves. -/
theorem reverseTransmission_of_none (n : Nat) (acq : Bool) (cyc : Nat) (s : State)
    (h : ctxSequential s.eff n = false ∨ (s.ac.ctxAt n).attempt acq = none ∨
      (∃ a, (s.ac.ctxAt n).attempt acq = some a ∧
        (a.dn.fired = false ∨ a.up.fired = true ∨ cyc < cycOf32 (reverseAt s.eff n a.dn.at_)))) :
    reverseTransmission n acq cyc s = s.atCyc cyc := by
  cases hat : (s.ac.ctxAt n).attempt acq with
  | none => simp only [reverseTransmission, hat]
  | some a =>
    simp only [reverseTransmission, hat]
    refine if_pos ?_
    simp only [hat, Option.some.injEq, exists_eq_left', reduceCtorEq, false_or] at h
    obtain hseq | hdn | hup | hearly := h
    · simp [hseq]
    · simp [Attempt.oneWay, hdn]
    · simp [Attempt.oneWay, hup]
    · simp [Attempt.reverse, hearly]

/-- The context takes the attempt, or the acquisition shot, whose up direction has fired. -/
theorem reverseTransmission_of_due (n : Nat) (acq : Bool) (cyc : Nat) (a : Attempt) (s : State)
    (hat : (s.ac.ctxAt n).attempt acq = some a) (hseq : ctxSequential s.eff n = true) (hdn : a.dn.fired = true)
    (hup : a.up.fired = false) (hdue : cycOf32 (reverseAt s.eff n a.dn.at_) ≤ cyc) :
    reverseTransmission n acq cyc s =
      let u := s.atCyc (cycOf32 (reverseAt s.eff n a.dn.at_))
      { u with ac := u.ac.modCtx n fun c =>
        if acq then { c with acq := some (a.reverse s.eff n) } else { c with current := some (a.reverse s.eff n) } } := by
  have hlater : decide (cyc < cycOf32 (a.reverse s.eff n).up.at_) = false := decide_eq_false (Nat.not_lt.2 hdue)
  simp only [reverseTransmission, hat, hseq, Attempt.oneWay, hdn, hup, hlater, Bool.not_true, Bool.not_false, Bool.and_self,
    Bool.or_self, Bool.false_eq_true, if_false]
  rfl

theorem modAt_getElem?_same {α : Type} {l : List α} {n : Nat} {x : α} (f : α → α) (h : l[n]? = some x) :
    (modAt l n f)[n]? = some (f x) := by
  rw [modAt_eq_modify, List.getElem?_modify_eq, h]
  rfl

theorem modAt_getElem?_other {α : Type} (l : List α) {n k : Nat} (f : α → α) (h : k ≠ n) : (modAt l n f)[k]? = l[k]? := by
  rw [modAt_eq_modify, List.getElem?_modify_ne _ _ h.symm]

theorem ctxAt_of_getElem? {a : Acoustic} {n : Nat} {c : Ctx} (h : a.ctx[n]? = some c) : a.ctxAt n = c := by
  simp only [Acoustic.ctxAt, List.getD_eq_getElem?_getD, h, Option.getD_some]

/-- REVERSE_TRANSMISSION of an attempt or an acquisition shot that is due: beside its context only the time moves. -/
theorem reverseTransmission_does (n : Nat) (acq : Bool) (cyc : Nat) (c : Ctx) (a : Attempt) (s : State)
    (hc : s.ac.ctx[n]? = some c) (hat : c.attempt acq = some a) (hseq : ctxSequential s.eff n = true) (hdn : a.dn.fired = true)
    (hup : a.up.fired = false) (hdue : cycOf32 (reverseAt s.eff n a.dn.at_) ≤ cyc) :
    Does (.reverseTransmission n acq cyc) s fun t =>
      t = { s.atCyc (cycOf32 (reverseAt s.eff n a.dn.at_)) with
        ac := { (s.atCyc (cycOf32 (reverseAt s.eff n a.dn.at_))).ac with ctx := t.ac.ctx } } ∧
      t.ac.ctx[n]? = some (if acq then { c with acq := some (a.reverse s.eff n) }
        else { c with current := some (a.reverse s.eff n) }) ∧
      ∀ m, m ≠ n → t.ac.ctx[m]? = s.ac.ctx[m]? := by
  have hat' : (s.ac.ctxAt n).attempt acq = some a := by rw [ctxAt_of_getElem? hc, hat]
  refine ⟨_, rfl, ?_⟩
  rw [reverseTransmission_of_due n acq cyc a s hat' hseq hdn hup hdue]
  refine ⟨rfl, ?_, fun m hm => ?_⟩
  · exact modAt_getElem?_same _ (by rw [atCyc_ctx, hc])
  · exact (modAt_getElem?_other _ _ hm).trans (by rw [atCyc_ctx])

/-! ### VSD (R97, R134) -/

theorem vsdPumpSettled_does (droop : Bool) (s : State) (hon : (s.pwr.dom 0).on = true) :
    Does (.vsdPumpSettled droop) s fun t =>
      t.on_ 0x0801 1 = s.at_ 0x0801 1 ∧ (∀ k, k ≠ key 0x0801 1 → t.eff k = s.eff k) ∧ t.get = s.get ∧
      t = { s with set := { s.set with eff := t.set.eff }
                   ac := { s.ac with vsdGood := true, vsdDroop := s.ac.vsdDroop || droop } } := by
  refine ⟨_, rfl, ?_⟩
  simp only [vsdPumpSettled, hon, if_true]
  exact ⟨Pairs_get_set_same _ _ _ _, fun k hk => Pairs_get_set_other _ _ _ _ _ hk, rfl, rfl⟩

/-- Settles O10: a recovery is a firing, a displacement and a restoration (`vhdRecovered_eq`); the other commands change one
context's attempt, or give the shot up. -/
theorem heldShotsFireOrAreGivenUp : Obligations.HeldShotsFireOrAreGivenUp := by
  unfold Obligations.HeldShotsFireOrAreGivenUp
  refine ⟨fun g cyc s hnone => ?_, fun g cyc f u s => vhdRecovered_does g cyc f u s,
    fun g cyc f u s hf hu => ⟨fun hroom => ?_, heldShotGivenUp_does g cyc f u s hf hu⟩, fun n cyc acq s h => ?_,
    fun n cyc c a s hc hseq hdn hup hdue => ⟨fun hacq => ?_, fun hcur => ?_⟩,
    fun droop s => ⟨fun hoff => ?_, vsdPumpSettled_does droop s⟩⟩
  · have hnone' : (s.atCyc cyc).heldFlight g = none := by rw [atCyc_heldFlight, hnone]
    simp only [exec, execVhdRecovered, vhdRecovered, execHeldShotGivenUp, heldShotGivenUp, hnone', and_self]
  · exact congrArg Host.Outcome.next (heldShotGivenUp_waits g cyc f u s hf hu hroom)
  · exact congrArg Host.Outcome.next (reverseTransmission_of_none n acq cyc s h)
  · exact reverseTransmission_does n true cyc c a s hc hacq hseq hdn hup hdue
  · exact reverseTransmission_does n false cyc c a s hc hcur hseq hdn hup hdue
  · simp only [exec, execVsdPumpSettled, vsdPumpSettled, hoff, Bool.false_eq_true, if_false]

end Sys2Proof.Proofs
end

section
/-! PROOF. A write that is accepted is carried out (R450 to R457): its effect, and what carrying it changes. -/

namespace Sys2Proof.Proofs

open Sys2Proof Sys2Proof.Machine Sys2Proof.Laws

/-! ### What carrying a request changes -/

theorem Carried_refl (s : State) : Carried s s := rfl

theorem Carried_trans {u v t : State} (h1 : Carried u v) (h2 : Carried v t) : Carried u t := by
  unfold Carried at h1 h2 ⊢
  rw [h1] at h2
  exact h2

theorem Carried_expect (r : Request) (s : State) : Carried s (s.expect r) := by
  unfold State.expect
  split <;> rfl

theorem Carried_answer (r : Request) (byCore : Bool) (abort : Nat) (data : List Nat) (s : State) :
    Carried s (s.answer r byCore abort data) := by
  obtain ⟨_, _, _, _, _, _, _, _, _, _, _, _, _, _, _, _, _, _, _, _, h⟩ := answer_only r byCore abort data s
  rw [h]
  rfl

theorem Carried_of_CountsOnly {u t : State} (h : CountsOnly u t) : Carried u t := by
  unfold Carried
  rw [h]

theorem Carried_countChange (index sub port : Nat) (s : State) : Carried s (s.countChange index sub port) := by
  unfold State.countChange
  exact Carried_trans (by rfl) (Carried_of_CountsOnly (CountsOnly_raise _ _))

theorem Carried_markUpload (index sub : Nat) (s : State) : Carried s (s.markUpload index sub) := by
  unfold State.markUpload
  split <;> rfl

/-- An envelope that verifies advances its role's replay counter, and clears its run of failures (R447, R448). -/
theorem Carried_verifyEnvelope (e : Envelope) (port : Nat) (s : State) (h : (s.verifyEnvelope e port).2 = abortOk) :
    Carried s (s.verifyEnvelope e port).1 := by
  have hauth : abortAuth ≠ abortOk := by decide
  have haccess : abortAccess ≠ abortOk := by decide
  unfold State.verifyEnvelope at h ⊢
  split_ifs at h ⊢
  · exact absurd h haccess
  · exact absurd h hauth
  · exact absurd h hauth
  · exact absurd h hauth
  · rfl

theorem Carried_authenticate (r : Request) (s : State) (h : (s.authenticate r).2.1 = abortOk) :
    Carried s (s.authenticate r).1 := by
  cases he : r.envelope with
  | none => simp only [State.authenticate, he, Carried_refl]
  | some e =>
    simp only [State.authenticate, he] at h ⊢
    exact Carried_verifyEnvelope e r.via.port s h

/-! ### The way of an accepted write (R457) -/

/-- A sender's write arrives as the request that carries it. -/
theorem ask_eq_take (s : State) (p : Sender) (index sub : Nat) (value : List Nat) (hup : s.linksUp = true) :
    s.ask p index sub value = s.take (s.carried p index sub value) := by
  unfold State.ask State.carried State.bring
  cases p.carrier <;> exact if_pos hup

theorem expect_mustWait (r : Request) (s : State) : (s.expect r).mustWait r = s.mustWait r := by
  unfold State.expect
  split <;> rfl

theorem expect_waiting (r : Request) (s : State) : (s.expect r).acc.waiting = s.acc.waiting := by
  unfold State.expect
  split <;> rfl

/-- A request that need not wait is served as it arrives. -/
theorem take_eq_serveNow (s : State) (r : Request) (h : s.servesNow r) : s.take r = (s.expect r).serveNow r := by
  obtain ⟨-, hwait, hport⟩ := h
  simp only [State.take, State.submit, expect_mustWait, expect_waiting, hwait, hport, Bool.or_self, Bool.false_eq_true, if_false]

/-- Where step 11 lets a write pass that passed the checks before it, what follows its effect is counting and the upload flag. -/
theorem write_accepted {a : Ask} {row : Row} {s : State} (hcommit : (s.commitWrite row a).2 = abortOk)
    (hrow : rowOf (key a.index a.sub) = some row)
    (haccess : accessBad row a = false) (hseal : s.sealBad row a = false) (hfits : row.ty.fits a.data = true)
    (hvalue : s.valueAbort row a = abortOk) (hmode : s.modeBad row = false) (hstate : s.stateBad a.index a.sub a.value = false) :
    (s.write a).2 = abortOk ∧ Carried (s.commitWrite row a).1 (s.write a).1 := by
  have hearly : firstAbort [(accessBad row a, abortAccess), (s.sealBad row a, abortSealed),
      (!row.ty.fits a.data, abortType)] = abortOk := by
    simp [firstAbort, haccess, hseal, hfits]
  simp only [State.write, hrow, hearly, hvalue, hmode, hstate, hcommit, ne_eq, not_true_eq_false, Bool.or_self, Bool.false_eq_true,
    if_false, true_and]
  split
  · exact Carried_trans (Carried_countChange _ _ _ _) (Carried_markUpload _ _ _)
  · exact Carried_markUpload _ _ _

/-- An accepted write is carried out in a state that carrying it has changed, by what step 11 and its effect do. -/
theorem ask_accepted (s : State) (p : Sender) (index sub : Nat) (value : List Nat) (h : s.acceptsWrite p index sub value) :
    ∃ (u : State) (row : Row) (a : Ask), Carried s u ∧ a.index = index ∧ a.sub = sub ∧ a.value = ofLe value ∧
      ((u.commitWrite row a).2 = abortOk → Carried (u.commitWrite row a).1 (s.ask p index sub value)) := by
  obtain ⟨hserves, hform, row, role, env, hrow, hauth, hcustomer, hop, haccess, hseal, hfits, hvalue, hmode, hstate⟩ := h
  have hok : ((s.expect (s.carried p index sub value)).authenticate (s.carried p index sub value)).2.1 = abortOk := by rw [hauth]
  refine ⟨_, row,
    { via := (s.carried p index sub value).via, gen := (s.carried p index sub value).gen, index := index, sub := sub
      data := value, role := role, env := env },
    Carried_trans (Carried_expect _ s) (Carried_authenticate _ _ hok), rfl, rfl, rfl, fun hcommit => ?_⟩
  obtain ⟨habort, hcarried⟩ := write_accepted hcommit hrow haccess hseal hfits hvalue hmode hstate
  rw [ask_eq_take s p index sub value hserves.1, take_eq_serveNow s _ hserves]
  simp only [State.serveNow, hform, hauth, hcustomer, hop, ne_eq, not_true_eq_false, Bool.false_eq_true, if_false]
  exact Carried_trans hcarried (Carried_answer _ _ _ _ _)

end Sys2Proof.Proofs
end

section
/-! PROOF. Captures start and stop, and the writes of a context are staged and applied (R122, R157, R158, R161, R162, R188). -/

namespace Sys2Proof.Proofs

open Sys2Proof Sys2Proof.Machine Sys2Proof.Laws

/-! ### Which effect a write of these entries has -/

theorem commitWrite_template {a : Ask} (row : Row) (s : State) (hindex : a.index = 0x0A20) (hsub : a.sub = 1) :
    s.commitWrite row a = (s.templateCapture a.value, abortOk) := by
  obtain ⟨via, gen, index, sub, data, role, env⟩ := a
  subst hindex hsub
  rfl

/-- A write to a path context is none of the entries that are commands. -/
theorem perform_ctx {a : Ask} {n : Nat} (row : Row) (s : State) (hn : n < 64) (hindex : a.index = 0x0900 + n) :
    s.perform row a = s.ctxWrite n a.sub a.value a.via.port := by
  have hplace : a.index - 0x0900 = n := by omega
  have hrange : 0x0900 ≤ a.index ∧ a.index ≤ 0x093F := by omega
  unfold State.perform
  split
  case h_26 => simp only [hrange, and_self, if_true, hplace]
  all_goals omega

/-- The ledger that step 11 leaves where it lets a write of a context pass (R62). -/
def ledgerAfter (r : Option (Ledger × List Raised)) (l : Ledger) : Ledger := (r.map Prod.fst).getD l

/-- Where the ledger does not refuse it, a write of a context has its effect beside the ledger's report. -/
theorem commitWrite_ctx {a : Ask} {n : Nat} (row : Row) (s : State) (hn : n < 64) (hindex : a.index = 0x0900 + n)
    (hadmits : ∀ l evs, s.ctxLedger n a.sub a.value = some (l, evs) → evs = []) :
    s.commitWrite row a =
      (State.ctxWrite n a.sub a.value a.via.port
        { s with ledger := ledgerAfter (s.ctxLedger n a.sub a.value) s.ledger }, abortOk) := by
  have hplace : a.index - 0x0900 = n := by omega
  have hrange : 0x0900 ≤ a.index ∧ a.index ≤ 0x093F := by omega
  have hmode : ¬(a.index = 0x0120 ∧ a.sub = 2) := by omega
  simp only [State.commitWrite, if_neg hmode, if_pos hrange, hplace, perform_ctx row _ hn hindex]
  split
  next hnone => simp only [hnone, ledgerAfter, Option.map_none, Option.getD_none]
  next l evs hsome =>
    obtain rfl := hadmits l evs hsome
    simp only [hsome, ledgerAfter, List.isEmpty_nil, if_true, Option.map_some, Option.getD_some]

theorem Carried_ctxLedger {s u : State} (h : Carried s u) (n sub v : Nat) : u.ctxLedger n sub v = s.ctxLedger n sub v := by
  rw [h]
  rfl

/-- An accepted write of a context that the ledger admits has its effect, beside the ledger's report and what carrying it changes. -/
theorem ask_ctx {p : Sender} {n sub : Nat} {value : List Nat} {s : State} (hn : n < 64)
    (h : s.acceptsWrite p (0x0900 + n) sub value)
    (hadmits : ∀ l evs, s.ctxLedger n sub (ofLe value) = some (l, evs) → evs = []) :
    ∃ (u : State) (port : Nat), Carried s u ∧
      Carried (State.ctxWrite n sub (ofLe value) port { u with ledger := ledgerAfter (s.ctxLedger n sub (ofLe value)) s.ledger })
        (s.ask p (0x0900 + n) sub value) := by
  obtain ⟨u, row, a, hu, hindex, hsub, hvalue, hcarried⟩ := ask_accepted s p (0x0900 + n) sub value h
  have hl : u.ledger = s.ledger := by rw [hu]
  rw [← hsub, ← hvalue] at hadmits ⊢
  have hcommit := commitWrite_ctx row u hn hindex fun l evs => Carried_ctxLedger hu n a.sub a.value ▸ hadmits l evs
  rw [hcommit, Carried_ctxLedger hu, hl, hsub] at hcarried
  exact ⟨u, a.via.port, hu, by rw [hsub]; exact hcarried rfl⟩

/-- What a write leaves where its effect is on the settings, the ledger's report and the acoustic blocks alone. -/
theorem Carried_written {s u t : State} {l : Ledger} {c : Settings} {a : Acoustic} (hu : Carried s u)
    (ht : Carried { u with ledger := l, set := c, ac := a } t) :
    t.set = c ∧ t.ac = a ∧ Carried { s with ledger := l, set := t.set, ac := t.ac } t := by
  have hset : t.set = c := by rw [ht]
  have hac : t.ac = a := by rw [ht]
  refine ⟨hset, hac, Carried_trans ?_ ht⟩
  rw [hset, hac, hu]
  rfl

theorem Carried_set {s u : State} (h : Carried s u) : u.set = s.set := by rw [h]

theorem Carried_ac {s u : State} (h : Carried s u) : u.ac = s.ac := by rw [h]

theorem Carried_staging {s u : State} (h : Carried s u) (n : Nat) : u.staging n = s.staging n := by
  simp only [State.staging, State.get, Carried_set h]

theorem modCtx_modCtx (a : Acoustic) (n : Nat) (f g : Ctx → Ctx) :
    (a.modCtx n f).modCtx n g = a.modCtx n fun c => g (f c) := by
  simp only [Acoustic.modCtx, modAt_eq_modify, List.modify_modify_eq]
  rfl

/-- Where one context of the acoustic blocks has changed, the others stand, and nothing but the contexts has changed. -/
theorem ctx_changed {s t : State} {n : Nat} {f : Ctx → Ctx} {c : Ctx} (hc : s.ac.ctx[n]? = some c) (hac : t.ac = s.ac.modCtx n f) :
    t.ac.ctx[n]? = some (f c) ∧ (∀ k, k ≠ n → t.ac.ctx[k]? = s.ac.ctx[k]?) ∧ t.ac = { s.ac with ctx := t.ac.ctx } := by
  rw [hac]
  exact ⟨modAt_getElem?_same f hc, fun k hk => modAt_getElem?_other _ f hk, rfl⟩

/-! ### ZERO_CAPTURE (R122, R157, R158, R161) -/

/-- A context after a write of ZERO_CAPTURE: held as staged, or its measurement stopped or started. -/
def zeroWritten (staging : Bool) (n v : Nat) (c : Ctx) : Ctx :=
  if staging then { c with m := 0, staged := c.staged ++ [(ck n 0x1F, v)] }
  else if v = 0 then { c with m := 0, zeroStatus := 0 }
  else { c with m := 0, zeroStatus := 1, zeroPairs := v, zeroSeen := 0, zeroGood := 0, zeroSum := 0, zeroLive := false }

theorem keySub_ck (n : Nat) {sub : Nat} (h : sub < 256) : keySub (ck n sub) = sub := by
  simp only [keySub, ck, key]
  omega

theorem keyIndex_ck (n : Nat) {sub : Nat} (h : sub < 256) : keyIndex (ck n sub) = 0x0900 + n := by
  simp only [keyIndex, ck, key]
  omega

/-- The state in which a write has zeroed a context's mismatch estimate (R122). -/
def cleared (n : Nat) (s : State) : State := { s with ac := s.ac.modCtx n fun c => { c with m := 0 } }

/-- A write to another subindex than CTX_CONTROL is held as staged while the context stages, and is put else. -/
theorem ctxWrite_of_ne (s : State) (n port : Nat) {sub v : Nat} (h : sub ≠ 0x01) :
    s.ctxWrite n sub v port =
      if s.staging n then (cleared n s).stage n (ck n sub, v) else (cleared n s).putAll n [(ck n sub, v)] :=
  if_neg h

theorem ctxWrite_zero (s : State) (n v port : Nat) :
    s.ctxWrite n 0x1F v port = { s with
      set := if s.staging n then s.set else s.set.write (ck n 0x1F) v
      ac := s.ac.modCtx n (zeroWritten (s.staging n) n v) } := by
  have hsub : keySub (ck n 0x1F) = 0x1F := keySub_ck n (by decide)
  have hput : (cleared n s).putAll n [(ck n 0x1F, v)] = (cleared n s).zeroCapture n v := by
    simp [State.putAll, templateKey, hsub]
  rw [ctxWrite_of_ne s n port (by decide), hput]
  cases s.staging n
  · exact congrArg (fun a => ({ s with set := s.set.write (ck n 0x1F) v, ac := a } : State)) (modCtx_modCtx s.ac n _ _)
  · exact congrArg (fun a => ({ s with ac := a } : State)) (modCtx_modCtx s.ac n _ _)

/-- ZERO_CAPTURE changes one context and the settings. -/
theorem zeroCapture_written {p : Sender} {n v : Nat} {c : Ctx} {s t : State} (hn : n < 64) (hv : v < 65536)
    (hc : s.ac.ctx[n]? = some c) (h : s.acceptsWrite p (0x0900 + n) 0x1F (leBytes 2 v))
    (ht : t = s.ask p (0x0900 + n) 0x1F (leBytes 2 v)) :
    t.ac.ctx[n]? = some (zeroWritten (s.staging n) n v c) ∧ (∀ k, k ≠ n → t.ac.ctx[k]? = s.ac.ctx[k]?) ∧
      Carried { s with set := t.set, ac := { s.ac with ctx := t.ac.ctx } } t := by
  have hvalue : ofLe (leBytes 2 v) = v := ofLe_leBytes2 v hv
  have hnone : s.ctxLedger n 0x1F v = none := rfl
  obtain ⟨u, port, hu, heffect⟩ := ask_ctx hn h (by simp only [hvalue, hnone, reduceCtorEq, false_imp_iff, implies_true])
  rw [hvalue, hnone, ctxWrite_zero, ← ht] at heffect
  obtain ⟨-, hac, hcarried⟩ := Carried_written hu heffect
  replace hac : t.ac = s.ac.modCtx n (zeroWritten (s.staging n) n v) := by
    rw [← Carried_ac hu, ← Carried_staging hu]
    exact hac
  obtain ⟨hctx, hothers, honly⟩ := ctx_changed hc hac
  exact ⟨hctx, hothers, honly ▸ hcarried⟩

/-! ### TEMPLATE_CAPTURE (R188) -/

/-- The capture after an accepted write of TEMPLATE_CAPTURE: it is stopped, or runs for the context, pairs and anchor of the word. -/
def captureAfter (v : Nat) (c : Capture) : Capture :=
  if field v 25 16 = 0 then { c with status := 0 }
  else { c with
    status := 1, ctx := field v 31 26, pairs := field v 25 16, anchor := field v 8 0, used := 0, seen := 0, live := false, sum := []
    half := [], goods := 0 }

theorem templateCapture_written {p : Sender} {v : Nat} {s t : State} (hv : v < 2 ^ 32) (h : s.acceptsWrite p 0x0A20 1 (leBytes 4 v))
    (ht : t = s.ask p 0x0A20 1 (leBytes 4 v)) :
    Carried { s with set := t.set, ac := { s.ac with capture := captureAfter v s.ac.capture } } t := by
  obtain ⟨u, row, a, hu, hindex, hsub, hvalue, hcarried⟩ := ask_accepted s p 0x0A20 1 (leBytes 4 v) h
  rw [commitWrite_template row u hindex hsub, hvalue, ofLe_leBytes4 v hv, ← ht] at hcarried
  obtain ⟨-, hac, hcarried⟩ := Carried_written (l := u.ledger) hu (hcarried rfl)
  replace hac : t.ac = { s.ac with capture := captureAfter v s.ac.capture } := by
    rw [← Carried_ac hu]
    exact hac
  have hl : u.ledger = s.ledger := by rw [hu]
  rwa [hac, hl] at hcarried

/-- The fields of the word that starts a capture (Table 5.14). -/
theorem captureAfter_start {n pairs anchor : Nat} (c : Capture) (hn : n < 64) (hpos : 1 ≤ pairs) (hpairs : pairs ≤ 1023)
    (hanchor : anchor < 512) :
    captureAfter (n * 2 ^ 26 + pairs * 65536 + anchor) c = { c with
      status := 1, ctx := n, pairs := pairs, anchor := anchor, used := 0, seen := 0, live := false, sum := [], half := []
      goods := 0 } := by
  have hp : field (n * 2 ^ 26 + pairs * 65536 + anchor) 25 16 = pairs := by
    simp only [field]
    omega
  have hc : field (n * 2 ^ 26 + pairs * 65536 + anchor) 31 26 = n := by
    simp only [field]
    omega
  have ha : field (n * 2 ^ 26 + pairs * 65536 + anchor) 8 0 = anchor := by
    simp only [field]
    omega
  simp only [captureAfter, hp, hc, ha, if_neg (Nat.ne_zero_of_lt hpos)]

theorem captureAfter_stop (n : Nat) (c : Capture) : captureAfter (n * 2 ^ 26) c = { c with status := 0 } := by
  have hp : field (n * 2 ^ 26) 25 16 = 0 := by
    simp only [field]
    omega
  exact if_pos hp

/-! ### CTX_CONTROL with STAGE (R161) -/

/-- A context after CTX_CONTROL with STAGE: a new STYLE or DEFINED is held as staged. -/
def stageHeld (staging : Bool) (old n low : Nat) (c : Ctx) : Ctx :=
  { c with
    m := 0
    staged := if staging = false ∧ low = old % 4 then c.staged else c.staged ++ [(ck n 0x01, low)] }

theorem stageOn_eq (s : State) (n v : Nat) :
    (cleared n s).stageOn n v = { s with
      set := if s.staging n then s.set else s.set.store (ck n 0x01) (s.get (ck n 0x01) % 4 + 4)
      ac := s.ac.modCtx n (stageHeld (s.staging n) (s.get (ck n 0x01)) n (v % 4)) } := by
  have hstaging : (cleared n s).staging n = s.staging n := rfl
  have hget : (cleared n s).get = s.get := rfl
  simp only [State.stageOn, hstaging, hget]
  cases s.staging n
  · by_cases hsame : v % 4 = s.get (ck n 0x01) % 4
    · rw [if_neg (by decide), if_neg (by simpa using hsame)]
      refine congrArg (fun a => ({ s with set := s.set.store (ck n 0x01) (s.get (ck n 0x01) % 4 + 4), ac := a } : State)) ?_
      exact congrArg (s.ac.modCtx n) (funext fun c => by simp only [stageHeld, hsame, and_self, if_true])
    · rw [if_neg (by decide), if_pos hsame]
      refine congrArg (fun a => ({ s with set := s.set.store (ck n 0x01) (s.get (ck n 0x01) % 4 + 4), ac := a } : State)) ?_
      refine (modCtx_modCtx s.ac n _ _).trans (congrArg (s.ac.modCtx n) (funext fun c => ?_))
      simp only [stageHeld, hsame, and_false, if_false]
  · exact congrArg (fun a => ({ s with ac := a } : State)) (modCtx_modCtx s.ac n _ _)

/-- A write of CTX_CONTROL sets STAGE, or applies what is staged, or is put. -/
theorem ctxWrite_control (s : State) (n v port : Nat) :
    s.ctxWrite n 0x01 v port =
      if bitAt v 2 then (cleared n s).stageOn n v
      else if s.staging n then (cleared n s).stageApply n v port
      else (cleared n s).ctxPut (ck n 0x01, v % 4) := rfl

/-- A write of CTX_CONTROL with STAGE changes one context and stored settings. -/
theorem stageSet_written {p : Sender} {n low : Nat} {c : Ctx} {s t : State} (hn : n < 64) (hlow : low < 4)
    (hc : s.ac.ctx[n]? = some c) (h : s.acceptsWrite p (0x0900 + n) 1 [4 + low])
    (ht : t = s.ask p (0x0900 + n) 1 [4 + low]) :
    t.set = (if s.staging n then s.set else s.set.store (ck n 0x01) (s.get (ck n 0x01) % 4 + 4)) ∧
      t.ac.ctx[n]? = some (stageHeld (s.staging n) (s.get (ck n 0x01)) n low c) ∧
      (∀ k, k ≠ n → t.ac.ctx[k]? = s.ac.ctx[k]?) ∧ Carried { s with set := t.set, ac := { s.ac with ctx := t.ac.ctx } } t := by
  have hvalue : ofLe [4 + low] = 4 + low := by
    simp only [ofLe]
    omega
  have hstage : bitAt (4 + low) 2 = true := by
    simp only [bitAt, beq_iff_eq]
    omega
  have hnone : s.ctxLedger n 1 (4 + low) = none := by simp [State.ctxLedger, State.ctxView, hstage]
  obtain ⟨u, port, hu, heffect⟩ := ask_ctx hn h (by simp only [hvalue, hnone, reduceCtorEq, false_imp_iff, implies_true])
  have hmod : (4 + low) % 4 = low := by omega
  rw [hvalue, hnone, ctxWrite_control, if_pos hstage, stageOn_eq, hmod, ← ht] at heffect
  obtain ⟨hset, hac, hcarried⟩ := Carried_written hu heffect
  have hget : u.get = s.get := by
    funext k
    simp only [State.get, Carried_set hu]
  replace hset : t.set = if s.staging n then s.set else s.set.store (ck n 0x01) (s.get (ck n 0x01) % 4 + 4) := by
    rw [← Carried_set hu, ← Carried_staging hu, ← hget]
    exact hset
  replace hac : t.ac = s.ac.modCtx n (stageHeld (s.staging n) (s.get (ck n 0x01)) n low) := by
    rw [← Carried_ac hu, ← Carried_staging hu, ← hget]
    exact hac
  obtain ⟨hctx, hothers, honly⟩ := ctx_changed hc hac
  exact ⟨hset, hctx, hothers, honly ▸ hcarried⟩

/-! ### CTX_CONTROL without STAGE (R161, R162) -/

/-- Beside what carrying a request changes, only the settings, the ledger's report, the contexts and the template capture. -/
def AppliedOnly (u t : State) : Prop :=
  Carried { u with
    set := t.set, ledger := t.ledger, ac := { u.ac with ctx := t.ac.ctx, capture := t.ac.capture } } t

theorem AppliedOnly_trans {u v t : State} (h1 : AppliedOnly u v) (h2 : AppliedOnly v t) : AppliedOnly u t := by
  unfold AppliedOnly Carried at h1 h2 ⊢
  rw [h1] at h2
  exact h2

theorem AppliedOnly_of_Carried {u t : State} (h : Carried u t) : AppliedOnly u t := by
  unfold AppliedOnly
  rw [h]
  rfl

theorem AppliedOnly_cleared (n : Nat) (l : Ledger) (s : State) : AppliedOnly s (cleared n { s with ledger := l }) := rfl

theorem AppliedOnly_mode {u t : State} (h : AppliedOnly u t) : t.mode = u.mode := by
  rw [h]

/-- A write of a context is put: it is the stored value, in CONFIG in force at once, and no staged write or estimate that is 0
changes. -/
structure Puts (k v : Nat) (s t : State) : Prop where
  outside : AppliedOnly s t
  stored : t.get = View.with s.get k v
  inForce : t.eff = if s.mode = .config then View.with s.eff k v else s.eff
  staged : ∀ n, (t.ac.ctxAt n).staged = (s.ac.ctxAt n).staged
  estimate : ∀ n, (s.ac.ctxAt n).m = 0 → (t.ac.ctxAt n).m = 0

/-- A stored value reads as written, and every other entry as before. -/
theorem get_set_eq_with (m : Pairs Nat) (k v : Nat) :
    Pairs.get defaultOf (Pairs.set defaultOf m k v) = View.with (Pairs.get defaultOf m) k v := by
  funext a
  by_cases ha : a = k
  · subst ha
    rw [Pairs_get_set_same, View.with, if_pos rfl]
  · rw [Pairs_get_set_other _ _ _ _ _ ha, View.with, if_neg ha]

theorem forceCtx_puts (s : State) (k v : Nat) (hmode : s.mode = .config) :
    Puts k v s (State.forceCtx k v { s with set := s.set.store k v }) where
  outside := rfl
  stored := get_set_eq_with s.set.stored k v
  inForce := by
    rw [if_pos hmode]
    exact get_set_eq_with s.set.eff k v
  staged n := by
    obtain h | h := ctxAt_modCtx_or s.ac (keyIndex k - 0x0900) n
      (Ctx.edited (View.with s.eff k v) (keyIndex k - 0x0900) (keySub k) (s.eff k) v)
    · exact (congrArg Ctx.staged h :)
    · exact (congrArg Ctx.staged h :)
  estimate n hzero := by
    obtain h | h := ctxAt_modCtx_or s.ac (keyIndex k - 0x0900) n
      (Ctx.edited (View.with s.eff k v) (keyIndex k - 0x0900) (keySub k) (s.eff k) v)
    · exact (congrArg Ctx.m h :).trans hzero
    · exact (congrArg Ctx.m h :)

theorem edit_puts (s : State) (k v : Nat) (w : When) (hmode : s.mode ≠ .config) :
    Puts k v s { s with set := s.set.edit k v w } where
  outside := rfl
  stored := get_set_eq_with s.set.stored k v
  inForce := by
    rw [if_neg hmode]
    rfl
  staged _ := rfl
  estimate _ h := h

theorem ctxPut_puts (s : State) {n sub : Nat} (v : Nat) (hn : n < 64) (hsub : sub < 256) :
    Puts (ck n sub) v s (s.ctxPut (ck n sub, v)) := by
  have hindex := keyIndex_ck n hsub
  have hrange : 0x0900 ≤ keyIndex (ck n sub) ∧ keyIndex (ck n sub) ≤ 0x093F := by omega
  unfold State.ctxPut
  split
  next hmode =>
    rw [State.force, if_pos hrange]
    exact forceCtx_puts s _ v hmode
  next hmode => exact edit_puts s _ v _ hmode

theorem Carried_foldl {α : Type} {f : State → α → State} (hf : ∀ s x, Carried s (f s x)) (l : List α) (s : State) :
    Carried s (l.foldl f s) := by
  induction l generalizing s with
  | nil => exact Carried_refl s
  | cons x xs ih => exact Carried_trans (hf s x) (ih _)

/-- Beside the writes it puts, an application counts each legally relevant one under the seal (R444). -/
theorem stageApply_carried (s : State) (n v port : Nat) :
    Carried ((s.discardStaged n).putAll n (s.stagedWrites n v)) (s.stageApply n v port) := by
  simp only [State.stageApply]
  split
  · exact Carried_foldl (fun w p => Carried_countChange _ _ port w) _ _
  · exact Carried_refl _

/-- One staged write of a plain subindex and CTX_CONTROL are put one after the other. -/
theorem putAll_two (s : State) {n sub : Nat} (v low : Nat) (hlow : 2 ≤ sub) (hhigh : sub ≤ 0x0E) :
    s.putAll n [(ck n sub, v), (ck n 0x01, low)] = (s.ctxPut (ck n sub, v)).ctxPut (ck n 0x01, low) := by
  have hs : keySub (ck n sub) = sub := keySub_ck n (by omega)
  have hc : keySub (ck n 0x01) = 0x01 := keySub_ck n (by decide)
  have h1 : sub ≠ 0x1F := by omega
  have h2 : sub ≠ 0x10 := by omega
  have h3 : sub ≠ 0x0F := by omega
  simp [State.putAll, templateKey, hs, hc, h1, h2, h3]

/-- The state in which an accepted write of CTX_CONTROL has its effect. -/
structure Meets (n : Nat) (c : Ctx) (s w : State) : Prop where
  outside : AppliedOnly s w
  stored : w.get = s.get
  inForce : w.eff = s.eff
  context : w.ac.ctx[n]? = some { c with m := 0 }

/-- An accepted write of CTX_CONTROL without STAGE that the ledger admits puts STYLE and DEFINED, or applies what is staged. -/
theorem ask_control {p : Sender} {n low : Nat} {c : Ctx} {s t : State} (hn : n < 64) (hlow : low < 4)
    (hc : s.ac.ctx[n]? = some c) (h : s.acceptsWrite p (0x0900 + n) 1 [low])
    (hadmits : ∀ l evs, s.ctxLedger n 1 low = some (l, evs) → evs = []) (ht : t = s.ask p (0x0900 + n) 1 [low]) :
    ∃ (w : State) (port : Nat), Meets n c s w ∧
      Carried (if s.staging n then w.stageApply n low port else w.ctxPut (ck n 0x01, low)) t := by
  have hvalue : ofLe [low] = low := by
    simp only [ofLe]
    omega
  have hstage : bitAt low 2 = false := by
    simp only [bitAt, beq_eq_false_iff_ne]
    omega
  have hmod : low % 4 = low := by omega
  obtain ⟨u, port, hu, heffect⟩ := ask_ctx hn h (by rwa [hvalue])
  rw [hvalue, ctxWrite_control, hstage, if_neg (by decide), hmod, ← ht] at heffect
  refine ⟨_, port, ⟨AppliedOnly_trans (AppliedOnly_of_Carried hu) (AppliedOnly_cleared n _ u), ?_, ?_, ?_⟩,
    Carried_staging hu n ▸ heffect⟩
  · funext k
    exact congrArg (fun e => Pairs.get defaultOf e.stored k) (Carried_set hu)
  · funext k
    exact congrArg (fun e => Pairs.get defaultOf e.eff k) (Carried_set hu)
  · exact modAt_getElem?_same _ (by rw [Carried_ac hu, hc])

theorem Puts_get {k v : Nat} {s t : State} (h : Puts k v s t) (j : Nat) : t.get j = if j = k then v else s.get j := by
  rw [h.stored]
  rfl

theorem Puts_eff_of_config {k v : Nat} {s t : State} (h : Puts k v s t) (hmode : s.mode = .config) (j : Nat) :
    t.eff j = if j = k then v else s.eff j := by
  rw [h.inForce, if_pos hmode]
  rfl

theorem Puts_eff_of_running {k v : Nat} {s t : State} (h : Puts k v s t) (hmode : s.mode ≠ .config) : t.eff = s.eff := by
  rw [h.inForce, if_neg hmode]

/-- What carrying a request changes beside its effect leaves what a put wrote. -/
theorem Puts_carried {k v : Nat} {s u t : State} (h : Puts k v s u) (ht : Carried u t) : Puts k v s t where
  outside := AppliedOnly_trans h.outside (AppliedOnly_of_Carried ht)
  stored := by
    rw [← h.stored, ht]
    rfl
  inForce := by
    rw [← h.inForce, ht]
    rfl
  staged n := by rw [Carried_ac ht, h.staged n]
  estimate n hzero := by
    rw [Carried_ac ht]
    exact h.estimate n hzero

/-- CTX_CONTROL without STAGE, of a context that does not stage. -/
theorem stageApply_put {p : Sender} {n low : Nat} {c : Ctx} {s : State} (hn : n < 64) (hlow : low < 4)
    (hc : s.ac.ctx[n]? = some c) (h : s.acceptsWrite p (0x0900 + n) 1 [low])
    (hadmits : ∀ l evs, s.ctxLedger n 1 low = some (l, evs) → evs = []) (hstaging : s.staging n = false) :
    Does (.ctxStageApply p n low) s fun t =>
      t.at_ (0x0900 + n) 1 = low ∧ (s.mode = .config → t.on_ (0x0900 + n) 1 = low) ∧ (s.mode ≠ .config → t.eff = s.eff) ∧
      (t.ac.ctxAt n).staged = c.staged ∧ (t.ac.ctxAt n).m = 0 ∧ AppliedOnly s t := by
  refine ⟨_, rfl, ?_⟩
  obtain ⟨w, port, hw, hcarried⟩ := ask_control hn hlow hc h hadmits rfl
  rw [hstaging, if_neg (by decide)] at hcarried
  have hputs := Puts_carried (ctxPut_puts w low hn (by decide)) hcarried
  have hmode := AppliedOnly_mode hw.outside
  have hctx := ctxAt_of_getElem? hw.context
  refine ⟨(Puts_get hputs _).trans (if_pos rfl), fun hconfig => ?_, fun hrunning => ?_, ?_, ?_,
    AppliedOnly_trans hw.outside hputs.outside⟩
  · exact (Puts_eff_of_config hputs (hmode.trans hconfig) _).trans (if_pos rfl)
  · exact (Puts_eff_of_running hputs (hmode.symm ▸ hrunning)).trans hw.inForce
  · rw [hputs.staged, hctx]
  · exact hputs.estimate n (by rw [hctx])

/-- CTX_CONTROL without STAGE, of a context that has staged one write. -/
theorem stageApply_staged {p : Sender} {n low sub v : Nat} {c : Ctx} {s : State} (hn : n < 64) (hlow : low < 4)
    (hc : s.ac.ctx[n]? = some c) (h : s.acceptsWrite p (0x0900 + n) 1 [low])
    (hadmits : ∀ l evs, s.ctxLedger n 1 low = some (l, evs) → evs = []) (hstaging : s.staging n = true)
    (hstaged : c.staged = [(ck n sub, v)]) (hfrom : 2 ≤ sub) (hto : sub ≤ 0x0E) :
    Does (.ctxStageApply p n low) s fun t =>
      t.at_ (0x0900 + n) sub = v ∧ t.at_ (0x0900 + n) 1 = low ∧
      (s.mode = .config → t.on_ (0x0900 + n) sub = v ∧ t.on_ (0x0900 + n) 1 = low) ∧ (s.mode ≠ .config → t.eff = s.eff) ∧
      (t.ac.ctxAt n).staged = [] ∧ (t.ac.ctxAt n).m = 0 ∧ AppliedOnly s t := by
  refine ⟨_, rfl, ?_⟩
  obtain ⟨w, port, hw, hcarried⟩ := ask_control hn hlow hc h hadmits rfl
  have hmod : low % 4 = low := by omega
  have hwrites : w.stagedWrites n low = [(ck n sub, v), (ck n 0x01, low)] := by
    simp only [State.stagedWrites, ctxAt_of_getElem? hw.context, hstaged, hmod, List.cons_append, List.nil_append]
  have hemptied : (w.discardStaged n).ac.ctxAt n = { c with m := 0, staged := [] } :=
    ctxAt_of_getElem? (modAt_getElem?_same _ hw.context)
  replace hcarried := Carried_trans (stageApply_carried w n low port) (by rwa [hstaging, if_pos rfl] at hcarried)
  rw [hwrites, putAll_two _ v low hfrom hto] at hcarried
  have hfirst := ctxPut_puts (w.discardStaged n) v hn (show sub < 256 by omega)
  have hputs := Puts_carried (ctxPut_puts _ low hn (by decide)) hcarried
  have hmode := AppliedOnly_mode hw.outside
  have hmode' := AppliedOnly_mode hfirst.outside
  have hother : ck n sub ≠ ck n 0x01 := fun hsame => by
    have hsub : sub = 0x01 := by rw [← keySub_ck n (show sub < 256 by omega), hsame, keySub_ck n (by decide)]
    omega
  refine ⟨?_, (Puts_get hputs _).trans (if_pos rfl), fun hconfig => ⟨?_, ?_⟩, fun hrunning => ?_, ?_, ?_,
    AppliedOnly_trans hw.outside (AppliedOnly_trans (v := w.discardStaged n) rfl
      (AppliedOnly_trans hfirst.outside hputs.outside))⟩
  · exact (Puts_get hputs _).trans ((if_neg hother).trans ((Puts_get hfirst _).trans (if_pos rfl)))
  · exact (Puts_eff_of_config hputs (hmode'.trans (hmode.trans hconfig)) _).trans
      ((if_neg hother).trans ((Puts_eff_of_config hfirst (hmode.trans hconfig) _).trans (if_pos rfl)))
  · exact (Puts_eff_of_config hputs (hmode'.trans (hmode.trans hconfig)) _).trans (if_pos rfl)
  · have hrunning' : w.mode ≠ .config := hmode.symm ▸ hrunning
    exact (Puts_eff_of_running hputs (hmode'.symm ▸ hrunning')).trans
      ((Puts_eff_of_running hfirst hrunning').trans hw.inForce)
  · rw [hputs.staged, hfirst.staged, hemptied]
  · exact hputs.estimate n (hfirst.estimate n (by rw [hemptied]))

/-- Settles O35: an accepted write is carried out by its effect alone (`ask_accepted`), which for each of these commands changes one
context or the capture, and the settings. -/
theorem capturesAndStagedContexts : Obligations.CapturesAndStagedContexts := by
  unfold Obligations.CapturesAndStagedContexts
  refine ⟨fun p n pairs c s hn hc => ⟨fun hpos hpairs h => ?_, fun h => ?_⟩,
    fun p n pairs anchor s hn hpos hpairs hanchor h => ?_, fun p n s hn h => ?_, fun p n low c s hn hlow hc h => ?_,
    fun p n low c s hn hlow hc h hadmits => ⟨fun hstaging => ?_,
      fun sub v hstaging hstaged hfrom hto => ?_⟩⟩
  · obtain ⟨hctx, hothers, hcarried⟩ := zeroCapture_written hn hpairs hc h rfl
    refine ⟨_, rfl, ?_, hothers, hcarried⟩
    rw [hctx, zeroWritten, if_neg (Nat.ne_zero_of_lt hpos)]
  · obtain ⟨hctx, hothers, hcarried⟩ := zeroCapture_written (v := 0) hn (by decide) hc h rfl
    refine ⟨_, rfl, ?_, hothers, hcarried⟩
    exact hctx.trans (by rw [zeroWritten, if_pos rfl])
  · have hfits : n * 2 ^ 26 + pairs * 65536 + anchor < 2 ^ 32 := by omega
    have hcarried := templateCapture_written hfits h rfl
    rw [captureAfter_start _ hn hpos hpairs hanchor] at hcarried
    exact ⟨_, rfl, hcarried⟩
  · have hfits : n * 2 ^ 26 < 2 ^ 32 := by omega
    have hcarried := templateCapture_written hfits h rfl
    rw [captureAfter_stop] at hcarried
    exact ⟨_, rfl, hcarried⟩
  · obtain ⟨hset, hctx, hothers, hcarried⟩ := stageSet_written hn hlow hc h rfl
    refine ⟨_, rfl, fun hstaging => ?_, fun hstaging => ?_, hctx, ?_, hothers, hcarried⟩
    · simp only [State.at_, State.get, hset, hstaging, Bool.false_eq_true, if_false]
      exact (Pairs_get_set_same _ _ _ _).trans (Nat.add_comm _ _)
    · rw [hset, if_pos hstaging]
    · funext k
      simp only [State.eff, hset]
      split <;> rfl
  · exact stageApply_put hn hlow hc h hadmits hstaging
  · exact stageApply_staged hn hlow hc h hadmits hstaging hstaged hfrom hto

end Sys2Proof.Proofs
end

section
/-! PROOF. A context settles (R141, R144, R193): what deciding an attempt, asking for a retry and starting the flow computation
change of the attempts, of the frame, and beside them. -/

namespace Sys2Proof.Proofs

open Sys2Proof Sys2Proof.Machine Sys2Proof.Laws

/-! ### An attempt is decided -/

/-- A direction as the decision of its attempt leaves it: as it was, or, where it had passed, failed with FUSION without a time, for a
Δt that cannot be formed (R193). -/
def DirJudged (d e : DirRun) : Prop := e = d ∨ d.reason = 0 ∧ e = { d with reason := 8, value := 0, hasTime := false }

theorem DirJudged_trans {d e f : DirRun} (h1 : DirJudged d e) (h2 : DirJudged e f) : DirJudged d f := by
  obtain rfl | ⟨hpassed, rfl⟩ := h1
  · exact h2
  · obtain rfl | ⟨hfailed, _⟩ := h2
    · exact .inr ⟨hpassed, rfl⟩
    · cases hfailed

theorem DirJudged_lockLost {d e : DirRun} (h : DirJudged d e) : e.lockLost = d.lockLost := by
  obtain rfl | ⟨_, rfl⟩ := h <;> rfl

theorem DirJudged_correlated {d e : DirRun} (h : DirJudged d e) : e.correlated = d.correlated := by
  obtain rfl | ⟨_, rfl⟩ := h <;> rfl

/-- A direction that has failed stands. -/
theorem DirJudged_of_failed {d e : DirRun} (h : DirJudged d e) (hfailed : d.reason ≠ 0) : e = d :=
  h.resolve_right fun hpassed => hfailed hpassed.1

/-- An attempt as its decision leaves it, once or more: its number, and its directions. -/
structure AttemptJudged (a b : Attempt) : Prop where
  number : b.number = a.number
  dir : ∀ up, DirJudged (a.dir up) (b.dir up)

theorem AttemptJudged_refl (a : Attempt) : AttemptJudged a a := ⟨rfl, fun _ => .inl rfl⟩

theorem AttemptJudged_trans {a b c : Attempt} (h1 : AttemptJudged a b) (h2 : AttemptJudged b c) : AttemptJudged a c :=
  ⟨h2.number.trans h1.number, fun up => DirJudged_trans (h1.dir up) (h2.dir up)⟩

/-- Deciding an attempt fails both of its directions where each has passed and no Δt can be formed, and leaves them otherwise. -/
theorem AttemptJudged_judge (gateJump slots : Nat) (dtRef : Option Int) (notAcquired : Bool) (a : Attempt) :
    AttemptJudged a { a.judge gateJump dtRef notAcquired with slots := slots } where
  number := rfl
  dir up := by
    simp only [Attempt.judge]
    split
    case isTrue hunformed =>
      obtain ⟨⟨hup, hdn⟩, _⟩ : (a.up.reason = 0 ∧ a.dn.reason = 0) ∧ _ := by simpa using hunformed
      cases up
      · exact .inr ⟨hdn, rfl⟩
      · exact .inr ⟨hup, rfl⟩
    case isFalse => cases up <;> exact .inl rfl

/-! ### A context settles -/

/-- A context in which the attempt under way may have been decided: the acquisition shot stands. -/
structure CtxSettled (c d : Ctx) : Prop where
  acq : d.acq = c.acq
  current : ∀ a, c.current = some a → ∃ b, d.current = some b ∧ AttemptJudged a b

theorem CtxSettled_refl (c : Ctx) : CtxSettled c c := ⟨rfl, fun a h => ⟨a, h, AttemptJudged_refl a⟩⟩

theorem CtxSettled_trans {c d e : Ctx} (h1 : CtxSettled c d) (h2 : CtxSettled d e) : CtxSettled c e where
  acq := h2.acq.trans h1.acq
  current a ha := by
    obtain ⟨b, hb, hab⟩ := h1.current a ha
    obtain ⟨x, hx, hbx⟩ := h2.current b hb
    exact ⟨x, hx, AttemptJudged_trans hab hbx⟩

/-- What a decided attempt changes of its context beside taking its place leaves the attempts. -/
theorem addScore_attempts (n driftMin score : Nat) (c : Ctx) :
    (c.addScore n driftMin score).1.acq = c.acq ∧ (c.addScore n driftMin score).1.current = c.current := by
  simp only [Ctx.addScore]
  split
  · exact ⟨rfl, rfl⟩
  · split <;> exact ⟨rfl, rfl⟩

theorem decided_attempts (v : View) (n : Nat) (a : Attempt) (c : Ctx) :
    (c.decided v n a).1.acq = c.acq ∧ (c.decided v n a).1.current = some a := by
  simp only [Ctx.decided]
  split
  · exact addScore_attempts _ _ _ _
  · exact ⟨rfl, rfl⟩

/-- The contexts and the frame's plan change, and what counting and events change. -/
def CtxPlanOnly (u t : State) : Prop := CountsOnly { u with frame := t.frame, ac := { u.ac with ctx := t.ac.ctx } } t

theorem CtxPlanOnly_of_CountsOnly {u t : State} (h : CountsOnly u t) : CtxPlanOnly u t := by
  unfold CtxPlanOnly
  rw [h]
  rfl

theorem CtxPlanOnly_trans {u v t : State} (h1 : CtxPlanOnly u v) (h2 : CtxPlanOnly v t) : CtxPlanOnly u t := by
  unfold CtxPlanOnly CountsOnly at h1 h2 ⊢
  rw [h1] at h2
  exact h2

/-- A step that settles contexts among `ns`: the correlator's last end and every other context stand, and beside the contexts and the
frame's plan only what counting and events change differs. -/
structure Settles (ns : List Nat) (u t : State) : Prop where
  outside : CtxPlanOnly u t
  corFree : t.frame.corFree = u.frame.corFree
  others : ∀ n, n ∉ ns → t.ac.ctxAt n = u.ac.ctxAt n
  within : ∀ n, CtxSettled (u.ac.ctxAt n) (t.ac.ctxAt n)

section Settles

variable {ns : List Nat}

theorem Settles_trans {u v t : State} (h1 : Settles ns u v) (h2 : Settles ns v t) : Settles ns u t where
  outside := CtxPlanOnly_trans h1.outside h2.outside
  corFree := h2.corFree.trans h1.corFree
  others n hn := (h2.others n hn).trans (h1.others n hn)
  within n := CtxSettled_trans (h1.within n) (h2.within n)

theorem Settles_of_CountsOnly {u t : State} (h : CountsOnly u t) : Settles ns u t where
  outside := CtxPlanOnly_of_CountsOnly h
  corFree := by rw [h]
  others n _ := by rw [h]
  within n := by rw [h]; exact CtxSettled_refl _

theorem Settles_refl (s : State) : Settles ns s s := Settles_of_CountsOnly (CountsOnly_refl s)

/-- A new plan of the frame. -/
theorem Settles_of_frame (s : State) (f : Frame) (h : f.corFree = s.frame.corFree) : Settles ns s { s with frame := f } where
  outside := rfl
  corFree := h
  others _ _ := rfl
  within _ := CtxSettled_refl _

theorem Settles_modCtx (s : State) {n : Nat} {f : Ctx → Ctx} (hn : n ∈ ns)
    (hf : CtxSettled (s.ac.ctxAt n) (f (s.ac.ctxAt n))) : Settles ns s { s with ac := s.ac.modCtx n f } where
  outside := rfl
  corFree := rfl
  others k hk := ctxAt_modCtx_other s.ac n k f (ne_of_mem_of_not_mem hn hk).symm
  within k := by
    by_cases hk : k = n
    · subst hk
      obtain h | h := ctxAt_modCtx_or s.ac k k f
      · exact h.symm ▸ CtxSettled_refl _
      · exact h.symm ▸ hf
    · exact (ctxAt_modCtx_other s.ac n k f hk).symm ▸ CtxSettled_refl _

theorem Settles_startFlow (s : State) : Settles ns s s.startFlow := by
  obtain ⟨started, at_, h⟩ := startFlow_only s
  rw [h]
  exact Settles_of_frame s _ rfl

theorem request_corFree (f : Frame) (j : DynJob) : (f.request j).corFree = f.corFree := by
  unfold Frame.request
  split <;> rfl

theorem admitChains_corFree {s : State} {sh : Shot} {kind : Nat} {moveFlow : Bool} {f : Frame}
    (h : s.admitChains sh kind moveFlow = some f) : f.corFree = s.frame.corFree := by
  simp only [State.admitChains, Option.ite_none_right_eq_some, Option.some.injEq] at h
  obtain ⟨_, rfl⟩ := h
  rfl

theorem Settles_considerRetry (s : State) (g : Nat) : Settles ns s (s.considerRetry g) := by
  simp only [State.considerRetry]
  split
  · exact Settles_refl s
  · split
    next f hadmitted => exact Settles_of_frame s _ ((admitChains_corFree hadmitted).trans (request_corFree _ _))
    next => exact Settles_of_frame s _ (request_corFree s.frame _)

/-- A failed member may ask for a retry: its attempt stands. -/
theorem Settles_failed (s : State) {n : Nat} (hn : n ∈ ns) : Settles ns s (s.failed n) := by
  simp only [State.failed]
  split
  · exact Settles_refl s
  · exact Settles_trans (Settles_modCtx s hn ⟨rfl, fun a h => ⟨a, h, AttemptJudged_refl a⟩⟩) (Settles_considerRetry _ _)

/-- A decided attempt takes its place in the context, and its events and slots are counted. -/
theorem Settles_decided (s : State) {n : Nat} (hn : n ∈ ns) {a b : Attempt} (acts : List Act)
    (hcur : (s.ac.ctxAt n).current = some a) (hjudged : AttemptJudged a b) :
    Settles ns s ((State.raiseAll ((s.ac.ctxAt n).decided s.eff n b).2
      { s with ac := s.ac.modCtx n fun _ => ((s.ac.ctxAt n).decided s.eff n b).1 }).count acts) := by
  obtain ⟨hacq, hcurrent⟩ := decided_attempts s.eff n b (s.ac.ctxAt n)
  refine Settles_trans (Settles_modCtx s hn ⟨hacq, fun x hx => ⟨b, hcurrent, ?_⟩⟩)
    (Settles_of_CountsOnly (CountsOnly_trans (CountsOnly_raiseAll _ _) (CountsOnly_count _ _)))
  rwa [Option.some.inj (hx.symm.trans hcur)]

/-- Settling a context: its attempt is decided, fails, or waits. -/
theorem Settles_settle (s : State) {n : Nat} (hn : n ∈ ns) : Settles ns s (s.settle n) := by
  simp only [State.settle]
  split
  next => exact Settles_refl s
  next a hcur =>
    split
    · exact Settles_refl s
    · split
      · have hdec := fun acts => Settles_decided s hn acts hcur
          (AttemptJudged_judge (s.eff (ck n 0x16)) 0 (s.ac.ctxAt n).dtRef (s.ac.ctxAt n).acqRequested a)
        split
        · exact hdec _
        · split
          · exact Settles_trans (hdec _) (Settles_failed _ hn)
          · exact hdec _
      · split
        · exact Settles_failed s hn
        · exact Settles_refl s

theorem Settles_foldl_settle (ms : List Nat) (hms : ∀ m ∈ ms, m ∈ ns) (s : State) : Settles ns s (ms.foldl State.settle s) := by
  induction ms generalizing s with
  | nil => exact Settles_refl s
  | cons m ms ih =>
    exact Settles_trans (Settles_settle s (hms m List.mem_cons_self)) (ih (fun k hk => hms k (List.mem_cons_of_mem m hk)) _)

end Settles

theorem Settles_settleAll (s : State) : Settles (List.range 64) s s.settleAll := Settles_foldl_settle _ (fun _ h => h) s

/-! ### The stated time -/

/-- A stated time changes the time of the frame, the pins, the power state and what RTC ticks and counting change. -/
def TimeOnly (u t : State) : Prop :=
  t = { u with
    frame := { u.frame with cyc := t.frame.cyc, done := t.frame.done, ceCyc := t.frame.ceCyc, ceFrom := t.frame.ceFrom }
    ac := { u.ac with hdEnd := t.ac.hdEnd, crossbar := t.ac.crossbar, links := t.ac.links, drives := t.ac.drives }
    pwr := t.pwr, cal := t.cal, acc := t.acc, perf := t.perf, events := t.events, bkLatches := t.bkLatches }

theorem TimeOnly_trans {u v t : State} (h1 : TimeOnly u v) (h2 : TimeOnly v t) : TimeOnly u t := by
  unfold TimeOnly at h1 h2 ⊢
  rw [h1] at h2
  exact h2

theorem TimeOnly_at (s : State) (cyc : Nat) : TimeOnly s (State.settlePins { s with frame := s.frame.at_ cyc }) := by
  obtain ⟨_, _, _, _, _, h⟩ := settlePins_only { s with frame := s.frame.at_ cyc }
  rw [h]
  rfl

theorem TimeOnly_elapse (s : State) : TimeOnly s s.elapse := by
  obtain ⟨_, _, _, _, _, _, _, _, _, _, _, _, _, _, h⟩ := elapse_only s
  rw [h]
  rfl

theorem TimeOnly_toPower (p : PState) (s : State) : TimeOnly s (s.toPower p) := by
  refine TimeOnly_trans (TimeOnly_elapse s) ?_
  simp only [State.toPower]
  split <;> rfl

theorem TimeOnly_leaveWick (source : Nat) (s : State) : TimeOnly s (s.leaveWick source) := by
  simp only [State.leaveWick]
  split
  · exact TimeOnly_trans (TimeOnly_toPower .run s) rfl
  · rfl

theorem TimeOnly_atCyc (s : State) (cyc : Nat) : TimeOnly s (s.atCyc cyc) := by
  refine TimeOnly_trans (TimeOnly_at s cyc) ?_
  simp only [State.atCyc]
  split
  · exact TimeOnly_toPower .run _
  · exact TimeOnly_leaveWick _ _

@[simp] theorem atCyc_sen (s : State) (cyc : Nat) : (s.atCyc cyc).sen = s.sen := by rw [TimeOnly_atCyc s cyc]

@[simp] theorem atCyc_q (s : State) (cyc : Nat) : (s.atCyc cyc).q = s.q := by rw [TimeOnly_atCyc s cyc]

@[simp] theorem atCyc_waves (s : State) (cyc : Nat) : (s.atCyc cyc).ac.waves = s.ac.waves := by rw [TimeOnly_atCyc s cyc]

@[simp] theorem atCyc_frame_number (s : State) (cyc : Nat) : (s.atCyc cyc).frame.number = s.frame.number := by
  rw [TimeOnly_atCyc s cyc]

end Sys2Proof.Proofs
end

section
/-! PROOF. The searches of the correlator (R183 to R187) and the copies of captures (R198, R199) complete. -/

namespace Sys2Proof.Proofs

open Sys2Proof Sys2Proof.Machine Sys2Proof.Laws

/-! ### A tracking correlation (R184) -/

/-- Whatever the search finds, the direction has been correlated. -/
theorem correlate_correlated (f : FuseIn) (capture : List Int) (lags : List Nat) (d : DirRun) :
    (d.correlate f capture lags).correlated = true := by
  simp only [DirRun.correlate]
  repeat' split
  all_goals rfl

/-- Without a closed direction that waits for its correlation only the time moves. -/
theorem correlationComplete_of_none (n : Nat) (up : Bool) (cyc : Nat) (s : State)
    (h : (s.ac.ctxAt n).current = none ∨ ∃ a, (s.ac.ctxAt n).current = some a ∧
      ((a.dir up).closed = false ∨ (a.dir up).correlated = true ∨ (a.dir up).reason ≠ 0)) :
    correlationComplete n up cyc s = s.atCyc cyc := by
  obtain hnone | ⟨a, hcur, hidle⟩ := h
  · simp only [correlationComplete, atCyc_ctxAt, hnone]
  · have hidle' : (!(a.dir up).closed || (a.dir up).correlated || (a.dir up).reason != 0) = true := by simpa [or_assoc] using hidle
    simp only [correlationComplete, atCyc_ctxAt, hcur, hidle', if_true]

/-- A direction that waits is correlated in its context, and what follows counts, settles the context and may start the flow
computation. -/
theorem correlationComplete_eq (n : Nat) (up : Bool) (cyc : Nat) (s u : State) (a : Attempt)
    (hcur : (s.ac.ctxAt n).current = some a) (hclosed : (a.dir up).closed = true) (hwaits : (a.dir up).correlated = false)
    (hpassed : (a.dir up).reason = 0) (hu : u = s.atCyc cyc) :
    ∃ (d : DirRun) (k : Nat) (f : Frame) (acts : List Act), d.correlated = true ∧ f.corFree = u.frame.cyc ∧
      correlationComplete n up cyc s =
        (((State.count acts { u with
          frame := f
          ac := u.ac.modCtx n (Ctx.modAttempt false fun b => { b.setDir up d with slots := b.slots + k }) }).settle n).startFlow) := by
  have hcur' : (u.ac.ctxAt n).current = some a := by rw [hu, atCyc_ctxAt, hcur]
  simp only [correlationComplete, ← hu, hcur', hclosed, hwaits, hpassed, Bool.not_true, Bool.or_self, bne_self_eq_false,
    Bool.false_eq_true, if_false]
  refine ⟨_, _, _, _, ?_, ?_, rfl⟩
  · exact correlate_correlated _ _ _ _
  · rfl

/-- CORRELATION_COMPLETE of a direction that waits. -/
theorem correlationComplete_does (n : Nat) (up : Bool) (cyc : Nat) (s u : State) (a : Attempt) (hn : n < s.ac.ctx.length)
    (hcur : (s.ac.ctxAt n).current = some a) (hclosed : (a.dir up).closed = true) (hwaits : (a.dir up).correlated = false)
    (hpassed : (a.dir up).reason = 0) (hu : u = s.atCyc cyc) :
    Does (.correlationComplete n up cyc) s fun t =>
      (∃ b, (t.ac.ctxAt n).current = some b ∧ (b.dir up).correlated = true ∧ b.number = a.number) ∧
      t.frame.corFree = u.frame.cyc ∧
      (∀ m, m ≠ n → (t.ac.ctxAt m).current = (s.ac.ctxAt m).current) ∧
      CountsOnly { u with frame := t.frame, ac := { u.ac with ctx := t.ac.ctx } } t := by
  obtain ⟨d, k, f, acts, hcor, hfree, heq⟩ := correlationComplete_eq n up cyc s u a hcur hclosed hwaits hpassed hu
  have hctxAt : ∀ m, u.ac.ctxAt m = s.ac.ctxAt m := fun m => by rw [hu, atCyc_ctxAt]
  have hn' : n < u.ac.ctx.length := by rwa [hu, atCyc_ctx]
  have hsettles : Settles [n] _ (correlationComplete n up cyc s) := heq ▸ Settles_trans
    (Settles_of_CountsOnly (CountsOnly_count acts _)) (Settles_trans (Settles_settle _ List.mem_cons_self) (Settles_startFlow _))
  refine ⟨correlationComplete n up cyc s, rfl, ?_, hsettles.corFree.trans hfree, fun m hm => ?_,
    CtxPlanOnly_trans (v := { u with frame := f, ac := u.ac.modCtx n _ }) rfl hsettles.outside⟩
  · obtain ⟨b, hb, hnumber, hdir⟩ := (hsettles.within n).current { a.setDir up d with slots := a.slots + k } (by
      rw [ctxAt_modCtx_same _ _ _ hn', hctxAt]
      exact congrArg (Option.map _) hcur)
    refine ⟨b, hb, ?_, hnumber.trans (by cases up <;> rfl)⟩
    rw [DirJudged_correlated (hdir up)]
    exact (congrArg DirRun.correlated (dir_setDir_same up d a)).trans hcor
  · rw [hsettles.others m (by simpa using hm), ctxAt_modCtx_other _ _ _ _ hm, hctxAt]

/-! ### An acquisition search (R185) -/

/-- A context that an acquisition search has served: with the centres of the signal that it found in both directions, or without. -/
def searched (found : Option (Nat × Nat)) (c : Ctx) : Ctx :=
  match found with
  | some lags => { c with acq := none, centreUp := lags.1, centreDn := lags.2, everFound := true, acqRequested := false }
  | none => { c with acq := none, everFound := false }

/-- An acquisition shot with both windows closed is searched: a direction that failed an early gate is not found. -/
theorem acquisitionSearchComplete_eq (n cyc : Nat) (s u : State) (a : Attempt) (hacq : (s.ac.ctxAt n).acq = some a)
    (hup : a.up.closed = true) (hdn : a.dn.closed = true) (hu : u = s.atCyc cyc) :
    ∃ (found : Option (Nat × Nat)) (slots : List Nat) (acts : List Act),
      (a.up.reason ≠ 0 ∨ a.dn.reason ≠ 0 → found = none) ∧
      acquisitionSearchComplete n cyc s = State.count acts { u with
        frame := { u.frame with workSlots := slots, corFree := u.frame.cyc }, ac := u.ac.modCtx n (searched found) } := by
  have hacq' : (u.ac.ctxAt n).acq = some a := by rw [hu, atCyc_ctxAt, hacq]
  simp only [acquisitionSearchComplete, ← hu, hacq', hup, hdn, Bool.not_true, Bool.or_self, Bool.false_eq_true, if_false]
  generalize hx : (if (a.up.reason != 0) = true then a.up else _) = x
  generalize hy : (if (a.dn.reason != 0) = true then a.dn else _) = y
  by_cases hok : (x.reason == 0 && y.reason == 0) = true
  · refine ⟨some (x.lag, y.lag), _, _, fun hfailed => ?_, by simp only [hok, if_true]; rfl⟩
    obtain ⟨hxok, hyok⟩ : x.reason = 0 ∧ y.reason = 0 := by simpa using hok
    obtain hbad | hbad := hfailed
    · exact absurd ((if_pos (bne_iff_ne.2 hbad)).symm.trans hx ▸ hxok) hbad
    · exact absurd ((if_pos (bne_iff_ne.2 hbad)).symm.trans hy ▸ hyok) hbad
  · exact ⟨none, _, _, fun _ => rfl, by simp only [hok, Bool.false_eq_true, if_false]; rfl⟩

/-- ACQUISITION_SEARCH_COMPLETE of an acquisition shot with both windows closed. -/
theorem acquisitionSearchComplete_does (n cyc : Nat) (a : Attempt) (s u : State) (hn : n < s.ac.ctx.length)
    (hacq : (s.ac.ctxAt n).acq = some a) (hup : a.up.closed = true) (hdn : a.dn.closed = true) (hu : u = s.atCyc cyc) :
    Does (.acquisitionSearchComplete n cyc) s fun t =>
      (t.ac.ctxAt n).acq = none ∧ (t.ac.ctxAt n).current = (s.ac.ctxAt n).current ∧
      ((t.ac.ctxAt n).everFound = true → (t.ac.ctxAt n).acqRequested = false) ∧
      ((t.ac.ctxAt n).everFound = false → (t.ac.ctxAt n).acqRequested = (s.ac.ctxAt n).acqRequested) ∧
      (a.up.reason ≠ 0 ∨ a.dn.reason ≠ 0 → (t.ac.ctxAt n).everFound = false) ∧
      (∀ m, m ≠ n → t.ac.ctxAt m = s.ac.ctxAt m) ∧
      CountsOnly { u with
        frame := { u.frame with workSlots := t.frame.workSlots, corFree := u.frame.cyc }, ac := { u.ac with ctx := t.ac.ctx } } t := by
  obtain ⟨found, slots, acts, hfailed, heq⟩ := acquisitionSearchComplete_eq n cyc s u a hacq hup hdn hu
  have hctxAt : ∀ m, u.ac.ctxAt m = s.ac.ctxAt m := fun m => by rw [hu, atCyc_ctxAt]
  have hn' : n < u.ac.ctx.length := by rwa [hu, atCyc_ctx]
  have hserved : (u.ac.modCtx n (searched found)).ctxAt n = searched found (s.ac.ctxAt n) := by
    rw [ctxAt_modCtx_same _ _ _ hn', hctxAt]
  refine ⟨acquisitionSearchComplete n cyc s, rfl, ?_⟩
  simp only [heq, count_ac, count_frame, hserved]
  refine ⟨?_, ?_, ?_, ?_, fun hbad => congrArg (fun x => (searched x _).everFound) (hfailed hbad),
    fun m hm => (ctxAt_modCtx_other _ _ _ _ hm).trans (hctxAt m), CountsOnly_count _ _⟩
  all_goals cases found <;> simp [searched]

/-! ### The copy of a capture (R198, R199) -/

/-- Without an admitted copy of the capture only the time moves. -/
theorem waveformCopyComplete_of_none (n : Nat) (up : Bool) (cyc : Nat) (s : State)
    (h : ∀ w ∈ s.ac.waves, w.ctx ≠ n ∨ w.up ≠ up) :
    waveformCopyComplete n up cyc s = s.atCyc cyc := by
  have hnone : (s.ac.waves.find? fun w => w.ctx == n && w.up == up) = none := by
    rw [List.find?_eq_none]
    intro w hw hmatch
    obtain ⟨hctx, hup⟩ : w.ctx = n ∧ w.up = up := by simpa using hmatch
    exact (h w hw).elim (· hctx) (· hup)
  simp only [waveformCopyComplete, atCyc_waves, hnone]

/-- An admitted copy is over, and the record of the capture that it names is offered to the queues. -/
theorem waveformCopyComplete_of_some (n : Nat) (up : Bool) (cyc : Nat) (s u : State)
    (h : ∃ w ∈ s.ac.waves, w.ctx = n ∧ w.up = up) (hu : u = s.atCyc cyc) :
    ∃ w : WaveCopy, waveformCopyComplete n up cyc s = State.emit (waveRecord u.eff n u.frame.number up w.samples w.dir) { u with
      frame := { u.frame.finish (waveJob n up) with corFree := u.frame.cyc }
      ac := { u.ac with waves := u.ac.waves.filter fun x => x.ctx != n || x.up != up } } := by
  have hsome : (u.ac.waves.find? fun w => w.ctx == n && w.up == up).isSome = true := by
    rw [hu, atCyc_waves, List.find?_isSome]
    simpa using h
  obtain ⟨w, hw⟩ := Option.isSome_iff_exists.1 hsome
  exact ⟨w, by simp only [waveformCopyComplete, ← hu, hw]⟩

/-- WAVEFORM_COPY_COMPLETE of an admitted copy. -/
theorem waveformCopyComplete_does (n : Nat) (up : Bool) (cyc : Nat) (s u : State)
    (h : ∃ w ∈ s.ac.waves, w.ctx = n ∧ w.up = up) (hu : u = s.atCyc cyc) :
    Does (.waveformCopyComplete n up cyc) s fun t =>
      t = { u with
        frame := { u.frame.finish (waveJob n up) with corFree := u.frame.cyc }
        ac := { u.ac with waves := s.ac.waves.filter fun x => x.ctx != n || x.up != up }, q := t.q } ∧
      ∃ r : Record, r.type = 9 ∧ r.cls = 2 ∧ r.src = n ∧ r.frame = s.frame.number % 65536 ∧
        t.q = ((s.q.resultHost (s.on_ 0x1810 1) true r).resultCore (s.on_ 0x1D01 4) r) := by
  obtain ⟨w, heq⟩ := waveformCopyComplete_of_some n up cyc s u h hu
  have hwaves : u.ac.waves = s.ac.waves := by rw [hu, atCyc_waves]
  have hq : u.q = s.q := by rw [hu, atCyc_q]
  have heff : u.eff = s.eff := by rw [hu, atCyc_eff]
  have hnumber : u.frame.number = s.frame.number := by rw [hu, atCyc_frame_number]
  refine ⟨waveformCopyComplete n up cyc s, rfl, ?_, waveRecord u.eff n u.frame.number up w.samples w.dir, rfl, rfl, rfl, ?_, ?_⟩
  · rw [heq, hwaves]
    rfl
  · rw [hnumber]
    rfl
  · simp only [heq, ← hq, State.on_, ← heff]
    rfl

/-- Settles O12: a correlated direction stays so while its context settles (`Settles`), a search serves one context, and a copy is
taken from those admitted as its record is emitted. -/
theorem searchesAndCopiesComplete : Obligations.SearchesAndCopiesComplete := by
  unfold Obligations.SearchesAndCopiesComplete
  refine ⟨fun n cyc up s u hu => ⟨fun hnone => ?_, fun a hn hlen hcur hclosed hwaits hpassed => ?_⟩,
    fun n cyc a s u hn hlen hacq hup hdn hu => ?_, fun n cyc up s u hu => ⟨fun hnone => ?_, fun hsome => ?_⟩⟩
  · exact congrArg Host.Outcome.next ((correlationComplete_of_none n up cyc s hnone).trans hu.symm)
  · exact correlationComplete_does n up cyc s u a (hlen ▸ hn) hcur hclosed hwaits hpassed hu
  · exact acquisitionSearchComplete_does n cyc a s u (hlen ▸ hn) hacq hup hdn hu
  · exact congrArg Host.Outcome.next ((waveformCopyComplete_of_none n up cyc s hnone).trans hu.symm)
  · exact waveformCopyComplete_does n up cyc s u hsome hu

end Sys2Proof.Proofs
end

section
/-! PROOF. A loss of lock (R195, R248): the attempts of the shots in flight, and the discharge under way. -/

namespace Sys2Proof.Proofs

open Sys2Proof Sys2Proof.Machine Sys2Proof.Laws

/-! ### An attempt loses lock -/

theorem loseLock_loseLock (d : DirRun) : d.loseLock.loseLock = d.loseLock := by
  cases hpassed : d.closed && d.correlated && d.reason == 0
  · simp [DirRun.loseLock, hpassed]
  · simp [DirRun.loseLock, hpassed]

/-- Losing lock twice is losing it once. -/
theorem Attempt_loseLock_loseLock (a : Attempt) : a.loseLock.loseLock = a.loseLock := by
  simp only [Attempt.loseLock, loseLock_loseLock]

theorem dir_loseLock (up : Bool) (a : Attempt) : a.loseLock.dir up = (a.dir up).loseLock := by
  cases up <;> rfl

/-- Every direction of an attempt that lost lock stays marked once it is decided, and one that had passed fails with FUSION, without a
time. -/
theorem judged_loseLock {a b : Attempt} (h : AttemptJudged a.loseLock b) (up : Bool) :
    (b.dir up).lockLost = true ∧
      ((a.dir up).closed = true → (a.dir up).correlated = true → (a.dir up).reason = 0 →
        (b.dir up).reason = 8 ∧ (b.dir up).hasTime = false) := by
  have hdir := h.dir up
  rw [dir_loseLock] at hdir
  refine ⟨DirJudged_lockLost hdir, fun hclosed hcor hpassed => ?_⟩
  have hfailed : (a.dir up).loseLock.reason = 8 := by simp [DirRun.loseLock, hclosed, hcor, hpassed]
  rw [DirJudged_of_failed hdir (by simp [hfailed])]
  exact ⟨hfailed, rfl⟩

/-! ### The contexts of the shots in flight -/

/-- A shot of some kind fires the attempt under way, or the acquisition shot, and that loses lock with it. -/
theorem attempt_ctxLoseLock (kind : Nat) (acq : Bool) (c : Ctx) :
    (c.loseLock kind).attempt acq = if (kind == 4) = acq then (c.attempt acq).map Attempt.loseLock else c.attempt acq := by
  by_cases hkind : kind = 4
  · cases acq <;> simp [Ctx.loseLock, Ctx.attempt, hkind]
  · cases acq <;> simp [Ctx.loseLock, Ctx.attempt, hkind]

/-- A context loses lock with each of some shots, given by their kinds. -/
def loseLocks (kinds : List Nat) (c : Ctx) : Ctx := kinds.foldl (fun x kind => x.loseLock kind) c

/-- An attempt loses lock where one of the shots is of its kind. -/
theorem attempt_loseLocks (kinds : List Nat) (acq : Bool) (c : Ctx) :
    (loseLocks kinds c).attempt acq =
      if (kinds.any fun kind => (kind == 4) == acq) then (c.attempt acq).map Attempt.loseLock else c.attempt acq := by
  induction kinds generalizing c with
  | nil => rfl
  | cons kind kinds ih =>
    have htwice : Attempt.loseLock ∘ Attempt.loseLock = Attempt.loseLock := funext Attempt_loseLock_loseLock
    refine (ih (c.loseLock kind)).trans ?_
    rw [attempt_ctxLoseLock, List.any_cons]
    by_cases hkind : (kind == 4) = acq
    · simp [hkind, htwice]
    · simp [hkind]

/-- The kinds of the shots in flight that fire a context, once for each place that it has among their members. -/
def lockLostKinds (a : Acoustic) (n : Nat) : List Nat :=
  (a.flight.filter fun f => !f.held).flatMap fun f => (f.members.filter fun m => m == n).map fun _ => f.kind

theorem mem_lockLostKinds (a : Acoustic) (n kind : Nat) :
    kind ∈ lockLostKinds a n ↔ ∃ f ∈ a.flight, f.held = false ∧ n ∈ f.members ∧ f.kind = kind := by
  simp [lockLostKinds, and_assoc, eq_comm (a := kind)]

/-- The members of one shot lose lock. -/
theorem ctxAt_foldl_members (ms : List Nat) (kind : Nat) (a : Acoustic) (n : Nat) (hn : n < a.ctx.length) :
    n < (ms.foldl (fun y m => y.modCtx m (Ctx.loseLock kind)) a).ctx.length ∧
    (ms.foldl (fun y m => y.modCtx m (Ctx.loseLock kind)) a).ctxAt n =
      loseLocks ((ms.filter fun m => m == n).map fun _ => kind) (a.ctxAt n) := by
  induction ms generalizing a with
  | nil => exact ⟨hn, rfl⟩
  | cons m ms ih =>
    obtain ⟨hlen, hctx⟩ := ih (a.modCtx m (Ctx.loseLock kind)) ((modAt_length a.ctx m _).symm ▸ hn)
    refine ⟨hlen, hctx.trans ?_⟩
    by_cases hm : m = n
    · subst hm
      simp [ctxAt_modCtx_same _ _ _ hn, loseLocks]
    · simp [ctxAt_modCtx_other _ _ _ _ (Ne.symm hm), hm]

/-- A context loses lock with every shot in flight that fires it. -/
theorem ctxAt_foldl_flights (fs : List Flight) (a : Acoustic) (n : Nat) (hn : n < a.ctx.length) :
    (fs.foldl (fun x f => f.members.foldl (fun y m => y.modCtx m (Ctx.loseLock f.kind)) x) a).ctxAt n =
      loseLocks (fs.flatMap fun f => (f.members.filter fun m => m == n).map fun _ => f.kind) (a.ctxAt n) := by
  induction fs generalizing a with
  | nil => rfl
  | cons f fs ih =>
    obtain ⟨hlen, hctx⟩ := ctxAt_foldl_members f.members f.kind a n hn
    refine (ih _ hlen).trans ?_
    rw [hctx, List.flatMap_cons]
    exact List.foldl_append.symm

theorem ctxAt_loseLock (pll : Bool) (a : Acoustic) (n : Nat) (hn : n < a.ctx.length) :
    (a.loseLock pll).ctxAt n = loseLocks (lockLostKinds a n) (a.ctxAt n) :=
  ctxAt_foldl_flights (a.flight.filter fun f => !f.held) a n hn

/-! ### PLL_LOCK_LOST -/

/-- The state in which the shots in flight have lost lock and their attempts are decided anew. -/
def lockLostBy (pll : Bool) (u : State) : State := State.settleAll { u with ac := u.ac.loseLock pll }

/-- The attempts settle after the loss of lock. -/
theorem lockLostBy_settles (pll : Bool) (u : State) :
    Settles (List.range 64) { u with ac := u.ac.loseLock pll } (lockLostBy pll u) := Settles_settleAll _

/-- Beside the frame's plan and the acoustic blocks, a loss of lock changes what counting and events change. -/
theorem lockLostBy_planOnly (pll : Bool) (u : State) : PlanOnly u (lockLostBy pll u) := by
  have h := (lockLostBy_settles pll u).outside
  unfold PlanOnly CtxPlanOnly CountsOnly at *
  rw [h]

theorem lockLostBy_sen (pll : Bool) (u : State) : (lockLostBy pll u).sen = u.sen := by
  rw [lockLostBy_planOnly pll u]

theorem lockLostBy_atCyc_sen (pll : Bool) (s : State) (cyc : Nat) : (lockLostBy pll (s.atCyc cyc)).sen = s.sen := by
  rw [lockLostBy_sen, atCyc_sen]

/-- The shots in flight lose lock, and then the discharge under way of a sensor job fails with code 6. -/
theorem pllLockLost_eq (cyc : Nat) (pll : Bool) (cal : CalReading) (s : State) :
    pllLockLost cyc pll cal s =
      s.sen.job.elim (lockLostBy pll (s.atCyc cyc)) fun j => (lockLostBy pll (s.atCyc cyc)).nextDischarge 6 0 cal j := by
  rw [← lockLostBy_atCyc_sen pll s cyc]
  unfold pllLockLost lockLostBy
  dsimp only
  generalize State.settleAll _ = v
  cases v.sen.job <;> rfl

/-! ### The shots in flight -/

/-- An attempt of a shot in flight loses lock. -/
theorem lockLost_of_flight (pll : Bool) (acq : Bool) {u : State} {n : Nat} {f : Flight} (hn : n < u.ac.ctx.length)
    (hf : f ∈ u.ac.flight) (hheld : f.held = false) (hmem : n ∈ f.members) (hkind : (f.kind == 4) = acq) :
    ((u.ac.loseLock pll).ctxAt n).attempt acq = ((u.ac.ctxAt n).attempt acq).map Attempt.loseLock := by
  rw [ctxAt_loseLock pll _ _ hn, attempt_loseLocks, if_pos]
  exact List.any_eq_true.2 ⟨f.kind, (mem_lockLostKinds _ _ _).2 ⟨f, hf, hheld, hmem, rfl⟩, beq_iff_eq.2 hkind⟩

/-- A context that no shot in flight fires keeps lock. -/
theorem lockKept_of_no_flight (pll : Bool) {u : State} {n : Nat} (hn : n < u.ac.ctx.length)
    (h : ∀ f ∈ u.ac.flight, f.held = true ∨ n ∉ f.members) : (u.ac.loseLock pll).ctxAt n = u.ac.ctxAt n := by
  have hnone : lockLostKinds u.ac n = [] := by
    refine List.eq_nil_iff_forall_not_mem.2 fun kind hkind => ?_
    obtain ⟨f, hf, hheld, hmem, _⟩ := (mem_lockLostKinds _ _ _).1 hkind
    obtain hheld' | hmem' := h f hf
    · simp [hheld] at hheld'
    · exact hmem' hmem
  rw [ctxAt_loseLock pll _ _ hn, hnone]
  rfl

/-- PLL_LOCK_LOST without a sensor job. -/
theorem pllLockLost_of_no_job_does (cyc n : Nat) (pll : Bool) (cal : CalReading) (s u : State) (hn : n < s.ac.ctx.length)
    (hjob : s.sen.job = none) (hu : u = s.atCyc cyc) :
    Does (.pllLockLost cyc pll cal) s fun t =>
      (∀ (f : Flight) (a : Attempt), f ∈ s.ac.flight → f.held = false → n ∈ f.members → f.kind ≠ 4 →
        (s.ac.ctxAt n).current = some a → ∃ b, (t.ac.ctxAt n).current = some b ∧ b.number = a.number ∧
          ∀ up : Bool, (b.dir up).lockLost = true ∧
            ((a.dir up).closed = true → (a.dir up).correlated = true → (a.dir up).reason = 0 →
              (b.dir up).reason = 8 ∧ (b.dir up).hasTime = false)) ∧
      (∀ (f : Flight) (a : Attempt), f ∈ s.ac.flight → f.held = false → n ∈ f.members → f.kind = 4 →
        (s.ac.ctxAt n).acq = some a → ∃ b, (t.ac.ctxAt n).acq = some b ∧ ∀ up : Bool, (b.dir up).lockLost = true) ∧
      (∀ a : Attempt, (∀ f ∈ s.ac.flight, f.held = true ∨ n ∉ f.members) → (s.ac.ctxAt n).current = some a →
        ∃ b, (t.ac.ctxAt n).current = some b ∧ ∀ up : Bool, (b.dir up).lockLost = (a.dir up).lockLost) ∧
      CountsOnly { u with frame := t.frame, ac := t.ac } t := by
  have hflight : u.ac.flight = s.ac.flight := by rw [hu, atCyc_flight]
  have hctxAt : u.ac.ctxAt n = s.ac.ctxAt n := by rw [hu, atCyc_ctxAt]
  have hn' : n < u.ac.ctx.length := by rwa [hu, atCyc_ctx]
  obtain ⟨hacq, hcurrent⟩ := (lockLostBy_settles pll u).within n
  refine ⟨lockLostBy pll u, congrArg Host.Outcome.next (by rw [pllLockLost_eq, hjob, hu, Option.elim_none]), ?_⟩
  rw [← hflight, ← hctxAt]
  refine ⟨fun f a hf hheld hmem hkind hcur => ?_, fun f a hf hheld hmem hkind hshot => ?_, fun a hnone hcur => ?_,
    lockLostBy_planOnly pll u⟩
  · have hlost := lockLost_of_flight pll false hn' hf hheld hmem (by simpa using hkind)
    obtain ⟨b, hb, hjudged⟩ := hcurrent a.loseLock (hlost.trans (congrArg (Option.map Attempt.loseLock) hcur))
    exact ⟨b, hb, hjudged.number, judged_loseLock hjudged⟩
  · have hlost := lockLost_of_flight pll true hn' hf hheld hmem (by simpa using hkind)
    exact ⟨a.loseLock, hacq.trans (hlost.trans (congrArg (Option.map Attempt.loseLock) hshot)),
      fun up => (judged_loseLock (AttemptJudged_refl _) up).1⟩
  · obtain ⟨b, hb, hjudged⟩ := hcurrent a ((congrArg Ctx.current (lockKept_of_no_flight pll hn' hnone)).trans hcur)
    exact ⟨b, hb, fun up => DirJudged_lockLost (hjudged.dir up)⟩

/-! ### The discharge under way (R244, R248) -/

/-- A value whose measurement was faulty: it takes the code, and its last fault-free value stays. -/
def faulted (code : Nat) (v : Sensed) : Sensed :=
  { v with code := code, run := v.run + 1, armed := false, measured := true, updated := true }

/-- The sensors after a faulty measurement of a value. -/
def withFault (i code : Nat) (x : Sensors) : Sensors :=
  { x with vals := modAt x.vals i (faulted code), faults := min (2 ^ 32 - 1) (x.faults + 1) }

theorem CountsOnly_raiseIf (c : Bool) (e : Raised) (s : State) : CountsOnly s (s.raiseIf c e) := by
  obtain ⟨_, _, _, _, _, h⟩ := raiseIf_only c e s
  rw [h]
  rfl

/-- A faulty measurement changes its value and the count of faults, and may raise an event. -/
theorem sensorFails_only (i code : Nat) (quiet : Bool) (e : Raised) (s : State) :
    CountsOnly { s with sen := withFault i code s.sen } (s.sensorFails i code quiet e) :=
  CountsOnly_raiseIf ((s.sen.val i).armed && !quiet) e { s with sen := withFault i code s.sen }

/-- A port that fails as the last of its job ends the job. -/
theorem nextDischarge_of_last {code t i : Nat} (cal : CalReading) {j : SensorJob} (s : State) (hcode : code ≠ 0)
    (hport : j.current = some i) (hlast : j.left = []) :
    CountsOnly { s with sen := { withFault i code s.sen with job := none } } (s.nextDischarge code t cal j) := by
  have hfails := sensorFails_only i code false (sensorFault i code 0) s
  have hover : s.nextDischarge code t cal j =
      { s.sensorFails i code false (sensorFault i code 0) with
        sen := { (s.sensorFails i code false (sensorFault i code 0)).sen with job := none } } := by
    simp only [State.nextDischarge, State.discharged, hport, bne_iff_ne.2 hcode, if_true, SensorJob.next, hlast, Option.isSome_none,
      Bool.false_eq_true, if_false]
  rw [hover, hfails]
  rfl

/-- A step of the frame's plan and the acoustic blocks, and then one of the sensors. -/
theorem CountsOnly_of_PlanOnly_sen {u v t : State} {x : Sensors} (h1 : PlanOnly u v) (h2 : CountsOnly { v with sen := x } t) :
    CountsOnly { u with frame := t.frame, ac := t.ac, sen := x } t := by
  unfold PlanOnly CountsOnly at h1
  unfold CountsOnly at h2 ⊢
  rw [h1] at h2
  rw [h2]

/-- PLL_LOCK_LOST while a job measures its last port. -/
theorem pllLockLost_of_last_does (cyc i : Nat) (pll : Bool) (cal : CalReading) (j : SensorJob) (v : Sensed) (s u : State)
    (hjob : s.sen.job = some j) (hport : j.current = some i) (hlast : j.left = []) (hval : s.sen.vals[i]? = some v)
    (hu : u = s.atCyc cyc) :
    Does (.pllLockLost cyc pll cal) s fun t =>
      t.sen.job = none ∧ t.sen.faults = min (2 ^ 32 - 1) (s.sen.faults + 1) ∧
      t.sen.vals[i]? = some { v with code := 6, run := v.run + 1, armed := false, measured := true, updated := true } ∧
      (∀ k, k ≠ i → t.sen.vals[k]? = s.sen.vals[k]?) ∧
      CountsOnly { u with frame := t.frame, ac := t.ac
                          sen := { s.sen with job := none, faults := t.sen.faults, vals := t.sen.vals } } t := by
  have hsen : (lockLostBy pll u).sen = s.sen := by rw [lockLostBy_sen, hu, atCyc_sen]
  have hfails := nextDischarge_of_last (t := 0) cal (lockLostBy pll u) (by decide : (6 : Nat) ≠ 0) hport hlast
  rw [hsen] at hfails
  have hsen' : ((lockLostBy pll u).nextDischarge 6 0 cal j).sen = { withFault i 6 s.sen with job := none } := by rw [hfails]
  refine ⟨(lockLostBy pll u).nextDischarge 6 0 cal j,
    congrArg Host.Outcome.next (by rw [pllLockLost_eq, hjob, hu, Option.elim_some]), ?_⟩
  simp only [hsen']
  exact ⟨trivial, rfl, modAt_getElem?_same _ hval, fun k hk => modAt_getElem?_other _ _ hk,
    CountsOnly_of_PlanOnly_sen (lockLostBy_planOnly pll u) hfails⟩

/-- Settles O14: a shot in flight marks both directions of each member (`ctxAt_loseLock`), and deciding the attempts anew keeps the
marks and the failures (`AttemptJudged`). -/
theorem aDirectionMeasuredWithoutLockFails : Obligations.ADirectionMeasuredWithoutLockFails := by
  unfold Obligations.ADirectionMeasuredWithoutLockFails
  exact ⟨fun cyc n pll cal s u hn hlen hjob hu => pllLockLost_of_no_job_does cyc n pll cal s u (hlen ▸ hn) hjob hu,
    pllLockLost_of_last_does⟩

end Sys2Proof.Proofs
end

section
/-! PROOF. The HF crystal starts, fails and is retried; a forced fallback to the HF RC (R195, R208 to R210, R215, R221, R222, R224). -/

namespace Sys2Proof.Proofs

open Sys2Proof Sys2Proof.Machine Sys2Proof.Laws

/-! ### The stated time -/

@[simp] theorem atCyc_mode (s : State) (cyc : Nat) : (s.atCyc cyc).mode = s.mode := by rw [TimeOnly_atCyc s cyc]

@[simp] theorem atCyc_on_ (s : State) (cyc index sub : Nat) : (s.atCyc cyc).on_ index sub = s.on_ index sub := by
  simp only [State.on_, atCyc_eff]

/-! ### The rest of the frame is laid anew from a time on (R85) -/

theorem Restores_clk {u t : State} (h : Restores u t) : t.clk = u.clk := by rw [h.outside]

theorem Restores_lock {u t : State} (h : Restores u t) :
    t.ac.pllLocked = u.ac.pllLocked ∧ t.ac.dllLocked = u.ac.dllLocked := by
  rw [h.outside]
  exact ⟨rfl, rfl⟩

theorem le_shotStart (pl : Placement) (sh : Shot) : pl.ac ≤ shotStart pl sh :=
  List.foldlRecOn (motive := fun m => pl.ac ≤ m) sh.chains _ le_rfl fun _ h _ _ => h.trans (le_max_left _ _)

/-- Placing correlations moves no end of a shot. -/
theorem foldl_correlate_ac {α : Type} (due cost : α → Nat) (tracking : α → Bool) (chains : α → List Nat) (l : List α) (pl : Placement) :
    (l.foldl (fun q x => q.correlate (due x) (cost x) (tracking x) (chains x)) pl).ac = pl.ac := by
  induction l generalizing pl with
  | nil => rfl
  | cons x xs ih => exact ih _

/-- The placement of the rest of the frame begins no earlier than the time from which its chains are free. -/
theorem le_workStart (s : State) (t0 : Nat) : t0 ≤ (s.workStart t0).ac := by
  refine List.foldlRecOn (motive := fun q : Placement => t0 ≤ q.ac) _ _ ?_ fun pl h f _ => ?_
  · rw [foldl_correlate_ac]
    exact le_max_left t0 (us 60)
  · simp only [foldl_correlate_ac]
    exact h.trans (le_max_left _ _)

/-- No shot is laid before the placement it is laid after. -/
theorem le_start_of_mem_layShots (s : State) (pl : Placement) (ps : List Planned) :
    ∀ p ∈ (s.layShots pl ps).2, pl.ac ≤ p.start := by
  induction ps generalizing pl with
  | nil => exact nofun
  | cons p ps ih =>
    have hstart : pl.ac ≤ max p.start (shotStart pl (s.plannedShot p)) := (le_shotStart pl _).trans (le_max_right _ _)
    intro q hq
    obtain rfl | hq := List.mem_cons.1 hq
    · exact hstart
    · have hplaced := (le_shotStart { pl with ac := max p.start (shotStart pl (s.plannedShot p)) } (s.plannedShot p)).trans
        (Nat.le_add_right _ (s.plannedShot p).len)
      exact (hstart.trans hplaced).trans (ih _ q hq)

/-- Every planned shot of a restored frame starts once the chains are free. -/
theorem le_start_of_mem_restore (s : State) (cause t0 : Nat) : ∀ p ∈ (s.restore cause t0).frame.planned, t0 ≤ p.start := by
  unfold State.restore
  extract_lets now live deferred s1 gv s2 laid s3
  obtain ⟨started, at_, hflow⟩ := startFlow_only { s3 with frame := { s3.frame with
    planned := laid.2.map fun p => { p with latest := max p.latest p.start }
    acEnd := max s3.frame.acEnd laid.1.ac, corEnd := max s3.frame.corEnd laid.1.cor
    chainDone := List.zipWith max s3.frame.chainDone laid.1.done } }
  rw [hflow]
  intro p hp
  obtain ⟨q, hq, rfl⟩ := List.mem_map.1 hp
  exact (le_workStart s2 t0).trans (le_start_of_mem_layShots s2 _ gv.1 q hq)

/-! ### A forced fallback (R195, R215, R222) -/

theorem settle_of_no_attempt {s : State} {n : Nat} (h : (s.ac.ctxAt n).current = none) : s.settle n = s := by
  simp only [State.settle, h]

/-- Where no context holds an attempt, a loss of lock has nothing to decide. -/
theorem settleAll_of_no_attempt {s : State} (h : ∀ n, n < 64 → (s.ac.ctxAt n).current = none) : s.settleAll = s :=
  List.foldlRecOn (motive := fun t => t = s) _ State.settle rfl fun _ ht n hn => by
    rw [ht, settle_of_no_attempt (h n (List.mem_range.1 hn))]

theorem loseLock_of_no_flight (pll : Bool) {a : Acoustic} (h : a.flight = []) :
    a.loseLock pll = { a with pllLocked := a.pllLocked && !pll, dllLocked := false } := by
  simp only [Acoustic.loseLock, h, List.filter_nil, List.foldl_nil]

/-- Without a shot in flight and an attempt a loss of lock marks the PLL and the DLLs alone. -/
theorem lockLostBy_of_idle (pll : Bool) {u : State} (hflight : u.ac.flight = []) (hcur : ∀ n, n < 64 → (u.ac.ctxAt n).current = none) :
    lockLostBy pll u = { u with ac := { u.ac with pllLocked := u.ac.pllLocked && !pll, dllLocked := false } } := by
  rw [lockLostBy, loseLock_of_no_flight pll hflight]
  exact settleAll_of_no_attempt hcur

/-- The clocks once the PLL has fallen back to the HF RC. -/
def fallenBack (blocked : Nat) (c : Clocks) : Clocks :=
  { c with
    ref := 2, trial := false, trialReady := false, trialFailed := false, disagreeRun := 0, agreeRun := 0, warmCount := 0
    fallbacks := satInc (2 ^ 32 - 1) c.fallbacks, fusionBlock := blocked }

/-- The PLL and the DLLs lock, and the acquisition is counted. -/
theorem relocked_only (s : State) : CountsOnly { s with ac := { s.ac with pllLocked := true, dllLocked := true } } s.relocked :=
  CountsOnly_count _ _

theorem fallback_eq (kind arg blocked : Nat) (s : State) :
    s.fallback kind arg blocked =
      (State.raise (clockEvent kind 2 arg) { lockLostBy true s with clk := fallenBack blocked s.clk }).relocked := rfl

/-- A fallback: lock is lost, the clocks fall back, and the PLL and the DLLs lock again. -/
theorem fallback_only (kind arg blocked : Nat) (s : State) :
    CountsOnly { lockLostBy true s with
      clk := fallenBack blocked s.clk, ac := { (lockLostBy true s).ac with pllLocked := true, dllLocked := true } }
      (s.fallback kind arg blocked) := by
  rw [fallback_eq]
  generalize lockLostBy true s = v
  exact CountsOnly_trans (CountsOnly_raise (clockEvent kind 2 arg)
    { v with clk := fallenBack blocked s.clk, ac := { v.ac with pllLocked := true, dllLocked := true } }) (relocked_only _)

/-- A failed source, with its mark in the clocks `c`, makes the PLL fall back. -/
theorem FellBack_fallback (kind arg : Nat) {u : State} {c : Clocks} (hc : c.fallbacks = u.clk.fallbacks) :
    u.FellBack c (({ u with clk := c } : State).fallback kind arg 2) := by
  have hback := fallback_only kind arg 2 { u with clk := c }
  have hlost := lockLostBy_planOnly true { u with clk := c }
  have hclk : (({ u with clk := c } : State).fallback kind arg 2).clk = fallenBack 2 c := by rw [hback]
  refine ⟨?_, by rw [hback], by rw [hback], by rw [hback, hlost], by rw [hback, hlost], by rw [hback, hlost],
    by rw [hback, hlost], by rw [hback, hlost], by rw [hback, hlost], fun _ hflight hcur => ?_⟩
  · rw [hclk, ← hc]
    rfl
  · rw [lockLostBy_of_idle true (u := { u with clk := c }) hflight hcur] at hback
    rw [hclk]
    exact hback

/-- Restoring a frame that measures leaves what a fallback has set. -/
theorem FellBack_restore {u v : State} {c : Clocks} (cause t0 : Nat) (hmeasuring : u.measuring = true) (h : u.FellBack c v) :
    u.FellBack c (v.restore cause t0) := by
  obtain ⟨hclk, hpll, hdll, hmem, hset, hcal, hsen, hqty, hacc, -⟩ := h
  have hrestored := (Restores_restore v cause t0).outside
  refine ⟨?_, ?_, ?_, ?_, ?_, ?_, ?_, ?_, ?_, fun hidle => absurd hmeasuring (by rw [hidle]; exact Bool.false_ne_true)⟩
  all_goals rw [hrestored]; assumption

theorem FellBack_fallbackNow (kind arg : Nat) {u : State} {c : Clocks} (hc : c.fallbacks = u.clk.fallbacks) :
    u.FellBack c (({ u with clk := c } : State).fallbackNow kind arg) := by
  have hback := FellBack_fallback kind arg hc
  unfold State.fallbackNow
  dsimp only
  split
  case isTrue hmeasuring => exact FellBack_restore _ _ hmeasuring hback
  case isFalse => exact hback

/-! ### HF_CRYSTAL_READY (R208, R209, R224) -/

/-- The state in which a sound crystal, or one on trial, has got ready, and the PLL has locked to it where it is the reference. -/
def crystalReady (u : State) : State :=
  if u.clk.ref = 0 then ({ u with clk := { u.clk with hfxReady := true } } : State).relocked
  else { u with clk := { u.clk with hfxReady := true } }

theorem crystalReady_only (u : State) :
    CountsOnly { u with clk := { u.clk with hfxReady := true }
                        ac := if u.clk.ref = 0 then { u.ac with pllLocked := true, dllLocked := true } else u.ac } (crystalReady u) := by
  unfold crystalReady
  split
  · exact relocked_only _
  · exact CountsOnly_refl _

theorem crystalReady_clk (u : State) : (crystalReady u).clk = { u.clk with hfxReady := true } := by rw [crystalReady_only u]

theorem crystalReady_locked {u : State} (href : u.clk.ref = 0) :
    (crystalReady u).ac.pllLocked = true ∧ (crystalReady u).ac.dllLocked = true := by
  rw [crystalReady, if_pos href, relocked_only]
  exact ⟨rfl, rfl⟩

/-- No crystal is called for, it comes too late, or TM is off. -/
theorem hfCrystalReady_of_uncalled {cyc ready : Nat} {s u : State} (hu : u = s.atCyc cyc)
    (h : (s.on_ 0x0400 1 = 2 ∧ s.mode ≠ .taper) ∨ 2000 < ready ∨ (u.pwr.dom 2).on = false) : hfCrystalReady cyc ready s = u := by
  subst hu
  exact if_pos (by rwa [atCyc_on_, atCyc_mode])

/-- A crystal called for in time: one that is tried goes on trial, and one that is sound or on trial is ready. -/
theorem hfCrystalReady_of_called {cyc ready : Nat} {s u : State} (hu : u = s.atCyc cyc)
    (hcalled : s.on_ 0x0400 1 ≠ 2 ∨ s.mode = .taper) (hready : ready ≤ 2000) (htm : (u.pwr.dom 2).on = true) :
    hfCrystalReady cyc ready s =
      if u.clk.hfxFailed && !u.clk.trial then
        if u.clk.trying then { u with clk := { u.clk with hfxReady := true, trying := false, trialReady := true } } else u
      else if 100 < ready ∧ u.measuring = true then (crystalReady u).restore 1 (u.frame.nowQ + us 30) else crystalReady u := by
  subst hu
  refine if_neg ?_
  rw [atCyc_on_, atCyc_mode, htm]
  rintro (⟨hrc, hmode⟩ | hlate | hoff)
  · exact hcalled.elim (fun h => h hrc) hmode
  · omega
  · exact Bool.false_ne_true hoff.symm

/-- A crystal in use: sound, or on trial. -/
theorem not_failed_of_use {c : Clocks} (h : c.hfxFailed = false ∨ c.trial = true) : (c.hfxFailed && !c.trial) = false := by
  obtain h | h := h <;> simp [h]

theorem hfCrystalReady_on_time_does {cyc ready : Nat} {s u : State} (hu : u = s.atCyc cyc)
    (hcalled : s.on_ 0x0400 1 ≠ 2 ∨ s.mode = .taper) (hready : ready ≤ 2000) (htm : (u.pwr.dom 2).on = true)
    (huse : u.clk.hfxFailed = false ∨ u.clk.trial = true) (htime : ready ≤ 100 ∨ u.measuring = false) :
    Does (.hfCrystalReady cyc ready) s
      (CountsOnly { u with clk := { u.clk with hfxReady := true }
                           ac := if u.clk.ref = 0 then { u.ac with pllLocked := true, dllLocked := true } else u.ac }) := by
  have hnotLate : ¬(100 < ready ∧ u.measuring = true) := by
    rintro ⟨hlate, hmeasuring⟩
    exact htime.elim (by omega) fun h => Bool.false_ne_true (h.symm.trans hmeasuring)
  have heq : hfCrystalReady cyc ready s = crystalReady u := by
    rw [hfCrystalReady_of_called hu hcalled hready htm, not_failed_of_use huse, if_neg Bool.false_ne_true, if_neg hnotLate]
  exact ⟨_, congrArg Host.Outcome.next heq, crystalReady_only u⟩

theorem hfCrystalReady_late_does {cyc ready : Nat} {s u : State} (hu : u = s.atCyc cyc)
    (hcalled : s.on_ 0x0400 1 ≠ 2 ∨ s.mode = .taper) (hready : ready ≤ 2000) (htm : (u.pwr.dom 2).on = true)
    (huse : u.clk.hfxFailed = false ∨ u.clk.trial = true) (hlate : 100 < ready) (hmeasuring : u.measuring = true) :
    Does (.hfCrystalReady cyc ready) s fun t =>
      t.clk = { u.clk with hfxReady := true } ∧ (u.clk.ref = 0 → t.ac.pllLocked = true ∧ t.ac.dllLocked = true) ∧
      t.frame.cause = 1 ∧ (∀ p ∈ t.frame.planned, u.frame.nowQ + us 30 ≤ p.start) := by
  have heq : hfCrystalReady cyc ready s = (crystalReady u).restore 1 (u.frame.nowQ + us 30) := by
    rw [hfCrystalReady_of_called hu hcalled hready htm, not_failed_of_use huse, if_neg Bool.false_ne_true, if_pos ⟨hlate, hmeasuring⟩]
  have hrestored := Restores_restore (crystalReady u) 1 (u.frame.nowQ + us 30)
  obtain ⟨hpll, hdll⟩ := Restores_lock hrestored
  refine ⟨_, congrArg Host.Outcome.next heq, (Restores_clk hrestored).trans (crystalReady_clk u), fun href => ?_, hrestored.cause,
    le_start_of_mem_restore _ _ _⟩
  rw [hpll, hdll]
  exact crystalReady_locked href

theorem hfCrystalReady_of_failed {cyc ready : Nat} {s u : State} (hu : u = s.atCyc cyc)
    (hcalled : s.on_ 0x0400 1 ≠ 2 ∨ s.mode = .taper) (hready : ready ≤ 2000) (htm : (u.pwr.dom 2).on = true)
    (hfailed : u.clk.hfxFailed = true) (htrial : u.clk.trial = false) :
    hfCrystalReady cyc ready s =
      if u.clk.trying then { u with clk := { u.clk with hfxReady := true, trying := false, trialReady := true } } else u := by
  rw [hfCrystalReady_of_called hu hcalled hready htm, hfailed, htrial]
  rfl

/-! ### CRYSTAL_READY_TIMEOUT (R221, R224) -/

theorem crystalReadyTimeout_early {cyc : Nat} {s u : State} (hu : u = s.atCyc cyc)
    (h : u.frame.now < (u.pwr.dom 2).since + usNow 2000) : crystalReadyTimeout cyc s = u := by
  subst hu
  exact if_pos h

/-- Two milliseconds after TM was switched on, a tried crystal is given up, and one in use that is called for and not ready fails. -/
theorem crystalReadyTimeout_due {cyc : Nat} {s u : State} (hu : u = s.atCyc cyc)
    (h : (u.pwr.dom 2).since + usNow 2000 ≤ u.frame.now) :
    crystalReadyTimeout cyc s =
      if u.clk.hfxFailed && !u.clk.trial then { u with clk := { u.clk with trying := false } }
      else if u.clk.hfxReady || (s.on_ 0x0400 1 == 2 && decide (s.mode ≠ .taper)) || !(u.pwr.dom 2).on then u
      else State.fallbackNow 1 2000 { u with clk := { u.clk with hfxFailed := true, retryIn := s.on_ 0x0400 4 } } := by
  subst hu
  rw [← atCyc_on_ s cyc, ← atCyc_on_ s cyc, ← atCyc_mode s cyc]
  exact if_neg (Nat.not_lt.2 h)

theorem crystalReadyTimeout_of_failed {cyc : Nat} {s u : State} (hu : u = s.atCyc cyc)
    (h : (u.pwr.dom 2).since + usNow 2000 ≤ u.frame.now) (hfailed : u.clk.hfxFailed = true) (htrial : u.clk.trial = false) :
    crystalReadyTimeout cyc s = { u with clk := { u.clk with trying := false } } := by
  rw [crystalReadyTimeout_due hu h, hfailed, htrial]
  rfl

theorem crystalReadyTimeout_of_ready_or_uncalled {cyc : Nat} {s u : State} (hu : u = s.atCyc cyc)
    (h : (u.pwr.dom 2).since + usNow 2000 ≤ u.frame.now) (huse : u.clk.hfxFailed = false ∨ u.clk.trial = true)
    (hnone : u.clk.hfxReady = true ∨ (s.on_ 0x0400 1 = 2 ∧ s.mode ≠ .taper) ∨ (u.pwr.dom 2).on = false) :
    crystalReadyTimeout cyc s = u := by
  rw [crystalReadyTimeout_due hu h, not_failed_of_use huse, if_neg Bool.false_ne_true]
  refine if_pos ?_
  obtain hready | ⟨hrc, hmode⟩ | hoff := hnone
  · simp [hready]
  · simp [hrc, hmode]
  · simp [hoff]

theorem crystalReadyTimeout_fails_does {cyc : Nat} {s u : State} (hu : u = s.atCyc cyc)
    (h : (u.pwr.dom 2).since + usNow 2000 ≤ u.frame.now) (huse : u.clk.hfxFailed = false ∨ u.clk.trial = true)
    (hready : u.clk.hfxReady = false) (hcalled : s.on_ 0x0400 1 ≠ 2 ∨ s.mode = .taper) (htm : (u.pwr.dom 2).on = true) :
    Does (.crystalReadyTimeout cyc) s (u.FellBack { u.clk with hfxFailed := true, retryIn := s.on_ 0x0400 4 }) := by
  have hcalled' : (s.on_ 0x0400 1 == 2 && decide (s.mode ≠ .taper)) = false := by
    obtain hsource | hmode := hcalled
    · simp [hsource]
    · simp [hmode]
  have heq : crystalReadyTimeout cyc s =
      State.fallbackNow 1 2000 { u with clk := { u.clk with hfxFailed := true, retryIn := s.on_ 0x0400 4 } } := by
    rw [crystalReadyTimeout_due hu h, not_failed_of_use huse, hready, hcalled', htm]
    rfl
  exact ⟨_, congrArg Host.Outcome.next heq, FellBack_fallbackNow 1 2000 rfl⟩

/-! ### CRYSTAL_RETRY (R224) -/

/-- The retry of a failed crystal is due. -/
theorem retry_due_iff (c : Clocks) :
    (c.hfxFailed && !c.trial && !c.trialReady && c.retryIn == 0) = true ↔
      c.hfxFailed = true ∧ c.trial = false ∧ c.trialReady = false ∧ c.retryIn = 0 := by
  simp [and_assoc]

theorem crystalRetry_due {s : State} (hfailed : s.clk.hfxFailed = true) (htrial : s.clk.trial = false)
    (hready : s.clk.trialReady = false) (hcount : s.clk.retryIn = 0) :
    crystalRetry s = { s with clk := { s.clk with trying := true, retryIn := s.on_ 0x0400 4 } } :=
  if_pos ((retry_due_iff s.clk).2 ⟨hfailed, htrial, hready, hcount⟩)

theorem crystalRetry_not_due {s : State}
    (h : s.clk.hfxFailed = false ∨ s.clk.trial = true ∨ s.clk.trialReady = true ∨ s.clk.retryIn ≠ 0) : crystalRetry s = s := by
  refine if_neg fun hdue => ?_
  obtain ⟨hfailed, htrial, hready, hcount⟩ := (retry_due_iff s.clk).1 hdue
  simp [hfailed, htrial, hready, hcount] at h

/-- Settles O16: what a ready crystal and one that is not do by the branches of the two commands; a failure falls back by
`FellBack_fallbackNow`, and late jobs are laid anew by `le_start_of_mem_restore`. -/
theorem crystalStartsFailsAndIsRetried : Obligations.CrystalStartsFailsAndIsRetried := by
  unfold Obligations.CrystalStartsFailsAndIsRetried
  refine ⟨fun cyc ready s u hu => ⟨fun h => ?_, fun hcalled hready htm => ⟨fun hfailed htrial => ?_, fun huse htime => ?_,
    fun huse hlate hmeasuring => ?_⟩⟩, fun cyc s u hu => ⟨fun h => ?_, fun h => ⟨fun hfailed htrial => ?_,
    fun huse => ⟨fun hnone => ?_, fun hready hcalled htm => ?_⟩⟩⟩, fun s => ⟨fun hfailed htrial hready hcount => ?_, fun h => ?_⟩⟩
  · exact congrArg Host.Outcome.next (hfCrystalReady_of_uncalled hu h)
  · exact congrArg Host.Outcome.next (hfCrystalReady_of_failed hu hcalled hready htm hfailed htrial)
  · exact hfCrystalReady_on_time_does hu hcalled hready htm huse htime
  · exact hfCrystalReady_late_does hu hcalled hready htm huse hlate hmeasuring
  · exact congrArg Host.Outcome.next (crystalReadyTimeout_early hu h)
  · exact congrArg Host.Outcome.next (crystalReadyTimeout_of_failed hu h hfailed htrial)
  · exact congrArg Host.Outcome.next (crystalReadyTimeout_of_ready_or_uncalled hu h huse hnone)
  · exact crystalReadyTimeout_fails_does hu h huse hready hcalled htm
  · exact congrArg Host.Outcome.next (crystalRetry_due hfailed htrial hready hcount)
  · exact congrArg Host.Outcome.next (crystalRetry_not_due h)

end Sys2Proof.Proofs
end

section
/-! PROOF. The OCXO is measured by its gates, gets warm and is lost, and the LF crystal stops (R207, R216 to R220, R223). -/

namespace Sys2Proof.Proofs

open Sys2Proof Sys2Proof.Machine Sys2Proof.Laws

/-! ### OCXO_GATE_END (R217 to R220) -/

theorem EventsOnly_raise (e : Raised) (s : State) : EventsOnly s (s.raise e) := by
  obtain ⟨_, _, _, _, _, h⟩ := raise_only e s
  rw [h]
  rfl

theorem driftOf_of_few {gates : List (Nat × Int)} (h : gates.length < 8) : driftOf gates = none := if_pos h

/-- With the heater off a gate moves only the time. -/
theorem ocxoGateEnd_of_heater_off {cyc n c : Nat} {s u : State} (hu : u = { s with frame := s.frame.at_ cyc })
    (h : s.heater = false) : ocxoGateEnd cyc n c s = u := by
  subst hu
  exact if_pos (congrArg (fun b => !b) h)

section Gate

variable {cyc n c : Nat} {s u : State} {d : Rat} {k : Clocks}

/-- The last eight gates with the one that ends now, newest first. -/
def gatesAfter (n c : Nat) (u : State) : List (Nat × Int) := ((u.frame.now, fitS 32 (gateError n c)) :: u.clk.gates).take 8

/-- A gate without a drift is only kept. -/
theorem ocxoGateEnd_of_no_drift (hu : u = { s with frame := s.frame.at_ cyc }) (hheater : s.heater = true)
    (hdrift : driftOf (gatesAfter n c u) = none) :
    ocxoGateEnd cyc n c s = { u with clk := { s.clk with gates := gatesAfter n c u, freqErr := fitS 32 (gateError n c) } } := by
  subst hu
  have hheater' : ({ s with frame := s.frame.at_ cyc } : State).heater = true := hheater
  simp only [ocxoGateEnd, hheater', Bool.not_true, Bool.false_eq_true, if_false]
  simp only [gatesAfter] at hdrift ⊢
  rw [hdrift]

/-- Until eight gates are kept there is no drift. -/
theorem ocxoGateEnd_of_few (hu : u = { s with frame := s.frame.at_ cyc }) (hheater : s.heater = true)
    (hfew : s.clk.gates.length ≤ 6) :
    ocxoGateEnd cyc n c s = { u with clk := { s.clk with
      gates := (u.frame.now, fitS 32 (gateError n c)) :: s.clk.gates, freqErr := fitS 32 (gateError n c) } } := by
  have hlength : ((u.frame.now, fitS 32 (gateError n c)) :: s.clk.gates).length < 8 := Nat.lt_succ_of_le (Nat.succ_le_succ hfew)
  have hall : gatesAfter n c u = (u.frame.now, fitS 32 (gateError n c)) :: s.clk.gates := by
    subst hu
    exact List.take_of_length_le hlength.le
  rw [ocxoGateEnd_of_no_drift hu hheater (by rw [hall, driftOf_of_few hlength]), hall]

/-- A warm OCXO at a gate, `beyond` being the gates in a row with a drift beyond four times its limit: with two it is lost, and
CLOCK_FALLBACK names `ref`. -/
def judgeWarm (ref beyond : Nat) (u : State) (k : Clocks) : State :=
  if 2 ≤ beyond then
    State.raise (clockEvent 4 ref 0) { u with clk := { k with ocxoWarm := false, overDrift := 0, warmCount := 0 } }
  else { u with clk := { k with overDrift := beyond } }

/-- A cold OCXO at a gate, `within` being the gates in a row with a drift within its limit: with as many as asked it is warm. -/
def judgeCold (err : Int) (asked within : Nat) (u : State) (k : Clocks) : State :=
  if asked ≤ within then
    State.raise (ocxoWarmEvent err) { u with clk := { k with ocxoWarm := true, overDrift := 0, warmCount := within } }
  else { u with clk := { k with warmCount := within } }

/-- A gate with a drift judges the OCXO. -/
theorem ocxoGateEnd_of_drift (hu : u = { s with frame := s.frame.at_ cyc }) (hheater : s.heater = true)
    (hdrift : driftOf (gatesAfter n c u) = some d)
    (hk : k = { s.clk with gates := gatesAfter n c u, freqErr := fitS 32 (gateError n c), drift := fitS 32 (roundAway d) }) :
    ocxoGateEnd cyc n c s =
      if s.clk.ocxoWarm then
        judgeWarm (if s.clk.hfxFailed then 2 else 0) (if 4 * (s.on_ 0x0402 1 : Rat) < absR d then s.clk.overDrift + 1 else 0) u k
      else
        judgeCold (fitS 32 (gateError n c)) (s.on_ 0x0402 3)
          (if absR d ≤ (s.on_ 0x0402 1 : Rat) then s.clk.warmCount + 1 else 0) u k := by
  subst hu hk
  have hheater' : ({ s with frame := s.frame.at_ cyc } : State).heater = true := hheater
  simp only [ocxoGateEnd, hheater', Bool.not_true, Bool.false_eq_true, if_false]
  simp only [gatesAfter] at hdrift ⊢
  rw [hdrift]
  rfl

end Gate

/-! ### OCXO_EDGE_LOST (R220) -/

theorem ocxoEdgeLost_of_cold {cyc : Nat} {s u : State} (hu : u = s.atCyc cyc) (h : u.clk.ocxoWarm = false) :
    ocxoEdgeLost cyc s = u := by
  subst hu
  exact if_neg (ne_true_of_eq_false h)

theorem ocxoEdgeLost_of_warm {cyc : Nat} {s u : State} (hu : u = s.atCyc cyc) (h : u.clk.ocxoWarm = true) :
    ocxoEdgeLost cyc s = State.fallbackNow 3 0 { u with clk := { u.clk with ocxoWarm := false, overDrift := 0 } } := by
  subst hu
  exact if_pos h

/-! ### What an event leaves pending (R37, R38, Table 1.8) -/

/-- Coalescing changes no occurrence's event or destination. -/
theorem coalesce_any_is (d d' : Dest) (ev : Nat) (e : Raised) (l : List Pend) :
    ((Pend.coalesce d e l).any fun p => p.is d' ev) = l.any fun p => p.is d' ev := by
  induction l with
  | nil => rfl
  | cons p ps ih =>
    unfold Pend.coalesce
    split
    · rfl
    · exact congrArg (p.is d' ev || ·) ih

theorem subset_placePend (p : Pend) (l : List Pend) : l ⊆ placePend p l := by
  induction l with
  | nil => exact List.nil_subset _
  | cons q qs ih =>
    unfold placePend
    split
    · exact List.subset_cons_self _ _
    · exact List.cons_subset_cons q ih

/-- What waits goes on waiting as another event is raised. -/
theorem pendFor_any_of_any {d d' : Dest} {ev : Nat} (f : Frame) (seconds : Nat) (e : Raised) {l : List Pend}
    (h : (l.any fun p => p.is d' ev) = true) : ((pendFor d f seconds e l).any fun p => p.is d' ev) = true := by
  unfold pendFor
  split
  · rwa [coalesce_any_is]
  · obtain ⟨p, hp, his⟩ := List.any_eq_true.1 h
    exact List.any_eq_true.2 ⟨p, subset_placePend _ l hp, his⟩

theorem pendFor_any_self (d : Dest) (f : Frame) (seconds : Nat) (e : Raised) (l : List Pend) :
    ((pendFor d f seconds e l).any fun p => p.is d e.ev) = true := by
  by_cases h : (l.any fun p => p.is d e.ev) = true
  · exact pendFor_any_of_any f seconds e h
  · rw [pendFor, if_neg h]
    exact (any_is_iff d e.ev _).2 ⟨_, mem_placePend_self _ l, rfl, rfl⟩

/-- An event waits for every destination of its route. -/
theorem pendAll_any_of_mem {d : Dest} {ds : List Dest} (h : d ∈ ds) (f : Frame) (seconds : Nat) (e : Raised) (l : List Pend) :
    ((pendAll ds f seconds e l).any fun p => p.is d e.ev) = true := by
  induction ds using List.reverseRecOn with
  | nil => cases h
  | append_singleton ds x ih =>
    rw [pendAll, List.foldl_append]
    obtain h | h := List.mem_append.1 h
    · exact pendFor_any_of_any f seconds e (ih h)
    · rw [List.mem_singleton.1 h]
      exact pendFor_any_self x f seconds e _

theorem log_mem_routeDests (route : Nat) {ev : Nat} (h : forcedLog ev = true) : Dest.log ∈ routeDests route ev := by
  simp [routeDests, h]

/-- With AO powered, an event that BK does not latch and the log always takes waits for the log. -/
theorem raise_any_log {e : Raised} {s : State} (hao : s.pwr.aoDown = false) (hbk : bkEvent e.ev = false)
    (hlog : forcedLog e.ev = true) : ((s.raise e).events.any fun p => p.is .log e.ev) = true := by
  have hpends : (s.raise e).events = pendAll (routeDests (s.on_ 0x1510 (e.ev + 1)) e.ev) s.frame s.cal.seconds e s.events := by
    simp only [State.raise, State.latches, hao, hbk, Bool.false_and, Bool.or_self, Bool.false_eq_true, if_false]
  rw [hpends]
  exact pendAll_any_of_mem (log_mem_routeDests _ hlog) _ _ _ _

/-! ### LF_CRYSTAL_STOPPED (R223) -/

theorem lfCrystalStopped_of_not_due {s : State} (h : s.clk.rtcOnLfrc = true ∨ s.pwr.aoDown = true) : lfCrystalStopped s = s :=
  if_pos (Bool.or_eq_true_iff.2 h)

theorem lfCrystalStopped_due {s : State} (hrtc : s.clk.rtcOnLfrc = false) (hao : s.pwr.aoDown = false) :
    lfCrystalStopped s =
      State.raise (clockEvent 5 s.clk.ref 0)
        { s with clk := { s.clk with rtcOnLfrc := true }, cal := { s.cal with uncertain := true } } := by
  refine if_neg ?_
  rw [hrtc, hao]
  exact Bool.false_ne_true

/-- Settles O17: a gate by the rules for an OCXO without a drift, a cold and a warm one; a lost OCXO falls back by
`FellBack_fallbackNow`. -/
theorem ocxoIsMeasuredWarmedAndLost : Obligations.OcxoIsMeasuredWarmedAndLost := by
  unfold Obligations.OcxoIsMeasuredWarmedAndLost
  refine ⟨fun cyc n c s u hu => ?_, fun cyc s u hu => ⟨fun hcold => ?_, fun hwarm => ?_⟩, fun s => ⟨fun h => ?_, fun hrtc hao => ?_⟩⟩
  · have hgates : gatesAfter n c u = ((u.frame.now, fitS 32 (gateError n c)) :: s.clk.gates).take 8 := by rw [hu]; rfl
    refine ⟨fun hoff => congrArg Host.Outcome.next (ocxoGateEnd_of_heater_off hu hoff), fun hheater hfew => ?_,
      fun d k hheater hdrift hk => ?_⟩
    · exact congrArg Host.Outcome.next (ocxoGateEnd_of_few hu hheater hfew)
    · rw [← hgates] at hdrift hk
      have hgate := ocxoGateEnd_of_drift hu hheater hdrift hk
      refine ⟨fun hcold hwithin hasked => ?_, fun hcold hwithin hmore => ?_, fun hcold hbeyond hasked => ?_, fun hwarm hwithin => ?_,
        fun hwarm hbeyond hfirst => ?_, fun hwarm hbeyond hagain => ?_⟩
      · rw [hcold, if_neg Bool.false_ne_true, if_pos hwithin, judgeCold, if_pos hasked] at hgate
        exact ⟨_, congrArg Host.Outcome.next hgate, EventsOnly_raise _ _⟩
      · rw [hcold, if_neg Bool.false_ne_true, if_pos hwithin, judgeCold, if_neg (Nat.not_le.2 hmore)] at hgate
        exact congrArg Host.Outcome.next hgate
      · rw [hcold, if_neg Bool.false_ne_true, if_neg (not_le.2 hbeyond), judgeCold, if_neg (Nat.not_le.2 hasked)] at hgate
        exact congrArg Host.Outcome.next hgate
      · rw [if_pos hwarm, if_neg (not_lt.2 hwithin), judgeWarm, if_neg (by decide)] at hgate
        exact congrArg Host.Outcome.next hgate
      · rw [if_pos hwarm, if_pos hbeyond, hfirst, judgeWarm, if_neg (by decide)] at hgate
        exact congrArg Host.Outcome.next hgate
      · rw [if_pos hwarm, if_pos hbeyond, judgeWarm, if_pos (Nat.succ_le_succ hagain)] at hgate
        exact ⟨_, congrArg Host.Outcome.next hgate, EventsOnly_raise _ _⟩
  · exact congrArg Host.Outcome.next (ocxoEdgeLost_of_cold hu hcold)
  · exact ⟨_, congrArg Host.Outcome.next (ocxoEdgeLost_of_warm hu hwarm), FellBack_fallbackNow 3 0 rfl⟩
  · exact congrArg Host.Outcome.next (lfCrystalStopped_of_not_due h)
  · exact ⟨_, congrArg Host.Outcome.next (lfCrystalStopped_due hrtc hao),
      raise_any_log (e := clockEvent 5 s.clk.ref 0) hao rfl rfl, EventsOnly_raise _ _⟩

end Sys2Proof.Proofs
end

section
/-! PROOF. A sensor job starts, and its discharges end and follow one another (R169 to R173, R230 to R232, R248). -/

namespace Sys2Proof.Proofs

open Sys2Proof Sys2Proof.Machine Sys2Proof.Laws

/-! ### The stated time -/

@[simp] theorem atCyc_measuring (s : State) (cyc : Nat) : (s.atCyc cyc).measuring = s.measuring := by
  rw [TimeOnly_atCyc s cyc]
  rfl

@[simp] theorem atCyc_pllLocked (s : State) (cyc : Nat) : (s.atCyc cyc).ac.pllLocked = s.ac.pllLocked := by
  rw [TimeOnly_atCyc s cyc]

/-! ### The sensors and the calibrations of their input (R169, R170) -/

/-- Beside the sensors and the calibrations, only what counting and events change. -/
def SensorsOnly (u t : State) : Prop :=
  CountsOnly { u with
    sen := t.sen
    ac := { u.ac with calR := t.ac.calR, calGain := t.ac.calGain, calFaulty := t.ac.calFaulty, calFaults := t.ac.calFaults } } t

theorem SensorsOnly_of_CountsOnly {u t : State} {x : Sensors} (h : CountsOnly { u with sen := x } t) : SensorsOnly u t := by
  unfold SensorsOnly
  rw [h]
  rfl

theorem SensorsOnly_trans {u v t : State} (h1 : SensorsOnly u v) (h2 : SensorsOnly v t) : SensorsOnly u t := by
  unfold SensorsOnly CountsOnly at h1 h2 ⊢
  rw [h1] at h2
  exact h2

theorem SensorsOnly_calibrate16 (cal : CalReading) (s : State) : SensorsOnly s (s.calibrate16 cal) := by
  have hcounts : CountsOnly { s with ac := s.ac.calibrate { cal with input := 16 } } (s.calibrate16 cal) := CountsOnly_count _ _
  unfold SensorsOnly
  rw [hcounts]
  rfl

theorem calibrate16_sen (cal : CalReading) (s : State) : (s.calibrate16 cal).sen = s.sen := count_sen _ _

/-- The readings of a sound first calibration are those that stand. -/
theorem calOutcome_sound (c : CalReading) (hlow : c.r1 + 448 ≤ c.r2) (hhigh : c.r2 ≤ c.r1 + 576) :
    calOutcome c = ((c.r1, c.r2), false, 1, 0) := by
  simp [calOutcome, calSound, hlow, hhigh]

/-! ### SENSOR_JOB_START (R231) -/

/-- The job of a row as it starts, at its reference. -/
def jobOf (r : Nat) (cal : CalReading) (u : State) : SensorJob :=
  { start := u.frame.cyc, row := r, current := none
    left := (List.range 4).filter fun i => bitAt (planRow u.eff r) i && portType u.eff i != 0
    r1 := (calOutcome cal).1.1, r2 := (calOutcome cal).1.2, faulty := (calOutcome cal).2.1
    tref := 0, refCode := 0, since := u.frame.cyc }

section Start

variable {due : Nat} {cal : CalReading} {s u : State}
  (hu : u = s.atCyc (s.heldStart (us (dischargeUs s.eff (s.on_ 0x0B08 1) + 10)) due))

include hu

/-- Outside a measuring frame, with a job under way or without a row, only the time moves. -/
theorem sensorJobStart_of_idle (h : s.measuring = false ∨ s.sen.job.isSome = true ∨ s.sen.rows = []) :
    sensorJobStart due cal s = u := by
  have hsen : u.sen = s.sen := by rw [hu, atCyc_sen]
  have hmeas : u.measuring = s.measuring := by rw [hu, atCyc_measuring]
  rw [← hsen, ← hmeas] at h
  simp only [sensorJobStart, ← hu]
  split
  next r rs hjob hrows =>
    obtain hidle | hbusy | hnone := h
    · simp only [hidle, Bool.not_false, if_true]
    · simp [hjob] at hbusy
    · simp [hrows] at hnone
  next => rfl

/-- The first row leaves the list, and its job starts with the calibration of its input. -/
theorem sensorJobStart_of_row {r : Nat} {rs : List Nat} (hmeasuring : s.measuring = true) (hjob : s.sen.job = none)
    (hrows : s.sen.rows = r :: rs) :
    sensorJobStart due cal s =
      State.calibrate16 cal { u with sen := { u.sen with rows := rs, job := some (jobOf r cal u) } } := by
  have hmeas : u.measuring = true := by rw [hu, atCyc_measuring, hmeasuring]
  have hjob' : u.sen.job = none := by rw [hu, atCyc_sen, hjob]
  have hrows' : u.sen.rows = r :: rs := by rw [hu, atCyc_sen, hrows]
  simp only [sensorJobStart, ← hu, hjob', hrows', hmeas, Bool.not_true, Bool.false_eq_true, if_false]
  rfl

theorem sensorJobStart_does {r : Nat} {rs : List Nat} (hmeasuring : s.measuring = true) (hjob : s.sen.job = none)
    (hrows : s.sen.rows = r :: rs) :
    Does (.sensorJobStart due cal) s fun t =>
      (∃ j, t.sen = { s.sen with rows := rs, job := some j } ∧ j.start = u.frame.cyc ∧ j.since = u.frame.cyc ∧ j.row = r ∧
        j.current = none ∧ j.left = (List.range 4).filter (fun i => bitAt (planRow s.eff r) i && portType s.eff i != 0) ∧
        (cal.r1 + 448 ≤ cal.r2 → cal.r2 ≤ cal.r1 + 576 → j.r1 = cal.r1 ∧ j.r2 = cal.r2 ∧ j.faulty = false)) ∧
      SensorsOnly u t := by
  have hsen : u.sen = s.sen := by rw [hu, atCyc_sen]
  have heff : u.eff = s.eff := by rw [hu, atCyc_eff]
  refine ⟨_, congrArg Host.Outcome.next (sensorJobStart_of_row hu hmeasuring hjob hrows),
    ⟨jobOf r cal u, ?_, rfl, rfl, rfl, rfl, ?_, fun hlow hhigh => ?_⟩,
    SensorsOnly_trans (SensorsOnly_of_CountsOnly (CountsOnly_refl _)) (SensorsOnly_calibrate16 cal _)⟩
  · rw [calibrate16_sen, hsen]
  · rw [← heff]
    rfl
  · rw [jobOf, calOutcome_sound cal hlow hhigh]
    exact ⟨rfl, rfl, rfl⟩

end Start

/-! ### A discharge ends and the next one starts (R231, R232, R244) -/

/-- The time in which the reference discharges, TU. -/
def nominalTime (v : View) : Rat := quo ((v (key 0x0B08 1) * v (key 0x0B08 2) : Nat) : Rat) 1000000 * 65536

/-- The code of a reference that has discharged in `t` TU: 5 where it stopped normally and is beyond its tolerance (R244). -/
def referenceCode (v : View) (code t : Nat) : Nat :=
  if code = 0 ∧ nominalTime v * (v (key 0x0B08 3) : Rat) < absR ((t : Rat) - nominalTime v) * 1000000 then 5 else code

/-- The job with its next port, whose discharge begins at `now`. -/
def atPort (i : Nat) (is : List Nat) (now : Nat) (cal : CalReading) (j : SensorJob) : SensorJob :=
  { j with
    current := some i, left := is
    r1 := (calOutcome cal).1.1, r2 := (calOutcome cal).1.2, faulty := (calOutcome cal).2.1, since := now }

section Discharge

variable {code t : Nat} {cal : CalReading} {j : SensorJob} {s : State}

/-- A discharge of the reference ends, good or with its code. -/
theorem discharged_reference_eq (href : j.current = none) :
    s.discharged code t j =
      if referenceCode s.eff code t = 0 then ({ s with sen := { s.sen with refArmed := true } }, { j with tref := t, refCode := 0 })
      else (s.referenceFails (referenceCode s.eff code t), { j with tref := t, refCode := referenceCode s.eff code t }) := by
  simp only [State.discharged, href]
  rfl

/-- A reference within its tolerance is good. -/
theorem discharged_of_reference (href : j.current = none)
    (hwithin : absR ((t : Rat) - nominalTime s.eff) * 1000000 ≤ nominalTime s.eff * (s.eff (key 0x0B08 3) : Rat)) :
    s.discharged 0 t j = ({ s with sen := { s.sen with refArmed := true } }, { j with tref := t, refCode := 0 }) := by
  rw [discharged_reference_eq href]
  exact if_pos (if_neg fun hbeyond => not_lt.2 hwithin hbeyond.2)

/-- A discharge of the reference that fails has its code. -/
theorem discharged_of_failed_reference (href : j.current = none) (hcode : code ≠ 0) :
    s.discharged code t j = (s.referenceFails code, { j with tref := t, refCode := code }) := by
  have hkept : referenceCode s.eff code t = code := if_neg fun hgood => hcode hgood.1
  rw [discharged_reference_eq href, hkept, if_neg hcode]

/-- With no port left the job is over. -/
theorem nextDischarge_of_none {v : State} {k : SensorJob} (h : s.discharged code t j = (v, k)) (hlast : k.left = []) :
    s.nextDischarge code t cal j = { v with sen := { v.sen with job := none } } := by
  simp only [State.nextDischarge, h, SensorJob.next, hlast, Option.isSome_none, Bool.false_eq_true, if_false]

/-- The first port that is left is discharged next, after a calibration. -/
theorem nextDischarge_of_port {v : State} {k : SensorJob} {i : Nat} {is : List Nat} (h : s.discharged code t j = (v, k))
    (hleft : k.left = i :: is) :
    s.nextDischarge code t cal j =
      State.calibrate16 cal { v with sen := { v.sen with job := some (atPort i is s.frame.cyc cal k) } } := by
  simp only [State.nextDischarge, h, SensorJob.next, hleft, Option.isSome_some, if_true]
  rfl

/-- After a good reference the job goes on with its first port, or is over. -/
theorem nextDischarge_of_good_reference (href : j.current = none)
    (hwithin : absR ((t : Rat) - nominalTime s.eff) * 1000000 ≤ nominalTime s.eff * (s.eff (key 0x0B08 3) : Rat)) :
    (∀ (i : Nat) (is : List Nat), j.left = i :: is →
      ∃ k, (s.nextDischarge 0 t cal j).sen = { s.sen with refArmed := true, job := some k } ∧ k.tref = t ∧ k.refCode = 0 ∧
        k.current = some i ∧ k.left = is ∧ k.start = j.start ∧ k.row = j.row ∧ k.since = s.frame.cyc) ∧
    (j.left = [] → (s.nextDischarge 0 t cal j).sen = { s.sen with refArmed := true, job := none }) ∧
    SensorsOnly s (s.nextDischarge 0 t cal j) := by
  have hgood := discharged_of_reference href hwithin
  have hsensors : ∀ x, SensorsOnly s { s with sen := x } := fun _ => SensorsOnly_of_CountsOnly (CountsOnly_refl _)
  cases hleft : j.left with
  | nil =>
    rw [nextDischarge_of_none hgood hleft]
    exact ⟨nofun, fun _ => rfl, hsensors _⟩
  | cons i is =>
    rw [nextDischarge_of_port hgood hleft]
    refine ⟨fun i' is' h => ?_, nofun, SensorsOnly_trans (hsensors _) (SensorsOnly_calibrate16 _ _)⟩
    obtain ⟨rfl, rfl⟩ := List.cons.inj h
    exact ⟨_, calibrate16_sen _ _, rfl, rfl, rfl, rfl, rfl, rfl, rfl⟩

/-- A failed reference is counted, and it raises no event again until it has been good. -/
theorem referenceFails_only (code : Nat) (s : State) :
    CountsOnly { s with sen := { s.sen with faults := min (2 ^ 32 - 1) (s.sen.faults + 1), refArmed := false } }
      (s.referenceFails code) := CountsOnly_raiseIf _ _ _

/-- A reference that fails as the last discharge of its job ends the job. -/
theorem nextDischarge_of_failed_reference (hcode : code ≠ 0) (href : j.current = none) (hlast : j.left = []) :
    CountsOnly
      { s with sen := { s.sen with faults := min (2 ^ 32 - 1) (s.sen.faults + 1), refArmed := false, job := none } }
      (s.nextDischarge code t cal j) := by
  rw [nextDischarge_of_none (discharged_of_failed_reference href hcode) hlast, referenceFails_only code s]
  rfl

end Discharge

/-! ### DISCHARGE_STOP (R172, R173, R230) -/

section Stop

variable {stop : Nat × Nat} {cal : CalReading} {j : SensorJob} {s u : State}

theorem dischargeStop_of_no_job (h : s.sen.job = none) : dischargeStop stop cal s = s := by
  simp only [dischargeStop, h]

theorem dischargeStop_of_late (hjob : s.sen.job = some j) (hlate : stopTaken (stopLimit s.eff j.current) stop.1 = false) :
    dischargeStop stop cal s = s := by
  simp only [dischargeStop, hjob, hlate, Bool.not_false, if_true]

/-- A stop that is taken, clear of its start and with a sound calibration, is counted and its time is kept. -/
theorem dischargeStop_of_taken (hjob : s.sen.job = some j) (hu : u = s.atCyc (j.stopCyc stop.1))
    (htaken : stopTaken (stopLimit s.eff j.current) stop.1 = true) (hsound : j.faulty = false)
    (hclear : 131072 ≤ stampTime j.r1 j.r2 stop) :
    dischargeStop stop cal s = (u.count [seqAct 1 0x20 0 1]).nextDischarge 0 (stampTime j.r1 j.r2 stop).toNat cal j := by
  have hstarted : ¬ stampTime j.r1 j.r2 stop < 0 := by omega
  have hfar : ¬ stampTime j.r1 j.r2 stop < 131072 := by omega
  simp only [dischargeStop, hjob, htaken, ← hu, hsound, hstarted, hfar, Bool.not_true, Bool.false_eq_true, if_false]

/-- DISCHARGE_STOP of a good reference. -/
theorem dischargeStop_reference_does {first : Nat × Nat} {again : Option (Nat × Nat)} (hjob : s.sen.job = some j)
    (hu : u = s.atCyc (j.stopCyc stop.1)) (htaken : stopTaken (stopLimit s.eff j.current) stop.1 = true) (href : j.current = none)
    (hsound : j.faulty = false) (hclear : 131072 ≤ stampTime j.r1 j.r2 stop)
    (hwithin : absR (((stampTime j.r1 j.r2 stop).toNat : Rat) - nominalTime s.eff) * 1000000 ≤
      nominalTime s.eff * (s.eff (key 0x0B08 3) : Rat)) :
    Does (.dischargeStop stop first again) s fun t =>
      (∀ (i : Nat) (is : List Nat), j.left = i :: is →
        ∃ k, t.sen = { s.sen with refArmed := true, job := some k } ∧ k.tref = (stampTime j.r1 j.r2 stop).toNat ∧ k.refCode = 0 ∧
          k.current = some i ∧ k.left = is ∧ k.start = j.start ∧ k.row = j.row ∧ k.since = u.frame.cyc) ∧
      (j.left = [] → t.sen = { s.sen with refArmed := true, job := none }) ∧
      SensorsOnly u t := by
  have hcounts := CountsOnly_count [seqAct 1 0x20 0 1] u
  have heff : (u.count [seqAct 1 0x20 0 1]).eff = s.eff := by rw [CountsOnly_eff hcounts, hu, atCyc_eff]
  have hsen : (u.count [seqAct 1 0x20 0 1]).sen = s.sen := by rw [count_sen, hu, atCyc_sen]
  have hframe : (u.count [seqAct 1 0x20 0 1]).frame = u.frame := count_frame _ _
  obtain ⟨hport, hover, honly⟩ := nextDischarge_of_good_reference (cal := cal16 first again) href (heff.symm ▸ hwithin)
  rw [hsen] at hport hover
  rw [hframe] at hport
  exact ⟨_, congrArg Host.Outcome.next (dischargeStop_of_taken hjob hu htaken hsound hclear), hport, hover,
    SensorsOnly_trans (SensorsOnly_of_CountsOnly (x := u.sen) hcounts) honly⟩

end Stop

/-! ### DISCHARGE_STOP_LIMIT (R171 to R173, R232) -/

/-- The acoustic blocks after a measurement has reached its limit: an overflow of a short window, a time-out of a long one. -/
def limitCounted (limit : Nat) (a : Acoustic) : Acoustic :=
  if limit ≤ 65535 then { a with overflows := min (2 ^ 32 - 1) (a.overflows + 1) }
  else { a with timeouts := min (2 ^ 32 - 1) (a.timeouts + 1) }

section Limit

variable {late : Nat} {cal : CalReading} {j : SensorJob} {s u : State}

theorem dischargeMissing_of_no_job (h : s.sen.job = none) : dischargeMissing late cal s = s := by
  simp only [dischargeMissing, h]

/-- A discharge that reaches its limit is counted, raises one event and fails with code 1. -/
theorem dischargeMissing_eq (hjob : s.sen.job = some j) (hu : u = s.atCyc (j.stopCyc (stopLimit s.eff j.current))) :
    ∃ e acts, dischargeMissing late cal s =
      ((State.raise e { u with ac := limitCounted (stopLimit s.eff j.current) u.ac
                               sen := { u.sen with limitHit := true } }).count acts).nextDischarge 1 0 cal j := by
  simp only [dischargeMissing, hjob, ← hu, limitCounted]
  by_cases hshort : stopLimit s.eff j.current ≤ 65535
  · simp only [hshort, decide_true, if_true]
    exact ⟨_, _, rfl⟩
  · simp only [hshort, decide_false, Bool.false_eq_true, if_false]
    exact ⟨_, _, rfl⟩

/-- DISCHARGE_STOP_LIMIT of the reference of a job without ports. -/
theorem dischargeStopLimit_reference_does {first : Nat × Nat} {again : Option (Nat × Nat)} (hjob : s.sen.job = some j)
    (href : j.current = none) (hlast : j.left = []) (hu : u = s.atCyc (j.stopCyc (stopLimit s.eff none))) :
    Does (.dischargeStopLimit late first again) s fun t =>
      t.sen = { s.sen with limitHit := true, faults := min (2 ^ 32 - 1) (s.sen.faults + 1), refArmed := false, job := none } ∧
      CountsOnly { u with sen := t.sen, ac := limitCounted (stopLimit s.eff none) u.ac } t := by
  rw [← href] at hu ⊢
  obtain ⟨e, acts, heq⟩ := dischargeMissing_eq (late := late) (cal := cal16 first again) hjob hu
  have hsen : u.sen = s.sen := by rw [hu, atCyc_sen]
  have hlimit := CountsOnly_trans (CountsOnly_raise e { u with
    ac := limitCounted (stopLimit s.eff j.current) u.ac, sen := { u.sen with limitHit := true } }) (CountsOnly_count acts _)
  generalize State.count acts _ = v at heq hlimit
  have hfails := nextDischarge_of_failed_reference (s := v) (t := 0) (cal := cal16 first again) one_ne_zero href hlast
  rw [← heq, hlimit, hsen] at hfails
  refine ⟨dischargeMissing late (cal16 first again) s, rfl, ?_⟩
  rw [hfails]
  exact ⟨rfl, rfl⟩

end Limit

/-! ### PLL_LOCK_LOST without a job (R195) -/

/-- A loss of lock unlocks the DLLs, and the PLL where it is the PLL's. -/
theorem lockLostBy_lock (pll : Bool) (u : State) :
    (lockLostBy pll u).ac.dllLocked = false ∧ (lockLostBy pll u).ac.pllLocked = (u.ac.pllLocked && !pll) := by
  rw [(lockLostBy_settles pll u).outside]
  exact ⟨rfl, rfl⟩

theorem pllLockLost_of_no_job_leaves_sensors {cyc : Nat} {pll : Bool} {cal : CalReading} {s u : State} (hjob : s.sen.job = none)
    (hu : u = s.atCyc cyc) :
    Does (.pllLockLost cyc pll cal) s fun t =>
      t.sen = s.sen ∧ t.ac.dllLocked = false ∧ t.ac.pllLocked = (s.ac.pllLocked && !pll) ∧
      CountsOnly { u with frame := t.frame, ac := t.ac } t := by
  obtain ⟨hdll, hpll⟩ := lockLostBy_lock pll u
  refine ⟨lockLostBy pll u, congrArg Host.Outcome.next (by rw [pllLockLost_eq, hjob, hu, Option.elim_none]), ?_, hdll, ?_,
    lockLostBy_planOnly pll u⟩
  · rw [hu, lockLostBy_atCyc_sen]
  · rw [hpll, hu, atCyc_pllLocked]

/-- Settles O13: a job starts at its reference with a calibration (`sensorJobStart_of_row`), and a reference that is good or has failed
leads to the first port that is left, or ends the job (`nextDischarge_of_port`, `nextDischarge_of_none`). -/
theorem dischargesAreTimed : Obligations.DischargesAreTimed := by
  unfold Obligations.DischargesAreTimed
  refine ⟨fun due cal s u hu => ⟨fun h => ?_, fun r rs hmeasuring hjob hrows => ?_⟩, fun stop first again late s h => ⟨?_, ?_⟩,
    fun stop first again j s u hjob hu => ⟨fun hlate => ?_, fun htaken href hsound hclear hwithin => ?_⟩,
    fun late first again j s u hjob href hlast hu => ?_, fun cyc pll cal s u hjob hu => ?_⟩
  · exact congrArg Host.Outcome.next (sensorJobStart_of_idle hu h)
  · exact sensorJobStart_does hu hmeasuring hjob hrows
  · exact congrArg Host.Outcome.next (dischargeStop_of_no_job h)
  · exact congrArg Host.Outcome.next (dischargeMissing_of_no_job h)
  · exact congrArg Host.Outcome.next (dischargeStop_of_late hjob hlate)
  · exact dischargeStop_reference_does hjob hu htaken href hsound hclear hwithin
  · have hover : u.ac.overflows = s.ac.overflows := by rw [hu, atCyc_overflows]
    have htime : u.ac.timeouts = s.ac.timeouts := by rw [hu, atCyc_timeouts]
    rw [← hover, ← htime]
    exact dischargeStopLimit_reference_does hjob href hlast hu
  · exact pllLockLost_of_no_job_leaves_sensors hjob hu

end Sys2Proof.Proofs
end

section
/-! PROOF. The pressure and the internal temperature are converted and judged, and the flow computation completes (R237 to R244, R251,
R341, R536). -/

namespace Sys2Proof.Proofs

open Sys2Proof Sys2Proof.Machine Sys2Proof.Laws

/-! ### What events change -/

theorem EventsOnly_refl (s : State) : EventsOnly s s := rfl

theorem EventsOnly_raiseIf (c : Bool) (e : Raised) (s : State) : EventsOnly s (s.raiseIf c e) := by
  obtain ⟨_, _, _, _, _, h⟩ := raiseIf_only c e s
  rw [h]
  rfl

/-- Beside the value and the count of faults, a faulty measurement changes what events change. -/
theorem EventsOnly_sensorFails (i code : Nat) (quiet : Bool) (e : Raised) (s : State) :
    EventsOnly { s with sen := withFault i code s.sen } (s.sensorFails i code quiet e) :=
  EventsOnly_raiseIf ((s.sen.val i).armed && !quiet) e { s with sen := withFault i code s.sen }

/-! ### The stated time -/

@[simp] theorem atCyc_pressureFrame (s : State) (cyc : Nat) : (s.atCyc cyc).pressureFrame = s.pressureFrame := by
  simp only [State.pressureFrame, atCyc_measuring, atCyc_mode, atCyc_eff, atCyc_frame_number]

@[simp] theorem atCyc_flowDone (s : State) (cyc : Nat) : (s.atCyc cyc).frame.flowDone = s.frame.flowDone := by
  rw [TimeOnly_atCyc s cyc]

@[simp] theorem atCyc_flowStarted (s : State) (cyc : Nat) : (s.atCyc cyc).frame.flowStarted = s.frame.flowStarted := by
  rw [TimeOnly_atCyc s cyc]

@[simp] theorem atCyc_flowReady (s : State) (cyc : Nat) : (s.atCyc cyc).flowReady = s.flowReady := by
  rw [TimeOnly_atCyc s cyc]
  rfl

/-! ### PRESSURE_CONVERSION_START (R237) -/

/-- Excitation starts in a pressure frame that has not had its conversion, and stays on where it is. -/
theorem pressureConversionStart_eq (cyc : Nat) (s : State) :
    pressureConversionStart cyc s = { s.atCyc cyc with
      sen := { s.sen with exciting := s.sen.exciting || (s.pressureFrame && !s.sen.converted) } } := by
  rw [← atCyc_pressureFrame s cyc, ← atCyc_sen s cyc]
  unfold pressureConversionStart
  generalize s.atCyc cyc = u
  dsimp only
  cases hon : u.sen.exciting
  · cases hstart : u.pressureFrame && !u.sen.converted
    · rw [if_neg (by simpa using hstart), Bool.or_self, ← hon]
    · rw [if_pos (by simpa using hstart), Bool.false_or]
  · rw [Bool.not_true, Bool.and_false, Bool.false_and, if_neg Bool.false_ne_true, Bool.true_or, ← hon]

/-! ### PRESSURE_CONVERSION_COMPLETE (R240, R243, R244) -/

/-- The sensors as a pressure conversion ends with the code `raw`. -/
def conversionEnded (raw : Int) (x : Sensors) : Sensors := { x with exciting := false, converted := true, raw := raw }

/-- The sensors with the outcome of a pressure conversion, its fault code and its pressure. -/
def judgedPressure (o : Nat × Nat) (x : Sensors) : Sensors :=
  if o.1 = 0 then x.modVal 4 (Sensed.good o.2 []) else withFault 4 o.1 x

section Pressure

variable {cyc cond : Nat} {k : Int} {s u : State}

theorem pressureConversionComplete_of_idle (h : s.sen.exciting = false) : pressureConversionComplete cyc k cond s = s.atCyc cyc := by
  simp only [pressureConversionComplete, atCyc_sen, h, Bool.not_false, if_true]

/-- A conversion stops the excitation and keeps its code, and its pressure is judged. -/
theorem pressureConversionComplete_judges (hu : u = s.atCyc cyc) (hon : s.sen.exciting = true) :
    EventsOnly
      { u with sen := judgedPressure (s.pressureOutcome (max (-8388608) (min 8388607 k)) cond)
                        (conversionEnded (max (-8388608) (min 8388607 k)) s.sen) }
      (pressureConversionComplete cyc k cond s) := by
  have hclamp : max (-(2 ^ 23)) (min (2 ^ 23 - 1) k) = max (-8388608) (min 8388607 k) := by norm_num
  have hsen : u.sen = s.sen := by rw [hu, atCyc_sen]
  have hout : ∀ raw, State.pressureOutcome { u with sen := conversionEnded raw s.sen } raw cond = s.pressureOutcome raw cond := by
    intro raw
    rw [hu, TimeOnly_atCyc s cyc]
    rfl
  simp only [conversionEnded] at hout ⊢
  simp only [pressureConversionComplete, ← hu, hsen, hon, hclamp, hout, Bool.not_true, Bool.false_eq_true, if_false, judgedPressure]
  split
  · exact EventsOnly_refl _
  · split
    · exact EventsOnly_sensorFails _ _ _ _ _
    · exact EventsOnly_sensorFails _ _ _ _ _

/-- A fault that the converter found is the outcome. -/
theorem pressureOutcome_of_cond (h : cond = 1 ∨ cond = 2 ∨ cond = 6) : s.pressureOutcome k cond = (cond, 0) := if_pos h

/-- The outcome of a conversion concerns the pressure alone. -/
theorem judgedPressure_others (o : Nat × Nat) (x : Sensors) {i : Nat} (h : i ≠ 4) : (judgedPressure o x).vals[i]? = x.vals[i]? := by
  unfold judgedPressure
  split
  · exact modAt_getElem?_other _ _ h
  · exact modAt_getElem?_other _ _ h

/-- Beside the values and the count of faults the outcome of a conversion leaves the sensors. -/
theorem judgedPressure_only (o : Nat × Nat) (x : Sensors) :
    judgedPressure o x = { x with vals := (judgedPressure o x).vals, faults := (judgedPressure o x).faults } := by
  unfold judgedPressure
  split <;> rfl

theorem pressureConversionComplete_does {v : Sensed} (hu : u = s.atCyc cyc) (hon : s.sen.exciting = true)
    (hval : s.sen.vals[4]? = some v) :
    Does (.pressureConversionComplete cyc k cond) s fun t =>
      t.sen.exciting = false ∧ t.sen.converted = true ∧ t.sen.raw = max (-8388608) (min 8388607 k) ∧
      (cond = 1 ∨ cond = 2 ∨ cond = 6 →
        t.sen.vals[4]? = some { v with code := cond, run := v.run + 1, armed := false, measured := true, updated := true } ∧
        t.sen.faults = min (2 ^ 32 - 1) (s.sen.faults + 1)) ∧
      (∀ pa, s.pressureOutcome (max (-8388608) (min 8388607 k)) cond = (0, pa) →
        t.sen.vals[4]? = some { v with code := 0, value := pa, run := 0, armed := true, measured := true, named8 := false,
                                       updated := true, history := [] } ∧
        t.sen.faults = s.sen.faults) ∧
      (∀ i, i ≠ 4 → t.sen.vals[i]? = s.sen.vals[i]?) ∧
      EventsOnly { u with sen := { s.sen with exciting := false, converted := true, raw := t.sen.raw, vals := t.sen.vals,
                                              faults := t.sen.faults } } t := by
  have hjudges := pressureConversionComplete_judges (k := k) (cond := cond) hu hon
  generalize max (-8388608) (min 8388607 k) = raw at hjudges ⊢
  have hsen : (pressureConversionComplete cyc k cond s).sen =
      judgedPressure (s.pressureOutcome raw cond) (conversionEnded raw s.sen) := by rw [hjudges]
  have honly := judgedPressure_only (s.pressureOutcome raw cond) (conversionEnded raw s.sen)
  refine ⟨pressureConversionComplete cyc k cond s, rfl, ?_⟩
  simp only [hsen]
  refine ⟨by rw [honly]; rfl, by rw [honly]; rfl, by rw [honly]; rfl, fun hfault => ?_, fun pa hgood => ?_, fun i hi => judgedPressure_others _ _ hi, ?_⟩
  · have hcode : cond ≠ 0 := by omega
    rw [pressureOutcome_of_cond hfault, judgedPressure, if_neg hcode]
    exact ⟨modAt_getElem?_same _ hval, rfl⟩
  · rw [hgood, judgedPressure, if_pos rfl]
    exact ⟨modAt_getElem?_same _ hval, rfl⟩
  · rw [honly] at hjudges
    rw [honly]
    exact hjudges

end Pressure

/-! ### INTERNAL_TEMP_CONVERSION (R241, R244, R341, R536) -/

/-- Beside the rate of the calendar and the display, only what events change. -/
def RateAndDisplayOnly (u t : State) : Prop :=
  EventsOnly { u with cal := { u.cal with rate := t.cal.rate }, disp := t.disp } t

theorem RateAndDisplayOnly_of_EventsOnly {u t : State} (h : EventsOnly u t) : RateAndDisplayOnly u t := by
  unfold RateAndDisplayOnly
  rw [h]
  rfl

theorem RateAndDisplayOnly_trans {u v t : State} (h1 : RateAndDisplayOnly u v) (h2 : RateAndDisplayOnly v t) :
    RateAndDisplayOnly u t := by
  unfold RateAndDisplayOnly EventsOnly at h1 h2 ⊢
  rw [h1] at h2
  exact h2

theorem RateAndDisplayOnly_formRate (s : State) : RateAndDisplayOnly s s.formRate := by
  unfold State.formRate
  split <;> rfl

theorem RateAndDisplayOnly_reband (θ : Int) (s : State) : RateAndDisplayOnly s (s.reband θ) := by
  simp only [State.reband]
  split
  · split
    · rfl
    · exact RateAndDisplayOnly_trans (v := { s with disp := { s.disp with band := s.bandOf θ } }) rfl
        (RateAndDisplayOnly_of_EventsOnly (EventsOnly_raise _ _))
  · rfl

/-- The sensors after a reading of the internal sensor. -/
def judgedInternal (mk : Int) (selfTest : Bool) (x : Sensors) : Sensors :=
  if selfTest then x.modVal 5 (Sensed.good (fitS 32 (tenths mk)) []) else withFault 5 6 x

theorem intTempDue_iff (s : State) :
    s.intTempDue = true ↔ s.pwr.aoDown = false ∧ s.cal.seconds % (max 1 (s.on_ 0x0B40 2)) = 0 := by
  simp [State.intTempDue]

section Internal

variable {mk : Int} {selfTest : Bool} {s : State}

theorem internalTemp_of_not_due (h : s.pwr.aoDown = true ∨ s.cal.seconds % (max 1 (s.on_ 0x0B40 2)) ≠ 0) :
    internalTemp mk selfTest s = s := by
  refine if_neg fun hdue => ?_
  obtain ⟨hao, hsecond⟩ := (intTempDue_iff s).1 hdue
  simp [hao, hsecond] at h

theorem internalTempConversion_judges (hdue : s.intTempDue = true) :
    EventsOnly { s with sen := judgedInternal mk selfTest s.sen } (internalTempConversion mk selfTest s) := by
  unfold internalTempConversion
  rw [hdue, Bool.not_true, if_neg Bool.false_ne_true]
  cases selfTest
  · exact EventsOnly_sensorFails _ _ _ _ _
  · exact EventsOnly_refl _

/-- A reading that is due is judged; it may form the rate and change the band of the display. -/
theorem internalTemp_judges (hdue : s.intTempDue = true) :
    RateAndDisplayOnly { s with sen := judgedInternal mk selfTest s.sen } (internalTemp mk selfTest s) := by
  have hreading := RateAndDisplayOnly_trans (RateAndDisplayOnly_of_EventsOnly (internalTempConversion_judges (mk := mk)
    (selfTest := selfTest) hdue)) (RateAndDisplayOnly_formRate _)
  simp only [internalTemp, internalTempAll, hdue, if_true]
  split
  · exact RateAndDisplayOnly_trans hreading (RateAndDisplayOnly_reband _ _)
  · exact hreading

theorem internalTempConversion_does {v : Sensed} (hval : s.sen.vals[5]? = some v) (hdue : s.intTempDue = true) :
    Does (.internalTempConversion mk selfTest) s fun t =>
      (selfTest = true → t.sen.vals[5]? = some { v with
        code := 0, value := fitS 32 (tenths mk), run := 0, armed := true, measured := true, named8 := false, updated := true,
        history := [] }) ∧
      (selfTest = false → t.sen.vals[5]? = some { v with
        code := 6, run := v.run + 1, armed := false, measured := true, updated := true } ∧
        t.sen.faults = min (2 ^ 32 - 1) (s.sen.faults + 1)) ∧
      EventsOnly { s with sen := { s.sen with vals := t.sen.vals, faults := t.sen.faults }
                          cal := { s.cal with rate := t.cal.rate }, disp := t.disp } t := by
  have hjudges := internalTemp_judges (mk := mk) (selfTest := selfTest) hdue
  have hsen : (internalTemp mk selfTest s).sen = judgedInternal mk selfTest s.sen := by rw [hjudges]
  refine ⟨internalTemp mk selfTest s, rfl, ?_⟩
  simp only [hsen]
  cases selfTest
  · exact ⟨nofun, fun _ => ⟨modAt_getElem?_same _ hval, rfl⟩, hjudges⟩
  · exact ⟨fun _ => modAt_getElem?_same _ hval, nofun, hjudges⟩

end Internal

/-! ### FLOW_COMPUTATION_COMPLETE (R251, R288) -/

section Flow

variable {cyc : Nat} {s u : State}

/-- The flow computation may not complete: only the time moves. -/
theorem flowComputationComplete_of_idle (hu : u = s.atCyc cyc)
    (h : s.measuring = false ∨ s.frame.flowDone = true ∨ (s.frame.flowStarted = false ∧ s.flowReady = false)) :
    flowComputationComplete cyc s = u := by
  subst hu
  refine if_neg ?_
  simp only [atCyc_measuring, atCyc_flowDone, atCyc_flowStarted, atCyc_flowReady]
  obtain hidle | hdone | ⟨hstarted, hready⟩ := h
  · simp [hidle]
  · simp [hdone]
  · simp [hstarted, hready]

/-- A flow computation leaves an outcome. -/
theorem flowCompute_out (s : State) : s.flowCompute.1.out.isSome = true := rfl

/-- The flow computation that completes: its outcome, the issue slots of its work, its events, and what is counted. -/
theorem flowComputationComplete_eq (hu : u = s.atCyc cyc) (hmeasuring : s.measuring = true) (hdone : s.frame.flowDone = false)
    (hstart : s.frame.flowStarted = true ∨ s.flowReady = true) :
    ∃ slots acts, flowComputationComplete cyc s =
      (State.raiseAll u.flowCompute.2
        { u with flow := u.flowCompute.1
                 frame := { u.frame.work 1 slots with flowStarted := true, flowDone := true } }).count acts := by
  subst hu
  refine ⟨_, _, if_pos ?_⟩
  simp only [atCyc_measuring, atCyc_flowDone, atCyc_flowStarted, atCyc_flowReady, hmeasuring, hdone, Bool.or_eq_true_iff.2 hstart]
  rfl

theorem flowComputationComplete_does (hu : u = s.atCyc cyc) (hmeasuring : s.measuring = true) (hdone : s.frame.flowDone = false)
    (hstart : s.frame.flowStarted = true ∨ s.flowReady = true) :
    Does (.flowComputationComplete cyc) s fun t =>
      t.frame = { u.frame with flowStarted := true, flowDone := true, workSlots := t.frame.workSlots } ∧
      t.flow.out.isSome = true ∧ CountsOnly { u with frame := t.frame, flow := t.flow } t := by
  obtain ⟨slots, acts, heq⟩ := flowComputationComplete_eq hu hmeasuring hdone hstart
  have hout := flowCompute_out u
  refine ⟨flowComputationComplete cyc s, rfl, ?_⟩
  rw [heq]
  generalize u.flowCompute = r at hout ⊢
  simp only [count_frame, raiseAll_frame, count_flow, raiseAll_flow]
  exact ⟨rfl, hout, CountsOnly_trans (CountsOnly_raiseAll _ _) (CountsOnly_count _ _)⟩

end Flow

/-- Settles O15: a conversion of either sensor leaves the sensors as its judgement does (`pressureConversionComplete_judges`,
`internalTemp_judges`), and the flow computation that completes leaves its outcome (`flowComputationComplete_eq`). -/
theorem pressureAndInternalTemperature : Obligations.PressureAndInternalTemperature := by
  unfold Obligations.PressureAndInternalTemperature
  refine ⟨fun cyc s => congrArg Host.Outcome.next (pressureConversionStart_eq cyc s),
    fun cyc cond code s hoff => congrArg Host.Outcome.next (pressureConversionComplete_of_idle hoff),
    fun cyc cond code v s u hu hon hval => pressureConversionComplete_does hu hon hval,
    fun mk selfTest v s hval => ⟨fun hao hsecond => ?_, fun h => congrArg Host.Outcome.next (internalTemp_of_not_due h)⟩,
    fun cyc s u hu => ⟨fun h => congrArg Host.Outcome.next (flowComputationComplete_of_idle hu h), flowComputationComplete_does hu⟩⟩
  exact internalTempConversion_does hval ((intTempDue_iff s).2 ⟨hao, hsecond⟩)

end Sys2Proof.Proofs
end

section
/-! PROOF. The pulse outputs and FTO start and end their pulses (R321 to R323, R327, R328). -/

namespace Sys2Proof.Proofs

open Sys2Proof Sys2Proof.Machine Sys2Proof.Laws

/-! ### One output changes -/

theorem modOut_outs_same {n : Nat} {o : PulseOut} {s : State} (f : PulseOut → PulseOut) (h : s.qty.outs[n]? = some o) :
    (s.modOut n f).qty.outs[n]? = some (f o) :=
  modAt_getElem?_same f h

theorem modOut_outs_other {n k : Nat} (f : PulseOut → PulseOut) (s : State) (h : k ≠ n) :
    (s.modOut n f).qty.outs[k]? = s.qty.outs[k]? :=
  modAt_getElem?_other s.qty.outs f h

theorem outs_getD_of_getElem? {n : Nat} {o : PulseOut} {q : Qty} (h : q.outs[n]? = some o) : q.outs.getD n PulseOut.reset = o := by
  rw [List.getD_eq_getElem?_getD, h, Option.getD_some]

/-! ### PULSE_START (R321 to R323) -/

/-- The condition of R323 for a leading edge of output n, which is as `o`, at the present tick. -/
def pulseMayStart (n : Nat) (o : PulseOut) (u : State) : Prop :=
  (u.frame.running || decide (u.pwr.state = .snuff)) = true ∧ poMode (u.on_ 0x1100 (n + 1)) = 1 ∧ 0 < o.backlog ∧ o.high = false ∧
    o.first ≤ u.frame.absTick ∧ (o.edge.map fun e => e + o.spacing).getD 0 ≤ u.frame.absTick

/-- The leading edge of output n at the present tick of `u`. -/
def PulseOut.started (n : Nat) (u : State) (o : PulseOut) : PulseOut :=
  { o with backlog := o.backlog - 1, high := true, edge := some u.frame.absTick
           ends := u.frame.absTick + poTicks (u.on_ 0x1100 (n + 1)), told := o.told && o.backlog != 1 }

/-- No spacing after the last leading edge is still to come. -/
theorem spacing_passed_iff (o : PulseOut) (t : Nat) :
    (o.edge.map fun e => e + o.spacing).getD 0 ≤ t ↔ ∀ e, o.edge = some e → e + o.spacing ≤ t := by
  cases o.edge <;> simp

section Pulse

variable {n cyc : Nat} {o : PulseOut} {s u : State}

/-- The condition in the terms of the state before the command. -/
theorem pulseMayStart_iff (hu : u = { s with frame := s.frame.at_ cyc }) :
    pulseMayStart n o u ↔ (s.frame.running = true ∨ s.pwr.state = .snuff) ∧ field (s.on_ 0x1100 (n + 1)) 31 30 = 1 ∧
      0 < o.backlog ∧ o.high = false ∧ o.first ≤ u.frame.absTick ∧ ∀ e, o.edge = some e → e + o.spacing ≤ u.frame.absTick := by
  have hrun : (u.frame.running || decide (u.pwr.state = .snuff)) = true ↔ s.frame.running = true ∨ s.pwr.state = .snuff := by
    subst hu
    rw [Bool.or_eq_true_iff, decide_eq_true_iff]
    rfl
  have hmode : poMode (u.on_ 0x1100 (n + 1)) = field (s.on_ 0x1100 (n + 1)) 31 30 := by
    subst hu
    rfl
  rw [pulseMayStart, hrun, hmode, spacing_passed_iff]

theorem pulseStart_of_due (ho : s.qty.outs[n]? = some o) (hu : u = { s with frame := s.frame.at_ cyc }) (h : pulseMayStart n o u) :
    pulseStart n cyc s = u.modOut n (PulseOut.started n u) := by
  subst hu
  rw [← outs_getD_of_getElem? ho] at h
  exact if_pos h

theorem pulseStart_of_not_due (ho : s.qty.outs[n]? = some o) (hu : u = { s with frame := s.frame.at_ cyc })
    (h : ¬ pulseMayStart n o u) : pulseStart n cyc s = u := by
  subst hu
  rw [← outs_getD_of_getElem? ho] at h
  exact if_neg h

/-! ### PULSE_END (R323) -/

theorem pulseEnd_of_due (ho : s.qty.outs[n]? = some o) (hu : u = { s with frame := s.frame.at_ (min cyc (s.frame.cycOfTick o.ends)) })
    (hhigh : o.high = true) (hdue : o.ends ≤ u.frame.absTick) :
    pulseEnd n cyc s = u.modOut n fun o => { o with high := false, count := (o.count + 1) % 2 ^ 48 } := by
  subst hu
  simp only [pulseEnd, outs_getD_of_getElem? ho, hhigh, hdue, decide_true, Bool.and_self, if_true]

theorem pulseEnd_of_not_due (ho : s.qty.outs[n]? = some o)
    (hu : u = { s with frame := s.frame.at_ (min cyc (s.frame.cycOfTick o.ends)) })
    (h : o.high = false ∨ u.frame.absTick < o.ends) : pulseEnd n cyc s = { s with frame := s.frame.at_ cyc } := by
  subst hu
  have hidle : ¬ ((o.high && decide (o.ends ≤ (s.frame.at_ (min cyc (s.frame.cycOfTick o.ends))).absTick)) = true) := by
    simpa [or_iff_not_imp_left] using h
  unfold pulseEnd
  rw [outs_getD_of_getElem? ho]
  exact if_neg hidle

end Pulse

/-- An output that changes alone leaves the other outputs and everything else. -/
theorem modOut_frame (n : Nat) (f : PulseOut → PulseOut) (u : State) :
    (∀ k, k ≠ n → (u.modOut n f).qty.outs[k]? = u.qty.outs[k]?) ∧
      u.modOut n f = { u with qty := { u.qty with outs := (u.modOut n f).qty.outs } } :=
  ⟨fun _ h => modOut_outs_other f u h, rfl⟩

/-! ### FTO_PULSE and FTO_PULSE_END (R327, R328) -/

/-- An active FTO owes a pulse whose place lies in the frame and has come, with its output low. -/
def ftoMayStart (edge cyc : Nat) (s : State) : Prop :=
  s.ftoActive = true ∧ s.qty.fto.begun < s.qty.fto.owed ∧ s.qty.fto.high = false ∧ edge < s.frame.endCyc ∧ edge ≤ cyc

theorem ftoActive_iff (s : State) :
    s.ftoActive = true ↔ s.frame.running = true ∧ s.mode = .verify ∧ bitAt (s.on_ 0x1110 1) 15 = true := by
  simp [State.ftoActive, and_assoc]

theorem ftoPulse_of_due {edge cyc : Nat} {s u : State} (hedge : edge = 4096 + s.qty.fto.begun * s.qty.fto.spacing)
    (hu : u = { s with frame := s.frame.at_ edge }) (h : ftoMayStart edge cyc s) :
    ftoPulse cyc s = { u with
      qty := { s.qty with fto := { s.qty.fto with
        begun := s.qty.fto.begun + 1, high := true, rose := u.frame.now
        falls := u.frame.now + 8 * (s.qty.fto.spacing / 2), count := (s.qty.fto.count + 1) % 2 ^ 48 } } } := by
  subst hu hedge
  obtain ⟨hactive, howed, hlow, hin, hcome⟩ := h
  simp only [ftoPulse, hactive, howed, hlow, hin, hcome, decide_true, Bool.not_false, Bool.and_self, if_true]

theorem ftoPulse_of_not_due {edge cyc : Nat} {s : State} (hedge : edge = 4096 + s.qty.fto.begun * s.qty.fto.spacing)
    (h : ¬ ftoMayStart edge cyc s) : ftoPulse cyc s = { s with frame := s.frame.at_ cyc } := by
  subst hedge
  refine if_neg fun hdue => h ?_
  simpa [ftoMayStart, and_assoc] using hdue

theorem ftoPulseEnd_of_due {cyc : Nat} {s u : State}
    (hu : u = { s with frame := s.frame.at_ (min cyc ((s.qty.fto.falls - s.frame.base + 7) / 8)) })
    (hhigh : s.qty.fto.high = true) (hdue : s.qty.fto.falls ≤ u.frame.now) :
    ftoPulseEnd cyc s = { u with qty := { s.qty with fto := { s.qty.fto with high := false } } } := by
  subst hu
  simp only [ftoPulseEnd, hhigh, hdue, decide_true, Bool.and_self, if_true]

theorem ftoPulseEnd_of_not_due {cyc : Nat} {s u : State}
    (hu : u = { s with frame := s.frame.at_ (min cyc ((s.qty.fto.falls - s.frame.base + 7) / 8)) })
    (h : s.qty.fto.high = false ∨ u.frame.now < s.qty.fto.falls) : ftoPulseEnd cyc s = { s with frame := s.frame.at_ cyc } := by
  subst hu
  refine if_neg ?_
  simpa [or_iff_not_imp_left] using h

/-- Settles O28: each of the four commands acts where its condition stands (`pulseMayStart`, `ftoMayStart`, the end of a pulse that
has come) and only moves the time where it does not. -/
theorem pulsesStartAndEnd : Obligations.PulsesStartAndEnd := by
  unfold Obligations.PulsesStartAndEnd
  refine ⟨fun n cyc o s u ho hu => ⟨fun hrun hmode hback hlow hfirst hspace => ?_, fun h => ?_⟩,
    fun n cyc o s u ho hu => ⟨fun hhigh hdue => ?_, fun h => congrArg Host.Outcome.next (pulseEnd_of_not_due ho hu h)⟩,
    fun edge cyc u s hedge hu => ⟨fun hrun hmode henabled howed hlow hin hcome => congrArg Host.Outcome.next
      (ftoPulse_of_due hedge hu ⟨(ftoActive_iff s).2 ⟨hrun, hmode, henabled⟩, howed, hlow, hin, hcome⟩), fun h => ?_⟩,
    fun cyc u s hu => ⟨fun hhigh hdue => congrArg Host.Outcome.next (ftoPulseEnd_of_due hu hhigh hdue),
      fun h => congrArg Host.Outcome.next (ftoPulseEnd_of_not_due hu h)⟩⟩
  · have hstart := (pulseMayStart_iff (n := n) (o := o) hu).2 ⟨hrun, hmode, hback, hlow, hfirst, hspace⟩
    refine ⟨_, congrArg Host.Outcome.next (pulseStart_of_due ho hu hstart), ?_⟩
    subst hu
    exact ⟨modOut_outs_same _ ho, modOut_frame n _ _⟩
  · refine congrArg Host.Outcome.next (pulseStart_of_not_due ho hu fun hstart => ?_)
    obtain ⟨hrun, hmode, hback, hlow, hfirst, hspace⟩ := (pulseMayStart_iff hu).1 hstart
    obtain ⟨hstop, hawake⟩ | hother | hnone | hhigh | hearly | ⟨e, he, hclose⟩ := h
    · simp [hstop, hawake] at hrun
    · exact hother hmode
    · omega
    · simp [hhigh] at hlow
    · omega
    · exact absurd (hspace e he) (Nat.not_le.2 hclose)
  · refine ⟨_, congrArg Host.Outcome.next (pulseEnd_of_due ho hu hhigh hdue), ?_⟩
    subst hu
    exact ⟨modOut_outs_same _ ho, modOut_frame n _ _⟩
  · refine congrArg Host.Outcome.next (ftoPulse_of_not_due hedge fun hstart => ?_)
    obtain ⟨hactive, howed, hlow, hin, hcome⟩ := hstart
    obtain ⟨hrun, hmode, henabled⟩ := (ftoActive_iff s).1 hactive
    obtain h | h | h | h | h | h | h := h
    · simp [h] at hrun
    · exact h hmode
    · simp [h] at henabled
    · omega
    · simp [h] at hlow
    · omega
    · omega

end Sys2Proof.Proofs
end

section
/-! PROOF. The read-back ends the commit slot (R310, R478, R559, R601), and SYNO returns to its inactive level (R77). -/

namespace Sys2Proof.Proofs

open Sys2Proof Sys2Proof.Machine Sys2Proof.Laws

/-! ### The stated time -/

/-- What a stated time changes, as `TimeOnly` says, with the parts of the power manager, the calendar, the security block and the
counters told apart: the time of the frame, the pins, the power domains that an end of WICK switches, and what RTC ticks and
counting change. -/
def TimePasses (u t : State) : Prop :=
  t = { u with
    frame := { u.frame with cyc := t.frame.cyc, done := t.frame.done, ceCyc := t.frame.ceCyc, ceFrom := t.frame.ceFrom }
    ac := { u.ac with hdEnd := t.ac.hdEnd, crossbar := t.ac.crossbar, links := t.ac.links, drives := t.ac.drives }
    cal := { u.cal with prescaler := t.cal.prescaler, owed := t.cal.owed, window := t.cal.window }
    acc := { u.acc with lockout := t.acc.lockout }
    perf := { u.perf with counts := t.perf.counts, ovf := t.perf.ovf }
    events := t.events, bkLatches := t.bkLatches
    pwr := { u.pwr with
      state := t.pwr.state, doms := t.pwr.doms, mtime := t.pwr.mtime, wakePending := t.pwr.wakePending
      lastWake := t.pwr.lastWake, res := t.pwr.res, backoff := t.pwr.backoff } }

theorem TimePasses_trans {u v t : State} (h1 : TimePasses u v) (h2 : TimePasses v t) : TimePasses u t := by
  unfold TimePasses at h1 h2 ⊢
  rw [h1] at h2
  exact h2

theorem TimePasses_at (s : State) (cyc : Nat) : TimePasses s (State.settlePins { s with frame := s.frame.at_ cyc }) := by
  obtain ⟨_, _, _, _, _, h⟩ := settlePins_only { s with frame := s.frame.at_ cyc }
  rw [h]
  rfl

theorem TimePasses_elapse (s : State) : TimePasses s s.elapse := by
  obtain ⟨_, _, _, _, _, _, _, _, _, _, _, _, _, _, h⟩ := elapse_only s
  rw [h]
  rfl

theorem TimePasses_toPower (p : PState) (s : State) : TimePasses s (s.toPower p) := by
  refine TimePasses_trans (TimePasses_elapse s) ?_
  simp only [State.toPower]
  split <;> rfl

theorem TimePasses_leaveWick (source : Nat) (s : State) : TimePasses s (s.leaveWick source) := by
  simp only [State.leaveWick]
  split
  · refine TimePasses_trans (TimePasses_toPower .run s) ?_
    generalize s.toPower .run = v
    split <;> split <;> rfl
  · rfl

theorem TimePasses_atCyc (s : State) (cyc : Nat) : TimePasses s (s.atCyc cyc) := by
  refine TimePasses_trans (TimePasses_at s cyc) ?_
  simp only [State.atCyc]
  split
  · exact TimePasses_toPower .run _
  · exact TimePasses_leaveWick _ _

/-! ### The commit is judged (R310, R312, R379) -/

/-- The quantity engine once the commit of record `c` has been read back, well or not. -/
def Qty.judged (c : Commit) (ok : Bool) (q : Qty) : Qty :=
  { q with
    writing := none, failed := !ok, failRun := if ok then 0 else q.failRun + 1
    fails := if ok then q.fails else min (2 ^ 32 - 1) (q.fails + 1), oneBank := q.oneBank && !ok
    banks := setAt q.banks q.nextBank (if ok then some c else none) }

theorem wroteWell_of_writing {q : Qty} {c : Commit} (h : q.writing = some c) (diff : List (Nat × Nat)) :
    q.wroteWell diff = c.checks diff := by
  simp only [Qty.wroteWell, h, Option.map_some, Option.getD_some]

theorem readBack_of_writing {q : Qty} {c : Commit} (h : q.writing = some c) (ok : Bool) :
    q.readBack ok = { q with writing := none, banks := setAt q.banks q.nextBank (if ok then some c else none) } := by
  simp only [Qty.readBack, h]

theorem judge_of_writing {q : Qty} {c : Commit} (h : q.writing = some c) (ok : Bool) : (q.judge ok).1 = Qty.judged c ok q := by
  cases ok
  · simp [Qty.judge, readBack_of_writing h, Qty.judged, satInc]
  · simp [Qty.judge, readBack_of_writing h, Qty.judged]

/-- The state that the read-back of the boundary commit of record `c` leaves, but for its events. -/
def slotJudged (c : Commit) (ok : Bool) (s : State) : State :=
  { s with
    qty := Qty.judged c ok s.qty
    bill := { s.bill with groupDue := ok && s.bill.group.isSome, heldAt := if ok then none else s.bill.heldAt }
    frame := { s.frame with committing := false } }

theorem commitJudged_eq {s : State} {c : Commit} (h : s.qty.writing = some c) (diff : List (Nat × Nat)) :
    ∃ es, s.commitJudged diff = (slotJudged c (c.checks diff) s).raiseAll es := by
  refine ⟨(s.qty.judge (c.checks diff)).2, ?_⟩
  simp only [State.commitJudged, slotJudged, wroteWell_of_writing h, judge_of_writing h]

/-! ### What follows the read-back in the commit slot -/

/-- The snapshot record of the counters is queued where the frame has one (R601). -/
def withPerfRecord (s : State) : State := if s.perfDue && decide (0 < s.pwr.boundaries) then s.emit s.perfRecord else s

theorem resultHost_spiIn (select : Nat) (sirq : Bool) (r : Record) (q : Queues) : (q.resultHost select sirq r).spiIn = q.spiIn := by
  unfold Queues.resultHost
  split
  · rfl
  · split
    · dsimp only
      split <;> rfl
    · rfl

theorem resultCore_spiIn (select : Nat) (r : Record) (q : Queues) : (q.resultCore select r).spiIn = q.spiIn := by
  unfold Queues.resultCore
  split
  · rfl
  · split
    · dsimp only
      split <;> rfl
    · rfl

theorem withPerfRecord_only (s : State) :
    ∃ q, withPerfRecord s = { s with q := q } ∧ q.spiIn = s.q.spiIn ∧ (s.perfDue = false → q = s.q) := by
  unfold withPerfRecord
  cases hdue : s.perfDue
  · exact ⟨s.q, rfl, rfl, fun _ => rfl⟩
  · split
    · exact ⟨_, rfl, (resultCore_spiIn _ _ _).trans (resultHost_spiIn _ _ _ _), nofun⟩
    · exact ⟨s.q, rfl, rfl, nofun⟩

/-- The core's reserved time begins where the frame has some (R559). -/
def withReservation (s : State) : State := if s.coreReserved then s.reserveCore else s

theorem withReservation_only (s : State) :
    ∃ w h, withReservation s = { s with core := { s.core with l18 := s.core.l18 || s.coreReserved, wfi := w, hold := h } } := by
  unfold withReservation
  cases hres : s.coreReserved
  · exact ⟨s.core.wfi, s.core.hold, by simp⟩
  · obtain ⟨w, h⟩ := coreWake_only (s.modCore fun c => { c with l18 := true })
    refine ⟨w, w.isNone, ?_⟩
    rw [if_pos rfl, State.reserveCore, h]
    simp [State.modCore]

/-- With no request waiting there is nothing to serve (R451, R452). -/
theorem serveAll_of_none {s : State} (hwaiting : s.acc.waiting = []) (hspi : s.q.spiIn = []) : s.serveAll = s := by
  have hnone : s.serveWaiting = s := by
    rw [State.serveWaiting, hwaiting, List.foldl_nil, ← hwaiting]
  simp only [State.serveAll, hnone, hspi, List.length_nil, State.drainSpi]

/-! ### COMMIT_COMPLETE -/

/-- The end of the commit slot up to its judgement (R74, R310, R478). -/
def slotEnd (diff : List (Nat × Nat)) (s : State) : State := (((s.atCyc 3840).elapse).swapPd).commitJudged diff

theorem commitComplete_of_no_slot {s : State} (h : s.frame.running = false ∨ s.frame.committing = false) (diff : List (Nat × Nat)) :
    commitComplete diff s = s := by
  refine if_pos ?_
  obtain h | h := h <;> simp [h]

/-- Without a reset, SNUFF or TAPER_EXIT accepted, the snapshot record, the reservation and the waiting requests follow. -/
theorem commitComplete_of_slot {diff : List (Nat × Nat)} {s : State} (hrun : s.frame.running = true)
    (hcommit : s.frame.committing = true) (hexit : (withPerfRecord (slotEnd diff s)).pwr.taperExit = false)
    (hcommand : (withPerfRecord (slotEnd diff s)).pwr.command = 0) :
    commitComplete diff s = ((withReservation (withPerfRecord (slotEnd diff s))).serveAll).coreWake := by
  unfold commitComplete
  rw [hrun, hcommit, if_neg (by decide)]
  extract_lets s1 s2
  have h2 : s2 = withPerfRecord (slotEnd diff s) := rfl
  clear_value s2
  subst h2
  rw [if_neg (by rw [hexit]; decide), if_neg (by rw [hcommand]; decide), if_neg (by rw [hcommand]; decide)]
  rfl

theorem swapPd_eq (s : State) : s.swapPd = { s with iol := if 3200 ≤ s.frame.cyc then s.iol.swapPd else s.iol } := by
  by_cases hcyc : 3200 ≤ s.frame.cyc
  · rw [if_pos hcyc]
    exact if_pos hcyc
  · rw [if_neg hcyc]
    exact if_neg hcyc

/-- Beside the judgement and the swap, the end of the slot changes what ticks and events change. -/
theorem Ticked_slotEnd {s : State} {c : Commit} (h : s.qty.writing = some c) (diff : List (Nat × Nat)) :
    Ticked (slotJudged c (c.checks diff) (s.atCyc 3840).swapPd) (slotEnd diff s) := by
  have hwriting : ((s.atCyc 3840).elapse.swapPd).qty.writing = some c := by
    rw [swapPd_eq, elapse_qty, TimePasses_atCyc s 3840]
    exact h
  obtain ⟨es, heq⟩ := commitJudged_eq hwriting diff
  unfold slotEnd
  rw [heq]
  obtain ⟨_, _, _, _, _, hraise⟩ := raiseAll_only es (slotJudged c (c.checks diff) ((s.atCyc 3840).elapse.swapPd))
  obtain ⟨_, _, _, _, _, _, _, _, _, _, _, _, _, _, helapse⟩ := elapse_only (s.atCyc 3840)
  rw [hraise, helapse, swapPd_eq, swapPd_eq]
  rfl

theorem Ticked_withQueuesAndCore {u t : State} (h : Ticked u t) (q : Queues) (core : AppCore) :
    Ticked { u with q := q, core := core } { t with q := q, core := core } := by
  unfold Ticked at h ⊢
  rw [h]

/-- After the judgement the record queues, the reserved time of the core and its wake are all that changes. -/
theorem slotRest_only {u : State} (hwaiting : u.acc.waiting = []) (hspi : u.q.spiIn = []) :
    ∃ q w h, (u.perfDue = false → q = u.q) ∧
      ((withReservation (withPerfRecord u)).serveAll).coreWake = { u with
        q := q, core := { u.core with l18 := u.core.l18 || u.coreReserved, wfi := w, hold := h } } := by
  obtain ⟨q, hq, hqspi, hdue⟩ := withPerfRecord_only u
  obtain ⟨_, h, hres⟩ := withReservation_only (withPerfRecord u)
  have hserve : (withReservation (withPerfRecord u)).serveAll = withReservation (withPerfRecord u) :=
    serveAll_of_none (by rw [hres, hq]; exact hwaiting) (by rw [hres, hq]; exact hqspi.trans hspi)
  obtain ⟨w, hwake⟩ := coreWake_only (withReservation (withPerfRecord u))
  refine ⟨q, w, h, hdue, ?_⟩
  rw [hserve, hwake, hres, hq]
  rfl

section Slot

variable {diff : List (Nat × Nat)} {c : Commit} {s : State}

/-- What stands through the end of the slot, as the steps after it read it. -/
theorem slotEnd_stands (hwriting : s.qty.writing = some c) :
    (slotEnd diff s).pwr.taperExit = s.pwr.taperExit ∧ (slotEnd diff s).pwr.command = s.pwr.command ∧
      (slotEnd diff s).acc.waiting = s.acc.waiting ∧ (slotEnd diff s).q = s.q ∧ (slotEnd diff s).core = s.core ∧
      (slotEnd diff s).perfDue = s.perfDue ∧ (slotEnd diff s).coreReserved = s.coreReserved := by
  rw [Ticked_slotEnd hwriting diff, swapPd_eq, TimePasses_atCyc s 3840]
  exact ⟨rfl, rfl, rfl, rfl, rfl, rfl, rfl⟩

theorem slotEnd_qty (hwriting : s.qty.writing = some c) : (slotEnd diff s).qty = Qty.judged c (c.checks diff) s.qty := by
  rw [Ticked_slotEnd hwriting diff, swapPd_eq, TimePasses_atCyc s 3840]
  rfl

theorem commitComplete_eq (hrun : s.frame.running = true) (hcommit : s.frame.committing = true)
    (hexit : s.pwr.taperExit = false) (hcommand : s.pwr.command = 0) (hwaiting : s.acc.waiting = []) (hspi : s.q.spiIn = [])
    (hwriting : s.qty.writing = some c) :
    ∃ q w h, (s.perfDue = false → q = s.q) ∧
      commitComplete diff s = { slotEnd diff s with
        q := q, core := { s.core with l18 := s.core.l18 || s.coreReserved, wfi := w, hold := h } } := by
  obtain ⟨sexit, scommand, swaiting, sq, score, sdue, sreserved⟩ := slotEnd_stands (diff := diff) hwriting
  obtain ⟨q, w, h, hdue, hrest⟩ := slotRest_only (swaiting.trans hwaiting) ((congrArg Queues.spiIn sq).trans hspi)
  obtain ⟨_, hq, -, -⟩ := withPerfRecord_only (slotEnd diff s)
  rw [score, sreserved] at hrest
  rw [sdue, sq] at hdue
  refine ⟨q, w, h, hdue, (commitComplete_of_slot hrun hcommit ?_ ?_).trans hrest⟩
  · rw [hq]
    exact sexit.trans hexit
  · rw [hq]
    exact scommand.trans hcommand

end Slot

/-- Settles O4: the steps of the commit slot in their order, its judgement (`Ticked_slotEnd`) and what follows it
(`commitComplete_eq`). -/
theorem commitCompleteEndsTheCommitSlot : Obligations.CommitCompleteEndsTheCommitSlot := by
  unfold Obligations.CommitCompleteEndsTheCommitSlot
  refine ⟨fun diff c ok s hrun hcommit hexit hcommand hwaiting hspi hwriting hok => ?_,
    fun s h diff => congrArg Host.Outcome.next (commitComplete_of_no_slot h diff),
    fun s => ⟨fun h => congrArg Host.Outcome.next (if_neg (by simp [h])), fun h => congrArg Host.Outcome.next (if_pos h)⟩⟩
  obtain ⟨q, w, h, hdue, heq⟩ := commitComplete_eq (diff := diff) hrun hcommit hexit hcommand hwaiting hspi hwriting
  have hticked := Ticked_slotEnd hwriting diff
  have hqty : (slotEnd diff s).qty = _ := slotEnd_qty hwriting
  rw [← hok] at hticked hqty
  refine ⟨_, congrArg Host.Outcome.next heq, congrArg Qty.writing hqty, congrArg Qty.failed hqty, congrArg Qty.failRun hqty,
    congrArg Qty.fails hqty, congrArg Qty.banks hqty, rfl, hdue, ?_⟩
  have hrest := Ticked_withQueuesAndCore hticked q { s.core with l18 := s.core.l18 || s.coreReserved, wfi := w, hold := h }
  refine (congrArg (Ticked · _) ?_).mpr hrest
  dsimp only
  rw [hqty, swapPd_eq, TimePasses_atCyc s 3840]
  rfl

end Sys2Proof.Proofs
end

section
/-! PROOF. A brownout commits the partial frame and holds AO; the hold ends in a start or in DARK (R314, R405, R413, R414, R417,
R423). -/

namespace Sys2Proof.Proofs

open Sys2Proof Sys2Proof.Machine Sys2Proof.Laws

/-! ### The power state while time passes -/

theorem raiseAll_pwr_of_no_wake (es : List Raised) (s : State) (h : ∀ e ∈ es, wakeEvent e.ev = false) :
    (s.raiseAll es).pwr = s.pwr := by
  induction es generalizing s with
  | nil => rfl
  | cons e es ih =>
    calc (s.raiseAll (e :: es)).pwr
        = ((s.raise e).raiseAll es).pwr := rfl
      _ = (s.raise e).pwr := ih _ fun x hx => h x (List.mem_cons_of_mem e hx)
      _ = s.pwr := raise_pwr e s (h e List.mem_cons_self)

/-- A pass over a counter block raises PERF_OVERFLOW alone (R592). -/
theorem countBlock_raises_overflow (b : Nat) (sel amount : Nat → Nat) (n i carry : Nat) (cs : List Nat) (os : List Bool) :
    ∀ e ∈ (countBlock b sel amount n i carry cs os).2.2, e.ev = 60 := by
  induction n generalizing i carry cs os with
  | zero => exact nofun
  | succ n ih =>
    unfold countBlock
    extract_lets add v wraps cs1 os1 r chained
    have hrest : ∀ e ∈ r.2.2, e.ev = 60 := ih _ _ _ _
    intro e he
    by_cases hwraps : wraps = 0
    · exact hrest e (by simpa only [hwraps, if_true] using he)
    · simp only [hwraps, if_false, List.mem_append, List.mem_singleton] at he
      obtain he | rfl := he
      · exact hrest e he
      · rfl

theorem count1_pwr (a : Act) (s : State) : (s.count1 a).pwr = s.pwr := by
  unfold State.count1
  split
  · refine raiseAll_pwr_of_no_wake _ _ fun e he => ?_
    rw [countBlock_raises_overflow _ _ _ _ _ _ _ _ e he]
    rfl
  · rfl

/-- Counting wakes nothing: PERF_OVERFLOW is no wake event (Table 1.10). -/
theorem count_pwr (acts : List Act) (s : State) : (s.count acts).pwr = s.pwr := by
  induction acts generalizing s with
  | nil => rfl
  | cons a acts ih => exact (ih (s.count1 a)).trans (count1_pwr a s)

theorem elapse_pwr_state (s : State) : s.elapse.pwr.state = s.pwr.state := by
  unfold State.elapse State.elapseBy
  dsimp only
  split
  · rfl
  · rw [State.passTicks, count_pwr]

theorem toPower_state (p : PState) (s : State) : (s.toPower p).pwr.state = p := by
  simp only [State.toPower]
  split
  · assumption
  · rfl

/-! ### A brownout wakes the device (R405, R409) -/

theorem TimePasses_at_ (s : State) (cyc : Nat) : TimePasses s { s with frame := s.frame.at_ cyc } := rfl

theorem TimePasses_raise (e : Raised) (s : State) : TimePasses s (s.raise e) := by
  obtain ⟨_, _, _, _, _, h⟩ := raise_only e s
  rw [h]
  rfl

theorem leaveWick_state {s : State} (source : Nat) (h : s.pwr.state = .run ∨ s.pwr.state = .wick) :
    (s.leaveWick source).pwr.state = .run := by
  unfold State.leaveWick
  split
  · have hrun := toPower_state .run s
    generalize s.toPower .run = v at hrun
    dsimp only
    split <;> exact hrun
  · next hwick => exact h.resolve_right hwick

theorem emergency_of_wick {s : State} (h : s.pwr.state = .wick) : s.emergency =
    { s.leaveWick 36 with pwr := Power.powered { (s.leaveWick 36).pwr with doms := s.pwr.doms } 3 } := if_pos h

theorem emergency_of_awake {s : State} (h : s.pwr.state ≠ .wick) : s.emergency = s := (if_neg h).trans (if_neg h)

theorem TimePasses_emergency (s : State) : TimePasses s s.emergency := by
  by_cases h : s.pwr.state = .wick
  · rw [emergency_of_wick h]
    exact TimePasses_trans (TimePasses_leaveWick 36 s) rfl
  · rw [emergency_of_awake h]
    rfl

theorem emergency_state {s : State} (h : s.pwr.state = .run ∨ s.pwr.state = .wick) : s.emergency.pwr.state = .run := by
  by_cases hwick : s.pwr.state = .wick
  · rw [emergency_of_wick hwick]
    exact leaveWick_state 36 h
  · rw [emergency_of_awake hwick]
    exact h.resolve_right hwick

/-- In WICK a brownout powers CE (R405). -/
theorem emergency_ready {s : State} (hwick : s.pwr.state = .wick) (hdoms : s.pwr.doms.length = 6) :
    (s.emergency.pwr.dom 3).ready = true := by
  have h3 : 3 < s.pwr.doms.length := by omega
  rw [emergency_of_wick hwick]
  simp [Power.powered, Power.setDoms, Power.dom, domRequires, modAt_eq_modify, List.getD_eq_getElem?_getD, h3]

/-- The frame at a brownout: its time has passed, BROWNOUT has been raised, and CE runs. -/
def brownedOut (cyc supply vcap : Nat) (s : State) : State :=
  let u := State.elapse { s with frame := s.frame.at_ cyc }
  (u.raise (brownoutEvent (decide (u.pwr.state = .wick)) supply vcap)).emergency

theorem TimePasses_brownedOut (cyc supply vcap : Nat) (s : State) : TimePasses s (brownedOut cyc supply vcap s) :=
  TimePasses_trans (TimePasses_at_ s cyc) (TimePasses_trans (TimePasses_elapse _)
    (TimePasses_trans (TimePasses_raise _ _) (TimePasses_emergency _)))

/-- BROWNOUT is a wake event: it ends DOZE, and waits in WICK. -/
theorem raise_brownout_state (emergency : Bool) (supply vcap : Nat) (s : State) :
    (s.raise (brownoutEvent emergency supply vcap)).pwr.state = if s.pwr.state = .doze then .run else s.pwr.state := by
  show (s.pwr.wake 36).state = _
  cases h : s.pwr.state <;> simp [Power.wake, wakeEvent, h]

section BrownedOut

variable {cyc supply vcap : Nat} {s : State}

theorem brownedOut_state (h : s.pwr.state = .run ∨ s.pwr.state = .doze ∨ s.pwr.state = .wick) :
    (brownedOut cyc supply vcap s).pwr.state = .run := by
  refine emergency_state ?_
  rw [raise_brownout_state, elapse_pwr_state]
  obtain h | h | h := h <;> simp [h]

theorem brownedOut_ready (hwick : s.pwr.state = .wick) (hdoms : s.pwr.doms.length = 6) :
    ((brownedOut cyc supply vcap s).pwr.dom 3).ready = true := by
  refine emergency_ready ?_ ?_
  · rw [raise_brownout_state, elapse_pwr_state]
    simp [hwick]
  · rw [raise_pwr_doms, elapse_pwr_doms]
    exact hdoms

end BrownedOut

/-! ### The log and the commit under way (R310, R314, R580) -/

theorem logNow_only (ev : Nat) (s : State) : ∃ es log, s.logNow ev = { s with events := es, log := log } := by
  unfold State.logNow
  split
  · exact ⟨_, _, rfl⟩
  · split
    · exact ⟨_, _, rfl⟩
    · exact ⟨_, _, rfl⟩

/-- The quantity engine once a commit under way in the slot of the frame has ended. -/
def commitEnded (diff : List (Nat × Nat)) (s : State) : Qty :=
  if s.frame.committing then (s.qty.judge (s.qty.wroteWell diff)).1 else s.qty

theorem finishCommit_awake (diff : List (Nat × Nat)) {s : State} (h : s.pwr.state = .run) :
    ∃ b f ev bk, s.finishCommit diff = { s with
      qty := commitEnded diff s, bill := b, frame := { s.frame with committing := f }, events := ev, bkLatches := bk } := by
  unfold State.finishCommit commitEnded
  split
  · obtain ⟨ev, bk, heq⟩ := raiseAll_awake (s.qty.judge (s.qty.wroteWell diff)).2
      { s with
        qty := (s.qty.judge (s.qty.wroteWell diff)).1
        bill := { s.bill with groupDue := s.qty.wroteWell diff && s.bill.group.isSome
                              heldAt := if s.qty.wroteWell diff then none else s.bill.heldAt }
        frame := { s.frame with committing := false } } (wake_run s.pwr h)
    exact ⟨_, _, ev, bk, heq⟩
  · exact ⟨_, _, _, _, rfl⟩

/-! ### The partial frame (R314, R316) -/

/-- Of the quantity engine all but the commit banks, the billing engine and pending events may have changed. -/
structure Feeds (u t : State) : Prop where
  banks : t.qty.banks = u.qty.banks
  outside : t = { u with qty := t.qty, bill := t.bill, events := t.events, bkLatches := t.bkLatches }

theorem Feeds_trans {u v t : State} (h1 : Feeds u v) (h2 : Feeds v t) : Feeds u t where
  banks := h2.banks.trans h1.banks
  outside := by
    have hv := h1.outside
    have ht := h2.outside
    rw [hv] at ht
    exact ht

theorem Feeds_accumulate (o : FlowOut) (ticks : Nat) (s : State) : Feeds s (s.accumulate o ticks).1 := by
  unfold State.accumulate
  split
  · exact ⟨rfl, rfl⟩
  · exact ⟨rfl, rfl⟩

theorem Feeds_charge (g : Gain) (s : State) : Feeds s (s.charge g).1 := by
  unfold State.charge
  split
  · exact ⟨rfl, rfl⟩
  · exact ⟨rfl, rfl⟩

theorem Feeds_billGain (g : Gain) (s : State) : Feeds s (s.billGain g).1 := by
  unfold State.billGain
  extract_lets _ s1 r
  have h1 : Feeds s s1 := ⟨rfl, rfl⟩
  exact Feeds_trans (Feeds_trans h1 (Feeds_charge g s1)) ⟨rfl, rfl⟩

theorem Feeds_feedPulses (old : State) (g : Gain) {s : State} (h : s.pwr.state = .run) : Feeds s (State.feedPulses old g s) := by
  unfold State.feedPulses
  extract_lets r
  obtain ⟨_, _, heq⟩ := raiseAll_awake (r.flatMap fun x => x.2)
    { s with qty := { s.qty with outs := r.map fun x => x.1 } } (wake_run s.pwr h)
  rw [heq]
  exact ⟨rfl, rfl⟩

/-- The registers, the billing engine and the outputs take the partial frame. -/
theorem Feeds_partial (o : FlowOut) (ticks : Nat) {s : State} (h : s.pwr.state = .run) :
    Feeds s (State.feedPulses s ((s.accumulate o ticks).1.billGain (s.accumulate o ticks).2).2
      ((s.accumulate o ticks).1.billGain (s.accumulate o ticks).2).1) := by
  have hgain := Feeds_trans (Feeds_accumulate o ticks s) (Feeds_billGain (s.accumulate o ticks).2 _)
  refine Feeds_trans hgain (Feeds_feedPulses s _ ?_)
  rw [hgain.outside]
  exact h

/-- A partial frame ends the frame and leaves its record under way. -/
theorem partialCommit_awake {s : State} (h : s.pwr.state = .run) :
    ∃ c : Commit, c.partial_ = true ∧ c.frame = s.frame.number ∧ ∃ q fl b ev bk, q.writing = some c ∧ q.banks = s.qty.banks ∧
      s.partialCommit = { s with
        qty := q, bill := b, flow := fl, cal := s.cal.copyTamper, events := ev, bkLatches := bk
        frame := { s.frame with running := false }, pwr := { s.pwr with finalDue := true }, disp := s.disp.stop } := by
  unfold State.partialCommit
  extract_lets o q b s1 s2 group
  have hfed : Feeds s s1 := Feeds_partial o s.frame.tick h
  clear_value s1
  obtain ⟨q', b', ev, bk, hbanks, rfl⟩ : ∃ q' b' ev bk, q'.banks = s.qty.banks ∧
      s1 = { s with qty := q', bill := b', events := ev, bkLatches := bk } := ⟨_, _, _, _, hfed.banks, hfed.outside⟩
  exact ⟨s2.record s2.frame.number true group, rfl, rfl, s2.qty.write (s2.record s2.frame.number true group), s2.flow,
    s2.bill.torn, ev, bk, rfl, hbanks, rfl⟩

/-! ### BROWNOUT (R314, R405) -/

/-- What a brownout makes of a frame whose device is awake. -/
theorem partialCommit_after_commit {v : State} (diff : List (Nat × Nat)) (h : v.pwr.state = .run) :
    ∃ c : Commit, c.partial_ = true ∧ c.frame = v.frame.number ∧ ∃ q fl b f ev bk log,
      q.writing = some c ∧ q.banks = (commitEnded diff v).banks ∧
      ((v.logNow 36).finishCommit diff).partialCommit = { v with
        qty := q, bill := b, flow := fl, cal := v.cal.copyTamper, events := ev, bkLatches := bk, log := log
        frame := { v.frame with running := false, committing := f }, pwr := { v.pwr with finalDue := true }, disp := v.disp.stop } := by
  obtain ⟨_, log, hlog⟩ := logNow_only 36 v
  rw [hlog]
  obtain ⟨_, f, _, _, hfinish⟩ := finishCommit_awake diff (s := { v with events := _, log := log }) h
  rw [hfinish]
  obtain ⟨c, hpartial, hframe, q, fl, b, ev, bk, hwriting, hbanks, heq⟩ := partialCommit_awake (s := { v with
    qty := commitEnded diff v, bill := _, frame := { v.frame with committing := f }, events := _, bkLatches := _, log := log }) h
  exact ⟨c, hpartial, hframe, q, fl, b, f, ev, bk, log, hwriting, hbanks, heq⟩

section Brownout

variable {cyc supply vcap : Nat} {diff : List (Nat × Nat)} {s : State}

theorem brownout_of_down_or_writing (h : s.pwr.aoDown = true ∨ (s.frame.running = false ∧ s.qty.writing ≠ none)) :
    brownout cyc supply vcap diff s = s := by
  unfold brownout
  obtain h | ⟨hstop, hwriting⟩ := h
  · exact if_pos h
  · have hsome : s.qty.writing.isSome = true := Option.isSome_iff_ne_none.2 hwriting
    rw [hstop, hsome]
    split
    · rfl
    · rfl

theorem brownout_of_open (hup : s.pwr.aoDown = false) (hrun : s.frame.running = true) :
    brownout cyc supply vcap diff s = (((brownedOut cyc supply vcap s).logNow 36).finishCommit diff).partialCommit :=
  (if_neg (by simp [hup])).trans (if_pos hrun)

theorem brownout_commits_partial_frame {bank : Qty} (hup : s.pwr.aoDown = false) (hrun : s.frame.running = true)
    (hawake : s.pwr.state = .run ∨ s.pwr.state = .doze ∨ s.pwr.state = .wick) (hbank : bank = commitEnded diff s) :
    Does (.brownout cyc supply vcap diff) s fun t =>
      t.frame.running = false ∧ t.pwr.state = .run ∧ t.pwr.finalDue = true ∧ t.frame.number = s.frame.number ∧
      (∃ c, t.qty.writing = some c ∧ c.partial_ = true ∧ c.frame = s.frame.number) ∧ t.qty.banks = bank.banks ∧
      (s.pwr.state = .wick → s.pwr.doms.length = 6 → (t.pwr.dom 3).ready = true) ∧
      t.mem = s.mem ∧ t.set = s.set ∧ t.acc = { s.acc with lockout := t.acc.lockout } := by
  have hstate := brownedOut_state (cyc := cyc) (supply := supply) (vcap := vcap) hawake
  have hready := brownedOut_ready (cyc := cyc) (supply := supply) (vcap := vcap) (s := s)
  have hpass := TimePasses_brownedOut cyc supply vcap s
  obtain ⟨c, hpartial, hframe, q, fl, b, f, ev, bk, log, hwriting, hbanks, heq⟩ := partialCommit_after_commit diff hstate
  refine ⟨_, congrArg Host.Outcome.next ((brownout_of_open hup hrun).trans heq), ?_⟩
  generalize brownedOut cyc supply vcap s = v at *
  have hnumber : v.frame.number = s.frame.number := by rw [hpass]
  have hended : commitEnded diff v = commitEnded diff s := by rw [hpass]; rfl
  refine ⟨rfl, hstate, rfl, hnumber, ⟨c, hwriting, hpartial, hframe.trans hnumber⟩, ?_, hready, ?_, ?_, ?_⟩
  · rw [hbank, ← hended]
    exact hbanks
  · rw [hpass]
  · rw [hpass]
  · show v.acc = { s.acc with lockout := v.acc.lockout }
    rw [hpass]

/-- BROWNOUT is raised with no frame open; it is what woke a device in SNUFF (R413). -/
def brownedOutClosed (supply vcap : Nat) (s : State) : State :=
  let u := s.raise (brownoutEvent false supply vcap)
  { u with pwr := { u.pwr with lastWake := if s.pwr.state = .snuff then 36 else u.pwr.lastWake } }

theorem brownout_of_closed (hup : s.pwr.aoDown = false) (hstop : s.frame.running = false) (hwriting : s.qty.writing = none) :
    brownout cyc supply vcap diff s = ((brownedOutClosed supply vcap s).logNow 36).toHold := by
  unfold brownout
  rw [if_neg (by simp [hup]), if_neg (by simp [hstop]), if_neg (by simp [hwriting])]
  rfl

/-- The hold keeps what a reset keeps. -/
theorem toHold_keeps (s : State) :
    s.toHold.pwr.state = .hold ∧ s.toHold.qty.banks = s.qty.banks ∧ s.toHold.cal = s.cal ∧ s.toHold.frame.number = s.frame.number ∧
      s.toHold.acc.replay = s.acc.replay ∧ s.toHold.pwr.finalDue = s.pwr.finalDue ∧ s.toHold.pwr.lastWake = s.pwr.lastWake :=
  ⟨rfl, rfl, rfl, rfl, rfl, rfl, rfl⟩

theorem brownout_holds_at_once (hup : s.pwr.aoDown = false) (hstop : s.frame.running = false) (hwriting : s.qty.writing = none) :
    Does (.brownout cyc supply vcap diff) s fun t =>
      t.pwr.state = .hold ∧ t.qty.banks = s.qty.banks ∧ t.cal = s.cal ∧
      t.pwr.lastWake = (if s.pwr.state = .snuff then 36 else s.pwr.lastWake) := by
  refine ⟨_, congrArg Host.Outcome.next (brownout_of_closed hup hstop hwriting), ?_⟩
  obtain ⟨hstate, hbanks, hcal, -, -, -, hwake⟩ := toHold_keeps ((brownedOutClosed supply vcap s).logNow 36)
  obtain ⟨_, _, hlog⟩ := logNow_only 36 (brownedOutClosed supply vcap s)
  refine ⟨hstate, hbanks.trans ?_, hcal.trans ?_, hwake.trans ?_⟩
  · rw [hlog]
    rfl
  · rw [hlog]
    rfl
  · rw [hlog]
    simp only [brownedOutClosed, raise_pwr_lastWake]

end Brownout

/-! ### The final commit is read back (R314) -/

theorem readFinal_of_writing {s : State} {c : Commit} (h : s.qty.writing = some c) (diff : List (Nat × Nat)) :
    ∃ b, s.readFinal diff = { s with
      qty := { s.qty with writing := none, banks := setAt s.qty.banks s.qty.nextBank (if c.checks diff then some c else none) }
      bill := b } := by
  refine ⟨(s.readFinal diff).bill, ?_⟩
  simp only [State.readFinal, wroteWell_of_writing h, readBack_of_writing h]

theorem finalCommitComplete_of_none {s : State} (diff : List (Nat × Nat))
    (h : s.frame.running = true ∨ (s.qty.writing.map Commit.partial_).getD false = false) : finalCommitComplete diff s = s := by
  refine if_pos ?_
  obtain h | h := h <;> simp [h]

theorem finalCommitComplete_of_partial {s : State} {c : Commit} (diff : List (Nat × Nat)) (hstop : s.frame.running = false)
    (hwriting : s.qty.writing = some c) (hpartial : c.partial_ = true) : finalCommitComplete diff s = (s.readFinal diff).toHold :=
  if_neg (by simp [hstop, hwriting, hpartial])

/-! ### The hold ends (R414, R417, R423) -/

/-- Closing the open history entry leads to a start with the reason, whatever the history holds (R422, R423). -/
theorem closeEntry_only (reason : Nat) (p : Power) : ∃ history failed,
    p.closeEntry reason = { p with history := history, failedStarts := failed, open_ := false, endReason := reason } := by
  unfold Power.closeEntry
  split
  · split
    · exact ⟨_, _, rfl⟩
    · next hopen => exact ⟨_, _, by rw [← Bool.eq_false_of_not_eq_true hopen]⟩
  · exact ⟨_, _, rfl⟩

theorem brownoutHoldRecovery_of_hold {s : State} (h : s.pwr.state = .hold) : ∃ history failed backoff,
    brownoutHoldRecovery s = { s with pwr := { s.pwr with
      state := .starting, endReason := 2, open_ := false, history := history, failedStarts := failed, backoff := backoff } } := by
  obtain ⟨history, failed, hclose⟩ := closeEntry_only 2 s.pwr
  refine ⟨history, failed, (s.pwr.closeEntry 2).waitTicks, (if_pos h).trans ?_⟩
  rw [hclose]

theorem vcapHoldLost_of_reset {s : State} (h : s.pwr.state = .hold ∨ (s.pwr.state = .starting ∧ s.pwr.nrst = true)) :
    vcapHoldLost s = { s with pwr := { s.pwr with state := .dark, endReason := 1, backoff := 0 } } :=
  if_pos (by simpa using h)

theorem vcapHoldLost_of_other {s : State} (hhold : s.pwr.state ≠ .hold) (h : s.pwr.state ≠ .starting ∨ s.pwr.nrst = false) :
    vcapHoldLost s = s :=
  if_neg (by simpa [hhold, or_iff_not_imp_left] using h)

/-- Settles O24: BROWNOUT by its three cases, the read-back of the final commit, and each end of the hold. -/
theorem brownoutEndsInTheHold : Obligations.BrownoutEndsInTheHold := by
  unfold Obligations.BrownoutEndsInTheHold
  refine ⟨fun cyc supply vcap diff s => ⟨fun h => congrArg Host.Outcome.next (brownout_of_down_or_writing h),
      fun bank hup hrun hawake hbank => brownout_commits_partial_frame hup hrun hawake hbank, brownout_holds_at_once⟩,
    fun diff s => ⟨fun h => congrArg Host.Outcome.next (finalCommitComplete_of_none diff (h.imp_right fun hnone => by simp [hnone])),
      fun c hstop hwriting => ⟨fun hwhole => congrArg Host.Outcome.next
        (finalCommitComplete_of_none diff (.inr (by simp [hwriting, hwhole]))), fun hpartial => ?_⟩⟩,
    fun s => ⟨fun h => congrArg Host.Outcome.next (if_neg h), fun h => ?_,
      fun hhold h => congrArg Host.Outcome.next (vcapHoldLost_of_other hhold h),
      fun h => congrArg Host.Outcome.next (vcapHoldLost_of_reset h)⟩,
    fun s => ⟨fun h => congrArg Host.Outcome.next (if_neg h), fun h => ?_⟩⟩
  · obtain ⟨b, hread⟩ := readFinal_of_writing hwriting diff
    refine ⟨_, congrArg Host.Outcome.next (finalCommitComplete_of_partial diff hstop hwriting hpartial), ?_⟩
    obtain ⟨hstate, hbanks, hcal, hnumber, hreplay, hdue, -⟩ := toHold_keeps (s.readFinal diff)
    rw [hread] at *
    exact ⟨hstate, hbanks, hcal, hnumber, hreplay, hdue⟩
  · obtain ⟨_, _, _, heq⟩ := brownoutHoldRecovery_of_hold h
    exact ⟨_, congrArg Host.Outcome.next heq, rfl, rfl, rfl, rfl⟩
  · exact ⟨_, congrArg Host.Outcome.next (if_pos h), rfl, rfl, rfl, rfl, rfl, rfl, rfl, rfl, rfl⟩

end Sys2Proof.Proofs
end

section
/-! PROOF. The second edge (R333, R347, R349, R350) and the trim window (R342). -/

namespace Sys2Proof.Proofs

open Sys2Proof Sys2Proof.Machine Sys2Proof.Laws

/-! ### A setting that is written is in force at once (R452) -/

theorem eff_of_written {s t : State} {k v : Nat} (h : t.set = s.set.write k v) : t.eff k = v := by
  simp only [State.eff, h]
  exact Pairs_get_set_same _ _ _ _

theorem other_of_written {s t : State} {k v : Nat} (h : t.set = s.set.write k v) {j : Nat} (hj : j ≠ k) :
    t.eff j = s.eff j ∧ t.get j = s.get j := by
  simp only [State.eff, State.get, h]
  exact ⟨Pairs_get_set_other _ _ _ _ _ hj, Pairs_get_set_other _ _ _ _ _ hj⟩

/-! ### RTC ticks pass (R333) -/

/-- RTC ticks have passed, whatever has become of the frame's time. -/
def TicksPassed (u t : State) : Prop := Ticked { u with frame := t.frame } t

theorem TicksPassed_trans {u v t : State} (h1 : TicksPassed u v) (h2 : TicksPassed v t) : TicksPassed u t := by
  unfold TicksPassed Ticked at h1 h2 ⊢
  rw [h1] at h2
  exact h2

theorem TicksPassed_frame (s : State) (f : Frame) : TicksPassed s { s with frame := f } := rfl

theorem TicksPassed_elapseBy (n : Nat) (s : State) : TicksPassed s (s.elapseBy n) := by
  unfold State.elapseBy
  split
  · rfl
  · obtain ⟨_, _, _, _, _, _, _, _, _, h⟩ := passTicks_only n
      { s with cal := s.cal.pass n, acc := { s.acc with lockout := s.acc.lockout.map fun x => x - n } }
    rw [h]
    rfl

theorem TicksPassed_elapse (s : State) : TicksPassed s s.elapse :=
  TicksPassed_trans (TicksPassed_frame s _) (TicksPassed_elapseBy _ _)

theorem TicksPassed_runTicks (n : Nat) (s : State) : TicksPassed s (s.runTicks n) :=
  TicksPassed_trans (TicksPassed_elapse s) (TicksPassed_trans (TicksPassed_frame _ _) (TicksPassed_elapseBy _ _))

/-- What the second edge reads stands while ticks pass, but for the prescaler and the steps that wait. -/
theorem TicksPassed_stands {u t : State} (h : TicksPassed u t) :
    t.set = u.set ∧ t.cal = { u.cal with prescaler := t.cal.prescaler, owed := t.cal.owed, window := t.cal.window } := by
  unfold TicksPassed Ticked at h
  rw [h]
  exact ⟨rfl, rfl⟩

/-! ### The second edge (R349) -/

theorem applyRule_of_off {s : State} (h : bitAt (s.on_ 0x0501 2) 0 = false) : s.applyRule = s :=
  if_neg (by simp [h])

/-- A rule that fires turns the flag, beside the list of changes and what events change. -/
theorem applyRule_of_fires {s : State} (hon : bitAt (s.on_ 0x0501 2) 0 = true) (hcalend : s.cal.calend = false)
    (hfires : ruleFires (s.on_ 0x0501 3) (s.on_ 0x0501 4) s.cal = true) :
    ∃ changes, EventsOnly { s with cal := { s.cal with dst := !s.cal.dst, changes := changes } } s.applyRule := by
  rw [State.applyRule, if_pos (by simp [hon, hcalend, hfires])]
  exact ⟨_, EventsOnly_raise _ _⟩

theorem fireAlarm_of_none {s : State} (h : s.on_ 0x0504 1 = 0) : s.fireAlarm = s :=
  if_neg (by simp [h])

/-- An alarm that fires moves on by its period, beside what events change. -/
theorem fireAlarm_of_due {s : State} (hset : s.on_ 0x0504 1 ≠ 0) (hdue : s.on_ 0x0504 1 = s.cal.seconds) :
    EventsOnly { s with set := s.set.write (key 0x0504 1) ((s.on_ 0x0504 1 + s.on_ 0x0504 2) % 2 ^ 48) } s.fireAlarm := by
  rw [State.fireAlarm, if_pos ⟨hset, hdue⟩]
  exact EventsOnly_raise _ _

/-- Inside the supported range the edge advances the seconds counter, and CALEND stands (R337). -/
theorem edge_of_inside {c : Cal} (h : c.seconds < 12622780799) :
    c.edge = { c with seconds := c.seconds + 1, prescaler := min 32767 (c.owed - 1), owed := c.owed - 1 - 32767 } := by
  have hseconds : (c.seconds + 1) % 2 ^ 48 = c.seconds + 1 := Nat.mod_eq_of_lt (by omega)
  have hcalend : (c.calend || decide (calLast < c.seconds + 1)) = c.calend := by
    have hlast : calLast = 12622780799 := rfl
    rw [decide_eq_false (by omega), Bool.or_false]
  rw [Cal.edge, hseconds, hcalend]
  rfl

/-- A rule fires at an edge inside the range where the local time that the flag shows is the moment at which it turns (R347). -/
theorem ruleFires_of_moment {forward back year : Nat} {c : Cal} (hcalend : c.calend = false)
    (hyear : year = (Fields.of (c.seconds + if c.dst then 3600 else 0)).year)
    (hforward : c.dst = false → c.seconds = ruleMoment forward year)
    (hback : c.dst = true → c.seconds + 3600 = ruleMoment back year) : ruleFires forward back c = true := by
  have htime : c.localTime = c.seconds + if c.dst then 3600 else 0 := by
    rw [Cal.localTime, hcalend, if_neg Bool.false_ne_true]
    cases c.dst <;> rfl
  rw [ruleFires, htime, ← hyear]
  cases hdst : c.dst
  · simpa using hforward hdst
  · simpa using hback hdst

/-- Without a rule or an alarm the edge is that of the counter alone. -/
theorem secondEdge_of_off {s : State} (hrules : bitAt (s.on_ 0x0501 2) 0 = false) (halarm : s.on_ 0x0504 1 = 0) :
    s.secondEdge = { s with cal := s.cal.edge } := by
  rw [State.secondEdge, applyRule_of_off (by exact hrules), fireAlarm_of_none (by exact halarm)]

theorem secondEdge_of_alarm {s : State} (hrules : bitAt (s.on_ 0x0501 2) 0 = false) (hset : s.on_ 0x0504 1 ≠ 0)
    (hdue : s.on_ 0x0504 1 = (s.cal.seconds + 1) % 2 ^ 48) :
    EventsOnly { s with
      cal := s.cal.edge
      set := s.set.write (key 0x0504 1) ((s.on_ 0x0504 1 + s.on_ 0x0504 2) % 2 ^ 48) } s.secondEdge := by
  rw [State.secondEdge, applyRule_of_off (by exact hrules)]
  exact fireAlarm_of_due (s := { s with cal := s.cal.edge }) hset hdue

/-- A rule that fires at the edge turns the flag; without an alarm that is all. -/
theorem secondEdge_of_rule {s : State} (hon : bitAt (s.on_ 0x0501 2) 0 = true) (halarm : s.on_ 0x0504 1 = 0)
    (hcalend : s.cal.edge.calend = false)
    (hfires : ruleFires (s.on_ 0x0501 3) (s.on_ 0x0501 4) s.cal.edge = true) :
    ∃ changes, EventsOnly { s with cal := { s.cal.edge with dst := !s.cal.dst, changes := changes } } s.secondEdge := by
  obtain ⟨changes, hrule⟩ := applyRule_of_fires (s := { s with cal := s.cal.edge }) hon hcalend hfires
  refine ⟨changes, ?_⟩
  rw [State.secondEdge, fireAlarm_of_none]
  · exact hrule
  · rw [hrule]
    exact halarm

/-! ### CALENDAR_SECOND (R349) -/

section Second

variable {s u : State} (hu : u = s.elapse.runTicks s.elapse.cal.periodsLeft)

include hu

theorem calendarSecond_eq : exec .calendarSecond s = .next u.secondEdge := by
  rw [hu]
  rfl

/-- What is left of the second passes: beside the time of the frame, only what ticks change. -/
theorem secondOver_stands : TicksPassed s u ∧ u.set = s.set ∧ u.cal.seconds = s.cal.seconds ∧ u.cal.calend = s.cal.calend ∧
    u.cal.dst = s.cal.dst := by
  have h : TicksPassed s u := hu ▸ TicksPassed_trans (TicksPassed_elapse s) (TicksPassed_runTicks _ _)
  obtain ⟨hset, hcal⟩ := TicksPassed_stands h
  rw [hcal]
  exact ⟨h, hset, rfl, rfl, rfl⟩

theorem secondOver_on_ (index sub : Nat) : u.on_ index sub = s.on_ index sub := by
  obtain ⟨-, hset, -⟩ := secondOver_stands hu
  simp only [State.on_, State.eff, hset]

theorem calendarSecond_of_off (hrules : bitAt (s.on_ 0x0501 2) 0 = false) (halarm : s.on_ 0x0504 1 = 0) :
    exec .calendarSecond s = .next { u with cal := { u.cal with
      seconds := (s.cal.seconds + 1) % 2 ^ 48, prescaler := min 32767 (u.cal.owed - 1), owed := u.cal.owed - 1 - 32767
      calend := s.cal.calend || decide (12622780799 < s.cal.seconds + 1) } } := by
  obtain ⟨-, -, hseconds, hcalend, -⟩ := secondOver_stands hu
  rw [calendarSecond_eq hu, ← hseconds, ← hcalend]
  exact congrArg Host.Outcome.next
    (secondEdge_of_off (by rwa [secondOver_on_ hu]) (by rwa [secondOver_on_ hu]))

theorem calendarSecond_of_alarm (hrules : bitAt (s.on_ 0x0501 2) 0 = false) (halarm : s.on_ 0x0504 1 ≠ 0)
    (hdue : s.on_ 0x0504 1 = (s.cal.seconds + 1) % 2 ^ 48) :
    Does .calendarSecond s fun t =>
      t.cal.seconds = s.on_ 0x0504 1 ∧ t.on_ 0x0504 1 = (s.on_ 0x0504 1 + s.on_ 0x0504 2) % 2 ^ 48 ∧
      (∀ k, k ≠ key 0x0504 1 → t.eff k = s.eff k ∧ t.get k = s.get k) ∧
      EventsOnly { u with cal := { u.cal with seconds := t.cal.seconds, prescaler := t.cal.prescaler, owed := t.cal.owed
                                              calend := t.cal.calend }, set := t.set } t := by
  obtain ⟨-, hset, hseconds, -⟩ := secondOver_stands hu
  have hedge := secondEdge_of_alarm (s := u) (by rwa [secondOver_on_ hu]) (by rwa [secondOver_on_ hu])
    (by rwa [secondOver_on_ hu, hseconds])
  rw [secondOver_on_ hu, secondOver_on_ hu, hset] at hedge
  have hwritten : u.secondEdge.set = s.set.write (key 0x0504 1) ((s.on_ 0x0504 1 + s.on_ 0x0504 2) % 2 ^ 48) := by rw [hedge]
  have hcal : u.secondEdge.cal = u.cal.edge := by rw [hedge]
  refine ⟨_, calendarSecond_eq hu, ?_, eff_of_written hwritten, fun k hk => other_of_written hwritten hk, ?_⟩
  · rw [hcal, hdue, ← hseconds]
    rfl
  · rw [hwritten, hcal]
    exact hedge

theorem calendarSecond_of_rule {year : Nat} (hon : bitAt (s.on_ 0x0501 2) 0 = true) (halarm : s.on_ 0x0504 1 = 0)
    (hcalend : s.cal.calend = false) (hinside : s.cal.seconds < 12622780799)
    (hyear : year = (Fields.of (s.cal.seconds + 1 + if s.cal.dst then 3600 else 0)).year)
    (hforward : s.cal.dst = false → s.cal.seconds + 1 = ruleMoment (s.on_ 0x0501 3) year)
    (hback : s.cal.dst = true → s.cal.seconds + 1 + 3600 = ruleMoment (s.on_ 0x0501 4) year) :
    Does .calendarSecond s fun t =>
      t.cal.seconds = s.cal.seconds + 1 ∧ t.cal.dst = (!s.cal.dst) ∧
      EventsOnly { u with cal := { u.cal with seconds := t.cal.seconds, prescaler := t.cal.prescaler, owed := t.cal.owed
                                              dst := t.cal.dst, changes := t.cal.changes } } t := by
  obtain ⟨-, -, hseconds, hcal, hdst⟩ := secondOver_stands hu
  have hedge := edge_of_inside (c := u.cal) (by rwa [hseconds])
  rw [hseconds] at hedge
  have eseconds : u.cal.edge.seconds = s.cal.seconds + 1 := by rw [hedge]
  have edst : u.cal.edge.dst = s.cal.dst := hdst
  have ecalend : u.cal.edge.calend = false := by
    rw [hedge]
    exact hcal.trans hcalend
  have hfires : ruleFires (s.on_ 0x0501 3) (s.on_ 0x0501 4) u.cal.edge = true :=
    ruleFires_of_moment ecalend (by simp only [eseconds, edst]; exact hyear)
      (fun h => eseconds.trans (hforward (edst.symm.trans h)))
      (fun h => (congrArg (· + 3600) eseconds).trans (hback (edst.symm.trans h)))
  rw [← secondOver_on_ hu, ← secondOver_on_ hu] at hfires
  obtain ⟨changes, hrule⟩ := secondEdge_of_rule (by rwa [secondOver_on_ hu]) (by rwa [secondOver_on_ hu]) ecalend hfires
  rw [hedge] at hrule
  have htcal : u.secondEdge.cal = { u.cal with
      seconds := s.cal.seconds + 1, prescaler := min 32767 (u.cal.owed - 1), owed := u.cal.owed - 1 - 32767
      dst := !u.cal.dst, changes := changes } := by rw [hrule]
  refine ⟨_, calendarSecond_eq hu, congrArg Cal.seconds htcal, ?_, ?_⟩
  · rw [htcal, ← hdst]
  · rw [htcal]
    exact hrule

end Second

/-! ### TRIM_WINDOW_START (R342) -/

theorem stepsIn_zero (c : Cal) : c.stepsIn 0 = 0 := by
  simp [Cal.stepsIn]

/-- The corrections of the window that starts, before they are rounded. -/
def correctionsDue (s : State) : Rat := quo (s.rtcRate * (trimPeriods : Rat)) 1000000000 + quo (s.cal.carry : Rat) 65536

/-- The window starts with its corrections, its carry and the periods already passed; with no such period no step is added or left
out. -/
theorem trimWindowStart_eq (s : State) : ∃ total,
    trimWindowStart s = { s with cal := Cal.count total { s.cal with
      trim := roundAway (correctionsDue s)
      carry := roundAway (65536 * (correctionsDue s - (roundAway (correctionsDue s) : Rat)))
      window := s.cal.window - trimPeriods } } ∧
    (s.cal.window ≤ 8388608 → total = s.cal.prescaler + s.cal.owed) := by
  refine ⟨_, rfl, fun h => ?_⟩
  have hgone : s.cal.window - trimPeriods = 0 := Nat.sub_eq_zero_of_le h
  rw [hgone, stepsIn_zero, Nat.add_zero, Nat.sub_zero]

/-- Settles O18: the second edge by its rules (`secondEdge_of_off`, `secondEdge_of_alarm`, `secondEdge_of_rule`) where what is left
of the second has passed, and the trim window by `trimWindowStart_eq`. -/
theorem theCalendarAdvances : Obligations.TheCalendarAdvances := by
  unfold Obligations.TheCalendarAdvances
  refine ⟨fun s u hu => ?_, fun s => ?_⟩
  · obtain ⟨hticks, -, hseconds, -⟩ := secondOver_stands hu
    exact ⟨hseconds, hticks, calendarSecond_of_off hu, calendarSecond_of_alarm hu, fun year => calendarSecond_of_rule hu⟩
  · have hperiods : (trimPeriods : Rat) = 8388608 := Nat.cast_ofNat
    obtain ⟨total, hstart, htotal⟩ := trimWindowStart_eq s
    refine ⟨_, rfl, ?_⟩
    rw [hstart, ← hperiods]
    exact ⟨⟨rfl, rfl⟩, rfl, fun h => htotal h ▸ ⟨rfl, rfl⟩⟩

end Sys2Proof.Proofs
end

section
/-! PROOF. The tamper inputs are sampled (R352, R353). -/

namespace Sys2Proof.Proofs

open Sys2Proof Sys2Proof.Machine Sys2Proof.Laws

/-! ### One sample of one input (R352, R353) -/

theorem setAt_eq_set {α : Type} (l : List α) (n : Nat) (a : α) : setAt l n a = l.set n a := by
  induction l generalizing n with
  | nil => cases n <;> rfl
  | cons x xs ih => cases n <;> simp [setAt, ih]

/-- DEBOUNCE fits the run of samples, which ends at 8. -/
theorem debounce_le_run_iff (config n : Nat) : field config 2 0 ≤ min 8 n ↔ field config 2 0 ≤ n := by
  have hdebounce : field config 2 0 < 8 := Nat.mod_lt _ (by decide)
  omega

section Sample

variable {config seconds : Nat} {level : Bool} {x : Tamper}

theorem sample_of_inactive (h : bitAt config 7 = false ∨ bitAt config 3 ≠ level) :
    x.sample config seconds level = ({ x with run := 0 }, false) := by
  unfold Tamper.sample
  cases hon : bitAt config 7
  · rfl
  · have hlevel : level ≠ bitAt config 3 := (h.resolve_left (by simp [hon])).symm
    simp [hlevel]

variable (hon : bitAt config 7 = true) (hlevel : bitAt config 3 = level)

include hon hlevel

theorem sample_of_active : x.sample config seconds level =
    if field config 2 0 ≤ x.run + 1 ∧ (x.run < field config 2 0 ∨ x.latch = false) then
      ({ x with run := min 8 (x.run + 1), latch := true, last := seconds, first := if x.latch then x.first else seconds
                count := min (2 ^ 32 - 1) (x.count + 1) }, true)
    else ({ x with run := min 8 (x.run + 1) }, false) := by
  simp only [Tamper.sample, hon, hlevel, debounce_le_run_iff, satInc, Bool.not_true, Bool.false_eq_true, if_false, bne_self_eq_false]

theorem sample_of_qualified (hrun : field config 2 0 ≤ x.run + 1) (hnew : x.run < field config 2 0 ∨ x.latch = false) :
    (x.sample config seconds level).1 = { x with
      run := min 8 (x.run + 1), latch := true, first := if x.latch then x.first else seconds, last := seconds
      count := min (2 ^ 32 - 1) (x.count + 1) } := by
  rw [sample_of_active hon hlevel, if_pos ⟨hrun, hnew⟩]

theorem sample_of_unqualified (h : x.run + 1 < field config 2 0 ∨ (field config 2 0 ≤ x.run ∧ x.latch = true)) :
    (x.sample config seconds level).1 = { x with run := min 8 (x.run + 1) } := by
  rw [sample_of_active hon hlevel, if_neg]
  rintro ⟨hrun, hnew⟩
  obtain hshort | ⟨hlong, hlatch⟩ := h
  · exact absurd hrun (Nat.not_le.2 hshort)
  · exact hnew.elim (Nat.not_lt.2 hlong) (by simp [hlatch])

end Sample

/-! ### TAMPER_SAMPLE -/

/-- Beside the tamper inputs, only what events change. -/
def TamperOnly (u t : State) : Prop := EventsOnly { u with cal := { u.cal with tamper := t.cal.tamper } } t

theorem TamperOnly_trans {u v t : State} (h1 : TamperOnly u v) (h2 : TamperOnly v t) : TamperOnly u t := by
  unfold TamperOnly EventsOnly at h1 h2 ⊢
  rw [h1] at h2
  exact h2

/-- What a sample reads of the settings and the calendar stands. -/
theorem TamperOnly_stands {u t : State} (h : TamperOnly u t) : t.set = u.set ∧ t.cal.seconds = u.cal.seconds := by
  unfold TamperOnly EventsOnly at h
  rw [h]
  exact ⟨rfl, rfl⟩

/-- An input as a sample of the levels leaves it, in the settings and at the second of a state. -/
def sampledIn (levels : List Bool) (s : State) (i : Nat) (x : Tamper) : Tamper :=
  (x.sample (s.on_ 0x0505 (i + 1)) s.cal.seconds (levels.getD i false)).1

theorem sampledIn_of_TamperOnly {u t : State} (h : TamperOnly u t) (levels : List Bool) (i : Nat) (x : Tamper) :
    sampledIn levels t i x = sampledIn levels u i x := by
  obtain ⟨hset, hseconds⟩ := TamperOnly_stands h
  simp only [sampledIn, State.on_, State.eff, hset, hseconds]

section Inputs

variable (levels : List Bool) (s : State)

theorem sampleTamper_tamper (i : Nat) :
    (s.sampleTamper levels i).cal.tamper = s.cal.tamper.set i (sampledIn levels s i (s.cal.tamper.getD i Tamper.reset)) := by
  simp only [State.sampleTamper, raiseIf_cal, setAt_eq_set, sampledIn]

theorem TamperOnly_sampleTamper (i : Nat) : TamperOnly s (s.sampleTamper levels i) := by
  unfold TamperOnly
  rw [sampleTamper_tamper, ← setAt_eq_set]
  exact EventsOnly_raiseIf _ _ _

theorem sampleTamper_same {i : Nat} {x : Tamper} (h : s.cal.tamper[i]? = some x) :
    (s.sampleTamper levels i).cal.tamper[i]? = some (sampledIn levels s i x) := by
  obtain ⟨hlt, -⟩ := List.getElem?_eq_some_iff.1 h
  rw [sampleTamper_tamper, List.getElem?_set_self hlt, List.getD_eq_getElem?_getD, h, Option.getD_some]

theorem sampleTamper_other {i k : Nat} (h : k ≠ i) : (s.sampleTamper levels k).cal.tamper[i]? = s.cal.tamper[i]? := by
  rw [sampleTamper_tamper, List.getElem?_set_ne h]

end Inputs

theorem TamperOnly_foldl (levels : List Bool) (ns : List Nat) (s : State) :
    TamperOnly s (ns.foldl (State.sampleTamper levels) s) := by
  induction ns generalizing s with
  | nil => rfl
  | cons n ns ih => exact TamperOnly_trans (TamperOnly_sampleTamper levels s n) (ih _)

theorem foldl_sampleTamper_other (levels : List Bool) {ns : List Nat} {i : Nat} (hi : i ∉ ns) (s : State) :
    (ns.foldl (State.sampleTamper levels) s).cal.tamper[i]? = s.cal.tamper[i]? := by
  induction ns generalizing s with
  | nil => rfl
  | cons n ns ih =>
    have hne : n ≠ i := fun heq => hi (heq ▸ List.mem_cons_self)
    exact (ih (fun hns => hi (List.mem_cons_of_mem n hns)) _).trans (sampleTamper_other levels s hne)

/-- Sampling each of some inputs once leaves each of them as its own sample does. -/
theorem foldl_sampleTamper_mem (levels : List Bool) {ns : List Nat} (hnodup : ns.Nodup) {i : Nat} (hi : i ∈ ns) {x : Tamper}
    {s : State} (h : s.cal.tamper[i]? = some x) :
    (ns.foldl (State.sampleTamper levels) s).cal.tamper[i]? = some (sampledIn levels s i x) := by
  induction ns generalizing s with
  | nil => cases hi
  | cons n ns ih =>
    obtain ⟨hn, hns⟩ := List.nodup_cons.1 hnodup
    obtain rfl | hi := List.mem_cons.1 hi
    · exact (foldl_sampleTamper_other levels hn _).trans (sampleTamper_same levels s h)
    · have hne : n ≠ i := fun heq => hn (heq ▸ hi)
      rw [← sampledIn_of_TamperOnly (TamperOnly_sampleTamper levels s n)]
      exact ih hns hi ((sampleTamper_other levels s hne).trans h)

theorem TamperOnly_tamperSample (levels : List Bool) (s : State) : TamperOnly s (tamperSample levels s) :=
  TamperOnly_foldl levels _ s

theorem tamperSample_input (levels : List Bool) {i : Nat} (hi : i < 3) {x : Tamper} {s : State} (h : s.cal.tamper[i]? = some x) :
    (tamperSample levels s).cal.tamper[i]? = some (sampledIn levels s i x) :=
  foldl_sampleTamper_mem levels List.nodup_range (List.mem_range.2 hi) h

/-- Settles O19: each input is left as its own sample leaves it (`tamperSample_input`), by the three cases of a sample. -/
theorem tamperInputsLatch : Obligations.TamperInputsLatch := by
  unfold Obligations.TamperInputsLatch
  intro a b m i x s hx hi
  have hinput := tamperSample_input [a, b, m] hi hx
  refine ⟨_, rfl, fun hon hlevel => ⟨fun hrun hnew => ?_, fun h => ?_⟩, fun h => ?_, TamperOnly_tamperSample _ s⟩
  · rw [hinput, sampledIn, sample_of_qualified hon hlevel hrun hnew]
  · rw [hinput, sampledIn, sample_of_unqualified hon hlevel h]
  · rw [hinput, sampledIn, sample_of_inactive h]

end Sys2Proof.Proofs
end

section
/-! PROOF. The supply of BK switches over, its state is lost, and a lockout ends (R355 to R357, R448, Table 10.4). -/

namespace Sys2Proof.Proofs

open Sys2Proof Sys2Proof.Machine Sys2Proof.Laws

/-! ### BACKUP_SWITCHOVER (R355) -/

/-- The calendar with the supplies as their voltages leave them, on the source there was. -/
def suppliesSeen (vmain vbat vbkp : Nat) (c : Cal) : Cal :=
  { c with vmain := supplyPresent c.vmain 2600 2500 vmain, vbat := supplyPresent c.vbat 2100 2000 vbat
           vbkp := decide (1500 ≤ vbkp) }

/-- The source that those supplies give. -/
def sourceSeen (vmain vbat : Nat) (c : Cal) : Nat :=
  bkSource (supplyPresent c.vmain 2600 2500 vmain) (supplyPresent c.vbat 2100 2000 vbat)

section Switch

variable {vmain vbat : Nat} (vbkp : Nat) {s : State}

theorem backupSwitchover_of_same (h : sourceSeen vmain vbat s.cal = s.cal.source) :
    backupSwitchover vmain vbat vbkp s = { s with cal := suppliesSeen vmain vbat vbkp s.cal } := if_pos h

/-- A change of source is counted, with VBKP at the change. -/
theorem backupSwitchover_of_change (h : sourceSeen vmain vbat s.cal ≠ s.cal.source) :
    ∃ e, backupSwitchover vmain vbat vbkp s = State.raise e { s with cal := { suppliesSeen vmain vbat vbkp s.cal with
      source := sourceSeen vmain vbat s.cal, vbkpMv := vbkp, switchovers := min (2 ^ 32 - 1) (s.cal.switchovers + 1) } } :=
  ⟨_, if_neg h⟩

end Switch

/-! ### The state of BK is lost (R356, R357) -/

theorem loseBk_of_due {s : State} (h : s.cal.lossDue = true) : s.loseBk = s := if_pos h

theorem loseBk_of_kept {s : State} (h : s.cal.lossDue = false) : s.loseBk = { s with
    bkLatches := [], cal := { s.cal with lossDue := true }
    pwr := { s.pwr with history := [], open_ := false, failedStarts := 0, startCount := 0, taperLatchBk := false }
    acc := { s.acc with failRun := [0, 0, 0], lockout := [0, 0, 0] }, log := { s.log with lostBk := 0 } } :=
  if_neg (ne_true_of_eq_false h)

/-- A rise of VMAIN is recorded as the word of VMAIN_RISE. -/
def withRise (word : Nat) (s : State) : State := { s with cal := { s.cal with vmainRise := word } }

section Rise

variable {vbkp ticks : Nat} {s : State}

theorem vmainRise_of_other_source (h : s.cal.source ≠ 3) : vmainRise vbkp ticks s = s := if_neg h

theorem vmainRise_of_high (hsource : s.cal.source = 3) (hhigh : 1800 ≤ vbkp) :
    vmainRise vbkp ticks s = withRise (32768 + min 32767 ticks) s := by
  simp only [vmainRise, if_pos hsource, decide_eq_true hhigh, Bool.true_or, if_true]
  rfl

theorem vmainRise_of_low (hsource : s.cal.source = 3) (hlow : vbkp < 1800) :
    vmainRise vbkp ticks s =
      if ticks ≤ 68 then withRise (min 32767 ticks) s else (withRise (min 32767 ticks) s).loseBk := by
  have hword : flagAt false 15 + min 32767 ticks = min 32767 ticks := Nat.zero_add _
  simp only [vmainRise, if_pos hsource, decide_eq_false (Nat.not_le.2 hlow), Bool.false_or, decide_eq_true_eq, hword]
  rfl

end Rise

/-! ### AUTH_LOCKOUT_EXPIRY (R448) -/

section Lockout

variable {role n : Nat} {s : State} (h : s.acc.lockout[role - 1]? = some n)

include h

theorem authLockoutExpiry_of_running (hn : 1 < n) : authLockoutExpiry role s = s := by
  refine if_neg ?_
  rw [natAt, List.getD_eq_getElem?_getD, h]
  exact Nat.not_le.2 hn

theorem authLockoutExpiry_of_over (hn : n ≤ 1) :
    authLockoutExpiry role s = { s with acc := { s.acc with lockout := s.acc.lockout.set (role - 1) 0 } } := by
  rw [← setAt_eq_set]
  refine if_pos ?_
  rw [natAt, List.getD_eq_getElem?_getD, h]
  exact hn

end Lockout

/-- Settles O20: BACKUP_SWITCHOVER by whether the source changes, a rise and a trip by `loseBk`, and a lockout by whether it has run
down. -/
theorem backupSupplyAndItsLoss : Obligations.BackupSupplyAndItsLoss := by
  unfold Obligations.BackupSupplyAndItsLoss
  refine ⟨fun vmain vbat vbkp s => ⟨_, rfl, ?_⟩, fun vbkp ticks s => ⟨fun h => ?_, fun hsource => ⟨fun hhigh => ?_,
    fun hlow h => ?_, fun hlow hslow hkept => ?_⟩⟩, fun s => ⟨fun h => ?_, fun h => ?_⟩, fun role n s _ hlockout =>
      ⟨fun hn => ?_, fun hn => ?_⟩⟩
  · by_cases h : sourceSeen vmain vbat s.cal = s.cal.source
    · rw [backupSwitchover_of_same vbkp h]
      exact ⟨rfl, rfl, h.symm, fun hne => absurd rfl hne, fun _ => ⟨rfl, rfl, rfl⟩, rfl⟩
    · obtain ⟨e, hchange⟩ := backupSwitchover_of_change vbkp h
      rw [hchange]
      exact ⟨rfl, rfl, rfl, fun _ => ⟨rfl, rfl⟩, fun heq => absurd heq h, EventsOnly_raise e _⟩
  · exact congrArg Host.Outcome.next (vmainRise_of_other_source h)
  · exact congrArg Host.Outcome.next (vmainRise_of_high hsource hhigh)
  · refine congrArg Host.Outcome.next ((vmainRise_of_low hsource hlow).trans ?_)
    split
    · rfl
    · next hslow => exact loseBk_of_due (h.resolve_left hslow)
  · have hlost := ((vmainRise_of_low hsource hlow).trans (if_neg (Nat.not_le.2 hslow))).trans (loseBk_of_kept hkept)
    exact ⟨_, congrArg Host.Outcome.next hlost, rfl, rfl, rfl, rfl, rfl⟩
  · exact congrArg Host.Outcome.next (loseBk_of_due h)
  · exact ⟨_, congrArg Host.Outcome.next (loseBk_of_kept h), rfl⟩
  · exact congrArg Host.Outcome.next (authLockoutExpiry_of_running hlockout hn)
  · obtain ⟨hlt, -⟩ := List.getElem?_eq_some_iff.1 hlockout
    exact ⟨_, congrArg Host.Outcome.next (authLockoutExpiry_of_over hlockout hn), rfl, List.getElem?_set_self hlt,
      fun k hk => List.getElem?_set_ne hk.symm⟩

end Sys2Proof.Proofs
end

section
/-! PROOF. The time is set, the DST flag is turned (R338, R340, R346, R350), and tamper latches are cleared (R354). -/

namespace Sys2Proof.Proofs

open Sys2Proof Sys2Proof.Machine Sys2Proof.Laws

/-! ### The effect of an accepted write of the calendar -/

theorem ofLe_singleton {v : Nat} (h : v < 256) : ofLe [v] = v := by
  simp only [ofLe]
  omega

theorem ofLe_leBytes8 {w : Nat} (h : w < 2 ^ 64) : ofLe (leBytes 8 w) = w := by
  simp only [leBytes, ofLe]
  omega

/-- An accepted write of an entry that is a command without checks at step 11 has the command's effect, beside what carrying it
changes. -/
theorem ask_effect {p : Sender} {index sub : Nat} {value : List Nat} {s : State} (effect : Nat → State → State)
    (h : s.acceptsWrite p index sub value)
    (hcommit : ∀ via gen data role env row u,
      State.commitWrite row { via := via, gen := gen, index := index, sub := sub, data := data, role := role, env := env } u =
        (effect (ofLe data) u, abortOk)) :
    ∃ u, Carried s u ∧ Carried (effect (ofLe value) u) (s.ask p index sub value) := by
  obtain ⟨u, row, ⟨via, gen, _, _, data, role, env⟩, hu, rfl, rfl, hvalue, hcarried⟩ := ask_accepted s p index sub value h
  rw [hcommit, show ofLe data = ofLe value from hvalue] at hcarried
  exact ⟨u, hu, hcarried rfl⟩

theorem Carried_cal {s u : State} (h : Carried s u) : u.cal = s.cal := by rw [h]

theorem Carried_on_ {s u : State} (h : Carried s u) (index sub : Nat) : u.on_ index sub = s.on_ index sub := by
  simp only [State.on_, State.eff, Carried_set h]

/-- What a write leaves where its effect is on the settings and the calendar alone. -/
theorem Carried_settingsAndCalendar {s u t : State} {w : Settings} {c : Cal} (hu : Carried s u) (ht : Carried { u with set := w, cal := c } t) :
    t.set = w ∧ t.cal = c ∧ Carried { s with set := t.set, cal := t.cal } t := by
  have hset : t.set = w := by rw [ht]
  have hcal : t.cal = c := by rw [ht]
  refine ⟨hset, hcal, Carried_trans ?_ ht⟩
  rw [hset, hcal, hu]
  rfl

theorem Carried_calendar {s u t : State} {c : Cal} (hu : Carried s u) (ht : Carried { u with cal := c } t) :
    t.cal = c ∧ Carried { s with cal := t.cal } t := by
  obtain ⟨hset, hcal, hcarried⟩ := Carried_settingsAndCalendar (w := u.set) hu ht
  rw [hset, Carried_set hu] at hcarried
  exact ⟨hcal, hcarried⟩

theorem Carried_of_EventsOnly {u t : State} (h : EventsOnly u t) : Carried u t := by
  unfold Carried
  rw [h]

theorem EventsOnly_trans {u v t : State} (h1 : EventsOnly u v) (h2 : EventsOnly v t) : EventsOnly u t := by
  unfold EventsOnly at h1 h2 ⊢
  rw [h1] at h2
  exact h2

theorem EventsOnly_set {u t : State} (h : EventsOnly u t) (w : Settings) : EventsOnly { u with set := w } { t with set := w } := by
  unfold EventsOnly at h ⊢
  rw [h]

/-! ### CAL_SET (R338, R340, R350) -/

/-- The calendar once it has taken a local time. -/
def timeTaken (w : Nat) (c : Cal) : Cal :=
  { c with
    seconds := standardOf w, prescaler := field w 14 0, owed := 0, dst := bitAt w 25, uncertain := false, invalid := false
    bkLost := false, calend := false, lastOld := c.seconds, lastNew := standardOf w
    changes := c.changes ++ [{ set := true, auto := false, old := c.seconds, new := standardOf w, dstOld := c.dst, dstNew := bitAt w 25 }]
    setCount := min (2 ^ 32 - 1) (c.setCount + 1) }

/-- The settings once the counter has been set from one second to another: an alarm that it passes moves on by its periods. -/
def alarmMoved (old new : Nat) (s : State) : Settings :=
  if s.on_ 0x0504 1 ≠ 0 ∧ old < s.on_ 0x0504 1 ∧ s.on_ 0x0504 1 ≤ new then
    s.set.write (key 0x0504 1) ((s.on_ 0x0504 1 +
      (if s.on_ 0x0504 2 = 0 then 1 else (new - s.on_ 0x0504 1) / s.on_ 0x0504 2 + 1) * s.on_ 0x0504 2) % 2 ^ 48)
  else s.set

theorem alarmMoved_of_stands {old new : Nat} {s : State} (h : s.on_ 0x0504 1 = 0 ∨ s.on_ 0x0504 1 ≤ old ∨ new < s.on_ 0x0504 1) :
    alarmMoved old new s = s.set :=
  if_neg (by omega)

theorem alarmPassed_only (old : Nat) (s : State) :
    EventsOnly { s with set := alarmMoved old s.cal.seconds s } (s.alarmPassed old) := by
  unfold State.alarmPassed alarmMoved
  dsimp only
  split
  · exact EventsOnly_raise _ _
  · rfl

/-- Setting the time changes the calendar and an alarm that the counter passes, beside what events change. -/
theorem setTime_only (w : Nat) (s : State) :
    EventsOnly { s with set := alarmMoved s.cal.seconds (standardOf w) s, cal := timeTaken w s.cal } (s.setTime w) := by
  have hset := EventsOnly_raise (timeSetEvent 1 s.cal.seconds (standardOf w)) { s with cal := timeTaken w s.cal }
  exact EventsOnly_trans (EventsOnly_set hset _) (alarmPassed_only s.cal.seconds _)

theorem calSet_does {p : Sender} {w : Nat} {s : State} (hw : w < 2 ^ 64) (h : s.acceptsWrite p 0x0500 2 (leBytes 8 w)) :
    Does (.calSet p w) s fun t => t.set = alarmMoved s.cal.seconds (standardOf w) s ∧ t.cal = timeTaken w s.cal ∧
      Carried { s with set := t.set, cal := t.cal } t := by
  obtain ⟨u, hu, heffect⟩ := ask_effect State.setTime h fun _ _ _ _ _ _ _ => rfl
  have hmoved : ∀ old new, alarmMoved old new u = alarmMoved old new s := fun old new => by
    simp only [alarmMoved, Carried_on_ hu, Carried_set hu]
  have htaken := Carried_settingsAndCalendar hu (Carried_trans (Carried_of_EventsOnly (setTime_only _ u)) heffect)
  rw [ofLe_leBytes8 hw, hmoved, Carried_cal hu] at htaken
  exact ⟨_, rfl, htaken⟩

/-! ### DST_COMMAND (R346) -/

theorem dstCommand_only (v : Nat) (s : State) : ∃ change,
    EventsOnly { s with cal := { s.cal with dst := v == 1, changes := s.cal.changes ++ [change] } } (s.dstCommand v) :=
  ⟨_, EventsOnly_raise _ _⟩

theorem dstCommand_does {p : Sender} {v : Nat} {s : State} (hv : v = 1 ∨ v = 2) (h : s.acceptsWrite p 0x0501 1 [v]) :
    Does (.dstCommand p v) s fun t => ∃ change,
      t.cal = { s.cal with dst := decide (v = 1), changes := s.cal.changes ++ [change] } ∧ Carried { s with cal := t.cal } t := by
  obtain ⟨u, hu, heffect⟩ := ask_effect State.dstCommand h fun _ _ _ _ _ _ _ => rfl
  rw [ofLe_singleton (by omega)] at heffect
  obtain ⟨change, honly⟩ := dstCommand_only v u
  rw [Carried_cal hu] at honly
  exact ⟨_, rfl, change, Carried_calendar hu (Carried_trans (Carried_of_EventsOnly honly) heffect)⟩

/-- Settles O33: CAL_SET by `calSet_does` and the two cases of `alarmMoved`, DST_COMMAND by `dstCommand_does`. -/
theorem timeIsSet : Obligations.TimeIsSet := by
  unfold Obligations.TimeIsSet
  refine ⟨fun p w alarm period s hw halarm hperiod haccepts => ?_, fun p v s hv haccepts => ?_⟩
  · subst halarm hperiod
    obtain ⟨t, hexec, hset, hcal, hcarried⟩ := calSet_does hw haccepts
    refine ⟨t, hexec, ?_, ?_, fun h => ?_, fun hne hold hnew => ?_⟩
    · rw [hcal] at hcarried ⊢
      exact hcarried
    · rw [hcal]
      exact List.length_append
    · rw [hset, alarmMoved_of_stands h]
    · rw [alarmMoved, if_pos ⟨hne, hold, hnew⟩] at hset
      exact ⟨eff_of_written hset, fun k hk => other_of_written hset hk⟩
  · obtain ⟨t, hexec, change, hcal, hcarried⟩ := dstCommand_does hv haccepts
    refine ⟨t, hexec, ?_, ?_⟩
    · rw [hcal] at hcarried ⊢
      exact hcarried
    · rw [hcal]
      exact List.length_append

/-! ### TAMPER_CLEAR (R354) -/

/-- An input as a clear of its latch leaves it where the mask has its bit. -/
def latchCleared (mask i : Nat) (x : Tamper) : Tamper := if bitAt mask i then { x with latch := false, first := 0 } else x

theorem tamperClear_input {i : Nat} (hi : i < 3) (mask : Nat) {x : Tamper} {s : State} (h : s.cal.tamper[i]? = some x) :
    (s.tamperClear mask).cal.tamper[i]? = some (latchCleared mask i x) := by
  have hx : s.cal.tamper.getD i Tamper.reset = x := by rw [List.getD_eq_getElem?_getD, h, Option.getD_some]
  rw [State.tamperClear, List.getElem?_map, List.getElem?_range hi, Option.map_some, hx]
  rfl

theorem tamperClear_does {p : Sender} {mask i : Nat} {x : Tamper} {s : State} (hmask : mask < 256) (hi : i < 3)
    (hx : s.cal.tamper[i]? = some x) (h : s.acceptsWrite p 0x050A 1 [mask]) :
    Does (.tamperClear p mask) s fun t =>
      t.cal.tamper[i]? = some (latchCleared mask i x) ∧ Carried { s with cal := { s.cal with tamper := t.cal.tamper } } t := by
  obtain ⟨u, hu, heffect⟩ := ask_effect State.tamperClear h fun _ _ _ _ _ _ _ => rfl
  rw [ofLe_singleton hmask] at heffect
  obtain ⟨hcal, hcarried⟩ := Carried_calendar hu heffect
  refine ⟨_, rfl, ?_, ?_⟩
  · rw [hcal]
    exact tamperClear_input hi mask ((Carried_cal hu).symm ▸ hx)
  · rw [hcal, Carried_cal hu] at hcarried ⊢
    exact hcarried

/-- Settles O34: TAMPER_CLEAR by `tamperClear_does`; the run of an input that is still active qualifies at the next sample
(`sample_of_qualified`). -/
theorem tamperLatchesAreCleared : Obligations.TamperLatchesAreCleared := by
  unfold Obligations.TamperLatchesAreCleared
  refine ⟨fun p mask i x s hmask hi hx haccepts => tamperClear_does hmask hi hx haccepts,
    fun a b m i x s hx hi hon hlevel hlatch hrun => ⟨_, rfl, (tamperSample_input [a, b, m] hi hx).trans (congrArg some ?_)⟩⟩
  rw [sampledIn, sample_of_qualified hon hlevel (Nat.le_succ_of_le hrun) (.inr hlatch), hlatch, if_neg Bool.false_ne_true]

end Sys2Proof.Proofs
end

section
/-! PROOF. The actuator moves to its end, a fault is retried or ends the movement, and a held key asks for the connection (R391 to
R393). -/

namespace Sys2Proof.Proofs

open Sys2Proof Sys2Proof.Machine Sys2Proof.Laws

/-! ### The commands of a movement (R391, R392) -/

/-- What each command of a movement does at its time: where a movement is under way that meets its condition it acts, and else
nothing more happens. -/
def ofMovement (met : Movement → Bool) (act : Movement → State) (u : State) : State :=
  match u.bill.move with
  | none => u
  | some m => if met m = true then act m else u

section OfMovement

variable {met : Movement → Bool} {act : Movement → State} {u : State}

theorem ofMovement_of_none (h : u.bill.move = none) : ofMovement met act u = u := by
  rw [ofMovement, h]

variable {m : Movement} (h : u.bill.move = some m)

include h

theorem ofMovement_of_met (hmet : met m = true) : ofMovement met act u = act m := by
  rw [ofMovement, h]
  exact if_pos hmet

theorem ofMovement_of_unmet (hmet : met m = false) : ofMovement met act u = u := by
  rw [ofMovement, h]
  exact if_neg (Bool.eq_false_iff.1 hmet)

end OfMovement

/-- A movement in its drive, whose end is still looked for. -/
def endDue (u : State) (m : Movement) : Bool := decide (m.phase = 0 ∧ u.inTravel m = true)

/-- A movement in a phase that has run for some milliseconds. -/
def phaseOver (phase ms : Nat) (u : State) (m : Movement) : Bool := decide (m.phase = phase ∧ u.phaseRan m ms = true)

/-- Another movement under way. -/
def withMove (m : Movement) (u : State) : State := { u with bill := { u.bill with move := some m } }

/-- The end of a movement in its target state. -/
def arrived (m : Movement) (u : State) : State :=
  { u with bill := { u.bill with move := none, lastTravel := min 65535 m.travel, st := { u.bill.st with act := m.target } } }

section Commands

variable {cyc : Nat} {s u : State} (hu : u = { s with frame := s.frame.at_ cyc })

include hu

theorem actuatorEndReached_eq : exec (.actuatorEndReached cyc) s = .next (ofMovement (endDue u)
    (fun m => withMove { m with phase := 1, since := u.frame.now, travel := u.travelMs m } u) u) := by
  subst hu
  simp only [ofMovement, endDue, decide_eq_true_iff]
  rfl

theorem actuatorDone_eq : exec (.actuatorDone cyc) s = .next (ofMovement (phaseOver 1 (10 * field (s.on_ 0x1410 1) 15 8) u)
    (fun m => (arrived m u).raise (actEvent 51 (m.cause * 4096 + m.target) m.travel)) u) := by
  subst hu
  simp only [ofMovement, phaseOver, decide_eq_true_iff]
  rfl

theorem actuatorReverseEnd_eq : exec (.actuatorReverseEnd cyc) s = .next (ofMovement (phaseOver 2 200 u)
    (fun m => withMove { m with phase := 3, since := u.frame.now } u) u) := by
  subst hu
  simp only [ofMovement, phaseOver, decide_eq_true_iff]
  rfl

theorem actuatorPauseEnd_eq : exec (.actuatorPauseEnd cyc) s = .next (ofMovement (phaseOver 3 500 u)
    (fun m => withMove { m with phase := 0, start := u.frame.now, since := u.frame.now } u) u) := by
  subst hu
  simp only [ofMovement, phaseOver, decide_eq_true_iff]
  rfl

end Commands

/-! ### The conditions, in eighths of a ledger cycle (Table 11.19) -/

section Conditions

variable {phase ms : Nat} {u : State} {m : Movement}

theorem inTravel_iff : u.inTravel m = true ↔ u.frame.now ≤ m.start + 512000 * (100 * field (u.on_ 0x1410 1) 23 16) := by
  rw [State.inTravel, decide_eq_true_iff, msUnits, Nat.mul_comm _ 512000]

theorem inTravel_false_iff : u.inTravel m = false ↔ m.start + 512000 * (100 * field (u.on_ 0x1410 1) 23 16) < u.frame.now := by
  rw [← Bool.not_eq_true, inTravel_iff, Nat.not_le]

theorem phaseRan_iff : u.phaseRan m ms = true ↔ m.since + 512000 * ms ≤ u.frame.now := by
  rw [State.phaseRan, decide_eq_true_iff, msUnits, Nat.mul_comm]

theorem aciSampled_iff : u.aciSampled m = true ↔ m.start + 512000 * 69 ≤ u.frame.now := by
  rw [State.aciSampled, decide_eq_true_iff, msUnits]

theorem endDue_of_driving (hphase : m.phase = 0)
    (htime : u.frame.now ≤ m.start + 512000 * (100 * field (u.on_ 0x1410 1) 23 16)) : endDue u m = true :=
  decide_eq_true ⟨hphase, inTravel_iff.2 htime⟩

theorem endDue_false (h : m.phase ≠ 0 ∨ m.start + 512000 * (100 * field (u.on_ 0x1410 1) 23 16) < u.frame.now) :
    endDue u m = false :=
  decide_eq_false fun ⟨hphase, htime⟩ => h.elim (· hphase) (Nat.not_lt.2 (inTravel_iff.1 htime))

theorem phaseOver_of_ran (hphase : m.phase = phase) (htime : m.since + 512000 * ms ≤ u.frame.now) : phaseOver phase ms u m = true :=
  decide_eq_true ⟨hphase, phaseRan_iff.2 htime⟩

theorem phaseOver_false (h : m.phase ≠ phase ∨ u.frame.now < m.since + 512000 * ms) : phaseOver phase ms u m = false :=
  decide_eq_false fun ⟨hphase, htime⟩ => h.elim (· hphase) (Nat.not_lt.2 (phaseRan_iff.1 htime))

end Conditions

/-! ### ACTUATOR_FAULT (R392) -/

section Fault

variable {kind aci : Nat} {u : State}

theorem faultStands_of_moving {m : Movement} (h : u.bill.move = some m) : u.faultStands kind aci = true ↔
    kind = 1 ∧ m.phase = 0 ∧ m.start + 512000 * (100 * field (u.on_ 0x1410 1) 23 16) < u.frame.now ∨
      kind = 2 ∧ m.phase = 0 ∧ m.start + 512000 * 69 ≤ u.frame.now ∧ u.on_ 0x1410 2 < aci ∨
      kind = 3 ∧ m.phase ≤ 1 ∧ m.start + 512000 * 69 ≤ u.frame.now ∧ aci < u.on_ 0x1410 3 ∨ kind = 4 := by
  rw [← inTravel_false_iff, ← aciSampled_iff, State.faultStands, h]
  simp only [Bool.or_eq_true, Bool.and_eq_true, beq_iff_eq, Bool.not_eq_true', decide_eq_true_iff, or_assoc, and_assoc]

theorem faultStands_of_still (h : u.bill.move = none) : u.faultStands kind aci = true ↔
    (kind = 4 ∨ kind = 5) ∧ (u.bill.st.act = 1 ∨ u.bill.st.act = 3 ∨ u.bill.st.act = 4) := by
  rw [State.faultStands, h]
  simp only [Bool.or_eq_true, Bool.and_eq_true, beq_iff_eq, List.contains_iff_mem, List.mem_cons, List.not_mem_nil, or_false]

theorem faultStands_iff : u.faultStands kind aci = true ↔
    (∃ m, u.bill.move = some m ∧
      (kind = 1 ∧ m.phase = 0 ∧ m.start + 512000 * (100 * field (u.on_ 0x1410 1) 23 16) < u.frame.now ∨
        kind = 2 ∧ m.phase = 0 ∧ m.start + 512000 * 69 ≤ u.frame.now ∧ u.on_ 0x1410 2 < aci ∨
        kind = 3 ∧ m.phase ≤ 1 ∧ m.start + 512000 * 69 ≤ u.frame.now ∧ aci < u.on_ 0x1410 3 ∨ kind = 4)) ∨
    (u.bill.move = none ∧ (kind = 4 ∨ kind = 5) ∧ (u.bill.st.act = 1 ∨ u.bill.st.act = 3 ∨ u.bill.st.act = 4)) := by
  cases h : u.bill.move with
  | none => simp [faultStands_of_still h]
  | some m => simp [faultStands_of_moving h]

end Fault

/-- A STALL or TIMEOUT has a retry left. -/
def retryLeft (kind : Nat) (s : State) : Bool :=
  decide (kind ≤ 2) && decide ((s.bill.move.map Movement.used).getD 0 < field (s.on_ 0x1410 1) 7 4)

/-- The drive reverses for a retry. -/
def retrying (u : State) : State :=
  { u with bill := { u.bill with move := u.bill.move.map fun m => { m with phase := 2, since := u.frame.now, used := m.used + 1 } } }

/-- The movement is over, in FAULT. -/
def stoppedInFault (u : State) : State := { u with bill := { u.bill with move := none, st := { u.bill.st with act := 6 } } }

/-- The fault is counted. -/
def faultCounted (u : State) : State := { u with bill := { u.bill with faults := min (2 ^ 32 - 1) (u.bill.faults + 1) } }

theorem faultCounted_of_either (again : Bool) (u : State) :
    faultCounted (if again then retrying u else stoppedInFault u) = { u with bill := { u.bill with
      faults := min (2 ^ 32 - 1) (u.bill.faults + 1)
      move := if again then u.bill.move.map fun m => { m with phase := 2, since := u.frame.now, used := m.used + 1 } else none
      st := if again then u.bill.st else { u.bill.st with act := 6 } } } := by
  cases again with
  | true => rfl
  | false => rfl

section FaultCommand

variable {kind aci cyc : Nat} {s u : State} (hu : u = { s with frame := s.frame.at_ cyc })

include hu

theorem actuatorFault_of_not (h : u.faultStands kind aci = false) : exec (.actuatorFault kind aci cyc) s = .next u := by
  subst hu
  exact congrArg Host.Outcome.next (if_neg (Bool.eq_false_iff.1 h))

theorem actuatorFault_of_stands (h : u.faultStands kind aci = true) :
    ∃ e, exec (.actuatorFault kind aci cyc) s =
      .next (State.raise e (faultCounted (if retryLeft kind s then retrying u else stoppedInFault u))) := by
  subst hu
  exact ⟨_, congrArg Host.Outcome.next (if_pos h)⟩

end FaultCommand

/-! ### ACT_KEY_HOLD_EXPIRY (R393) -/

theorem keyHeld_iff {s : State} : s.keyHeld = true ↔
    s.pwr.keyDown = true ∧ (s.on_ 0x1410 4 - 20) * 32768 ≤ (s.pwr.mtime + 1 - s.pwr.keySince) * 1000 := by
  rw [State.keyHeld, Bool.and_eq_true, decide_eq_true_iff]

theorem actKeyHoldExpiry_iff {s : State} : s.bill.st.act = 4 ∧ s.keyHeld = true ∧ s.mode ≠ .taper ↔
    s.bill.st.act = 4 ∧ s.pwr.keyDown = true ∧ s.mode ≠ .taper ∧
      (s.on_ 0x1410 4 - 20) * 32768 ≤ (s.pwr.mtime + 1 - s.pwr.keySince) * 1000 := by
  rw [keyHeld_iff]
  exact and_congr_right fun _ => and_assoc.trans (and_congr_right fun _ => and_comm)

/-- Settles O29: the four commands of a movement by whether it meets their condition (`ofMovement`), ACTUATOR_FAULT by Table 11.19
(`faultStands_iff`) and the retry left, and the key by how long it was held. -/
theorem actuatorMovesToItsEnd : Obligations.ActuatorMovesToItsEnd := by
  unfold Obligations.ActuatorMovesToItsEnd
  refine ⟨fun cyc m s u hm hu => ?_, fun kind aci cyc used again s u hu hused hagain => ?_, fun s => ?_,
    fun cyc c s hm hc => ?_⟩
  · have hbill : u.bill = s.bill := by rw [hu]
    have hon : u.on_ 0x1410 1 = s.on_ 0x1410 1 := by rw [hu]; rfl
    rw [actuatorEndReached_eq hu, actuatorDone_eq hu, actuatorReverseEnd_eq hu, actuatorPauseEnd_eq hu, Does, actuatorDone_eq hu,
      ← hon, ← hbill]
    rw [← hbill] at hm
    refine ⟨fun hphase htime => ?_, fun h => ?_, fun hphase htime => ⟨_, rfl, ?_⟩, fun h => ?_, fun hphase htime => ?_,
      fun h => ?_, fun hphase htime => ?_, fun h => ?_⟩
    · exact congrArg Host.Outcome.next (ofMovement_of_met hm (endDue_of_driving hphase htime))
    · exact congrArg Host.Outcome.next (ofMovement_of_unmet hm (endDue_false h))
    · rw [ofMovement_of_met hm (phaseOver_of_ran hphase htime)]
      exact EventsOnly_raise _ _
    · exact congrArg Host.Outcome.next (ofMovement_of_unmet hm (phaseOver_false h))
    · exact congrArg Host.Outcome.next (ofMovement_of_met hm (phaseOver_of_ran hphase htime))
    · exact congrArg Host.Outcome.next (ofMovement_of_unmet hm (phaseOver_false h))
    · exact congrArg Host.Outcome.next (ofMovement_of_met hm (phaseOver_of_ran hphase htime))
    · exact congrArg Host.Outcome.next (ofMovement_of_unmet hm (phaseOver_false h))
  · subst hu hused hagain
    refine ⟨faultStands_iff, actuatorFault_of_not rfl, fun h => ?_⟩
    obtain ⟨e, hexec⟩ := actuatorFault_of_stands rfl h
    rw [faultCounted_of_either] at hexec
    exact ⟨_, hexec, EventsOnly_raise e _⟩
  · exact congrArg Host.Outcome.next (if_congr actKeyHoldExpiry_iff rfl rfl)
  · rcases hc with rfl | rfl | rfl | rfl
    · exact (actuatorEndReached_eq rfl).trans (congrArg Host.Outcome.next (ofMovement_of_none hm))
    · exact (actuatorDone_eq rfl).trans (congrArg Host.Outcome.next (ofMovement_of_none hm))
    · exact (actuatorReverseEnd_eq rfl).trans (congrArg Host.Outcome.next (ofMovement_of_none hm))
    · exact (actuatorPauseEnd_eq rfl).trans (congrArg Host.Outcome.next (ofMovement_of_none hm))

end Sys2Proof.Proofs
end

section
/-! PROOF. The snapshots of a close group are written into their slots (R378 to R380). -/

namespace Sys2Proof.Proofs

open Sys2Proof Sys2Proof.Machine Sys2Proof.Laws

/-! ### Snapshots written into slots (R380) -/

/-- The slots after snapshots, each with its SNAP_SEQ, have been written one after the other. -/
def slotsAfter (snapshots : List (Nat × List Nat)) (slots : List Slot) : List Slot :=
  snapshots.foldl (fun l p => setAt l (p.1 % 24) (Slot.holding p.1 p.2)) slots

theorem slotsAfter_cons (p : Nat × List Nat) (ps : List (Nat × List Nat)) (slots : List Slot) :
    slotsAfter (p :: ps) slots = slotsAfter ps (slots.set (p.1 % 24) (Slot.holding p.1 p.2)) := by
  rw [← setAt_eq_set]
  rfl

theorem slotsAfter_of_other {snapshots : List (Nat × List Nat)} {j : Nat} (h : ∀ p ∈ snapshots, j ≠ p.1 % 24) (slots : List Slot) :
    (slotsAfter snapshots slots)[j]? = slots[j]? := by
  induction snapshots generalizing slots with
  | nil => rfl
  | cons p ps ih =>
    obtain ⟨hp, hps⟩ := List.forall_mem_cons.1 h
    rw [slotsAfter_cons, ih hps, List.getElem?_set_ne hp.symm]

/-- Where no two snapshots share a slot, each stands in its own. -/
theorem slotsAfter_of_mem {snapshots : List (Nat × List Nat)} (hdistinct : snapshots.Pairwise fun p q => p.1 % 24 ≠ q.1 % 24)
    {slots : List Slot} (hlen : slots.length = 24) {p : Nat × List Nat} (hp : p ∈ snapshots) :
    (slotsAfter snapshots slots)[p.1 % 24]? = some (Slot.holding p.1 p.2) := by
  induction hdistinct generalizing slots with
  | nil => exact absurd hp List.not_mem_nil
  | @cons q qs hq _ ih =>
    rw [slotsAfter_cons]
    rcases List.mem_cons.1 hp with rfl | hp
    · rw [slotsAfter_of_other hq, List.getElem?_set_self (by omega)]
    · exact ih (List.length_set.trans hlen) hp

theorem holding_holds (seq : Nat) (words : List Nat) : (Slot.holding seq words).holds seq = true := by
  simp only [Slot.holding, Slot.holds, beq_self_eq_true, Bool.and_self]

/-! ### The snapshots of a group (R378, R379) -/

/-- The snapshots of a group that are written, each with its SNAP_SEQ: the last 24 of its closes, from the record whose
SNAP_SEQ_NEXT is `next`. -/
def groupSnapshots (c : Commit) (g : Group) (insts : List Nat) (next exec : Nat) : List (Nat × List Nat) :=
  (List.range (min 24 g.count)).map fun k =>
    let i := g.count - min 24 g.count + k
    let seq := (next + 2 ^ 32 - (g.count - i)) % 2 ^ 32
    (seq, snapshotWords c seq (insts.getD i g.first) exec g.flags (i == 0))

section GroupSnapshots

variable {c : Commit} {g : Group} {insts : List Nat} {next exec : Nat} (hnext : next < 2 ^ 32) (hroom : 24 ≤ next)

include hnext hroom

/-- The SNAP_SEQs run up to the one before SNAP_SEQ_NEXT. -/
theorem groupSnapshots_eq : groupSnapshots c g insts next exec = (List.range (min 24 g.count)).map fun k =>
    (next - min 24 g.count + k, snapshotWords c (next - min 24 g.count + k)
      (insts.getD (g.count - min 24 g.count + k) g.first) exec g.flags (g.count - min 24 g.count + k == 0)) := by
  refine List.map_congr_left fun k hk => ?_
  have hk := List.mem_range.1 hk
  have hseq : (next + 2 ^ 32 - (g.count - (g.count - min 24 g.count + k))) % 2 ^ 32 = next - min 24 g.count + k := by omega
  simp only [hseq]

/-- At most 24 SNAP_SEQs that follow each other take slots of their own. -/
theorem groupSnapshots_distinct : (groupSnapshots c g insts next exec).Pairwise fun p q => p.1 % 24 ≠ q.1 % 24 := by
  rw [groupSnapshots_eq hnext hroom, List.pairwise_map]
  refine List.pairwise_lt_range.imp_of_mem fun {i k} _ hk hik => ?_
  have hk := List.mem_range.1 hk
  simp only
  omega

theorem groupSnapshots_seq {p : Nat × List Nat} (hp : p ∈ groupSnapshots c g insts next exec) :
    ∃ i < min 24 g.count, p.1 = next - min 24 g.count + i := by
  rw [groupSnapshots_eq hnext hroom] at hp
  obtain ⟨i, hi, rfl⟩ := List.mem_map.1 hp
  exact ⟨i, List.mem_range.1 hi, rfl⟩

theorem exists_groupSnapshot {i : Nat} (hi : i < min 24 g.count) :
    ∃ words, (next - min 24 g.count + i, words) ∈ groupSnapshots c g insts next exec := by
  rw [groupSnapshots_eq hnext hroom]
  exact ⟨_, List.mem_map.2 ⟨i, List.mem_range.2 hi, rfl⟩⟩

theorem slotsAfter_group_written {slots : List Slot} (hlen : slots.length = 24) {i : Nat} (hi : i < min 24 g.count) :
    ∃ x, (slotsAfter (groupSnapshots c g insts next exec) slots)[(next - min 24 g.count + i) % 24]? = some x ∧
      x.holds (next - min 24 g.count + i) = true := by
  obtain ⟨words, hmem⟩ := exists_groupSnapshot (insts := insts) (c := c) (exec := exec) hnext hroom hi
  exact ⟨_, slotsAfter_of_mem (groupSnapshots_distinct hnext hroom) hlen hmem, holding_holds _ _⟩

theorem slotsAfter_group_other {j : Nat} (h : ∀ i, i < min 24 g.count → j ≠ (next - min 24 g.count + i) % 24)
    (slots : List Slot) : (slotsAfter (groupSnapshots c g insts next exec) slots)[j]? = slots[j]? := by
  refine slotsAfter_of_other (fun p hp => ?_) slots
  obtain ⟨i, hi, hseq⟩ := groupSnapshots_seq hnext hroom hp
  exact hseq ▸ h i hi

end GroupSnapshots

/-! ### BILLING_SNAPSHOT_WRITE (R379) -/

/-- Writing a group leaves the slots with its snapshots, raises BILLING_CLOSE and queues records. -/
theorem writeGroup_only (c : Commit) (g : Group) (insts : List Nat) (next exec : Nat) (s : State) :
    ∃ e q, s.writeGroup c g insts next exec = { State.raise e { s with bill := { s.bill with
      slots := slotsAfter (groupSnapshots c g insts next exec) s.bill.slots } } with q := q } :=
  have ⟨q, hq⟩ := emitAll_only _ _
  ⟨_, q, hq⟩

/-- No group waits any more. -/
def groupOver (b : Billing) : Billing := { b with group := none, groupInsts := [], groupRec := none, groupDue := false }

theorem billingSnapshotWrite_of_idle {s : State} (h : s.bill.group = none ∨ s.qty.latest = none ∨ s.bill.groupDue = false) :
    billingSnapshotWrite s = s := by
  unfold billingSnapshotWrite
  split
  · next g p hgroup hlatest =>
    refine if_neg fun hdue => ?_
    rcases h with h | h | h
    · exact Option.some_ne_none g (hgroup.symm.trans h)
    · exact Option.some_ne_none p (hlatest.symm.trans h)
    · exact Bool.false_ne_true (h.symm.trans hdue)
  · rfl

theorem billingSnapshotWrite_of_due {g : Group} {b : Nat} {c0 c : Commit} {s t : State} (hgroup : s.bill.group = some g)
    (hlatest : s.qty.latest = some (b, c0)) (hc : c = s.bill.executed c0) (hdue : s.bill.groupDue = true)
    (ht : s.writeGroup c g s.bill.groupInsts c.bill.seqNext c.seconds = t) :
    billingSnapshotWrite s = { t with bill := groupOver t.bill } := by
  subst hc ht
  unfold billingSnapshotWrite
  rw [hgroup, hlatest]
  exact if_pos hdue

/-- Settles O8: the group is written by `writeGroup_only`, and its at most 24 snapshots take slots of their own
(`slotsAfter_group_written`, `slotsAfter_group_other`). -/
theorem snapshotsOfAGroupAreWritten : Obligations.SnapshotsOfAGroupAreWritten := by
  unfold Obligations.SnapshotsOfAGroupAreWritten
  refine ⟨fun s h => congrArg Host.Outcome.next (billingSnapshotWrite_of_idle h),
    fun g b c0 c s hgroup hlatest hc hdue hlen hnext hroom _ => ?_⟩
  obtain ⟨e, q, honly⟩ := writeGroup_only c g s.bill.groupInsts c.bill.seqNext c.seconds s
  obtain ⟨_, _, _, _, _, hraise⟩ := raise_only e { s with bill := { s.bill with
    slots := slotsAfter (groupSnapshots c g s.bill.groupInsts c.bill.seqNext c.seconds) s.bill.slots } }
  rw [hraise] at honly
  refine ⟨_, congrArg Host.Outcome.next (billingSnapshotWrite_of_due hgroup hlatest hc hdue honly), rfl,
    fun i hi => ?_, fun j _ hj => ?_⟩
  · exact slotsAfter_group_written hnext hroom hlen hi
  · exact slotsAfter_group_other hnext hroom hj _

end Sys2Proof.Proofs
end

section
/-! PROOF. What every reset of the device keeps and ends, the watchdog resets, and the wake from SNUFF (R413, R421, R564). -/

namespace Sys2Proof.Proofs

open Sys2Proof Sys2Proof.Machine Sys2Proof.Laws

/-! ### A reset of the device (R314, R422, R423) -/

/-- The device has been reset for a reason: no frame is open and CE is off, the banks, the frame number and the replay counters stand, and
every accepted write is in force. -/
structure WasReset (reason : Nat) (s t : State) : Prop where
  starting : t.pwr.state = .starting
  reason : t.pwr.endReason = reason
  closed : t.pwr.open_ = false
  finalDue : t.pwr.finalDue = s.pwr.finalDue
  noFrame : t.frame.running = false
  number : t.frame.number = s.frame.number
  ceOff : t.ceUp = false
  banks : t.qty.banks = s.qty.banks
  replay : t.acc.replay = s.acc.replay
  inForce : t.set.stored = t.set.eff

theorem WasReset_resetWith (reason logged : Nat) (s : State) : WasReset reason s (s.resetWith reason logged) := by
  obtain ⟨history, failed, hclose⟩ := closeEntry_only reason s.pwr
  unfold State.resetWith
  rw [hclose]
  exact ⟨rfl, rfl, rfl, rfl, rfl, rfl, rfl, rfl, rfl, rfl⟩

/-! ### The watchdogs of the frame (R421) -/

theorem WasReset_watchdogReset (s : State) :
    WasReset 8 { s with pwr := { s.pwr with finalDue := false } } s.watchdogReset := WasReset_resetWith 8 0 _

theorem accumulationStartTimeout_of_open {s : State} (hrun : s.frame.running = true) (hcommit : s.frame.committing = false) :
    accumulationStartTimeout s = s.watchdogReset := if_pos (by simp [hrun, hcommit])

theorem accumulationStartTimeout_of_other {s : State} (h : s.frame.running = false ∨ s.frame.committing = true) :
    accumulationStartTimeout s = s :=
  if_neg (by obtain h | h := h <;> simp [h])

/-- A commit that is cut leaves the bank it was writing without a record. -/
theorem readBack_cut_banks (q : Qty) :
    (q.readBack false).banks = if q.writing.isSome then setAt q.banks q.nextBank none else q.banks := by
  cases h : q.writing with
  | none => simp [Qty.readBack, h]
  | some c => simp [readBack_of_writing h]

/-! ### The watchdog of the core (R564) -/

theorem coreWatchdog_of_quiet {pc : Nat} {s : State}
    (h : bitAt s.core.wdt 31 = false ∨ s.core.wdtCount < s.core.wdt % 65536 ∨ s.core.halted = true) : coreWatchdog pc s = s := by
  refine if_neg ?_
  obtain h | h | h := h <;> simp [h]

/-- The event of a watchdog of the core that has run out (Table 17.8). -/
def coreWatchdogEvent (pc : Nat) : Raised := { ev := 61, code := 1, arg := pc % 2 ^ 32, src := 0x4B, cls := 2 }

/-- The core has been reset by its watchdog, and the reset is counted. -/
def coreBarked (pc : Nat) (s : State) : State :=
  ((s.raise (coreWatchdogEvent pc)).resetCore 1).modCore fun c => { c with resets := satInc (2 ^ 32 - 1) c.resets }

theorem coreWatchdog_of_due {pc : Nat} {s : State} (hon : bitAt s.core.wdt 31 = true) (hdue : s.core.wdt % 65536 ≤ s.core.wdtCount)
    (hrun : s.core.halted = false) : coreWatchdog pc s = (coreBarked pc s).serveAll :=
  if_pos (by simp [hon, hdue, hrun])

/-- With no request held or waiting a reset of the core answers none. -/
theorem failHeld_of_none {s : State} (hheld : s.core.held = none) (hcustomer : s.acc.customer = []) :
    s.failHeld = { s with
      core := { s.core with held := none }, acc := { s.acc with customer := [] }
      frame := { s.frame with waiting := s.frame.waiting.filter fun j => j.kind != 3
                              dynamic := s.frame.dynamic.filter fun j => j.kind != 3 } } := by
  simp only [State.failHeld, hheld, hcustomer, List.foldl_nil]

/-- A reset of the core with no request waiting leaves the power manager, the quantities and the time of the frame. -/
theorem coreBarked_stands (pc : Nat) {s : State} (hheld : s.core.held = none) (hcustomer : s.acc.customer = []) :
    (coreBarked pc s).core.resets = min (2 ^ 32 - 1) (s.core.resets + 1) ∧ (coreBarked pc s).core.wdtCount = 0 ∧
      (coreBarked pc s).pwr = s.pwr ∧ (coreBarked pc s).qty = s.qty ∧
      (coreBarked pc s).frame = { s.frame with waiting := (coreBarked pc s).frame.waiting, dynamic := (coreBarked pc s).frame.dynamic } ∧
      (coreBarked pc s).acc.waiting = s.acc.waiting.filter (fun r => r.via.port != 0) ∧ (coreBarked pc s).q.spiIn = s.q.spiIn := by
  have hpwr : (s.raise (coreWatchdogEvent pc)).pwr = s.pwr := raise_pwr _ s rfl
  unfold coreBarked State.resetCore
  rw [failHeld_of_none (s := s.raise (coreWatchdogEvent pc)) hheld hcustomer]
  exact ⟨rfl, rfl, hpwr, rfl, rfl, rfl, rfl⟩

theorem coreWatchdog_of_no_request {pc : Nat} {s : State} (hwaiting : s.acc.waiting = []) (hcustomer : s.acc.customer = [])
    (hheld : s.core.held = none) (hspi : s.q.spiIn = []) (hon : bitAt s.core.wdt 31 = true)
    (hdue : s.core.wdt % 65536 ≤ s.core.wdtCount) (hrun : s.core.halted = false) : coreWatchdog pc s = coreBarked pc s := by
  obtain ⟨-, -, -, -, -, hw, hq⟩ := coreBarked_stands pc hheld hcustomer
  rw [coreWatchdog_of_due hon hdue hrun]
  exact serveAll_of_none (by rw [hw, hwaiting, List.filter_nil]) (hq.trans hspi)

/-! ### SNUFF ends (R413) -/

theorem snuffWake_of_none {during : Bool} {s : State} (h : s.pwr.state ≠ .snuff ∨ s.pwr.wakePending = none) :
    snuffWake during s = s := by
  unfold snuffWake
  split
  next hstate hwake => simp [hstate, hwake] at h
  next => rfl

/-- The power manager of a device that an event has woken from SNUFF, before the start. -/
def snuffWoken (during : Bool) (ev : Nat) (p : Power) : Power :=
  { p with
    lastWake := ev, endReason := 9
    res := if during then { p.res with short := modAt p.res.short 1 (satInc (2 ^ 48 - 1)) } else p.res }

theorem snuffWake_of_event {during : Bool} {ev : Nat} {s : State} (hstate : s.pwr.state = .snuff) (hwake : s.pwr.wakePending = some ev) :
    snuffWake during s = { State.afterReset { s with pwr := snuffWoken during ev s.pwr } with
      pwr := { (snuffWoken during ev s.pwr).afterReset with backoff := 0 } } := by
  unfold snuffWake
  rw [hstate, hwake]
  rfl

/-- Settles O27: the resets of the frame's watchdogs, that of the core alone, and the start that ends SNUFF. -/
theorem watchdogsAndSnuffEndInAStart : Obligations.WatchdogsAndSnuffEndInAStart := by
  unfold Obligations.WatchdogsAndSnuffEndInAStart
  refine ⟨fun s => ⟨fun hrun hcommit => ?_, fun h => congrArg Host.Outcome.next (accumulationStartTimeout_of_other h), fun hrun => ?_,
      fun hstop => congrArg Host.Outcome.next (if_neg (by simp [hstop]))⟩,
    fun pc s => ⟨fun h => congrArg Host.Outcome.next (coreWatchdog_of_quiet h),
      fun hstate hwaiting hcustomer hheld hspi hon hdue hrun => ?_⟩,
    fun during s => ⟨fun h => congrArg Host.Outcome.next (snuffWake_of_none h), fun ev hstate hwake => ?_⟩⟩
  · have hreset := WasReset_watchdogReset s
    exact ⟨_, congrArg Host.Outcome.next (accumulationStartTimeout_of_open hrun hcommit), hreset.starting, hreset.reason, hreset.noFrame,
      hreset.finalDue, hreset.banks⟩
  · have hreset := WasReset_watchdogReset { s with qty := s.qty.readBack false }
    exact ⟨_, congrArg Host.Outcome.next (if_pos hrun), hreset.starting, hreset.reason, hreset.noFrame, hreset.finalDue,
      hreset.banks.trans (readBack_cut_banks s.qty)⟩
  · obtain ⟨hresets, hcount, hpwr, hqty, hframe, -, -⟩ := coreBarked_stands pc hheld hcustomer
    refine ⟨_, congrArg Host.Outcome.next (coreWatchdog_of_no_request hwaiting hcustomer hheld hspi hon hdue hrun), hresets, hcount, ?_⟩
    rw [hpwr, hqty]
    exact ⟨hstate, rfl, rfl, rfl, rfl, hframe, rfl⟩
  · exact ⟨_, congrArg Host.Outcome.next (snuffWake_of_event hstate hwake), rfl, rfl, rfl, rfl, rfl, rfl, rfl, rfl⟩

end Sys2Proof.Proofs
end

section
/-! PROOF. A domain's regulator reports ready, or its time-outs end in a reset (R97, R134, R208, R402, R403). -/

namespace Sys2Proof.Proofs

open Sys2Proof Sys2Proof.Machine Sys2Proof.Laws

/-! ### A change of one domain -/

theorem setDoms_one (p : Power) (d : Nat) (f : Domain → Domain) : p.setDoms [d] f = { p with doms := p.doms.modify d f } := by
  simp only [Power.setDoms, List.foldl_cons, List.foldl_nil, modAt_eq_modify]

theorem dom_of_getElem? {p : Power} {d : Nat} {q : Domain} (h : p.doms[d]? = some q) : p.dom d = q := by
  simp only [Power.dom, List.getD_eq_getElem?_getD, h, Option.getD_some]

section Ready

variable {d cyc : Nat} {vsd : Bool} {q : Domain} {s u : State}

/-! ### DOMAIN_READY (R97, R134, R208, R402) -/

theorem domainReady_of_other (hu : u = s.atCyc cyc)
    (h : (u.pwr.dom d).on = false ∨ (u.pwr.dom d).ready = true ∨ (u.pwr.dom d).timeout < u.frame.now) : domainReady d vsd cyc s = u := by
  subst hu
  refine if_neg ?_
  obtain h | h | h := h <;> simp [h]

/-- The domain is ready. -/
def withReady (d : Nat) (u : State) : State :=
  { u with pwr := { u.pwr with doms := u.pwr.doms.modify d fun q => { q with ready := true, retried := false } } }

/-- The domain is ready, with what depends on it: VSD with AF, the lock to the HF RC with TM (R97, R134, R208). -/
def domainUp (d : Nat) (vsd : Bool) (u : State) : State :=
  if d = 0 then (if vsd then (withReady d u).vsdSettled else withReady d u)
  else if d = 2 ∧ u.clk.ref = 2 then (withReady d u).relocked else withReady d u

/-- A regulator that is ready later than Table 12.3 has delayed the jobs of the frame. -/
def readyLate (d : Nat) (q : Domain) (u : State) : Bool :=
  decide (q.since + usNow (if d = 3 then 40 else 130) < u.frame.now) && u.measuring

theorem domainReady_of_waking (hu : u = s.atCyc cyc) (hq : u.pwr.doms[d]? = some q) (hon : q.on = true) (hwait : q.ready = false)
    (htime : u.frame.now ≤ q.timeout) :
    domainReady d vsd cyc s = if readyLate d q u then (domainUp d vsd u).restore 1 u.frame.nowQ else domainUp d vsd u := by
  have hdom := dom_of_getElem? hq
  unfold domainReady
  dsimp only
  rw [← hu, hdom, if_pos (by simp [hon, hwait, htime]), setDoms_one]
  rfl

theorem domainUp_doms (d : Nat) (vsd : Bool) (u : State) : (domainUp d vsd u).pwr.doms = (withReady d u).pwr.doms := by
  unfold domainUp
  split
  · split <;> rfl
  · split
    · exact count_pwr_doms _ _
    · rfl

/-- Beside the domain, VSD and the locks a regulator that gets ready changes what counting changes. -/
theorem domainUp_only (d : Nat) (vsd : Bool) (u : State) :
    CountsOnly { u with
      pwr := { u.pwr with doms := (domainUp d vsd u).pwr.doms }
      set := if d = 0 ∧ vsd = true then u.set.force (key 0x0801 1) (u.at_ 0x0801 1) else u.set
      ac := if d = 0 then (if vsd then { u.ac with vsdGood := true } else u.ac)
            else if d = 2 ∧ u.clk.ref = 2 then { u.ac with pllLocked := true, dllLocked := true } else u.ac } (domainUp d vsd u) := by
  rw [domainUp_doms]
  unfold domainUp
  by_cases haf : d = 0
  · cases vsd
    · simp only [haf, if_true, Bool.false_eq_true, and_false, if_false]
      rfl
    · simp only [haf, if_true, and_self]
      rfl
  · simp only [haf, if_false, false_and]
    split
    · exact relocked_only (withReady d u)
    · rfl

theorem withReady_same (hq : u.pwr.doms[d]? = some q) :
    (withReady d u).pwr.doms[d]? = some { q with ready := true, retried := false } := by
  simp [withReady, hq]

theorem withReady_other {e : Nat} (h : e ≠ d) : (withReady d u).pwr.doms[e]? = u.pwr.doms[e]? := by
  simp [withReady, Ne.symm h]

theorem domainReady_on_time_does (hu : u = s.atCyc cyc) (hq : u.pwr.doms[d]? = some q) (hon : q.on = true) (hwait : q.ready = false)
    (htime : u.frame.now ≤ q.timeout) (hlate : u.frame.now ≤ q.since + usNow (if d = 3 then 40 else 130) ∨ u.measuring = false) :
    Does (.domainReady d vsd cyc) s fun t =>
      t.pwr.doms[d]? = some { q with ready := true, retried := false } ∧
      (∀ e, e ≠ d → t.pwr.doms[e]? = u.pwr.doms[e]?) ∧
      CountsOnly { u with
        pwr := { u.pwr with doms := t.pwr.doms }
        set := if d = 0 ∧ vsd = true then u.set.force (key 0x0801 1) (u.at_ 0x0801 1) else u.set
        ac := if d = 0 then (if vsd then { u.ac with vsdGood := true } else u.ac)
              else if d = 2 ∧ u.clk.ref = 2 then { u.ac with pllLocked := true, dllLocked := true } else u.ac } t := by
  have hnot : readyLate d q u = false := by
    obtain h | h := hlate
    · simp [readyLate, Nat.not_lt.2 h]
    · simp [readyLate, h]
  have heq := domainReady_of_waking (vsd := vsd) hu hq hon hwait htime
  rw [hnot, if_neg Bool.false_ne_true] at heq
  refine ⟨_, congrArg Host.Outcome.next heq, ?_, fun e he => ?_, domainUp_only d vsd u⟩
  · rw [domainUp_doms]
    exact withReady_same hq
  · rw [domainUp_doms]
    exact withReady_other he

theorem domainReady_late_does (hu : u = s.atCyc cyc) (hq : u.pwr.doms[d]? = some q) (hon : q.on = true) (hwait : q.ready = false)
    (htime : u.frame.now ≤ q.timeout) (hlate : q.since + usNow (if d = 3 then 40 else 130) < u.frame.now) (hmeasuring : u.measuring = true) :
    Does (.domainReady d vsd cyc) s fun t =>
      t.pwr.doms[d]? = some { q with ready := true, retried := false } ∧ t.frame.cause = 1 ∧
      (∀ p ∈ t.frame.planned, u.frame.nowQ ≤ p.start) := by
  have heq := domainReady_of_waking (vsd := vsd) hu hq hon hwait htime
  rw [readyLate, hmeasuring, decide_eq_true hlate, Bool.and_self, if_pos rfl] at heq
  have hrestored := Restores_restore (domainUp d vsd u) 1 u.frame.nowQ
  refine ⟨_, congrArg Host.Outcome.next heq, ?_, hrestored.cause, le_start_of_mem_restore _ 1 _⟩
  rw [hrestored.outside]
  exact (congrArg (·[d]?) (domainUp_doms d vsd u)).trans (withReady_same hq)

end Ready

/-! ### The partial frame of a device in any power state (R314, R316) -/

/-- A commit under way ends in the bank that it was writing. -/
theorem finishCommit_keeps (diff : List (Nat × Nat)) (s : State) :
    (s.finishCommit diff).qty = commitEnded diff s ∧ (s.finishCommit diff).frame.number = s.frame.number := by
  unfold State.finishCommit commitEnded
  split
  · exact ⟨raiseAll_qty _ _, (congrArg Frame.number (raiseAll_frame _ _)).trans rfl⟩
  · exact ⟨rfl, rfl⟩

theorem feedPulses_keeps (old : State) (g : Gain) (s : State) :
    (State.feedPulses old g s).qty.banks = s.qty.banks ∧ (State.feedPulses old g s).frame = s.frame := by
  unfold State.feedPulses
  extract_lets r
  exact ⟨(congrArg Qty.banks (raiseAll_qty _ _)).trans rfl, raiseAll_frame _ _⟩

/-- The record of a partial frame is under way after it, over the banks as they were. -/
theorem partialCommit_keeps (s : State) :
    s.partialCommit.qty.banks = s.qty.banks ∧ s.partialCommit.frame.number = s.frame.number ∧ s.partialCommit.pwr.finalDue = true ∧
      ∃ c : Commit, c.partial_ = true ∧ c.frame = s.frame.number ∧ s.partialCommit.qty.writing = some c := by
  unfold State.partialCommit
  extract_lets o q b s1 s2 group
  have hgain : Feeds s b.1 := Feeds_trans (Feeds_accumulate o s.frame.tick s) (Feeds_billGain q.2 q.1)
  obtain ⟨hbanks, hframe⟩ := feedPulses_keeps s b.2 b.1
  have hnumber : s2.frame.number = s.frame.number := by
    show s1.frame.number = _
    rw [hframe, hgain.outside]
  exact ⟨hbanks.trans hgain.banks, hnumber, rfl, s2.record s2.frame.number true group, rfl, hnumber, rfl⟩

/-! ### REGULATOR_TIMEOUT (R403) -/

section Timeout

variable {d cyc : Nat} {commit final : List (Nat × Nat)} {q : Domain} {s u : State}

theorem regulatorTimeout_of_other (hu : u = s.atCyc cyc)
    (h : (u.pwr.dom d).on = false ∨ (u.pwr.dom d).ready = true ∨ u.frame.running = false ∨ u.frame.now < (u.pwr.dom d).timeout) :
    regulatorTimeout d cyc commit final s = u := by
  subst hu
  refine if_pos ?_
  obtain h | h | h | h := h <;> simp [h]

/-- A failed wake is counted. -/
def wakeFailCounted (u : State) : State :=
  { u with pwr := { u.pwr with wakeFails := min (2 ^ 32 - 1) (u.pwr.wakeFails + 1) } }

/-- The domain has had its first time-out. -/
def withRetry (d : Nat) (u : State) : State :=
  { u with pwr := { u.pwr with doms := u.pwr.doms.modify d fun q => { q with retried := true } } }

/-- The second time-out of a domain has been raised and counted, and is kept for the start that follows (R431). -/
def wakeFailedAgain (d : Nat) (u : State) : State :=
  let v := wakeFailCounted (u.raise (wakeFail (2 ^ d + 256) 0xFFFFFFFF))
  { v with pwr := { v.pwr with wakeFailReplay := some (2 ^ d + 256 + 32768, 0xFFFFFFFF) } }

theorem regulatorTimeout_of_first (hu : u = s.atCyc cyc) (hq : u.pwr.doms[d]? = some q) (hon : q.on = true) (hwait : q.ready = false)
    (hrun : u.frame.running = true) (htime : q.timeout ≤ u.frame.now) (hfirst : q.retried = false) :
    regulatorTimeout d cyc commit final s = wakeFailCounted ((withRetry d u).raise (wakeFail (2 ^ d) 0xFFFFFFFF)) := by
  have hdom := dom_of_getElem? hq
  unfold regulatorTimeout
  dsimp only
  rw [← hu, hdom, if_neg (by simp [hon, hwait, hrun, Nat.not_lt.2 htime]), if_pos (by simp [hfirst]), setDoms_one]
  rfl

theorem regulatorTimeout_of_second (hu : u = s.atCyc cyc) (hq : u.pwr.doms[d]? = some q) (hon : q.on = true) (hwait : q.ready = false)
    (hrun : u.frame.running = true) (htime : q.timeout ≤ u.frame.now) (hsecond : q.retried = true) :
    regulatorTimeout d cyc commit final s =
      if d ≠ 3 ∧ (u.pwr.dom 3).ready = true then
        State.resetWith 5 4 ((((wakeFailedAgain d u).finishCommit commit).partialCommit).readFinal final)
      else State.resetWith 5 0 { wakeFailedAgain d u with pwr := { (wakeFailedAgain d u).pwr with finalDue := false } } := by
  have hdom := dom_of_getElem? hq
  unfold regulatorTimeout
  dsimp only
  rw [← hu, hdom, if_neg (by simp [hon, hwait, hrun, Nat.not_lt.2 htime]), if_neg (by simp [hsecond])]
  rfl

theorem regulatorTimeout_first_does (hu : u = s.atCyc cyc) (hq : u.pwr.doms[d]? = some q) (hon : q.on = true) (hwait : q.ready = false)
    (hrun : u.frame.running = true) (htime : q.timeout ≤ u.frame.now) (hup : u.pwr.aoDown = false) (hfirst : q.retried = false) :
    Does (.regulatorTimeout d cyc commit final) s fun t =>
      t.pwr.doms[d]? = some { q with retried := true } ∧ t.pwr.wakeFails = min (2 ^ 32 - 1) (u.pwr.wakeFails + 1) ∧
      (t.events.any fun p => p.is .log 37) = true ∧
      t = { u with events := t.events, pwr := { u.pwr with doms := t.pwr.doms, wakeFails := t.pwr.wakeFails } } := by
  have hraise : (withRetry d u).raise (wakeFail (2 ^ d) 0xFFFFFFFF) =
      { withRetry d u with events := ((withRetry d u).raise (wakeFail (2 ^ d) 0xFFFFFFFF)).events } := rfl
  refine ⟨_, congrArg Host.Outcome.next (regulatorTimeout_of_first hu hq hon hwait hrun htime hfirst), ?_, rfl,
    raise_any_log (e := wakeFail (2 ^ d) 0xFFFFFFFF) (s := withRetry d u) hup rfl rfl, ?_⟩
  · rw [hraise]
    simp [wakeFailCounted, withRetry, hq]
  · rw [hraise]
    rfl

/-- The second time-out of CE, or with CE not ready, leaves the banks alone. -/
theorem regulatorTimeout_without_commit_does (hu : u = s.atCyc cyc) (hq : u.pwr.doms[d]? = some q) (hon : q.on = true)
    (hwait : q.ready = false) (hrun : u.frame.running = true) (htime : q.timeout ≤ u.frame.now) (hsecond : q.retried = true)
    (hce : d = 3 ∨ (u.pwr.dom 3).ready = false) :
    Does (.regulatorTimeout d cyc commit final) s fun t =>
      t.pwr.state = .starting ∧ t.pwr.endReason = 5 ∧ t.frame.running = false ∧ t.qty.banks = s.qty.banks ∧
      t.pwr.finalDue = false ∧ t.acc.replay = s.acc.replay ∧ t.set.stored = t.set.eff := by
  have heq := regulatorTimeout_of_second (commit := commit) (final := final) hu hq hon hwait hrun htime hsecond
  rw [if_neg (by obtain h | h := hce <;> simp [h])] at heq
  have hreset := WasReset_resetWith 5 0 { wakeFailedAgain d u with pwr := { (wakeFailedAgain d u).pwr with finalDue := false } }
  have htimed : TimePasses s u := hu ▸ TimePasses_atCyc s cyc
  refine ⟨_, congrArg Host.Outcome.next heq, hreset.starting, hreset.reason, hreset.noFrame, hreset.banks.trans ?_, hreset.finalDue,
    hreset.replay.trans ?_, hreset.inForce⟩
  · show u.qty.banks = _
    rw [htimed]
  · show u.acc.replay = _
    rw [htimed]

/-- The second time-out of another domain with CE ready commits the partial frame first. -/
theorem regulatorTimeout_with_commit_does {bank : Qty} (hu : u = s.atCyc cyc) (hq : u.pwr.doms[d]? = some q) (hon : q.on = true)
    (hwait : q.ready = false) (hrun : u.frame.running = true) (htime : q.timeout ≤ u.frame.now) (hsecond : q.retried = true)
    (hother : d ≠ 3) (hce : (u.pwr.dom 3).ready = true) (hbank : bank = commitEnded commit s) :
    Does (.regulatorTimeout d cyc commit final) s fun t =>
      t.pwr.state = .starting ∧ t.pwr.endReason = 5 ∧ t.frame.running = false ∧ t.pwr.finalDue = true ∧
      t.frame.number = s.frame.number ∧
      ∃ c, c.partial_ = true ∧ c.frame = s.frame.number ∧
        t.qty.banks = setAt bank.banks bank.nextBank (if c.checks final then some c else none) := by
  have heq := regulatorTimeout_of_second (commit := commit) (final := final) hu hq hon hwait hrun htime hsecond
  rw [if_pos ⟨hother, hce⟩] at heq
  have htimed : TimePasses s u := hu ▸ TimePasses_atCyc s cyc
  obtain ⟨hended, hnumber⟩ := finishCommit_keeps commit (wakeFailedAgain d u)
  obtain ⟨hbanks, hnumber2, hdue, c, hpartial, hframe, hwriting⟩ := partialCommit_keeps ((wakeFailedAgain d u).finishCommit commit)
  generalize ((wakeFailedAgain d u).finishCommit commit).partialCommit = v at *
  obtain ⟨b, hread⟩ := readFinal_of_writing hwriting final
  have hreset := WasReset_resetWith 5 4 (v.readFinal final)
  have hnumber3 : (wakeFailedAgain d u).frame.number = s.frame.number := by
    show u.frame.number = _
    rw [htimed]
  have hbanks3 : v.qty.banks = bank.banks := by
    rw [hbanks, hended, hbank]
    show (commitEnded commit u).banks = _
    rw [htimed]
    rfl
  have hnext : v.qty.nextBank = bank.nextBank := by simp only [Qty.nextBank, Qty.latest, hbanks3]
  refine ⟨_, congrArg Host.Outcome.next heq, hreset.starting, hreset.reason, hreset.noFrame, hreset.finalDue.trans ?_,
    hreset.number.trans ?_, c, hpartial, (hframe.trans hnumber).trans hnumber3, hreset.banks.trans ?_⟩
  · rw [hread]
    exact hdue
  · rw [hread]
    exact (hnumber2.trans hnumber).trans hnumber3
  · rw [hread, hbanks3.symm, hnext.symm]

end Timeout

/-- Settles O22: DOMAIN_READY in time, late and in vain, and each time-out of a regulator. -/
theorem domainsBecomeReadyOrTimeOut : Obligations.DomainsBecomeReadyOrTimeOut := by
  unfold Obligations.DomainsBecomeReadyOrTimeOut
  exact ⟨fun d cyc vsd s u hu => ⟨fun h => congrArg Host.Outcome.next (domainReady_of_other hu h),
      fun q hq hon hwait htime => ⟨domainReady_on_time_does hu hq hon hwait htime, domainReady_late_does hu hq hon hwait htime⟩⟩,
    fun d cyc commit final s u hu => ⟨fun h => congrArg Host.Outcome.next (regulatorTimeout_of_other hu h),
      fun q hq hon hwait hrun htime hup => ⟨regulatorTimeout_first_does hu hq hon hwait hrun htime hup,
        regulatorTimeout_without_commit_does hu hq hon hwait hrun htime,
        fun _ hsecond hother hce hbank => regulatorTimeout_with_commit_does hu hq hon hwait hrun htime hsecond hother hce hbank⟩⟩⟩

end Sys2Proof.Proofs
end

section
/-! PROOF. The entry to WICK, the stay that a wake event ends at once, and the exit (R71 to R73, R398, R400, R401, R404, R411, R415). -/

namespace Sys2Proof.Proofs

open Sys2Proof Sys2Proof.Machine Sys2Proof.Laws

/-! ### The domains (R19) -/

theorem foldl_modAt_getElem? {α : Type} (f : α → α) (ds : List Nat) (l : List α) (e : Nat) :
    (ds.foldl (fun l x => modAt l x f) l)[e]? = l[e]?.map f^[ds.count e] := by
  induction ds generalizing l with
  | nil => simp
  | cons d ds ih =>
    rw [List.foldl_cons, ih, modAt_eq_modify, List.getElem?_modify, List.count_cons]
    by_cases h : d = e
    · simp [h, Function.comp_def]
    · simp [h]

theorem setDoms_getElem? (p : Power) (ds : List Nat) (f : Domain → Domain) (e : Nat) :
    (p.setDoms ds f).doms[e]? = p.doms[e]?.map f^[ds.count e] := foldl_modAt_getElem? f ds p.doms e

@[simp] theorem setDoms_length (p : Power) (ds : List Nat) (f : Domain → Domain) : (p.setDoms ds f).doms.length = p.doms.length :=
  List.foldlRecOn (motive := fun l : List Domain => l.length = p.doms.length) _ _ rfl fun _ hl _ _ => (modAt_length _ _ _).trans hl

@[simp] theorem switchOn_length (now d : Nat) (p : Power) : (p.switchOn now d).doms.length = p.doms.length := setDoms_length _ _ _

@[simp] theorem switchOff_length (d : Nat) (p : Power) : (p.switchOff d).doms.length = p.doms.length := setDoms_length _ _ _

theorem iterate_of_pos {α : Type} {P : α → Prop} {f : α → α} (hf : ∀ x, P (f x)) {n : Nat} (hn : 0 < n) (x : α) : P (f^[n] x) := by
  obtain ⟨k, rfl⟩ := Nat.exists_eq_add_of_lt hn
  rw [Nat.zero_add, Function.iterate_succ_apply']
  exact hf _

theorem setDoms_off_dom (p : Power) (ds : List Nat) (e : Nat) :
    (p.setDoms ds fun _ => Domain.off).dom e = if e ∈ ds then Domain.off else p.dom e := by
  simp only [Power.dom, List.getD_eq_getElem?_getD, setDoms_getElem?]
  split
  next hmem =>
    have hoff : ∀ q, (fun _ => Domain.off)^[ds.count e] q = Domain.off :=
      iterate_of_pos (P := (· = Domain.off)) (fun _ => rfl) (List.count_pos_iff.2 hmem)
    cases p.doms[e]? <;> simp [hoff]
  next hmem => simp [List.count_eq_zero_of_not_mem hmem]

/-- The domains that go off with one: those that require it, and itself (R19). -/
def offWith (d : Nat) : List Nat := (if d = 2 then [1, 0] else if d = 0 then [1] else []) ++ [d]

theorem mem_offWith {d e : Nat} : e ∈ offWith d ↔ e = d ∨ (e ≤ 1 ∧ d = 2) ∨ (e = 1 ∧ d = 0) := by
  unfold offWith
  split
  · simp
    omega
  · split
    · simp
      omega
    · simp
      omega

theorem switchOff_dom (p : Power) (d e : Nat) : (p.switchOff d).dom e = if e ∈ offWith d then Domain.off else p.dom e :=
  setDoms_off_dom p (offWith d) e

theorem foldl_switchOff_dom (ds : List Nat) (p : Power) (e : Nat) :
    (ds.foldl Power.switchOff p).dom e = if ∃ d ∈ ds, e ∈ offWith d then Domain.off else p.dom e := by
  induction ds generalizing p with
  | nil => simp
  | cons d ds ih =>
    rw [List.foldl_cons, ih, switchOff_dom]
    by_cases hd : e ∈ offWith d
    · simp [hd]
    · simp [hd]

/-- The domains with one switched off. -/
def domsOff (l : List Domain) (d : Nat) : List Domain := (offWith d).foldl (fun l x => modAt l x fun _ => Domain.off) l

theorem foldl_switchOff_eq (ds : List Nat) (p : Power) : ds.foldl Power.switchOff p = { p with doms := ds.foldl domsOff p.doms } := by
  induction ds generalizing p with
  | nil => rfl
  | cons d ds ih => exact ih (p.switchOff d)

/-- A domain that a switch-on names, or requires, is on. -/
theorem switchOn_on {now d e : Nat} {p : Power} (hmem : e ∈ domRequires d ++ [d]) (he : e < p.doms.length) :
    ((p.switchOn now d).dom e).on = true := by
  simp only [Power.switchOn, Power.dom, List.getD_eq_getElem?_getD, setDoms_getElem?, List.getElem?_eq_getElem he, Option.map_some,
    Option.getD_some]
  refine iterate_of_pos (P := fun q : Domain => q.on = true) (fun q => ?_) (List.count_pos_iff.2 hmem) _
  split
  · assumption
  · rfl

/-- A switch-on switches nothing off. -/
theorem switchOn_keeps_on {now d e : Nat} {p : Power} (h : (p.dom e).on = true) : ((p.switchOn now d).dom e).on = true := by
  simp only [Power.switchOn, Power.dom, List.getD_eq_getElem?_getD, setDoms_getElem?] at h ⊢
  cases hq : p.doms[e]? with
  | none => rw [hq] at h; exact h
  | some q =>
    rw [hq] at h
    refine Function.Iterate.rec (fun x : Domain => x.on = true) h (fun x hx => ?_) _
    rw [if_pos hx]
    exact hx

/-! ### Time that has been counted, and the power state -/

theorem elapse_of_counted {s : State} (h : s.frame.tick ≤ s.frame.done) : s.elapse = s := by
  unfold State.elapse
  simp only [Nat.sub_eq_zero_of_le h, max_eq_left h]
  rfl

theorem elapse_counted (s : State) : s.elapse.frame.tick ≤ s.elapse.frame.done := by
  have hframe : s.elapse.frame = { s.frame with done := max s.frame.done s.frame.tick } := by
    unfold State.elapse State.elapseBy
    dsimp only
    split
    · rfl
    · exact passTicks_frame _ _
  rw [hframe]
  exact le_max_right _ _

/-- A change of the power state at a time that has been counted. -/
theorem toPower_of_counted {s : State} (p : PState) (h : s.frame.tick ≤ s.frame.done) :
    s.toPower p = { s with
      frame := s.frame.clocked s.pwr.state
      pwr := { s.pwr with state := p, res := if s.pwr.state = p then s.pwr.res else s.pwr.res.enter p } } := by
  unfold State.toPower
  rw [elapse_of_counted h]
  dsimp only
  split
  next hp => rw [← hp]
  next => rfl

theorem pass_short (p : PState) (n : Nat) (r : Residency) : (r.pass p n).short = r.short := by
  unfold Residency.pass
  split <;> rfl

theorem enter_short (p : PState) (r : Residency) : (r.enter p).short = r.short := by
  unfold Residency.enter
  split <;> rfl

/-- RTC ticks change neither the wake event that waits nor the short entries. -/
theorem elapse_pwr_waits (s : State) :
    s.elapse.pwr.wakePending = s.pwr.wakePending ∧ s.elapse.pwr.res.short = s.pwr.res.short := by
  unfold State.elapse State.elapseBy
  dsimp only
  split
  · exact ⟨rfl, rfl⟩
  · rw [State.passTicks, count_pwr]
    exact ⟨rfl, pass_short _ _ _⟩

theorem toPower_res_short (p : PState) (s : State) : (s.toPower p).pwr.res.short = s.pwr.res.short := by
  rw [← (elapse_pwr_waits s).2]
  simp only [State.toPower]
  split
  · rfl
  · exact enter_short _ _

theorem toPower_cyc (p : PState) (s : State) : (s.toPower p).frame.cyc = s.frame.cyc := by
  have helapse : s.elapse.frame.cyc = s.frame.cyc := by
    obtain ⟨_, _, _, _, _, _, _, _, _, _, _, _, _, _, h⟩ := elapse_only s
    rw [h]
  simp only [State.toPower]
  split <;> exact helapse

theorem toPower_doms (p : PState) (s : State) : (s.toPower p).pwr.doms = s.pwr.doms := by
  simp only [State.toPower]
  split <;> exact elapse_pwr_doms s

/-! ### The exit from WICK (R401, R411, R415) -/

/-- WICK has been left for an event: the device runs, CE, TM and LK are on, and the event is the last wake source. -/
structure LeftWick (source : Nat) (s t : State) : Prop where
  state : t.pwr.state = .run
  lastWake : t.pwr.lastWake = source
  noWake : t.pwr.wakePending = none
  ce : (t.pwr.dom 3).on = true
  tm : (t.pwr.dom 2).on = true
  lk : (t.pwr.dom 4).on = true
  cyc : t.frame.cyc = s.frame.cyc
  ac : t.ac = s.ac
  short : s.frame.now < s.pwr.wickStart + 8 * 9600 → t.pwr.res.short = modAt s.pwr.res.short 0 (satInc (2 ^ 48 - 1))

/-- The domains as the exit from WICK switches them on at a time. -/
def wickExitDomains (dp : Bool) (now : Nat) (p : Power) : Power :=
  let q := ([3, 0, 4] : List Nat).foldl (Power.switchOn now) p
  if dp then q.switchOn now 5 else q

theorem wickExitDomains_on (dp : Bool) (now : Nat) {p : Power} (h : p.doms.length = 6) {e : Nat} (he : e = 3 ∨ e = 2 ∨ e = 4) :
    ((wickExitDomains dp now p).dom e).on = true := by
  have hon : ((([3, 0, 4] : List Nat).foldl (Power.switchOn now) p).dom e).on = true := by
    simp only [List.foldl_cons, List.foldl_nil]
    obtain rfl | rfl | rfl := he
    · exact switchOn_keeps_on (switchOn_keeps_on (switchOn_on (by decide) (by simp [h])))
    · exact switchOn_keeps_on (switchOn_on (by decide) (by simp [h]))
    · exact switchOn_on (by decide) (by simp [h])
  unfold wickExitDomains
  cases dp
  · exact hon
  · exact switchOn_keeps_on hon

theorem leaveWick_of_wick {s : State} (source : Nat) (h : s.pwr.state = .wick) :
    s.leaveWick source = { s.toPower .run with
      pwr := { wickExitDomains s.dpNeeded (s.toPower .run).frame.now (s.toPower .run).pwr with
        wakePending := none, lastWake := source
        res := if s.frame.now < s.pwr.wickStart + 8 * 9600 then
            { (s.toPower .run).pwr.res with short := modAt (s.toPower .run).pwr.res.short 0 (satInc (2 ^ 48 - 1)) }
          else (s.toPower .run).pwr.res } } := by
  unfold State.leaveWick
  rw [if_pos h]
  simp only [decide_eq_true_eq]
  cases hdp : s.dpNeeded
  · rfl
  · rfl

theorem LeftWick_leaveWick {s : State} (source : Nat) (h : s.pwr.state = .wick) (hdoms : s.pwr.doms.length = 6) :
    LeftWick source s (s.leaveWick source) := by
  have hlen : (s.toPower .run).pwr.doms.length = 6 := by rw [toPower_doms, hdoms]
  have hon := fun e => wickExitDomains_on s.dpNeeded (s.toPower .run).frame.now hlen (e := e)
  have hstate := leaveWick_state source (.inr h : s.pwr.state = .run ∨ _)
  have hac := leaveWick_ac source s
  rw [leaveWick_of_wick source h] at *
  refine ⟨hstate, rfl, rfl, ?_, ?_, ?_, ?_, hac, fun hshort => ?_⟩
  · exact hon 3 (.inl rfl)
  · exact hon 2 (.inr (.inl rfl))
  · exact hon 4 (.inr (.inr rfl))
  · exact toPower_cyc .run s
  · dsimp only
    rw [if_pos hshort, toPower_res_short]

/-! ### The device in WICK (R400, R401) -/

/-- TM goes off in WICK: no OCXO needs it (R207). -/
def tmOffInWick (u : State) : Bool := !(u.on_ 0x0400 1 == 1 && decide (u.mode ≠ .taper))

theorem tmOffInWick_of_off {u : State} (h : u.on_ 0x0400 1 ≠ 1 ∨ u.mode = .taper) : tmOffInWick u = true := by
  obtain h | h := h <;> simp [tmOffInWick, h]

theorem tmOffInWick_of_ocxo {u : State} (hocxo : u.on_ 0x0400 1 = 1) (hmode : u.mode ≠ .taper) : tmOffInWick u = false := by
  simp [tmOffInWick, hocxo, hmode]

/-- The entry to WICK is complete: the domains that are not kept are off, with what they carry. -/
def wickEntered (u : State) : State :=
  { u with
    frame := u.frame.clocked u.pwr.state
    pwr := { u.pwr with
      state := .wick, doms := u.wickDomains.doms, res := if u.pwr.state = .wick then u.pwr.res else u.pwr.res.enter .wick
      wickStart := u.frame.now - 8 * 1280 }
    ac := { (if tmOffInWick u then u.ac.tmOff else u.ac) with vsdGood := false }
    clk := if tmOffInWick u then { u.clk with hfxReady := false } else u.clk }

/-- The domains to switch off in WICK (Table 12.2). -/
def wickOff (u : State) : List Nat :=
  [0, 3] ++ (if u.on_ 0x0400 1 == 1 && decide (u.mode ≠ .taper) then [] else [2]) ++ (if u.linkKept then [] else [4]) ++
    (if u.displayKept then [] else [5])

theorem wickDomains_eq (u : State) : u.wickDomains = (wickOff u).foldl Power.switchOff u.pwr := rfl

theorem wickDomains_dom (u : State) (e : Nat) :
    u.wickDomains.dom e = if ∃ d ∈ wickOff u, e ∈ offWith d then Domain.off else u.pwr.dom e :=
  foldl_switchOff_dom (wickOff u) u.pwr e

theorem wickDomains_af_hd_ce (u : State) {e : Nat} (he : e = 0 ∨ e = 1 ∨ e = 3) : u.wickDomains.dom e = Domain.off := by
  rw [wickDomains_dom, if_pos]
  obtain rfl | rfl | rfl := he
  · exact ⟨0, by simp [wickOff], by decide⟩
  · exact ⟨0, by simp [wickOff], by decide⟩
  · exact ⟨3, by simp [wickOff], by decide⟩

theorem mem_unless (c : Bool) (d e : Nat) : e ∈ (if c then [] else [d]) ↔ e = d ∧ c = false := by
  cases c <;> simp

theorem mem_wickOff (u : State) (d : Nat) : d ∈ wickOff u ↔
    ((d = 0 ∨ d = 3) ∨ (d = 2 ∧ tmOffInWick u = true)) ∨ (d = 4 ∧ u.linkKept = false) ∨ (d = 5 ∧ u.dpNeeded = false) := by
  rw [show u.dpNeeded = u.displayKept from rfl]
  simp only [wickOff, List.mem_append, mem_unless, List.mem_cons, List.not_mem_nil, or_false, tmOffInWick,
    Bool.not_eq_true', or_assoc]

/-- TM, LK and DP go off in WICK alone where they are not kept: no domain on the list takes them with it. -/
theorem wickDomains_tm_lk_dp (u : State) {e : Nat} (he : e = 2 ∨ e = 4 ∨ e = 5) :
    u.wickDomains.dom e = if e ∈ wickOff u then Domain.off else u.pwr.dom e := by
  have hself : (∃ d ∈ wickOff u, e ∈ offWith d) ↔ e ∈ wickOff u := by
    refine ⟨fun ⟨d, hd, hoff⟩ => ?_, fun h => ⟨e, h, mem_offWith.2 (.inl rfl)⟩⟩
    obtain rfl : e = d := by
      have := mem_offWith.1 hoff
      omega
    exact hd
  rw [wickDomains_dom]
  simp only [hself]

theorem wickEntered_tm (u : State) : (wickEntered u).pwr.dom 2 = if tmOffInWick u then Domain.off else u.pwr.dom 2 :=
  (wickDomains_tm_lk_dp u (.inl rfl)).trans (by simp [mem_wickOff])

theorem wickEntered_lk (u : State) : (wickEntered u).pwr.dom 4 = if u.linkKept then u.pwr.dom 4 else Domain.off :=
  (wickDomains_tm_lk_dp u (.inr (.inl rfl))).trans (by cases h : u.linkKept <;> simp [mem_wickOff, h])

theorem wickEntered_dp (u : State) : (wickEntered u).pwr.dom 5 = if u.dpNeeded then u.pwr.dom 5 else Domain.off :=
  (wickDomains_tm_lk_dp u (.inr (.inr rfl))).trans (by cases h : u.dpNeeded <;> simp [mem_wickOff, h])

theorem wickEntered_doms_length (u : State) : (wickEntered u).pwr.doms.length = u.pwr.doms.length :=
  List.foldlRecOn (motive := fun p : Power => p.doms.length = u.pwr.doms.length) (wickOff u) Power.switchOff rfl fun p hp d _ =>
    (switchOff_length d p).trans hp

/-! ### WICK_ENTRY_COMPLETE (R71, R73, R401, R404) -/

section Entry

variable {cyc : Nat} {wake : Option Nat} {s u : State}

theorem wickEntryComplete_of_busy (h : s.frame.running = false ∨ s.frame.committing = true ∨ s.working = true) :
    wickEntryComplete cyc wake s = s := by
  refine if_pos ?_
  obtain h | h | h := h <;> simp [h]

/-- The state at the end of the entry has counted its ticks, and differs from the state before it in what time changes. -/
theorem entryTime_stands (hu : u = State.elapse (State.settlePins { s with frame := s.frame.at_ cyc })) :
    u.frame.tick ≤ u.frame.done ∧ TimePasses s u ∧ u.pwr.res.short = s.pwr.res.short ∧ (∀ e, e ≠ 1 → u.pwr.dom e = s.pwr.dom e) ∧
      u.pwr.doms.length = s.pwr.doms.length := by
  subst hu
  obtain ⟨-, hshort⟩ := elapse_pwr_waits (State.settlePins { s with frame := s.frame.at_ cyc })
  have hdoms := elapse_pwr_doms (State.settlePins { s with frame := s.frame.at_ cyc })
  refine ⟨elapse_counted _, TimePasses_trans (TimePasses_at s cyc) (TimePasses_elapse _), hshort.trans ?_, fun e he => ?_, ?_⟩
  · simp only [State.settlePins]
    split <;> rfl
  · simp only [Power.dom, hdoms]
    simp only [State.settlePins]
    split
    · exact (switchOff_dom s.pwr 1 e).trans (if_neg (by simp [offWith, he]))
    · rfl
  · rw [hdoms]
    simp only [State.settlePins]
    split
    · exact modAt_length _ _ _
    · rfl

/-- A power state changed at a counted time, with the domains and what they carry, is the entry to WICK. -/
theorem wickEntered_eq (hcounted : u.frame.tick ≤ u.frame.done) :
    ({ u.toPower .wick with
      pwr := { (u.toPower .wick).wickDomains with wickStart := u.frame.now - 8 * 1280 }
      ac := { (if tmOffInWick u then (u.toPower .wick).ac.tmOff else (u.toPower .wick).ac) with vsdGood := false }
      clk := if tmOffInWick u then { (u.toPower .wick).clk with hfxReady := false } else (u.toPower .wick).clk } : State) =
      wickEntered u := by
  rw [wickEntered, wickDomains_eq, wickDomains_eq, foldl_switchOff_eq, foldl_switchOff_eq, toPower_of_counted .wick hcounted]
  rfl

/-- The entry where the device neither works nor commits: DOZE, or WICK, which an event that came ends at once. -/
theorem wickEntryComplete_of_idle (hrun : s.frame.running = true) (hcommit : s.frame.committing = false) (hwork : s.working = false)
    (hu : u = State.elapse (State.settlePins { s with frame := s.frame.at_ cyc })) :
    wickEntryComplete cyc wake s =
      if u.wickBarred || u.gapShort then u.toPower .doze
      else (u.pwr.wakePending.or wake).elim (wickEntered u) (wickEntered u).leaveWick := by
  obtain ⟨hcounted, -⟩ := entryTime_stands hu
  have hentered := wickEntered_eq hcounted
  unfold wickEntryComplete
  rw [if_neg (by simp [hrun, hcommit, hwork])]
  dsimp only
  rw [← hu]
  split
  · rfl
  · have hpending : (u.toPower .wick).wickDomains.wakePending = u.pwr.wakePending := by
      rw [wickDomains_eq, foldl_switchOff_eq, toPower_of_counted .wick hcounted]
    rw [tmOffInWick] at hentered
    rw [hentered, hpending]
    cases u.pwr.wakePending with
    | some e => rfl
    | none => cases wake <;> rfl

theorem wickEntryComplete_of_barred (hrun : s.frame.running = true) (hcommit : s.frame.committing = false) (hwork : s.working = false)
    (hu : u = State.elapse (State.settlePins { s with frame := s.frame.at_ cyc })) (h : u.wickBarred = true ∨ u.gapShort = true) :
    wickEntryComplete cyc wake s = u.toPower .doze :=
  (wickEntryComplete_of_idle hrun hcommit hwork hu).trans (if_pos (by simpa using h))

/-- The entry to WICK that no event disturbs. -/
theorem wickEntryComplete_enters (hrun : s.frame.running = true) (hcommit : s.frame.committing = false) (hwork : s.working = false)
    (hu : u = State.elapse (State.settlePins { s with frame := s.frame.at_ cyc })) (hallowed : u.wickBarred = false)
    (hgap : u.gapShort = false) (hpending : u.pwr.wakePending = none) (hwake : wake = none) :
    Does (.wickEntryComplete cyc wake) s fun t =>
      t.pwr.state = .wick ∧ (t.pwr.dom 3).on = false ∧ (t.pwr.dom 0).on = false ∧ (t.pwr.dom 1).on = false ∧
      t.pwr.dom 4 = (if u.linkKept then u.pwr.dom 4 else Domain.off) ∧
      t.pwr.dom 5 = (if u.dpNeeded then u.pwr.dom 5 else Domain.off) ∧
      (s.on_ 0x0400 1 ≠ 1 ∨ s.mode = .taper →
        (t.pwr.dom 2).on = false ∧ t.ac.pllLocked = false ∧ t.ac.dllLocked = false) ∧
      (s.on_ 0x0400 1 = 1 → s.mode ≠ .taper → t.pwr.dom 2 = s.pwr.dom 2 ∧ t.ac.pllLocked = s.ac.pllLocked) ∧
      t.ac.vsdGood = false ∧ t.ac.ctx = s.ac.ctx ∧
      t.frame.number = s.frame.number ∧ t.mem = s.mem ∧ t.set = s.set ∧ t.acc = u.acc ∧ t.qty = s.qty ∧ t.q = s.q ∧
      t.core = s.core ∧ t.log = s.log ∧ t.mode = s.mode := by
  have heq : wickEntryComplete cyc wake s = wickEntered u := by
    rw [wickEntryComplete_of_idle hrun hcommit hwork hu, hallowed, hgap, if_neg (by decide), hpending, hwake, Option.or_none,
      Option.elim_none]
  obtain ⟨-, htimed, -, hdoms, -⟩ := entryTime_stands hu
  have hoff : ∀ e, e = 0 ∨ e = 1 ∨ e = 3 → ((wickEntered u).pwr.dom e).on = false := fun e he =>
    congrArg Domain.on (wickDomains_af_hd_ce u he)
  have hctx : (wickEntered u).ac.ctx = u.ac.ctx := by
    unfold wickEntered
    split <;> rfl
  have hon : u.on_ 0x0400 1 = s.on_ 0x0400 1 := by rw [htimed]; rfl
  have hmode : u.mode = s.mode := by rw [htimed]
  refine ⟨_, congrArg Host.Outcome.next heq, rfl, hoff 3 (by decide), hoff 0 (by decide), hoff 1 (by decide), wickEntered_lk u,
    wickEntered_dp u, fun hoff2 => ?_, fun hocxo htaper => ?_, rfl, hctx.trans (by rw [htimed]), ?_⟩
  · have htm := tmOffInWick_of_off (u := u) (by rw [hon, hmode]; exact hoff2)
    refine ⟨congrArg Domain.on ((wickEntered_tm u).trans (if_pos htm)), ?_, ?_⟩
    · simp only [wickEntered, htm, if_true, Acoustic.tmOff]
    · simp only [wickEntered, htm, if_true, Acoustic.tmOff]
  · have htm := tmOffInWick_of_ocxo (u := u) (hon.trans hocxo) (by rw [hmode]; exact htaper)
    refine ⟨((wickEntered_tm u).trans (by simp [htm])).trans (hdoms 2 (by decide)), ?_⟩
    have hlock : u.ac.pllLocked = s.ac.pllLocked := by rw [htimed]
    simp only [wickEntered, htm, Bool.false_eq_true, if_false, hlock]
  · show u.frame.number = _ ∧ u.mem = _ ∧ u.set = _ ∧ u.acc = u.acc ∧ u.qty = _ ∧ u.q = _ ∧ u.core = _ ∧ u.log = _ ∧ u.mode = _
    rw [htimed]
    exact ⟨rfl, rfl, rfl, rfl, rfl, rfl, rfl, rfl, rfl⟩

/-- Where WICK is not allowed, or the gap is too short, the device dozes. -/
theorem wickEntryComplete_dozes (hrun : s.frame.running = true) (hcommit : s.frame.committing = false) (hwork : s.working = false)
    (hu : u = State.elapse (State.settlePins { s with frame := s.frame.at_ cyc })) (h : u.wickBarred = true ∨ u.gapShort = true) :
    Does (.wickEntryComplete cyc wake) s fun t =>
      t.pwr.state = .doze ∧ t.pwr.doms = u.pwr.doms ∧ t.ac = u.ac ∧ t.mem = s.mem ∧
      t.set = s.set ∧ t.core = s.core ∧ t.frame.number = s.frame.number := by
  obtain ⟨-, htimed, -⟩ := entryTime_stands hu
  refine ⟨_, congrArg Host.Outcome.next (wickEntryComplete_of_barred hrun hcommit hwork hu h), toPower_state .doze u, toPower_doms .doze u,
    toPower_ac .doze u, ?_⟩
  rw [TimePasses_trans htimed (TimePasses_toPower .doze u)]
  exact ⟨rfl, rfl, rfl, rfl⟩

theorem natAt_modAt_same {l : List Nat} {n : Nat} (f : Nat → Nat) (h : n < l.length) : natAt (modAt l n f) n = f (natAt l n) := by
  simp [natAt, modAt_eq_modify, List.getD_eq_getElem?_getD, h]

/-- An event that came during the entry ends the stay at once, as a short entry (R73, R404). -/
theorem wickEntryComplete_woken {e : Nat} (hrun : s.frame.running = true) (hcommit : s.frame.committing = false) (hwork : s.working = false)
    (hlen : s.pwr.doms.length = 6) (hu : u = State.elapse (State.settlePins { s with frame := s.frame.at_ cyc }))
    (hallowed : u.wickBarred = false) (hgap : u.gapShort = false)
    (he : u.pwr.wakePending = some e ∨ (u.pwr.wakePending = none ∧ wake = some e)) (hres : 0 < s.pwr.res.short.length) :
    Does (.wickEntryComplete cyc wake) s fun t =>
      t.pwr.state = .run ∧ t.pwr.lastWake = e ∧ t.pwr.wakePending = none ∧
      (t.pwr.dom 3).on = true ∧ (t.pwr.dom 2).on = true ∧ (t.pwr.dom 4).on = true ∧
      natAt t.pwr.res.short 0 = min (2 ^ 48 - 1) (natAt s.pwr.res.short 0 + 1) ∧
      t.frame.number = s.frame.number ∧ t.mem = s.mem ∧ t.set = s.set ∧ t.core = s.core := by
  have hwoken : u.pwr.wakePending.or wake = some e := by
    obtain h | ⟨h, hw⟩ := he
    · rw [h, Option.some_or]
    · rw [h, hw, Option.none_or]
  have heq : wickEntryComplete cyc wake s = (wickEntered u).leaveWick e := by
    rw [wickEntryComplete_of_idle hrun hcommit hwork hu, hallowed, hgap, if_neg (by decide), hwoken, Option.elim_some]
  obtain ⟨-, htimed, hshort, -, hsame⟩ := entryTime_stands hu
  have hleft := LeftWick_leaveWick (s := wickEntered u) e rfl ((wickEntered_doms_length u).trans (hsame.trans hlen))
  have hkept : (wickEntered u).pwr.res.short = s.pwr.res.short := by
    rw [← hshort, wickEntered]
    dsimp only
    split
    · rfl
    · exact enter_short _ _
  have hround : (wickEntered u).frame.now < (wickEntered u).pwr.wickStart + 8 * 9600 := by
    show u.frame.now < u.frame.now - 8 * 1280 + 8 * 9600
    omega
  refine ⟨_, congrArg Host.Outcome.next heq, hleft.state, hleft.lastWake, hleft.noWake, hleft.ce, hleft.tm, hleft.lk, ?_, ?_⟩
  · exact (congrArg (natAt · 0) ((hleft.short hround).trans (by rw [hkept]))).trans (natAt_modAt_same _ hres)
  · rw [TimePasses_leaveWick e (wickEntered u)]
    show u.frame.number = _ ∧ u.mem = _ ∧ u.set = _ ∧ u.core = _
    rw [htimed]
    exact ⟨rfl, rfl, rfl, rfl⟩

end Entry

/-! ### WICK_EXIT (R72, R401) -/

section Exit

variable {cyc : Nat} {s u : State}

theorem coreWake_of_awake {s : State} (h : s.core.wfi = none) : s.coreWake = s := by simp only [State.coreWake, h]

theorem leaveWick_of_other {s : State} (source : Nat) (h : s.pwr.state ≠ .wick) : s.leaveWick source = s := if_neg h

theorem wickExit_eq (hu : u = { s with frame := s.frame.at_ (if s.pwr.wakePending.isSome then cyc else max cyc (s.nextJob - 8320)) }) :
    wickExit cyc s = (u.leaveWick (s.pwr.wakePending.getD 255)).coreWake := by
  rw [hu]
  rfl

theorem wickExit_of_other (hu : u = { s with frame := s.frame.at_ (if s.pwr.wakePending.isSome then cyc else max cyc (s.nextJob - 8320)) })
    (hstate : s.pwr.state ≠ .wick) (hwfi : s.core.wfi = none) : wickExit cyc s = u := by
  have hpwr : u.pwr = s.pwr := by rw [hu]
  have hcore : u.core = s.core := by rw [hu]
  rw [wickExit_eq hu, leaveWick_of_other _ (by rwa [hpwr]), coreWake_of_awake (by rwa [hcore])]

theorem wickExit_leaves (hu : u = { s with frame := s.frame.at_ (if s.pwr.wakePending.isSome then cyc else max cyc (s.nextJob - 8320)) })
    (hstate : s.pwr.state = .wick) (hlen : s.pwr.doms.length = 6) :
    Does (.wickExit cyc) s fun t =>
      t.pwr.state = .run ∧ (t.pwr.dom 3).on = true ∧ (t.pwr.dom 2).on = true ∧ (t.pwr.dom 4).on = true ∧
      t.pwr.lastWake = s.pwr.wakePending.getD 255 ∧ t.pwr.wakePending = none ∧ t.frame.cyc = u.frame.cyc ∧
      t.frame.number = s.frame.number ∧ t.mem = s.mem ∧ t.set = s.set ∧ t.acc = { s.acc with lockout := t.acc.lockout } ∧
      t.ac = s.ac ∧ t.qty = s.qty ∧ t.q = s.q ∧ (s.core.wfi = none → t.core = s.core) ∧ t.log = s.log ∧ t.mode = s.mode := by
  have hpwr : u.pwr = s.pwr := by rw [hu]
  have hac : u.ac = s.ac := by rw [hu]
  have hleft := LeftWick_leaveWick (s := u) (s.pwr.wakePending.getD 255) (by rwa [hpwr]) (by rwa [hpwr])
  have htimed : TimePasses s (u.leaveWick (s.pwr.wakePending.getD 255)) :=
    TimePasses_trans (hu ▸ TimePasses_at_ s _) (TimePasses_leaveWick _ u)
  refine ⟨_, congrArg Host.Outcome.next (wickExit_eq hu), ?_⟩
  generalize u.leaveWick (s.pwr.wakePending.getD 255) = v at *
  have hcore : v.core = s.core := by rw [htimed]
  have hwake : s.core.wfi = none → v.coreWake.core = s.core := fun h => by rw [coreWake_of_awake (by rw [hcore, h]), hcore]
  simp only [coreWake_pwr, coreWake_frame, coreWake_mem, coreWake_set, coreWake_acc, coreWake_ac, coreWake_qty, coreWake_q, coreWake_log,
    coreWake_mode]
  refine ⟨hleft.state, hleft.ce, hleft.tm, hleft.lk, hleft.lastWake, hleft.noWake, hleft.cyc, ?_, ?_, ?_, ?_, hleft.ac.trans hac, ?_, ?_,
    hwake, ?_, ?_⟩
  all_goals rw [htimed]

end Exit

/-- Settles O21: the entry to WICK in its four cases, and the exit. -/
theorem wickIsEnteredAndLeft : Obligations.WickIsEnteredAndLeft := by
  unfold Obligations.WickIsEnteredAndLeft
  exact ⟨fun cyc wake s h => congrArg Host.Outcome.next (wickEntryComplete_of_busy h),
    fun cyc wake s u hrun hcommit hwork hlen hu => ⟨wickEntryComplete_enters hrun hcommit hwork hu,
      wickEntryComplete_dozes hrun hcommit hwork hu, fun e => wickEntryComplete_woken hrun hcommit hwork hlen hu⟩,
    fun cyc s u hu => ⟨fun hstate hwfi => congrArg Host.Outcome.next (wickExit_of_other hu hstate hwfi), wickExit_leaves hu⟩⟩

end Sys2Proof.Proofs
end

section
/-! PROOF. The start sequence opens a history entry, powers CE and TM and chooses the mode (R313, R358, R380, R381, R417, R418, R420, R422,
R425). -/

namespace Sys2Proof.Proofs

open Sys2Proof Sys2Proof.Machine Sys2Proof.Laws

/-! ### The history entry (R417, R422) -/

/-- The newest history entry is open, for a start with a reason. -/
def HasOpenEntry (reason : Nat) (p : Power) : Prop :=
  p.open_ = true ∧ ∃ e es, p.history = e :: es ∧ e.startReason = reason ∧ e.outcome = 0

/-- A reset whose outcome is not FAILED adds no failed start. -/
theorem closeEntry_of_sound {reason : Nat} (h : failedReason reason = false) (p : Power) : ∃ history,
    p.closeEntry reason = { p with history := history, open_ := false, endReason := reason } := by
  unfold Power.closeEntry
  rw [h]
  split
  · split
    · exact ⟨_, rfl⟩
    · next hopen => exact ⟨_, by rw [← Bool.eq_false_of_not_eq_true hopen]⟩
  · exact ⟨_, rfl⟩

/-- A reset of a start that has not succeeded, for a reason whose outcome is FAILED. -/
theorem closeEntry_of_failed {reason : Nat} (h : failedReason reason = true) {p : Power} {e : BootEntry} {es : List BootEntry}
    (hentry : p.history = e :: es) (hopen : p.open_ = true) (hyet : p.succeeded = false) :
    p.closeEntry reason = { p with
      history := { e with endReason := reason, outcome := 2 } :: es, failedStarts := satInc 255 p.failedStarts
      open_ := false, endReason := reason } := by
  simp only [Power.closeEntry, hentry, hopen, hyet, h, Bool.not_false, Bool.and_self, if_true, Bool.false_eq_true, if_false]

/-- A new entry opens for the reason of the last reset; one that a loss of power left open is no failed start (R423). -/
theorem openEntry_only (time flags : Nat) (p : Power) : ∃ e es, e.startReason = p.endReason ∧ e.outcome = 0 ∧
    p.openEntry time flags = { p with
      history := e :: es, open_ := true, succeeded := false, boundaries := 0, startCount := satInc (2 ^ 32 - 1) p.startCount } := by
  unfold Power.openEntry
  obtain ⟨history, hclose⟩ := closeEntry_of_sound (reason := 1) (by decide) p
  rw [hclose]
  split
  · exact ⟨_, _, rfl, rfl, rfl⟩
  · exact ⟨_, _, rfl, rfl, rfl⟩

/-! ### Steps of the start sequence -/

/-- What steps of the start sequence may change of the power manager: whether a final commit was due, the flags of the open history entry,
and whether TAPER is resumed. -/
structure Marks (p q : Power) : Prop where
  outside : q = { p with finalDue := q.finalDue, history := q.history, resumed := q.resumed }
  entry : ∀ reason, HasOpenEntry reason p → HasOpenEntry reason q

theorem Marks_refl (p : Power) : Marks p p := ⟨rfl, fun _ h => h⟩

theorem Marks_trans {p q r : Power} (h1 : Marks p q) (h2 : Marks q r) : Marks p r where
  outside := by
    have ho1 := h1.outside
    have ho2 := h2.outside
    rw [ho1] at ho2
    exact ho2
  entry reason h := h2.entry reason (h1.entry reason h)

theorem Marks_mark (n : Nat) (p : Power) : Marks p (p.mark n) where
  outside := rfl
  entry reason h := by
    obtain ⟨hopen, e, es, hentry, hreason, houtcome⟩ := h
    refine ⟨hopen, { e with flags := e.flags ||| 2 ^ n }, es, ?_, hreason, houtcome⟩
    simp only [Power.mark, hentry]

/-- A step of the start sequence: the settings stand, and of the power manager of a device in reset at most what `Marks` names changes. -/
structure StartStep (u t : State) : Prop where
  set : t.set = u.set
  pwr : u.pwr.state = .starting → Marks u.pwr t.pwr

theorem StartStep_of_eq {u t : State} (hset : t.set = u.set) (hpwr : t.pwr = u.pwr) : StartStep u t :=
  ⟨hset, fun _ => hpwr ▸ Marks_refl u.pwr⟩

theorem StartStep_refl (s : State) : StartStep s s := StartStep_of_eq rfl rfl

theorem Marks_state {p q : Power} (h : Marks p q) : q.state = p.state := by rw [h.outside]

theorem StartStep_trans {u v t : State} (h1 : StartStep u v) (h2 : StartStep v t) : StartStep u t where
  set := h2.set.trans h1.set
  pwr h := Marks_trans (h1.pwr h) (h2.pwr ((Marks_state (h1.pwr h)).trans h))

theorem StartStep_foldl {α : Type} {f : State → α → State} (hf : ∀ s x, StartStep s (f s x)) (l : List α) (s : State) :
    StartStep s (l.foldl f s) :=
  List.foldlRecOn (motive := StartStep s) l f (StartStep_refl s) fun _ h x _ => StartStep_trans h (hf _ x)

theorem StartStep_raise (e : Raised) (s : State) : StartStep s (s.raise e) :=
  ⟨rfl, fun h => raise_pwr_awake e s (by simp [h]) (by simp [h]) (by simp [h]) ▸ Marks_refl s.pwr⟩

theorem StartStep_raiseAll (es : List Raised) (s : State) : StartStep s (s.raiseAll es) :=
  StartStep_foldl (fun s e => StartStep_raise e s) es s

theorem StartStep_raiseIf (c : Bool) (e : Raised) (s : State) : StartStep s (s.raiseIf c e) := by
  unfold State.raiseIf
  split
  · exact StartStep_raise e s
  · exact StartStep_refl s

theorem StartStep_markIf (c : Bool) (n : Nat) (s : State) : StartStep s (s.markIf c n) := by
  unfold State.markIf
  split
  · exact ⟨rfl, fun _ => Marks_mark n s.pwr⟩
  · exact StartStep_refl s

/-- Events that a change outside the settings and the power manager raises. -/
theorem StartStep_raiseAll_of_eq {u v : State} (es : List Raised) (hset : v.set = u.set := by rfl) (hpwr : v.pwr = u.pwr := by rfl) :
    StartStep u (v.raiseAll es) := StartStep_trans (StartStep_of_eq hset hpwr) (StartStep_raiseAll es v)

theorem StartStep_raise_of_eq {u v : State} (e : Raised) (hset : v.set = u.set := by rfl) (hpwr : v.pwr = u.pwr := by rfl) :
    StartStep u (v.raise e) := StartStep_raiseAll_of_eq [e] hset hpwr

/-! ### Billing catches up (R380, R381) -/

theorem StartStep_demandEnd (inst flags : Nat) (s : State) : StartStep s (s.demandEnd inst flags) :=
  StartStep_raise_of_eq _

theorem StartStep_switchTariff (inst local_ cause flags : Nat) (s : State) : StartStep s (s.switchTariff inst local_ cause flags) := by
  unfold State.switchTariff
  dsimp only
  split
  · exact StartStep_refl s
  · exact StartStep_raise_of_eq _

theorem StartStep_activateCalendar (inst flags : Nat) (s : State) : StartStep s (s.activateCalendar inst flags) :=
  StartStep_raise_of_eq _

theorem StartStep_billingClose (inst flags : Nat) (s : State) : StartStep s (s.billingClose inst flags) := by
  unfold State.billingClose
  dsimp only
  split
  · exact StartStep_refl s
  · split
    · exact StartStep_of_eq rfl rfl
    · split
      · exact StartStep_of_eq rfl rfl
      · exact StartStep_of_eq rfl rfl

theorem StartStep_passInstant (flags x : Nat) (s : State) : StartStep s (s.passInstant flags x) := by
  unfold State.passInstant
  split
  · exact StartStep_demandEnd _ _ s
  · dsimp only
    split
    · exact StartStep_trans (StartStep_activateCalendar _ _ s) (StartStep_switchTariff _ _ _ _ _)
    · exact StartStep_activateCalendar _ _ s
  · exact StartStep_billingClose _ _ s
  · exact StartStep_billingClose _ _ s

theorem StartStep_passSpan (from_ to_ : Nat) (act : Option Nat) (always : Bool) (flags : Nat) (s : State) :
    StartStep s (s.passSpan from_ to_ act always flags) := by
  unfold State.passSpan
  extract_lets n e ends acts s1
  have h1 : StartStep s s1 := StartStep_foldl (fun s x => StartStep_passInstant flags x s) _ s
  clear_value s1
  split
  · exact h1
  · exact StartStep_trans h1 (StartStep_of_eq rfl rfl)

theorem StartStep_catchUp (from_ : Option Nat) (s : State) : StartStep s (s.catchUp from_) := by
  unfold State.catchUp
  extract_lets now _ _ s0 _ flags t s3 l p
  have h0 : StartStep s s0 := StartStep_of_eq rfl rfl
  split
  · exact StartStep_trans h0 (StartStep_of_eq rfl rfl)
  · have h3 : StartStep s0 s3 := StartStep_passSpan _ _ _ _ _ s0
    exact StartStep_trans h0 (StartStep_trans h3 (StartStep_trans (StartStep_switchTariff _ _ _ _ s3) (StartStep_of_eq rfl rfl)))

theorem StartStep_writeGroup (c : Commit) (g : Group) (insts : List Nat) (next exec : Nat) (s : State) :
    StartStep s (s.writeGroup c g insts next exec) := by
  unfold State.writeGroup
  extract_lets n parts slots _ s1
  have h1 : StartStep s s1 := StartStep_raise_of_eq _
  refine StartStep_trans h1 ?_
  obtain ⟨q, hq⟩ := emitAll_only (parts.map fun p =>
    ({ type := 0x0B, gen := 0, cls := 0, src := 0x4A, qual := snapshotQual c.bill, frame := c.frame % 65536, payload := p.2 } : Record)) s1
  rw [hq]
  exact StartStep_of_eq rfl rfl

theorem StartStep_completeGroups (s : State) : StartStep s s.completeGroups := by
  unfold State.completeGroups
  refine StartStep_foldl (fun s c => ?_) _ s
  split
  · exact StartStep_refl s
  · dsimp only
    split
    · exact StartStep_refl s
    · exact StartStep_writeGroup _ _ _ _ _ s

/-! ### The banks are restored (R313, R358) -/

theorem StartStep_restoreBanks (s : State) : StartStep s s.restoreBanks.1 := by
  unfold State.restoreBanks
  split
  · exact StartStep_of_eq rfl rfl
  · dsimp only
    split
    · exact StartStep_of_eq rfl rfl
    · exact StartStep_of_eq rfl rfl

theorem StartStep_restoreStart (damage : List (Nat × Nat × Nat)) (s : State) : StartStep s (s.restoreStart damage).1 := by
  unfold State.restoreStart
  extract_lets s0 r number _ _ _ _ s1 missed s2 _ s3
  have h0 : StartStep s s0 := StartStep_of_eq rfl rfl
  have hr : StartStep s0 r.1 := StartStep_restoreBanks s0
  have h1 : StartStep r.1 s1 := StartStep_raiseAll_of_eq _
  have h2 : StartStep s1 s2 := StartStep_raiseIf _ _ s1
  have h3 : StartStep s2 s3 := ⟨rfl, fun _ => ⟨rfl, fun _ h => h⟩⟩
  exact StartStep_trans h0 (StartStep_trans hr (StartStep_trans h1 (StartStep_trans h2 (StartStep_trans h3
    (StartStep_trans (StartStep_markIf _ 3 s3) (StartStep_markIf _ 4 _))))))

theorem restoreBanks_cal (s : State) : s.restoreBanks.1.cal = s.cal := by
  unfold State.restoreBanks
  split
  · rfl
  · dsimp only
    split <;> rfl

theorem markIf_cal (c : Bool) (n : Nat) (s : State) : (s.markIf c n).cal = s.cal := by
  unfold State.markIf
  split <;> rfl

theorem restoreStart_cal (damage : List (Nat × Nat × Nat)) (s : State) : (s.restoreStart damage).1.cal = s.cal := by
  unfold State.restoreStart
  extract_lets s0 r number _ _ _ _ s1 missed s2 _ s3
  calc ((s3.markIf s3.qty.oneBank 3).markIf r.2.1.isNone 4).cal
      = s2.cal := (markIf_cal _ 4 _).trans (markIf_cal _ 3 s3)
    _ = s1.cal := raiseIf_cal _ _ s1
    _ = r.1.cal := raiseAll_cal _ _
    _ = s.cal := restoreBanks_cal s0

/-- Coping with a loss of BK state changes the power manager no more than raising events does. -/
theorem bkLoss_pwr (time : Option Nat) {s : State} (h : s.pwr.state = .starting) : (s.bkLoss time).pwr = s.pwr := by
  unfold State.bkLoss
  extract_lets c t _ tampers _ s1
  exact raiseAll_pwr_awake _ s1 (by simp [s1, h]) (by simp [s1, h]) (by simp [s1, h])

/-! ### The mode is chosen, and the blocks are brought up (R205, R418, R425, R546) -/

theorem StartStep_requestMode (v : Nat) (s : State) : StartStep s (s.requestMode v).1 := by
  unfold State.requestMode
  extract_lets m s1 f s2 q s3
  split
  · exact StartStep_refl s
  · split
    · exact StartStep_of_eq rfl rfl
    · split
      · exact StartStep_raiseAll_of_eq (v := s1) _
      · split
        · exact StartStep_of_eq rfl rfl
        · split
          · exact StartStep_of_eq rfl rfl
          · exact StartStep_of_eq rfl rfl

theorem StartStep_startsIn (s : State) : StartStep s s.startsIn := by
  unfold State.startsIn
  extract_lets resumed _ r m
  split
  · exact ⟨rfl, fun _ => ⟨rfl, fun _ h => h⟩⟩
  · split
    · exact StartStep_of_eq rfl rfl
    · have hr : StartStep s r.1 := StartStep_trans (v := { s with mode := .config }) (StartStep_of_eq rfl rfl) (StartStep_requestMode 2 _)
      split
      · exact StartStep_trans hr (StartStep_raiseAll_of_eq _)
      · exact StartStep_trans hr (StartStep_markIf true 5 r.1)

theorem startsIn_of_latch {s : State} (h : s.pwr.taperLatchBk = true) : s.startsIn.mode = .taper := by
  unfold State.startsIn
  dsimp only
  rw [if_pos (by simp [h])]

theorem startsIn_of_config {s : State} (hbk : s.pwr.taperLatchBk = false) (hmetro : s.pwr.taperLatchMetro = false)
    (hfailed : s.pwr.failedStarts < s.on_ 0x0201 3) (hstart : s.pwr.startMode = 0) : s.startsIn.mode = .config := by
  unfold State.startsIn
  dsimp only
  rw [if_neg (by simp [hbk, hmetro, hfailed]), if_pos hstart]

theorem restoreDisplay_keeps (s : State) : StartStep s s.restoreDisplay ∧ s.restoreDisplay.mode = s.mode := by
  unfold State.restoreDisplay
  split
  · dsimp only
    split
    · exact ⟨StartStep_of_eq rfl rfl, rfl⟩
    · exact ⟨StartStep_raise_of_eq _, rfl⟩
  · exact ⟨StartStep_refl s, rfl⟩

/-- The contexts, and the PLL on the reference of CLOCK_SELECT 2, as a start brings them up (R205, R637). -/
def blocksUp (s : State) : State :=
  let rc := s.on_ 0x0400 1 == 2 && !decide (s.mode = .taper)
  { s with
    ac := { s.ac with
      ctx := (List.range 64).map fun n => (s.ac.ctxAt n).started s.eff n
      pllLocked := rc, dllLocked := rc }
    clk := { s.clk with ref := if rc then 2 else 0 } }

theorem bringUp_keeps (s : State) : StartStep s s.bringUp ∧ s.bringUp.mode = s.mode := by
  have hblocks : StartStep s (blocksUp s) := StartStep_of_eq rfl rfl
  obtain ⟨hstep, hmode⟩ := restoreDisplay_keeps (blocksUp s)
  exact ⟨StartStep_trans hblocks hstep, hmode⟩

/-! ### START_SEQUENCE (R417) -/

section Sequence

variable {testm : Bool} {found : StartFound} {s : State}

/-- The sequence has begun: the entry is open, TESTM low. -/
def startBegun (s : State) : State := State.beginStart { s with pwr := { s.pwr with testm := false } }

/-- CE and TM are powered. -/
def startPowered (s : State) : State := { startBegun s with pwr := ((startBegun s).pwr.powered 3).powered 2 }

/-- The banks are restored, and a loss of BK state has been coped with. -/
def startRestored (damage : List (Nat × Nat × Nat)) (s : State) : State :=
  let r := (startPowered s).restoreStart damage
  if r.1.cal.lossDue then r.1.bkLoss (r.2.map Commit.seconds) else r.1

/-- Billing has caught up. -/
def startCaughtUp (damage : List (Nat × Nat × Nat)) (s : State) : State :=
  (startRestored damage s).completeGroups.catchUp (((startPowered s).restoreStart damage).2.map Commit.seconds)

theorem startSequence_of_not (h : s.mayStart = false) : startSequence testm found.otpFails found.damage s = s := if_pos (by simp [h])

theorem startSequence_of_testm (h : s.mayStart = true) (htestm : testm = true) :
    startSequence testm found.otpFails found.damage s = { s with pwr := { s.pwr with testm := true } } :=
  (if_neg (by simp [h])).trans (if_pos htestm)

theorem startSequence_of_bad_otp (h : s.mayStart = true) (htestm : testm = false) (hotp : found.otpFails = true) :
    startSequence testm found.otpFails found.damage s = (startBegun s).resetWith 7 0 :=
  (if_neg (by simp [h])).trans ((if_neg (by simp [htestm])).trans (if_pos hotp))

theorem startSequence_of_start (h : s.mayStart = true) (htestm : testm = false) (hotp : found.otpFails = false) :
    startSequence testm found.otpFails found.damage s = (startCaughtUp found.damage s).startsIn.bringUp :=
  (if_neg (by simp [h])).trans ((if_neg (by simp [htestm])).trans (if_neg (by simp [hotp])))

theorem startBegun_pwr (s : State) : ∃ e es, e.startReason = s.pwr.endReason ∧ e.outcome = 0 ∧
    (startBegun s).pwr = { s.pwr with
      testm := false, history := e :: es, open_ := true, succeeded := false, boundaries := 0
      startCount := satInc (2 ^ 32 - 1) s.pwr.startCount } := openEntry_only _ _ { s.pwr with testm := false }

theorem mayStart_state (h : s.mayStart = true) : s.pwr.state = .starting := by
  simp only [State.mayStart, Bool.and_eq_true, decide_eq_true_eq] at h
  exact h.1.1.1

theorem startPowered_ready (hlen : s.pwr.doms.length = 6) :
    ((startPowered s).pwr.dom 3).ready = true ∧ ((startPowered s).pwr.dom 2).ready = true := by
  obtain ⟨e, es, -, -, hpwr⟩ := startBegun_pwr s
  have h3 : 3 < s.pwr.doms.length := by omega
  have h2 : 2 < s.pwr.doms.length := by omega
  unfold startPowered
  rw [hpwr]
  simp [Power.powered, Power.setDoms, Power.dom, domRequires, modAt_eq_modify, List.getD_eq_getElem?_getD, h2, h3]

/-- From the power-up of CE on the power manager of the start stands, but for the marks of its entry. -/
theorem startRestored_marks (damage : List (Nat × Nat × Nat)) (h : s.pwr.state = .starting) :
    Marks (startPowered s).pwr (startRestored damage s).pwr := by
  obtain ⟨e, es, -, -, hpwr⟩ := startBegun_pwr s
  have hstate : (startPowered s).pwr.state = .starting := by
    unfold startPowered
    rw [hpwr]
    exact h
  have hmarks := (StartStep_restoreStart damage (startPowered s)).pwr hstate
  unfold startRestored
  dsimp only
  split
  · rw [bkLoss_pwr _ ((Marks_state hmarks).trans hstate)]
    exact hmarks
  · exact hmarks

/-- A start whose OTP is faulty ends at once, as a failed one (R417, R420, R422). -/
theorem startSequence_bad_otp_does (h : s.mayStart = true) (htestm : testm = false) (hotp : found.otpFails = true) :
    Does (.startSequence testm found) s fun t =>
      t.pwr.state = .starting ∧ t.pwr.endReason = 7 ∧ t.pwr.open_ = false ∧
      t.pwr.failedStarts = min 255 (s.pwr.failedStarts + 1) ∧
      t.qty.banks = s.qty.banks ∧
      ∃ e es, t.pwr.history = e :: es ∧ e.startReason = s.pwr.endReason ∧ e.outcome = 2 ∧ e.endReason = 7 := by
  obtain ⟨e, es, hreason, -, hpwr⟩ := startBegun_pwr s
  have hreset := WasReset_resetWith 7 0 (startBegun s)
  have hclose : (startBegun s).pwr.closeEntry 7 = _ := closeEntry_of_failed (by decide) (by rw [hpwr]) (by rw [hpwr]) (by rw [hpwr])
  refine ⟨_, congrArg Host.Outcome.next (startSequence_of_bad_otp h htestm hotp), hreset.starting, hreset.reason, hreset.closed, ?_,
    hreset.banks, { e with endReason := 7, outcome := 2 }, es, ?_, hreason, rfl, rfl⟩
  · show ((startBegun s).pwr.closeEntry 7).failedStarts = _
    rw [hclose, hpwr]
    rfl
  · show ((startBegun s).pwr.closeEntry 7).history = _
    rw [hclose]

theorem startCaughtUp_step (damage : List (Nat × Nat × Nat)) (s : State) : StartStep (startRestored damage s) (startCaughtUp damage s) :=
  StartStep_trans (StartStep_completeGroups _) (StartStep_catchUp _ _)

/-- Without a loss of BK state the start takes the settings as they stand. -/
theorem startCaughtUp_set (damage : List (Nat × Nat × Nat)) (hloss : s.cal.lossDue = false) : (startCaughtUp damage s).set = s.set := by
  have hkept : ((startPowered s).restoreStart damage).1.cal.lossDue = false := by
    rw [restoreStart_cal]
    exact hloss
  have hrestored : startRestored damage s = ((startPowered s).restoreStart damage).1 := if_neg (by simp [hkept])
  rw [(startCaughtUp_step damage s).set, hrestored]
  exact (StartStep_restoreStart damage (startPowered s)).set

/-- The power manager once CE and TM are powered, but for its domains. -/
theorem startPowered_pwr (s : State) : ∃ e es doms, e.startReason = s.pwr.endReason ∧ e.outcome = 0 ∧
    (startPowered s).pwr = { s.pwr with
      testm := false, history := e :: es, open_ := true, succeeded := false, boundaries := 0, doms := doms
      startCount := satInc (2 ^ 32 - 1) s.pwr.startCount } := by
  obtain ⟨e, es, hreason, houtcome, hpwr⟩ := startBegun_pwr s
  refine ⟨e, es, (startPowered s).pwr.doms, hreason, houtcome, ?_⟩
  unfold startPowered
  rw [hpwr]
  rfl

theorem startCaughtUp_marks (damage : List (Nat × Nat × Nat)) (h : s.pwr.state = .starting) :
    Marks (startPowered s).pwr (startCaughtUp damage s).pwr := by
  obtain ⟨_, _, _, -, -, hpwr⟩ := startPowered_pwr s
  have hrestored := startRestored_marks damage h
  refine Marks_trans hrestored ((startCaughtUp_step damage s).pwr ((Marks_state hrestored).trans ?_))
  rw [hpwr]
  exact h

/-- A start that goes on opens its entry, powers CE and TM, and chooses the mode by the latches of TAPER, the failed starts and
START_MODE. -/
theorem startSequence_starts_does (h : s.mayStart = true) (htestm : testm = false) (hotp : found.otpFails = false)
    (hlen : s.pwr.doms.length = 6) :
    Does (.startSequence testm found) s fun t =>
      t.pwr.state = .starting ∧ (t.pwr.dom 3).ready = true ∧ (t.pwr.dom 2).ready = true ∧ t.pwr.open_ = true ∧
      (∃ e es, t.pwr.history = e :: es ∧ e.startReason = s.pwr.endReason ∧ e.outcome = 0) ∧
      (s.pwr.taperLatchBk = true → t.mode = .taper) ∧
      (s.pwr.open_ = false → s.pwr.startMode = 0 → s.pwr.taperLatchBk = false → s.pwr.taperLatchMetro = false →
        s.pwr.failedStarts < s.on_ 0x0201 3 → s.cal.lossDue = false → t.mode = .config) := by
  have hstate := mayStart_state h
  obtain ⟨hce, htm⟩ := startPowered_ready hlen
  obtain ⟨e, es, _, hreason, houtcome, hpwr⟩ := startPowered_pwr s
  have hcaught := startCaughtUp_marks found.damage hstate
  have hset := startCaughtUp_set (s := s) found.damage
  refine ⟨_, congrArg Host.Outcome.next (startSequence_of_start h htestm hotp), ?_⟩
  generalize startCaughtUp found.damage s = v at *
  obtain ⟨hbrought, hmode⟩ := bringUp_keeps v.startsIn
  have hmarks : Marks (startPowered s).pwr v.startsIn.bringUp.pwr := by
    refine Marks_trans hcaught ((StartStep_trans (StartStep_startsIn v) hbrought).pwr ((Marks_state hcaught).trans ?_))
    rw [hpwr]
    exact hstate
  obtain ⟨hopen, hentry⟩ := hmarks.entry s.pwr.endReason (by rw [hpwr]; exact ⟨rfl, e, es, rfl, hreason, houtcome⟩)
  have hlatches : v.pwr.taperLatchBk = s.pwr.taperLatchBk ∧ v.pwr.taperLatchMetro = s.pwr.taperLatchMetro ∧
      v.pwr.failedStarts = s.pwr.failedStarts ∧ v.pwr.startMode = s.pwr.startMode := by
    rw [hcaught.outside, hpwr]
    exact ⟨rfl, rfl, rfl, rfl⟩
  obtain ⟨hbk, hmetro, hfailed, hstart⟩ := hlatches
  have hdom : ∀ d, v.startsIn.bringUp.pwr.dom d = (startPowered s).pwr.dom d := fun d => by
    rw [hmarks.outside]
    rfl
  refine ⟨(Marks_state hmarks).trans (by rw [hpwr]; exact hstate), by rwa [hdom], by rwa [hdom], hopen, hentry, fun hlatch => ?_,
    fun _ hzero hnobk hnometro hfew hloss => ?_⟩
  · rw [hmode]
    exact startsIn_of_latch (hbk.trans hlatch)
  · have hfew' : v.pwr.failedStarts < v.on_ 0x0201 3 := by
      rw [hfailed, State.on_, State.eff, hset hloss]
      exact hfew
    rw [hmode]
    exact startsIn_of_config (hbk.trans hnobk) (hmetro.trans hnometro) hfew' (hstart.trans hzero)

end Sequence

/-! ### START_REGULATOR_TIMEOUT (R417) -/

section Regulator

variable {s : State}

theorem startRegulatorTimeout_of_up (hstate : s.pwr.state = .starting) (hup : s.ceUp = true) :
    startRegulatorTimeout s = s.resetWith 6 0 := if_pos (by simp [hstate, hup])

theorem startRegulatorTimeout_of_first (hdown : s.ceUp = false) (h : s.mayStart = true) (htestm : s.pwr.testm = false) :
    startRegulatorTimeout s = s.beginStart.resetWith 6 0 :=
  (if_neg (by simp [hdown])).trans (if_pos (by simp [h, htestm]))

theorem startRegulatorTimeout_of_running (h : s.pwr.state ≠ .starting) : startRegulatorTimeout s = s :=
  (if_neg (by simp [h])).trans (if_neg (by simp [State.mayStart, h]))

theorem startRegulatorTimeout_of_not (hdown : s.ceUp = false) (h : s.mayStart = false ∨ s.pwr.testm = true) : startRegulatorTimeout s = s :=
  (if_neg (by simp [hdown])).trans (if_neg (by obtain h | h := h <;> simp [h]))

theorem startRegulatorTimeout_does (hstate : s.pwr.state = .starting) (h : s.ceUp = true ∨ (s.mayStart = true ∧ s.pwr.testm = false)) :
    Does .startRegulatorTimeout s fun t => t.pwr.state = .starting ∧ t.pwr.endReason = 6 ∧ t.ceUp = false ∧ t.qty.banks = s.qty.banks := by
  cases hup : s.ceUp with
  | true =>
    have hreset := WasReset_resetWith 6 0 s
    exact ⟨_, congrArg Host.Outcome.next (startRegulatorTimeout_of_up hstate hup), hreset.starting, hreset.reason, hreset.ceOff, hreset.banks⟩
  | false =>
    obtain ⟨hmay, htestm⟩ := h.resolve_left (by simp [hup])
    have hreset := WasReset_resetWith 6 0 s.beginStart
    exact ⟨_, congrArg Host.Outcome.next (startRegulatorTimeout_of_first hup hmay htestm), hreset.starting, hreset.reason, hreset.ceOff,
      hreset.banks⟩

end Regulator

end Sys2Proof.Proofs
end

section
/-! PROOF. The opening boundary: the first frame of a start opens in its commit slot (R21, R417, R418, R429, R431). -/

namespace Sys2Proof.Proofs

open Sys2Proof Sys2Proof.Machine Sys2Proof.Laws

/-! ### What the opening boundary settles of the first frame -/

/-- What a start settles of its first frame: the power state and NRST, the frame, the mode, the core, the latches of TAPER, the record under
way, the memory, and the access control but for the lockouts, which time runs down. -/
structure FirstFrame where
  power : PState
  nrst : Bool
  running : Bool
  committing : Bool
  length : Nat
  lantern : Bool
  syno : Bool
  number : Nat
  mode : Mode
  core : Nat
  latchBk : Bool
  latchMetro : Bool
  writing : Option Commit
  mem : Memory
  acc : Access

/-- What a state holds of it. -/
def firstFrame (s : State) : FirstFrame where
  power := s.pwr.state
  nrst := s.pwr.nrst
  running := s.frame.running
  committing := s.frame.committing
  length := s.frame.length
  lantern := s.frame.lantern
  syno := s.frame.synoActive
  number := s.frame.number
  mode := s.mode
  core := s.core.state
  latchBk := s.pwr.taperLatchBk
  latchMetro := s.pwr.taperLatchMetro
  writing := s.qty.writing
  mem := s.mem
  acc := { s.acc with lockout := [] }

/-- A device in RUN, its reset pin released: raising an event touches neither the power manager nor a latch of BK that is empty. -/
def Running (f : FirstFrame) : Prop := f.power = .run ∧ f.nrst = false

/-- A step of the opening boundary: in RUN the first frame stands, and no latch of BK is set anew. -/
def Opens (u t : State) : Prop := Running (firstFrame u) → firstFrame t = firstFrame u ∧ (u.bkLatches = [] → t.bkLatches = [])

theorem Opens_of_eq {u t : State} (hframe : firstFrame t = firstFrame u := by rfl) (hlatches : t.bkLatches = u.bkLatches := by rfl) :
    Opens u t := fun _ => ⟨hframe, fun h => hlatches.trans h⟩

theorem Opens_refl (s : State) : Opens s s := Opens_of_eq

theorem Opens_trans {u v t : State} (h1 : Opens u v) (h2 : Opens v t) : Opens u t := fun hrun => by
  obtain ⟨hframe1, hlatches1⟩ := h1 hrun
  obtain ⟨hframe2, hlatches2⟩ := h2 (hframe1 ▸ hrun)
  exact ⟨hframe2.trans hframe1, fun h => hlatches2 (hlatches1 h)⟩

theorem Opens_foldl {α : Type} {f : State → α → State} (hf : ∀ s x, Opens s (f s x)) (l : List α) (s : State) : Opens s (l.foldl f s) :=
  List.foldlRecOn (motive := Opens s) l f (Opens_refl s) fun _ h x _ => Opens_trans h (hf _ x)

/-! ### Events -/

theorem latches_of_running {s : State} (hrun : Running (firstFrame s)) (h : s.bkLatches = []) (e : Raised) : s.latches e = false := by
  obtain ⟨hstate, hnrst⟩ := hrun
  have hup : s.pwr.aoDown = false := by simp [Power.aoDown, show s.pwr.state = .run from hstate, show s.pwr.nrst = false from hnrst]
  simp [State.latches, State.latchHeld, hup, h]

theorem Opens_raise (e : Raised) (s : State) : Opens s (s.raise e) := fun hrun => by
  constructor
  · obtain ⟨_, _, h⟩ := raise_awake e s (wake_run s.pwr hrun.1)
    rw [h]
    rfl
  · intro h
    exact (if_neg (by simp [latches_of_running hrun h e])).trans h

theorem Opens_raiseAll (es : List Raised) (s : State) : Opens s (s.raiseAll es) := Opens_foldl (fun s e => Opens_raise e s) es s

theorem Opens_raiseIf (c : Bool) (e : Raised) (s : State) : Opens s (s.raiseIf c e) := by
  unfold State.raiseIf
  split
  · exact Opens_raise e s
  · exact Opens_refl s

theorem Opens_markIf (c : Bool) (n : Nat) (s : State) : Opens s (s.markIf c n) := by
  unfold State.markIf
  split
  · exact Opens_of_eq
  · exact Opens_refl s

/-! ### The dynamic jobs and the plan (R57, R63, R67 to R69) -/

theorem request_only (f : Frame) (j : DynJob) : ∃ dynamic, f.request j = { f with dynamic := dynamic } := by
  unfold Frame.request
  split
  · exact ⟨_, rfl⟩
  · exact ⟨_, rfl⟩

theorem admitChains_only {s : State} {sh : Shot} {kind : Nat} {moveFlow : Bool} {f : Frame}
    (h : s.admitChains sh kind moveFlow = some f) : ∃ acEnd corEnd chainDone planned,
      f = { s.frame with acEnd := acEnd, corEnd := corEnd, chainDone := chainDone, planned := planned } := by
  simp only [State.admitChains, Option.ite_none_right_eq_some, Option.some.injEq] at h
  obtain ⟨_, rfl⟩ := h
  exact ⟨_, _, _, _, rfl⟩

theorem Opens_considerSearch (s : State) (n : Nat) : Opens s (s.considerSearch n) := by
  obtain ⟨_, hrequest⟩ := request_only s.frame { kind := 1, job := n }
  unfold State.considerSearch
  dsimp only
  rw [hrequest]
  split
  next f hadmitted =>
    obtain ⟨_, _, _, _, rfl⟩ := admitChains_only hadmitted
    exact Opens_of_eq
  next => exact Opens_of_eq

theorem Opens_considerCustomer (s : State) (port : Nat) : Opens s (s.considerCustomer port) := by
  obtain ⟨_, hrequest⟩ := request_only s.frame (custJob port)
  unfold State.considerCustomer
  dsimp only
  rw [hrequest]
  split
  · exact Opens_of_eq
  · exact Opens_of_eq

theorem Opens_reconsider (s : State) : Opens s s.reconsider := by
  unfold State.reconsider
  refine Opens_trans (v := { s with frame := { s.frame with tried := s.frame.tried.filter fun j => j.kind == 1 } }) Opens_of_eq ?_
  exact Opens_foldl (fun s (j : DynJob) => Opens_considerCustomer s j.job) _ _

theorem Opens_admitSearches (s : State) : Opens s s.admitSearches := Opens_foldl Opens_considerSearch _ s

theorem Opens_planFrame (s : State) : Opens s s.planFrame := by
  unfold State.planFrame
  extract_lets f extra placed shots r p
  have hplaced : ∀ planned ac cor done, Opens s (placed planned ac cor done) := fun _ _ _ _ => Opens_of_eq
  split
  · exact hplaced _ _ _ _
  · split
    · exact Opens_trans (hplaced _ _ _ _) (Opens_admitSearches _)
    · exact Opens_trans (hplaced _ _ _ _) (Opens_admitSearches _)

/-! ### The blocks as the frame opens -/

theorem Opens_openSensors (s : State) : Opens s s.openSensors := by
  unfold State.openSensors
  extract_lets run r x y
  exact Opens_trans (v := { s with sen := y.publish (s.on_ 0x0B08 4) }) Opens_of_eq (Opens_raiseAll _ _)

theorem Opens_coreBoundary (s : State) : Opens s s.coreBoundary := by
  unfold State.coreBoundary
  obtain ⟨_, h⟩ := coreWake_only (s.modCore fun c => { c with
    wdtCount := if bitAt c.wdt 31 && !c.halted then c.wdtCount + 1 else c.wdtCount, withheld := false, hold := false })
  rw [h]
  exact Opens_of_eq

theorem Opens_plAdmit (s : State) : Opens s s.plAdmit := by
  unfold State.plAdmit
  split
  · exact Opens_refl s
  · split
    · exact Opens_refl s
    · exact Opens_of_eq

theorem Opens_openFrame (s : State) : Opens s s.openFrame := by
  unfold State.openFrame
  extract_lets _ s1 s2 _ s3
  have h1 : Opens s s1 := Opens_of_eq
  have h2 : Opens s1 s2 := Opens_trans (Opens_planFrame s1) (Opens_openSensors _)
  have h3 : Opens s2 s3 := Opens_of_eq
  have hslew : Opens s3 s3.pruneSync.tellSlew.fillPd :=
    Opens_trans (v := s3.pruneSync) Opens_of_eq (Opens_trans (Opens_raiseIf _ _ _) Opens_of_eq)
  exact Opens_trans h1 (Opens_trans h2 (Opens_trans h3 (Opens_trans hslew
    (Opens_trans (Opens_coreBoundary _) (Opens_trans (Opens_plAdmit _) (Opens_reconsider _))))))

/-! ### The clear of the registers, the supply actuator and the display (R317, R394, R426) -/

theorem Opens_takeClear (s : State) : Opens s s.takeClear := by
  unfold State.takeClear
  split
  · exact Opens_of_eq
  · exact Opens_refl s

theorem Opens_restartMove (s : State) : Opens s s.restartMove := by
  unfold State.restartMove
  split
  · exact Opens_refl s
  · split
    · exact Opens_of_eq
    · split
      · exact Opens_of_eq
      · exact Opens_refl s

theorem Opens_awaitUpdate (r : Nat) (target : List Nat) (s : State) : Opens s (s.awaitUpdate r target) := by
  obtain ⟨_, hrequest⟩ := request_only (s.frame.finish (dispJob r)) (dispJob r)
  unfold State.awaitUpdate
  rw [hrequest]
  exact Opens_of_eq

theorem Opens_modDisp (f : Display → Display) (s : State) : Opens s (s.modDisp f) := Opens_of_eq

theorem Opens_requestUpdate (target : List Nat) (s : State) (r : Nat) : Opens s (s.requestUpdate target r) := by
  unfold State.requestUpdate
  dsimp only
  split
  · exact Opens_awaitUpdate r target s
  · split
    · exact Opens_trans (Opens_awaitUpdate r target s) (Opens_trans (Opens_modDisp _ _) (Opens_raise _ _))
    · exact Opens_trans (Opens_modDisp _ s) (Opens_raise _ _)

theorem Opens_taperDisplay (s : State) : Opens s s.taperDisplay := by
  unfold State.taperDisplay
  split
  · exact Opens_foldl (Opens_requestUpdate _) _ s
  · exact Opens_refl s

/-! ### The stages of the opening boundary (R417, R429) -/

section Boundary

variable {s : State}

/-- The frame is laid, and the domains it needs are powered. -/
def frameLaid (s : State) : State :=
  let display := if s.dpNeeded then s.pwr.powered 5 else s.pwr
  { s with
    perf := Perf.reset
    frame := { s.frame with
      running := true, committing := true, length := s.period, lantern := !s.frame.lantern
      synoActive := field (s.on_ 0x0301 7) 4 0 != 0 }
    pwr := (display.powered 0).powered 4 }

/-- The frame has begun at the next RTC tick edge, and the device is in RUN. -/
def frameBegun (s : State) : State := (frameLaid s.toNextTick).toPower .run

/-- A WAKE_FAIL that a reset had cut short is raised. -/
def replayFail (s : State) : State :=
  match s.pwr.wakeFailReplay with
  | none => s
  | some w => State.raise (wakeFail w.1 w.2) { s with pwr := { s.pwr with wakeFailReplay := none } }

/-- The synchronisation source is in force. -/
def failReplayed (s : State) : State := replayFail ((frameBegun s).newSource 0)

/-- EV0 is raised after the latched events of BK, and TAPER is entered. -/
def taperEntered (s : State) : State := ((failReplayed s).deliverLatches.raise (frameEvent 0)).enterTaper

/-- The restored state is being written, under the frame number before. -/
def restoredWritten (s : State) : State :=
  let k := s.frame.number
  let rec_ := s.record ((k + (2 ^ 48 - 1)) % 2 ^ 48) false s.bill.group
  { s with
    qty := s.qty.write rec_
    bill := s.bill.noteRecord rec_
    cal := s.cal.copyTamper
    pwr := s.pwr.snapshot k
    core := { s.core with state := if s.mode = .taper then 0 else 1 }
    q := { s.q with gens := setAt s.q.gens 1 1 } }

theorem openingBoundary_of_not (h : s.pwr.state ≠ .starting ∨ s.ceUp = false) : openingBoundary s = s :=
  if_pos (by obtain h | h := h <;> simp [h])

theorem openingBoundary_of_start (hstate : s.pwr.state = .starting) (hup : s.ceUp = true) :
    openingBoundary s = (restoredWritten
      ((taperEntered s).markIf (failReplayed s).clk.hfxFailed 1).takeClear).restartMove.taperDisplay.openFrame := by
  unfold openingBoundary
  rw [if_neg (by simp [hstate, hup])]
  extract_lets s0 _ _ s1 s2 _ s3 s4 _ _ _ _ _ s6
  have h1 : s1 = frameLaid s0 := rfl
  have h2 : s2 = (frameBegun s).newSource 0 := congrArg (fun v => (State.toPower .run v).newSource 0) h1
  clear_value s2
  have h3 : s3 = failReplayed s := congrArg replayFail h2
  clear_value s3
  have h4 : s4 = (taperEntered s).markIf (failReplayed s).clk.hfxFailed 1 := by
    unfold taperEntered
    exact congrArg (fun v => ((v.deliverLatches.raise (frameEvent 0)).enterTaper).markIf v.clk.hfxFailed 1) h3
  clear_value s4
  have h6 : s6 = restoredWritten s4.takeClear := rfl
  rw [h6, h4]

theorem elapseBy_frame (n : Nat) (s : State) : (s.elapseBy n).frame = s.frame := by
  unfold State.elapseBy
  split
  · rfl
  · exact passTicks_frame _ _

/-- At the next tick edge the time of the frame begins anew, and of the rest only what ticks change has changed. -/
theorem toNextTick_ticked (s : State) : TicksPassed s s.toNextTick ∧
    ∃ base, s.toNextTick.frame = { s.elapse.frame with base := base, cyc := 0, done := 0 } :=
  ⟨TicksPassed_trans (TicksPassed_elapse s) (TicksPassed_trans (TicksPassed_frame _ _) (TicksPassed_elapseBy _ _)),
    _, elapseBy_frame _ _⟩

theorem frameLaid_only (s : State) : ∃ doms, frameLaid s = { s with
    perf := Perf.reset
    frame := { s.frame with
      running := true, committing := true, length := s.period, lantern := !s.frame.lantern
      synoActive := field (s.on_ 0x0301 7) 4 0 != 0 }
    pwr := { s.pwr with doms := doms } } := by
  unfold frameLaid
  dsimp only
  split
  · exact ⟨_, rfl⟩
  · exact ⟨_, rfl⟩

theorem firstFrame_frameBegun (s : State) : firstFrame (frameBegun s) = { firstFrame s with
    power := .run, running := true, committing := true, length := s.period, lantern := !s.frame.lantern
    syno := field (s.on_ 0x0301 7) 4 0 != 0 } := by
  obtain ⟨hticks, base, hframe⟩ := toNextTick_ticked s
  have helapse : s.elapse.frame = { s.frame with done := max s.frame.done s.frame.tick } := elapseBy_frame _ _
  rw [helapse] at hframe
  unfold frameBegun
  generalize s.toNextTick = v at *
  obtain ⟨doms, hlaid⟩ := frameLaid_only v
  have hcounted : (frameLaid v).frame.tick ≤ (frameLaid v).frame.done := by
    rw [hlaid]
    simp [Frame.tick, hframe]
  rw [toPower_of_counted .run hcounted, hlaid]
  unfold TicksPassed Ticked at hticks
  rw [hticks, hframe]
  rfl

theorem Opens_newSource (old : Nat) (s : State) : Opens s (s.newSource old) := by
  unfold State.newSource
  split
  · exact Opens_refl s
  · exact Opens_of_eq

theorem Opens_replayFail (s : State) : Opens s (replayFail s) := by
  unfold replayFail
  split
  · exact Opens_refl s
  · exact Opens_trans (v := { s with pwr := { s.pwr with wakeFailReplay := none } }) Opens_of_eq (Opens_raise _ _)

theorem Opens_failReplayed (s : State) : Opens (frameBegun s) (failReplayed s) :=
  Opens_trans (Opens_newSource 0 _) (Opens_replayFail _)

/-- TAPER sets both its latches; elsewhere its entry does nothing. -/
theorem enterTaper_sets {s : State} (hrun : Running (firstFrame s)) :
    (firstFrame s.enterTaper = { firstFrame s with
      latchBk := s.pwr.taperLatchBk || decide (s.mode = .taper), latchMetro := s.pwr.taperLatchMetro || decide (s.mode = .taper) }) ∧
    (s.bkLatches = [] → s.enterTaper.bkLatches = []) := by
  unfold State.enterTaper
  split
  · next htaper =>
    extract_lets failed code _ s1
    obtain ⟨hframe, hlatches⟩ := Opens_raise
      { ev := 63, code := flagAt s1.pwr.resumed 15 + s1.pwr.failedStarts, arg := code, src := 0x41, cls := 2 } s1 hrun
    refine ⟨hframe.trans ?_, hlatches⟩
    simp only [htaper, decide_true, Bool.or_true]
    rfl
  · next hother =>
    simp only [hother, decide_false, Bool.or_false]
    exact ⟨rfl, id⟩

theorem firstFrame_taperEntered (hnrst : s.pwr.nrst = false) :
    firstFrame (taperEntered s) = { firstFrame s with
      power := .run, running := true, committing := true, length := s.period, lantern := !s.frame.lantern
      syno := field (s.on_ 0x0301 7) 4 0 != 0
      latchBk := s.pwr.taperLatchBk || decide (s.mode = .taper), latchMetro := s.pwr.taperLatchMetro || decide (s.mode = .taper) } ∧
    (taperEntered s).bkLatches = [] := by
  have hbegun := firstFrame_frameBegun s
  have hrun : Running (firstFrame (frameBegun s)) := by
    rw [hbegun]
    exact ⟨rfl, hnrst⟩
  have hreplayed := (Opens_failReplayed s hrun).1.trans hbegun
  unfold taperEntered
  generalize failReplayed s = v at *
  have hdelivered : firstFrame v.deliverLatches = firstFrame v := rfl
  obtain ⟨hev0, hempty⟩ := Opens_raise (frameEvent 0) v.deliverLatches (by rw [hdelivered, hreplayed]; exact ⟨rfl, hnrst⟩)
  have hraised : firstFrame (v.deliverLatches.raise (frameEvent 0)) = _ := hev0.trans (hdelivered.trans hreplayed)
  generalize v.deliverLatches.raise (frameEvent 0) = w at *
  obtain ⟨hentered, hkept⟩ := enterTaper_sets (s := w) (by rw [hraised]; exact ⟨rfl, hnrst⟩)
  refine ⟨?_, hkept (hempty rfl)⟩
  have hbk : w.pwr.taperLatchBk = s.pwr.taperLatchBk := congrArg FirstFrame.latchBk hraised
  have hmetro : w.pwr.taperLatchMetro = s.pwr.taperLatchMetro := congrArg FirstFrame.latchMetro hraised
  have hmode : w.mode = s.mode := congrArg FirstFrame.mode hraised
  rw [hentered, hraised, hbk, hmetro, hmode]

theorem firstFrame_restoredWritten (v : State) : firstFrame (restoredWritten v) = { firstFrame v with
    core := if v.mode = .taper then 0 else 1
    writing := some (v.record ((v.frame.number + (2 ^ 48 - 1)) % 2 ^ 48) false v.bill.group) } := rfl

theorem Opens_after_written (s : State) : Opens s s.restartMove.taperDisplay.openFrame :=
  Opens_trans (Opens_restartMove s) (Opens_trans (Opens_taperDisplay _) (Opens_openFrame _))

theorem openingBoundary_does (hstate : s.pwr.state = .starting) (hup : s.ceUp = true) (hnrst : s.pwr.nrst = false) :
    Does .openingBoundary s fun t =>
      t.pwr.state = .run ∧ t.frame.running = true ∧ t.frame.committing = true ∧ t.frame.length = s.period ∧
      t.frame.lantern = (!s.frame.lantern) ∧ t.frame.synoActive = (field (s.on_ 0x0301 7) 4 0 != 0) ∧
      t.frame.number = s.frame.number ∧ t.mode = s.mode ∧ t.core.state = (if s.mode = .taper then 0 else 1) ∧
      (s.mode = .taper → t.pwr.taperLatchBk = true ∧ t.pwr.taperLatchMetro = true) ∧
      (∃ c, t.qty.writing = some c ∧ c.frame = (s.frame.number + (2 ^ 48 - 1)) % 2 ^ 48 ∧ c.partial_ = false) ∧
      t.bkLatches = [] ∧ t.mem = s.mem ∧ t.acc = { s.acc with lockout := t.acc.lockout } := by
  refine ⟨_, congrArg Host.Outcome.next (openingBoundary_of_start hstate hup), ?_⟩
  obtain ⟨hentered, hempty⟩ := firstFrame_taperEntered hnrst
  generalize hfailed : (failReplayed s).clk.hfxFailed = failed
  obtain ⟨hcleared, hkept⟩ := Opens_trans (Opens_markIf failed 1 (taperEntered s)) (Opens_takeClear _)
    (by rw [hentered]; exact ⟨rfl, hnrst⟩)
  have hempty' := hkept hempty
  rw [hentered] at hcleared
  generalize ((taperEntered s).markIf failed 1).takeClear = v at *
  have hmode : v.mode = s.mode := congrArg FirstFrame.mode hcleared
  have hnumber : v.frame.number = s.frame.number := congrArg FirstFrame.number hcleared
  have hwritten := firstFrame_restoredWritten v
  rw [hcleared, hmode, hnumber] at hwritten
  obtain ⟨hopened, hlast⟩ := Opens_after_written (restoredWritten v) (by rw [hwritten]; exact ⟨rfl, hnrst⟩)
  have hlatches := hlast hempty'
  rw [hwritten] at hopened
  generalize (restoredWritten v).restartMove.taperDisplay.openFrame = t at *
  refine ⟨congrArg FirstFrame.power hopened, congrArg FirstFrame.running hopened, congrArg FirstFrame.committing hopened,
    congrArg FirstFrame.length hopened, congrArg FirstFrame.lantern hopened, congrArg FirstFrame.syno hopened,
    congrArg FirstFrame.number hopened, congrArg FirstFrame.mode hopened, congrArg FirstFrame.core hopened, fun htaper => ?_,
    ⟨_, congrArg FirstFrame.writing hopened, rfl, rfl⟩, hlatches, congrArg FirstFrame.mem hopened, ?_⟩
  · have hbk : t.pwr.taperLatchBk = _ := congrArg FirstFrame.latchBk hopened
    have hmetro : t.pwr.taperLatchMetro = _ := congrArg FirstFrame.latchMetro hopened
    simp [hbk, hmetro, htaper]
  · have hacc : { t.acc with lockout := [] } = { s.acc with lockout := [] } := congrArg FirstFrame.acc hopened
    exact congrArg (fun a : Access => { a with lockout := t.acc.lockout }) hacc

end Boundary

/-- Settles O26: the start sequence by TESTM and the second check of OTP, its regulator time-out, and the opening boundary. -/
theorem aStartOpensAnEntryAndAFrame : Obligations.AStartOpensAnEntryAndAFrame := by
  unfold Obligations.AStartOpensAnEntryAndAFrame
  refine ⟨fun testm found s => ⟨fun h => congrArg Host.Outcome.next (startSequence_of_not h), fun h =>
      ⟨fun htestm => congrArg Host.Outcome.next (startSequence_of_testm h htestm), startSequence_bad_otp_does h,
        startSequence_starts_does h⟩⟩,
    fun s => ⟨startRegulatorTimeout_does, fun h => congrArg Host.Outcome.next (startRegulatorTimeout_of_running h),
      fun hdown h => congrArg Host.Outcome.next (startRegulatorTimeout_of_not hdown h)⟩,
    fun s => ⟨fun h => congrArg Host.Outcome.next (openingBoundary_of_not h), openingBoundary_does⟩⟩

end Sys2Proof.Proofs
end

section
/-! PROOF. The part of the state that the invariant of every step speaks of (R441, R443, R577), and the operations that leave it
alone: one lemma for each, in the order of the model. -/

namespace Sys2Proof.Proofs

open Sys2Proof Sys2Proof.Machine Sys2Proof.Laws

/-- What the invariant of every step, and the facts that no step undoes, speak of: memory, the queue, the seal, the end of the FACTORY
role and BOOT_KEY_HASH. -/
structure Guarded where
  mem : Memory
  pending : List Instr
  sealed : Bool
  sealedOnce : Bool
  factoryEnded : Bool
  factoryLock : Bool
  bootHash : Option (List Nat)

def guarded (s : State) : Guarded :=
  { mem := s.mem, pending := s.pending, sealed := s.acc.sealed, sealedOnce := s.acc.sealedOnce, factoryEnded := s.acc.factoryEnded
    factoryLock := s.acc.factoryLock, bootHash := s.acc.bootHash }

/-- The guarded part of a state that a record update has written out. -/
theorem guarded_mk (mode modePending events bkLatches set q frame sync ledger ac sen flow qty bill clk pwr perf cal acc log core iol
    mbus pl disp mem pending) :
    guarded (State.mk mode modePending events bkLatches set q frame sync ledger ac sen flow qty bill clk pwr perf cal acc log core iol
      mbus pl disp mem pending) =
    Guarded.mk mem pending acc.sealed acc.sealedOnce acc.factoryEnded acc.factoryLock acc.bootHash := rfl

/-- The parts of one state make up its guarded part again. -/
theorem guarded_parts (s : State) : Guarded.mk s.mem s.pending s.acc.sealed s.acc.sealedOnce s.acc.factoryEnded s.acc.factoryLock
    s.acc.bootHash = guarded s := rfl

theorem guarded_foldl {α : Type} {f : State → α → State} (hf : ∀ s x, guarded (f s x) = guarded s) (l : List α) (s : State) :
    guarded (l.foldl f s) = guarded s := by
  induction l generalizing s with
  | nil => rfl
  | cons x xs ih => exact (ih _).trans (hf s x)

theorem guarded_foldl_fst {α β : Type} {f : State × β → α → State × β} (hf : ∀ p x, guarded (f p x).1 = guarded p.1) (l : List α)
    (p : State × β) : guarded (l.foldl f p).1 = guarded p.1 := by
  induction l generalizing p with
  | nil => rfl
  | cons x xs ih => exact (ih _).trans (hf p x)

/-! ### Events, counters, time -/

theorem guarded_raise (e : Raised) (s : State) : guarded (s.raise e) = guarded s := rfl

theorem guarded_raiseAll (es : List Raised) (s : State) : guarded (s.raiseAll es) = guarded s :=
  guarded_foldl (fun t x => guarded_raise x t) _ s

theorem guarded_raiseIf (c : Bool) (e : Raised) (s : State) : guarded (s.raiseIf c e) = guarded s := by
  simp only [State.raiseIf, apply_ite guarded, ↓guarded_raise, ite_self]

theorem guarded_count1 (a : Act) (s : State) : guarded (s.count1 a) = guarded s := by
  simp only [State.count1, apply_ite guarded, ↓guarded_raiseAll, ↓guarded_mk, guarded_parts, ite_self]

theorem guarded_count (acts : List Act) (s : State) : guarded (s.count acts) = guarded s :=
  guarded_foldl (fun t x => guarded_count1 x t) _ s

theorem guarded_passTicks (n : Nat) (s : State) : guarded (s.passTicks n) = guarded s := by
  simp only [State.passTicks, ↓guarded_count, ↓guarded_mk, guarded_parts]

theorem guarded_elapseBy (n : Nat) (s : State) : guarded (s.elapseBy n) = guarded s := by
  simp only [State.elapseBy, apply_ite guarded, ↓guarded_passTicks, ↓guarded_mk, guarded_parts, ite_self]

theorem guarded_elapse (s : State) : guarded s.elapse = guarded s := by
  simp only [State.elapse, ↓guarded_elapseBy, ↓guarded_mk, guarded_parts]

theorem guarded_toPower (p : PState) (s : State) : guarded (s.toPower p) = guarded s := by
  simp only [State.toPower, apply_ite guarded, ↓guarded_elapse, ↓guarded_mk, guarded_parts, ite_self]

theorem guarded_leaveWick (source : Nat) (s : State) : guarded (s.leaveWick source) = guarded s := by
  simp only [State.leaveWick, apply_ite guarded, ↓guarded_toPower, ↓guarded_mk, guarded_parts, ite_self]

theorem guarded_settlePins (s : State) : guarded s.settlePins = guarded s := rfl

theorem guarded_atCyc (s : State) (cyc : Nat) : guarded (s.atCyc cyc) = guarded s := by
  simp only [State.atCyc, apply_ite guarded, ↓guarded_settlePins, ↓guarded_toPower, ↓guarded_leaveWick, ↓guarded_mk,
    guarded_parts, ite_self]

/-! ### Path contexts -/

theorem guarded_forceCtx (k : Key) (value : Nat) (s : State) : guarded (s.forceCtx k value) = guarded s := rfl

theorem guarded_force (k : Key) (value : Nat) (s : State) : guarded (s.force k value) = guarded s := by
  simp only [State.force, apply_ite guarded, ↓guarded_forceCtx, ↓guarded_mk, guarded_parts, ite_self]

theorem guarded_applyEdits (even : Bool) (s : State) : guarded (s.applyEdits even) = guarded s := by
  simp only [State.applyEdits]
  refine guarded_foldl (fun t x => ?_) _ _
  simp only [↓guarded_force]

/-! ### The powerline link at rest -/

theorem guarded_modPl (f : Powerline → Powerline) (s : State) : guarded (s.modPl f) = guarded s := rfl

theorem guarded_plRest (s : State) : guarded s.plRest = guarded s := by
  simp only [State.plRest, apply_ite guarded, ↓guarded_modPl, ite_self]

/-! ### The jobs of a frame -/

theorem guarded_considerRetry (s : State) (g : Nat) : guarded (s.considerRetry g) = guarded s := by
  unfold State.considerRetry
  dsimp only
  repeat' split
  all_goals simp only [↓guarded_mk, guarded_parts]

theorem guarded_requestRetry (s : State) (n : Nat) : guarded (s.requestRetry n) = guarded s := by
  simp only [State.requestRetry, ↓guarded_considerRetry, ↓guarded_mk, guarded_parts]

theorem guarded_considerSearch (s : State) (n : Nat) : guarded (s.considerSearch n) = guarded s := by
  unfold State.considerSearch
  dsimp only
  repeat' split
  all_goals simp only [↓guarded_mk, guarded_parts]

theorem guarded_considerCustomer (s : State) (port : Nat) : guarded (s.considerCustomer port) = guarded s := by
  simp only [State.considerCustomer, apply_ite guarded, ↓guarded_mk, guarded_parts, ite_self]

theorem guarded_reconsider (s : State) : guarded s.reconsider = guarded s := by
  simp only [State.reconsider]
  refine guarded_foldl (fun t x => ?_) _ _
  simp only [↓guarded_considerCustomer]

theorem guarded_failed (s : State) (n : Nat) : guarded (s.failed n) = guarded s := by
  simp only [State.failed, apply_ite guarded, ↓guarded_requestRetry, ite_self]

theorem guarded_startFlow (s : State) : guarded s.startFlow = guarded s := by
  simp only [State.startFlow, apply_ite guarded, ↓guarded_mk, guarded_parts, ite_self]

theorem guarded_breakPromises (s : State) (stepNo cause arg : Nat) (ms : List Nat) :
    guarded (s.breakPromises stepNo cause arg ms) = guarded s := by
  simp only [State.breakPromises, ↓guarded_count, ↓guarded_raiseAll, ↓guarded_mk, guarded_parts]

theorem guarded_giveUpShot (s : State) (cause : Nat) (acquisition : Bool) (ms : List Nat) :
    guarded (s.giveUpShot cause acquisition ms) = guarded s := by
  simp only [State.giveUpShot, apply_ite guarded, ↓guarded_breakPromises, ↓guarded_mk, guarded_parts, ite_self]

theorem guarded_giveUpPlanned (cause : Nat) (s : State) (p : Planned) : guarded (s.giveUpPlanned cause p) = guarded s := by
  simp only [State.giveUpPlanned, ↓guarded_giveUpShot]

theorem guarded_displaceShot (s : State) (cause late : Nat) (ms : List Nat) :
    guarded (s.displaceShot cause late ms) = guarded s := by
  simp only [State.displaceShot, ↓guarded_breakPromises]

theorem guarded_deferJob (cause : Nat) (s : State) (j : DynJob) : guarded (s.deferJob cause j) = guarded s := by
  simp only [State.deferJob, apply_ite guarded, ↓guarded_raise, ↓guarded_mk, guarded_parts, ite_self]

theorem guarded_restore (s : State) (cause t0 : Nat) : guarded (s.restore cause t0) = guarded s := by
  simp only [State.restore, guarded_startFlow, guarded_mk, guarded_parts]
  rw [guarded_foldl fun t p => ?_, guarded_foldl (guarded_giveUpPlanned cause), guarded_foldl (guarded_deferJob cause)]
  · rfl
  · split
    · exact guarded_displaceShot t _ _ _
    · rfl

theorem guarded_giveUpUnfired (s : State) : guarded s.giveUpUnfired = guarded s := by
  simp only [State.giveUpUnfired, guarded_mk, guarded_parts]
  rw [guarded_foldl fun t p => guarded_giveUpPlanned _ t p]
  exact guarded_foldl (fun t f => guarded_giveUpShot t _ _ _) _ s

/-! ### Shots and measurements -/

theorem guarded_fireMember (f : Nat) (dynamic acq : Bool) (s : State) (n : Nat) :
    guarded (s.fireMember f dynamic acq n) = guarded s := by
  unfold State.fireMember
  dsimp only
  repeat' split
  all_goals simp only [↓guarded_raise, ↓guarded_mk, guarded_parts]

theorem guarded_calibrated (s : State) (ms : List Nat) (cals : List CalReading) : guarded
    (s.calibrated ms cals) = guarded s := by
  simp only [State.calibrated, ↓guarded_count, ↓guarded_mk, guarded_parts]

theorem guarded_route (s : State) (fl : Flight) : guarded (s.route fl) = guarded s := rfl

theorem guarded_hdSetUp (s : State) (fl : Flight) : guarded (s.hdSetUp fl) = guarded s := by
  simp only [State.hdSetUp, apply_ite guarded, ↓guarded_mk, guarded_parts, ite_self]

theorem guarded_setUp (s : State) (fl : Flight) (cals : List CalReading) : guarded (s.setUp fl cals) = guarded s := by
  simp only [State.setUp, ↓guarded_hdSetUp, ↓guarded_route, ↓guarded_calibrated]

theorem guarded_firePins (s : State) (fl : Flight) (f : Nat) : guarded (s.firePins fl f) = guarded s := rfl

theorem guarded_fireAt (s0 : State) (fl : Flight) (f : Nat) : guarded (s0.fireAt fl f) = guarded s0 := by
  have hfire : ∀ (t : State) n, guarded (t.fireMember f (fl.kind == 5) (fl.kind == 4) n) = guarded t :=
    fun t n => guarded_fireMember _ _ _ t n
  simp only [State.fireAt, guarded_count, guarded_foldl hfire, guarded_mk, guarded_parts, guarded_firePins]

theorem guarded_fire (s : State) (fl : Flight) (cals : List CalReading) : guarded (s.fire fl cals) = guarded s := by
  simp only [State.fire, ↓guarded_fireAt, ↓guarded_setUp]

theorem guarded_startShot (s : State) (fl : Flight) (vhd : Nat) (cals : List CalReading) :
    guarded (s.startShot fl vhd cals) = guarded s := by
  simp only [State.startShot, apply_ite guarded, ↓guarded_fire, ↓guarded_setUp, ↓guarded_mk, guarded_parts, ite_self]

theorem guarded_startPlanned (s : State) (p : Planned) (vhd : Nat) (cals : List CalReading) :
    guarded (s.startPlanned p vhd cals) = guarded s := by
  simp only [State.startPlanned, apply_ite guarded, ↓guarded_startFlow, ↓guarded_displaceShot, ↓guarded_startShot,
    ↓guarded_mk, guarded_parts, ite_self]

theorem guarded_startDue (s : State) (p : Planned) (due vhd : Nat) (cals : List CalReading) :
    guarded (s.startDue p due vhd cals) = guarded s := by
  simp only [State.startDue, ↓guarded_startPlanned, ↓guarded_atCyc]

theorem guarded_shotGroupStart (g : Nat) (kind : ShotKind) (due vhd : Nat) (cals : List CalReading) (s : State) :
    guarded (shotGroupStart g kind due vhd cals s) = guarded s := by
  unfold shotGroupStart
  split
  · exact guarded_atCyc s due
  · split
    · exact guarded_atCyc s due
    · exact guarded_startDue s _ due vhd cals

theorem guarded_retrySlotStart (g due vhd : Nat) (cals : List CalReading) (s : State) :
    guarded (retrySlotStart g due vhd cals s) = guarded s := by
  unfold retrySlotStart
  split
  · exact guarded_atCyc s due
  · exact guarded_startDue s _ due vhd cals

theorem guarded_reverseTransmission (n : Nat) (acq : Bool) (cyc : Nat) (s0 : State) :
    guarded (reverseTransmission n acq cyc s0) = guarded s0 := by
  unfold reverseTransmission
  dsimp only
  repeat' split
  all_goals simp only [↓guarded_atCyc, ↓guarded_mk, guarded_parts]

theorem guarded_vhdRecovered (g cyc : Nat) (s0 : State) : guarded (vhdRecovered g cyc s0) = guarded s0 := by
  unfold vhdRecovered
  dsimp only
  repeat' split
  all_goals simp only [↓guarded_atCyc, ↓guarded_fireAt, ↓guarded_displaceShot, ↓guarded_restore, ↓guarded_mk, guarded_parts]

theorem guarded_heldShotGivenUp (g cyc : Nat) (s0 : State) : guarded (heldShotGivenUp g cyc s0) = guarded s0 := by
  unfold heldShotGivenUp
  dsimp only
  repeat' split
  all_goals simp only [↓guarded_atCyc, ↓guarded_startFlow, ↓guarded_giveUpShot, ↓guarded_mk, guarded_parts]

theorem guarded_settle (s : State) (n : Nat) : guarded (s.settle n) = guarded s := by
  unfold State.settle
  dsimp only
  repeat' split
  all_goals simp only [↓guarded_count, ↓guarded_raiseAll, ↓guarded_failed, ↓guarded_mk, guarded_parts]

theorem guarded_endShots (s : State) : guarded s.endShots = guarded s := rfl

theorem guarded_windowClose (n : Nat) (up acq : Bool) (m : WindowMeas) (s0 : State) :
    guarded (windowClose n up acq m s0) = guarded s0 := by
  unfold windowClose
  dsimp only
  repeat' split
  all_goals simp only [↓guarded_atCyc, ↓guarded_count, ↓guarded_raiseAll, ↓guarded_endShots, ↓guarded_startFlow,
    ↓guarded_settle, ↓guarded_mk, guarded_parts]

theorem guarded_acousticMissing (ev n : Nat) (up acq : Bool) (arg cyc : Nat) (s0 : State) :
    guarded (acousticMissing ev n up acq arg cyc s0) = guarded s0 := by
  unfold acousticMissing
  dsimp only
  repeat' split
  all_goals simp only [↓guarded_atCyc, ↓guarded_count, ↓guarded_raise, ↓guarded_mk, guarded_parts]

theorem guarded_correlationComplete (n : Nat) (up : Bool) (cyc : Nat) (s0 : State) :
    guarded (correlationComplete n up cyc s0) = guarded s0 := by
  unfold correlationComplete
  dsimp only
  repeat' split
  all_goals simp only [↓guarded_atCyc, ↓guarded_startFlow, ↓guarded_settle, ↓guarded_count, ↓guarded_mk, guarded_parts]

theorem guarded_acquisitionSearchComplete (n cyc : Nat) (s0 : State) :
    guarded (acquisitionSearchComplete n cyc s0) = guarded s0 := by
  unfold acquisitionSearchComplete
  dsimp only
  repeat' split
  all_goals simp only [↓guarded_atCyc, ↓guarded_count, ↓guarded_mk, guarded_parts]

theorem guarded_settleAll (s : State) : guarded s.settleAll = guarded s :=
  guarded_foldl (fun t x => guarded_settle t x) _ s

theorem guarded_tmInputCalibration (c : CalReading) (stops : List (Nat × Nat)) (s : State) :
    guarded (tmInputCalibration c stops s) = guarded s := by
  simp only [tmInputCalibration, apply_ite guarded, ↓guarded_count, ↓guarded_mk, guarded_parts, ite_self]

/-! ### Records -/

theorem guarded_emit (r : Record) (s : State) : guarded (s.emit r) = guarded s := rfl

theorem guarded_emitAll (rs : List Record) (s : State) : guarded (s.emitAll rs) = guarded s :=
  guarded_foldl (fun t x => guarded_emit x t) _ s

theorem guarded_linkError (port : Nat) (s : State) : guarded (s.linkError port) = guarded s := by
  simp only [State.linkError, ↓guarded_count, ↓guarded_mk, guarded_parts]

/-! ### The close of the contexts and waveforms -/

theorem guarded_closeContexts (old s : State) : guarded (State.closeContexts old s).1 = guarded s := by
  refine guarded_foldl_fst (fun p n => ?_) _ _
  split <;> exact guarded_raiseAll _ _

theorem guarded_skipWave (s : State) : guarded s.skipWave = guarded s := rfl

theorem guarded_requestWave (s : State) (n : Nat) (up : Bool) (d : DirRun) : guarded (s.requestWave n up d) = guarded s := by
  simp only [State.requestWave, apply_ite guarded, ↓guarded_skipWave, ↓guarded_mk, guarded_parts, ite_self]

theorem guarded_dropWaves (s : State) (chain : Nat) : guarded (s.dropWaves chain) = guarded s := by
  simp only [State.dropWaves]
  refine guarded_foldl (fun t x => ?_) _ _
  simp only [↓guarded_skipWave]

theorem guarded_waveformCopyComplete (n : Nat) (up : Bool) (cyc : Nat) (s0 : State) :
    guarded (waveformCopyComplete n up cyc s0) = guarded s0 := by
  unfold waveformCopyComplete
  dsimp only
  repeat' split
  all_goals simp only [↓guarded_atCyc, ↓guarded_emit, ↓guarded_mk, guarded_parts]

theorem guarded_windowCloseAll (n : Nat) (up acq : Bool) (m : WindowMeas) (s0 : State) :
    guarded (windowCloseAll n up acq m s0) = guarded s0 := by
  unfold windowCloseAll
  dsimp only
  repeat' split
  all_goals simp only [↓guarded_windowClose, ↓guarded_dropWaves, ↓guarded_requestWave, ↓guarded_mk, guarded_parts]

/-! ### Temperature and pressure -/

theorem guarded_sensorFails (i code : Nat) (quiet : Bool) (e : Raised) (s : State) :
    guarded (s.sensorFails i code quiet e) = guarded s := by
  simp only [State.sensorFails, ↓guarded_raiseIf, ↓guarded_mk, guarded_parts]

theorem guarded_referenceFails (code : Nat) (s : State) : guarded (s.referenceFails code) = guarded s := by
  simp only [State.referenceFails, ↓guarded_raiseIf, ↓guarded_mk, guarded_parts]

theorem guarded_portMeasured (i tref tx : Nat) (s : State) : guarded (s.portMeasured i tref tx) = guarded s := by
  unfold State.portMeasured
  dsimp only
  repeat' split
  all_goals simp only [↓guarded_sensorFails, ↓guarded_mk, guarded_parts]

theorem guarded_calibrate16 (cal : CalReading) (s : State) : guarded (s.calibrate16 cal) = guarded s := by
  simp only [State.calibrate16, ↓guarded_count, ↓guarded_mk, guarded_parts]

theorem guarded_discharged (code t : Nat) (j : SensorJob) (s : State) : guarded (s.discharged code t j).1 = guarded s := by
  unfold State.discharged
  dsimp only
  repeat' split
  all_goals simp only [↓guarded_referenceFails, ↓guarded_sensorFails, ↓guarded_portMeasured, ↓guarded_mk, guarded_parts]

theorem guarded_nextDischarge (code t : Nat) (cal : CalReading) (j : SensorJob) (s : State) :
    guarded (s.nextDischarge code t cal j) = guarded s := by
  simp only [State.nextDischarge, apply_ite guarded, ↓guarded_discharged, ↓guarded_calibrate16, ↓guarded_mk, guarded_parts,
    ite_self]

theorem guarded_sensorJobStart (due : Nat) (cal : CalReading) (s0 : State) :
    guarded (sensorJobStart due cal s0) = guarded s0 := by
  unfold sensorJobStart
  dsimp only
  repeat' split
  all_goals simp only [↓guarded_atCyc, ↓guarded_calibrate16, ↓guarded_mk, guarded_parts]

theorem guarded_dischargeStop (stop : Nat × Nat) (cal : CalReading) (s0 : State) :
    guarded (dischargeStop stop cal s0) = guarded s0 := by
  unfold dischargeStop
  dsimp only
  repeat' split
  all_goals simp only [↓guarded_atCyc, ↓guarded_count, ↓guarded_raise, ↓guarded_nextDischarge, ↓guarded_mk, guarded_parts]

theorem guarded_dischargeMissing (late : Nat) (cal : CalReading) (s0 : State) :
    guarded (dischargeMissing late cal s0) = guarded s0 := by
  unfold dischargeMissing
  split <;> simp only [↓guarded_atCyc, ↓guarded_count, ↓guarded_raise, ↓guarded_nextDischarge, ↓guarded_mk, guarded_parts]

theorem guarded_pllLockLost (cyc : Nat) (pll : Bool) (cal : CalReading) (s0 : State) :
    guarded (pllLockLost cyc pll cal s0) = guarded s0 := by
  unfold pllLockLost
  dsimp only
  repeat' split
  all_goals simp only [↓guarded_atCyc, ↓guarded_settleAll, ↓guarded_nextDischarge, ↓guarded_mk, guarded_parts]

theorem guarded_pressureConversionStart (cyc : Nat) (s0 : State) : guarded (pressureConversionStart cyc s0) = guarded s0 := by
  simp only [pressureConversionStart, apply_ite guarded, ↓guarded_atCyc, ↓guarded_mk, guarded_parts, ite_self]

theorem guarded_pressureConversionComplete (cyc : Nat) (k : Int) (cond : Nat) (s0 : State) :
    guarded (pressureConversionComplete cyc k cond s0) = guarded s0 := by
  simp only [pressureConversionComplete, apply_ite guarded, ↓guarded_atCyc, ↓guarded_sensorFails, ↓guarded_mk, guarded_parts,
    ite_self]

theorem guarded_internalTempConversion (mk : Int) (selfTest : Bool) (s : State) :
    guarded (internalTempConversion mk selfTest s) = guarded s := by
  simp only [internalTempConversion, apply_ite guarded, ↓guarded_sensorFails, ↓guarded_mk, guarded_parts, ite_self]

theorem guarded_abandonSensors (now : Nat) (s : State) : guarded (s.abandonSensors now).1 = guarded s := by
  unfold State.abandonSensors
  split
  · rfl
  · exact guarded_foldl (fun t i => guarded_sensorFails i 7 false _ t) _ s

theorem guarded_openSensors (s : State) : guarded s.openSensors = guarded s := by
  simp only [State.openSensors, ↓guarded_raiseAll, ↓guarded_mk, guarded_parts]

/-! ### The calendar and the backup domain -/

theorem guarded_applyRule (s : State) : guarded s.applyRule = guarded s := by
  simp only [State.applyRule, apply_ite guarded, ↓guarded_raise, ↓guarded_mk, guarded_parts, ite_self]

theorem guarded_fireAlarm (s : State) : guarded s.fireAlarm = guarded s := by
  simp only [State.fireAlarm, apply_ite guarded, ↓guarded_raise, ↓guarded_mk, guarded_parts, ite_self]

theorem guarded_secondEdge (s : State) : guarded s.secondEdge = guarded s := by
  simp only [State.secondEdge, ↓guarded_fireAlarm, ↓guarded_applyRule, ↓guarded_mk, guarded_parts]

theorem guarded_runTicks (n : Nat) (s : State) : guarded (s.runTicks n) = guarded s := by
  simp only [State.runTicks, ↓guarded_elapse, ↓guarded_elapseBy, ↓guarded_mk, guarded_parts]

theorem guarded_calendarSecond (s : State) : guarded (calendarSecond s) = guarded s := by
  simp only [calendarSecond, ↓guarded_secondEdge, ↓guarded_runTicks, ↓guarded_elapse]

theorem guarded_formRate (s : State) : guarded s.formRate = guarded s := by
  simp only [State.formRate, apply_ite guarded, ↓guarded_mk, guarded_parts, ite_self]

theorem guarded_internalTempAll (mk : Int) (selfTest : Bool) (s : State) :
    guarded (internalTempAll mk selfTest s) = guarded s := by
  simp only [internalTempAll, apply_ite guarded, ↓guarded_formRate, ↓guarded_internalTempConversion, ite_self]

theorem guarded_trimWindowStart (s : State) : guarded (trimWindowStart s) = guarded s := by
  obtain ⟨total, hstart, -⟩ := trimWindowStart_eq s
  rw [hstart]
  rfl

theorem guarded_calendarDue (s : State) : guarded s.calendarDue = guarded s := by
  simp only [State.calendarDue, apply_ite guarded, ↓guarded_trimWindowStart, ↓guarded_secondEdge, ite_self]

theorem guarded_calendarTick (s : State) : guarded s.calendarTick = guarded s := by
  simp only [State.calendarTick, ↓guarded_calendarDue, ↓guarded_mk, guarded_parts]

theorem guarded_alarmPassed (old : Nat) (s : State) : guarded (s.alarmPassed old) = guarded s := by
  simp only [State.alarmPassed, apply_ite guarded, ↓guarded_raise, ↓guarded_mk, guarded_parts, ite_self]

theorem guarded_setTime (w : Nat) (s : State) : guarded (s.setTime w) = guarded s := by
  simp only [State.setTime, ↓guarded_alarmPassed, ↓guarded_raise, ↓guarded_mk, guarded_parts]

theorem guarded_dstCommand (v : Nat) (s : State) : guarded (s.dstCommand v) = guarded s := rfl

theorem guarded_sampleTamper (levels : List Bool) (s : State) (i : Nat) : guarded (s.sampleTamper levels i) = guarded s := by
  simp only [State.sampleTamper, ↓guarded_raiseIf, ↓guarded_mk, guarded_parts]

theorem guarded_tamperSample (levels : List Bool) (s : State) : guarded (tamperSample levels s) = guarded s := by
  simp only [tamperSample]
  refine guarded_foldl (fun t x => ?_) _ _
  simp only [↓guarded_sampleTamper]

theorem guarded_tamperClear (w : Nat) (s : State) : guarded (s.tamperClear w) = guarded s := rfl

theorem guarded_backupSwitchover (vmainMv vbatMv vbkpMv : Nat) (s : State) :
    guarded (backupSwitchover vmainMv vbatMv vbkpMv s) = guarded s := by
  simp only [backupSwitchover, apply_ite guarded, ↓guarded_raise, ↓guarded_mk, guarded_parts, ite_self]

theorem guarded_loseBk (s : State) : guarded s.loseBk = guarded s := by
  simp only [State.loseBk, apply_ite guarded, ↓guarded_mk, guarded_parts, ite_self]

theorem guarded_vmainRise (vbkpMv ticks : Nat) (s : State) : guarded (vmainRise vbkpMv ticks s) = guarded s := by
  simp only [vmainRise, apply_ite guarded, ↓guarded_loseBk, ↓guarded_mk, guarded_parts, ite_self]

theorem guarded_bkRetentionTrip (s : State) : guarded (bkRetentionTrip s) = guarded s := by
  simp only [bkRetentionTrip, ↓guarded_loseBk]

/-! ### Clock sources -/

theorem guarded_relocked (s : State) : guarded s.relocked = guarded s := by
  simp only [State.relocked, ↓guarded_count, ↓guarded_mk, guarded_parts]

theorem guarded_fallback (kind arg blocked : Nat) (s : State) : guarded (s.fallback kind arg blocked) = guarded s := by
  simp only [State.fallback, ↓guarded_settleAll, ↓guarded_relocked, ↓guarded_raise, ↓guarded_mk, guarded_parts]

theorem guarded_fallbackNow (kind arg : Nat) (s : State) : guarded (s.fallbackNow kind arg) = guarded s := by
  simp only [State.fallbackNow, apply_ite guarded, ↓guarded_fallback, ↓guarded_restore, ite_self]

theorem guarded_hfCrystalReady (cyc ready : Nat) (s0 : State) : guarded (hfCrystalReady cyc ready s0) = guarded s0 := by
  simp only [hfCrystalReady, apply_ite guarded, ↓guarded_atCyc, ↓guarded_relocked, ↓guarded_restore, ↓guarded_mk,
    guarded_parts, ite_self]

theorem guarded_crystalReadyTimeout (cyc : Nat) (s0 : State) : guarded (crystalReadyTimeout cyc s0) = guarded s0 := by
  simp only [crystalReadyTimeout, apply_ite guarded, ↓guarded_atCyc, ↓guarded_fallbackNow, ↓guarded_mk, guarded_parts, ite_self]

theorem guarded_crystalRetry (s : State) : guarded (crystalRetry s) = guarded s := by
  simp only [crystalRetry, apply_ite guarded, ↓guarded_mk, guarded_parts, ite_self]

theorem guarded_ocxoEdgeLost (cyc : Nat) (s0 : State) : guarded (ocxoEdgeLost cyc s0) = guarded s0 := by
  simp only [ocxoEdgeLost, apply_ite guarded, ↓guarded_atCyc, ↓guarded_fallbackNow, ↓guarded_mk, guarded_parts, ite_self]

theorem guarded_lfCrystalStopped (s : State) : guarded (lfCrystalStopped s) = guarded s := by
  simp only [lfCrystalStopped, apply_ite guarded, ↓guarded_raise, ↓guarded_mk, guarded_parts, ite_self]

theorem guarded_ocxoGateEnd (cyc n c : Nat) (s0 : State) : guarded (ocxoGateEnd cyc n c s0) = guarded s0 := by
  unfold ocxoGateEnd
  dsimp only
  repeat' split
  all_goals simp only [↓guarded_raise, ↓guarded_mk, guarded_parts]

theorem guarded_qualify (segments : List (List Rat)) (s : State) : guarded (s.qualify segments).1 = guarded s := rfl

theorem guarded_judgeCrystal (k : Option Int) (s : State) : guarded (s.judgeCrystal k) = guarded s := by
  unfold State.judgeCrystal
  dsimp only
  repeat' split
  all_goals simp only [↓guarded_raise, ↓guarded_fallback, ↓guarded_mk, guarded_parts]

theorem guarded_moveReference (s : State) : guarded s.moveReference = guarded s := by
  simp only [State.moveReference, apply_ite guarded, ↓guarded_relocked, ↓guarded_mk, guarded_parts, ite_self]

theorem guarded_restoreLf (lfxTicks : Nat) (s : State) : guarded (s.restoreLf lfxTicks) = guarded s := by
  simp only [State.restoreLf, apply_ite guarded, ↓guarded_raise, ↓guarded_mk, guarded_parts, ite_self]

theorem guarded_closeClocks (gate : List (List Rat)) (lfxTicks : Nat) (evenOpens : Bool) (s : State) :
    guarded (s.closeClocks gate lfxTicks evenOpens) = guarded s := by
  simp only [State.closeClocks, apply_ite guarded, ↓guarded_qualify, ↓guarded_restoreLf, ↓guarded_judgeCrystal,
    ↓guarded_moveReference, ↓guarded_mk, guarded_parts, ite_self]

/-! ### Flow -/

theorem guarded_flowComputationComplete (cyc : Nat) (s0 : State) : guarded (flowComputationComplete cyc s0) = guarded s0 := by
  simp only [flowComputationComplete, apply_ite guarded, ↓guarded_atCyc, ↓guarded_count, ↓guarded_raiseAll, ↓guarded_mk,
    guarded_parts, ite_self]

/-! ### Quantities and outputs -/

theorem guarded_accumulate (o : FlowOut) (ticks : Nat) (s : State) : guarded (s.accumulate o ticks).1 = guarded s := by
  unfold State.accumulate
  split <;> rfl

theorem guarded_modOut (n : Nat) (f : PulseOut → PulseOut) (s : State) : guarded (s.modOut n f) = guarded s := rfl

theorem guarded_pulseStart (n cyc : Nat) (s0 : State) : guarded (pulseStart n cyc s0) = guarded s0 := by
  simp only [pulseStart, apply_ite guarded, ↓guarded_modOut, ↓guarded_mk, guarded_parts, ite_self]

theorem guarded_pulseEnd (n cyc : Nat) (s0 : State) : guarded (pulseEnd n cyc s0) = guarded s0 := by
  simp only [pulseEnd, apply_ite guarded, ↓guarded_modOut, ↓guarded_mk, guarded_parts, ite_self]

theorem guarded_ftoPulse (cyc : Nat) (s0 : State) : guarded (ftoPulse cyc s0) = guarded s0 := by
  simp only [ftoPulse, apply_ite guarded, ↓guarded_mk, guarded_parts, ite_self]

theorem guarded_ftoPulseEnd (cyc : Nat) (s0 : State) : guarded (ftoPulseEnd cyc s0) = guarded s0 := by
  simp only [ftoPulseEnd, apply_ite guarded, ↓guarded_mk, guarded_parts, ite_self]

theorem guarded_restoreRecord (c : Commit) (s : State) : guarded (s.restoreRecord c) = guarded s := rfl

theorem guarded_startInCreep (s : State) : guarded s.startInCreep = guarded s := rfl

theorem guarded_restoreBanks (s : State) : guarded s.restoreBanks.1 = guarded s := by
  unfold State.restoreBanks
  split
  · rfl
  · split <;> simp only [↓guarded_startInCreep, ↓guarded_restoreRecord, ↓guarded_mk, guarded_parts]

/-! ### Billing and the actuator -/

theorem guarded_modBill (f : BillState → BillState) (s : State) : guarded (s.modBill f) = guarded s := rfl

theorem guarded_restartDemand (at_ : Nat) (s : State) : guarded (s.restartDemand at_) = guarded s := rfl

theorem guarded_demandEnd (inst flags : Nat) (s : State) : guarded (s.demandEnd inst flags) = guarded s := rfl

theorem guarded_switchTariff (inst local_ cause flags : Nat) (s : State) :
    guarded (s.switchTariff inst local_ cause flags) = guarded s := by
  simp only [State.switchTariff, apply_ite guarded, ↓guarded_raise, ↓guarded_modBill, ite_self]

theorem guarded_activateCalendar (inst flags : Nat) (s : State) : guarded (s.activateCalendar inst flags) = guarded s := rfl

theorem guarded_billingClose (inst flags : Nat) (s : State) : guarded (s.billingClose inst flags) = guarded s := by
  unfold State.billingClose
  dsimp only
  repeat' split
  all_goals simp only [↓guarded_mk, guarded_parts]

theorem guarded_instant (dst : Bool) (flags x : Nat) (s : State) : guarded (s.instant dst flags x) = guarded s := by
  unfold State.instant
  split <;> simp only [↓guarded_demandEnd, ↓guarded_switchTariff, ↓guarded_billingClose]

theorem guarded_runInstants (dst : Bool) (flags : Nat) (xs : List Nat) (s : State) :
    guarded (s.runInstants dst flags xs) = guarded s :=
  guarded_foldl (fun t _ => guarded_instant _ _ _ t) _ s

theorem guarded_span (a b lb : Nat) (dst : Bool) (act : Option Nat) (flags : Nat) (s : State) :
    guarded (s.span a b lb dst act flags) = guarded s := by
  unfold State.span
  dsimp only
  repeat' split
  all_goals simp only [↓guarded_runInstants, ↓guarded_switchTariff, ↓guarded_activateCalendar, ↓guarded_billingClose]

theorem guarded_passInstant (flags x : Nat) (s : State) : guarded (s.passInstant flags x) = guarded s := by
  unfold State.passInstant
  dsimp only
  repeat' split
  all_goals simp only [↓guarded_demandEnd, ↓guarded_activateCalendar, ↓guarded_switchTariff, ↓guarded_billingClose]

theorem guarded_passSpan (from_ to_ : Nat) (act : Option Nat) (always : Bool) (flags : Nat) (s : State) :
    guarded (s.passSpan from_ to_ act always flags) = guarded s := by
  have hpass : ∀ (t : State) (x : Nat), guarded (t.passInstant flags x) = guarded t := fun t x => guarded_passInstant flags x t
  simp only [State.passSpan, apply_ite guarded, guarded_restartDemand, guarded_modBill, guarded_foldl hpass, ite_self]

theorem guarded_setForward (old new_ flags : Nat) (s : State) : guarded (s.setForward old new_ flags) = guarded s := by
  simp only [State.setForward, ↓guarded_passSpan]

theorem guarded_setBack (old new_ flags : Nat) (s : State) : guarded (s.setBack old new_ flags) = guarded s := by
  simp only [State.setBack, apply_ite guarded, ↓guarded_restartDemand, ↓guarded_demandEnd, ite_self]

theorem guarded_billSetting (old new_ : Nat) (stopped dstOld dstNew : Bool) (flags : Nat) (s : State) :
    guarded (s.billSetting old new_ stopped dstOld dstNew flags) = guarded s := by
  simp only [State.billSetting, apply_ite guarded, ↓guarded_setBack, ↓guarded_setForward, ↓guarded_switchTariff, ↓guarded_mk,
    guarded_parts, ite_self]

theorem guarded_billDst (at_ : Nat) (auto forward : Bool) (flags : Nat) (s : State) :
    guarded (s.billDst at_ auto forward flags) = guarded s := by
  simp only [State.billDst, guarded_switchTariff]
  split
  · rw [guarded_foldl fun t _ => guarded_billingClose _ _ t]
    exact guarded_foldl (fun t l => guarded_switchTariff _ _ _ _ t) _ s
  · rfl

theorem guarded_reached (t : Nat) (s : State) : guarded (s.reached t) = guarded s := rfl

theorem guarded_billChange (flags : Nat) (s : State) (c : TimeChange) : guarded (s.billChange flags c) = guarded s := by
  simp only [State.billChange, apply_ite guarded, ↓guarded_reached, ↓guarded_billSetting, ↓guarded_span, ↓guarded_billDst,
    ite_self]

theorem guarded_billInstants (s : State) : guarded s.billInstants = guarded s := by
  have hchange : ∀ (t : State) x,
    guarded (t.billChange (flag s.cal.uncertain) x) = guarded t := fun t x => guarded_billChange _ t x
  simp only [State.billInstants, apply_ite guarded, guarded_billingClose, guarded_mk, guarded_parts, guarded_reached,
    guarded_span,
    guarded_foldl hchange, ite_self]

theorem guarded_writeGroup (c : Commit) (g : Group) (insts : List Nat) (next exec : Nat) (s : State) :
    guarded (s.writeGroup c g insts next exec) = guarded s := by
  simp only [State.writeGroup, ↓guarded_raise, ↓guarded_emitAll, ↓guarded_mk, guarded_parts]

theorem guarded_billingSnapshotWrite (s : State) : guarded (billingSnapshotWrite s) = guarded s := by
  unfold billingSnapshotWrite
  dsimp only
  repeat' split
  all_goals simp only [↓guarded_writeGroup, ↓guarded_mk, guarded_parts]

theorem guarded_completeGroups (s : State) : guarded s.completeGroups = guarded s := by
  refine guarded_foldl (fun t c => ?_) _ s
  split
  · rfl
  · dsimp only
    split
    · rfl
    · exact guarded_writeGroup _ _ _ _ _ t

theorem guarded_catchUp (from_ : Option Nat) (s : State) : guarded (s.catchUp from_) = guarded s := by
  simp only [State.catchUp, apply_ite guarded, ↓guarded_passSpan, ↓guarded_reached, ↓guarded_switchTariff, ↓guarded_mk,
    guarded_parts, ite_self]

theorem guarded_charge (g : Gain) (s : State) : guarded (s.charge g).1 = guarded s := by
  unfold State.charge
  split <;> rfl

theorem guarded_addTopups (s : State) : guarded s.addTopups = guarded s := rfl

theorem guarded_judgeCredit (s : State) : guarded s.judgeCredit = guarded s := by
  simp only [State.judgeCredit, ↓guarded_raiseAll, ↓guarded_modBill]

theorem guarded_startMove (target cause : Nat) (s : State) : guarded (s.startMove target cause) = guarded s := rfl

theorem guarded_actCommand (acf0 acf1 : Bool) (s : State) : guarded (s.actCommand acf0 acf1) = guarded s := by
  unfold State.actCommand
  dsimp only
  repeat' split
  all_goals simp only [↓guarded_startMove, ↓guarded_modBill, ↓guarded_mk, guarded_parts]

theorem guarded_decideActuator (acf0 acf1 : Bool) (s : State) : guarded (s.decideActuator acf0 acf1) = guarded s := by
  simp only [State.decideActuator, apply_ite guarded, ↓guarded_modBill, ↓guarded_startMove, ↓guarded_actCommand, ↓guarded_mk,
    guarded_parts, ite_self]

theorem guarded_actuatorEndReached (cyc : Nat) (s0 : State) : guarded (actuatorEndReached cyc s0) = guarded s0 := by
  unfold actuatorEndReached
  dsimp only
  repeat' split
  all_goals simp only [↓guarded_mk, guarded_parts]

theorem guarded_actuatorDone (cyc : Nat) (s0 : State) : guarded (actuatorDone cyc s0) = guarded s0 := by
  unfold actuatorDone
  dsimp only
  repeat' split
  all_goals simp only [↓guarded_raise, ↓guarded_modBill, ↓guarded_mk, guarded_parts]

theorem guarded_actuatorFault (kind aci cyc : Nat) (s0 : State) : guarded (actuatorFault kind aci cyc s0) = guarded s0 := by
  simp only [actuatorFault, apply_ite guarded, ↓guarded_modBill, ↓guarded_raise, ↓guarded_mk, guarded_parts, ite_self]

theorem guarded_actuatorReverseEnd (cyc : Nat) (s0 : State) : guarded (actuatorReverseEnd cyc s0) = guarded s0 := by
  unfold actuatorReverseEnd
  dsimp only
  repeat' split
  all_goals simp only [↓guarded_mk, guarded_parts]

theorem guarded_actuatorPauseEnd (cyc : Nat) (s0 : State) : guarded (actuatorPauseEnd cyc s0) = guarded s0 := by
  unfold actuatorPauseEnd
  dsimp only
  repeat' split
  all_goals simp only [↓guarded_mk, guarded_parts]

theorem guarded_actKeyHoldExpiry (s : State) : guarded (actKeyHoldExpiry s) = guarded s := by
  simp only [actKeyHoldExpiry, apply_ite guarded, ↓guarded_mk, guarded_parts, ite_self]

theorem guarded_notePeriod (flowQ : Nat) (s : State) : guarded (s.notePeriod flowQ) = guarded s := rfl

theorem guarded_billGain (g : Gain) (s : State) : guarded (s.billGain g).1 = guarded s := by
  simp only [State.billGain, ↓guarded_charge, ↓guarded_modBill, ↓guarded_mk, guarded_parts]

theorem guarded_billStep1 (g : Gain) (s : State) : guarded (s.billStep1 g).1 = guarded s := by
  simp only [State.billStep1, ↓guarded_addTopups, ↓guarded_billGain]

theorem guarded_billBoundary (g : Gain) (flowQ : Nat) (acf0 acf1 : Bool) (s : State) :
    guarded (s.billBoundary g flowQ acf0 acf1).1 = guarded s := by
  simp only [State.billBoundary, ↓guarded_billStep1, ↓guarded_notePeriod, ↓guarded_decideActuator, ↓guarded_judgeCredit,
    ↓guarded_billInstants]

theorem guarded_restartMove (s : State) : guarded s.restartMove = guarded s := by
  simp only [State.restartMove, apply_ite guarded, ↓guarded_startMove, ite_self]

/-! ### The display -/

theorem guarded_modDisp (f : Display → Display) (s : State) : guarded (s.modDisp f) = guarded s := rfl

theorem guarded_awaitUpdate (r : Nat) (target : List Nat) (s : State) : guarded (s.awaitUpdate r target) = guarded s := rfl

theorem guarded_requestUpdate (target : List Nat) (s : State) (r : Nat) : guarded (s.requestUpdate target r) = guarded s := by
  unfold State.requestUpdate
  dsimp only
  repeat' split
  all_goals simp only [↓guarded_awaitUpdate, ↓guarded_raise, ↓guarded_modDisp]

theorem guarded_dispUpdate (w : Nat) (s : State) : guarded (s.dispUpdate w) = guarded s := by
  unfold State.dispUpdate
  split
  · exact guarded_foldl (guarded_requestUpdate _) _ s
  · rfl

theorem guarded_displayUpdateAdmitted (r : Nat) (starts : List Nat) (s : State) :
    guarded (displayUpdateAdmitted r starts s) = guarded s := by
  unfold displayUpdateAdmitted
  dsimp only
  repeat' split
  all_goals simp only [↓guarded_mk, guarded_parts]

theorem guarded_startUpdate (r : Nat) (f : DispRun → DispRun) (s : State) : guarded (s.startUpdate r f) = guarded s := rfl

theorem guarded_pumpBurst (r cyc : Nat) (s : State) : guarded (pumpBurst r cyc s) = guarded s := by
  unfold pumpBurst
  split
  · rfl
  · simp only [apply_ite guarded, guarded_count, guarded_modDisp, guarded_startUpdate, guarded_mk, guarded_parts, ite_self]

theorem guarded_drivenPhase (vep ven : Nat) (s : State) : guarded (drivenPhase vep ven s) = guarded s := by
  simp only [drivenPhase, apply_ite guarded, ↓guarded_modDisp, ↓guarded_mk, guarded_parts, ite_self]

theorem guarded_powerDisplay (s : State) : guarded s.powerDisplay = guarded s := by
  simp only [State.powerDisplay, apply_ite guarded, ↓guarded_mk, guarded_parts, ite_self]

theorem guarded_nextUpdate (r : Nat) (s : State) : guarded (s.nextUpdate r) = guarded s := by
  unfold State.nextUpdate
  split
  · rfl
  · exact guarded_awaitUpdate _ _ _

theorem guarded_reband (θ : Int) (s : State) : guarded (s.reband θ) = guarded s := by
  simp only [State.reband, apply_ite guarded, ↓guarded_raise, ↓guarded_mk, guarded_parts, ite_self]

theorem guarded_internalTemp (mk : Int) (selfTest : Bool) (s : State) : guarded (internalTemp mk selfTest s) = guarded s := by
  simp only [internalTemp, apply_ite guarded, ↓guarded_internalTempAll, ↓guarded_reband, ite_self]

theorem guarded_restoreDisplay (s : State) : guarded s.restoreDisplay = guarded s := by
  simp only [State.restoreDisplay, apply_ite guarded, ↓guarded_modDisp, ↓guarded_raise, ite_self]

theorem guarded_taperDisplay (s : State) : guarded s.taperDisplay = guarded s := by
  unfold State.taperDisplay
  split
  · exact guarded_foldl (guarded_requestUpdate _) _ s
  · rfl

theorem guarded_lcdFrameStart (cyc : Nat) (s0 : State) : guarded (lcdFrameStart cyc s0) = guarded s0 := by
  simp only [lcdFrameStart, apply_ite guarded, ↓guarded_elapse, ↓guarded_modDisp, ↓guarded_mk, guarded_parts, ite_self]

/-! ### Answers -/

theorem guarded_answer (r : Request) (byCore : Bool) (abort : Nat) (data : List Nat) (s : State) :
    guarded (s.answer r byCore abort data) = guarded s := by
  unfold State.answer
  dsimp only
  repeat' split
  all_goals simp only [↓guarded_count, ↓guarded_mk, guarded_parts]

/-! ### The security block -/

theorem guarded_authFail (role port reason counter : Nat) (s : State) :
    guarded (s.authFail role port reason counter) = guarded s := by
  unfold State.authFail
  dsimp only
  repeat' split
  all_goals simp only [↓guarded_raise, ↓guarded_mk, guarded_parts]

theorem guarded_verifyEnvelope (e : Envelope) (port : Nat) (s : State) : guarded (s.verifyEnvelope e port).1 = guarded s := by
  unfold State.verifyEnvelope
  dsimp only
  repeat' split
  all_goals simp only [↓guarded_authFail, ↓guarded_mk, guarded_parts]

theorem guarded_authLockoutExpiry (role : Nat) (s : State) : guarded (authLockoutExpiry role s) = guarded s := by
  simp only [authLockoutExpiry, apply_ite guarded, ↓guarded_mk, guarded_parts, ite_self]

theorem guarded_countChange (index sub port : Nat) (s : State) : guarded (s.countChange index sub port) = guarded s := rfl

theorem guarded_installKey (role : Nat) (k : List Nat) (s : State) : guarded (s.installKey role k) = guarded s := rfl

theorem guarded_firewallHit (addr master : Nat) (user : Bool) (s : State) :
    guarded (s.firewallHit addr master user) = guarded s := by
  simp only [State.firewallHit, ↓guarded_count, ↓guarded_mk, guarded_parts]

theorem guarded_coreWake (s : State) : guarded s.coreWake = guarded s := by
  unfold State.coreWake
  split
  · rfl
  · split <;> simp only [↓guarded_mk, guarded_parts]

theorem guarded_failHeld (s : State) : guarded s.failHeld = guarded s := by
  unfold State.failHeld
  simp only [guarded_mk, guarded_parts]
  rw [guarded_foldl fun t r => guarded_answer r false abortState [] t]
  split
  · rfl
  · exact guarded_answer _ _ _ _ s

theorem guarded_resetCore (state : Nat) (s : State) : guarded (s.resetCore state) = guarded s := by
  simp only [State.resetCore, ↓guarded_failHeld, ↓guarded_mk, guarded_parts]

/-! ### The dictionary -/

theorem guarded_setGen (via : Via) (g : Nat) (s : State) : guarded (s.setGen via g) = guarded s := by
  unfold State.setGen
  split <;> rfl

theorem guarded_hello (via : Via) (lo hi : Nat) (s : State) : guarded (s.hello via lo hi).1 = guarded s := by
  unfold State.hello
  dsimp only
  repeat' split
  all_goals simp only [↓guarded_raise, ↓guarded_setGen]

theorem guarded_keepHello (via : Via) (bytes : List Nat) (s : State) : guarded (s.keepHello via bytes) = guarded s := by
  unfold State.keepHello
  split <;> rfl

theorem guarded_helloExchange (via : Via) (data : List Nat) (s : State) : guarded (s.helloExchange via data) = guarded s := by
  unfold State.helloExchange
  split <;> simp only [↓guarded_hello, ↓guarded_keepHello]

theorem guarded_authenticate (r : Request) (s : State) : guarded (s.authenticate r).1 = guarded s := by
  unfold State.authenticate
  dsimp only
  repeat' split
  all_goals simp only [↓guarded_verifyEnvelope]

theorem guarded_ctxPut (p : Nat × Nat) (s : State) : guarded (s.ctxPut p) = guarded s := by
  simp only [State.ctxPut, apply_ite guarded, ↓guarded_force, ↓guarded_mk, guarded_parts, ite_self]

theorem guarded_discardStaged (n : Nat) (s : State) : guarded (s.discardStaged n) = guarded s := rfl

theorem guarded_stage (n : Nat) (p : Nat × Nat) (s : State) : guarded (s.stage n p) = guarded s := rfl

theorem guarded_stageOn (n v : Nat) (s : State) : guarded (s.stageOn n v) = guarded s := by
  simp only [State.stageOn, apply_ite guarded, ↓guarded_stage, ↓guarded_mk, guarded_parts, ite_self]

theorem guarded_zeroCapture (n v : Nat) (s : State) : guarded (s.zeroCapture n v) = guarded s := rfl

theorem guarded_putTemplate (n : Nat) (w : View) (s : State) : guarded (s.putTemplate n w) = guarded s := by
  simp only [State.putTemplate, ↓guarded_ctxPut]

theorem guarded_putAll (n : Nat) (ws : List (Nat × Nat)) (s : State) : guarded (s.putAll n ws) = guarded s := by
  have hput : ∀ (t : State) (p : Nat × Nat), guarded (if keySub p.1 = 0x1F then t.zeroCapture n p.2
      else if keySub p.1 = 0x10 then t else t.ctxPut p) = guarded t := fun t p => by
    simp only [apply_ite guarded, guarded_zeroCapture, guarded_ctxPut, ite_self]
  simp only [State.putAll, apply_ite guarded, guarded_putTemplate, guarded_foldl hput, ite_self]

theorem guarded_stageApply (n v port : Nat) (s : State) : guarded (s.stageApply n v port) = guarded s := by
  have hcount : ∀ (t : State) (p : Nat × Nat), guarded (t.countChange (keyIndex p.1) (keySub p.1) port) = guarded t :=
    fun t p => guarded_countChange _ _ port t
  simp only [State.stageApply, apply_ite guarded, guarded_foldl hcount, guarded_putAll, guarded_discardStaged, ite_self]

theorem guarded_ctxWrite (n sub v port : Nat) (s0 : State) : guarded (s0.ctxWrite n sub v port) = guarded s0 := by
  simp only [State.ctxWrite, apply_ite guarded, ↓guarded_stageOn, ↓guarded_stageApply, ↓guarded_ctxPut, ↓guarded_stage,
    ↓guarded_putAll, ↓guarded_mk, guarded_parts, ite_self]

theorem guarded_templateCapture (v : Nat) (s : State) : guarded (s.templateCapture v) = guarded s := rfl

theorem guarded_requestMode (v : Nat) (s : State) : guarded (s.requestMode v).1 = guarded s := by
  unfold State.requestMode
  dsimp only
  repeat' split
  all_goals simp only [↓guarded_raiseAll, ↓guarded_mk, guarded_parts]

theorem guarded_flowChanged (row : Row) (k : Key) (v : Nat) (s : State) : guarded (s.flowChanged row k v) = guarded s := by
  simp only [State.flowChanged, apply_ite guarded, ↓guarded_mk, guarded_parts, ite_self]

theorem guarded_putValue (row : Row) (a : Ask) (s : State) : guarded (s.putValue row a) = guarded s := by
  simp only [State.putValue, apply_ite guarded, ↓guarded_flowChanged, ↓guarded_plRest, ↓guarded_mk, guarded_parts, ite_self]

theorem guarded_setActivation (v : Nat) (s : State) : guarded (s.setActivation v) = guarded s := rfl

theorem guarded_putMasterRequest (data : List Nat) (s : State) : guarded (s.putMasterRequest data) = guarded s := rfl

theorem guarded_reportRange (a : Ask) (s : State) : guarded (s.reportRange a) = guarded s := by
  simp only [State.reportRange, apply_ite guarded, ↓guarded_discardStaged, ↓guarded_mk, guarded_parts, ite_self]

theorem guarded_markUpload (index sub : Nat) (s : State) : guarded (s.markUpload index sub) = guarded s := by
  simp only [State.markUpload, apply_ite guarded, ↓guarded_mk, guarded_parts, ite_self]

theorem guarded_afterRead (via : Via) (index sub : Nat) (s : State) : guarded (s.afterRead via index sub) = guarded s := by
  simp only [State.afterRead, apply_ite guarded, ↓guarded_mk, guarded_parts, ite_self]

/-! ### Records that arrive -/

theorem guarded_answerHello (via : Via) (r : Record) (s : State) : guarded (s.answerHello via r) = guarded s := by
  unfold State.answerHello
  split
  · rfl
  · split <;> simp only [↓guarded_hello, ↓guarded_mk, guarded_parts]

theorem guarded_expect (r : Request) (s : State) : guarded (s.expect r) = guarded s := by
  unfold State.expect
  split <;> rfl

/-! ### Senders -/

theorem guarded_tdcEnd (wrap : Bool) (n : Nat) (up acq : Bool) (late cyc : Nat) (s : State) :
    guarded (tdcEnd wrap n up acq late cyc s) = guarded s := by
  simp only [tdcEnd, apply_ite guarded, ↓guarded_acousticMissing, ite_self]

/-! ### Performance counters -/

theorem guarded_modPerf (f : Perf → Perf) (s : State) : guarded (s.modPerf f) = guarded s := rfl

theorem guarded_countEdge (acts : List Act) (s : State) : guarded (s.countEdge acts).1 = guarded s := by
  simp only [State.countEdge, ↓guarded_count, ↓guarded_modPerf]

theorem guarded_perfSnapshot (frame : Nat) (reconfig : Bool) (s : State) :
    guarded (s.perfSnapshot frame reconfig) = guarded s := rfl

theorem guarded_perfRestart (changed : Nat → Bool) (wrapped : List Bool) (s : State) :
    guarded (s.perfRestart changed wrapped) = guarded s := rfl

theorem guarded_perfOverflow (b i : Nat) (s : State) : guarded (perfOverflow b i s) = guarded s := by
  simp only [perfOverflow, apply_ite guarded, ↓guarded_raiseAll, ↓guarded_modPerf, ite_self]

theorem guarded_countLoRead (master off : Nat) (user : Bool) (s : State) :
    guarded (countLoRead master off user s) = guarded s := by
  unfold countLoRead
  split
  · rfl
  · split
    · exact guarded_firewallHit _ _ _ s
    · split <;> rfl

/-! ### The registers of the core -/

theorem guarded_modCore (f : AppCore → AppCore) (s : State) : guarded (s.modCore f) = guarded s := rfl

theorem guarded_modCsr (f : Csr → Csr) (s : State) : guarded (s.modCsr f) = guarded s := rfl

theorem guarded_coreAt (a : CoreAt) (s : State) : guarded (s.coreAt a) = guarded s := by
  simp only [State.coreAt, apply_ite guarded, ↓guarded_coreWake, ↓guarded_modCsr, ite_self]

theorem guarded_fillLines (acts : List Act) (s : State) : guarded (s.fillLines acts) = guarded s := rfl

/-! ### The application core -/

theorem guarded_customerRequestHeld (s : State) : guarded (customerRequestHeld s) = guarded s := by
  unfold customerRequestHeld
  split
  · rfl
  · split <;> simp only [↓guarded_coreWake, ↓guarded_mk, guarded_parts]

theorem guarded_mailboxTaken (s : State) : guarded (mailboxTaken s) = guarded s := by
  simp only [mailboxTaken, apply_ite guarded, ↓guarded_modCore, ite_self]

theorem guarded_mailbox (s : State) : guarded (mailbox s) = guarded s := by
  simp only [mailbox, apply_ite guarded, ↓guarded_raise, ↓guarded_modCore, ite_self]

theorem guarded_inDataPop (s : State) : guarded (inDataPop s) = guarded s := by
  simp only [inDataPop, apply_ite guarded, ↓guarded_mk, guarded_parts, ite_self]

theorem guarded_msipWrite (value : Nat) (s : State) : guarded (msipWrite value s) = guarded s := by
  simp only [msipWrite, apply_ite guarded, ↓guarded_coreWake, ↓guarded_modCore, ite_self]

theorem guarded_claim (s : State) : guarded (claim s) = guarded s := by
  unfold claim
  split
  · rfl
  · split <;> simp only [↓guarded_modCore, ↓guarded_mk, guarded_parts]

theorem guarded_localAck (value : Nat) (s : State) : guarded (localAck value s) = guarded s := by
  simp only [localAck, apply_ite guarded, ↓guarded_modCore, ite_self]

theorem guarded_mtimecmpMatch (s : State) : guarded (mtimecmpMatch s) = guarded s := by
  simp only [mtimecmpMatch, apply_ite guarded, ↓guarded_coreWake, ↓guarded_modCore, ite_self]

theorem guarded_wfiStop (mie : Nat) (s : State) : guarded (wfiStop mie s) = guarded s := by
  simp only [wfiStop, apply_ite guarded, ↓guarded_modCsr, ↓guarded_modCore, ite_self]

theorem guarded_reservationSpent (s : State) : guarded (reservationSpent s) = guarded s := by
  simp only [reservationSpent, apply_ite guarded, ↓guarded_modCore, ite_self]

theorem guarded_reserveCore (s : State) : guarded s.reserveCore = guarded s := by
  simp only [State.reserveCore, ↓guarded_modCore, ↓guarded_coreWake]

theorem guarded_wdtKick (value : Nat) (s : State) : guarded (wdtKick value s) = guarded s := by
  simp only [wdtKick, apply_ite guarded, ↓guarded_modCore, ite_self]

theorem guarded_coreBoundary (s : State) : guarded s.coreBoundary = guarded s := by
  simp only [State.coreBoundary, ↓guarded_coreWake, ↓guarded_modCore]

theorem guarded_bootVerifyComplete (s : State) : guarded (bootVerifyComplete s) = guarded s := by
  simp only [bootVerifyComplete, apply_ite guarded, ↓guarded_modCore, ite_self]

theorem guarded_coreFault (addr access : Nat) (firewall user : Bool) (s : State) :
    guarded (s.coreFault addr access firewall user) = guarded s := by
  simp only [State.coreFault, apply_ite guarded, ↓guarded_firewallHit, ↓guarded_modCsr, ite_self]

theorem guarded_firewallAccessFault (addr master access : Nat) (core : CoreAt) (s : State) :
    guarded (firewallAccessFault addr master access core s) = guarded s := by
  simp only [firewallAccessFault, apply_ite guarded, ↓guarded_coreAt, ↓guarded_coreFault, ↓guarded_firewallHit,
    ↓guarded_modCore, ite_self]

theorem guarded_irqWrite (off width value : Nat) (s : State) : guarded (s.irqWrite off width value) = guarded s := by
  simp only [State.irqWrite, apply_ite guarded, ↓guarded_modCore, ite_self]

theorem guarded_timerWrite (off width value : Nat) (s : State) : guarded (s.timerWrite off width value) = guarded s := by
  simp only [State.timerWrite, apply_ite guarded, ↓guarded_modCore, ↓guarded_wdtKick, ↓guarded_msipWrite, ↓guarded_localAck,
    ite_self]

theorem guarded_targetRead (addr width : Nat) (s : State) : guarded (s.targetRead addr width).2 = guarded s := by
  unfold State.targetRead
  dsimp only
  repeat' split
  all_goals simp only [↓guarded_claim, ↓guarded_inDataPop, ↓guarded_countLoRead, ↓guarded_mk, guarded_parts]

theorem guarded_eventLogWrite (s : State) : guarded (eventLogWrite s) = guarded s := by
  unfold eventLogWrite
  split
  · rfl
  · split <;> simp only [↓guarded_mk, guarded_parts]

/-! ### The SPI port and the delivery of events -/

theorem guarded_spiDiscard (s : State) : guarded s.spiDiscard = guarded s := by
  simp only [State.spiDiscard, ↓guarded_linkError, ↓guarded_mk, guarded_parts]

theorem guarded_spiSend (words clocked : Nat) (s : State) : guarded (s.spiSend words clocked) = guarded s := by
  simp only [State.spiSend, ↓guarded_count, ↓guarded_mk, guarded_parts]

theorem guarded_deliverTo (d : Dest) (p0 : Pend) (s : State) : guarded (s.deliverTo d p0) = guarded s := by
  unfold State.deliverTo
  split <;> simp only [↓guarded_coreWake, ↓guarded_mk, guarded_parts]

theorem guarded_eventDelivery (d : Dest) (s : State) : guarded (eventDelivery d s) = guarded s := by
  unfold eventDelivery
  split
  · rfl
  · split
    · exact guarded_deliverTo d _ s
    · rfl

/-! ### M-Bus -/

theorem guarded_modMbus (f : MBus → MBus) (s : State) : guarded (s.modMbus f) = guarded s := rfl

theorem guarded_mbusTake (addr c ci : Nat) (act : State → State) (s : State) (hact : ∀ t, guarded (act t) = guarded t) :
    guarded (s.mbusTake addr c ci act) = guarded s := by
  simp only [State.mbusTake, apply_ite guarded, hact, guarded_raise, guarded_count, guarded_modMbus, ite_self]

theorem guarded_mbusSend (addr : Nat) (bytes : List Nat) (s : State) : guarded (s.mbusSend addr bytes) = guarded s := by
  simp only [State.mbusSend, apply_ite guarded, ↓guarded_count, ↓guarded_modMbus, ite_self]

theorem guarded_mbusAck (addr : Nat) (s : State) : guarded (s.mbusAck addr) = guarded s := by
  simp only [State.mbusAck, ↓guarded_mbusSend]

theorem guarded_newRsp (addr : Nat) (body : List Nat) (withFlags : Bool) (s : State) :
    guarded (s.newRsp addr body withFlags) = guarded s := by
  simp only [State.newRsp, ↓guarded_mbusSend, ↓guarded_modMbus]

theorem guarded_mbusReq (addr : Nat) (fcb : Bool) (fresh : State → State) (s : State)
    (hfresh : ∀ t, guarded (fresh t) = guarded t) :
    guarded (s.mbusReq addr fcb fresh) = guarded s := by
  simp only [State.mbusReq, apply_ite guarded, hfresh, guarded_mbusSend, guarded_modMbus, ite_self]

theorem guarded_nextTelegram (addr : Nat) (s : State) : guarded (s.nextTelegram addr) = guarded s := by
  simp only [State.nextTelegram, apply_ite guarded, ↓guarded_newRsp, ↓guarded_modMbus, ↓guarded_count, ite_self]

theorem guarded_mbusSession (on_ : Bool) (s : State) : guarded (s.mbusSession on_) = guarded s := rfl

theorem guarded_sndNke (addr : Nat) (s : State) : guarded (sndNke addr s) = guarded s :=
  guarded_mbusTake _ _ _ _ s fun t => (guarded_mbusAck _ _).trans (guarded_mbusSession true t)

theorem guarded_reqUd2 (addr : Nat) (fcb : Bool) (s : State) : guarded (reqUd2 addr fcb s) = guarded s :=
  guarded_mbusTake _ _ _ _ s fun t => guarded_mbusReq _ _ _ t (guarded_nextTelegram addr)

theorem guarded_reqUd1 (addr : Nat) (fcb : Bool) (s : State) : guarded (reqUd1 addr fcb s) = guarded s := by
  refine guarded_mbusTake _ _ _ _ s fun t => guarded_mbusReq _ _ _ t fun v => ?_
  simp only [apply_ite guarded, guarded_mbusAck, guarded_modMbus, guarded_newRsp, ite_self]

theorem guarded_mbusSelection (fcb : Bool) (ident manufacturer version medium : Nat) (s : State) :
    guarded (mbusSelection fcb ident manufacturer version medium s) = guarded s := by
  unfold mbusSelection
  split
  · rfl
  · split
    · exact (guarded_mbusTake _ _ _ _ _ (guarded_mbusAck 253)).trans (guarded_modMbus _ s)
    · exact (guarded_modMbus _ _).trans (guarded_mbusTake _ _ _ _ s fun _ => rfl)

theorem guarded_mbusApplicationReset (addr : Nat) (fcb : Bool) (s : State) :
    guarded (mbusApplicationReset addr fcb s) = guarded s := by
  refine guarded_mbusTake _ _ _ _ s fun t => ?_
  rw [guarded_mbusAck, guarded_modMbus]

theorem guarded_mbusBaudChange (addr ci : Nat) (fcb : Bool) (s : State) : guarded
    (mbusBaudChange addr ci fcb s) = guarded s := by
  unfold mbusBaudChange
  split
  · refine guarded_mbusTake _ _ _ _ s fun t => ?_
    rw [guarded_modMbus, guarded_mbusAck]
  · rfl

theorem guarded_mbusFrameIgnored (faulty : Bool) (addr c ci : Nat) (s : State) :
    guarded (mbusFrameIgnored faulty addr c ci s) = guarded s := by
  unfold mbusFrameIgnored
  split
  · rfl
  · split
    · exact guarded_linkError 3 s
    · exact guarded_mbusTake _ _ _ _ s (guarded_linkError 3)

theorem guarded_mbusSessionIdle (s : State) : guarded (mbusSessionIdle s) = guarded s := by
  simp only [mbusSessionIdle, apply_ite guarded, ↓guarded_mbusSession, ite_self]

theorem guarded_mbusBaudRevert (s : State) : guarded (mbusBaudRevert s) = guarded s := by
  simp only [mbusBaudRevert, apply_ite guarded, ↓guarded_modMbus, ite_self]

theorem guarded_mbusStartBitWake (s : State) : guarded (mbusStartBitWake s) = guarded s := by
  simp only [mbusStartBitWake, apply_ite guarded, ↓guarded_raise, ite_self]

/-! ### IO-Link -/

theorem guarded_modIol (f : IoLink → IoLink) (s : State) : guarded (s.modIol f) = guarded s := rfl

theorem guarded_endIol (s : State) : guarded s.endIol = guarded s := rfl

theorem guarded_startIol (s : State) : guarded s.startIol = guarded s := by
  simp only [State.startIol, apply_ite guarded, ↓guarded_endIol, ↓guarded_modIol, ↓guarded_mk, guarded_parts, ite_self]

theorem guarded_iolWake (s : State) : guarded (iolWake s) = guarded s := by
  simp only [iolWake, apply_ite guarded, ↓guarded_raise, ↓guarded_startIol, ite_self]

theorem guarded_iolFallback (s : State) : guarded (iolFallback s) = guarded s := by
  simp only [iolFallback, apply_ite guarded, ↓guarded_endIol, ite_self]

theorem guarded_iolSessionTimeout (s : State) : guarded (iolSessionTimeout s) = guarded s := by
  simp only [iolSessionTimeout, apply_ite guarded, ↓guarded_endIol, ite_self]

theorem guarded_fillPd (s : State) : guarded s.fillPd = guarded s := rfl

theorem guarded_swapPd (s : State) : guarded s.swapPd = guarded s := by
  simp only [State.swapPd, apply_ite guarded, ↓guarded_modIol, ite_self]

theorem guarded_reportIolEvent (s : State) : guarded s.reportIolEvent = guarded s := by
  unfold State.reportIolEvent
  split <;> rfl

theorem guarded_iolMSequence (cyc : Nat) (sound : Bool) (command : Nat) (pdOut : List Nat) (pdOutValid takesEvent : Bool)
    (s0 : State) :
    guarded (iolMSequence cyc sound command pdOut pdOutValid takesEvent s0) = guarded s0 := by
  simp only [iolMSequence, apply_ite guarded, ↓guarded_swapPd, ↓guarded_linkError, ↓guarded_modIol, ↓guarded_count,
    ↓guarded_reportIolEvent, ↓guarded_mk, guarded_parts, ite_self]

theorem guarded_answerIol (err : Nat) (data : List Nat) (s : State) : guarded (s.answerIol err data) = guarded s := rfl

theorem guarded_paramUploadStart (s : State) : guarded (paramUploadStart s) = guarded s := by
  simp only [paramUploadStart, apply_ite guarded, ↓guarded_answerIol, ↓guarded_modIol, ite_self]

theorem guarded_paramUploadEnd (s : State) : guarded (paramUploadEnd s) = guarded s := by
  simp only [paramUploadEnd, apply_ite guarded, ↓guarded_answerIol, ↓guarded_modIol, ite_self]

theorem guarded_paramDownloadStart (s : State) : guarded (paramDownloadStart s) = guarded s := by
  simp only [paramDownloadStart, apply_ite guarded, ↓guarded_answerIol, ↓guarded_modIol, ite_self]

theorem guarded_paramBreak (s : State) : guarded (paramBreak s) = guarded s := by
  simp only [paramBreak, apply_ite guarded, ↓guarded_answerIol, ↓guarded_modIol, ite_self]

/-! ### The powerline link -/

theorem guarded_plEdits (s : State) : guarded s.plEdits = guarded s := by
  simp only [State.plEdits]
  refine guarded_foldl (fun t x => ?_) _ _
  simp only [↓guarded_force]

theorem guarded_plRefuse (s : State) : guarded s.plRefuse = guarded s := by
  simp only [State.plRefuse, ↓guarded_plRest, ↓guarded_plEdits, ↓guarded_modPl]

theorem guarded_plAdmit (s : State) : guarded s.plAdmit = guarded s := by
  unfold State.plAdmit
  split
  · rfl
  · split <;> rfl

theorem guarded_plSendReply (bytes : List Nat) (s : State) : guarded (s.plSendReply bytes) = guarded s := by
  simp only [State.plSendReply, apply_ite guarded, ↓guarded_modPl, ite_self]

theorem guarded_plTransmitPulse (cyc : Nat) (s : State) : guarded (plTransmitPulse cyc s) = guarded s := by
  unfold plTransmitPulse
  split
  · rfl
  · split <;> simp only [↓guarded_count, ↓guarded_modPl, ↓guarded_mk, guarded_parts]

theorem guarded_plTransmissionEnd (s0 : State) : guarded (plTransmissionEnd s0) = guarded s0 := by
  unfold plTransmissionEnd
  dsimp only
  repeat' split
  all_goals simp only [↓guarded_count, ↓guarded_modPl, ↓guarded_plRest, ↓guarded_plEdits, ↓guarded_plAdmit, ↓guarded_mk,
    guarded_parts]

theorem guarded_plUnlock (s : State) : guarded s.plUnlock = guarded s := by
  simp only [State.plUnlock, apply_ite guarded, ↓guarded_modPl, ↓guarded_plRefuse, ite_self]

theorem guarded_badCrossing (s : State) : guarded s.badCrossing = guarded s := by
  simp only [State.badCrossing, apply_ite guarded, ↓guarded_modPl, ↓guarded_plUnlock, ite_self]

theorem guarded_stamp18 (stop : Nat × Nat) (s : State) : guarded (s.stamp18 stop) = guarded s := rfl

theorem guarded_senseHalf (rising : Bool) (half : Option Half) (s : State) : guarded (s.senseHalf rising half) = guarded s := by
  unfold State.senseHalf
  split
  · split <;> rfl
  · rfl

theorem guarded_plWakePattern (s : State) : guarded (plWakePattern s) = guarded s := by
  simp only [plWakePattern, apply_ite guarded, ↓guarded_raise, ite_self]

theorem guarded_plZeroCrossing (rising : Bool) (time : Nat) (input18 : Option (Nat × Nat)) (half : Option Half) (s0 : State) :
    guarded (plZeroCrossing rising time input18 half s0) = guarded s0 := by
  unfold plZeroCrossing
  dsimp only
  repeat' split
  all_goals simp only [↓guarded_senseHalf, ↓guarded_stamp18, ↓guarded_modPl, ↓guarded_badCrossing]

theorem guarded_plCrossingMissed (s : State) : guarded (plCrossingMissed s) = guarded s := by
  simp only [plCrossingMissed, apply_ite guarded, ↓guarded_badCrossing, ↓guarded_modPl, ite_self]

theorem guarded_deliver (b : List Nat) (s : State) : guarded (s.deliver b) = guarded s := by
  simp only [State.deliver, apply_ite guarded, ↓guarded_count, ↓guarded_modPl, ↓guarded_raise, ite_self]

theorem guarded_plFrame (pairs : List (Half × Half)) (s : State) : guarded (plFrame pairs s) = guarded s := by
  unfold plFrame
  dsimp only
  repeat' split
  all_goals simp only [↓guarded_modPl, ↓guarded_raiseIf, ↓guarded_count, ↓guarded_deliver]

theorem guarded_plReplyNow (b : List Nat) (n told : Nat) (payload : List Nat) (s : State) :
    guarded (s.plReplyNow b n told payload) = guarded s := by
  simp only [State.plReplyNow, ↓guarded_plSendReply, ↓guarded_modPl]

theorem guarded_plDeliver (b : List Nat) (n : Nat) (reply : List Nat) (s : State) :
    guarded (s.plDeliver b n reply) = guarded s := by
  simp only [State.plDeliver, ↓guarded_plReplyNow, ↓guarded_modPl]

theorem guarded_confirm (n : Nat) (s : State) : guarded (s.confirm n) = guarded s := rfl

theorem guarded_servePoll (op : Nat) (new : List Nat → Nat → State → State) (s : State)
    (hnew : ∀ b n t, guarded (new b n t) = guarded t) :
    guarded (s.servePoll op new) = guarded s := by
  unfold State.servePoll
  split
  · rfl
  · dsimp only
    split
    · rfl
    · split <;> simp only [apply_ite guarded, guarded_plDeliver, guarded_plReplyNow, guarded_confirm, hnew, ite_self]

theorem guarded_plPollStatus (s : State) : guarded (plPollStatus s) = guarded s := by
  refine guarded_servePoll _ _ s fun b n t => ?_
  simp only [guarded_plReplyNow]

theorem guarded_plPollReadNext (s : State) : guarded (plPollReadNext s) = guarded s := by
  refine guarded_servePoll _ _ s fun b n t => ?_
  simp only [guarded_plReplyNow]

theorem guarded_plReplyDeadline (s : State) : guarded (plReplyDeadline s) = guarded s := by
  unfold plReplyDeadline
  split
  · rfl
  · split
    · rfl
    · exact guarded_plDeliver _ _ _ s
    · exact (guarded_count _ _).trans (guarded_plReplyNow _ _ _ _ s)

theorem guarded_plSessionIdle (n : Nat) (s : State) : guarded (plSessionIdle n s) = guarded s := by
  simp only [plSessionIdle, apply_ite guarded, ↓guarded_modPl, ite_self]

theorem guarded_sendPoll (wake : Bool) (q : PlPoll) (s : State) : guarded (s.sendPoll wake q) = guarded s := by
  simp only [State.sendPoll, ↓guarded_plAdmit, ↓guarded_modPl]

theorem guarded_pollFrom (k : Nat) (first : Bool) (s : State) : guarded (s.pollFrom k first) = guarded s := by
  unfold State.pollFrom
  split <;> simp only [↓guarded_modPl, ↓guarded_sendPoll]

theorem guarded_plCycleStart (s : State) : guarded (plCycleStart s) = guarded s := by
  simp only [plCycleStart, apply_ite guarded, ↓guarded_pollFrom, ↓guarded_modPl, ite_self]

theorem guarded_plReplyReceived (s : State) : guarded (plReplyReceived s) = guarded s := by
  unfold plReplyReceived
  dsimp only
  repeat' split
  all_goals simp only [↓guarded_pollFrom, ↓guarded_raise, ↓guarded_modPl]

theorem guarded_plPollTimeout (s : State) : guarded (plPollTimeout s) = guarded s := by
  unfold plPollTimeout
  dsimp only
  repeat' split
  all_goals simp only [↓guarded_sendPoll, ↓guarded_pollFrom, ↓guarded_raise, ↓guarded_modPl]

/-! ### Moving the boundary -/

theorem guarded_syncReferenceEvent (cyc : Nat) (s : State) : guarded (syncReferenceEvent cyc s) = guarded s := by
  unfold syncReferenceEvent
  split <;> rfl

theorem guarded_judgeSync (f : Frame) (s : State) : guarded (s.judgeSync f) = guarded s := by
  unfold State.judgeSync
  split
  · rfl
  · split <;> simp only [↓guarded_raiseIf, ↓guarded_mk, guarded_parts]

theorem guarded_newSource (old : Nat) (s : State) : guarded (s.newSource old) = guarded s := by
  simp only [State.newSource, apply_ite guarded, ↓guarded_mk, guarded_parts, ite_self]

theorem guarded_tellSlew (s : State) : guarded s.tellSlew = guarded s := by
  simp only [State.tellSlew, ↓guarded_raiseIf]

theorem guarded_pruneSync (s : State) : guarded s.pruneSync = guarded s := rfl

/-! ### The boundary -/

theorem guarded_admitSearches (s : State) : guarded s.admitSearches = guarded s :=
  guarded_foldl (fun t x => guarded_considerSearch t x) _ s

theorem guarded_planFrame (s : State) : guarded s.planFrame = guarded s := by
  simp only [State.planFrame, apply_ite guarded, ↓guarded_admitSearches, ↓guarded_mk, guarded_parts, ite_self]

theorem guarded_openFrame (s : State) : guarded s.openFrame = guarded s := by
  simp only [State.openFrame, ↓guarded_openSensors, ↓guarded_planFrame, ↓guarded_reconsider, ↓guarded_plAdmit,
    ↓guarded_coreBoundary, ↓guarded_fillPd, ↓guarded_tellSlew, ↓guarded_pruneSync, ↓guarded_mk, guarded_parts]

theorem guarded_changeMode (s : State) : guarded s.changeMode = guarded s := by
  unfold State.changeMode
  dsimp only
  repeat' split
  all_goals simp only [↓guarded_raiseAll, ↓guarded_raise, ↓guarded_mk, guarded_parts]

theorem guarded_settle_ (old s : State) : guarded (State.settle_ old s) = guarded s := by
  simp only [State.settle_, apply_ite guarded, ↓guarded_restartDemand, ↓guarded_powerDisplay, ↓guarded_newSource,
    ↓guarded_mk, guarded_parts, ite_self]

theorem guarded_takeEdits (closed : Nat) (wrapped : List Bool) (s : State) :
    guarded (s.takeEdits closed wrapped) = guarded s := by
  simp only [State.takeEdits, ↓guarded_applyEdits, ↓guarded_perfRestart, ↓guarded_perfSnapshot, ↓guarded_changeMode,
    ↓guarded_settle_]

theorem guarded_settleSlots (slots : List SlotUse) (s0 : State) : guarded (s0.settleSlots slots) = guarded s0 := by
  simp only [State.settleSlots, ↓guarded_count, ↓guarded_mk, guarded_parts]

theorem guarded_abandonJobs (old s : State) : guarded (State.abandonJobs old s) = guarded s := by
  simp only [State.abandonJobs, apply_ite guarded, ↓guarded_abandonSensors, ↓guarded_raiseAll, ↓guarded_mk, guarded_parts,
    ite_self]

theorem guarded_takeClear (s : State) : guarded s.takeClear = guarded s := by
  simp only [State.takeClear, apply_ite guarded, ↓guarded_restartDemand, ↓guarded_mk, guarded_parts, ite_self]

theorem guarded_feedPulses (old : State) (g : Gain) (s : State) : guarded (State.feedPulses old g s) = guarded s := by
  simp only [State.feedPulses, ↓guarded_raiseAll, ↓guarded_mk, guarded_parts]

theorem guarded_feedFto (old : State) (g : Gain) (cycles : Nat) (s : State) :
    guarded (State.feedFto old g cycles s) = guarded s := by
  simp only [State.feedFto, apply_ite guarded, ↓guarded_raiseAll, ↓guarded_mk, guarded_parts, ite_self]

theorem guarded_frameBoundary (gate : List (Nat × Nat)) (lfxTicks : Nat) (acf0 acf1 : Bool) (figures : List Act)
    (slots : List SlotUse) (edge : List Act) (s0 : State) :
    guarded (frameBoundary gate lfxTicks acf0 acf1 figures slots edge s0) = guarded s0 := by
  unfold frameBoundary
  dsimp only
  repeat' split
  all_goals simp only [↓guarded_settleSlots, ↓guarded_giveUpUnfired, ↓guarded_fillLines, ↓guarded_count, ↓guarded_elapse,
    ↓guarded_atCyc, ↓guarded_countEdge, ↓guarded_abandonJobs, ↓guarded_raise, ↓guarded_closeContexts, ↓guarded_accumulate,
    ↓guarded_billBoundary, ↓guarded_takeClear, ↓guarded_feedPulses, ↓guarded_emitAll, ↓guarded_takeEdits,
    ↓guarded_judgeSync, ↓guarded_closeClocks, ↓guarded_openFrame, ↓guarded_feedFto, ↓guarded_mk, guarded_parts]

theorem guarded_synoPulseEnd (s0 : State) : guarded (synoPulseEnd s0) = guarded s0 := by
  simp only [synoPulseEnd, apply_ite guarded, ↓guarded_mk, guarded_parts, ite_self]

/-! ### Power states -/

theorem guarded_commitJudged (diff : List (Nat × Nat)) (s : State) : guarded (s.commitJudged diff) = guarded s := by
  simp only [State.commitJudged, ↓guarded_raiseAll, ↓guarded_mk, guarded_parts]

theorem guarded_finishCommit (diff : List (Nat × Nat)) (s : State) : guarded (s.finishCommit diff) = guarded s := by
  simp only [State.finishCommit, apply_ite guarded, ↓guarded_commitJudged, ite_self]

theorem guarded_partialCommit (s : State) : guarded s.partialCommit = guarded s := by
  simp only [State.partialCommit, ↓guarded_accumulate, ↓guarded_billGain, ↓guarded_feedPulses, ↓guarded_mk, guarded_parts]

theorem guarded_readFinal (diff : List (Nat × Nat)) (s : State) : guarded (s.readFinal diff) = guarded s := rfl

theorem guarded_wickEntryComplete (cyc : Nat) (wake : Option Nat) (s0 : State) :
    guarded (wickEntryComplete cyc wake s0) = guarded s0 := by
  unfold wickEntryComplete
  dsimp only
  repeat' split
  all_goals simp only [↓guarded_elapse, ↓guarded_settlePins, ↓guarded_toPower, ↓guarded_leaveWick, ↓guarded_mk, guarded_parts]

theorem guarded_wickExit (cyc : Nat) (s0 : State) : guarded (wickExit cyc s0) = guarded s0 := by
  simp only [wickExit, ↓guarded_coreWake, ↓guarded_leaveWick, ↓guarded_mk, guarded_parts]

theorem guarded_vsdSettled (s : State) : guarded s.vsdSettled = guarded s := rfl

theorem guarded_domainReady (d : Nat) (vsd : Bool) (cyc : Nat) (s0 : State) :
    guarded (domainReady d vsd cyc s0) = guarded s0 := by
  simp only [domainReady, apply_ite guarded, ↓guarded_atCyc, ↓guarded_vsdSettled, ↓guarded_relocked, ↓guarded_restore,
    ↓guarded_mk, guarded_parts, ite_self]

theorem guarded_keyPress (s : State) : guarded (keyPress s) = guarded s := by
  simp only [keyPress, apply_ite guarded, ↓guarded_raise, ↓guarded_mk, guarded_parts, ite_self]

theorem guarded_keyRelease (ms : Nat) (s : State) : guarded (keyRelease ms s) = guarded s := by
  simp only [keyRelease, apply_ite guarded, ↓guarded_raise, ↓guarded_mk, guarded_parts, ite_self]

theorem guarded_spiScsWake (s : State) : guarded (spiScsWake s) = guarded s := by
  simp only [spiScsWake, apply_ite guarded, ↓guarded_raise, ite_self]

theorem guarded_vsdPumpSettled (droop : Bool) (s : State) : guarded (vsdPumpSettled droop s) = guarded s := by
  simp only [vsdPumpSettled, apply_ite guarded, ↓guarded_vsdSettled, ↓guarded_mk, guarded_parts, ite_self]

theorem guarded_logNow (ev : Nat) (s : State) : guarded (s.logNow ev) = guarded s := by
  unfold State.logNow
  split
  · rfl
  · split
    · exact guarded_deliverTo _ _ s
    · rfl

theorem guarded_emergency (s : State) : guarded s.emergency = guarded s := by
  simp only [State.emergency, apply_ite guarded, ↓guarded_leaveWick, ↓guarded_mk, guarded_parts, ite_self]

theorem guarded_brownoutHoldRecovery (s : State) : guarded (brownoutHoldRecovery s) = guarded s := by
  simp only [brownoutHoldRecovery, apply_ite guarded, ↓guarded_mk, guarded_parts, ite_self]

theorem guarded_vcapHoldLost (s : State) : guarded (vcapHoldLost s) = guarded s := by
  simp only [vcapHoldLost, apply_ite guarded, ↓guarded_mk, guarded_parts, ite_self]

theorem guarded_nrstRelease (s : State) : guarded (nrstRelease s) = guarded s := by
  simp only [nrstRelease, apply_ite guarded, ↓guarded_mk, guarded_parts, ite_self]

theorem guarded_testmRelease (s : State) : guarded (testmRelease s) = guarded s := rfl

theorem guarded_backoffExpiry (s : State) : guarded (backoffExpiry s) = guarded s := by
  simp only [backoffExpiry, apply_ite guarded, ↓guarded_mk, guarded_parts, ite_self]

theorem guarded_enterSnuff (s : State) : guarded s.enterSnuff = guarded s := by
  simp only [State.enterSnuff, ↓guarded_toPower, ↓guarded_mk, guarded_parts]

/-! ### The start -/

theorem guarded_markIf (c : Bool) (n : Nat) (s : State) : guarded (s.markIf c n) = guarded s := by
  simp only [State.markIf, apply_ite guarded, ↓guarded_mk, guarded_parts, ite_self]

theorem guarded_beginStart (s : State) : guarded s.beginStart = guarded s := rfl

theorem guarded_restoreStart (damage : List (Nat × Nat × Nat)) (s0 : State) :
    guarded (s0.restoreStart damage).1 = guarded s0 := by
  simp only [State.restoreStart, ↓guarded_restoreBanks, ↓guarded_raiseAll, ↓guarded_raiseIf, ↓guarded_markIf, ↓guarded_mk,
    guarded_parts]

theorem guarded_bringUp (s : State) : guarded s.bringUp = guarded s := by
  simp only [State.bringUp, ↓guarded_restoreDisplay, ↓guarded_mk, guarded_parts]

theorem guarded_startsIn (s : State) : guarded s.startsIn = guarded s := by
  simp only [State.startsIn, apply_ite guarded, ↓guarded_requestMode, ↓guarded_raiseAll, ↓guarded_markIf, ↓guarded_mk,
    guarded_parts, ite_self]

theorem guarded_deliverLatches (s : State) : guarded s.deliverLatches = guarded s := rfl

theorem guarded_enterTaper (s : State) : guarded s.enterTaper = guarded s := by
  simp only [State.enterTaper, apply_ite guarded, ↓guarded_raise, ↓guarded_mk, guarded_parts, ite_self]

theorem guarded_toNextTick (s : State) : guarded s.toNextTick = guarded s := by
  simp only [State.toNextTick, ↓guarded_elapse, ↓guarded_elapseBy, ↓guarded_mk, guarded_parts]

theorem guarded_openingBoundary (s : State) : guarded (openingBoundary s) = guarded s := by
  unfold openingBoundary
  dsimp only
  repeat' split
  all_goals simp only [↓guarded_toNextTick, ↓guarded_newSource, ↓guarded_toPower, ↓guarded_raise, ↓guarded_markIf,
    ↓guarded_enterTaper, ↓guarded_deliverLatches, ↓guarded_takeClear, ↓guarded_openFrame, ↓guarded_taperDisplay,
    ↓guarded_restartMove, ↓guarded_mk, guarded_parts]

/-! ### An RTC tick -/

theorem guarded_tickLockouts (s : State) : guarded s.tickLockouts = guarded s := rfl

end Sys2Proof.Proofs
end

section
/-! PROOF. What the commands and the ticks may do to the guarded part: the operations that write memory, serve a request of the
dictionary or reset the device keep its invariant, and undo nothing (R441, R443, R577). -/

namespace Sys2Proof.Proofs

open Sys2Proof Sys2Proof.Machine Sys2Proof.Laws

/-! ### What a step may do to it -/

/-- A seal that is set has been set once, and with bit 1 of SEAL_STATE or FACTORY_LOCK the FACTORY role has ended (R441, R443). -/
def Guarded.Sound (g : Guarded) : Prop :=
  (g.sealed = true → g.sealedOnce = true) ∧ (g.sealedOnce = true → g.factoryEnded = true) ∧
    (g.factoryLock = true → g.factoryEnded = true)

/-- What the commands may do to the guarded part: the queue stands, memory stays canonical, and what a seal, FACTORY_LOCK and the
programming of BOOT_KEY_HASH have once done stands (R441, R443, R577). -/
structure Guarded.Leads (g h : Guarded) : Prop where
  pending : h.pending = g.pending
  memory : Memory.wf g.mem = true → Memory.wf h.mem = true
  sound : g.Sound → h.Sound
  sealedOnce : g.sealedOnce = true → h.sealedOnce = true
  factoryEnded : g.factoryEnded = true → h.factoryEnded = true
  factoryLock : g.factoryLock = true → h.factoryLock = true
  bootHash : ∀ x, g.bootHash = some x → h.bootHash = some x

theorem Guarded.Leads.refl (g : Guarded) : g.Leads g := ⟨rfl, id, id, id, id, id, fun _ => id⟩

theorem Guarded.Leads.trans {g h k : Guarded} (a : g.Leads h) (b : h.Leads k) : g.Leads k where
  pending := b.pending.trans a.pending
  memory := b.memory ∘ a.memory
  sound := b.sound ∘ a.sound
  sealedOnce := b.sealedOnce ∘ a.sealedOnce
  factoryEnded := b.factoryEnded ∘ a.factoryEnded
  factoryLock := b.factoryLock ∘ a.factoryLock
  bootHash x := b.bootHash x ∘ a.bootHash x

/-- The state `s` has come from `u` by what the commands may do. -/
def Keeps (u s : State) : Prop := (guarded u).Leads (guarded s)

theorem Keeps_refl (s : State) : Keeps s s := .refl _

section Keeps

variable {u s : State}

/-- An operation that leaves the guarded part alone goes on from where the state had come. -/
theorem Keeps_of_guarded {t : State} (e : guarded t = guarded s) (h : Keeps u s) : Keeps u t := by
  rwa [Keeps, e]

theorem Keeps_ite {c : Prop} [Decidable c] {a b : State} (ha : Keeps u a) (hb : Keeps u b) : Keeps u (if c then a else b) := by
  split
  · exact ha
  · exact hb

theorem Keeps_foldl {α : Type} {f : State → α → State} (hf : ∀ s x, Keeps u s → Keeps u (f s x)) (l : List α) (h : Keeps u s) :
    Keeps u (l.foldl f s) := by
  induction l generalizing s with
  | nil => exact h
  | cons x xs ih => exact ih (hf s x h)

/-- A write of memory in its canonical form. -/
theorem Keeps_memory {m : Memory} (h : Keeps u s) (hm : Memory.wf s.mem = true → Memory.wf m = true) : Keeps u { s with mem := m } :=
  h.trans ⟨rfl, hm, id, id, id, id, fun _ => id⟩

theorem Keeps_writeBytes (a : Nat) (bs : List Nat) (h : Keeps u s) : Keeps u { s with mem := s.mem.writeBytes a bs } :=
  Keeps_memory h (Memory_wf_writeBytes bs s.mem a)

/-- A part of the sparse store that a test selects is in the canonical form. -/
theorem Pairs_wf_filter {β : Type} [DecidableEq β] (d : Nat → β) (p : Nat × β → Bool) (m : Pairs β) (h : Pairs.wf d m = true) :
    Pairs.wf d (m.filter p) = true := by
  simp only [Pairs.wf, Bool.and_eq_true, List.all_eq_true, List.mem_filter] at h ⊢
  refine ⟨?_, fun q hq => h.2 q hq.1⟩
  have hrising := h.1
  clear h
  induction m with
  | nil => rfl
  | cons q m ih =>
    rw [Pairs_rising_cons] at hrising
    rw [List.filter_cons]
    split
    · rw [Pairs_rising_cons]
      exact ⟨fun x hx => hrising.1 x (List.mem_filter.1 hx).1, ih hrising.2⟩
    · exact ih hrising.2

theorem Keeps_filter (p : Host.Cell → Bool) (h : Keeps u s) : Keeps u { s with mem := s.mem.filter p } :=
  Keeps_memory h (Pairs_wf_filter _ p s.mem)

theorem Keeps_saveDisplay (h : Keeps u s) : Keeps u s.saveDisplay := Keeps_writeBytes _ _ h

/-! ### The dictionary -/

theorem Keeps_seal (on : Bool) (h : Keeps u s) : Keeps u (s.seal on) := by
  refine h.trans ⟨rfl, id, fun ⟨_, hended, hlock⟩ => ⟨?_, ?_, ?_⟩, ?_, ?_, id, fun _ => id⟩ <;>
    simp only [guarded, State.seal, Bool.or_eq_true] at *
  · exact .inr
  · exact Or.imp_left hended
  · exact fun hl => .inl (hlock hl)
  · exact .inl
  · exact .inl

theorem Keeps_lockFactory (h : Keeps u s) : Keeps u s.lockFactory :=
  h.trans ⟨rfl, id, fun ⟨h1, _, _⟩ => ⟨h1, fun _ => rfl, fun _ => rfl⟩, id, fun _ => rfl, fun _ => rfl, fun _ => id⟩

/-- BOOT_KEY_HASH is programmed once (R577). -/
theorem Keeps_programHash (hash : List Nat) (hnone : s.acc.bootHash = none) (h : Keeps u s) :
    Keeps u { s with acc := { s.acc with bootHash := some hash } } :=
  h.trans ⟨rfl, id, id, id, id, id, fun _ hx => absurd (hnone.symm.trans hx) nofun⟩

theorem Keeps_perform (row : Row) (a : Ask) (hhash : a.index = 0x1530 → a.sub = 1 → s.acc.bootHash = none) (h : Keeps u s) :
    Keeps u (s.perform row a) := by
  unfold State.perform
  dsimp only
  split
  case h_1 => exact Keeps_seal _ h
  case h_2 => exact Keeps_lockFactory h
  case h_6 => exact Keeps_of_guarded (guarded_setTime _ s) h
  case h_7 => exact Keeps_of_guarded (guarded_dstCommand _ s) h
  case h_8 => exact Keeps_of_guarded (guarded_tamperClear _ s) h
  case h_10 => exact Keeps_of_guarded (guarded_templateCapture _ s) h
  case h_12 => exact Keeps_of_guarded (guarded_setActivation _ s) h
  case h_16 =>
    cases (a.env.map Role.rank).bind fun r => s.unwrapFor r a.data with
    | none => exact h
    | some k => exact Keeps_of_guarded (guarded_installKey _ k s) h
  case h_17 hindex hsub => exact Keeps_programHash a.data (hhash hindex hsub) h
  case h_18 => exact Keeps_of_guarded (guarded_helloExchange _ _ s) h
  case h_19 => exact Keeps_of_guarded (guarded_putValue row a _) h
  case h_20 => exact Keeps_of_guarded (guarded_dispUpdate _ s) h
  case h_22 =>
    split
    · exact h
    · exact Keeps_of_guarded (guarded_resetCore 3 s) h
  case h_23 => exact Keeps_writeBytes _ _ h
  case h_25 => exact Keeps_of_guarded (guarded_coreWake _) h
  case h_26 =>
    split
    · exact Keeps_of_guarded (guarded_ctxWrite _ _ _ _ s) h
    · exact Keeps_of_guarded (guarded_putValue row a s) h
  all_goals exact h

/-- Step 10 bars a second programming of BOOT_KEY_HASH (R577). -/
theorem bootHash_none_of_stateBad {index sub v : Nat} (hindex : index = 0x1530) (hsub : sub = 1)
    (hstate : s.stateBad index sub v = false) : s.acc.bootHash = none := by
  subst hindex hsub
  exact Option.isNone_iff_eq_none.1 (by simpa [State.stateBad] using hstate)

theorem Keeps_reportRange (a : Ask) (h : Keeps u s) : Keeps u (s.reportRange a) := Keeps_of_guarded (guarded_reportRange a s) h

theorem Keeps_commitWrite (row : Row) (a : Ask) (hhash : a.index = 0x1530 → a.sub = 1 → s.acc.bootHash = none) (h : Keeps u s) :
    Keeps u (s.commitWrite row a).1 := by
  unfold State.commitWrite
  split
  · exact Keeps_of_guarded (guarded_requestMode _ s) h
  · split
    · split
      · exact Keeps_perform row a hhash h
      · split
        · exact Keeps_perform row a hhash (s := { s with ledger := _ }) h
        · exact Keeps_of_guarded ((guarded_reportRange a _).trans (guarded_raiseAll _ _)) h
    · exact Keeps_perform row a hhash h

theorem Keeps_write (a : Ask) (h : Keeps u s) : Keeps u (s.write a).1 := by
  unfold State.write
  split
  · exact h
  next row _ =>
    dsimp only
    split
    · exact h
    · split
      · exact Keeps_reportRange a h
      · split
        · exact h
        · next hok =>
          have hw : Keeps u (s.commitWrite row a).1 := Keeps_commitWrite row a (fun hi hs => bootHash_none_of_stateBad hi hs
            (Bool.or_eq_false_iff.1 (Bool.eq_false_iff.2 hok)).2) h
          split
          · exact hw
          · refine Keeps_of_guarded (guarded_markUpload _ _ _) ?_
            split
            · exact Keeps_of_guarded (guarded_countChange _ _ _ _) hw
            · exact hw

theorem Keeps_answer (r : Request) (byCore : Bool) (abort : Nat) (data : List Nat) (h : Keeps u s) :
    Keeps u (s.answer r byCore abort data) := Keeps_of_guarded (guarded_answer r byCore abort data s) h

theorem Keeps_serveNow (r : Request) (h : Keeps u s) : Keeps u (s.serveNow r) := by
  have hq : Keeps u (s.authenticate r).1 := Keeps_of_guarded (guarded_authenticate r s) h
  have hcustomer := fun acts via x => Keeps_of_guarded (t := State.count acts (State.considerCustomer { (s.authenticate r).1 with
    acc := { (s.authenticate r).1.acc with customer := x } } via)) ((guarded_count _ _).trans (guarded_considerCustomer _ _)) hq
  exact Keeps_ite (Keeps_answer _ _ _ _ h) (Keeps_ite (Keeps_answer _ _ _ _ hq)
    (Keeps_ite (Keeps_ite (Keeps_answer _ _ _ _ hq) (Keeps_ite (Keeps_answer _ _ _ _ hq) (hcustomer _ _ _)))
      (Keeps_ite (Keeps_answer _ _ _ _ (Keeps_of_guarded (guarded_afterRead _ _ _ _) hq)) (Keeps_answer _ _ _ _ (Keeps_write _ hq)))))

theorem Keeps_submit (r : Request) (h : Keeps u s) : Keeps u (s.submit r) := Keeps_ite h (Keeps_serveNow r h)

theorem Keeps_serveWaiting (h : Keeps u s) : Keeps u s.serveWaiting :=
  Keeps_foldl (fun _ r ht => Keeps_submit r ht) _ (s := { s with acc := { s.acc with waiting := [] } }) h

theorem Keeps_drainSpi (fuel : Nat) (h : Keeps u s) : Keeps u (s.drainSpi fuel) := by
  induction fuel generalizing s with
  | zero => exact h
  | succ fuel ih =>
    unfold State.drainSpi
    split
    · exact h
    · exact Keeps_ite h (ih (Keeps_ite (Keeps_of_guarded (guarded_answerHello _ _ _) h) (Keeps_serveNow _ h)))

theorem Keeps_serveAll (h : Keeps u s) : Keeps u s.serveAll := Keeps_drainSpi _ (Keeps_serveWaiting h)

theorem Keeps_take (r : Request) (h : Keeps u s) : Keeps u (s.take r) := Keeps_submit r (Keeps_of_guarded (guarded_expect r s) h)

theorem Keeps_bring (via : Via) (gen op index sub id : Nat) (data : List Nat) (h : Keeps u s) :
    Keeps u (s.bring via gen op index sub id data) := Keeps_ite (Keeps_take _ h) h

theorem Keeps_ask (p : Sender) (index sub : Nat) (value : List Nat) (h : Keeps u s) : Keeps u (s.ask p index sub value) := by
  unfold State.ask
  split <;> exact Keeps_bring _ _ _ _ _ _ _ h

theorem Keeps_helloRecord (core : Bool) (payload : List Nat) (h : Keeps u s) : Keeps u (helloRecord core payload s) :=
  Keeps_ite h (Keeps_ite (Keeps_of_guarded (guarded_answerHello _ _ s) h) (Keeps_drainSpi _ h))

/-! ### The core and the links -/

theorem Keeps_reqGo (value : Nat) (h : Keeps u s) : Keeps u (reqGo value s) := Keeps_ite (Keeps_submit _ h) h

theorem Keeps_finishHeld (abort : Nat) (data : List Nat) (byCore : Bool) (h : Keeps u s) :
    Keeps u (s.finishHeld abort data byCore) := by
  unfold State.finishHeld
  split
  · exact h
  · exact Keeps_serveAll (Keeps_answer _ _ _ _ h)

theorem Keeps_custDone (value : Nat) (h : Keeps u s) : Keeps u (custDone value s) := Keeps_ite (Keeps_finishHeld _ _ _ h) h

theorem Keeps_custTimeout (h : Keeps u s) : Keeps u (custTimeout s) := Keeps_ite h (Keeps_finishHeld _ _ _ h)

theorem Keeps_takeCore (rs : List InRec) (h : Keeps u s) : Keeps u (s.takeCore rs) :=
  Keeps_ite (Keeps_of_guarded (guarded_linkError 0 s) h) (Keeps_foldl (fun t _ ht =>
    Keeps_ite (Keeps_of_guarded (guarded_answerHello _ _ t) ht) (Keeps_submit _ ht)) _ h)

theorem Keeps_outSubmit (value : Nat) (h : Keeps u s) : Keeps u (outSubmit value s) := by
  refine Keeps_ite ?_ h
  dsimp only
  split
  · exact Keeps_of_guarded (guarded_linkError 0 _) h
  · exact Keeps_takeCore _ h

theorem Keeps_coreWatchdog (pc : Nat) (h : Keeps u s) : Keeps u (coreWatchdog pc s) :=
  Keeps_ite (Keeps_serveAll
    (Keeps_of_guarded ((guarded_modCore _ _).trans ((guarded_resetCore 1 _).trans (guarded_raise _ s))) h)) h

theorem Keeps_portWrite (off width value : Nat) (h : Keeps u s) : Keeps u (s.portWrite off width value) :=
  have htaken : ∀ c : Prop, [Decidable c] → Keeps u (if c then mailboxTaken s else s) := fun _ =>
    Keeps_ite (Keeps_of_guarded (guarded_mailboxTaken s) h) h
  Keeps_ite (Keeps_ite h h) (Keeps_ite (Keeps_ite h h) (Keeps_ite (Keeps_reqGo _ h) (Keeps_ite (Keeps_ite h h) (Keeps_ite h
    (Keeps_ite (Keeps_custDone _ h) (Keeps_ite h (Keeps_ite h (Keeps_ite
      (Keeps_ite (Keeps_of_guarded (guarded_mailbox _) (htaken _)) (htaken _)) h))))))))

theorem Keeps_queueWrite (off width value : Nat) (h : Keeps u s) : Keeps u (s.queueWrite off width value) :=
  Keeps_ite (Keeps_ite h h) (Keeps_ite (Keeps_outSubmit _ h) h)

theorem Keeps_targetWrite (addr width value : Nat) (h : Keeps u s) : Keeps u (s.targetWrite addr width value) := by
  unfold State.targetWrite
  split
  · exact Keeps_of_guarded (guarded_modCore _ _) (Keeps_writeBytes _ _ h)
  · exact Keeps_writeBytes _ _ h
  · exact Keeps_writeBytes _ _ h
  · exact Keeps_portWrite _ _ _ h
  · exact Keeps_of_guarded (guarded_irqWrite _ _ _ s) h
  · exact Keeps_queueWrite _ _ _ h
  · exact h
  · exact Keeps_of_guarded (guarded_timerWrite _ _ _ s) h
  · exact h

theorem Keeps_coreMemoryWrite (addr width value : Nat) (dma last : Bool) (core : CoreAt) (h : Keeps u s) :
    Keeps u (coreMemoryWrite addr width value dma last core s) :=
  have hcounted : ∀ acts, Keeps u ((s.coreAt core).count acts) := fun acts =>
    Keeps_of_guarded ((guarded_count acts _).trans (guarded_coreAt core s)) h
  Keeps_ite h (Keeps_ite
    (Keeps_ite (Keeps_of_guarded ((guarded_modCore _ _).trans ((guarded_firewallHit _ _ _ _).trans (guarded_count _ s))) h)
      (Keeps_of_guarded (guarded_modCore _ _) (Keeps_targetWrite _ _ _ (Keeps_of_guarded (guarded_count _ s) h))))
    (Keeps_ite (Keeps_of_guarded (guarded_coreFault _ _ _ _ _) (hcounted _))
      (Keeps_ite (Keeps_of_guarded (guarded_coreFault _ _ _ _ _) (hcounted _)) (Keeps_targetWrite _ _ _ (hcounted _)))))

theorem Keeps_debugCommand (op addr width value : Nat) (h : Keeps u s) : Keeps u (debugCommand op addr width value s) := by
  have hhit : Keeps u (s.firewallHit addr 0 false) := Keeps_of_guarded (guarded_firewallHit _ _ _ s) h
  refine Keeps_ite h ?_
  split
  · exact h
  · exact h
  · exact Keeps_ite hhit (Keeps_of_guarded ((guarded_modCore _ _).trans (guarded_targetRead _ _ s)) h)
  · exact Keeps_ite hhit (Keeps_targetWrite _ _ _ h)
  · exact Keeps_ite h (Keeps_ite h (Keeps_ite h h))
  · exact Keeps_ite h (Keeps_ite h (Keeps_ite h h))
  · exact h

theorem Keeps_takeSpi (rs : List InRec) (h : Keeps u s) : Keeps u (s.takeSpi rs) := by
  refine Keeps_drainSpi _ (Keeps_foldl (fun t x ht => ?_) _ h)
  exact Keeps_of_guarded ((guarded_raise _ _).trans (guarded_count _ _)) (Keeps_ite (Keeps_of_guarded (guarded_linkError 1 t) ht) ht)

theorem Keeps_spiDiscard (h : Keeps u s) : Keeps u s.spiDiscard := Keeps_of_guarded (guarded_spiDiscard s) h

theorem Keeps_spiReceive (pre words : List Nat) (h : Keeps u s) : Keeps u (s.spiReceive pre words) := by
  refine Keeps_ite (Keeps_spiDiscard h) ?_
  split
  · exact Keeps_spiDiscard h
  · exact Keeps_takeSpi _ h

theorem Keeps_spiTransaction (pre words : List Nat) (clocked : Nat) (h : Keeps u s) : Keeps u (s.spiTransaction pre words clocked) := by
  refine Keeps_ite h (Keeps_ite (Keeps_spiDiscard h) ?_)
  split
  · exact Keeps_spiReceive _ _ h
  · exact Keeps_of_guarded (guarded_spiSend _ _ _) h
  · exact h

theorem Keeps_mbusTake (addr c ci : Nat) {act : State → State} (hact : ∀ t, Keeps u t → Keeps u (act t)) (h : Keeps u s) :
    Keeps u (s.mbusTake addr c ci act) :=
  Keeps_ite (hact _ (Keeps_of_guarded ((guarded_raise _ _).trans ((guarded_count _ _).trans (guarded_modMbus _ s))) h)) h

theorem Keeps_mbusSetPrimaryAddress (addr value : Nat) (fcb : Bool) (h : Keeps u s) :
    Keeps u (mbusSetPrimaryAddress addr value fcb s) :=
  Keeps_mbusTake _ _ _ (fun t ht => Keeps_ite (Keeps_of_guarded (guarded_linkError 3 t) ht)
    (Keeps_ite (Keeps_of_guarded (guarded_mbusAck addr _) (Keeps_write _ ht))
      (Keeps_of_guarded (guarded_linkError 3 _) (Keeps_write _ ht)))) h

theorem Keeps_mbusDictionaryRequest (addr : Nat) (fcb : Bool) (op id index sub : Nat) (data : List Nat) (h : Keeps u s) :
    Keeps u (mbusDictionaryRequest addr fcb op id index sub data s) :=
  Keeps_mbusTake _ _ _ (fun t ht => Keeps_ite (Keeps_of_guarded (guarded_linkError 3 t) ht)
    (Keeps_of_guarded (guarded_mbusAck addr _) (Keeps_take _ ht))) h

theorem Keeps_applyDownload (ws : List (Nat × Nat × List Nat)) {t : State} (hdone : s.applyDownload ws = some t) (h : Keeps u s) :
    Keeps u t := by
  induction ws generalizing s with
  | nil =>
    obtain rfl : s = t := Option.some.inj hdone
    exact h
  | cons w ws ih =>
    simp only [State.applyDownload] at hdone
    split_ifs at hdone
    exact ih hdone (Keeps_write _ h)

theorem Keeps_answerIol (code : Nat) (data : List Nat) (h : Keeps u s) : Keeps u (s.answerIol code data) :=
  Keeps_of_guarded (guarded_answerIol code data s) h

theorem Keeps_endDownload (store : Bool) (h : Keeps u s) : Keeps u (s.endDownload store) := by
  refine Keeps_ite h (Keeps_ite (Keeps_answerIol _ _ h) ?_)
  dsimp only
  split
  next t hdone => exact Keeps_answerIol 0 [] (Keeps_of_guarded (guarded_modIol _ t) (Keeps_applyDownload _ hdone h))
  · exact Keeps_answerIol _ _ h

theorem Keeps_systemCommand (code : Nat) (h : Keeps u s) : Keeps u (s.systemCommand code) := by
  unfold State.systemCommand
  split
  · exact Keeps_of_guarded (guarded_paramUploadStart s) h
  · exact Keeps_of_guarded (guarded_paramUploadEnd s) h
  · exact Keeps_of_guarded (guarded_paramDownloadStart s) h
  · exact Keeps_endDownload _ h
  · exact Keeps_endDownload _ h
  · exact Keeps_of_guarded (guarded_paramBreak s) h
  · exact Keeps_answerIol _ _ h

theorem Keeps_isduRequest (wr : Bool) (index sub : Nat) (data : List Nat) (h : Keeps u s) :
    Keeps u (s.isduRequest wr index sub data) :=
  Keeps_ite (Keeps_answerIol _ _ h) (Keeps_ite (Keeps_answerIol _ _ h) (Keeps_ite (Keeps_answerIol _ _ h)
    (Keeps_ite (Keeps_of_guarded (guarded_count _ _) (Keeps_submit _ h)) (Keeps_submit _ h))))

theorem Keeps_iolIsdu (wr : Bool) (index sub : Nat) (data : List Nat) (h : Keeps u s) : Keeps u (iolIsdu wr index sub data s) :=
  have hraised : ∀ f e, Keeps u ((s.swapPd.modIol f).raise e) := fun f e =>
    Keeps_of_guarded ((guarded_raise e _).trans ((guarded_modIol f _).trans (guarded_swapPd s))) h
  Keeps_ite h (Keeps_ite (Keeps_answerIol _ _ (hraised _ _)) (Keeps_ite (Keeps_isduRequest _ _ _ _ (hraised _ _))
    (Keeps_ite (Keeps_isduRequest _ _ _ _ (hraised _ _)) (Keeps_ite (Keeps_systemCommand _ (hraised _ _))
      (Keeps_ite (Keeps_answerIol _ _ (hraised _ _)) (Keeps_answerIol _ _ (hraised _ _)))))))

theorem Keeps_plDeliver (b : List Nat) (n : Nat) (r : List Nat) (h : Keeps u s) : Keeps u (s.plDeliver b n r) :=
  Keeps_of_guarded (guarded_plDeliver b n r s) h

theorem Keeps_plReplyNow (b : List Nat) (n told : Nat) (payload : List Nat) (h : Keeps u s) : Keeps u (s.plReplyNow b n told payload) :=
  Keeps_of_guarded (guarded_plReplyNow b n told payload s) h

theorem Keeps_plRequest (b : List Nat) (n op index sub : Nat) (data : List Nat) (h : Keeps u s) :
    Keeps u (s.plRequest b n op index sub data) := by
  unfold State.plRequest
  dsimp only
  split
  · exact Keeps_plDeliver _ _ _ (Keeps_submit _ h)
  · exact Keeps_submit _ h

theorem Keeps_servePoll (op : Nat) {new : List Nat → Nat → State → State} (hnew : ∀ b n t, Keeps u t → Keeps u (new b n t))
    (h : Keeps u s) : Keeps u (s.servePoll op new) := by
  unfold State.servePoll
  split
  · exact h
  · next b n _ =>
    have hconfirmed : ∀ c : Prop, [Decidable c] → Keeps u (if c then s else s.confirm n) := fun _ =>
      Keeps_ite h (Keeps_of_guarded (guarded_confirm n s) h)
    refine Keeps_ite h ?_
    dsimp only
    split
    · exact Keeps_plDeliver _ _ _ (hconfirmed _)
    · exact Keeps_ite (hconfirmed _) (Keeps_ite (Keeps_plReplyNow _ _ _ _ h) (hnew _ _ _ (hconfirmed _)))
    · exact Keeps_ite (Keeps_plReplyNow _ _ _ _ h)
        (Keeps_ite (Keeps_plReplyNow _ _ _ _ (hconfirmed _)) (hnew _ _ _ (hconfirmed _)))

theorem Keeps_plPollRead (h : Keeps u s) : Keeps u (plPollRead s) := Keeps_servePoll _ (fun _ _ _ => Keeps_plRequest _ _ _ _ _ _) h

theorem Keeps_plSegment (b : List Nat) (n op index sub total : Nat) (sofar : List Nat) (h : Keeps u s) :
    Keeps u (s.plSegment b n op index sub total sofar) :=
  Keeps_ite (Keeps_plReplyNow _ _ _ _ h) (Keeps_ite (Keeps_plReplyNow _ _ _ _ h) (Keeps_plRequest _ _ _ _ _ _ h))

theorem Keeps_plPollWrite (h : Keeps u s) : Keeps u (plPollWrite s) :=
  Keeps_servePoll _ (fun _ _ _ ht => Keeps_ite (Keeps_plReplyNow _ _ _ _ ht) (Keeps_plSegment _ _ _ _ _ _ _ ht)) h

theorem Keeps_plPollWriteMore (h : Keeps u s) : Keeps u (plPollWriteMore s) := by
  refine Keeps_servePoll _ (fun b n t ht => ?_) h
  split
  · exact Keeps_plReplyNow _ _ _ _ ht
  · exact Keeps_ite (Keeps_plSegment _ _ _ _ _ _ _ ht) (Keeps_plReplyNow _ _ _ _ ht)

/-! ### The display -/

theorem Keeps_waveformStart (r cyc : Nat) (h : Keeps u s) : Keeps u (waveformStart r cyc s) := by
  unfold waveformStart
  split
  · exact h
  · exact Keeps_ite (Keeps_saveDisplay (Keeps_of_guarded ((guarded_modDisp _ _).trans (guarded_startUpdate _ _ _)) h)) h

theorem Keeps_displayDone (r : Nat) (h : Keeps u s) : Keeps u (displayDone r s) := by
  unfold displayDone
  split
  · exact h
  · refine Keeps_ite ?_ h
    refine Keeps_of_guarded ((guarded_powerDisplay _).trans (guarded_nextUpdate _ _)) (Keeps_saveDisplay ?_)
    exact Keeps_of_guarded ((guarded_raiseIf _ _ _).trans ((guarded_raise _ _).trans (guarded_modDisp _ _))) h

/-! ### Resets, starts and the commit of a frame -/

theorem Keeps_afterReset (h : Keeps u s) : Keeps u s.afterReset := Keeps_filter _ h

theorem Keeps_resetWith (reason logged : Nat) (h : Keeps u s) : Keeps u (s.resetWith reason logged) :=
  Keeps_afterReset (s := { s with log := _, pwr := _ }) h

theorem Keeps_toHold (h : Keeps u s) : Keeps u s.toHold := Keeps_afterReset (s := { s with log := _ }) h

/-- The partial frame of a final commit is closed and read back. -/
theorem Keeps_finalCommit (commit final : List (Nat × Nat)) (h : Keeps u s) :
    Keeps u (((s.finishCommit commit).partialCommit).readFinal final) :=
  Keeps_of_guarded ((guarded_readFinal final _).trans ((guarded_partialCommit _).trans (guarded_finishCommit commit s))) h

theorem Keeps_regulatorTimeout (d cyc : Nat) (commit final : List (Nat × Nat)) (h : Keeps u s) :
    Keeps u (regulatorTimeout d cyc commit final s) := by
  have hat : Keeps u (s.atCyc cyc) := Keeps_of_guarded (guarded_atCyc s cyc) h
  have hraised : ∀ e, Keeps u ((s.atCyc cyc).raise e) := fun e => Keeps_of_guarded (guarded_raise e _) hat
  refine Keeps_ite hat (Keeps_ite (hraised (wakeFail (2 ^ d) 0xFFFFFFFF)) (Keeps_ite (Keeps_resetWith 5 4 ?_) (Keeps_resetWith 5 0 ?_)))
  · exact Keeps_finalCommit commit final (hraised (wakeFail (2 ^ d + 256) 0xFFFFFFFF))
  · exact hraised (wakeFail (2 ^ d + 256) 0xFFFFFFFF)

theorem Keeps_brownout (cyc supply vcap : Nat) (commit : List (Nat × Nat)) (h : Keeps u s) :
    Keeps u (brownout cyc supply vcap commit s) := by
  have hraised : Keeps u (s.raise (brownoutEvent false supply vcap)) := Keeps_of_guarded (guarded_raise _ s) h
  refine Keeps_ite h (Keeps_ite ?_ (Keeps_ite h (Keeps_toHold (Keeps_of_guarded (guarded_logNow 36 _) hraised))))
  exact Keeps_of_guarded ((guarded_partialCommit _).trans ((guarded_finishCommit commit _).trans ((guarded_logNow 36 _).trans
    ((guarded_emergency _).trans ((guarded_raise _ _).trans (guarded_elapse _)))))) h

theorem Keeps_finalCommitComplete (diff : List (Nat × Nat)) (h : Keeps u s) : Keeps u (finalCommitComplete diff s) :=
  Keeps_ite h (Keeps_toHold (Keeps_of_guarded (guarded_readFinal diff s) h))

theorem Keeps_aoPowerUp (h : Keeps u s) : Keeps u (aoPowerUp s) := Keeps_ite (Keeps_afterReset h) h

theorem Keeps_nrstAssert (cyc : Nat) (commit final : List (Nat × Nat)) (h : Keeps u s) : Keeps u (nrstAssert cyc commit final s) := by
  refine Keeps_ite h (Keeps_ite (Keeps_resetWith 3 4 ?_) (Keeps_ite (Keeps_resetWith 3 0 (s := { s with pwr := _ }) h) h))
  exact Keeps_of_guarded ((guarded_readFinal final _).trans ((guarded_partialCommit _).trans
    ((guarded_finishCommit commit _).trans (guarded_elapse _)))) h

theorem Keeps_snuffWake (duringEntry : Bool) (h : Keeps u s) : Keeps u (snuffWake duringEntry s) := by
  unfold snuffWake
  split
  · exact Keeps_afterReset (s := { s with pwr := _ }) h
  · exact h

theorem Keeps_watchdogReset (h : Keeps u s) : Keeps u s.watchdogReset := Keeps_resetWith 8 0 (s := { s with pwr := _ }) h

theorem Keeps_accumulationStartTimeout (h : Keeps u s) : Keeps u (accumulationStartTimeout s) := Keeps_ite (Keeps_watchdogReset h) h

theorem Keeps_microcodeAckTimeout (h : Keeps u s) : Keeps u (microcodeAckTimeout s) :=
  Keeps_ite (Keeps_watchdogReset (s := { s with qty := _ }) h) h

theorem Keeps_bkLoss (time : Option Nat) (h : Keeps u s) : Keeps u (s.bkLoss time) :=
  Keeps_of_guarded (guarded_raiseAll _ _) (Keeps_filter _ (s := { s with cal := _, set := _ }) h)

theorem Keeps_startSequence (testm otpFails : Bool) (damage : List (Nat × Nat × Nat)) (h : Keeps u s) :
    Keeps u (startSequence testm otpFails damage s) := by
  have hbegun : ∀ p, Keeps u (State.beginStart { s with pwr := p }) := fun p => Keeps_of_guarded (guarded_beginStart _) h
  refine Keeps_ite h (Keeps_ite h (Keeps_ite (Keeps_resetWith 7 0 (hbegun _)) ?_))
  have hrestored : ∀ p q, Keeps u (State.restoreStart damage { State.beginStart { s with pwr := p } with pwr := q }).1 := fun p q =>
    Keeps_of_guarded (guarded_restoreStart damage _) (hbegun p)
  exact Keeps_of_guarded ((guarded_bringUp _).trans ((guarded_startsIn _).trans ((guarded_catchUp _ _).trans (guarded_completeGroups _))))
    (Keeps_ite (Keeps_bkLoss _ (hrestored _ _)) (hrestored _ _))

theorem Keeps_startRegulatorTimeout (h : Keeps u s) : Keeps u (startRegulatorTimeout s) :=
  Keeps_ite (Keeps_resetWith 6 0 h) (Keeps_ite (Keeps_resetWith 6 0 (Keeps_of_guarded (guarded_beginStart s) h)) h)

theorem Keeps_exitTaper (h : Keeps u s) : Keeps u s.exitTaper := Keeps_resetWith 10 _ (s := { s with pwr := _ }) h

theorem Keeps_commitComplete (diff : List (Nat × Nat)) (h : Keeps u s) : Keeps u (commitComplete diff s) := by
  refine Keeps_ite h ?_
  extract_lets judged recorded
  have hjudged : Keeps u judged := Keeps_of_guarded
    ((guarded_commitJudged diff _).trans ((guarded_swapPd _).trans ((guarded_elapse _).trans (guarded_atCyc s 3840)))) h
  have hrecorded : Keeps u recorded := Keeps_ite (Keeps_of_guarded (guarded_emit _ _) hjudged) hjudged
  clear_value recorded
  exact Keeps_ite (Keeps_exitTaper hrecorded) (Keeps_ite (Keeps_resetWith 4 _ (s := { recorded with pwr := _ }) hrecorded)
    (Keeps_ite (Keeps_of_guarded (guarded_enterSnuff _) hrecorded) (Keeps_of_guarded (guarded_coreWake _) (Keeps_serveAll
      (Keeps_ite (Keeps_of_guarded (guarded_reserveCore _) hrecorded) hrecorded)))))

theorem Keeps_frameBoundaryAll (gate : List (Nat × Nat)) (lfxTicks : Nat) (acf0 acf1 : Bool) (figures : List Act) (slots : List SlotUse)
    (edge : List Act) (h : Keeps u s) : Keeps u (frameBoundaryAll gate lfxTicks acf0 acf1 figures slots edge s) :=
  Keeps_of_guarded (guarded_frameBoundary _ _ _ _ _ _ _ _) (Keeps_commitComplete [] h)

/-! ### An RTC tick -/

theorem Keeps_tickLinks (h : Keeps u s) : Keeps u s.tickLinks :=
  Keeps_custTimeout (Keeps_of_guarded (guarded_iolSessionTimeout _) (Keeps_foldl
    (fun t n ht => Keeps_of_guarded (guarded_plSessionIdle n t) ht) _
    (Keeps_of_guarded ((guarded_mbusBaudRevert _).trans (guarded_mbusSessionIdle s)) h)))

theorem Keeps_tickAo (h : Keeps u s) : Keeps u s.tickAo := by
  unfold State.tickAo
  extract_lets run timed
  have hrun : Keeps u run := Keeps_of_guarded (guarded_runTicks 1 s) h
  have htimed : Keeps u timed := Keeps_ite (Keeps_of_guarded (guarded_mtimecmpMatch _) hrun) hrun
  clear_value timed
  exact Keeps_of_guarded (guarded_calendarDue _) (Keeps_ite (Keeps_tickLinks htimed) htimed)

theorem Keeps_rtcTick (h : Keeps u s) : Keeps u s.rtcTick :=
  Keeps_ite h (Keeps_ite (Keeps_of_guarded ((guarded_tickLockouts _).trans (guarded_calendarTick s)) h) (Keeps_tickAo h))

end Keeps

end Sys2Proof.Proofs
end

section
/-! PROOF. Every command completes and keeps what the invariant speaks of, and so does every step. -/

namespace Sys2Proof.Proofs

open Sys2Proof Sys2Proof.Machine

theorem Does_of_guarded {c : Instr} {s t : State} (hexec : exec c s = .next t) (h : guarded t = guarded s) : Does c s (Keeps s) :=
  ⟨t, hexec, Keeps_of_guarded h (Keeps_refl s)⟩

/-- Every command completes at every state, and keeps the guarded part: by its operation. -/
theorem exec_keeps (c : Instr) (s : State) : Does c s (Keeps s) := by
  cases c with
  | frameBoundary => exact ⟨_, rfl, Keeps_frameBoundaryAll _ _ _ _ _ _ _ (Keeps_refl s)⟩
  | synoPulseEnd => exact Does_of_guarded rfl (guarded_synoPulseEnd s)
  | commitComplete => exact ⟨_, rfl, Keeps_commitComplete _ (Keeps_refl s)⟩
  | billingSnapshotWrite => exact Does_of_guarded rfl (guarded_billingSnapshotWrite s)
  | shotGroupStart => exact Does_of_guarded rfl (guarded_shotGroupStart _ _ _ _ _ s)
  | vhdRecovered => exact Does_of_guarded rfl (guarded_vhdRecovered _ _ s)
  | heldShotGivenUp => exact Does_of_guarded rfl (guarded_heldShotGivenUp _ _ s)
  | reverseTransmission => exact Does_of_guarded rfl (guarded_reverseTransmission _ _ _ s)
  | windowClose => exact Does_of_guarded rfl (guarded_windowCloseAll _ _ _ _ s)
  | tdcCountWrap | tdcStopTimeout => exact Does_of_guarded rfl (guarded_tdcEnd _ _ _ _ _ _ s)
  | retrySlotStart => exact Does_of_guarded rfl (guarded_retrySlotStart _ _ _ _ s)
  | correlationComplete => exact Does_of_guarded rfl (guarded_correlationComplete _ _ _ s)
  | acquisitionSearchComplete => exact Does_of_guarded rfl (guarded_acquisitionSearchComplete _ _ s)
  | waveformCopyComplete => exact Does_of_guarded rfl (guarded_waveformCopyComplete _ _ _ s)
  | flowComputationComplete => exact Does_of_guarded rfl (guarded_flowComputationComplete _ s)
  | sensorJobStart => exact Does_of_guarded rfl (guarded_sensorJobStart _ _ s)
  | dischargeStop => exact Does_of_guarded rfl (guarded_dischargeStop _ _ s)
  | dischargeStopLimit => exact Does_of_guarded rfl (guarded_dischargeMissing _ _ s)
  | pressureConversionStart => exact Does_of_guarded rfl (guarded_pressureConversionStart _ s)
  | pressureConversionComplete => exact Does_of_guarded rfl (guarded_pressureConversionComplete _ _ _ s)
  | internalTempConversion => exact Does_of_guarded rfl (guarded_internalTemp _ _ s)
  | pllLockLost => exact Does_of_guarded rfl (guarded_pllLockLost _ _ _ s)
  | tmInputCalibration => exact Does_of_guarded rfl (guarded_tmInputCalibration _ _ s)
  | wickEntryComplete => exact Does_of_guarded rfl (guarded_wickEntryComplete _ _ s)
  | wickExit => exact Does_of_guarded rfl (guarded_wickExit _ s)
  | domainReady => exact Does_of_guarded rfl (guarded_domainReady _ _ _ s)
  | regulatorTimeout => exact ⟨_, rfl, Keeps_regulatorTimeout _ _ _ _ (Keeps_refl s)⟩
  | hfCrystalReady => exact Does_of_guarded rfl (guarded_hfCrystalReady _ _ s)
  | crystalReadyTimeout => exact Does_of_guarded rfl (guarded_crystalReadyTimeout _ s)
  | crystalRetry => exact Does_of_guarded rfl (guarded_crystalRetry s)
  | ocxoGateEnd => exact Does_of_guarded rfl (guarded_ocxoGateEnd _ _ _ s)
  | ocxoEdgeLost => exact Does_of_guarded rfl (guarded_ocxoEdgeLost _ s)
  | lfCrystalStopped => exact Does_of_guarded rfl (guarded_lfCrystalStopped s)
  | syncReferenceEvent => exact Does_of_guarded rfl (guarded_syncReferenceEvent _ s)
  | calendarSecond => exact Does_of_guarded rfl (guarded_calendarSecond s)
  | trimWindowStart => exact Does_of_guarded rfl (guarded_trimWindowStart s)
  | tamperSample => exact Does_of_guarded rfl (guarded_tamperSample _ s)
  | keyPress => exact Does_of_guarded rfl (guarded_keyPress s)
  | keyRelease => exact Does_of_guarded rfl (guarded_keyRelease _ s)
  | actKeyHoldExpiry => exact Does_of_guarded rfl (guarded_actKeyHoldExpiry s)
  | backupSwitchover => exact Does_of_guarded rfl (guarded_backupSwitchover _ _ _ s)
  | vmainRise => exact Does_of_guarded rfl (guarded_vmainRise _ _ s)
  | bkRetentionTrip => exact Does_of_guarded rfl (guarded_bkRetentionTrip s)
  | brownout => exact ⟨_, rfl, Keeps_brownout _ _ _ _ (Keeps_refl s)⟩
  | finalCommitComplete => exact ⟨_, rfl, Keeps_finalCommitComplete _ (Keeps_refl s)⟩
  | brownoutHoldRecovery => exact Does_of_guarded rfl (guarded_brownoutHoldRecovery s)
  | vcapHoldLost => exact Does_of_guarded rfl (guarded_vcapHoldLost s)
  | nrstAssert => exact ⟨_, rfl, Keeps_nrstAssert _ _ _ (Keeps_refl s)⟩
  | nrstRelease => exact Does_of_guarded rfl (guarded_nrstRelease s)
  | testmRelease => exact Does_of_guarded rfl (guarded_testmRelease s)
  | backoffExpiry => exact Does_of_guarded rfl (guarded_backoffExpiry s)
  | startSequence => exact ⟨_, rfl, Keeps_startSequence _ _ _ (Keeps_refl s)⟩
  | startRegulatorTimeout => exact ⟨_, rfl, Keeps_startRegulatorTimeout (Keeps_refl s)⟩
  | openingBoundary => exact Does_of_guarded rfl (guarded_openingBoundary s)
  | accumulationStartTimeout => exact ⟨_, rfl, Keeps_accumulationStartTimeout (Keeps_refl s)⟩
  | microcodeAckTimeout => exact ⟨_, rfl, Keeps_microcodeAckTimeout (Keeps_refl s)⟩
  | snuffWake => exact ⟨_, rfl, Keeps_snuffWake _ (Keeps_refl s)⟩
  | iolWake => exact Does_of_guarded rfl (guarded_iolWake s)
  | spiScsWake => exact Does_of_guarded rfl (guarded_spiScsWake s)
  | mbusStartBitWake => exact Does_of_guarded rfl (guarded_mbusStartBitWake s)
  | eventDelivery => exact Does_of_guarded rfl (guarded_eventDelivery _ s)
  | eventLogWrite => exact Does_of_guarded rfl (guarded_eventLogWrite s)
  | odRead | odWrite | odWriteAuth | authEnvelope | helloExchange => exact ⟨_, rfl, Keeps_bring _ _ _ _ _ _ _ (Keeps_refl s)⟩
  | authLockoutExpiry => exact Does_of_guarded rfl (guarded_authLockoutExpiry _ s)
  | hello => exact ⟨_, rfl, Keeps_helloRecord _ _ (Keeps_refl s)⟩
  | modeConfig | modeMeasure | modeVerify | sealSet | sealClear | factoryLock | qtyClear | taperExit | powerCommandReset
  | powerCommandSnuff | residencyClear | calSet | dstCommand | tamperClear | passiveActivateAt | billingCloseNow | creditTopup
  | actDisconnect | actArm | actConnect | actClearFault | zeroCaptureStart | zeroCaptureStop | templateCaptureStart
  | templateCaptureStop | ctxStageSet | ctxStageApply | perfSelWrite | perfOvfClear | fwCommandVerify | fwCommandLoader
  | fwBlock | fwMinVersion | keyChange | bootKeyHash | mailboxIn | plMasterRequest | dispUpdate =>
    exact ⟨_, rfl, Keeps_ask _ _ _ _ (Keeps_refl s)⟩
  | actuatorEndReached => exact Does_of_guarded rfl (guarded_actuatorEndReached _ s)
  | actuatorDone => exact Does_of_guarded rfl (guarded_actuatorDone _ s)
  | actuatorFault => exact Does_of_guarded rfl (guarded_actuatorFault _ _ _ s)
  | actuatorReverseEnd => exact Does_of_guarded rfl (guarded_actuatorReverseEnd _ s)
  | actuatorPauseEnd => exact Does_of_guarded rfl (guarded_actuatorPauseEnd _ s)
  | perfOverflow => exact Does_of_guarded rfl (guarded_perfOverflow _ _ s)
  | bootVerifyComplete => exact Does_of_guarded rfl (guarded_bootVerifyComplete s)
  | wfi => exact Does_of_guarded rfl (guarded_wfiStop _ s)
  | mtimecmpMatch => exact Does_of_guarded rfl (guarded_mtimecmpMatch s)
  | msipWrite => exact Does_of_guarded rfl (guarded_msipWrite _ s)
  | claim => exact Does_of_guarded rfl (guarded_claim s)
  | localAck => exact Does_of_guarded rfl (guarded_localAck _ s)
  | wdtKick => exact Does_of_guarded rfl (guarded_wdtKick _ s)
  | coreWatchdog => exact ⟨_, rfl, Keeps_coreWatchdog _ (Keeps_refl s)⟩
  | reservationSpent => exact Does_of_guarded rfl (guarded_reservationSpent s)
  | reqGo => exact ⟨_, rfl, Keeps_reqGo _ (Keeps_refl s)⟩
  | customerRequestHeld => exact Does_of_guarded rfl (guarded_customerRequestHeld s)
  | custDone => exact ⟨_, rfl, Keeps_custDone _ (Keeps_refl s)⟩
  | custTimeout => exact ⟨_, rfl, Keeps_custTimeout (Keeps_refl s)⟩
  | mailboxTaken => exact Does_of_guarded rfl (guarded_mailboxTaken s)
  | mailbox => exact Does_of_guarded rfl (guarded_mailbox s)
  | inDataPop => exact Does_of_guarded rfl (guarded_inDataPop s)
  | outSubmit => exact ⟨_, rfl, Keeps_outSubmit _ (Keeps_refl s)⟩
  | firewallAccessFault => exact Does_of_guarded rfl (guarded_firewallAccessFault _ _ _ _ s)
  | countLoRead => exact Does_of_guarded rfl (guarded_countLoRead _ _ _ s)
  | spiStatus | spiWrite | spiRead => exact ⟨_, rfl, Keeps_spiTransaction _ _ _ (Keeps_refl s)⟩
  | iolMSequence => exact Does_of_guarded rfl (guarded_iolMSequence _ _ _ _ _ _ s)
  | iolIsdu => exact ⟨_, rfl, Keeps_iolIsdu _ _ _ _ (Keeps_refl s)⟩
  | paramUploadStart => exact Does_of_guarded rfl (guarded_paramUploadStart s)
  | paramUploadEnd => exact Does_of_guarded rfl (guarded_paramUploadEnd s)
  | paramDownloadStart => exact Does_of_guarded rfl (guarded_paramDownloadStart s)
  | paramDownloadEnd | paramDownloadStore => exact ⟨_, rfl, Keeps_endDownload _ (Keeps_refl s)⟩
  | paramBreak => exact Does_of_guarded rfl (guarded_paramBreak s)
  | iolFallback => exact Does_of_guarded rfl (guarded_iolFallback s)
  | iolSessionTimeout => exact Does_of_guarded rfl (guarded_iolSessionTimeout s)
  | sndNke => exact Does_of_guarded rfl (guarded_sndNke _ s)
  | reqUd2 => exact Does_of_guarded rfl (guarded_reqUd2 _ _ s)
  | reqUd1 => exact Does_of_guarded rfl (guarded_reqUd1 _ _ s)
  | mbusSetPrimaryAddress => exact ⟨_, rfl, Keeps_mbusSetPrimaryAddress _ _ _ (Keeps_refl s)⟩
  | mbusDictionaryRequest => exact ⟨_, rfl, Keeps_mbusDictionaryRequest _ _ _ _ _ _ _ (Keeps_refl s)⟩
  | mbusSelection => exact Does_of_guarded rfl (guarded_mbusSelection _ _ _ _ _ s)
  | mbusApplicationReset => exact Does_of_guarded rfl (guarded_mbusApplicationReset _ _ s)
  | mbusBaudChange => exact Does_of_guarded rfl (guarded_mbusBaudChange _ _ _ s)
  | mbusFrameIgnored => exact Does_of_guarded rfl (guarded_mbusFrameIgnored _ _ _ _ s)
  | mbusSessionIdle => exact Does_of_guarded rfl (guarded_mbusSessionIdle s)
  | mbusBaudRevert => exact Does_of_guarded rfl (guarded_mbusBaudRevert s)
  | plZeroCrossing => exact Does_of_guarded rfl (guarded_plZeroCrossing _ _ _ _ s)
  | plCrossingMissed => exact Does_of_guarded rfl (guarded_plCrossingMissed s)
  | plFrame => exact Does_of_guarded rfl (guarded_plFrame _ s)
  | plPollStatus => exact Does_of_guarded rfl (guarded_plPollStatus s)
  | plPollRead => exact ⟨_, rfl, Keeps_plPollRead (Keeps_refl s)⟩
  | plPollReadNext => exact Does_of_guarded rfl (guarded_plPollReadNext s)
  | plPollWrite => exact ⟨_, rfl, Keeps_plPollWrite (Keeps_refl s)⟩
  | plPollWriteMore => exact ⟨_, rfl, Keeps_plPollWriteMore (Keeps_refl s)⟩
  | plReplyDeadline => exact Does_of_guarded rfl (guarded_plReplyDeadline s)
  | plReplyReceived => exact Does_of_guarded rfl (guarded_plReplyReceived s)
  | plPollTimeout => exact Does_of_guarded rfl (guarded_plPollTimeout s)
  | plCycleStart => exact Does_of_guarded rfl (guarded_plCycleStart s)
  | plWakePattern => exact Does_of_guarded rfl (guarded_plWakePattern s)
  | plSessionIdle => exact Does_of_guarded rfl (guarded_plSessionIdle _ s)
  | plTransmissionEnd => exact Does_of_guarded rfl (guarded_plTransmissionEnd s)
  | displayUpdateAdmitted => exact Does_of_guarded rfl (guarded_displayUpdateAdmitted _ _ s)
  | pumpBurst => exact Does_of_guarded rfl (guarded_pumpBurst _ _ s)
  | waveformStart => exact ⟨_, rfl, Keeps_waveformStart _ _ (Keeps_refl s)⟩
  | drivenPhase => exact Does_of_guarded rfl (guarded_drivenPhase _ _ s)
  | displayDone => exact ⟨_, rfl, Keeps_displayDone _ (Keeps_refl s)⟩
  | lcdFrameStart => exact Does_of_guarded rfl (guarded_lcdFrameStart _ s)
  | pulseStart => exact Does_of_guarded rfl (guarded_pulseStart _ _ s)
  | pulseEnd => exact Does_of_guarded rfl (guarded_pulseEnd _ _ s)
  | ftoPulse => exact Does_of_guarded rfl (guarded_ftoPulse _ s)
  | aoPowerUp => exact ⟨_, rfl, Keeps_aoPowerUp (Keeps_refl s)⟩
  | plTransmitPulse => exact Does_of_guarded rfl (guarded_plTransmitPulse _ s)
  | ftoPulseEnd => exact Does_of_guarded rfl (guarded_ftoPulseEnd _ s)
  | vsdPumpSettled => exact Does_of_guarded rfl (guarded_vsdPumpSettled _ s)
  | debugCommand => exact ⟨_, rfl, Keeps_debugCommand _ _ _ _ (Keeps_refl s)⟩
  | coreMemoryWrite => exact ⟨_, rfl, Keeps_coreMemoryWrite _ _ _ _ _ _ (Keeps_refl s)⟩

theorem Inv_iff_guarded (s : State) : s.Inv ↔ Memory.wf s.mem = true ∧ (guarded s).Sound := Iff.rfl

/-- A step takes the command at the front of the queue, or lets a tick pass, and keeps the guarded part of the state that is left. -/
theorem step_keeps (s : State) : ∃ t, step s = .next t ∧ Keeps { s with pending := s.pending.tail } t := by
  unfold step
  split
  next hnone =>
    have hsame : guarded s = guarded { s with pending := s.pending.tail } := by
      simp only [guarded, hnone, List.tail_nil]
    exact ⟨_, rfl, Keeps_rtcTick (Keeps_of_guarded hsame (Keeps_refl _))⟩
  next c cs hsome =>
    rw [hsome]
    exact exec_keeps c { s with pending := cs }

/-- Settles O60: every command and every tick keeps the guarded part (`exec_keeps`, `Keeps_rtcTick`), of which the invariant speaks. -/
theorem everyStepKeepsTheInvariant : Obligations.EveryStepKeepsTheInvariant := by
  unfold Obligations.EveryStepKeepsTheInvariant
  refine ⟨fun c s => ?_, fun s hinv => ?_⟩
  · obtain ⟨t, hexec, hkeeps⟩ := exec_keeps c s
    exact ⟨t, hexec, hkeeps.pending⟩
  · obtain ⟨t, hstep, hkeeps⟩ := step_keeps s
    obtain ⟨hmem, hsound⟩ := (Inv_iff_guarded s).1 hinv
    exact ⟨t, hstep, (Inv_iff_guarded t).2 ⟨hkeeps.memory hmem, hkeeps.sound hsound⟩, hkeeps.pending, hkeeps.sealedOnce,
      hkeeps.factoryEnded, hkeeps.factoryLock, hkeeps.bootHash⟩

end Sys2Proof.Proofs
end
section
/-! PROOF. One RTC tick of a device that waits for its start (R424, R448, R563), and the state at reset. -/

namespace Sys2Proof.Proofs

open Sys2Proof Sys2Proof.Machine Sys2Proof.Laws

/-! ### The calendar within a second and a trim window (R333, R342) -/

/-- At most one more correction falls on one more period of a window. -/
theorem trimCount_succ (k w : Nat) (hk : k ≤ 8388608) : trimCount k (w + 1) ≤ trimCount k w + 1 := by
  have hnext : (w + 1) * k + trimPeriods - 1 ≤ w * k + trimPeriods - 1 + trimPeriods := by
    rw [Nat.add_mul, Nat.one_mul]
    simp only [trimPeriods]
    omega
  have hdiv : ((w + 1) * k + trimPeriods - 1) / trimPeriods ≤ (w * k + trimPeriods - 1) / trimPeriods + 1 :=
    (Nat.div_le_div_right hnext).trans_eq (Nat.add_div_right _ (by decide))
  simp only [trimCount]
  omega

/-- One period makes at most two steps of the prescaler. -/
theorem stepsIn_one (c : Cal) (h : c.trim.natAbs ≤ 8388608) : c.stepsIn 1 ≤ 2 := by
  have hcount := trimCount_succ c.trim.natAbs c.window h
  simp only [Cal.stepsIn]
  split <;> omega

/-- Within a second and a window the calendar brings nothing by itself. -/
theorem calendarDue_of_within {s : State} {c : Cal} (hcal : s.cal = c) (hwindow : c.window < 8388608) (howed : c.owed = 0) :
    s.calendarDue = s := by
  have hopen : ¬trimPeriods ≤ c.window := Nat.not_le.2 hwindow
  simp only [State.calendarDue, hcal, if_neg hopen, howed, Nat.lt_irrefl, if_false]

/-! ### The tick -/

/-- One tick of a device in reset: AO's counters, the calendar's and the lockouts move. -/
theorem runTicks_of_starting {s : State} (hstate : s.pwr.state = .starting) (hticks : s.frame.tick ≤ s.frame.done) :
    ∃ cyc cs os ev bk, s.runTicks 1 = { s with
      frame := { s.frame.at_ cyc with done := s.frame.done + 1 }
      cal := s.cal.pass 1, acc := { s.acc with lockout := s.acc.lockout.map fun x => x - 1 }
      perf := { s.perf with counts := cs, ovf := os }, events := ev, bkLatches := bk
      pwr := { s.pwr with mtime := (s.pwr.mtime + 1) % 2 ^ 64, backoff := s.pwr.backoff - 1 } } := by
  have hawake : ∀ p : Power, p.state = s.pwr.state → ∀ ev, p.wake ev = p := fun p hp =>
    wake_awake p (by simp [hp, hstate]) (by simp [hp, hstate]) (by simp [hp, hstate])
  obtain ⟨cs, os, ev, bk, hpass⟩ := passTicks_awake 1 { s with
    frame := { s.frame.at_ (((s.frame.done + 1) * 15625 + 7) / 8) with done := s.frame.done + 1 }
    cal := s.cal.pass 1, acc := { s.acc with lockout := s.acc.lockout.map fun x => x - 1 } } hawake
  refine ⟨((s.frame.done + 1) * 15625 + 7) / 8, cs, os, ev, bk, ?_⟩
  rw [State.runTicks, elapse_of_counted hticks]
  refine hpass.trans ?_
  simp only [hstate, reduceCtorEq, if_false]
  rfl

/-- The timer's match changes the core alone. -/
theorem mtimecmpMatch_only (s : State) : ∃ c, mtimecmpMatch s = { s with core := c } := by
  unfold mtimecmpMatch
  split
  · obtain ⟨w, h⟩ := coreWake_only (s.modCore fun c => { c with mtip := true })
    exact ⟨_, h⟩
  · exact ⟨s.core, rfl⟩

/-- A tick of a device in which no frame runs: beside AO's counters the core alone, and what the calendar brings. -/
theorem rtcTick_of_stopped {s t : State} (hrunning : s.frame.running = false) (hlit : s.pwr.state ≠ .dark) (hrun : s.runTicks 1 = t)
    (hstopped : t.frame.running = false) : ∃ c, s.rtcTick = State.calendarDue { t with core := c } := by
  obtain ⟨c, hcore⟩ : ∃ c, (if t.core.mtimecmp ≤ t.pwr.mtime then mtimecmpMatch t else t) = { t with core := c } := by
    split
    · exact mtimecmpMatch_only t
    · exact ⟨t.core, rfl⟩
  refine ⟨c, ?_⟩
  simp only [State.rtcTick, hrunning, hlit, Bool.false_and, Bool.false_eq_true, if_false, State.tickAo, hrun, hcore, hstopped]

/-- Settles O2: no frame runs, so that the tick is AO's own (`runTicks_of_starting`), and the calendar brings nothing by itself. -/
theorem idleStepIsOneTick : Obligations.IdleStepIsOneTick := by
  unfold Obligations.IdleStepIsOneTick
  intro s hpending hrunning hstate hticks hsecond hwindow htrim
  obtain ⟨f, cs, os, ev, bk, hrun⟩ := runTicks_of_starting hstate hticks
  have hsteps := stepsIn_one s.cal htrim
  have howed : (s.cal.pass 1).owed = 0 := Nat.sub_eq_zero_of_le (by omega)
  obtain ⟨c, htick⟩ := rtcTick_of_stopped hrunning (by simp [hstate]) hrun hrunning
  have hopen : (s.cal.pass 1).window < 8388608 := hwindow
  replace htick := htick.trans (calendarDue_of_within rfl hopen howed)
  refine ⟨_, by rw [step, hpending], ?_⟩
  rw [htick]
  exact ⟨rfl, rfl, rfl, rfl, rfl, hpending, rfl, rfl, rfl, rfl, rfl, rfl⟩

/-- Settles O59: every store of the state at reset is empty, and every other part is its value at reset. -/
theorem theDeviceStartsFromReset : Obligations.TheDeviceStartsFromReset := by
  unfold Obligations.TheDeviceStartsFromReset
  refine ⟨⟨rfl, nofun, nofun, nofun⟩, rfl, rfl, rfl, fun k => ⟨rfl, rfl⟩, ?_, ?_, rfl, rfl, rfl, rfl, rfl, rfl, rfl, rfl, fun a => rfl, rfl⟩
  · decide +kernel
  · decide +kernel

end Sys2Proof.Proofs
end
section
/-! PROOF. How a request is served (R457): what an accepted write does, and what any request that comes by a way leaves. -/

namespace Sys2Proof.Proofs

open Sys2Proof Sys2Proof.Machine Sys2Proof.Laws

/-! ### The checks a write passes -/

/-- A write passes steps 6 to 10 of R457 in a state. -/
structure PassesChecks (s : State) (row : Row) (a : Ask) : Prop where
  listed : rowOf (key a.index a.sub) = some row
  access : accessBad row a = false
  unsealed : s.sealBad row a = false
  fits : row.ty.fits a.data = true
  inRange : s.valueAbort row a = abortOk
  inMode : s.modeBad row = false
  inState : s.stateBad a.index a.sub a.value = false

/-- A write that passes the checks has its effect; where step 11 lets it pass, it is counted under the seal, and sets the upload
flag of a listed entry. -/
theorem write_of_passed {s : State} {row : Row} {a : Ask} (h : PassesChecks s row a) :
    s.write a = if (s.commitWrite row a).2 ≠ abortOk then s.commitWrite row a
      else (State.markUpload a.index a.sub
        (if s.counted row a then (s.commitWrite row a).1.countChange a.index a.sub a.via.port else (s.commitWrite row a).1),
        abortOk) := by
  have hearly : firstAbort [(accessBad row a, abortAccess), (s.sealBad row a, abortSealed), (!row.ty.fits a.data, abortType)] =
      abortOk := by
    simp [firstAbort, h.access, h.unsealed, h.fits]
  simp only [State.write, h.listed, hearly, h.inRange, h.inMode, h.inState, ne_eq, not_true_eq_false, Bool.or_self, Bool.false_eq_true,
    if_false]

/-- Beside its effect a write that passes the checks changes only what carrying it changes. -/
theorem Carried_write {s : State} {row : Row} {a : Ask} (h : PassesChecks s row a) :
    Carried (s.commitWrite row a).1 (s.write a).1 := by
  rw [write_of_passed h]
  split
  · exact Carried_refl _
  · refine Carried_trans ?_ (Carried_markUpload _ _ _)
    split
    · exact Carried_countChange _ _ _ _
    · exact Carried_refl _

/-! ### The state a request meets once its envelope is verified -/

/-- The change log is neither counted nor written. -/
def ChangesStand (s t : State) : Prop := t.acc.changes = s.acc.changes ∧ t.acc.changeLog = s.acc.changeLog

theorem expect_acc (r : Request) (s : State) : (s.expect r).acc = s.acc := by
  unfold State.expect
  split <;> rfl

theorem ChangesStand_authenticate (r : Request) (s : State) (h : (s.authenticate r).2.1 = abortOk) :
    ChangesStand s (s.authenticate r).1 := by
  have hauth : abortAuth ≠ abortOk := by decide
  have haccess : abortAccess ≠ abortOk := by decide
  cases he : r.envelope with
  | none => simp only [State.authenticate, he, ChangesStand, and_self]
  | some e =>
    simp only [State.authenticate, he, State.verifyEnvelope] at h ⊢
    split_ifs at h ⊢
    · exact absurd h haccess
    · exact absurd h hauth
    · exact absurd h hauth
    · exact absurd h hauth
    · exact ⟨rfl, rfl⟩

/-- A request whose form is sound is answered with what its authenticated write or read gives; those to the core apart. -/
theorem take_authenticated {s : State} {r : Request} (hserves : s.servesNow r) (hform : (s.expect r).formAbort r = abortOk)
    {u : State} {a : Ask} (hauth : (s.expect r).authenticate r = (u, abortOk, a)) (hcustomer : customerIndex a.index = false) :
    s.take r = if r.op = 1 then (u.afterRead a.via a.index a.sub).answer r false abortOk (u.readValue a.via a.gen a.index a.sub)
      else (u.write a).1.answer r false (u.write a).2 [] := by
  simp only [take_eq_serveNow s r hserves, State.serveNow, hform, hauth, hcustomer, ne_eq, not_true_eq_false, Bool.false_eq_true,
    if_false]

/-- A request whose envelope does not verify is answered with that refusal. -/
theorem take_unauthenticated {s : State} {r : Request} (hserves : s.servesNow r) (hform : (s.expect r).formAbort r = abortOk)
    {u : State} {n : Nat} {a : Ask} (hauth : (s.expect r).authenticate r = (u, n, a)) (hn : n ≠ abortOk) :
    s.take r = u.answer r false n [] := by
  simp only [take_eq_serveNow s r hserves, State.serveNow, hform, hauth, hn, ne_eq, not_true_eq_false, not_false_eq_true,
    if_false, if_true]

/-- An accepted write passes the checks in a state that opening its envelope has changed, and is answered there. -/
theorem take_accepted {s : State} {r : Request} {index sub : Nat} {value : List Nat} (h : s.accepts r index sub value) :
    ∃ (u : State) (row : Row) (a : Ask), Carried s u ∧ ChangesStand s u ∧ PassesChecks u row a ∧
      a.index = index ∧ a.sub = sub ∧ a.value = ofLe value ∧ s.take r = (u.write a).1.answer r false (u.write a).2 [] := by
  obtain ⟨hserves, hform, row, role, env, hrow, hauth, hcustomer, hop, haccess, hseal, hfits, hvalue, hmode, hstate⟩ := h
  have hok : ((s.expect r).authenticate r).2.1 = abortOk := by rw [hauth]
  have hchanges := ChangesStand_authenticate r (s.expect r) hok
  unfold ChangesStand at hchanges
  rw [expect_acc] at hchanges
  refine ⟨((s.expect r).authenticate r).1, row,
    { via := r.via, gen := r.gen, index := index, sub := sub, data := value, role := role, env := env },
    Carried_trans (Carried_expect r s) (Carried_authenticate r _ hok),
    hchanges, ⟨hrow, haccess, hseal, hfits, hvalue, hmode, hstate⟩, rfl, rfl, rfl, ?_⟩
  have hopened : (s.expect r).authenticate r = (((s.expect r).authenticate r).1, abortOk, _) := Prod.ext rfl hauth
  rw [take_authenticated hserves hform hopened hcustomer, if_neg hop]

/-- Beside its effect an accepted write changes only what carrying it changes. -/
theorem take_committed {s : State} {r : Request} {index sub : Nat} {value : List Nat} (h : s.accepts r index sub value) :
    ∃ (u : State) (row : Row) (a : Ask), Carried s u ∧ rowOf (key index sub) = some row ∧ a.index = index ∧ a.sub = sub ∧
      a.value = ofLe value ∧ Carried (u.commitWrite row a).1 (s.take r) := by
  obtain ⟨u, row, a, hu, -, hpass, hindex, hsub, hvalue, htake⟩ := take_accepted h
  exact ⟨u, row, a, hu, hindex ▸ hsub ▸ hpass.listed, hindex, hsub, hvalue,
    htake ▸ Carried_trans (Carried_write hpass) (Carried_answer _ _ _ _ _)⟩

/-- Entries outside MODE_COMMAND and the path contexts have no check at step 11. -/
theorem commitWrite_eq_perform {a : Ask} (row : Row) (s : State) (hmode : ¬(a.index = 0x0120 ∧ a.sub = 2))
    (hctx : ¬(0x0900 ≤ a.index ∧ a.index ≤ 0x093F)) : s.commitWrite row a = (s.perform row a, abortOk) := by
  simp only [State.commitWrite, if_neg hmode, if_neg hctx]

/-- A sender's accepted write is carried out as any other. -/
theorem ask_eq_take_accepted {s : State} {p : Sender} {index sub : Nat} {value : List Nat} (h : s.acceptsWrite p index sub value) :
    s.ask p index sub value = s.take (s.carried p index sub value) :=
  ask_eq_take s p index sub value h.1.1

/-- Where an entry's command does the same to a state that carrying a request has changed, an accepted write has the command's
effect on the state it was asked in. -/
theorem ask_holds {p : Sender} {index sub : Nat} {value : List Nat} {s : State} (effect : Nat → State → State)
    (h : s.acceptsWrite p index sub value)
    (hcommit : ∀ via gen data role env row u,
      State.commitWrite row { via := via, gen := gen, index := index, sub := sub, data := data, role := role, env := env } u =
        (effect (ofLe data) u, abortOk))
    (hcarries : ∀ u, Carried s u → Carried (effect (ofLe value) s) (effect (ofLe value) u)) :
    Carried (effect (ofLe value) s) (s.ask p index sub value) := by
  obtain ⟨u, hu, hcarried⟩ := ask_effect effect h hcommit
  exact Carried_trans (hcarries u hu) hcarried

end Sys2Proof.Proofs
end
section
/-! PROOF. MODE_COMMAND (R459 to R461). -/

namespace Sys2Proof.Proofs

open Sys2Proof Sys2Proof.Machine Sys2Proof.Laws

/-! ### What MODE_COMMAND does at step 11 -/

theorem requestMode_same {u : State} {v : Nat} (hmode : u.mode = commandMode v) : (u.requestMode v).1 = u := by
  simp only [State.requestMode, hmode, if_true]

theorem requestMode_config {u : State} (hmode : u.mode ≠ .config) :
    (u.requestMode 1).1 = { u with modePending := some .config } := by
  have hother : commandMode 1 ≠ u.mode := fun h => hmode h.symm
  simp only [State.requestMode, if_neg hother]
  rfl

section Checked

variable {u : State} {v : Nat} (hmode : u.mode ≠ commandMode v) (hrun : commandMode v ≠ .config)
include hmode hrun

/-- A plan that the ledger refuses is reported, and nothing else happens (R460). -/
theorem requestMode_of_refused (hplan : (verdict u.get).ok = false) :
    CountsOnly { u with ledger := u.ledger.compiled u.get } (u.requestMode v).1 := by
  have h : (u.requestMode v).1 = State.raiseAll (verdict u.get).event { u with ledger := u.ledger.compiled u.get } := by
    simp only [State.requestMode, if_neg hmode.symm, if_neg hrun, hplan, Bool.not_false, if_true]
  rw [h]
  exact CountsOnly_raiseAll _ _

theorem requestMode_of_flowFault (hplan : (verdict u.get).ok = true) (hflow : flowFault u.get ≠ 0) :
    (u.requestMode v).1 =
      { u with ledger := u.ledger.compiled u.get, flow := { u.flow with fault := flowFault u.get } } := by
  simp only [State.requestMode, if_neg hmode.symm, if_neg hrun, hplan, Bool.not_true, Bool.false_eq_true, if_false, if_pos hflow]

theorem requestMode_of_quantityFault (hplan : (verdict u.get).ok = true) (hflow : flowFault u.get = 0)
    (hqty : quantityFault u.get ≠ 0) :
    (u.requestMode v).1 = { u with
      ledger := u.ledger.compiled u.get, flow := { u.flow with fault := 0 }, qty := { u.qty with fault := quantityFault u.get } } := by
  simp only [State.requestMode, if_neg hmode.symm, if_neg hrun, hplan, hflow, Bool.not_true, Bool.false_eq_true, ne_eq,
    not_true_eq_false, if_false, if_pos hqty]

theorem requestMode_of_admitted (hplan : (verdict u.get).ok = true) (hflow : flowFault u.get = 0) (hqty : quantityFault u.get = 0) :
    (u.requestMode v).1 = { u with
      modePending := some (commandMode v), ledger := u.ledger.compiled u.get, flow := { u.flow with fault := 0 }
      qty := { u.qty with fault := 0 } } := by
  simp only [State.requestMode, if_neg hmode.symm, if_neg hrun, hplan, hflow, hqty, Bool.not_true, Bool.false_eq_true, ne_eq,
    not_true_eq_false, if_false]

end Checked

/-! ### MODE_COMMAND, accepted -/

theorem Carried_mode {s u : State} (h : Carried s u) : u.mode = s.mode := by rw [h]

theorem Carried_get {s u : State} (h : Carried s u) : u.get = s.get := by
  funext k
  simp only [State.get, Carried_set h]

/-- A MODE_COMMAND that is accepted reaches the checks of R460. -/
theorem ask_mode {p : Sender} {v : Nat} {s : State} (hv : v < 256) (h : s.acceptsWrite p 0x0120 2 [v]) :
    ∃ u, Carried s u ∧ Carried (u.requestMode v).1 (s.ask p 0x0120 2 [v]) := by
  obtain ⟨u, row, ⟨via, gen, _, _, data, role, env⟩, hu, -, rfl, rfl, hvalue, hdone⟩ := take_committed h
  have hv' : ofLe data = v := hvalue.trans (ofLe_singleton hv)
  rw [← ask_eq_take_accepted h] at hdone
  exact ⟨u, hu, hv' ▸ hdone⟩

/-- MEASURE or VERIFY, accepted: the checks of R460 decide what it leaves. -/
theorem runMode_does {c : Instr} {p : Sender} {m : Mode} {v : Nat} {s : State} (hm : commandMode v = m) (hrun : m ≠ .config)
    (hv : v < 256) (hexec : exec c s = .next (s.ask p 0x0120 2 [v])) (h : s.acceptsWrite p 0x0120 2 [v]) :
    (s.mode = m → Does c s (Carried s)) ∧
    (s.mode ≠ m → (verdict s.get).ok = true → flowFault s.get = 0 → quantityFault s.get = 0 →
      Does c s (Carried { s with
        modePending := some m, ledger := s.ledger.compiled s.get, flow := { s.flow with fault := 0 }
        qty := { s.qty with fault := 0 } })) ∧
    (s.mode ≠ m → (verdict s.get).ok = false → Does c s (Carried { s with ledger := s.ledger.compiled s.get })) ∧
    (s.mode ≠ m → (verdict s.get).ok = true → flowFault s.get ≠ 0 →
      Does c s (Carried { s with ledger := s.ledger.compiled s.get, flow := { s.flow with fault := flowFault s.get } })) ∧
    (s.mode ≠ m → (verdict s.get).ok = true → flowFault s.get = 0 → quantityFault s.get ≠ 0 →
      Does c s (Carried { s with
        ledger := s.ledger.compiled s.get, flow := { s.flow with fault := 0 }
        qty := { s.qty with fault := quantityFault s.get } })) := by
  subst hm
  obtain ⟨u, hu, hdone⟩ := ask_mode hv h
  have hmode := Carried_mode hu
  have hget := Carried_get hu
  refine ⟨fun hsame => ⟨_, hexec, ?_⟩, fun hother hplan hflow hqty => ⟨_, hexec, ?_⟩, fun hother hplan => ⟨_, hexec, ?_⟩,
    fun hother hplan hflow => ⟨_, hexec, ?_⟩, fun hother hplan hflow hqty => ⟨_, hexec, ?_⟩⟩
  · rw [requestMode_same (hmode.trans hsame)] at hdone
    exact Carried_trans hu hdone
  · rw [requestMode_of_admitted (hmode ▸ hother) hrun (hget ▸ hplan) (hget ▸ hflow) (hget ▸ hqty), hget] at hdone
    exact Carried_trans (by rw [hu]; rfl) hdone
  · have hrefused := requestMode_of_refused (hmode ▸ hother) hrun (hget ▸ hplan)
    rw [hget] at hrefused
    exact Carried_trans (Carried_trans (by rw [hu]; rfl) (Carried_of_CountsOnly hrefused)) hdone
  · rw [requestMode_of_flowFault (hmode ▸ hother) hrun (hget ▸ hplan) (hget ▸ hflow), hget] at hdone
    exact Carried_trans (by rw [hu]; rfl) hdone
  · rw [requestMode_of_quantityFault (hmode ▸ hother) hrun (hget ▸ hplan) (hget ▸ hflow) (hget ▸ hqty), hget] at hdone
    exact Carried_trans (by rw [hu]; rfl) hdone

theorem ask_configMode {p : Sender} {s : State} (h : s.acceptsWrite p 0x0120 2 [1]) :
    Carried { s with modePending := if s.mode = .config then s.modePending else some .config } (s.ask p 0x0120 2 [1]) := by
  obtain ⟨u, hu, hdone⟩ := ask_mode (by decide) h
  have hmode := Carried_mode hu
  by_cases hconfig : s.mode = .config
  · rw [requestMode_same (v := 1) (hmode.trans hconfig)] at hdone
    rw [if_pos hconfig]
    exact Carried_trans hu hdone
  · rw [requestMode_config (hmode ▸ hconfig)] at hdone
    rw [if_neg hconfig]
    exact Carried_trans (by rw [hu]; rfl) hdone

/-- Settles O30: the checks of R460, in their order, decide what the accepted command leaves (`runMode_does`). -/
theorem modeCommandsWaitForTheBoundary : Obligations.ModeCommandsWaitForTheBoundary := by
  unfold Obligations.ModeCommandsWaitForTheBoundary
  refine ⟨fun p s h => ⟨_, rfl, ask_configMode h⟩, ?_⟩
  rintro p c m v s (⟨rfl, rfl, rfl⟩ | ⟨rfl, rfl, rfl⟩) h
  · exact runMode_does (m := .measure) rfl (by decide) (by decide) rfl h
  · exact runMode_does (m := .verify) rfl (by decide) (by decide) rfl h

end Sys2Proof.Proofs
end
section
/-! PROOF. Accepted commands that wait for the next boundary (R457, R462), and where a plain value is stored. -/

namespace Sys2Proof.Proofs

open Sys2Proof Sys2Proof.Machine Sys2Proof.Laws

/-! ### Values of several bytes -/

theorem ofLe_leBytes6 {w : Nat} (h : w < 2 ^ 48) : ofLe (leBytes 6 w) = w := by
  simp only [leBytes, ofLe]
  omega

/-- The number of a four-byte field and what follows it. -/
theorem ofLe_leBytes4_append {n : Nat} (h : n < 2 ^ 32) (l : List Nat) : ofLe (leBytes 4 n ++ l) = n + 2 ^ 32 * ofLe l := by
  simp only [leBytes, List.cons_append, List.nil_append, ofLe]
  omega

theorem unsigned64_lt (i : Int) : unsigned 64 i < 2 ^ 64 := by
  simp only [unsigned]
  omega

/-- A signed 64-bit number is that of its two's complement form. -/
theorem signed64_unsigned64 {i : Int} (hlo : -(2 ^ 63) ≤ i) (hhi : i < 2 ^ 63) : signed 64 (unsigned 64 i) = i := by
  simp only [signed, unsigned]
  split_ifs <;> omega

/-! ### Where a plain value is stored -/

/-- The calendar banks apart, an entry is stored under its own key. -/
theorem storedKey_eq_key (s : State) {index : Nat} (sub : Nat) (h : ¬(0x1210 ≤ index ∧ index ≤ 0x127F)) :
    s.storedKey index sub = key index sub := by
  have hactive : ¬(0x1210 ≤ index ∧ index ≤ 0x123F) := by omega
  have hpassive : ¬(0x1250 ≤ index ∧ index ≤ 0x127F) := by omega
  simp only [State.storedKey, calIndex, if_neg hactive, if_neg hpassive]

/-- A write of a counter's selection is stored, and applies from the next boundary (R598). -/
theorem perform_perfSel (row : Row) {a : Ask} (s : State) (hlo : 0x1C10 ≤ a.index) (hhi : a.index ≤ 0x1C15)
    (hrow : ¬(0x0C00 ≤ row.index ∧ row.index < 0x0D00)) :
    s.perform row a = { s with set := s.set.edit (key a.index a.sub) a.value .boundary } := by
  have hplain : s.perform row a = s.putValue row a := by
    have hctx : ¬(0x0900 ≤ a.index ∧ a.index ≤ 0x093F) := by omega
    unfold State.perform
    split
    case h_26 => rw [if_neg hctx]
    all_goals omega
  have hboundary : atBoundary a.index = true := by
    simp only [atBoundary, within, Bool.or_eq_true, Bool.and_eq_true, decide_eq_true_eq]
    omega
  have hring : s.flowChanged row (key a.index a.sub) a.value = s :=
    if_neg fun ⟨h1, h2, _⟩ => hrow ⟨h1, h2⟩
  rw [hplain]
  simp only [State.putValue, storedKey_eq_key s a.sub (show ¬(0x1210 ≤ a.index ∧ a.index ≤ 0x127F) by omega), hboundary, if_true,
    hring]

/-- The lines that list the selections of the counters. -/
theorem rowOf_perfSel (block counter : Nat) (hb : block < 6) (hc : counter < 8) :
    ∀ row, rowOf (key (0x1C10 + block) (counter + 1)) = some row → ¬(0x0C00 ≤ row.index ∧ row.index < 0x0D00) := by
  have h : ∀ b < 6, ∀ c < 8, (rowOf (key (0x1C10 + b) (c + 1))).all
      (fun row => !(decide (0x0C00 ≤ row.index) && decide (row.index < 0x0D00))) = true := by decide +kernel
  intro row hrow
  have hlisted := h block hb counter hc
  simp only [hrow, Option.all_some, Bool.not_eq_true', Bool.and_eq_false_iff, decide_eq_false_iff_not] at hlisted
  omega

theorem ask_perfSel {p : Sender} {block counter value : Nat} {s : State} (hb : block < 6) (hc : counter < 8) (hv : value < 2 ^ 32)
    (h : s.acceptsWrite p (0x1C10 + block) (counter + 1) (leBytes 4 value)) :
    (s.ask p (0x1C10 + block) (counter + 1) (leBytes 4 value)).set =
        s.set.edit (key (0x1C10 + block) (counter + 1)) value .boundary ∧
      Carried { s with set := s.set.edit (key (0x1C10 + block) (counter + 1)) value .boundary }
        (s.ask p (0x1C10 + block) (counter + 1) (leBytes 4 value)) := by
  obtain ⟨u, row, a, hu, hrow, hindex, hsub, hvalue, hdone⟩ := take_committed h
  have hlisted := rowOf_perfSel block counter hb hc row hrow
  rw [commitWrite_eq_perform row u (by omega) (by omega), perform_perfSel row u (by omega) (by omega) hlisted, hindex, hsub, hvalue,
    ofLe_leBytes4 value hv, Carried_set hu, ← ask_eq_take_accepted h] at hdone
  exact ⟨by rw [hdone], Carried_trans (by rw [hu]; rfl) hdone⟩

/-! ### The commands -/

theorem ask_powerCommand {p : Sender} {v : Nat} {s : State} (hv : v < 256) (h : s.acceptsWrite p 0x0201 1 [v]) :
    Carried { s with pwr := { s.pwr with command := v } } (s.ask p 0x0201 1 [v]) := by
  have hheld := ask_holds (fun v u => { u with pwr := { u.pwr with command := v } }) h (fun _ _ _ _ _ _ _ => rfl)
    fun u hu => by rw [hu]; rfl
  rwa [ofLe_singleton hv] at hheld

theorem ask_actCommand {p : Sender} {v : Nat} {s : State} (hv : v < 256) (h : s.acceptsWrite p 0x1410 5 [v]) :
    Carried { s with bill := { s.bill with command := v } } (s.ask p 0x1410 5 [v]) := by
  have hheld := ask_holds (fun v u => { u with bill := { u.bill with command := v } }) h (fun _ _ _ _ _ _ _ => rfl)
    fun u hu => by rw [hu]; rfl
  rwa [ofLe_singleton hv] at hheld

theorem ask_topup {p : Sender} {topup : Nat} {amount : Int} {s : State} (ht : topup < 2 ^ 32) (hlo : -(2 ^ 63) ≤ amount)
    (hhi : amount < 2 ^ 63) (h : s.acceptsWrite p 0x1402 1 (leBytes 4 topup ++ leBytes 8 (unsigned 64 amount))) :
    Carried { s with bill := { s.bill with topups := s.bill.topups ++ [(topup, amount)] } }
      (s.ask p 0x1402 1 (leBytes 4 topup ++ leBytes 8 (unsigned 64 amount))) := by
  have hvalue : ofLe (leBytes 4 topup ++ leBytes 8 (unsigned 64 amount)) = topup + 2 ^ 32 * unsigned 64 amount := by
    rw [ofLe_leBytes4_append ht, ofLe_leBytes8 (unsigned64_lt amount)]
  have hid : (topup + 2 ^ 32 * unsigned 64 amount) % 2 ^ 32 = topup := by omega
  have hamount : (topup + 2 ^ 32 * unsigned 64 amount) / 2 ^ 32 = unsigned 64 amount := by omega
  have hheld := ask_holds
    (fun v u => { u with bill := { u.bill with topups := u.bill.topups ++ [(v % 2 ^ 32, signed 64 (v / 2 ^ 32))] } }) h
    (fun _ _ _ _ _ _ _ => rfl) fun u hu => by rw [hu]; rfl
  rwa [hvalue, hid, hamount, signed64_unsigned64 hlo hhi] at hheld

theorem ask_activation {p : Sender} {instant : Nat} {s : State} (hi : instant < 2 ^ 48)
    (h : s.acceptsWrite p 0x1200 2 (leBytes 6 instant)) : Carried (s.setActivation instant) (s.ask p 0x1200 2 (leBytes 6 instant)) := by
  have hheld := ask_holds State.setActivation h (fun _ _ _ _ _ _ _ => rfl) fun u hu => by rw [hu]; rfl
  rwa [ofLe_leBytes6 hi] at hheld

theorem ask_ovfClear {p : Sender} {mask : Nat} {s : State} (hm : mask < 2 ^ 48) (h : s.acceptsWrite p 0x1C30 1 (leBytes 6 mask)) :
    Carried { s with perf := { s.perf with clear := s.perf.clear ||| mask } } (s.ask p 0x1C30 1 (leBytes 6 mask)) := by
  have hheld := ask_holds (fun v u => { u with perf := { u.perf with clear := u.perf.clear ||| v } }) h (fun _ _ _ _ _ _ _ => rfl)
    fun u hu => by rw [hu]; rfl
  rwa [ofLe_leBytes6 hm] at hheld

/-- Settles O32: each accepted command changes the one field that the next boundary reads (`ask_holds`). -/
theorem commandsOfTheDictionaryWait : Obligations.CommandsOfTheDictionaryWait := by
  unfold Obligations.CommandsOfTheDictionaryWait
  intro p s
  refine ⟨fun h => ⟨_, rfl, ?qtyClear⟩, fun h => ⟨_, rfl, ?taperExit⟩, fun h => ⟨_, rfl, ask_powerCommand (by decide) h⟩,
    fun h => ⟨_, rfl, ask_powerCommand (by decide) h⟩, fun h => ⟨_, rfl, ?residencyClear⟩, fun h => ⟨_, rfl, ?closeNow⟩,
    fun h => ⟨_, rfl, ask_actCommand (by decide) h⟩, fun h => ⟨_, rfl, ask_actCommand (by decide) h⟩,
    fun h => ⟨_, rfl, ask_actCommand (by decide) h⟩, fun h => ⟨_, rfl, ask_actCommand (by decide) h⟩,
    fun _ _ ht hlo hhi h => ⟨_, rfl, ask_topup ht hlo hhi h⟩, fun _ hi h => ⟨_, rfl, ask_activation hi h⟩,
    fun block counter value hb hc hv h => ⟨_, rfl, ?perfSel⟩, fun _ hm h => ⟨_, rfl, ask_ovfClear hm h⟩⟩
  case qtyClear =>
    exact ask_holds (fun _ u => { u with qty := { u.qty with clearing := true } }) h (fun _ _ _ _ _ _ _ => rfl)
      fun u hu => by rw [hu]; rfl
  case taperExit =>
    exact ask_holds (fun _ u => { u with pwr := { u.pwr with taperExit := true } }) h (fun _ _ _ _ _ _ _ => rfl)
      fun u hu => by rw [hu]; rfl
  case residencyClear =>
    exact ask_holds (fun _ u => { u with pwr := { u.pwr with resClear := true } }) h (fun _ _ _ _ _ _ _ => rfl)
      fun u hu => by rw [hu]; rfl
  case closeNow =>
    exact ask_holds (fun _ u => { u with bill := { u.bill with closeNow := true } }) h (fun _ _ _ _ _ _ _ => rfl)
      fun u hu => by rw [hu]; rfl
  case perfSel =>
    obtain ⟨hset, hcarried⟩ := ask_perfSel hb hc hv h
    refine ⟨?_, ?_, hset ▸ hcarried⟩
    · simp only [State.at_, State.get, hset]
      exact Pairs_get_set_same _ _ _ _
    · funext k
      simp only [State.eff, hset]
      rfl

end Sys2Proof.Proofs
end
section
/-! PROOF. The seal, the refusals of a request, and what a read answers (R434, R439 to R450). -/

namespace Sys2Proof.Proofs

open Sys2Proof Sys2Proof.Machine Sys2Proof.Laws

/-! ### What serving leaves of the security block and the upload flag -/

theorem countChange_acc (index sub port : Nat) (s : State) :
    (s.countChange index sub port).acc = { s.acc with
      changes := satInc (2 ^ 32 - 1) s.acc.changes
      changeLog := ({ index := index, sub := sub, port := port, count := satInc (2 ^ 32 - 1) s.acc.changes,
                      time := s.cal.seconds } :: s.acc.changeLog).take 16 } := rfl

theorem markUpload_acc (index sub : Nat) (s : State) : (s.markUpload index sub).acc = s.acc := by
  unfold State.markUpload
  split <;> rfl

theorem expect_uploadFlag (r : Request) (s : State) : (s.expect r).iol.uploadFlag = s.iol.uploadFlag := by
  unfold State.expect
  split <;> rfl

theorem expect_get (r : Request) (s : State) : (s.expect r).get = s.get := Carried_get (Carried_expect r s)

theorem macOk_expect (r : Request) (e : Envelope) (s : State) : (s.expect r).macOk e = s.macOk e := by
  simp only [State.macOk, State.roleKey, expect_acc]

/-- The register window shows an answer in REQ_RESULT, and its data from the start of the array. -/
theorem answer_window {r : Request} (hvia : r.via = .window) (byCore : Bool) (abort : Nat) (data : List Nat) (s : State) :
    (s.answer r byCore abort data).core = { s.core with
      reqBusy := false, reqResult := data.length % 32768 * 65536 + abort, reqData := overBytes data s.core.reqData } := by
  simp only [State.answer, hvia]
  rfl

/-- A refusal in the register window. -/
theorem answer_window_refused {r : Request} (hvia : r.via = .window) (abort : Nat) (s : State) :
    (s.answer r false abort []).core.reqResult = abort ∧ (s.answer r false abort []).core.reqBusy = false := by
  rw [answer_window hvia]
  exact ⟨Nat.zero_add _, rfl⟩

/-- What comes by a way while the device runs is taken. -/
theorem bring_eq_take {s : State} (hup : s.linksUp = true) (via : Via) (gen op index sub id : Nat) (data : List Nat) :
    s.bring via gen op index sub id data = s.take (s.asked via gen op index sub id data) :=
  if_pos hup

/-! ### The seal (R441 to R444) -/

/-- A SEAL_COMMAND that is accepted is carried out. -/
theorem ask_seal {p : Sender} {v : Nat} {s : State} (hv : v < 256) (h : s.acceptsWrite p 0x0140 1 [v]) :
    Carried (s.seal (v == 0xC3)) (s.ask p 0x0140 1 [v]) := by
  have hheld := ask_holds (fun v => State.seal (v == 0xC3)) h (fun _ _ _ _ _ _ _ => rfl) fun u hu => by rw [hu]; rfl
  rwa [ofLe_singleton hv] at hheld

/-- A SEAL_COMMAND that is accepted is counted as one change, whatever the seal is (R444). -/
theorem ask_seal_counted {p : Sender} {value : List Nat} {s : State} (h : s.acceptsWrite p 0x0140 1 value) :
    (s.ask p 0x0140 1 value).acc.changes = min (2 ^ 32 - 1) (s.acc.changes + 1) ∧
      (s.ask p 0x0140 1 value).acc.changeLog.length = min 16 (s.acc.changeLog.length + 1) := by
  obtain ⟨u, row, ⟨via, gen, _, _, data, role, env⟩, -, ⟨hchanges, hlog⟩, hpass, rfl, rfl, -, htake⟩ := take_accepted h
  have hcounted : u.counted row ⟨via, gen, 0x0140, 1, data, role, env⟩ = true := Bool.or_true _
  have hacc : (s.ask p 0x0140 1 value).acc = (State.countChange 0x0140 1 via.port (u.seal (ofLe data == 0xC3))).acc := by
    rw [ask_eq_take_accepted h, htake, answer_acc, write_of_passed hpass, hcounted, if_pos rfl]
    exact markUpload_acc _ _ _
  rw [hacc, countChange_acc, List.length_take, ← hchanges, ← hlog]
  exact ⟨rfl, rfl⟩

theorem seal_set (s : State) :
    s.seal true = { s with acc := { s.acc with sealed := true, sealedOnce := true, factoryEnded := true } } := by
  simp only [State.seal, Bool.or_true]

theorem seal_clear (s : State) : s.seal false = { s with acc := { s.acc with sealed := false } } := by
  simp only [State.seal, Bool.or_false]

/-! ### Step 5 for a write to AUTH_ENVELOPE (R446 to R448) -/

/-- What an envelope asks: the write of its own entry, with its role (R440). -/
def envelopeAsk (s : State) (via : Via) (e : Envelope) : Ask :=
  { via := via, gen := s.sessionGen via, index := e.index, sub := e.sub, data := e.value, role := Role.ofCode e.role
    env := some (Role.ofCode e.role) }

/-- A write to AUTH_ENVELOPE asks what its envelope holds. -/
theorem authenticate_envelope {via : Via} {gen id : Nat} {data : List Nat} {e : Envelope} (he : Envelope.of data = some e)
    (s u : State) :
    u.authenticate (s.asked via gen 2 0x0150 1 id data) =
      ((u.verifyEnvelope e via.port).1, (u.verifyEnvelope e via.port).2, envelopeAsk s via e) := by
  have hopened : (s.asked via gen 2 0x0150 1 id data).envelope = some e := he
  simp only [State.authenticate, hopened]
  rfl

section Envelopes

variable {via : Via} {gen id : Nat} {data : List Nat} {e : Envelope} {s : State}
  (hserves : s.servesNow (s.asked via gen 2 0x0150 1 id data))
  (hform : (s.expect (s.asked via gen 2 0x0150 1 id data)).formAbort (s.asked via gen 2 0x0150 1 id data) = abortOk)
  (he : Envelope.of data = some e)
include hserves hform he

/-- An envelope that does not verify is answered with that refusal. -/
theorem envelope_refused {u : State} {n : Nat} (hn : n ≠ abortOk)
    (hverify : (s.expect (s.asked via gen 2 0x0150 1 id data)).verifyEnvelope e via.port = (u, n)) :
    exec (.authEnvelope via gen id data) s = .next (u.answer (s.asked via gen 2 0x0150 1 id data) false n []) := by
  have hauth := authenticate_envelope (id := id) (gen := gen) (via := via) he s (s.expect (s.asked via gen 2 0x0150 1 id data))
  rw [hverify] at hauth
  exact congrArg Host.Outcome.next ((bring_eq_take hserves.1 ..).trans (take_unauthenticated hserves hform hauth hn))

/-- A FACTORY envelope is refused without verification once its role has ended (R441). -/
theorem factoryEnvelope_does (hrole : e.role = 3) (hended : s.acc.factoryEnded = true) :
    Does (.authEnvelope via gen id data) s fun t => Carried s t ∧ t.acc = s.acc ∧
      (via = .window → t.core.reqResult = abortAccess ∧ t.core.reqBusy = false) := by
  have hverify : (s.expect (s.asked via gen 2 0x0150 1 id data)).verifyEnvelope e via.port = (_, abortAccess) :=
    if_pos ⟨hrole, (congrArg Access.factoryEnded (expect_acc _ s)).trans hended⟩
  refine ⟨_, envelope_refused hserves hform he (by decide) hverify, Carried_trans (Carried_expect _ _) (Carried_answer _ _ _ _ _), ?_,
    fun hvia => answer_window_refused hvia _ _⟩
  rw [answer_acc, expect_acc]

end Envelopes

/-- Settles O31: a seal command is one counted change (`ask_seal`), and step 5 refuses an ended FACTORY role before it looks at
the MAC (`factoryEnvelope_does`). -/
theorem sealAndFactoryRole : Obligations.SealAndFactoryRole := by
  unfold Obligations.SealAndFactoryRole
  refine ⟨fun p s h => ⟨_, rfl, ?_⟩, fun p s h => ⟨_, rfl, ?_⟩, fun p s h => ⟨_, rfl, ?_⟩,
    fun via gen id data e s hserves hform he hrole hended => factoryEnvelope_does hserves hform he hrole hended⟩
  · exact ⟨seal_set s ▸ ask_seal (by decide) h, ask_seal_counted h⟩
  · exact ⟨seal_clear s ▸ ask_seal (by decide) h, (ask_seal_counted h).1⟩
  · exact ask_holds (fun _ => State.lockFactory) h (fun _ _ _ _ _ _ _ => rfl) fun u hu => by rw [hu]; rfl

end Sys2Proof.Proofs
end

section
/-! PROOF. Requests without an envelope: reads, and writes without their role (R434, R439, R440, R450, R457). -/

namespace Sys2Proof.Proofs

open Sys2Proof Sys2Proof.Machine Sys2Proof.Laws

/-! ### Requests without an envelope -/

/-- What a request without an envelope asks: its own entry, with the role of its way (R440). -/
def plainAsk (s : State) (via : Via) (index sub : Nat) (data : List Nat) : Ask :=
  { via := via, gen := s.sessionGen via, index := index, sub := sub, data := data
    role := if via.port = 0 then .operator else .pub, env := none }

theorem authenticate_plain {via : Via} {gen op index sub id : Nat} {data : List Nat} (s u : State) (hop : op = 1 ∨ op = 2)
    (hindex : op = 2 → index ≠ 0x0150) :
    u.authenticate (s.asked via gen op index sub id data) = (u, abortOk, plainAsk s via index sub data) := by
  have hcarries : (s.asked via gen op index sub id data).carries = false := by
    rcases hop with rfl | rfl
    · rfl
    · have hother : (index == 0x0150) = false := beq_false_of_ne (hindex rfl)
      simp only [State.asked, Request.carries, Request.toEnvelope, hother, Bool.and_false, Bool.false_and, Bool.or_false]
      rfl
  have hnone : (s.asked via gen op index sub id data).envelope = none := by
    simp only [Request.envelope, hcarries, Bool.false_and, Bool.false_eq_true, if_false]
  simp only [State.authenticate, hnone]
  rfl

/-! ### Reads -/

/-- No writable entry has a read that changes something (Tables 3.10 and 14.17). -/
theorem afterRead_of_writable {index sub : Nat} {row : Row} (hrow : rowOf (key index sub) = some row) (hrw : row.rw = true)
    (hsub : 1 ≤ sub) (via : Via) (s : State) : s.afterRead via index sub = s := by
  have hlisted : (rowOf (key index sub)).all Row.rw = true := by rw [hrow]; exact hrw
  have hall : (decide (via = .isdu) && sub == 0) = false := by
    rw [beq_false_of_ne (by omega), Bool.and_false]
  have hdroop : ¬(index = 0x0801 ∧ sub = 2) := by
    rintro ⟨rfl, rfl⟩
    exact absurd hlisted (by decide +kernel)
  have hoctets : ¬(index = 0x1804 ∧ sub = 9) := by
    rintro ⟨rfl, rfl⟩
    exact absurd hlisted (by decide +kernel)
  simp only [State.afterRead, hall, Bool.false_eq_true, or_false, if_neg hdroop, if_neg hoctets]

/-- A writable entry that is stored reads as its stored value (R434). -/
theorem readValue_of_stored {index sub : Nat} {row : Row} (hrow : rowOf (key index sub) = some row) (hrw : row.rw = true)
    (hsub : 1 ≤ sub) (hzero : readsZero index sub = false) (hempty : readsEmpty index sub = false)
    (hbank : ¬(0x1210 ≤ index ∧ index ≤ 0x127F))
    (hheld : (index, sub) ∉ [(0x0140, 4), (0x1200, 2), (0x1530, 1), (0x1801, 1), (0x1D00, 6)]) (via : Via) (gen : Nat) (s : State) :
    s.readValue via gen index sub = row.ty.encode (s.at_ index sub) := by
  have hentry : s.entryValue via gen index sub true = s.at_ index sub := by
    simp only [State.entryValue, hzero, Bool.not_true, Bool.false_eq_true, if_false]
    split
    case h_6 => rw [storedKey_eq_key s sub hbank]; rfl
    all_goals exact absurd (by decide) hheld
  simp only [State.readValue, if_neg (show sub ≠ 0 by omega), hrow, State.readBytes, hempty, Bool.false_eq_true, if_false, hrw, hentry]

theorem overBytes_take (data old : List Nat) : (overBytes data old).take data.length = data := List.take_left

/-- Settles O38: the read of a stored entry changes nothing (`afterRead_of_writable`) and returns what is stored
(`readValue_of_stored`). -/
theorem readsReturnStoredValues : Obligations.ReadsReturnStoredValues := by
  unfold Obligations.ReadsReturnStoredValues
  intro via gen id index sub row s hserves hform hrow hrw hsub hzero hempty hcustomer hbank hheld
  have hauth := authenticate_plain (id := id) (gen := gen) (sub := sub) (data := []) (via := via) (index := index) s
    (s.expect (s.asked via gen 1 index sub id [])) (.inl rfl) nofun
  have htake := (take_authenticated hserves hform hauth hcustomer).trans (if_pos rfl)
  have hvalue := readValue_of_stored hrow hrw hsub hzero hempty hbank hheld via (s.sessionGen via)
    (s.expect (s.asked via gen 1 index sub id []))
  have hget : (s.expect (s.asked via gen 1 index sub id [])).at_ index sub = s.at_ index sub := congrFun (expect_get _ s) _
  simp only [plainAsk, afterRead_of_writable hrow hrw hsub, hvalue, hget] at htake
  refine ⟨_, congrArg Host.Outcome.next ((bring_eq_take hserves.1 ..).trans htake),
    Carried_trans (Carried_expect _ _) (Carried_answer _ _ _ _ _), fun hvia => ?_⟩
  rw [answer_window hvia]
  exact ⟨rfl, Nat.add_zero _, overBytes_take _ _⟩

/-! ### Writes without their role -/

/-- A write that step 6 refuses changes nothing (R439, R440). -/
theorem write_of_accessBad {s : State} {row : Row} {a : Ask} (hrow : rowOf (key a.index a.sub) = some row)
    (haccess : accessBad row a = true) : s.write a = (s, abortAccess) := by
  have hearly : firstAbort [(accessBad row a, abortAccess), (s.sealBad row a, abortSealed), (!row.ty.fits a.data, abortType)] =
      abortAccess := by
    simp only [firstAbort, haccess, if_true]
  have hrefused : abortAccess ≠ abortOk := by decide
  simp only [State.write, hrow, hearly, if_pos hrefused]

theorem accessBad_of_readOnly {row : Row} (hrw : row.rw = false) (a : Ask) : accessBad row a = true := by
  simp only [accessBad, hrw, Bool.not_false, Bool.or_true, Bool.true_or]

theorem accessBad_of_rank {row : Row} {a : Ask} (hrank : a.role.rank < row.role.rank) : accessBad row a = true := by
  simp only [accessBad, hrank, decide_true, Bool.or_true, Bool.true_or]

/-- Settles O39: step 6 refuses the write (`write_of_accessBad`), and the refusal is all that the way shows. -/
theorem writesWithoutTheirRoleChangeNothing : Obligations.WritesWithoutTheirRoleChangeNothing := by
  unfold Obligations.WritesWithoutTheirRoleChangeNothing
  intro via gen id index sub data row s hserves hform hindex hcustomer hrow hbarred
  have hauth := authenticate_plain (id := id) (gen := gen) (sub := sub) (data := data) (via := via) s
    (s.expect (s.asked via gen 2 index sub id data)) (.inr rfl) fun _ => hindex
  have haccess : accessBad row (plainAsk s via index sub data) = true := by
    refine hbarred.elim (fun hrw => accessBad_of_readOnly hrw _) fun hrank => accessBad_of_rank ?_
    simp only [plainAsk, apply_ite Role.rank]
    exact hrank
  have htake := (take_authenticated hserves hform hauth hcustomer).trans (if_neg nofun)
  rw [write_of_accessBad (a := plainAsk s via index sub data) hrow haccess] at htake
  refine ⟨_, congrArg Host.Outcome.next ((bring_eq_take hserves.1 ..).trans htake),
    Carried_trans (Carried_expect _ _) (Carried_answer _ _ _ _ _), ?_, ?_, fun hvia => answer_window_refused hvia _ _⟩
  · rw [answer_acc, expect_acc]
  · rw [answer_iol_uploadFlag, expect_uploadFlag]

end Sys2Proof.Proofs
end

section
/-! PROOF. Envelopes that fail and envelopes that verify (R446 to R448). -/

namespace Sys2Proof.Proofs

open Sys2Proof Sys2Proof.Machine Sys2Proof.Laws

/-! ### One authentication failure (R448) -/

theorem authFail_eq_raise (role port reason counter : Nat) (s : State) :
    CountsOnly { s with acc := (s.authFail role port reason counter).acc } (s.authFail role port reason counter) :=
  CountsOnly_raise _ _

/-- While the role is locked out a failure is counted, and no run goes on. -/
theorem authFail_acc_lockedOut (role port counter : Nat) (s : State) :
    (s.authFail role port 3 counter).acc = { s.acc with
      fails := min (2 ^ 32 - 1) (s.acc.fails + 1), failsOf := modAt s.acc.failsOf port (satInc (2 ^ 32 - 1)) } := rfl

/-- A failure goes on with the role's run, and the eighth locks it out. -/
theorem authFail_acc_run {reason : Nat} (hreason : reason ≠ 3) (role port counter : Nat) (s : State) :
    (s.authFail role port reason counter).acc = { s.acc with
      fails := min (2 ^ 32 - 1) (s.acc.fails + 1), failsOf := modAt s.acc.failsOf port (satInc (2 ^ 32 - 1))
      failRun := setAt s.acc.failRun (role - 1)
        (if natAt s.acc.failRun (role - 1) + 1 < 8 then natAt s.acc.failRun (role - 1) + 1 else 0)
      lockout := if natAt s.acc.failRun (role - 1) + 1 < 8 then s.acc.lockout
        else setAt s.acc.lockout (role - 1) lockoutTicks } := by
  simp only [State.authFail, raise_acc, if_neg hreason]
  split <;> rfl

/-! ### Step 5 (R446, R447) -/

section Verify

variable {e : Envelope} {s : State} (port : Nat) (hrole : e.role ≠ 3 ∨ s.acc.factoryEnded = false)
include hrole

theorem not_endedFactory : ¬(e.role = 3 ∧ s.acc.factoryEnded = true) := by
  rintro ⟨h3, hended⟩
  exact hrole.elim (fun h => h h3) fun h => absurd (h.symm.trans hended) (by decide)

theorem verifyEnvelope_of_lockedOut (hlock : natAt s.acc.lockout (e.role - 1) ≠ 0) :
    s.verifyEnvelope e port = (s.authFail e.role port 3 e.counter, abortAuth) := by
  simp only [State.verifyEnvelope, if_neg (not_endedFactory hrole), if_pos hlock]

/-- A wrong MAC and a COUNTER that is not greater fail with a reason of their own. -/
theorem verifyEnvelope_of_failed (hlock : natAt s.acc.lockout (e.role - 1) = 0)
    (hfails : s.macOk e = false ∨ e.counter ≤ natAt s.acc.replay (e.role - 1)) :
    ∃ reason, reason ≠ 3 ∧ s.verifyEnvelope e port = (s.authFail e.role port reason e.counter, abortAuth) := by
  simp only [State.verifyEnvelope, if_neg (not_endedFactory hrole), hlock, ne_eq, not_true_eq_false, if_false]
  cases hmac : s.macOk e with
  | false => exact ⟨1, by decide, if_pos rfl⟩
  | true =>
    have hreplay := hfails.resolve_left (by rw [hmac]; decide)
    exact ⟨2, by decide, (if_neg (by decide)).trans (if_pos hreplay)⟩

theorem verifyEnvelope_of_verified (hlock : natAt s.acc.lockout (e.role - 1) = 0) (hmac : s.macOk e = true)
    (hreplay : natAt s.acc.replay (e.role - 1) < e.counter) :
    s.verifyEnvelope e port = ({ s with acc := { s.acc with
      replay := setAt s.acc.replay (e.role - 1) e.counter, failRun := setAt s.acc.failRun (e.role - 1) 0 } }, abortOk) := by
  simp only [State.verifyEnvelope, if_neg (not_endedFactory hrole), hlock, hmac, if_neg (Nat.not_le.2 hreplay), ne_eq,
    not_true_eq_false, if_false, Bool.not_true, Bool.false_eq_true]

end Verify

/-! ### What the answered envelope leaves -/

/-- Where step 5 changes the security block alone, beside events, so does the answered request. -/
theorem Carried_acc_answer {s w : State} (q r : Request) (n : Nat) (h : CountsOnly { s.expect q with acc := w.acc } w) :
    Carried { s with acc := (w.answer r false n []).acc } (w.answer r false n []) := by
  rw [answer_acc]
  have hexpect : Carried { s with acc := w.acc } { s.expect q with acc := w.acc } := by
    rw [Carried_expect q s]
    rfl
  exact Carried_trans (Carried_trans hexpect (Carried_of_CountsOnly h)) (Carried_answer _ _ _ _ _)

/-- Settles O40: step 5 counts a failure by its reason (`verifyEnvelope_of_lockedOut`, `verifyEnvelope_of_failed`), and lets an
envelope that verifies on to step 6, which refuses an entry that only reads (`write_of_accessBad`). -/
theorem envelopesThatFailAreCounted : Obligations.EnvelopesThatFailAreCounted := by
  unfold Obligations.EnvelopesThatFailAreCounted
  intro via gen id n data e s hserves hform he hrole hrun
  have hacc := expect_acc (s.asked via gen 2 0x0150 1 id data) s
  have hrole' : e.role ≠ 3 ∨ (s.expect (s.asked via gen 2 0x0150 1 id data)).acc.factoryEnded = false := by rwa [hacc]
  refine ⟨fun hlock => ?_, fun hlock hfails => ?_, fun hlock hmac hreplay hentry hcustomer => ?_⟩
  · have hverify := verifyEnvelope_of_lockedOut via.port hrole' (by rwa [hacc])
    refine ⟨_, envelope_refused hserves hform he (by decide) hverify, ?_, Carried_acc_answer _ _ _ (authFail_eq_raise _ _ _ _ _)⟩
    rw [answer_acc, authFail_acc_lockedOut, hacc]
  · obtain ⟨reason, hreason, hverify⟩ := verifyEnvelope_of_failed via.port hrole' (by rwa [hacc]) (by rwa [hacc, macOk_expect])
    refine ⟨_, envelope_refused hserves hform he (by decide) hverify, ?_, Carried_acc_answer _ _ _ (authFail_eq_raise _ _ _ _ _)⟩
    rw [answer_acc, authFail_acc_run hreason, hacc, hrun]
    rfl
  · obtain ⟨row, hrow, hrw⟩ := hentry
    have hverify := verifyEnvelope_of_verified via.port hrole' (by rwa [hacc]) (by rwa [macOk_expect]) (by rwa [hacc])
    have hauth := authenticate_envelope (id := id) (gen := gen) (via := via) he s (s.expect (s.asked via gen 2 0x0150 1 id data))
    rw [hverify] at hauth
    have htake := (take_authenticated hserves hform hauth hcustomer).trans (if_neg nofun)
    rw [write_of_accessBad (a := envelopeAsk s via e) hrow (accessBad_of_readOnly hrw _)] at htake
    refine ⟨_, congrArg Host.Outcome.next ((bring_eq_take hserves.1 ..).trans htake), ?_,
      Carried_acc_answer (s.asked via gen 2 0x0150 1 id data) _ _ (CountsOnly_refl _)⟩
    rw [answer_acc, hacc]

end Sys2Proof.Proofs
end

section
/-! PROOF. A subindex that no byte holds: a key is 256 times the index and the subindex (`key`), so that a subindex past 255 names
an entry of a higher index. A write that names PATH_COUNT (0x0C00:1) as an entry of index 0x0400 is judged and stored as PATH_COUNT,
and empties the ring of the flow engine as a change of the flow configuration does (R262). -/

namespace Sys2Proof.Proofs

open Sys2Proof Sys2Proof.Machine Sys2Proof.Laws

/-- The subindex under which index 0x0400 names PATH_COUNT. -/
def pathCountSub : Nat := 0x0800 * 256 + 1

/-- The line of PATH_COUNT. -/
def pathCountRow : Row := ⟨0x0C00, 0x0C00, 0x01, 0x01, .u 8, true, .metrology, true, 1, 1⟩

theorem rowOf_pathCountSub : rowOf (key 0x0400 pathCountSub) = some pathCountRow := by decide +kernel

/-- A device that runs in CONFIG with a METROLOGY key, and holds one good frame in the ring of the flow engine. -/
def withRing : State := { State.reset with
  pwr := { State.reset.pwr with state := .run }
  frame := { State.reset.frame with running := true }
  acc := { State.reset.acc with metrologyKey := some (List.range 16) }
  flow := { State.reset.flow with ring := [[0]] } }

/-- The core with an envelope of the METROLOGY role that writes 2. -/
def pathCountSender : Sender := sealedBy (List.range 16) .window 3 2 5 0x0400 pathCountSub [2]

theorem withRing_accepts : withRing.acceptsWrite pathCountSender 0x0400 pathCountSub [2] :=
  accepts_auth _ _ _ _ _ _ _ _ _ (by rfl) (by decide +kernel)

theorem withRing_get_pathCount : withRing.get (key 0x0400 pathCountSub) ≠ 2 := by decide +kernel

/-- Of index 0x0400 a value is stored and in force at once (R452). -/
theorem putValue_0400 (row : Row) {a : Ask} (s : State) (hindex : a.index = 0x0400) :
    s.putValue row a = { s.flowChanged row (key 0x0400 a.sub) a.value with
      set := (s.flowChanged row (key 0x0400 a.sub) a.value).set.write (key 0x0400 a.sub) a.value } := by
  have hlater : atBoundary 0x0400 = false := by decide
  have hpl : ¬(0x0400 / 256 = 0x19 ∧ s.pl.tx.isSome) := fun h => absurd h.1 (by decide)
  have hmbus : ¬(0x0400 = 0x1808 ∧ a.sub = 6) := fun h => absurd h.1 (by decide)
  simp only [State.putValue, hindex, storedKey_eq_key s a.sub (show ¬(0x1210 ≤ 0x0400 ∧ 0x0400 ≤ 0x127F) by decide), hlater,
    Bool.false_eq_true, if_false, if_neg hpl, if_neg hmbus]
  rfl

/-- A new value of PATH_COUNT by this name empties the ring. -/
theorem perform_pathCount {a : Ask} {s : State} (hindex : a.index = 0x0400) (hsub : a.sub = pathCountSub)
    (hnew : s.get (key 0x0400 pathCountSub) ≠ a.value) : (s.perform pathCountRow a).flow.ring = [] := by
  obtain ⟨via, gen, _, _, data, role, env⟩ := a
  subst hindex hsub
  have hring : s.flowChanged pathCountRow (key 0x0400 pathCountSub) (ofLe data) = { s with flow := { s.flow with ring := [] } } :=
    if_pos ⟨by decide, by decide, rfl, hnew⟩
  have hput : s.perform pathCountRow ⟨via, gen, 0x0400, pathCountSub, data, role, env⟩ =
      s.putValue pathCountRow ⟨via, gen, 0x0400, pathCountSub, data, role, env⟩ := rfl
  rw [hput, putValue_0400 pathCountRow s rfl]
  exact congrArg (fun u : State => u.flow.ring) hring

theorem Carried_flow {s u : State} (h : Carried s u) : u.flow = s.flow := by rw [h]

theorem withRing_empties : (withRing.ask pathCountSender 0x0400 pathCountSub [2]).flow.ring = [] := by
  obtain ⟨u, row, a, hu, hrow, hindex, hsub, hvalue, hdone⟩ := take_committed withRing_accepts
  obtain rfl : pathCountRow = row := Option.some.inj (rowOf_pathCountSub.symm.trans hrow)
  have hnew : u.get (key 0x0400 pathCountSub) ≠ a.value := by
    rw [Carried_get hu, hvalue, ofLe_singleton (by decide)]
    exact withRing_get_pathCount
  rw [commitWrite_eq_perform pathCountRow u (by omega) (by omega), ← ask_eq_take_accepted withRing_accepts] at hdone
  rw [Carried_flow hdone]
  exact perform_pathCount hindex hsub hnew

/-- Refutes O37: of a write to index 0x0400 it says that the flow engine's ring stands, but a subindex past 255 makes the entry
PATH_COUNT, whose change empties the ring (`withRing_empties`). -/
theorem not_acceptedWritesAreStored : ¬ Obligations.AcceptedWritesAreStored := by
  unfold Obligations.AcceptedWritesAreStored
  intro h
  obtain ⟨t, hexec, -, -, -, hcarried⟩ := (h _ _ .window 3 7 0x0400 pathCountSub 0x0400 pathCountSub _ [2] withRing
    (.inr (.inl ⟨rfl, rfl⟩)) withRing_accepts).1 (.inl ⟨by decide, by decide⟩)
  obtain rfl : withRing.ask pathCountSender 0x0400 pathCountSub [2] = t := Host.Outcome.next.inj hexec
  have hring : (withRing.ask pathCountSender 0x0400 pathCountSub [2]).flow.ring = withRing.flow.ring := by
    rw [Carried_flow hcarried]
  rw [withRing_empties] at hring
  exact absurd hring (by decide)

end Sys2Proof.Proofs
end

section
/-! PROOF. The queue of commands (log 1), and the delivery of events (Table 1.8, R36 to R40, R578 to R580). -/

namespace Sys2Proof.Proofs

open Sys2Proof Sys2Proof.Machine Sys2Proof.Laws

/-- Settles O1: a step of a state whose queue is not empty takes the front command. -/
theorem queueIsServedFirstInFirstOut : Obligations.QueueIsServedFirstInFirstOut := by
  unfold Obligations.QueueIsServedFirstInFirstOut
  intro c cs s h
  simp only [step, h]

/-! ### What a delivery does -/

section Delivery

variable {d : Dest} {p : Pend} {s : State}

theorem eventDelivery_of_due (hnext : s.nextFor d = some p) (hroom : s.hasRoom d = true) :
    exec (.eventDelivery d) s = .next (s.deliverTo d p) := by
  show Host.Outcome.next (eventDelivery d s) = _
  simp only [eventDelivery, hnext, hroom, if_true]

theorem eventDelivery_of_not_due (h : s.nextFor d = none ∨ s.hasRoom d = false) : exec (.eventDelivery d) s = .next s := by
  show Host.Outcome.next (eventDelivery d s) = _
  unfold eventDelivery
  cases hnext : s.nextFor d with
  | none => rfl
  | some p => simp only [h.resolve_left (by simp [hnext]), Bool.false_eq_true, if_false]

end Delivery

/-- A record for which there is room joins the host's queue at once. -/
theorem toHost_of_room {o : OutRec} {q : Queues} (hheld : q.spiHeld = []) (hroom : q.spiWords + o.record.size ≤ 2048) :
    q.toHost [o] = { q with spiOut := q.spiOut ++ [o] } := by
  simp only [Queues.toHost, List.foldl_cons, List.foldl_nil, hheld, List.isEmpty_nil, hroom, decide_true, Bool.and_self, if_true]

theorem delivered_ev (frame : Nat) (p : Pend) : (p.delivered frame).ev = p.ev := by
  unfold Pend.delivered
  split <;> rfl

theorem Pend_record_size (gen : Nat) (p : Pend) : (p.record gen).size = 7 := rfl

theorem deliverTo_host {p : Pend} {s : State} (hroom : s.hasRoom .host = true) :
    s.deliverTo .host p = { s with
      events := s.events.erase p
      q := { s.q with spiOut := s.q.spiOut ++ [{ record := (p.delivered s.frame.number).record (s.q.gen 1), sirq := true }] } } := by
  simp only [State.hasRoom, Bool.and_eq_true, decide_eq_true_eq, List.isEmpty_iff] at hroom
  obtain ⟨⟨-, hheld⟩, hwords⟩ := hroom
  simp only [State.deliverTo]
  rw [toHost_of_room hheld (by rwa [Pend_record_size])]

/-- Taking a bit out of a word clears it. -/
theorem bitAt_sub_and_two_pow (n k : Nat) : bitAt (n - (n &&& 2 ^ k)) k = false := by
  have hle : 2 ^ k * (n / 2 ^ k % 2) ≤ n :=
    (Nat.mul_le_mul_left _ (Nat.mod_le _ _)).trans (Nat.mul_div_le n _)
  have hdiv : (n - 2 ^ k * (n / 2 ^ k % 2)) / 2 ^ k = n / 2 ^ k - n / 2 ^ k % 2 := Nat.sub_mul_div n _ _
  rw [bitAt, Nat.and_two_pow, Nat.toNat_testBit, Nat.mul_comm, hdiv, beq_eq_false_iff_ne]
  omega

/-- The occurrence that is written next to the event log becomes the entry of the next SEQ (R578, R579). -/
theorem append_eq (p : Pend) (l : EventLog) : ∃ e : LogEntry,
    l.append p = { l with nextSeq := (l.nextSeq + 1) % 2 ^ 32, head := (l.append p).head, entries := (e :: l.entries).take 2048 } ∧
      e.seq = l.nextSeq ∧ e.body = logBody l.nextSeq p ∧ (l.append p).head = sha256 (l.chainBefore ++ e.body) ∧
      e.chain = (l.append p).head.take 8 :=
  ⟨_, rfl, rfl, rfl, rfl, rfl⟩

theorem eventLogWrite_of_none {s : State} (h : s.log.due = [] ∨ s.frame.committing = true ∨ s.ceUp = false) :
    exec .eventLogWrite s = .next s := by
  show Host.Outcome.next (eventLogWrite s) = _
  unfold eventLogWrite
  cases hdue : s.log.due with
  | nil => rfl
  | cons p ps =>
    have hbarred : (s.frame.committing || !s.ceUp) = true := by
      rcases h with h | h | h
      · rw [hdue] at h
        cases h
      · simp [h]
      · simp [h]
    simp only [hbarred, if_true]

theorem eventLogWrite_of_due {p : Pend} {ps : List Pend} {s : State} (hdue : s.log.due = p :: ps) (hslot : s.frame.committing = false)
    (hce : s.ceUp = true) : exec .eventLogWrite s = .next { s with log := { s.log with due := ps }.append p } := by
  show Host.Outcome.next (eventLogWrite s) = _
  simp only [eventLogWrite, hdue, hslot, hce, Bool.not_true, Bool.or_self, Bool.false_eq_true, if_false]

/-- Settles O7: each destination by `eventDelivery_of_due`, the entry of the log by `append_eq`. -/
theorem eventsReachTheirDestinations : Obligations.EventsReachTheirDestinations := by
  unfold Obligations.EventsReachTheirDestinations
  refine ⟨fun d s h => eventDelivery_of_not_due h, fun p s hnext hroom => ⟨_, eventDelivery_of_due hnext hroom, ?_⟩,
    fun p s hnext hroom => ?_, fun p s hnext hroom => eventDelivery_of_due hnext hroom,
    fun p s hnext hroom => eventDelivery_of_due hnext hroom, fun p s hnext hroom => eventDelivery_of_due hnext hroom,
    fun p s hnext hroom => ⟨_, eventDelivery_of_due hnext hroom, ?_, ?_, ?_⟩, fun s h => eventLogWrite_of_none h,
    fun p ps s hdue hslot hce => ⟨_, eventLogWrite_of_due hdue hslot hce, ?_⟩⟩
  · obtain ⟨w, hw⟩ := coreWake_only { s with
      events := s.events.map fun x => if x = p then { p.delivered s.frame.number with offered := true } else x }
    simp only [State.deliverTo, hw]
  · rw [eventDelivery_of_due hnext hroom, deliverTo_host hroom]
  · simp only [State.deliverTo]
  · simp only [State.deliverTo, delivered_ev]
  · simp only [State.deliverTo, delivered_ev, bitAt_sub_and_two_pow]
  · obtain ⟨e, happend, hseq, hbody, hhead, hchain⟩ := append_eq p { s.log with due := ps }
    refine ⟨e, ?_, hseq, hbody, ?_, hchain⟩
    · rw [happend]
    · exact hhead

end Sys2Proof.Proofs
end

section
/-! PROOF. The core's interrupts, its timer and its watchdog (R555, R557, R559, R561 to R564). -/

namespace Sys2Proof.Proofs

open Sys2Proof Sys2Proof.Machine Sys2Proof.Laws

/-! ### A core that does not run -/

theorem core_commands_of_stopped {v mie : Nat} {c : Instr} {s : State} (hstop : s.coreRuns = false)
    (hc : c = .msipWrite v ∨ c = .localAck v ∨ c = .wdtKick v ∨ c = .claim ∨ c = .wfi mie) : exec c s = .next s := by
  rcases hc with rfl | rfl | rfl | rfl | rfl
  · show Host.Outcome.next (msipWrite v s) = _
    simp [msipWrite, hstop]
  · show Host.Outcome.next (localAck v s) = _
    simp [localAck, hstop]
  · show Host.Outcome.next (wdtKick v s) = _
    simp [wdtKick, hstop]
  · show Host.Outcome.next (claim s) = _
    simp [claim, hstop]
  · show Host.Outcome.next (wfiStop mie s) = _
    simp [wfiStop, hstop]

/-! ### The software interrupt, the local interrupts and the watchdog -/

/-- The software interrupt is pending at the core under bit 3 (Table 17.1). -/
theorem coreIrqs_of_msip {s : State} (h : s.core.msip = true) : ∃ k, s.coreIrqs = 8 + 16 * k := by
  refine ⟨s.coreIrqs / 16, ?_⟩
  have hlow : s.coreIrqs % 16 = 8 := by
    have hbit : ∀ (b : Bool) (i : Nat), 4 ≤ i → flagAt b i % 16 = 0 := fun b i hi => by
      obtain ⟨j, rfl⟩ := Nat.exists_eq_add_of_le hi
      rw [flagAt, Nat.pow_add]
      split <;> simp
    unfold State.coreIrqs
    rw [h, flagAt, if_pos rfl]
    have h1 := hbit s.core.mtip 7 (by decide)
    have h2 := hbit (s.events.any s.core.eligible) 11 (by decide)
    have h3 := hbit (s.core.l16 && !s.core.withheld) 16 (by decide)
    have h4 := hbit (s.core.l17 && !s.core.withheld) 17 (by decide)
    have h5 := hbit s.core.l18 18 (by decide)
    omega
  omega

theorem and_ne_zero_of_bits {n mie : Nat} (i : Nat) (hn : n.testBit i = true) (hmie : bitAt mie i = true) : n &&& mie ≠ 0 := by
  intro hzero
  have hbit : (n &&& mie).testBit i = true := by
    rw [Nat.testBit_and, hn, Nat.testBit_eq_decide_div_mod_eq]
    simpa [bitAt] using hmie
  rw [hzero, Nat.zero_testBit] at hbit
  cases hbit

/-- A software interrupt that is enabled ends WFI. -/
theorem coreWake_of_msip {s : State} {mie : Nat} (hce : s.ceUp = true) (hmsip : s.core.msip = true) (hwfi : s.core.wfi = some mie)
    (hmie : bitAt mie 3 = true) : s.coreWake.core.wfi = none := by
  obtain ⟨k, hk⟩ := coreIrqs_of_msip hmsip
  have hpending : s.coreIrqs &&& mie ≠ 0 := and_ne_zero_of_bits 3 (by
    rw [hk, Nat.testBit_eq_decide_div_mod_eq, decide_eq_true_eq]
    omega) hmie
  simp only [State.coreWake, hwfi, hce, Bool.true_and, bne_iff_ne, ne_eq, hpending, not_false_eq_true, if_true]

theorem ceUp_of_coreRuns {s : State} (h : s.coreRuns = true) : s.ceUp = true := by
  simp only [State.coreRuns, Bool.and_eq_true] at h
  exact h.1

theorem msipWrite_eq (v : Nat) {s : State} (hrun : s.coreRuns = true) :
    exec (.msipWrite v) s = .next (s.modCore fun c => { c with msip := v % 2 == 1 }).coreWake := by
  show Host.Outcome.next (msipWrite v s) = _
  rw [msipWrite, if_pos hrun]

theorem localAck_eq (v : Nat) {s : State} (hrun : s.coreRuns = true) :
    exec (.localAck v) s = .next { s with core := { s.core with
      l16 := s.core.l16 && !bitAt v 16, l17 := s.core.l17 && !bitAt v 17, l18 := s.core.l18 && !bitAt v 18 } } := by
  show Host.Outcome.next (localAck v s) = _
  rw [localAck, if_pos hrun]
  rfl

theorem wdtKick_eq (v : Nat) {s : State} (hrun : s.coreRuns = true) :
    exec (.wdtKick v) s = .next (if v = 0xC3A5 then { s with core := { s.core with wdtCount := 0 } } else s) := by
  show Host.Outcome.next (wdtKick v s) = _
  simp only [wdtKick, hrun, Bool.true_and, beq_iff_eq]
  rfl

/-! ### CLAIM (R562) -/

/-- Of two occurrences the one that CLAIM prefers: the higher priority, the lower number among equals. -/
def claimsBefore (c : AppCore) (p q : Pend) : Prop := c.prio q.ev < c.prio p.ev ∨ c.prio q.ev = c.prio p.ev ∧ p.ev ≤ q.ev

theorem claimsBefore_refl (c : AppCore) (p : Pend) : claimsBefore c p p := .inr ⟨rfl, Nat.le_refl _⟩

theorem claimsBefore_trans {c : AppCore} {p q r : Pend} (h1 : claimsBefore c p q) (h2 : claimsBefore c q r) : claimsBefore c p r := by
  unfold claimsBefore at *
  omega

/-- The better of the best occurrence so far and the next. -/
def betterClaim (c : AppCore) (best : Option Pend) (p : Pend) : Option Pend :=
  match best with
  | none => some p
  | some b => if c.prio b.ev < c.prio p.ev ∨ (c.prio b.ev = c.prio p.ev ∧ p.ev < b.ev) then some p else some b

theorem claimable_eq (s : State) : s.claimable = (s.events.filter s.core.eligible).foldl (betterClaim s.core) none := rfl

theorem betterClaim_some (c : AppCore) (b p : Pend) :
    ∃ x, betterClaim c (some b) p = some x ∧ (x = b ∨ x = p) ∧ claimsBefore c x b ∧ claimsBefore c x p := by
  unfold betterClaim claimsBefore
  dsimp only
  split
  · exact ⟨p, rfl, .inr rfl, by omega, by omega⟩
  · exact ⟨b, rfl, .inl rfl, by omega, by omega⟩

theorem foldl_betterClaim (c : AppCore) (l : List Pend) (b : Pend) :
    ∃ x, l.foldl (betterClaim c) (some b) = some x ∧ (x = b ∨ x ∈ l) ∧ claimsBefore c x b ∧ ∀ q ∈ l, claimsBefore c x q := by
  induction l generalizing b with
  | nil => exact ⟨b, rfl, .inl rfl, claimsBefore_refl c b, fun q hq => absurd hq (List.not_mem_nil)⟩
  | cons p l ih =>
    obtain ⟨y, hy, hmem, hyb, hyp⟩ := betterClaim_some c b p
    obtain ⟨x, hx, hxmem, hxy, hall⟩ := ih y
    refine ⟨x, by rw [List.foldl_cons, hy, hx], ?_, claimsBefore_trans hxy hyb, fun q hq => ?_⟩
    · rcases hxmem with rfl | hxmem
      · rcases hmem with rfl | rfl
        · exact .inl rfl
        · exact .inr (List.mem_cons_self ..)
      · exact .inr (List.mem_cons_of_mem _ hxmem)
    · rcases List.mem_cons.mp hq with rfl | hq
      · exact claimsBefore_trans hxy hyp
      · exact hall q hq

theorem claimable_of_none {s : State} (h : ∀ q ∈ s.events, s.core.eligible q = false) : s.claimable = none := by
  have hempty : s.events.filter s.core.eligible = [] := List.filter_eq_nil_iff.mpr fun q hq => by simp [h q hq]
  rw [claimable_eq, hempty, List.foldl_nil]

theorem claimable_of_some {s : State} (h : ∃ q ∈ s.events, s.core.eligible q = true) :
    ∃ p, s.claimable = some p ∧ p ∈ s.events ∧ s.core.eligible p = true ∧
      ∀ q ∈ s.events, s.core.eligible q = true → claimsBefore s.core p q := by
  obtain ⟨q, hq, helig⟩ := h
  rw [claimable_eq]
  cases hl : s.events.filter s.core.eligible with
  | nil => simpa [hq, helig] using List.filter_eq_nil_iff.mp hl q hq
  | cons b l =>
    obtain ⟨x, hx, hmem, hxb, hall⟩ := foldl_betterClaim s.core l b
    have hin : x ∈ s.events.filter s.core.eligible := by
      rw [hl]
      exact List.mem_cons.mpr hmem
    refine ⟨x, hx, (List.mem_filter.mp hin).1, (List.mem_filter.mp hin).2, fun r hr hr' => ?_⟩
    have hr2 : r ∈ b :: l := hl ▸ List.mem_filter.mpr ⟨hr, hr'⟩
    rcases List.mem_cons.mp hr2 with rfl | hr3
    · exact hxb
    · exact hall r hr3

theorem claim_of_none {s : State} (hrun : s.coreRuns = true) (h : ∀ q ∈ s.events, s.core.eligible q = false) :
    exec .claim s = .next { s with core := { s.core with claim := 0 } } := by
  show Host.Outcome.next (claim s) = _
  simp only [claim, hrun, claimable_of_none h, Bool.not_true, Bool.false_eq_true, if_false]
  rfl

theorem claim_of_some {s : State} {p : Pend} (hrun : s.coreRuns = true) (h : s.claimable = some p) :
    exec .claim s = .next { s with
      events := s.events.erase p
      core := { s.core with
        claim := 2 ^ 31 + p.ev, claimInfo := p.count % 256 * 65536 + p.code % 65536, claimArg := p.arg
        claimFrame := p.frame % 2 ^ 32 } } := by
  show Host.Outcome.next (claim s) = _
  simp only [claim, hrun, h, Bool.not_true, Bool.false_eq_true, if_false]

/-! ### WFI, the timer and the reservation -/

theorem wfi_eq (mie : Nat) {s u : State} (hrun : s.coreRuns = true)
    (hu : u = { s with core := { s.core with csr := { s.core.csr with mie := mie &&& 0x70888, user := false } } }) :
    exec (.wfi mie) s = .next (if u.coreIrqs &&& (mie &&& 0x70888) = 0
      then { u with core := { u.core with wfi := some (mie &&& 0x70888), hold := false } } else u) := by
  subst hu
  show Host.Outcome.next (wfiStop mie s) = _
  simp only [wfiStop, hrun, if_true, beq_iff_eq]
  rfl

theorem mtimecmpMatch_of_due {s : State} (hce : s.ceUp = true) (hdue : s.core.mtimecmp ≤ s.pwr.mtime) :
    exec .mtimecmpMatch s = .next (s.modCore fun c => { c with mtip := true }).coreWake := by
  show Host.Outcome.next (mtimecmpMatch s) = _
  simp only [mtimecmpMatch, hce, hdue, decide_true, Bool.and_self, if_true]

theorem mtimecmpMatch_of_not_due {s : State} (h : s.ceUp = false ∨ s.pwr.mtime < s.core.mtimecmp) :
    exec .mtimecmpMatch s = .next s := by
  show Host.Outcome.next (mtimecmpMatch s) = _
  rcases h with h | h
  · simp [mtimecmpMatch, h]
  · simp [mtimecmpMatch, Nat.not_le.mpr h]

theorem reservationSpent_eq {spent : Nat} {s : State} (hspent : spent = us 60 + coreTime s.eff (framePhase s.eff s.frame.number)) :
    exec .reservationSpent s = .next (if spent ≤ s.frame.nowQ then { s with core := { s.core with hold := false } } else s) := by
  subst hspent
  rfl

/-- Settles O42: each command by its equation, the wake of WFI by `coreWake_only` and `coreWake_of_msip`, the choice of CLAIM by
`claimable_of_some`. -/
theorem coreInterruptsAndTimer : Obligations.CoreInterruptsAndTimer := by
  unfold Obligations.CoreInterruptsAndTimer
  refine ⟨fun v mie c s hstop hc => core_commands_of_stopped hstop hc,
    fun v s hrun => ⟨⟨_, msipWrite_eq v hrun, ?_, fun mie hwfi hv hmie => ?_⟩, localAck_eq v hrun, wdtKick_eq v hrun⟩,
    fun s hrun => ⟨claim_of_none hrun, fun h => ?_⟩, fun mie s u hrun hu => wfi_eq mie hrun hu,
    fun s => ⟨fun hce hdue => ⟨_, mtimecmpMatch_of_due hce hdue, ?_⟩, mtimecmpMatch_of_not_due⟩,
    fun spent s hspent => ⟨fun h => ?_, fun h => ?_⟩⟩
  · obtain ⟨w, hw⟩ := coreWake_only (s.modCore fun c => { c with msip := v % 2 == 1 })
    rw [hw]
    rfl
  · exact coreWake_of_msip (ceUp_of_coreRuns hrun) (by simp [State.modCore, hv]) hwfi hmie
  · obtain ⟨p, hp, hmem, helig, hbest⟩ := claimable_of_some h
    exact ⟨_, claim_of_some hrun hp, p, hmem, helig, hbest, rfl⟩
  · obtain ⟨w, hw⟩ := coreWake_only (s.modCore fun c => { c with mtip := true })
    rw [hw]
    rfl
  · rw [reservationSpent_eq hspent, if_pos h]
  · rw [reservationSpent_eq hspent, if_neg (Nat.not_le.mpr h)]

end Sys2Proof.Proofs
end

section
/-! PROOF. The core's own requests and the customer requests it serves (R560, R565 to R567). -/

namespace Sys2Proof.Proofs

open Sys2Proof Sys2Proof.Machine Sys2Proof.Laws

/-! ### REQ_GO (R565) -/

/-- The request that the access port's window holds (Table 17.4). -/
def windowRequest (c : AppCore) : Request :=
  { via := .window, gen := 3, hdr := 3, bad := decide (1044 < c.reqLen % 65536), op := field c.reqHdr 31 24
    index := c.reqHdr % 65536, sub := field c.reqHdr 23 16, id := 0, data := c.reqData.take (c.reqLen % 65536) }

theorem submit_of_waits {s : State} {r : Request}
    (h : s.mustWait r = true ∨ (s.acc.waiting.any fun x => x.via.port == r.via.port) = true) :
    s.submit r = { s with acc := { s.acc with waiting := s.acc.waiting ++ [r] } } := by
  rw [State.submit, if_pos (by rcases h with h | h <;> simp [h])]

theorem submit_of_free {s : State} {r : Request} (hwait : s.mustWait r = false)
    (hbehind : (s.acc.waiting.any fun x => x.via.port == r.via.port) = false) : s.submit r = s.serveNow r := by
  rw [State.submit, if_neg (by simp [hwait, hbehind])]

theorem reqGo_of_go {v : Nat} {s : State} (hrun : s.coreRuns = true) (hv : v % 2 = 1) (hfree : s.core.reqBusy = false) :
    exec (.reqGo v) s = .next ((s.modCore fun c => { c with reqBusy := true }).submit (windowRequest s.core)) := by
  show Host.Outcome.next (reqGo v s) = _
  simp only [reqGo, hrun, hv, hfree, beq_self_eq_true, Bool.not_false, Bool.and_self, if_true]
  rfl

theorem reqGo_of_none {v : Nat} {s : State} (h : s.coreRuns = false ∨ v % 2 = 0 ∨ s.core.reqBusy = true) :
    exec (.reqGo v) s = .next s := by
  show Host.Outcome.next (reqGo v s) = _
  rcases h with h | h | h <;> simp [reqGo, h]

/-! ### CUSTOMER_REQUEST_HELD (R560, R566) -/

theorem admittedRequest_mem {s : State} {r : Request} (h : s.admittedRequest = some r) :
    r ∈ s.acc.customer ∧ custJob r.via.port ∈ s.frame.waiting := by
  obtain ⟨j, hj, hfind⟩ := List.exists_of_findSome?_eq_some h
  have hport : r.via.port = j.job := by simpa using List.find?_some hfind
  obtain ⟨hwaits, hkind⟩ := List.mem_filter.mp hj
  have hjob : custJob r.via.port = j := by
    obtain ⟨kind, job⟩ := j
    simp only [beq_iff_eq] at hkind
    rw [custJob, hport]
    exact congrArg (DynJob.mk · job) hkind.symm
  exact ⟨List.mem_of_find?_eq_some hfind, hjob ▸ hwaits⟩

/-- CUST_INFO of a held request: its port, the role it acts with, and the length of its data, with the mark of a request held. -/
def heldInfo (r : Request) : Nat := r.via.port * 2 ^ 28 + r.hdr % 16 * 2 ^ 24 + 65536 + r.data.length % 65536

theorem heldInfo_length (r : Request) : heldInfo r % 65536 = r.data.length % 65536 := by
  unfold heldInfo
  omega

theorem heldInfo_mark (r : Request) : bitAt (heldInfo r) 16 = true := by
  simp only [heldInfo, bitAt, beq_iff_eq]
  omega

theorem customerRequestHeld_of_none {s : State}
    (h : s.admittedRequest = none ∨ s.core.held ≠ none ∨ s.core.state ≠ 2 ∨ s.frame.running = false) :
    exec .customerRequestHeld s = .next s := by
  show Host.Outcome.next (customerRequestHeld s) = _
  unfold customerRequestHeld
  cases hadm : s.admittedRequest with
  | none => rfl
  | some r =>
    rw [hadm] at h
    rcases h with h | h | h | h
    · cases h
    · simp [h]
    · simp [h]
    · simp [h]

theorem customerRequestHeld_of_due {s : State} {r : Request} (hadm : s.admittedRequest = some r) (hheld : s.core.held = none)
    (himage : s.core.state = 2) (hrun : s.frame.running = true) :
    exec .customerRequestHeld s = .next (State.coreWake { s with
      acc := { s.acc with customer := s.acc.customer.erase r }
      core := { s.core with
        held := some r, heldAt := s.frame.now, l16 := true, custHdr := r.word0, custInfo := heldInfo r
        custData := overBytes r.data s.core.custData } }) := by
  show Host.Outcome.next (customerRequestHeld s) = _
  simp only [customerRequestHeld, hadm, hheld, himage, hrun, Option.isNone_none, beq_self_eq_true, Bool.and_self, if_true]
  rfl

/-! ### The end of a held request (R566, R567) -/

/-- A held request with nothing else waiting has been answered and let go. -/
structure LetGo (s : State) (r : Request) (t : State) : Prop where
  held : t.core.held = none
  timeouts : t.core.custTimeouts = s.core.custTimeouts
  frame : t.frame = s.frame.finish (custJob r.via.port)
  settings : t.set = s.set
  memory : t.mem = s.mem
  access : t.acc = s.acc

theorem LetGo_answered {s u : State} {r : Request} {byCore : Bool} {abort : Nat} {data : List Nat}
    (hu : LetGo s r u) (hcustomer : s.acc.waiting = []) (hspi : u.q.spiIn = []) :
    (u.answer r byCore abort data).serveAll = u.answer r byCore abort data ∧ LetGo s r (u.answer r byCore abort data) := by
  refine ⟨serveAll_of_none ?_ ?_, ?_⟩
  · rw [answer_acc, hu.access, hcustomer]
  · rw [answer_q_spiIn, hspi]
  · exact ⟨by rw [answer_core_held, hu.held], by rw [answer_core_custTimeouts, hu.timeouts], by rw [answer_frame, hu.frame],
      by rw [answer_set, hu.settings], by rw [answer_mem, hu.memory], by rw [answer_acc, hu.access]⟩

/-- The device with the held request let go. -/
def letGo (r : Request) (s : State) : State :=
  { s with
    core := { s.core with held := none, custInfo := s.core.custInfo - s.core.custInfo / 65536 % 2 * 65536 }
    frame := s.frame.finish (custJob r.via.port) }

theorem finishHeld_eq {s : State} {r : Request} (hheld : s.core.held = some r) (hwaiting : s.acc.waiting = []) (hspi : s.q.spiIn = [])
    (abort : Nat) (data : List Nat) (byCore : Bool) :
    s.finishHeld abort data byCore = (letGo r s).answer r byCore abort data ∧ LetGo s r ((letGo r s).answer r byCore abort data) := by
  have hgone : LetGo s r (letGo r s) := ⟨rfl, rfl, rfl, rfl, rfl, rfl⟩
  obtain ⟨hserve, hletGo⟩ := LetGo_answered (byCore := byCore) (abort := abort) (data := data) hgone hwaiting hspi
  refine ⟨?_, hletGo⟩
  simp only [State.finishHeld, hheld]
  exact hserve

/-- The answer to an IO-Link master (R481, R482). -/
theorem answer_isdu {r : Request} (hvia : r.via = .isdu) (byCore : Bool) (abort : Nat) (data : List Nat) (s : State) :
    (s.answer r byCore abort data).iol = { s.iol with
      response := some (iolError abort (longerThanType r.index r.sub r.data), if r.sub = 0 then data else iolOrder r.index r.sub data)
      lastAbort := if abort = abortOk then s.iol.lastAbort else abort
      busy := false } := by
  have hport : r.via.port ≠ 0 := by rw [hvia]; decide
  simp only [State.answer]
  rw [if_neg hport, count_iol, hvia]

/-- No line of the tables lists a customer entry. -/
theorem rowOf_customer {index sub : Nat} (hcustomer : customerIndex index = true) (hsub : sub < 256) : rowOf (key index sub) = none := by
  have hindex : keyIndex (key index sub) = index := by
    unfold keyIndex key
    omega
  simp only [customerIndex, within, Bool.and_eq_true, decide_eq_true_eq] at hcustomer
  have hrows : rowsOf (index / 256) = [] := by
    have hlo : 0x30 ≤ index / 256 := by omega
    have hhi : index / 256 ≤ 0x3F := by omega
    interval_cases index / 256 <;> rfl
  rw [rowOf, hindex, hrows]
  rfl

theorem iolOrder_customer {index sub : Nat} (hcustomer : customerIndex index = true) (hsub : sub < 256) (data : List Nat) :
    iolOrder index sub data = data.reverse := by
  rw [iolOrder, rowOf_customer hcustomer hsub]

theorem iolOrder_nil (index sub : Nat) : iolOrder index sub [] = [] := by
  unfold iolOrder
  split
  · split <;> rfl
  · rfl

/-- A refusal answered to an IO-Link master carries no data. -/
theorem answer_isdu_refused {r : Request} (hvia : r.via = .isdu) (byCore : Bool) {abort : Nat} (habort : abort ≠ abortOk) (s : State) :
    (s.answer r byCore abort []).iol = { s.iol with
      response := some (iolError abort (longerThanType r.index r.sub r.data), []), lastAbort := abort, busy := false } := by
  rw [answer_isdu hvia, if_neg habort, iolOrder_nil, ite_self]

/-- The abort code that is sent for one that the core answers with. -/
def sentAbort (abort : Nat) : Nat := if coreMayAnswer abort then abort else abortState

theorem custDone_of_held {v : Nat} {s : State} (hrun : s.coreRuns = true) (hv : v % 2 = 1) :
    exec (.custDone v) s = .next (s.finishHeld (sentAbort (s.core.custResult % 65536))
      (if sentAbort (s.core.custResult % 65536) = abortOk then s.core.custData.take (s.core.custResult / 65536 % 65536) else []) true) := by
  show Host.Outcome.next (custDone v s) = _
  simp only [custDone, hrun, hv, beq_self_eq_true, Bool.and_self, if_true]
  rfl

theorem finishHeld_of_none {s : State} (h : s.core.held = none) (abort : Nat) (data : List Nat) (byCore : Bool) :
    s.finishHeld abort data byCore = s := by
  simp only [State.finishHeld, h]

theorem custDone_of_none {v : Nat} {s : State} (h : s.coreRuns = false ∨ v % 2 = 0 ∨ s.core.held = none) :
    exec (.custDone v) s = .next s := by
  show Host.Outcome.next (custDone v s) = _
  unfold custDone
  rcases h with h | h | h
  · simp [h]
  · simp [h]
  · rw [finishHeld_of_none h, ite_self]

theorem custTimeout_of_none {s : State} (h : s.core.held = none ∨ s.frame.now < s.core.heldAt + usNow (1000 * s.on_ 0x1D01 2)) :
    exec .custTimeout s = .next s := by
  show Host.Outcome.next (custTimeout s) = _
  rw [custTimeout, if_pos]
  rcases h with h | h
  · exact .inl (by rw [h]; rfl)
  · exact .inr h

theorem custTimeout_of_due {s : State} {r : Request} (hheld : s.core.held = some r)
    (hdue : s.core.heldAt + usNow (1000 * s.on_ 0x1D01 2) ≤ s.frame.now) :
    exec .custTimeout s = .next (({ s with core := { s.core with custTimeouts := satInc (2 ^ 32 - 1) s.core.custTimeouts } } : State).finishHeld
      abortState [] false) := by
  show Host.Outcome.next (custTimeout s) = _
  rw [custTimeout, if_neg]
  · rfl
  · rintro (h | h)
    · rw [hheld] at h
      cases h
    · exact absurd h (Nat.not_lt.mpr hdue)

/-- Settles O43: REQ_GO by `submit_of_waits` and `submit_of_free`, the hold by `admittedRequest_mem`, the ends of a held request by
`finishHeld_eq` and `answer_isdu`. -/
theorem customerRequestsAreHeldAndAnswered : Obligations.CustomerRequestsAreHeldAndAnswered := by
  unfold Obligations.CustomerRequestsAreHeldAndAnswered
  refine ⟨fun v r s hr => ⟨fun hrun hv hfree => ⟨fun h => ?_, fun hslot hport hbehind => ?_⟩, reqGo_of_none⟩,
    fun s => ⟨customerRequestHeld_of_none, fun r hadm hheld himage hrun => ?_⟩,
    fun v s => ⟨custDone_of_none, fun r hrun hv hheld _ hwaiting hspi => ?_⟩,
    fun s => ⟨custTimeout_of_none, fun r hheld hdue _ hwaiting hspi => ?_⟩⟩
  · rw [reqGo_of_go hrun hv hfree, submit_of_waits, show windowRequest s.core = r from hr.symm]
    · rfl
    · rcases h with h | h | h
      · exact .inl (Bool.or_eq_true_iff.mpr (.inl h))
      · exact .inl (Bool.or_eq_true_iff.mpr (.inr h))
      · exact .inr h
  · have hsubmit := submit_of_free (s := s.modCore fun c => { c with reqBusy := true }) (r := windowRequest s.core)
      (Bool.or_eq_false_iff.mpr ⟨hslot, hport⟩) hbehind
    rw [reqGo_of_go hrun hv hfree, hsubmit, show windowRequest s.core = r from hr.symm]
    rfl
  · obtain ⟨hmem, hjob⟩ := admittedRequest_mem hadm
    refine ⟨hmem, hjob, _, customerRequestHeld_of_due hadm hheld himage hrun, heldInfo r, overBytes r.data s.core.custData, ?_,
      overBytes_take _ _, heldInfo_length r, heldInfo_mark r⟩
    obtain ⟨w, hw⟩ := coreWake_only { s with
      acc := { s.acc with customer := s.acc.customer.erase r }
      core := { s.core with
        held := some r, heldAt := s.frame.now, l16 := true, custHdr := r.word0, custInfo := heldInfo r
        custData := overBytes r.data s.core.custData } }
    rw [hw]
    rfl
  · obtain ⟨hfinish, hgone⟩ := finishHeld_eq hheld hwaiting hspi (sentAbort (s.core.custResult % 65536))
      (if sentAbort (s.core.custResult % 65536) = abortOk then s.core.custData.take (s.core.custResult / 65536 % 65536) else []) true
    refine ⟨_, custDone_of_held hrun hv, ?_⟩
    rw [hfinish]
    refine ⟨hgone.held, hgone.frame, hgone.settings, hgone.memory, hgone.access, fun hvia hcustomer hsub1 hsub256 => ?_⟩
    have hsub : r.sub ≠ 0 := by omega
    rw [answer_isdu hvia, if_neg hsub]
    refine ⟨rfl, fun hok => ?_, fun hrange => ?_, fun hauth => ?_⟩
    · rw [hok, iolOrder_customer hcustomer hsub256]
      rfl
    · simp only [hrange, show sentAbort abortRange = abortRange from rfl, show ¬abortRange = abortOk by decide, if_false, iolOrder_nil]
      exact ⟨rfl, trivial⟩
    · simp only [hauth, show sentAbort abortAuth = abortState from rfl, show ¬abortState = abortOk by decide, if_false, iolOrder_nil]
      exact ⟨rfl, trivial⟩
  · obtain ⟨hfinish, hgone⟩ := finishHeld_eq (s := { s with core := { s.core with custTimeouts := satInc (2 ^ 32 - 1) s.core.custTimeouts } })
      hheld hwaiting hspi abortState [] false
    refine ⟨_, custTimeout_of_due hheld hdue, ?_⟩
    rw [hfinish]
    refine ⟨hgone.held, hgone.timeouts, hgone.frame, hgone.settings, hgone.memory, hgone.access, fun hvia _ => ?_⟩
    rw [answer_isdu_refused hvia false (by decide)]
    exact ⟨rfl, rfl⟩

end Sys2Proof.Proofs
end

section
/-! PROOF. The core's queues and mailboxes (R568, R569), and the boot verification (R571, R573). -/

namespace Sys2Proof.Proofs

open Sys2Proof Sys2Proof.Machine Sys2Proof.Laws

/-! ### The IN queue -/

theorem refillCore_only (fuel : Nat) (q : Queues) : ∃ words held, q.refillCore fuel = { q with coreIn := words, coreHeld := held } := by
  induction fuel generalizing q with
  | zero => exact ⟨_, _, rfl⟩
  | succ fuel ih =>
    unfold Queues.refillCore
    split
    · exact ⟨_, _, rfl⟩
    · next r rs _ =>
      split
      · obtain ⟨words, held, h⟩ := ih { q with coreIn := q.coreIn ++ r.words, coreHeld := rs }
        exact ⟨words, held, h⟩
      · exact ⟨_, _, rfl⟩

theorem refillCore_of_none {fuel : Nat} {q : Queues} (h : q.coreHeld = []) : q.refillCore fuel = q := by
  cases fuel with
  | zero => rfl
  | succ fuel => simp only [Queues.refillCore, h]

/-- The queues with the front word of the IN queue taken. -/
def frontPopped (q : Queues) : Queues := { q with popped := q.coreIn.headD 0, coreIn := q.coreIn.drop 1 }

theorem inDataPop_eq {s : State} (hrun : s.coreRuns = true) :
    exec .inDataPop s = .next { s with q := (frontPopped s.q).refillCore s.q.coreHeld.length } := by
  show Host.Outcome.next (inDataPop s) = _
  rw [inDataPop, if_pos hrun]
  rfl

theorem inDataPop_does {s : State} (hrun : s.coreRuns = true) :
    Does .inDataPop s fun t =>
      t.q.popped = s.q.coreIn.headD 0 ∧ (s.q.coreHeld = [] → t.q.coreIn = s.q.coreIn.drop 1 ∧ t.q.coreHeld = []) ∧
      t = { s with q := { s.q with popped := t.q.popped, coreIn := t.q.coreIn, coreHeld := t.q.coreHeld } } := by
  obtain ⟨words, held, h⟩ := refillCore_only s.q.coreHeld.length (frontPopped s.q)
  refine ⟨_, inDataPop_eq hrun, by rw [h]; rfl, fun hheld => ?_, by rw [h]; rfl⟩
  rw [refillCore_of_none (q := frontPopped s.q) hheld]
  exact ⟨rfl, hheld⟩

/-! ### The OUT queue -/

/-- The device with the pushed words taken out. -/
def outTaken (s : State) : State := { s with q := { s.q with coreOut := [] } }

theorem outSubmit_of_other {v : Nat} {s : State} (h : s.coreRuns = false ∨ v % 2 = 0) : exec (.outSubmit v) s = .next s := by
  show Host.Outcome.next (outSubmit v s) = _
  rcases h with h | h <;> simp [outSubmit, h]

theorem outSubmit_of_torn {v : Nat} {s : State} (hrun : s.coreRuns = true) (hv : v % 2 = 1)
    (h : wholeRecords s.q.coreOut.length s.q.coreOut = none) : exec (.outSubmit v) s = .next ((outTaken s).linkError 0) := by
  show Host.Outcome.next (outSubmit v s) = _
  simp only [outSubmit, hrun, hv, beq_self_eq_true, Bool.and_self, if_true, h]
  rfl

theorem outSubmit_of_whole {v : Nat} {s : State} {rs : List InRec} (hrun : s.coreRuns = true) (hv : v % 2 = 1)
    (h : wholeRecords s.q.coreOut.length s.q.coreOut = some rs) : exec (.outSubmit v) s = .next ((outTaken s).takeCore rs) := by
  show Host.Outcome.next (outSubmit v s) = _
  simp only [outSubmit, hrun, hv, beq_self_eq_true, Bool.and_self, if_true, h]
  rfl

theorem takeCore_of_bad {s : State} {rs : List InRec} {x : InRec} (hx : x ∈ rs) (hbad : x.bad = true) : s.takeCore rs = s.linkError 0 :=
  if_pos (List.any_eq_true.mpr ⟨x, hx, hbad⟩)

theorem takeCore_of_sound {s : State} {rs : List InRec} (h : ∀ x ∈ rs, x.bad = false) :
    s.takeCore rs = rs.foldl (fun acc x => if x.record.type = 0x08 then acc.answerHello .core x.record
      else acc.submit (acc.requestOf .core x.record)) s :=
  if_neg fun hany => by
    obtain ⟨x, hx, hbad⟩ := List.any_eq_true.mp hany
    rw [h x hx] at hbad
    cases hbad

/-- A link error counts one in the port's count, beside what counting changes. -/
theorem linkError_counts (port : Nat) (s : State) :
    (s.linkError port).q = { s.q with linkErrors := modAt s.q.linkErrors port fun n => min (2 ^ 32 - 1) (n + 1) } ∧
      CountsOnly { s with q := (s.linkError port).q } (s.linkError port) := by
  have hq : (s.linkError port).q = s.q.error port := by
    unfold State.linkError
    rw [count_q]
  refine ⟨hq, ?_⟩
  rw [hq]
  exact CountsOnly_count _ _

theorem outSubmit_discards {v : Nat} {s : State} (hrun : s.coreRuns = true) (hv : v % 2 = 1)
    (h : wholeRecords s.q.coreOut.length s.q.coreOut = none ∨
      ∃ rs x, wholeRecords s.q.coreOut.length s.q.coreOut = some rs ∧ x ∈ rs ∧ x.bad = true) :
    exec (.outSubmit v) s = .next ((outTaken s).linkError 0) := by
  rcases h with h | ⟨rs, x, h, hx, hbad⟩
  · exact outSubmit_of_torn hrun hv h
  · rw [outSubmit_of_whole hrun hv h, takeCore_of_bad hx hbad]

/-! ### The mailboxes -/

theorem mailboxTaken_eq {s : State} (hrun : s.coreRuns = true) :
    exec .mailboxTaken s = .next { s with core := { s.core with mailUnread := false } } := by
  show Host.Outcome.next (mailboxTaken s) = _
  rw [mailboxTaken, if_pos hrun]
  rfl

theorem mailbox_eq {s : State} (hrun : s.coreRuns = true) :
    exec .mailbox s = .next (({ s with core := { s.core with mailPublished := s.core.mailOut } } : State).raise
      { ev := 62, code := 0, arg := ofLe (s.core.mailOut.take 4), src := 0x4B, cls := 2 }) := by
  show Host.Outcome.next (mailbox s) = _
  rw [mailbox, if_pos hrun]
  rfl

theorem queue_commands_of_stopped {v : Nat} {c : Instr} {s : State} (hstop : s.coreRuns = false)
    (hc : c = .inDataPop ∨ c = .outSubmit v ∨ c = .mailboxTaken ∨ c = .mailbox) : exec c s = .next s := by
  rcases hc with rfl | rfl | rfl | rfl
  · show Host.Outcome.next (inDataPop s) = _
    simp [inDataPop, hstop]
  · exact outSubmit_of_other (.inl hstop)
  · show Host.Outcome.next (mailboxTaken s) = _
    simp [mailboxTaken, hstop]
  · show Host.Outcome.next (mailbox s) = _
    simp [mailbox, hstop]

/-! ### The boot verification -/

theorem bootVerifyComplete_of_other {s : State} (h : s.core.state ≠ 1) : exec .bootVerifyComplete s = .next s := by
  show Host.Outcome.next (bootVerifyComplete s) = _
  rw [bootVerifyComplete, if_neg h]

theorem bootVerifyComplete_of_due {s : State} (h : s.core.state = 1) :
    exec .bootVerifyComplete s = .next { s with core := { s.core with
      state := if s.bootCheck = 0 then 2 else 3, failedStep := s.bootCheck
      secVersion := if s.bootCheck = 0 then ofLe (s.mem.readBytes 0x1000000C 4) else s.core.secVersion
      csr := if s.bootCheck = 0 then { s.core.csr with
        pc := ofLe (s.mem.readBytes 0x10000008 4), user := false, pmpcfg := List.replicate 16 0 } else s.core.csr } } := by
  show Host.Outcome.next (bootVerifyComplete s) = _
  rw [bootVerifyComplete, if_pos h]
  rfl

/-- The first bytes of a longer stretch of memory. -/
theorem readBytes_take (m : Memory) (a n k : Nat) (h : k ≤ n) : (m.readBytes a n).take k = m.readBytes a k := by
  induction n generalizing a k with
  | zero => rw [Nat.le_zero.mp h]; rfl
  | succ n ih =>
    cases k with
    | zero => rfl
    | succ k => rw [Memory.readBytes, List.take_succ_cons, ih _ _ (Nat.le_of_succ_le_succ h), Memory.readBytes]

/-- An image without its MAGIC fails the first step (R571). -/
theorem bootCheck_of_no_magic {s : State} (h : s.mem.readBytes 0x10000000 4 ≠ [0x4B, 0x4C, 0x46, 0x49]) : s.bootCheck = 1 := by
  have hmagic : ((s.mem.readBytes imageBase 256).take 4 == [0x4B, 0x4C, 0x46, 0x49]) = false := by
    rw [readBytes_take _ _ _ _ (by decide), beq_eq_false_iff_ne]
    exact h
  unfold State.bootCheck
  simp only [hmagic, Bool.false_and, Bool.not_false, if_true]

/-- Settles O44: the queues by `inDataPop_does`, `outSubmit_discards` and `takeCore_of_sound`, the boot verification by
`bootVerifyComplete_of_due` and `bootCheck_of_no_magic`. -/
theorem queuesMailboxesAndBoot : Obligations.QueuesMailboxesAndBoot := by
  unfold Obligations.QueuesMailboxesAndBoot
  refine ⟨fun v c s hstop hc => queue_commands_of_stopped hstop hc, fun s hrun => inDataPop_does hrun,
    fun v s hrun => ⟨fun hv => outSubmit_of_other (.inr hv), fun hv => ⟨fun h => ⟨_, outSubmit_discards hrun hv h, ?_⟩,
      fun x hwhole hsound htype hslot => ?_, fun rs hwhole hsound => ?_⟩⟩,
    fun s hrun => ⟨mailboxTaken_eq hrun, _, mailbox_eq hrun, EventsOnly_raise _ _⟩,
    fun s => ⟨bootVerifyComplete_of_other, fun h => ⟨_, bootVerifyComplete_of_due h, rfl, bootCheck_of_no_magic⟩⟩⟩
  · obtain ⟨hq, honly⟩ := linkError_counts 0 (outTaken s)
    rw [hq] at honly ⊢
    exact ⟨rfl, honly⟩
  · have hrecords : ∀ y ∈ [x], y.bad = false := fun y hy => by rwa [List.mem_singleton.mp hy]
    rw [outSubmit_of_whole hrun hv hwhole, takeCore_of_sound hrecords, List.foldl_cons, List.foldl_nil, htype, if_neg (by decide),
      submit_of_waits (s := outTaken s) (.inl (Bool.or_eq_true_iff.mpr (.inl hslot)))]
    rfl
  · rw [outSubmit_of_whole hrun hv hwhole, takeCore_of_sound hsound]
    rfl

end Sys2Proof.Proofs
end

section
/-! PROOF. What writes of memory do: those of the core and of the DMA controller, those that the firewall or PMP forbids (R18, R26,
R556, R570), and those of the debug port (R632). -/

namespace Sys2Proof.Proofs

open Sys2Proof Sys2Proof.Machine Sys2Proof.Laws

/-! ### Bytes written -/

/-- A write of several bytes stores each at its place. -/
theorem read_writeBytes_same (bs : List Nat) (m : Memory) (a i : Nat) (h : i < bs.length) :
    (m.writeBytes a bs).read (a + i) = BitVec.ofNat 8 (natAt bs i) := by
  induction bs generalizing m a i with
  | nil => exact absurd h (Nat.not_lt_zero _)
  | cons b bs ih =>
    cases i with
    | zero =>
      have hother := Memory_read_writeBytes_other bs (m.write a (BitVec.ofNat 8 b)) (a + 1) a (.inl (Nat.lt_succ_self a))
      exact hother.trans (Memory_read_write_same _ _ _)
    | succ i =>
      rw [Memory.writeBytes, show a + (i + 1) = a + 1 + i by omega, ih _ _ _ (Nat.lt_of_succ_lt_succ h)]
      rfl

theorem leBytes_length (k n : Nat) : (leBytes k n).length = k := by
  induction k generalizing n with
  | zero => rfl
  | succ k ih => rw [leBytes, List.length_cons, ih]

theorem natAt_leBytes {k i : Nat} (n : Nat) (h : i < k) : natAt (leBytes k n) i = n / 256 ^ i % 256 := by
  induction k generalizing n i with
  | zero => exact absurd h (Nat.not_lt_zero _)
  | succ k ih =>
    cases i with
    | zero => rw [pow_zero, Nat.div_one]; rfl
    | succ i =>
      rw [pow_succ', ← Nat.div_div_eq_div_mul]
      exact ih (n / 256) (Nat.lt_of_succ_lt_succ h)

/-- A value's bytes, least significant first, are stored at rising addresses. -/
theorem read_writeData_same (m : Memory) (addr value : Nat) {width i : Nat} (h : i < width) :
    (m.writeBytes addr (writeData width value)).read (addr + i) = BitVec.ofNat 8 (value / 256 ^ i) := by
  rw [writeData, read_writeBytes_same _ _ _ _ (by rwa [leBytes_length]), natAt_leBytes value h]
  exact BitVec.eq_of_toNat_eq (by simp)

theorem read_writeData_other (m : Memory) (value : Nat) {addr width a : Nat} (h : a < addr ∨ addr + width ≤ a) :
    (m.writeBytes addr (writeData width value)).read a = m.read a :=
  Memory_read_writeBytes_other _ _ _ _ (by rwa [writeData, leBytes_length])

/-! ### The regions a write can store in -/

theorem regionOf_fram {a : Nat} (hlo : 0x10000000 ≤ a) (hhi : a < 0x1005E000) : regionOf a = some .fram := by
  rw [regionOf, if_neg (by omega), if_pos (by omega)]

theorem regionOf_sram {a : Nat} (hlo : 0x20000000 ≤ a) (hhi : a < 0x20020000) : regionOf a = some .sram := by
  rw [regionOf, if_neg (by omega), if_neg (by omega), if_neg (by omega), if_pos (by omega)]

theorem regionOf_backupRam {a : Nat} (hlo : 0x30000000 ≤ a) (hhi : a < 0x30000100) : regionOf a = some .backupRam := by
  rw [regionOf, if_neg (by omega), if_neg (by omega), if_neg (by omega), if_neg (by omega), if_pos (by omega)]

/-- Bytes that lie whole inside the application FRAM, the SRAM or the backup RAM. -/
def InMemory (addr width : Nat) : Prop :=
  0x10000000 ≤ addr ∧ addr + width ≤ 0x1005E000 ∨ 0x20000000 ≤ addr ∧ addr + width ≤ 0x20020000 ∨
    0x30000000 ≤ addr ∧ addr + width ≤ 0x30000100

theorem regionOf_inMemory {addr width a : Nat} (h : InMemory addr width) (hlo : addr ≤ a) (hhi : a < addr + width) :
    regionOf a = some .fram ∧ a < 0x20000000 ∨
      (regionOf a = some .sram ∨ regionOf a = some .backupRam) ∧ 0x20000000 ≤ a := by
  rcases h with h | h | h
  · exact .inl ⟨regionOf_fram (by omega) (by omega), by omega⟩
  · exact .inr ⟨.inl (regionOf_sram (by omega) (by omega)), by omega⟩
  · exact .inr ⟨.inr (regionOf_backupRam (by omega) (by omega)), by omega⟩

/-- No load or store inside these memories faults. -/
theorem accessFaults_inMemory {s : State} {addr width a access : Nat} (h : InMemory addr width) (hlo : addr ≤ a) (hhi : a < addr + width)
    (haccess : access ≠ 0) (user : Bool) : s.accessFaults a access user = false := by
  have hfetch : (access == 0) = false := beq_eq_false_iff_ne.mpr haccess
  rcases regionOf_inMemory h hlo hhi with ⟨h, -⟩ | ⟨h | h, -⟩ <;> simp only [State.accessFaults, h, hfetch]

theorem accessFaults_congr {s u : State} (h : u.perf.uen = s.perf.uen) (a access : Nat) (user : Bool) :
    u.accessFaults a access user = s.accessFaults a access user := by
  unfold State.accessFaults
  rw [h]

/-- A write has stored its bytes and no others, and in the FRAM has dropped the cache lines it hits (R26). -/
structure Stored (s : State) (addr width value : Nat) (t : State) : Prop where
  bytes : ∀ i, i < width → t.mem.read (addr + i) = BitVec.ofNat 8 (value / 256 ^ i)
  others : ∀ a, a < addr ∨ addr + width ≤ a → t.mem.read a = s.mem.read a
  lines : addr < 0x20000000 → ∀ l, l ∈ t.core.icache ↔ (l ∈ s.core.icache ∧ (addr + width ≤ l ∨ l + 32 ≤ addr))
  cacheStands : 0x20000000 ≤ addr → t.core = s.core
  only : t = { s with mem := t.mem, core := { s.core with icache := t.core.icache } }

theorem mem_dropLines (addr width : Nat) (c : AppCore) (l : Nat) :
    l ∈ (c.dropLines addr width).icache ↔ (l ∈ c.icache ∧ (addr + width ≤ l ∨ l + 32 ≤ addr)) := by
  simp only [AppCore.dropLines, List.mem_filter, Bool.not_eq_true', Bool.and_eq_false_iff, decide_eq_false_iff_not, Nat.not_lt]

theorem targetWrite_stores {s : State} {addr width : Nat} (value : Nat) (hwidth : 0 < width) (h : InMemory addr width) :
    Stored s addr width value (s.targetWrite addr width value) := by
  have hbytes : ∀ i, i < width → (s.mem.writeBytes addr (writeData width value)).read (addr + i) = BitVec.ofNat 8 (value / 256 ^ i) :=
    fun i hi => read_writeData_same _ _ _ hi
  have hothers : ∀ a, a < addr ∨ addr + width ≤ a → (s.mem.writeBytes addr (writeData width value)).read a = s.mem.read a :=
    fun a ha => read_writeData_other _ _ ha
  rcases regionOf_inMemory h (Nat.le_refl addr) (by omega) with ⟨hregion, hlow⟩ | ⟨hregion | hregion, hhigh⟩
  · simp only [State.targetWrite, hregion]
    exact ⟨hbytes, hothers, fun _ => mem_dropLines addr width s.core, fun h => absurd h (by omega), rfl⟩
  · simp only [State.targetWrite, hregion]
    exact ⟨hbytes, hothers, fun h => absurd h (by omega), fun _ => rfl, rfl⟩
  · simp only [State.targetWrite, hregion]
    exact ⟨hbytes, hothers, fun h => absurd h (by omega), fun _ => rfl, rfl⟩

/-! ### What counting leaves -/

theorem CountsOnly_core {u t : State} (h : CountsOnly u t) : t.core = u.core := by rw [h]

theorem CountsOnly_mem {u t : State} (h : CountsOnly u t) : t.mem = u.mem := by rw [h]

theorem CountsOnly_acc {u t : State} (h : CountsOnly u t) : t.acc = u.acc := by rw [h]

theorem CountsOnly_uen {u t : State} (h : CountsOnly u t) : t.perf.uen = u.perf.uen := by rw [h]

theorem CountsOnly_withCore {u t : State} (h : CountsOnly u t) (c : AppCore) : CountsOnly { u with core := c } { t with core := c } := by
  unfold CountsOnly at h ⊢
  rw [h]

theorem CountsOnly_modCore {u t : State} (h : CountsOnly u t) (f : AppCore → AppCore) :
    CountsOnly { u with core := f u.core } (t.modCore f) := by
  rw [← CountsOnly_core h]
  exact CountsOnly_withCore h _

theorem CountsOnly_withAcc {u t : State} (h : CountsOnly u t) (a : Access) : CountsOnly { u with acc := a } { t with acc := a } := by
  unfold CountsOnly at h ⊢
  rw [h]

theorem CountsOnly_withMemAndCore {u t : State} (h : CountsOnly u t) (m : Memory) (c : AppCore) :
    CountsOnly { u with mem := m, core := c } { t with mem := m, core := c } := by
  unfold CountsOnly at h ⊢
  rw [h]

/-! ### Forbidden accesses -/

/-- The security block with an access of a master recorded (R570). -/
def firewallRecorded (addr master : Nat) (a : Access) : Access :=
  { a with firewallHits := min (2 ^ 32 - 1) (a.firewallHits + 1), firewallLast := addr % 2 ^ 32, firewallMaster := master % 8 }

theorem CountsOnly_firewallHit (addr master : Nat) (user : Bool) (s : State) :
    CountsOnly { s with acc := firewallRecorded addr master s.acc } (s.firewallHit addr master user) :=
  CountsOnly_count _ _

/-- The core has taken an access fault, which the firewall has recorded. -/
theorem coreFault_recorded {u v : State} (hv : CountsOnly u v) (addr access : Nat) (user : Bool) :
    CountsOnly { u with core := { u.core with csr := u.core.csr.accessFault addr access }, acc := firewallRecorded addr 0 u.acc }
      (v.coreFault addr access true user) := by
  have hhit : CountsOnly { u with acc := firewallRecorded addr 0 u.acc } (v.firewallHit addr 0 user) :=
    CountsOnly_trans (CountsOnly_acc hv ▸ CountsOnly_withAcc hv _) (CountsOnly_firewallHit addr 0 user v)
  exact CountsOnly_modCore hhit fun c => { c with csr := c.csr.accessFault addr access }

theorem coreFault_unrecorded {u v : State} (hv : CountsOnly u v) (addr access : Nat) (user : Bool) :
    CountsOnly { u with core := { u.core with csr := u.core.csr.accessFault addr access } } (v.coreFault addr access false user) :=
  CountsOnly_modCore hv fun c => { c with csr := c.csr.accessFault addr access }

/-- The DMA controller has stopped its transfer with its error flag. -/
theorem dmaFault_recorded {u v : State} (hv : CountsOnly u v) (addr : Nat) :
    CountsOnly { u with core := { u.core with dmaActive := false, dmaError := true }, acc := firewallRecorded addr 1 u.acc }
      ((v.firewallHit addr 1 false).modCore fun c => { c with dmaActive := false, dmaError := true }) := by
  have hhit : CountsOnly { u with acc := firewallRecorded addr 1 u.acc } (v.firewallHit addr 1 false) :=
    CountsOnly_trans (CountsOnly_acc hv ▸ CountsOnly_withAcc hv _) (CountsOnly_firewallHit addr 1 false v)
  exact CountsOnly_modCore hhit _

/-! ### CORE_MEMORY_WRITE of the core -/

theorem coreAt_only (a : CoreAt) (s : State) : ∃ c, s.coreAt a = { s with core := c } := by
  unfold State.coreAt
  split
  · exact ⟨_, (coreWake_only _).choose_spec⟩
  · exact ⟨_, rfl⟩

/-- Whether the firewall forbids an access at its first or its last byte. -/
def barred (s : State) (addr width access : Nat) (user : Bool) : Bool :=
  s.accessFaults addr access user || s.accessFaults (addr + width - 1) access user

theorem barred_congr {s u : State} (h : u.perf.uen = s.perf.uen) (addr width access : Nat) (user : Bool) :
    barred u addr width access user = barred s addr width access user := by
  unfold barred
  rw [accessFaults_congr h, accessFaults_congr h]

theorem barred_inMemory {s : State} {addr width access : Nat} (hwidth : 0 < width) (h : InMemory addr width) (haccess : access ≠ 0) (user : Bool) :
    barred s addr width access user = false := by
  rw [barred, accessFaults_inMemory h (by omega) (by omega) haccess, accessFaults_inMemory h (by omega) (by omega) haccess]
  rfl

theorem coreMemoryWrite_of_stopped {addr width value : Nat} {dma last : Bool} {core : CoreAt} {s : State} (hstop : s.coreRuns = false) :
    exec (.coreMemoryWrite addr width value dma last core) s = .next s := by
  show Host.Outcome.next (coreMemoryWrite addr width value dma last core s) = _
  simp only [coreMemoryWrite, hstop, Bool.not_false, if_true]

/-- The core's write is counted on the bus, and then forbidden by the firewall or by PMP, or made. -/
theorem coreMemoryWrite_of_core {addr width value : Nat} {last : Bool} {core : CoreAt} {s u : State} {user : Bool} (hrun : s.coreRuns = true)
    (hu : u = s.coreAt core) (huser : user = u.core.csr.accessUser 2) : ∃ v, CountsOnly u v ∧
    exec (.coreMemoryWrite addr width value false last core) s = .next (if barred u addr width 2 user then v.coreFault addr 2 true user
      else if !u.core.csr.pmpAllows addr width 2 user then v.coreFault addr 2 false user else v.targetWrite addr width value) := by
  subst hu huser
  have hv := CountsOnly_count [Act.mk 4 0x54 2 (flag ((s.coreAt core).core.csr.accessUser 2)) 0 (some (addr % 2 ^ 32)) 1,
    Act.mk 4 0x52 2 (flag ((s.coreAt core).core.csr.accessUser 2)) 0 (some (addr % 2 ^ 32)) 1] (s.coreAt core)
  refine ⟨_, hv, ?_⟩
  rw [← barred_congr (CountsOnly_uen hv), ← CountsOnly_core hv]
  show Host.Outcome.next (coreMemoryWrite addr width value false last core s) = _
  simp only [coreMemoryWrite, hrun, Bool.not_true, Bool.false_eq_true, if_false, CountsOnly_core hv]
  rfl

/-- The DMA controller's write. -/
theorem coreMemoryWrite_of_dma {addr width value : Nat} {last : Bool} {core : CoreAt} {s : State} (hrun : s.coreRuns = true) :
    ∃ v, CountsOnly s v ∧ exec (.coreMemoryWrite addr width value true last core) s = .next (if barred s addr width 2 false then
        (v.firewallHit addr 1 false).modCore fun c => { c with dmaActive := false, dmaError := true }
      else State.modCore (fun c => { c with dmaActive := !last, dmaError := false }) (v.targetWrite addr width value)) := by
  have hv := CountsOnly_count [Act.mk 4 0x54 2 2 1 (some (addr % 2 ^ 32)) 1] s
  refine ⟨_, hv, ?_⟩
  rw [← barred_congr (CountsOnly_uen hv)]
  show Host.Outcome.next (coreMemoryWrite addr width value true last core s) = _
  simp only [coreMemoryWrite, hrun, Bool.not_true, Bool.false_eq_true, if_false, if_true]
  rfl

/-- What a store after an access that is counted leaves. -/
theorem CountsOnly_of_stored {u v t : State} {addr width value : Nat} (hv : CountsOnly u v) (h : Stored v addr width value t) :
    CountsOnly { u with mem := t.mem, core := { u.core with icache := t.core.icache } } t := by
  have hstored := CountsOnly_withMemAndCore hv t.mem { u.core with icache := t.core.icache }
  have heq : t = { v with mem := t.mem, core := { u.core with icache := t.core.icache } } := by
    rw [← CountsOnly_core hv]
    exact h.only
  rw [← heq] at hstored
  exact hstored

/-! ### FIREWALL_ACCESS_FAULT -/

theorem firewallAccessFault_of_core {addr access : Nat} {core : CoreAt} {s u : State} (hu : u = s.coreAt core) :
    exec (.firewallAccessFault addr 0 access core) s = .next
      (if u.coreRuns && u.accessFaults addr access (u.core.csr.accessUser access)
        then u.coreFault addr access true (u.core.csr.accessUser access) else u) := by
  subst hu
  rfl

theorem firewallAccessFault_of_other {addr master access : Nat} {core : CoreAt} {s : State} (hmaster : master ≠ 0) :
    exec (.firewallAccessFault addr master access core) s = .next (if s.accessFaults addr access false then
        (if master = 1 then (s.firewallHit addr master false).modCore fun c => { c with dmaActive := false, dmaError := true }
          else s.firewallHit addr master false)
      else s) := by
  show Host.Outcome.next (firewallAccessFault addr master access core s) = _
  rw [firewallAccessFault, if_neg hmaster]

/-! ### The address map (Table 1.4) -/

/-- The spans of the address space between the bounds of Table 1.4. -/
theorem address_spans (a : Nat) :
    a < 0x8000 ∨ (0x8000 ≤ a ∧ a < 0x10000000) ∨ (0x10000000 ≤ a ∧ a < 0x1005E000) ∨ (0x1005E000 ≤ a ∧ a < 0x10060000) ∨
    (0x10060000 ≤ a ∧ a < 0x20000000) ∨ (0x20000000 ≤ a ∧ a < 0x20020000) ∨ (0x20020000 ≤ a ∧ a < 0x30000000) ∨
    (0x30000000 ≤ a ∧ a < 0x30000100) ∨ (0x30000100 ≤ a ∧ a < 0x40000000) ∨ (0x40000000 ≤ a ∧ a < 0x40001000) ∨
    (0x40001000 ≤ a ∧ a < 0x40002000) ∨ (0x40002000 ≤ a ∧ a < 0x40003000) ∨ (0x40003000 ≤ a ∧ a < 0x40004000) ∨
    (0x40004000 ≤ a ∧ a < 0x40005000) ∨ 0x40005000 ≤ a := by
  omega

/-- The word of the counter area that takes writes holds UEN (R597). -/
theorem not_uenWord (a : Nat) : (a / 4 != 0x40003008 / 4) = !decide (0x40003008 ≤ a ∧ a < 0x4000300C) := by
  rw [Bool.eq_iff_iff]
  simp only [bne_iff_ne, Bool.not_eq_true', decide_eq_false_iff_not]
  omega

/-- Which accesses fault, read off Table 1.4 region by region. -/
theorem accessFaults_table (a : Nat) (s : State) :
    s.accessFaults a 2 false =
      !(decide (0x10000000 ≤ a ∧ a < 0x1005E000) || decide (0x20000000 ≤ a ∧ a < 0x20020000) ||
        decide (0x30000000 ≤ a ∧ a < 0x30000100) || decide (0x40000000 ≤ a ∧ a < 0x40003000) ||
        decide (0x40003008 ≤ a ∧ a < 0x4000300C) || decide (0x40004000 ≤ a ∧ a < 0x40005000)) ∧
    s.accessFaults a 2 true =
      !(decide (0x10000000 ≤ a ∧ a < 0x1005E000) || decide (0x20000000 ≤ a ∧ a < 0x20020000) ||
        decide (0x30000000 ≤ a ∧ a < 0x30000100) || decide (0x40000000 ≤ a ∧ a < 0x40001000) ||
        decide (0x40002000 ≤ a ∧ a < 0x40003000)) ∧
    s.accessFaults a 1 false =
      !(decide (a < 0x8000) || decide (0x10000000 ≤ a ∧ a < 0x10060000) || decide (0x20000000 ≤ a ∧ a < 0x20020000) ||
        decide (0x30000000 ≤ a ∧ a < 0x30000100) || decide (0x40000000 ≤ a ∧ a < 0x40005000)) ∧
    s.accessFaults a 0 false =
      !(decide (a < 0x8000) || decide (0x10000000 ≤ a ∧ a < 0x1005E000) || decide (0x20000000 ≤ a ∧ a < 0x20020000)) := by
  refine ⟨?_, ?_, ?_, ?_⟩ <;>
    rcases address_spans a with h | h | h | h | h | h | h | h | h | h | h | h | h | h | h <;>
      simp (disch := omega) only [State.accessFaults, not_uenWord, regionOf, if_pos, if_neg, decide_eq_true, decide_eq_false] <;> simp

/-- Settles O45: a store by `targetWrite_stores`, a forbidden access by `coreFault_recorded`, `coreFault_unrecorded` and
`dmaFault_recorded`, the map by `accessFaults_table`. -/
theorem memoryWritesReachTheirBytesOrNone : Obligations.MemoryWritesReachTheirBytesOrNone := by
  unfold Obligations.MemoryWritesReachTheirBytesOrNone
  refine ⟨fun addr width value dma last core s hstop => coreMemoryWrite_of_stopped hstop,
    fun addr width value last core s u user hrun hwidth hu huser => ?_,
    fun addr width value last core s hrun hwidth => ?_,
    fun addr access core s u hu => ?_, fun addr master access core s hmaster => ?_, accessFaults_table⟩
  · have hpos : 0 < width := by omega
    obtain ⟨v, hv, hexec⟩ := coreMemoryWrite_of_core (addr := addr) (width := width) (value := value) (last := last) hrun hu huser
    obtain ⟨c, hc⟩ := coreAt_only core s
    have hmem : u.mem = s.mem := by rw [hu, hc]
    have hacc : u.acc = s.acc := by rw [hu, hc]
    refine ⟨fun hin hpmp => ?_, fun hfirst hlast => ?_, fun hfaults => ?_⟩
    · rw [barred_inMemory hpos hin (by decide), if_neg Bool.false_ne_true, hpmp, if_neg (by decide)] at hexec
      have hstored := targetWrite_stores (s := v) value hpos hin
      refine ⟨_, hexec, hstored.bytes, fun a ha => ?_, CountsOnly_of_stored hv hstored, fun h l => ?_, fun h => ?_⟩
      · rw [hstored.others a ha, CountsOnly_mem hv, hmem]
      · rw [hstored.lines h, CountsOnly_core hv]
      · rw [hstored.cacheStands h, CountsOnly_core hv]
    · rw [barred, hfirst, hlast, Bool.or_self, if_neg Bool.false_ne_true] at hexec
      refine ⟨fun hpmp => ⟨v, hv, ?_⟩, fun hpmp => ⟨_, hexec, ?_⟩⟩
      · rw [hexec, hpmp, if_neg (by decide)]
      · rw [hpmp, if_pos (by decide)]
        exact coreFault_unrecorded hv _ _ _
    · rw [barred, if_pos (Bool.or_eq_true_iff.mpr hfaults)] at hexec
      refine ⟨_, hexec, ?_⟩
      rw [← hacc]
      exact coreFault_recorded hv _ _ _
  · have hpos : 0 < width := by omega
    obtain ⟨v, hv, hexec⟩ := coreMemoryWrite_of_dma (addr := addr) (width := width) (value := value) (last := last) (core := core) hrun
    refine ⟨fun hin => ?_, fun hfaults => ?_⟩
    · rw [barred_inMemory hpos hin (by decide), if_neg Bool.false_ne_true] at hexec
      have hstored := targetWrite_stores (s := v) value hpos hin
      refine ⟨_, hexec, hstored.bytes, fun a ha => (hstored.others a ha).trans (congrArg (fun m => m.read a) (CountsOnly_mem hv)), ?_⟩
      exact CountsOnly_modCore (CountsOnly_of_stored hv hstored) fun c => { c with dmaActive := !last, dmaError := false }
    · rw [barred, if_pos (Bool.or_eq_true_iff.mpr hfaults)] at hexec
      exact ⟨_, hexec, dmaFault_recorded hv addr⟩
  · have hexec := firewallAccessFault_of_core (addr := addr) (access := access) hu
    obtain ⟨c, hc⟩ := coreAt_only core s
    have hacc : u.acc = s.acc := by rw [hu, hc]
    refine ⟨fun hrun hfaults => ?_, fun h => ?_⟩
    · rw [hrun, hfaults, Bool.and_self, if_pos rfl] at hexec
      rw [← hacc]
      have hfault := coreFault_recorded (CountsOnly_refl u) addr access (u.core.csr.accessUser access)
      refine ⟨_, hexec, ?_⟩
      have hcore : (u.coreFault addr access true (u.core.csr.accessUser access)).core = { u.core with csr := u.core.csr.accessFault addr access } :=
        CountsOnly_core hfault
      dsimp only
      rw [hcore]
      exact ⟨rfl, rfl, rfl, rfl, rfl, hfault⟩
    · rw [hexec, if_neg (by rcases h with h | h <;> simp [h])]
  · have hexec := firewallAccessFault_of_other (addr := addr) (access := access) (core := core) (s := s) hmaster
    refine ⟨fun hfaults => ?_, fun hfaults => by rw [hexec, hfaults, if_neg Bool.false_ne_true]⟩
    rw [hfaults, if_pos rfl] at hexec
    refine ⟨_, hexec, ?_⟩
    split
    · next hdma =>
      subst hdma
      exact dmaFault_recorded (CountsOnly_refl s) addr
    · exact CountsOnly_firewallHit addr master false s

end Sys2Proof.Proofs
end

section
/-! PROOF. The debug port (R632). -/

namespace Sys2Proof.Proofs

open Sys2Proof Sys2Proof.Machine Sys2Proof.Laws

/-- The debug port reaches the core: it is neither sealed nor in TAPER, and the core is out of reset and clocked. -/
structure DebugOpen (s : State) : Prop where
  unsealed : s.acc.sealed = false
  mode : s.mode ≠ .taper
  core : s.core.state ≠ 0
  clocked : s.ceUp = true

theorem DebugOpen.not_barred {s : State} (h : DebugOpen s) : (debugBarred s || s.core.state == 0 || !s.ceUp) = false := by
  simp [debugBarred, h.unsealed, h.mode, h.core, h.clocked]

theorem debugCommand_of_barred {op addr width value : Nat} {s : State}
    (h : s.acc.sealed = true ∨ s.mode = .taper ∨ s.core.state = 0 ∨ s.ceUp = false) :
    exec (.debugCommand op addr width value) s = .next s := by
  have hbarred : (debugBarred s || s.core.state == 0 || !s.ceUp) = true := by
    rcases h with h | h | h | h <;> simp [debugBarred, h]
  show Host.Outcome.next (debugCommand op addr width value s) = _
  unfold debugCommand
  rw [if_pos hbarred]

section Open

variable {addr width value : Nat} {s : State} (hopen : DebugOpen s)

include hopen

theorem debugCommand_halt :
    exec (.debugCommand 0 addr width value) s = .next { s with core := { s.core with halted := true, wfi := none } } := by
  show Host.Outcome.next (debugCommand 0 addr width value s) = _
  rw [debugCommand, hopen.not_barred, if_neg Bool.false_ne_true]
  rfl

theorem debugCommand_resume :
    exec (.debugCommand 1 addr width value) s = .next { s with core := { s.core with halted := false } } := by
  show Host.Outcome.next (debugCommand 1 addr width value s) = _
  rw [debugCommand, hopen.not_barred, if_neg Bool.false_ne_true]
  rfl

theorem debugCommand_read : exec (.debugCommand 2 addr width value) s = .next (if barred s addr width 1 false
      then s.firewallHit addr 0 false
      else (s.targetRead addr width).2.modCore fun c => { c with debugData := (s.targetRead addr width).1 }) := by
  show Host.Outcome.next (debugCommand 2 addr width value s) = _
  rw [debugCommand, hopen.not_barred, if_neg Bool.false_ne_true]
  rfl

theorem debugCommand_write : exec (.debugCommand 3 addr width value) s = .next (if barred s addr width 2 false
      then s.firewallHit addr 0 false else s.targetWrite addr width value) := by
  show Host.Outcome.next (debugCommand 3 addr width value s) = _
  rw [debugCommand, hopen.not_barred, if_neg Bool.false_ne_true]
  rfl

/-- A read or a write that the firewall forbids at its first or last byte is recorded. -/
theorem debugCommand_of_forbidden {op : Nat} (hop : op = 2 ∨ op = 3)
    (h : s.accessFaults addr (op - 1) false = true ∨ s.accessFaults (addr + width - 1) (op - 1) false = true) :
    exec (.debugCommand op addr width value) s = .next (s.firewallHit addr 0 false) := by
  rcases hop with rfl | rfl
  · rw [debugCommand_read hopen, barred, if_pos (Bool.or_eq_true_iff.mpr h)]
  · rw [debugCommand_write hopen, barred, if_pos (Bool.or_eq_true_iff.mpr h)]

/-- A read of the SRAM shows its bytes. -/
theorem debugCommand_readSram (hwidth : 0 < width) (hlo : 0x20000000 ≤ addr) (hhi : addr + width ≤ 0x20020000) :
    exec (.debugCommand 2 addr width value) s = .next { s with core := { s.core with
      debugData := ofLe ((List.range width).map fun i => (s.mem.read (addr + i)).toNat) } } := by
  have hbytes : (List.range width).map (fun i => s.memByte (addr + i)) =
      (List.range width).map fun i => (s.mem.read (addr + i)).toNat :=
    List.map_congr_left fun i _ => if_neg (by omega)
  rw [debugCommand_read hopen, barred_inMemory hwidth (.inr (.inl ⟨hlo, hhi⟩)) (by decide), if_neg Bool.false_ne_true]
  simp only [State.targetRead, regionOf_sram hlo (show addr < 0x20020000 by omega), hbytes]
  rfl

/-- A write inside a memory stores its bytes and no others. -/
theorem debugCommand_stores (hwidth : 0 < width) (hin : InMemory addr width) :
    Does (.debugCommand 3 addr width value) s (Stored s addr width value) := by
  refine ⟨s.targetWrite addr width value, ?_, targetWrite_stores value hwidth hin⟩
  rw [debugCommand_write hopen, barred_inMemory hwidth hin (by decide), if_neg Bool.false_ne_true]

/-- A register request of a core that is not halted, and a request with no meaning, do nothing. -/
theorem debugCommand_of_none {op : Nat} (h : (4 ≤ op ∧ s.core.halted = false) ∨ 5 < op) :
    exec (.debugCommand op addr width value) s = .next s := by
  show Host.Outcome.next (debugCommand op addr width value s) = _
  unfold debugCommand
  rw [hopen.not_barred, if_neg Bool.false_ne_true]
  match op, h with
  | 4, h => simp [h.resolve_right (by decide)]
  | 5, h => simp [h.resolve_right (by decide)]
  | n + 6, _ => rfl
  | 0, h => omega
  | 1, h => omega
  | 2, h => omega
  | 3, h => omega

variable (hhalted : s.core.halted = true)

include hhalted

theorem debugCommand_readRegister : exec (.debugCommand 4 addr width value) s = .next (
    if addr < debugGpr then s.modCore fun c => { c with debugData := s.csrRead addr }
    else if addr < debugGpr + 32 then
      s.modCore fun c => { c with
        debugData := if addr = debugGpr then 0 else value % 2 ^ 32
        csr := { c.csr with x := setAt c.csr.x (addr - debugGpr) (if addr = debugGpr then 0 else value % 2 ^ 32) } }
    else s) := by
  show Host.Outcome.next (debugCommand 4 addr width value s) = _
  rw [debugCommand, hopen.not_barred, if_neg Bool.false_ne_true]
  simp only [hhalted, Bool.not_true, Bool.false_eq_true, if_false]

theorem debugCommand_writeRegister : exec (.debugCommand 5 addr width value) s = .next (
    if addr < debugGpr then s.modCsr fun c => c.write s.cyclesNow addr value
    else if debugGpr < addr ∧ addr < debugGpr + 32 then
      s.modCsr fun c => { c with x := setAt c.x (addr - debugGpr) (value % 2 ^ 32) }
    else s) := by
  show Host.Outcome.next (debugCommand 5 addr width value s) = _
  rw [debugCommand, hopen.not_barred, if_neg Bool.false_ne_true]
  simp only [hhalted, Bool.not_true, Bool.false_eq_true, if_false]

/-- A control and status register of the halted core is read and written. -/
theorem debugCommand_csr (haddr : addr < 0x1000) :
    exec (.debugCommand 4 addr width value) s = .next { s with core := { s.core with debugData := s.csrRead addr } } ∧
    exec (.debugCommand 5 addr width value) s =
      .next { s with core := { s.core with csr := s.core.csr.write s.cyclesNow addr value } } := by
  rw [debugCommand_readRegister hopen hhalted, debugCommand_writeRegister hopen hhalted]
  simp only [debugGpr, haddr, if_true]
  exact ⟨rfl, rfl⟩

/-- A number past the general registers names none. -/
theorem debugCommand_past (haddr : 0x1020 ≤ addr) :
    exec (.debugCommand 4 addr width value) s = .next s ∧ exec (.debugCommand 5 addr width value) s = .next s := by
  have hgpr : debugGpr + 32 = 0x1020 := rfl
  rw [debugCommand_readRegister hopen hhalted, debugCommand_writeRegister hopen hhalted, hgpr,
    if_neg (show ¬addr < debugGpr by omega), if_neg (show ¬addr < debugGpr by omega), if_neg (by omega), if_neg (by omega)]
  exact ⟨rfl, rfl⟩

end Open

/-- A general register of the halted core; register 0 stays zero. -/
theorem debugCommand_gpr {width value : Nat} {s : State} (hopen : DebugOpen s) (hhalted : s.core.halted = true) {n : Nat} (hn : n < 32) :
    (∃ v, v = (if n = 0 then 0 else value % 2 ^ 32) ∧
      exec (.debugCommand 4 (0x1000 + n) width value) s = .next { s with core := { s.core with
        debugData := v, csr := { s.core.csr with x := setAt s.core.csr.x n v } } }) ∧
    exec (.debugCommand 5 (0x1000 + n) width value) s = .next (if n = 0 then s else { s with core := { s.core with
      csr := { s.core.csr with x := setAt s.core.csr.x n (value % 2 ^ 32) } } }) := by
  have hzero : (0x1000 + n = debugGpr) = (n = 0) := by
    simp [debugGpr]
  have hsub : 0x1000 + n - debugGpr = n := Nat.add_sub_cancel_left ..
  have hpast : ¬0x1000 + n < debugGpr := by simp [debugGpr]
  have hin : 0x1000 + n < debugGpr + 32 := Nat.add_lt_add_left hn _
  refine ⟨⟨_, rfl, ?_⟩, ?_⟩
  · rw [debugCommand_readRegister hopen hhalted, if_neg hpast, if_pos hin, hsub]
    simp only [hzero]
    rfl
  · rw [debugCommand_writeRegister hopen hhalted, if_neg hpast, hsub]
    by_cases h : n = 0
    · rw [if_pos h, if_neg (by simp [debugGpr, h])]
    · rw [if_neg h, if_pos ⟨by simp [debugGpr]; omega, hin⟩]
      rfl

/-- Settles O46: a request of a barred port by `debugCommand_of_barred`, memory by `debugCommand_stores` and `debugCommand_readSram`,
registers by `debugCommand_csr` and `debugCommand_gpr`. -/
theorem debugPortObeysTheSeal : Obligations.DebugPortObeysTheSeal := by
  unfold Obligations.DebugPortObeysTheSeal
  refine ⟨fun op addr width value s h => debugCommand_of_barred h, fun addr width value s hseal hmode hcore hce => ?_⟩
  have hopen : DebugOpen s := ⟨hseal, hmode, hcore, hce⟩
  refine ⟨debugCommand_halt hopen, debugCommand_resume hopen,
    fun op hop h => ⟨_, debugCommand_of_forbidden hopen hop h, CountsOnly_firewallHit addr 0 false s⟩,
    fun hwidth hlo hhi => debugCommand_readSram hopen (by omega) hlo hhi, fun hwidth hin => ?_,
    fun op h => debugCommand_of_none hopen h, fun hhalted haddr => debugCommand_csr hopen hhalted haddr,
    fun n hhalted hn => debugCommand_gpr hopen hhalted hn, fun hhalted haddr => debugCommand_past hopen hhalted haddr⟩
  obtain ⟨t, hexec, hstored⟩ := debugCommand_stores (value := value) hopen (by omega)
    (show InMemory addr width from hin.elim (fun h => .inr (.inl h)) .inl)
  exact ⟨t, hexec, hstored.bytes, hstored.others, hstored.only, hstored.cacheStands, hstored.lines⟩

end Sys2Proof.Proofs
end

section
/-! PROOF. The performance counters (R592, R596, R597): one counter of a pass over a block, and the read of a low word. -/

namespace Sys2Proof.Proofs

open Sys2Proof Sys2Proof.Machine Sys2Proof.Laws

/-! ### One pass over a block -/

section Pass

variable (b : Nat) (sel amount : Nat → Nat)

/-- What a pass adds to counter i: the carry where it is chained. -/
def countAdds (i carry : Nat) : Nat := if bitAt (sel i) 31 && bitAt (sel i) 30 then carry else amount i

theorem countBlock_other (n : Nat) : ∀ (i carry : Nat) (cs : List Nat) (os : List Bool) (k : Nat),
    k < 8 * b + i ∨ 8 * b + i + n ≤ k →
    (countBlock b sel amount n i carry cs os).1[k]? = cs[k]? ∧ (countBlock b sel amount n i carry cs os).2.1[k]? = os[k]? := by
  induction n with
  | zero => exact fun _ _ _ _ _ _ => ⟨rfl, rfl⟩
  | succ n ih =>
    intro i carry cs os k hk
    have hne : 8 * b + i ≠ k := by omega
    unfold countBlock
    obtain ⟨hcount, hovf⟩ := ih (i + 1) ((natAt cs (8 * b + i) + countAdds sel amount i carry) / 2 ^ 48)
      (setAt cs (8 * b + i) ((natAt cs (8 * b + i) + countAdds sel amount i carry) % 2 ^ 48))
      (if (natAt cs (8 * b + i) + countAdds sel amount i carry) / 2 ^ 48 = 0 then os else setAt os (8 * b + i) true) k (by omega)
    refine ⟨hcount.trans ?_, hovf.trans ?_⟩
    · rw [setAt_eq_set, List.getElem?_set_ne hne]
    · split
      · rfl
      · rw [setAt_eq_set, List.getElem?_set_ne hne]

/-- The pass changes no counter from i + n on before it comes to it. -/
theorem countBlock_reaches (n m : Nat) : ∀ (i carry : Nat) (cs : List Nat) (os : List Bool), ∃ carry' cs' os',
    (countBlock b sel amount (n + m) i carry cs os).1 = (countBlock b sel amount m (i + n) carry' cs' os').1 ∧
    (countBlock b sel amount (n + m) i carry cs os).2.1 = (countBlock b sel amount m (i + n) carry' cs' os').2.1 ∧
    (∀ k, 8 * b + i + n ≤ k → cs'[k]? = cs[k]?) ∧ os'.length = os.length := by
  induction n with
  | zero => exact fun i carry cs os => ⟨carry, cs, os, by rw [Nat.zero_add]; rfl, by rw [Nat.zero_add]; rfl, fun _ _ => rfl, rfl⟩
  | succ n ih =>
    intro i carry cs os
    obtain ⟨carry', cs', os', hcounts, hovf, hstands, hlen⟩ :=
      ih (i + 1) ((natAt cs (8 * b + i) + countAdds sel amount i carry) / 2 ^ 48)
        (setAt cs (8 * b + i) ((natAt cs (8 * b + i) + countAdds sel amount i carry) % 2 ^ 48))
        (if (natAt cs (8 * b + i) + countAdds sel amount i carry) / 2 ^ 48 = 0 then os else setAt os (8 * b + i) true)
    have hsum : n + 1 + m = n + m + 1 := by omega
    have hnext : i + (n + 1) = i + 1 + n := by omega
    refine ⟨carry', cs', os', ?_, ?_, fun k hk => ?_, hlen.trans ?_⟩
    · rw [hsum, hnext, ← hcounts, countBlock]
      rfl
    · rw [hsum, hnext, ← hovf, countBlock]
      rfl
    · rw [hstands k (by omega), setAt_eq_set, List.getElem?_set_ne (by omega)]
    · split
      · rfl
      · rw [setAt_eq_set, List.length_set]

variable {cs : List Nat} {os : List Bool} {i carry v : Nat}

/-- A counter that the pass comes to takes what it adds, modulo 2^48. -/
theorem countBlock_counts (n : Nat) (h : cs[8 * b + i]? = some v) :
    (countBlock b sel amount (n + 1) i carry cs os).1[8 * b + i]? = some ((v + countAdds sel amount i carry) % 2 ^ 48) := by
  have hlt : 8 * b + i < cs.length := (List.getElem?_eq_some_iff.mp h).1
  have hnat : natAt cs (8 * b + i) = v := by simp [natAt, h]
  rw [countBlock, hnat]
  exact (countBlock_other b sel amount n (i + 1) _ _ _ _ (by omega)).1.trans
    (by rw [setAt_eq_set, List.getElem?_set_self hlt]; rfl)

/-- A counter that wraps sets its OVF bit. -/
theorem countBlock_overflows (n : Nat) (h : cs[8 * b + i]? = some v) (hwraps : (v + countAdds sel amount i carry) / 2 ^ 48 ≠ 0)
    (hlen : 8 * b + i < os.length) : (countBlock b sel amount (n + 1) i carry cs os).2.1[8 * b + i]? = some true := by
  have hnat : natAt cs (8 * b + i) = v := by simp [natAt, h]
  rw [countBlock, hnat]
  exact (countBlock_other b sel amount n (i + 1) _ _ _ _ (by omega)).2.trans
    ((congrArg (·[8 * b + i]?) (if_neg hwraps)).trans (by rw [setAt_eq_set, List.getElem?_set_self hlen]))

/-- The counter after it takes what it adds with the wraps as its carry. -/
theorem countBlock_carries (n : Nat) (h : cs[8 * b + i]? = some v) {w : Nat} (hnext : cs[8 * b + i + 1]? = some w) :
    (countBlock b sel amount (n + 2) i carry cs os).1[8 * b + i + 1]? =
      some ((w + countAdds sel amount (i + 1) ((v + countAdds sel amount i carry) / 2 ^ 48)) % 2 ^ 48) := by
  have hnat : natAt cs (8 * b + i) = v := by simp [natAt, h]
  rw [countBlock, hnat]
  refine countBlock_counts b sel amount n ?_
  rw [setAt_eq_set, List.getElem?_set_ne (by omega)]
  exact hnext

end Pass

/-! ### The wrap of one counter -/

/-- Counter (b, i) is enabled, counts its own events and is on, and stands at its last value. -/
structure AboutToWrap (b i : Nat) (s : State) : Prop where
  block : b < 6
  counter : i < 8
  on : (s.pwr.dom (blockDomain b)).on = true
  enabled : bitAt (s.perfSel b i) 31 = true
  own : bitAt (s.perfSel b i) 30 = false
  last : s.perf.counts[8 * b + i]? = some (2 ^ 48 - 1)

/-- The pass of PERF_OVERFLOW, which counts one occurrence in counter (b, i). -/
def wrapPass (b i : Nat) (s : State) : List Nat × List Bool × List Raised :=
  countBlock b (s.perfSel b) (fun j => if j = i then 1 else 0) 8 0 0 s.perf.counts s.perf.ovf

theorem CountsOnly_withCounts (s : State) (counts : List Nat) (ovf : List Bool) :
    CountsOnly s { s with perf := { s.perf with counts := counts, ovf := ovf } } := rfl

theorem perfOverflow_of_wrap {b i : Nat} {s : State} (h : AboutToWrap b i s) :
    exec (.perfOverflow b i) s = .next
      (({ s with perf := { s.perf with counts := (wrapPass b i s).1, ovf := (wrapPass b i s).2.1 } }).raiseAll (wrapPass b i s).2.2) := by
  have hlast : natAt s.perf.counts (8 * b + i) = 2 ^ 48 - 1 := by simp [natAt, h.last]
  show Host.Outcome.next (perfOverflow b i s) = _
  simp only [perfOverflow, hlast, h.block, h.counter, h.enabled, h.own, h.on, decide_true, beq_self_eq_true, Bool.not_false,
    Bool.and_self, if_true]
  rfl

/-- A pass changes the counters and their OVF bits only. -/
theorem CountsOnly_counted (s : State) (r : List Nat × List Bool × List Raised) :
    CountsOnly s (({ s with perf := { s.perf with counts := r.1, ovf := r.2.1 } }).raiseAll r.2.2) :=
  CountsOnly_trans (CountsOnly_withCounts s r.1 r.2.1) (CountsOnly_raiseAll _ _)

theorem perfOverflow_of_none {b i : Nat} {s : State} (hlen : s.perf.counts.length = 48)
    (h : 6 ≤ b ∨ 8 ≤ i ∨ (s.pwr.dom (blockDomain b)).on = false ∨ bitAt (s.perfSel b i) 31 = false ∨ bitAt (s.perfSel b i) 30 = true ∨
      s.perf.counts[8 * b + i]? ≠ some (2 ^ 48 - 1)) : exec (.perfOverflow b i) s = .next s := by
  show Host.Outcome.next (perfOverflow b i s) = _
  unfold perfOverflow
  refine congrArg _ (if_neg fun hall => ?_)
  simp only [Bool.and_eq_true, decide_eq_true_eq, beq_iff_eq, Bool.not_eq_true'] at hall
  obtain ⟨⟨⟨⟨⟨hb, hi⟩, hlast⟩, henabled⟩, hown⟩, hon⟩ := hall
  have hin : 8 * b + i < s.perf.counts.length := by omega
  have hget : s.perf.counts[8 * b + i]? = some (2 ^ 48 - 1) := by
    simpa [natAt, hin] using hlast
  rcases h with h | h | h | h | h | h
  · omega
  · omega
  · exact Bool.noConfusion (h.symm.trans hon)
  · exact Bool.noConfusion (h.symm.trans henabled)
  · exact Bool.noConfusion (h.symm.trans hown)
  · exact h hget

/-- What the pass of PERF_OVERFLOW makes of the counter, of the next one and of the other blocks. -/
theorem wrapPass_counters {b i : Nat} {s : State} (h : AboutToWrap b i s) (hlen : s.perf.ovf.length = 48) :
    (wrapPass b i s).1[8 * b + i]? = some 0 ∧ (wrapPass b i s).2.1[8 * b + i]? = some true ∧
    (∀ n, i < 7 → s.perf.counts[8 * b + i + 1]? = some n → (wrapPass b i s).1[8 * b + i + 1]? =
      some ((n + if bitAt (s.perfSel b (i + 1)) 31 && bitAt (s.perfSel b (i + 1)) 30 then 1 else 0) % 2 ^ 48)) := by
  have hb := h.block
  have hi := h.counter
  obtain ⟨carry, cs, os, hcounts, hovf, hstands, hos⟩ := countBlock_reaches b (s.perfSel b) (fun j => if j = i then 1 else 0)
    i (7 - i + 1) 0 0 s.perf.counts s.perf.ovf
  rw [show i + (7 - i + 1) = 8 by omega, Nat.zero_add] at hcounts hovf
  have hlast : cs[8 * b + i]? = some (2 ^ 48 - 1) := (hstands _ (by omega)).trans h.last
  have hadds : countAdds (s.perfSel b) (fun j => if j = i then 1 else 0) i carry = 1 := by simp [countAdds, h.own]
  refine ⟨?_, ?_, fun n hlt hn => ?_⟩
  · rw [wrapPass, hcounts, countBlock_counts b _ _ _ hlast, hadds]
    rfl
  · rw [wrapPass, hovf, countBlock_overflows b _ _ _ hlast (by rw [hadds]; decide) (by omega)]
  · have hnext : cs[8 * b + i + 1]? = some n := (hstands _ (by omega)).trans hn
    rw [wrapPass, hcounts, show 7 - i + 1 = 6 - i + 2 by omega, countBlock_carries b _ _ _ hlast hnext, hadds]
    simp [countAdds]

/-- The wrap of counter (b, i): it is 0 with OVF set, a chained neighbour is one higher, and the other blocks stand. -/
theorem perfOverflow_wraps {b i : Nat} {s : State} (hwrap : AboutToWrap b i s) (hlen : s.perf.ovf.length = 48) :
    Does (.perfOverflow b i) s fun t =>
      t.perf.counts[8 * b + i]? = some 0 ∧ t.perf.ovf[8 * b + i]? = some true ∧
      (∀ n, i < 7 → s.perf.counts[8 * b + i + 1]? = some n → bitAt (s.perfSel b (i + 1)) 31 = true →
        (bitAt (s.perfSel b (i + 1)) 30 = true → n < 2 ^ 48 - 1 → t.perf.counts[8 * b + i + 1]? = some (n + 1)) ∧
        (bitAt (s.perfSel b (i + 1)) 30 = false → n < 2 ^ 48 → t.perf.counts[8 * b + i + 1]? = some n)) ∧
      (∀ k, k < 8 * b ∨ 8 * b + 8 ≤ k → t.perf.counts[k]? = s.perf.counts[k]? ∧ t.perf.ovf[k]? = s.perf.ovf[k]?) ∧
      CountsOnly s t := by
  obtain ⟨hzero, hset, hnext⟩ := wrapPass_counters hwrap hlen
  have hothers : ∀ k, k < 8 * b ∨ 8 * b + 8 ≤ k →
      (wrapPass b i s).1[k]? = s.perf.counts[k]? ∧ (wrapPass b i s).2.1[k]? = s.perf.ovf[k]? :=
    fun k hk => countBlock_other b _ _ 8 0 0 _ _ k hk
  have hexec := perfOverflow_of_wrap hwrap
  generalize wrapPass b i s = r at hzero hset hnext hothers hexec
  refine ⟨_, hexec, ?_⟩
  simp only [raiseAll_perf]
  refine ⟨hzero, hset, fun n hlt hn hen => ⟨fun hchain hbound => ?_, fun hchain hbound => ?_⟩, hothers, CountsOnly_counted s r⟩
  · refine (hnext n hlt hn).trans (congrArg some ?_)
    rw [hen, hchain]
    exact Nat.mod_eq_of_lt (by simpa using by omega)
  · refine (hnext n hlt hn).trans (congrArg some ?_)
    rw [hchain, Bool.and_false]
    exact Nat.mod_eq_of_lt hbound

/-! ### The read of a low word -/

/-- The latched words once a low word has been read: the one of the word read is the high word w. -/
def latchesWith (master off w : Nat) (latches : List (Nat × Nat × Nat)) : List (Nat × Nat × Nat) :=
  (master, off + 4, w) :: latches.filter fun x => !(x.1 == master && x.2.1 == off + 4)

theorem mem_latchesWith {master off w : Nat} {latches : List (Nat × Nat × Nat)} {x : Nat × Nat × Nat} :
    x ∈ latchesWith master off w latches ↔ x = (master, off + 4, w) ∨ x ∈ latches ∧ ¬(x.1 = master ∧ x.2.1 = off + 4) := by
  simp [latchesWith, imp_iff_not_or]

theorem countLoRead_of_unclocked {master off : Nat} {user : Bool} {s : State} (h : s.ceUp = false) :
    exec (.countLoRead master off user) s = .next s := by
  show Host.Outcome.next (countLoRead master off user s) = _
  rw [countLoRead, h]
  rfl

section Clocked

variable {master off : Nat} {user : Bool} {s : State} (hce : s.ceUp = true)

include hce

theorem countLoRead_of_denied (huser : user = true) (huen : s.perf.uen = false) :
    exec (.countLoRead master off user) s = .next (s.firewallHit (0x40003000 + off) master true) := by
  subst huser
  show Host.Outcome.next (countLoRead master off true s) = _
  simp [countLoRead, hce, huen]

theorem countLoRead_of_allowed (hallowed : user = false ∨ s.perf.uen = true) :
    exec (.countLoRead master off user) s = .next (match s.perf.cur.partner off with
      | none => s
      | some w => { s with perf := { s.perf with latches := latchesWith master off w s.perf.latches } }) := by
  have hopen : (user && !s.perf.uen) = false := by rcases hallowed with h | h <;> simp [h]
  show Host.Outcome.next (countLoRead master off user s) = _
  simp only [countLoRead, hce, hopen, Bool.not_true, Bool.false_eq_true, if_false]
  cases s.perf.cur.partner off <;> rfl

/-- The high word that belongs to the word read is latched for its master, and no other latch changes. -/
theorem countLoRead_latches (hallowed : user = false ∨ s.perf.uen = true) {w : Nat} (hw : s.perf.cur.partner off = some w) :
    Does (.countLoRead master off user) s fun t =>
      (master, off + 4, w) ∈ t.perf.latches ∧
      (∀ x, x ∈ t.perf.latches → x.1 = master → x.2.1 = off + 4 → x.2.2 = w) ∧
      (∀ x, x.1 ≠ master ∨ x.2.1 ≠ off + 4 → (x ∈ t.perf.latches ↔ x ∈ s.perf.latches)) ∧
      t = { s with perf := { s.perf with latches := t.perf.latches } } := by
  have hexec := countLoRead_of_allowed (master := master) (off := off) hce hallowed
  rw [hw] at hexec
  refine ⟨_, hexec, mem_latchesWith.mpr (.inl rfl), fun x hx hmaster hoff => ?_, fun x hx => ?_, rfl⟩
  · obtain rfl | ⟨-, hother⟩ := mem_latchesWith.mp hx
    · rfl
    · exact absurd ⟨hmaster, hoff⟩ hother
  · refine mem_latchesWith.trans ⟨fun h => ?_, fun h => .inr ⟨h, fun ⟨hm, ho⟩ => hx.elim (· hm) (· ho)⟩⟩
    obtain rfl | ⟨hmem, -⟩ := h
    · exact absurd rfl (hx.resolve_left fun hne => hne rfl)
    · exact hmem

end Clocked

/-- Settles O47: the wrap by `wrapPass_counters`, which follows the pass to the counter, the read by `countLoRead_latches`. -/
theorem countersWrapAndAreReadWhole : Obligations.CountersWrapAndAreReadWhole := by
  unfold Obligations.CountersWrapAndAreReadWhole
  refine ⟨fun b i s hcounts hovf => ⟨fun hb hi hon henabled hown hlast => ?_, fun h => perfOverflow_of_none hcounts h⟩,
    fun master off user s => ⟨fun h => countLoRead_of_unclocked h, fun hce hallowed => ⟨fun hnone => ?_, fun w hw => ?_⟩,
      fun hce huser huen => ?_⟩⟩
  · exact perfOverflow_wraps ⟨hb, hi, hon, henabled, hown, hlast⟩ hovf
  · have hexec := countLoRead_of_allowed (master := master) (off := off) hce hallowed
    rw [hnone] at hexec
    exact hexec
  · exact countLoRead_latches hce hallowed hw
  · exact ⟨_, countLoRead_of_denied hce huser huen, CountsOnly_firewallHit _ _ _ _⟩

end Sys2Proof.Proofs
end

section
/-! PROOF. SPI transactions (R466 to R469, R635): a status, a discarded transaction, a WRITE and a READ. -/

namespace Sys2Proof.Proofs

open Sys2Proof Sys2Proof.Machine Sys2Proof.Laws

/-- The state whose status has been sent. -/
def statusSent (s : State) : State := { s with q := s.q.statusSent s.spiStatusBytes }

theorem spiTransaction_of_down {pre words : List Nat} {n : Nat} {s : State} (h : s.lkUp = false) : s.spiTransaction pre words n = s := by
  rw [State.spiTransaction, h]
  rfl

/-- What a transaction of a sound preamble does, by its command. -/
theorem spiTransaction_of_sound {pre words : List Nat} {n : Nat} {s : State} (hup : s.lkUp = true) (hsound : preambleFaulty pre = false) :
    s.spiTransaction pre words n = match natAt pre 0 with
      | 1 => (statusSent s).spiReceive pre words
      | 2 => (statusSent s).spiSend (preambleWords pre) n
      | _ => statusSent s := by
  rw [State.spiTransaction, hup, hsound]
  rfl

/-- The queues after a discarded transaction. -/
def discarded (q : Queues) : Queues :=
  { q with spiError := true, linkErrors := modAt q.linkErrors 1 fun k => min (2 ^ 32 - 1) (k + 1) }

/-- A discarded transaction leaves the error mark and one link error more. -/
theorem spiDiscard_counts (s : State) :
    s.spiDiscard.q = discarded s.q ∧ CountsOnly { s with q := s.spiDiscard.q } s.spiDiscard :=
  linkError_counts 1 { s with q := { s.q with spiError := true } }

/-- A transaction of a faulty preamble is discarded, whatever words it clocked. -/
theorem spiTransaction_of_faulty {pre words : List Nat} {n : Nat} {s : State} (hup : s.lkUp = true) (hfaulty : preambleFaulty pre = true) :
    ∃ sent, s.spiTransaction pre words n = ({ statusSent s with q := { (statusSent s).q with sent := sent } }).spiDiscard := by
  rw [State.spiTransaction, hup, hfaulty]
  exact ⟨_, rfl⟩

theorem spiTransaction_discards {pre words : List Nat} {n : Nat} {s : State} (hup : s.lkUp = true) (hfaulty : preambleFaulty pre = true) :
    (fun t : State => t.q.spiError = true ∧ t.q.status = s.spiStatusBytes ∧
      t.q.linkErrors = modAt s.q.linkErrors 1 (fun k => min (2 ^ 32 - 1) (k + 1)) ∧ t.q.spiIn = s.q.spiIn ∧ t.q.spiOut = s.q.spiOut ∧
      t.q.coreIn = s.q.coreIn ∧ t.q.gens = s.q.gens ∧ CountsOnly { s with q := t.q } t) (s.spiTransaction pre words n) := by
  obtain ⟨sent, heq⟩ := spiTransaction_of_faulty (words := words) (n := n) hup hfaulty
  obtain ⟨hq, honly⟩ := spiDiscard_counts { statusSent s with q := { (statusSent s).q with sent := sent } }
  rw [hq] at honly
  simp only [heq, hq]
  exact ⟨rfl, rfl, rfl, rfl, rfl, rfl, rfl, honly⟩

/-! ### WRITE -/

section Receive

variable {pre words : List Nat} {s : State}

theorem spiReceive_of_unfit (h : wholeRecords (preambleWords pre) (words.take (preambleWords pre)) = none ∨
    words.length < preambleWords pre ∨ 512 - s.q.spiInWords < preambleWords pre) : s.spiReceive pre words = s.spiDiscard := by
  unfold State.spiReceive
  by_cases hroom : 512 - s.q.spiInWords < preambleWords pre ∨ words.length < preambleWords pre
  · rw [if_pos hroom]
  · rw [if_neg hroom, h.resolve_right fun h => hroom h.symm]

theorem spiReceive_of_whole {rs : List InRec} (hwords : preambleWords pre ≤ words.length) (hroom : preambleWords pre ≤ 512 - s.q.spiInWords)
    (hwhole : wholeRecords (preambleWords pre) (words.take (preambleWords pre)) = some rs) : s.spiReceive pre words = s.takeSpi rs := by
  unfold State.spiReceive
  rw [if_neg (by omega), hwhole]

end Receive

/-- A received record is counted as an occurrence and raises SPI_RECORD. -/
def recordReceived (s : State) : State :=
  (s.count [linkAct 0x60 1]).raise { ev := 43, code := 0, arg := 0, src := 0x4E, cls := 2 }

theorem CountsOnly_recordReceived (s : State) : CountsOnly s (recordReceived s) :=
  CountsOnly_trans (CountsOnly_count _ _) (CountsOnly_raise _ _)

theorem recordReceived_q (s : State) : (recordReceived s).q = s.q := by
  rw [recordReceived, raise_q, count_q]

/-- A sound record joins the queue. -/
def recordQueued (r : Record) (s : State) : State := { s with q := { s.q with spiIn := s.q.spiIn ++ [r] } }

theorem takeSpi_sound {x : InRec} {s : State} (hsound : x.bad = false) : s.takeSpi [x] =
    (recordReceived (recordQueued x.record s)).drainSpi (s.q.spiIn.length + 1) := by
  have hlen : (recordReceived (recordQueued x.record s)).q.spiIn.length = s.q.spiIn.length + 1 := by
    rw [recordReceived_q, recordQueued, List.length_append]
    rfl
  rw [← hlen, State.takeSpi, List.foldl_cons, List.foldl_nil, hsound]
  rfl

theorem takeSpi_unsound {x : InRec} {s : State} (hbad : x.bad = true) :
    s.takeSpi [x] = (recordReceived (s.linkError 1)).drainSpi (recordReceived (s.linkError 1)).q.spiIn.length := by
  rw [State.takeSpi, List.foldl_cons, List.foldl_nil, hbad]
  rfl

/-- In the commit slot the records received wait. -/
theorem drainSpi_of_committing {s : State} (h : s.frame.committing = true) (fuel : Nat) : s.drainSpi fuel = s := by
  cases fuel with
  | zero => rfl
  | succ n =>
    rw [State.drainSpi]
    split
    · rfl
    · rw [h]
      rfl

/-- The record at the front is served where nothing of the port waits. -/
theorem drainSpi_of_free {r : Record} {s : State} (hin : s.q.spiIn = [r]) (htype : r.type ≠ 8) (hslot : s.frame.committing = false)
    (hport : s.portWaits 1 = false) (hwaiting : (s.acc.waiting.any fun x => x.via.port == 1) = false) :
    s.drainSpi 1 = ({ s with q := { s.q with spiIn := [] } }).serveNow (({ s with q := { s.q with spiIn := [] } }).requestOf .spi r) := by
  rw [State.drainSpi]
  simp only [hin, hslot, hport, hwaiting, Bool.or_self, Bool.false_eq_true, if_false, htype]
  rfl

/-- What a WRITE of one record whose words are whole and fit says. -/
structure OneRecord (pre words : List Nat) (x : InRec) (s : State) : Prop where
  up : s.lkUp = true
  sound : preambleFaulty pre = false
  write : natAt pre 0 = 1
  words_fit : preambleWords pre ≤ words.length
  room : preambleWords pre ≤ 512 - s.q.spiInWords
  whole : wholeRecords (preambleWords pre) (words.take (preambleWords pre)) = some [x]

theorem CountsOnly_withQ {u t : State} (h : CountsOnly u t) (q : Queues) : CountsOnly { u with q := q } { t with q := q } := by
  rw [h]
  rfl

theorem withoutIn_of_empty {q : Queues} (h : q.spiIn = []) : { q with spiIn := [] } = q := by
  rw [← h]

section One

variable {pre words : List Nat} {x : InRec} {s : State} (h : OneRecord pre words x s)

include h

theorem spiWrite_takes : exec (.spiWrite pre words) s = .next ((statusSent s).takeSpi [x]) := by
  show Host.Outcome.next (s.spiTransaction pre words 0) = _
  rw [spiTransaction_of_sound h.up h.sound, h.write]
  exact congrArg _ (spiReceive_of_whole (s := statusSent s) h.words_fit h.room h.whole)

/-- In the commit slot the record waits in the queue. -/
theorem spiWrite_queues (hsound : x.bad = false) (hslot : s.frame.committing = true) :
    Does (.spiWrite pre words) s fun t =>
      t.q = { s.q with status := s.spiStatusBytes, spiError := false, spiIn := s.q.spiIn ++ [x.record] } ∧
      CountsOnly { s with q := t.q } t := by
  have hexec := spiWrite_takes h
  rw [takeSpi_sound hsound, drainSpi_of_committing (by rw [recordReceived, raise_frame, count_frame]; exact hslot)] at hexec
  refine ⟨_, hexec, recordReceived_q _, ?_⟩
  rw [recordReceived_q]
  exact CountsOnly_recordReceived _

/-- An unsound record is a link error. -/
theorem spiWrite_discards (hbad : x.bad = true) (hslot : s.frame.committing = true) :
    Does (.spiWrite pre words) s fun t =>
      t.q = { s.q with status := s.spiStatusBytes, spiError := false
                       linkErrors := modAt s.q.linkErrors 1 fun k => min (2 ^ 32 - 1) (k + 1) } ∧
      CountsOnly { s with q := t.q } t := by
  obtain ⟨hq, honly⟩ := linkError_counts 1 (statusSent s)
  have hexec := spiWrite_takes h
  rw [takeSpi_unsound hbad, drainSpi_of_committing (by rw [recordReceived, raise_frame, count_frame, linkError_frame]; exact hslot)] at hexec
  refine ⟨_, hexec, (recordReceived_q _).trans hq, ?_⟩
  rw [recordReceived_q]
  exact CountsOnly_trans honly (CountsOnly_recordReceived _)

/-- Outside it a request is served at once where nothing waits before it. -/
theorem spiWrite_serves (hsound : x.bad = false) (htype : x.record.type = 6) (hslot : s.frame.committing = false) (hin : s.q.spiIn = [])
    (hport : s.portWaits 1 = false) (hwaiting : (s.acc.waiting.any fun r => r.via.port == 1) = false) :
    ∃ v, CountsOnly { s with q := { s.q with status := s.spiStatusBytes, spiError := false } } v ∧
      exec (.spiWrite pre words) s = .next (v.serveNow (v.requestOf .spi x.record)) := by
  have honly := CountsOnly_recordReceived (recordQueued x.record (statusSent s))
  have hq := recordReceived_q (recordQueued x.record (statusSent s))
  have hfront : (recordReceived (recordQueued x.record (statusSent s))).q.spiIn = [x.record] := by
    rw [hq]
    exact congrArg (· ++ [x.record]) hin
  have hempty : { (recordReceived (recordQueued x.record (statusSent s))).q with spiIn := [] } = (statusSent s).q := by
    rw [hq]
    exact congrArg (Queues.statusSent s.spiStatusBytes) (withoutIn_of_empty hin)
  have hlen : (statusSent s).q.spiIn.length + 1 = 1 := congrArg (·.length + 1) hin
  have hexec := spiWrite_takes h
  rw [takeSpi_sound hsound, hlen, drainSpi_of_free hfront (by rw [htype]; decide)
    (by rw [CountsOnly_frame honly]; exact hslot) (by rw [honly]; exact hport) (by rw [honly]; exact hwaiting)] at hexec
  refine ⟨_, ?_, hexec⟩
  have hlast := CountsOnly_withQ honly { (recordReceived (recordQueued x.record (statusSent s))).q with spiIn := [] }
  rw [hempty] at hlast ⊢
  exact hlast

end One

/-- A WRITE of no whole records, or without room for them, is discarded. -/
theorem spiWrite_of_unfit {pre words : List Nat} {s : State} (hup : s.lkUp = true) (hsound : preambleFaulty pre = false)
    (hwrite : natAt pre 0 = 1) (h : wholeRecords (preambleWords pre) (words.take (preambleWords pre)) = none ∨
      words.length < preambleWords pre ∨ 512 - s.q.spiInWords < preambleWords pre) :
    exec (.spiWrite pre words) s = .next (statusSent s).spiDiscard := by
  show Host.Outcome.next (s.spiTransaction pre words 0) = _
  rw [spiTransaction_of_sound hup hsound, hwrite]
  exact congrArg _ (spiReceive_of_unfit (s := statusSent s) h)

/-! ### READ -/

theorem recordsFitting_of_full {os : List OutRec} (h : ∀ r ∈ os, 2 ≤ r.record.size) : recordsFitting 0 os = [] := by
  cases os with
  | nil => rfl
  | cons o os =>
    have hsize := h o List.mem_cons_self
    rw [recordsFitting, if_neg (by omega)]

theorem recordsFitting_one (n : Nat) (o : OutRec) : recordsFitting n [o] = if o.record.size ≤ n then [o] else [] := rfl

/-- The words of the oldest records that fit a READ. -/
def fittingWords (words : Nat) (q : Queues) : List Nat := (recordsFitting words q.spiOut).flatMap fun o => o.record.words

/-- The records whole clocked out of a READ leave the queue. -/
def spiSent (words clocked : Nat) (q : Queues) : Queues :=
  { q with
    sent := (fittingWords words q ++ List.replicate (words - (fittingWords words q).length) 0).take (min clocked words)
    spiOut := q.spiOut.drop (recordsFitting (min clocked words) (recordsFitting words q.spiOut)).length }

theorem refillHost_of_unheld {q : Queues} (h : q.spiHeld = []) (n : Nat) : q.refillHost n = q := by
  cases n with
  | zero => rfl
  | succ n => rw [Queues.refillHost, h]

theorem spiSend_of_unheld {words clocked : Nat} {s : State} (hheld : s.q.spiHeld = []) :
    (s.spiSend words clocked).q = spiSent words clocked s.q ∧
      CountsOnly { s with q := (s.spiSend words clocked).q } (s.spiSend words clocked) := by
  have heq : s.spiSend words clocked = ({ s with q := spiSent words clocked s.q }).count
      [linkAct 0x61 (recordsFitting (min clocked words) (recordsFitting words s.q.spiOut)).length] := by
    have hsent : (spiSent words clocked s.q).spiHeld = [] := hheld
    rw [← refillHost_of_unheld hsent (spiSent words clocked s.q).spiHeld.length]
    rfl
  have hq : (s.spiSend words clocked).q = spiSent words clocked s.q := by rw [heq, count_q]
  refine ⟨hq, ?_⟩
  rw [hq, heq]
  exact CountsOnly_count _ _

/-- What a READ sends where nothing waits for room. -/
theorem spiRead_sends {pre : List Nat} {n : Nat} {s : State} (hup : s.lkUp = true) (hsound : preambleFaulty pre = false)
    (hread : natAt pre 0 = 2) (hheld : s.q.spiHeld = []) :
    Does (.spiRead pre n) s fun t => t.q = spiSent (preambleWords pre) n (statusSent s).q ∧ CountsOnly { s with q := t.q } t := by
  obtain ⟨hq, honly⟩ := spiSend_of_unheld (words := preambleWords pre) (clocked := n) (s := statusSent s) hheld
  have hexec : exec (.spiRead pre n) s = .next ((statusSent s).spiSend (preambleWords pre) n) := by
    show Host.Outcome.next (s.spiTransaction pre [] n) = _
    rw [spiTransaction_of_sound hup hsound, hread]
    rfl
  exact ⟨_, hexec, hq, honly⟩

/-- An empty queue sends zeros. -/
theorem spiSent_of_empty {words n : Nat} {q : Queues} (h : q.spiOut = []) :
    (spiSent words n q).sent = List.replicate (min n words) 0 ∧ (spiSent words n q).spiOut = [] := by
  simp [spiSent, fittingWords, h, recordsFitting, List.take_replicate]

/-- A READ of the words of the oldest record sends them, and takes the record out once all were clocked. -/
theorem spiSent_of_front {n : Nat} {q : Queues} {o : OutRec} {os : List OutRec} (hout : q.spiOut = o :: os)
    (hsizes : ∀ r ∈ os, 2 ≤ r.record.size) (hsize : o.record.size = o.record.words.length) :
    (spiSent o.record.size n q).sent = o.record.words.take n ∧
    (spiSent o.record.size n q).spiOut = if o.record.size ≤ n then os else q.spiOut := by
  have hfit : recordsFitting o.record.size (o :: os) = [o] := by
    rw [recordsFitting, if_pos le_rfl, Nat.sub_self, recordsFitting_of_full hsizes]
  have hwords : o.record.size - o.record.words.length = 0 := by omega
  constructor
  · have hfitting : fittingWords o.record.size q = o.record.words := by simp [fittingWords, hout, hfit]
    show (fittingWords o.record.size q ++ _).take _ = _
    rw [hfitting, hwords, List.replicate_zero, List.append_nil, hsize, ← List.take_take, List.take_length]
  · by_cases hn : o.record.size ≤ n
    · simp [spiSent, fittingWords, hout, hfit, recordsFitting_one, hn]
    · simp [spiSent, fittingWords, hout, hfit, recordsFitting_one, hn]

/-- Settles O48: discards by `spiDiscard_counts`, a WRITE of one record by the lemmas of `OneRecord`, a READ by `spiSent_of_front`. -/
theorem spiTransactionsTakeEffect : Obligations.SpiTransactionsTakeEffect := by
  unfold Obligations.SpiTransactionsTakeEffect
  refine ⟨fun pre words n s h => ⟨congrArg _ (spiTransaction_of_down h), congrArg _ (spiTransaction_of_down h),
      congrArg _ (spiTransaction_of_down h)⟩, fun pre s hup hsound hstatus => ?_, fun pre words n c s hc hup hfaulty => ?_,
    fun pre words s hup hsound hwrite => ⟨fun x hwords hroom hwhole => ?_, fun h => ?_⟩,
    fun pre n s hup hsound hread hheld => ⟨fun hout => ?_, fun o os hout hfit hsizes hsize => ?_⟩⟩
  · show Host.Outcome.next (s.spiTransaction pre [] 0) = _
    rw [spiTransaction_of_sound hup hsound, hstatus]
    rfl
  · rcases hc with rfl | rfl | rfl
    · exact ⟨_, rfl, spiTransaction_discards hup hfaulty⟩
    · exact ⟨_, rfl, spiTransaction_discards hup hfaulty⟩
    · exact ⟨_, rfl, spiTransaction_discards hup hfaulty⟩
  · have hone : OneRecord pre words x s := ⟨hup, hsound, hwrite, hwords, hroom, hwhole⟩
    exact ⟨spiWrite_queues hone, spiWrite_serves hone, spiWrite_discards hone⟩
  · obtain ⟨hq, honly⟩ := spiDiscard_counts (statusSent s)
    exact ⟨_, spiWrite_of_unfit hup hsound hwrite h, hq, honly⟩
  · obtain ⟨t, hexec, hq, honly⟩ := spiRead_sends (n := n) hup hsound hread hheld
    obtain ⟨hsent, hempty⟩ := spiSent_of_empty (words := preambleWords pre) (n := n) (q := (statusSent s).q) hout
    exact ⟨t, hexec, hq ▸ hsent, hq ▸ hempty, honly⟩
  · obtain ⟨t, hexec, hq, honly⟩ := spiRead_sends (n := n) hup hsound hread hheld
    rw [hfit] at hq ⊢
    obtain ⟨hsent, hleft⟩ := spiSent_of_front (n := n) (q := (statusSent s).q) hout hsizes hsize
    exact ⟨t, hexec, hq ▸ hsent, hq ▸ hleft, by rw [hq]; exact hheld, by rw [hq]; rfl, honly⟩

end Sys2Proof.Proofs
end

section
/-! PROOF. IO-Link sessions (R464, R475, R478, R480, R485): how one begins, what a master message does, and how it ends. -/

namespace Sys2Proof.Proofs

open Sys2Proof Sys2Proof.Machine Sys2Proof.Laws

/-! ### The ends of a session -/

theorem gen_two_of_set {q : Queues} {n : Nat} (hlen : q.gens.length = 4) : ({ q with gens := setAt q.gens 2 n }).gen 2 = n := by
  simp [Queues.gen, natAt, setAt_eq_set, hlen]

/-- A session's end: its generation, its HELLO answer and its open request are gone. -/
theorem endIol_ends {s : State} (hlen : s.q.gens.length = 4) :
    s.endIol.iol.state = 0 ∧ s.endIol.q.gen 2 = 0 ∧ s.endIol.iol.hello = List.replicate 20 0 ∧ s.endIol.iol.response = none ∧
    s.endIol.iol.busy = false ∧ s.endIol.iol.downloading = false ∧ s.endIol.iol.pdOut = s.iol.pdOut ∧
    s.endIol.iol.uploadFlag = s.iol.uploadFlag ∧
    s.endIol = { s with iol := s.endIol.iol, q := { s.q with gens := s.endIol.q.gens } } :=
  ⟨rfl, gen_two_of_set hlen, rfl, rfl, rfl, rfl, rfl, rfl, rfl⟩

/-- Whether a command that ends an IO-Link session is due. -/
def EndsIol (c : Instr) (due : Bool) (s : State) : Prop :=
  c = .iolFallback ∧ due = true ∨ c = .iolSessionTimeout ∧ due = decide (s.iol.heard + usNow 1000000 ≤ s.frame.now)

theorem endsIol_eq {c : Instr} {due : Bool} {s : State} (hc : EndsIol c due s) :
    exec c s = .next (if s.iol.state = 0 ∨ due = false then s else s.endIol) := by
  rcases hc with ⟨rfl, rfl⟩ | ⟨rfl, rfl⟩
  · show Host.Outcome.next (iolFallback s) = _
    simp [iolFallback]
  · show Host.Outcome.next (iolSessionTimeout s) = _
    simp [iolSessionTimeout]

/-! ### The wake-up request -/

/-- The event of a wake-up request. -/
def wakeEvent (s : State) : Raised := { ev := 40, code := s.pwr.state.fromCode, arg := 0, src := 0x4C, cls := 2 }

theorem iolWake_eq (s : State) :
    exec .iolWake s = .next (if s.linksUp then (s.raise (wakeEvent s)).startIol else s.raise (wakeEvent s)) := rfl

/-- The device that has taken IOL_CONFIG at a wake-up request. -/
def iolStarted (s : State) : IoLink :=
  { s.endIol.iol with config := s.on_ 0x1802 1, heard := s.frame.now, state := if bitAt (s.on_ 0x1802 1) 15 then 1 else 0 }

theorem startIol_of_enabled {s : State} (h : bitAt (s.on_ 0x1802 1) 15 = true) : s.startIol =
    { s with iol := iolStarted s, q := { s.q with gens := setAt (setAt s.q.gens 2 0) 2 1 }, pwr := s.pwr.powered 4 } := by
  have hon : bitAt (s.endIol.on_ 0x1802 1) 15 = true := h
  simp only [State.startIol, hon, if_true]
  simp only [iolStarted, h, if_true]
  rfl

theorem startIol_of_disabled {s : State} (h : bitAt (s.on_ 0x1802 1) 15 = false) : s.startIol =
    { s with iol := iolStarted s, q := { s.q with gens := setAt s.q.gens 2 0 } } := by
  have hoff : bitAt (s.endIol.on_ 0x1802 1) 15 = false := h
  simp only [State.startIol, hoff, if_false, Bool.false_eq_true]
  simp only [iolStarted, h, if_false, Bool.false_eq_true]
  rfl

theorem powered_on {p : Power} {d : Nat} (hd : d < p.doms.length) : ((p.powered d).dom d).on = true := by
  simp only [Power.powered, Power.dom, List.getD_eq_getElem?_getD, setDoms_getElem?, List.getElem?_eq_getElem hd, Option.map_some,
    Option.getD_some]
  exact iterate_of_pos (P := fun q : Domain => q.on = true) (fun _ => rfl) (List.count_pos_iff.2 (by simp)) _

theorem EventsOnly_on_ {u t : State} (h : EventsOnly u t) (index sub : Nat) : t.on_ index sub = u.on_ index sub := by rw [h]; rfl

/-- A session's begin leaves what an event may change as it stands. -/
theorem EventsOnly_startIol {s v : State} (h : EventsOnly s v) :
    EventsOnly { s with iol := v.startIol.iol, q := { s.q with gens := v.startIol.q.gens },
                        pwr := { s.pwr with doms := v.startIol.pwr.doms } } v.startIol := by
  cases hon : bitAt (v.on_ 0x1802 1) 15
  · rw [startIol_of_disabled hon, h]
    rfl
  · rw [startIol_of_enabled hon, h]
    rfl

/-- A session begins with the configuration, on a device whose LK is switched on. -/
theorem startIol_starts {s : State} (hlen : s.q.gens.length = 4) (hdoms : s.pwr.doms.length = 6) :
    s.startIol.iol = iolStarted s ∧ s.startIol.q.gen 2 = (if bitAt (s.on_ 0x1802 1) 15 then 1 else 0) ∧
    (if bitAt (s.on_ 0x1802 1) 15 then (s.startIol.pwr.dom 4).on = true else s.startIol.pwr.doms = s.pwr.doms) := by
  cases hon : bitAt (s.on_ 0x1802 1) 15
  · rw [startIol_of_disabled hon]
    exact ⟨rfl, gen_two_of_set hlen, rfl⟩
  · rw [startIol_of_enabled hon]
    exact ⟨rfl, gen_two_of_set (q := { s.q with gens := setAt s.q.gens 2 0 }) (by simpa [setAt_eq_set] using hlen),
      powered_on (by omega)⟩

/-! ### Master messages -/

/-- The state in which a master message that begins at a time of the frame finds the device: the process data input due is swapped in. -/
def mStarted (cyc : Nat) (s : State) : State :=
  { s with frame := s.frame.at_ cyc, iol := if 3200 ≤ (s.frame.at_ cyc).cyc then s.iol.swapPd else s.iol }

/-- The swap of the process data input changes nothing else of the device that a master message meets. -/
theorem swapPd_keeps (d : IoLink) : d.swapPd = { d with pdIn := d.swapPd.pdIn, pdNext := d.swapPd.pdNext, pdValid := d.swapPd.pdValid } := by
  unfold IoLink.swapPd
  split <;> rfl

theorem mStarted_keeps (cyc : Nat) (s : State) : (mStarted cyc s).iol =
    { s.iol with pdIn := (mStarted cyc s).iol.pdIn, pdNext := (mStarted cyc s).iol.pdNext, pdValid := (mStarted cyc s).iol.pdValid } := by
  unfold mStarted
  dsimp only
  split
  · exact swapPd_keeps s.iol
  · rfl

/-- The device after a sound master message, before the pending event is reported. -/
def mAnswered (cyc command : Nat) (pd : List Nat) (valid : Bool) (u : State) : IoLink :=
  { u.iol with
    cycleLast := match u.iol.lastStart with
      | some l => min (2 ^ 32 - 1) ((u.frame.base + 8 * cyc - l) / 512)
      | none => u.iol.cycleLast
    lastStart := some (u.frame.base + 8 * cyc)
    heard := u.frame.now
    reply := u.mReply
    pdOut := if u.iol.state == 3 && decide (0 < u.iol.outLen) then (pd.take u.iol.outLen ++ List.replicate 32 0).take 32 else u.iol.pdOut
    pdOutValid := if u.iol.state == 3 && decide (0 < u.iol.outLen) then valid else u.iol.pdOutValid
    pdOutNew := u.iol.pdOutNew || u.iol.state == 3 && decide (0 < u.iol.outLen)
    state := if command = 2 ∧ u.iol.state = 1 then 2
      else if command = 3 ∧ (u.iol.state = 1 ∨ u.iol.state = 2) then 3 else u.iol.state }

/-- The device after the report of its oldest pending event, where one is taken. -/
def iolReported (takes : Bool) (d : IoLink) : IoLink :=
  match takes, d.events with
  | true, e :: es => { d with events := es, lastEvent := bytesOfWords e.words, reply := iolEventOctets e ++ d.reply }
  | _, _ => d

section Message

variable {cyc command : Nat} {sound valid takes : Bool} {pd : List Nat} {s : State}

theorem iolMSequence_of_none (h : s.lkUp = false ∨ s.iol.state = 0) : exec (.iolMSequence cyc sound command (pd, valid) takes) s = .next s := by
  have hnone : (!s.lkUp || s.iol.state == 0) = true := by rcases h with h | h <;> simp [h]
  show Host.Outcome.next (iolMSequence cyc sound command pd valid takes s) = _
  rw [iolMSequence, if_pos hnone]

variable (hup : s.lkUp = true) (hsession : s.iol.state ≠ 0)

include hup hsession

theorem iolMSequence_of_unsound : exec (.iolMSequence cyc false command (pd, valid) takes) s =
    .next (({ mStarted cyc s with iol := { (mStarted cyc s).iol with reply := [] } }).linkError 2) := by
  have hsome : (!s.lkUp || s.iol.state == 0) = false := by simp [hup, hsession]
  show Host.Outcome.next (iolMSequence cyc false command pd valid takes s) = _
  simp only [iolMSequence, hsome, Bool.false_eq_true, if_false, Bool.not_false, if_true, swapPd_eq]
  rfl

theorem iolMSequence_of_sound : exec (.iolMSequence cyc true command (pd, valid) takes) s =
    .next (({ mStarted cyc s with iol := iolReported takes (mAnswered cyc command pd valid (mStarted cyc s)) }).count
      [linkAct 0x60 1, linkAct 0x61 1]) := by
  have hsome : (!s.lkUp || s.iol.state == 0) = false := by simp [hup, hsession]
  have hevents : (mAnswered cyc command pd valid (mStarted cyc s)).events = (mStarted cyc s).iol.events := rfl
  show Host.Outcome.next (iolMSequence cyc true command pd valid takes s) = _
  simp only [iolMSequence, hsome, Bool.false_eq_true, if_false, Bool.not_true, swapPd_eq]
  cases takes
  · rfl
  · refine congrArg (fun x : State => Host.Outcome.next (x.count [linkAct 0x60 1, linkAct 0x61 1])) ?_
    show State.reportIolEvent { mStarted cyc s with iol := mAnswered cyc command pd valid (mStarted cyc s) } = _
    unfold State.reportIolEvent iolReported
    dsimp only
    split
    next heq => rw [show (mAnswered cyc command pd valid (mStarted cyc s)).events = [] from heq]
    next heq => rw [show (mAnswered cyc command pd valid (mStarted cyc s)).events = _ :: _ from heq]; rfl

end Message

/-- The report of an event changes the events that wait, the last one and the reply only. -/
theorem iolReported_keeps (takes : Bool) (d : IoLink) : iolReported takes d =
    { d with events := (iolReported takes d).events, lastEvent := (iolReported takes d).lastEvent, reply := (iolReported takes d).reply } := by
  unfold iolReported
  split <;> rfl

theorem iolReported_of_none {takes : Bool} {d : IoLink} (h : takes = false ∨ d.events = []) : iolReported takes d = d := by
  unfold iolReported
  split
  next heq => rcases h with h | h <;> simp_all
  next => rfl

theorem iolReported_of_front {d : IoLink} {e : Pend} {es : List Pend} (h : d.events = e :: es) :
    iolReported true d = { d with events := es, lastEvent := bytesOfWords e.words, reply := iolEventOctets e ++ d.reply } := by
  unfold iolReported
  rw [h]

/-- A sound master message answers, takes the process data output in OPERATE, and moves the session on. -/
theorem iolMSequence_sound {cyc command : Nat} {valid takes : Bool} {pd : List Nat} {s u : State} (hu : u = mStarted cyc s)
    (hup : s.lkUp = true) (hsession : s.iol.state ≠ 0) :
    Does (.iolMSequence cyc true command (pd, valid) takes) s fun t =>
      t.iol.state = (if command = 2 ∧ s.iol.state = 1 then 2
        else if command = 3 ∧ (s.iol.state = 1 ∨ s.iol.state = 2) then 3 else s.iol.state) ∧
      t.iol.lastStart = some (u.frame.base + 8 * cyc) ∧ t.iol.heard = u.frame.now ∧ t.iol.pdIn = u.iol.pdIn ∧
      (s.iol.state = 3 → 0 < s.iol.outLen →
        t.iol.pdOut = (pd.take s.iol.outLen ++ List.replicate 32 0).take 32 ∧ t.iol.pdOutValid = valid ∧ t.iol.pdOutNew = true) ∧
      (s.iol.state ≠ 3 ∨ s.iol.outLen = 0 → t.iol.pdOut = s.iol.pdOut ∧ t.iol.pdOutValid = s.iol.pdOutValid) ∧
      (takes = false ∨ s.iol.events = [] → t.iol.reply = u.mReply ∧ t.iol.events = s.iol.events) ∧
      (∀ e es, takes = true → s.iol.events = e :: es →
        t.iol.reply = iolEventOctets e ++ u.mReply ∧ t.iol.events = es ∧ t.iol.lastEvent = bytesOfWords e.words) ∧
      CountsOnly { u with iol := t.iol } t := by
  subst hu
  have hkeeps := mStarted_keeps cyc s
  have hstate : (mStarted cyc s).iol.state = s.iol.state := by rw [hkeeps]
  have hout : (mStarted cyc s).iol.outLen = s.iol.outLen := by rw [hkeeps]; rfl
  have hevents : (mAnswered cyc command pd valid (mStarted cyc s)).events = s.iol.events := by
    show (mStarted cyc s).iol.events = _
    rw [hkeeps]
  have hrep := iolReported_keeps takes (mAnswered cyc command pd valid (mStarted cyc s))
  refine ⟨_, iolMSequence_of_sound hup hsession, ?_⟩
  simp only [count_iol]
  refine ⟨?_, ?_, ?_, ?_, fun hoperate hlen => ⟨?_, ?_, ?_⟩, fun hnone => ⟨?_, ?_⟩, fun hnone => ?_, fun e es htakes hes => ?_,
    CountsOnly_count _ _⟩
  · rw [hrep]
    simp only [mAnswered, hstate]
  · rw [hrep]
    rfl
  · rw [hrep]
    rfl
  · rw [hrep]
    rfl
  · rw [hrep]
    simp [mAnswered, hstate, hout, hoperate, hlen]
  · rw [hrep]
    simp [mAnswered, hstate, hout, hoperate, hlen]
  · rw [hrep]
    simp [mAnswered, hstate, hout, hoperate, hlen]
  · have hno : ((mStarted cyc s).iol.state == 3 && decide (0 < (mStarted cyc s).iol.outLen)) = false := by
      rcases hnone with h | h <;> simp [hstate, hout, h]
    rw [hrep]
    simp only [mAnswered, hno, Bool.false_eq_true, if_false]
    rw [hkeeps]
  · have hno : ((mStarted cyc s).iol.state == 3 && decide (0 < (mStarted cyc s).iol.outLen)) = false := by
      rcases hnone with h | h <;> simp [hstate, hout, h]
    rw [hrep]
    simp only [mAnswered, hno, Bool.false_eq_true, if_false]
    rw [hkeeps]
  · rw [iolReported_of_none (hnone.imp id fun h => hevents.trans h)]
    exact ⟨rfl, hevents⟩
  · subst htakes
    rw [iolReported_of_front (hevents.trans hes)]
    exact ⟨rfl, rfl, rfl⟩

/-- Settles O49: the wake-up by `startIol_starts`, master messages by `iolMSequence_sound`, the ends by `endsIol_eq`. -/
theorem ioLinkSessionsRunAndEnd : Obligations.IoLinkSessionsRunAndEnd := by
  unfold Obligations.IoLinkSessionsRunAndEnd
  refine ⟨fun s => ⟨fun hdown => ?_, fun hup hlen hdoms => ?_⟩, fun cyc command sound valid takes pd s u hu =>
    ⟨fun h => iolMSequence_of_none h, fun hup hsession hsound => ?_, fun hup hsession hsound => ?_⟩, fun c due s hc =>
    ⟨fun h => ?_, fun hsession hdue hlen => ?_⟩⟩
  · have hexec := iolWake_eq s
    rw [hdown] at hexec
    exact ⟨_, hexec, EventsOnly_raise _ _⟩
  · have hexec := iolWake_eq s
    rw [hup, if_pos rfl] at hexec
    have honly := EventsOnly_raise (wakeEvent s) s
    obtain ⟨hiol, hgen, hlk⟩ := startIol_starts (s := s.raise (wakeEvent s)) (by rw [raise_q]; exact hlen) (by rw [raise_pwr_doms]; exact hdoms)
    rw [EventsOnly_on_ honly] at hgen hlk
    rw [raise_pwr_doms] at hlk
    have hconfig : iolStarted (s.raise (wakeEvent s)) = iolStarted s := by rw [honly]; rfl
    rw [hconfig] at hiol
    refine ⟨_, hexec, ?_, ?_, ?_, hgen, hlk, ?_, ?_, ?_, ?_, ?_, ?_, EventsOnly_startIol honly⟩
    all_goals rw [hiol]; rfl
  · subst hsound
    exact iolMSequence_sound hu hup hsession
  · subst hsound hu
    obtain ⟨hq, honly⟩ := linkError_counts 2 { mStarted cyc s with iol := { (mStarted cyc s).iol with reply := [] } }
    refine ⟨_, iolMSequence_of_unsound hup hsession, linkError_iol _ _, hq, ?_⟩
    rw [linkError_iol]
    exact honly
  · rw [endsIol_eq hc, if_pos h]
  · have hexec := endsIol_eq hc
    rw [if_neg (by simp [hsession, hdue])] at hexec
    exact ⟨_, hexec, endIol_ends hlen⟩

end Sys2Proof.Proofs
end

section
/-! PROOF. An ISDU read that carries octets: one of more than 232 of them is answered 0x8033 (R481) before the dictionary is asked,
whatever it reads. -/

namespace Sys2Proof.Proofs

open Sys2Proof Sys2Proof.Machine Sys2Proof.Laws

/-- A device that runs in MEASURE in an IO-Link session in STARTUP, with LK on. -/
def inStartup : State := { State.reset with
  mode := .measure
  pwr := { State.reset.pwr with state := .run, doms := List.replicate 6 { on := true, ready := true, retried := false, since := 0 } }
  frame := { State.reset.frame with running := true }
  q := { State.reset.q with gens := [0, 0, 1, 0] }
  iol := { State.reset.iol with state := 1 } }

/-- The line of 0x0300:1. -/
def row0300 : Row := ⟨0x0300, 0x0300, 1, 1, .u 32, true, .metrology, true, 1, 1⟩

/-- A dictionary request by ISDU with more than 232 octets is answered 0x8033. -/
theorem iolIsdu_of_tooMany {wr : Bool} {index sub : Nat} {data : List Nat} {s : State} (hup : s.lkUp = true) (hsession : s.iol.state ≠ 0)
    (hfree : s.iol.busy = false) (hlo : 0x0100 ≤ index) (hhi : index < 0x4000) (hsub : sub ≠ 0) (hdata : 232 < data.length) :
    Does (.iolIsdu wr index sub data) s fun t => t.iol.response = some (0x8033, []) := by
  have hsome : (!s.lkUp || s.iol.state == 0 || s.iol.busy) = false := by simp [hup, hsession, hfree]
  refine ⟨_, rfl, ?_⟩
  show (iolIsdu wr index sub data s).iol.response = _
  simp only [iolIsdu, hsome, Bool.false_eq_true, if_false, Nat.not_le.mpr hhi, hlo, if_true, State.isduRequest, hsub, false_and,
    hdata, true_or, or_true]
  rfl

/-- The device in STARTUP would serve a read of 0x0300:1. -/
theorem inStartup_serves : inStartup.servesNow (inStartup.asked .isdu (inStartup.sessionGen .isdu) 1 0x0300 1 0 []) := by
  unfold State.servesNow
  decide +kernel

/-- Refutes O50: it says that a read of 0x0300:1 is answered with its value whatever octets the ISDU carries, but with 233 of them it is
answered 0x8033 (`iolIsdu_of_tooMany`). -/
theorem not_isduAndDataStorage : ¬ Obligations.IsduAndDataStorage := by
  unfold Obligations.IsduAndDataStorage
  intro h
  obtain ⟨-, hread⟩ := h.1 false 0x0300 1 (List.replicate 233 0) inStartup _ rfl
  obtain ⟨-, -, -, hvalue⟩ := hread (by decide +kernel) (by decide +kernel) rfl
  obtain ⟨t, hexec, hresponse, -⟩ := hvalue row0300 rfl (by decide) (by decide) (by decide) (by decide +kernel) rfl (by decide +kernel)
    (by decide) (by simp [row0300]) (by decide) (by decide) (by decide) (by decide) (by decide +kernel) (by decide +kernel) (by decide +kernel)
    inStartup_serves
  obtain ⟨t', hexec', hresponse'⟩ := iolIsdu_of_tooMany (wr := false) (index := 0x0300) (sub := 1) (data := List.replicate 233 0)
    (s := inStartup) (by decide +kernel) (by decide +kernel) rfl (by decide) (by decide) (by decide) (by rw [List.length_replicate]; decide)
  obtain rfl : t = t' := Host.Outcome.next.inj (hexec.symm.trans hexec')
  rw [hresponse] at hresponse'
  exact absurd (congrArg Prod.fst (Option.some.inj hresponse')) (by decide)

end Sys2Proof.Proofs
end

section
/-! PROOF. The M-Bus slave (R464, R488 to R491): what a frame addressed to the device changes, the acknowledgements, and the session. -/

namespace Sys2Proof.Proofs

open Sys2Proof Sys2Proof.Machine Sys2Proof.Laws

/-! ### What the parts of a frame's service change -/

/-- The slave that has heard a frame addressed to the device. -/
def mbusHeard (s : State) : State := { s with mbus := { s.mbus with heard := s.frame.absTick, sent := [] } }

/-- A frame addressed to the device is heard, counted, and raises MBUS_FRAME. -/
def mbusTaken (addr c ci : Nat) (s : State) : State := ((mbusHeard s).count [linkAct 0x60 1]).raise (mbusFrame addr c ci)

theorem mbusTaken_only (addr c ci : Nat) (s : State) : CountsOnly (mbusHeard s) (mbusTaken addr c ci s) :=
  CountsOnly_trans (CountsOnly_count _ _) (CountsOnly_raise _ _)

theorem mbusTake_of_addressed {addr : Nat} {s : State} (hup : s.lkUp = true) (haddr : s.mbusAddressed addr = true) (c ci : Nat)
    (act : State → State) : s.mbusTake addr c ci act = act (mbusTaken addr c ci s) := by
  rw [State.mbusTake, hup, haddr]
  rfl

theorem mbusTake_of_none {addr : Nat} {s : State} (h : s.lkUp = false ∨ s.mbusAddressed addr = false) (c ci : Nat) (act : State → State) :
    s.mbusTake addr c ci act = s := by
  rw [State.mbusTake, if_neg]
  rcases h with h | h <;> simp [h]

section Parts

variable {u v : State} (h : CountsOnly u v)

include h

theorem CountsOnly_mbus : v.mbus = u.mbus := by rw [h]

theorem CountsOnly_q : v.q = u.q := by rw [h]

theorem CountsOnly_modMbus (f : MBus → MBus) : CountsOnly { u with mbus := f u.mbus } (v.modMbus f) := by
  rw [State.modMbus, CountsOnly_mbus h, h]
  rfl

theorem CountsOnly_mbusSession (on_ : Bool) : CountsOnly (u.mbusSession on_) (v.mbusSession on_) := by
  rw [h]
  rfl

/-- A link error counts one in the port's count. -/
theorem CountsOnly_linkError (port : Nat) :
    CountsOnly { u with q := { u.q with linkErrors := modAt u.q.linkErrors port fun n => min (2 ^ 32 - 1) (n + 1) } } (v.linkError port) := by
  refine CountsOnly_trans ?_ (CountsOnly_count _ _)
  rw [CountsOnly_q h]
  exact CountsOnly_withQ h _

/-- An answer is sent, but to broadcast 255. -/
theorem CountsOnly_mbusSend (addr : Nat) (bytes : List Nat) :
    CountsOnly { u with mbus := { u.mbus with sent := if addr = 255 then u.mbus.sent else bytes } } (v.mbusSend addr bytes) := by
  unfold State.mbusSend
  split
  · exact h
  · exact CountsOnly_trans (CountsOnly_modMbus h fun m => { m with sent := bytes }) (CountsOnly_count _ _)

end Parts

/-- SND_NKE ends the selection and the FCB. -/
def deselected (m : MBus) : MBus := { m with fcb := none, selected := false }

/-! ### Frames addressed to the device -/

section Addressed

variable {addr : Nat} {s : State} (hup : s.lkUp = true) (haddr : s.mbusAddressed addr = true)

include hup haddr

theorem sndNke_acknowledges (hlen : s.q.gens.length = 4) : Does (.sndNke addr) s fun t =>
    t.mbus.sent = (if addr = 255 then [] else [0xE5]) ∧ t.mbus.session = true ∧ t.q.gen 3 = 1 ∧ t.mbus.fcb = none ∧
    t.mbus.selected = false ∧ t.mbus.heard = s.frame.absTick ∧ t.mbus.request = none ∧ t.mbus.answer = [] ∧
    CountsOnly { s with mbus := t.mbus, q := { s.q with gens := t.q.gens }
                        acc := { s.acc with waiting := s.acc.waiting.filter fun r => r.via.port != 3 } } t := by
  have hexec : exec (.sndNke addr) s =
      .next ((((mbusTaken addr 0x40 0 s).mbusSession true).modMbus deselected).mbusSend addr [0xE5]) :=
    congrArg Host.Outcome.next (mbusTake_of_addressed hup haddr _ _ _)
  have honly := CountsOnly_mbusSend (CountsOnly_modMbus (CountsOnly_mbusSession (mbusTaken_only addr 0x40 0 s) true) deselected) addr [0xE5]
  have hmbus := CountsOnly_mbus honly
  have hq := CountsOnly_q honly
  have hgen : (({ s.q with gens := setAt s.q.gens 3 1 } : Queues)).gen 3 = 1 := by simp [Queues.gen, natAt, setAt_eq_set, hlen]
  refine ⟨_, hexec, ?_⟩
  simp only [hmbus, hq]
  exact ⟨rfl, rfl, hgen, rfl, rfl, rfl, rfl, rfl, honly⟩

theorem mbusApplicationReset_acknowledges (fcb : Bool) : Does (.mbusApplicationReset addr fcb) s fun t =>
    CountsOnly { s with mbus := { s.mbus with
      heard := s.frame.absTick, sent := if addr = 255 then [] else [0xE5], telegram := 1 } } t :=
  ⟨_, congrArg Host.Outcome.next (mbusTake_of_addressed hup haddr _ _ _),
    CountsOnly_mbusSend (CountsOnly_modMbus (mbusTaken_only addr (sndUd fcb) 0x50 s) fun m => { m with telegram := 1 }) addr [0xE5]⟩

theorem mbusBaudChange_acknowledges {ci : Nat} (hlo : 0xB8 ≤ ci) (hhi : ci ≤ 0xBD) (fcb : Bool) : Does (.mbusBaudChange addr ci fcb) s fun t =>
    CountsOnly { s with mbus := { s.mbus with
      heard := s.frame.absTick, sent := if addr = 255 then [] else [0xE5], baud := ci - 0xB8 } } t :=
  ⟨_, congrArg Host.Outcome.next ((if_pos ⟨hlo, hhi⟩).trans (mbusTake_of_addressed hup haddr _ _ _)),
    CountsOnly_modMbus (CountsOnly_mbusSend (mbusTaken_only addr (sndUd fcb) ci s) addr [0xE5]) fun m => { m with baud := ci - 0xB8 }⟩

theorem mbusSetPrimaryAddress_refused {value : Nat} (h : s.on_ 0x1808 1 ≠ 0 ∨ s.mode = .taper) (fcb : Bool) :
    Does (.mbusSetPrimaryAddress addr value fcb) s fun t =>
      CountsOnly { s with mbus := { s.mbus with heard := s.frame.absTick, sent := [] }
                          q := { s.q with linkErrors := modAt s.q.linkErrors 3 fun k => min (2 ^ 32 - 1) (k + 1) } } t := by
  have honly := mbusTaken_only addr (sndUd fcb) 0x51 s
  have hstill : (mbusTaken addr (sndUd fcb) 0x51 s).on_ 0x1808 1 ≠ 0 ∨ (mbusTaken addr (sndUd fcb) 0x51 s).mode = .taper := by
    rw [honly]
    exact h
  exact ⟨_, congrArg Host.Outcome.next ((mbusTake_of_addressed hup haddr _ _ _).trans (if_pos hstill)), CountsOnly_linkError honly 3⟩

theorem mbusFrameIgnored_counts (c ci : Nat) : Does (.mbusFrameIgnored false addr c ci) s fun t =>
    CountsOnly { s with mbus := { s.mbus with heard := s.frame.absTick, sent := [] }
                        q := { s.q with linkErrors := modAt s.q.linkErrors 3 fun k => min (2 ^ 32 - 1) (k + 1) } } t := by
  have hexec : mbusFrameIgnored false addr c ci s = (mbusTaken addr c ci s).linkError 3 := by
    rw [mbusFrameIgnored, hup]
    exact mbusTake_of_addressed hup haddr _ _ _
  exact ⟨_, congrArg Host.Outcome.next hexec, CountsOnly_linkError (mbusTaken_only addr c ci s) 3⟩

end Addressed

theorem mbusFrameIgnored_faulty {addr c ci : Nat} {s : State} (hup : s.lkUp = true) :
    exec (.mbusFrameIgnored true addr c ci) s = .next (s.linkError 3) := by
  show Host.Outcome.next (mbusFrameIgnored true addr c ci s) = _
  rw [mbusFrameIgnored, hup]
  rfl

/-! ### Selections -/

section Selection

variable {fcb : Bool} {id m v d : Nat} {s : State} (hup : s.lkUp = true)

include hup

theorem mbusSelection_selects (h : s.selectionMatches id m v d = true) : Does (.mbusSelection fcb id m v d) s fun t =>
    CountsOnly { s with mbus := { s.mbus with selected := true, heard := s.frame.absTick, sent := [0xE5] } } t := by
  have hexec : mbusSelection fcb id m v d s =
      (mbusTaken 253 (sndUd fcb) 0x52 (s.modMbus fun m => { m with selected := true })).mbusAck 253 := by
    rw [mbusSelection, hup, h]
    refine mbusTake_of_addressed (s := s.modMbus fun m => { m with selected := true }) hup ?_ _ _ _
    simp [State.mbusAddressed, State.modMbus]
  exact ⟨_, congrArg Host.Outcome.next hexec, CountsOnly_mbusSend (mbusTaken_only _ _ _ _) 253 [0xE5]⟩

theorem mbusSelection_deselects (h : s.selectionMatches id m v d = false) : exec (.mbusSelection fcb id m v d) s =
    .next ((s.mbusTake 253 (sndUd fcb) 0x52 (fun x => x)).modMbus fun m => { m with selected := false }) := by
  show Host.Outcome.next (mbusSelection fcb id m v d s) = _
  rw [mbusSelection, hup, h]
  rfl

end Selection

/-! ### Frames to another address, and the idle times -/

/-- The commands of a frame that carries an address. -/
def FrameTo (addr ci value op id index sub : Nat) (data : List Nat) (fcb : Bool) (c : Instr) : Prop :=
  c = .sndNke addr ∨ c = .reqUd2 addr fcb ∨ c = .reqUd1 addr fcb ∨ c = .mbusApplicationReset addr fcb ∨
    c = .mbusBaudChange addr ci fcb ∨ c = .mbusSetPrimaryAddress addr value fcb ∨ c = .mbusFrameIgnored false addr op ci ∨
    c = .mbusDictionaryRequest addr fcb op id index sub data

theorem frameTo_of_none {addr ci value op id index sub : Nat} {data : List Nat} {fcb : Bool} {c : Instr} {s : State}
    (h : s.lkUp = false ∨ s.mbusAddressed addr = false) (hc : FrameTo addr ci value op id index sub data fcb c) : exec c s = .next s := by
  have hnone := mbusTake_of_none h
  rcases hc with rfl | rfl | rfl | rfl | rfl | rfl | rfl | rfl
  · exact congrArg _ (hnone _ _ _)
  · exact congrArg _ (hnone _ _ _)
  · exact congrArg _ (hnone _ _ _)
  · exact congrArg _ (hnone _ _ _)
  · refine congrArg Host.Outcome.next (?_ : mbusBaudChange addr ci fcb s = s)
    unfold mbusBaudChange
    split
    · exact hnone _ _ _
    · rfl
  · exact congrArg _ (hnone _ _ _)
  · refine congrArg Host.Outcome.next (?_ : mbusFrameIgnored false addr op ci s = s)
    unfold mbusFrameIgnored
    split
    · rfl
    · exact hnone _ _ _
  · exact congrArg _ (hnone _ _ _)

theorem mbusSessionIdle_eq (s : State) : exec .mbusSessionIdle s = .next (
    if s.mbus.session = true ∧ s.mbus.heard + 32768 * s.on_ 0x1808 8 ≤ s.frame.absTick then s.mbusSession false else s) := by
  show Host.Outcome.next (mbusSessionIdle s) = _
  simp only [mbusSessionIdle, State.mbusIdleFor, Bool.and_eq_true, decide_eq_true_eq]

theorem mbusBaudRevert_eq (s : State) : exec .mbusBaudRevert s = .next (
    if s.mbus.heard + 32768 * 600 ≤ s.frame.absTick then { s with mbus := { s.mbus with baud := s.on_ 0x1808 6 } } else s) := by
  show Host.Outcome.next (mbusBaudRevert s) = _
  simp only [mbusBaudRevert, State.mbusIdleFor, decide_eq_true_eq]
  rfl

theorem mbusSession_ends {s : State} (hlen : s.q.gens.length = 4) : (s.mbusSession false).q.gen 3 = 0 := by
  simp [Queues.gen, State.mbusSession, natAt, setAt_eq_set, hlen, flag]

/-- Settles O51: each frame is heard (`mbusTaken_only`) and then acknowledged (`CountsOnly_mbusSend`), or counted as a link error
(`CountsOnly_linkError`). -/
theorem mBusSessionsAndAddresses : Obligations.MBusSessionsAndAddresses := by
  unfold Obligations.MBusSessionsAndAddresses
  refine ⟨fun addr s hup haddr hlen => ⟨sndNke_acknowledges hup haddr hlen, mbusApplicationReset_acknowledges hup haddr,
      fun ci fcb hlo hhi => mbusBaudChange_acknowledges hup haddr hlo hhi fcb,
      fun value fcb h => mbusSetPrimaryAddress_refused hup haddr h fcb, mbusFrameIgnored_counts hup haddr⟩,
    fun addr c ci s hup => ⟨_, mbusFrameIgnored_faulty hup, CountsOnly_linkError (CountsOnly_refl s) 3⟩,
    fun fcb id m v d s hup => ⟨mbusSelection_selects hup, fun hno => ⟨fun haddr => ?_, fun haddr => ?_⟩⟩,
    fun addr ci value op id index sub data fcb c s h hc => frameTo_of_none h hc,
    fun s => ⟨fun h => ?_, fun hsession hidle hlen => ?_, fun h => ?_, fun h => ?_⟩⟩
  · rw [mbusSelection_deselects hup hno, mbusTake_of_none (.inr haddr)]
    rfl
  · have hexec := mbusSelection_deselects (fcb := fcb) hup hno
    rw [mbusTake_of_addressed hup haddr] at hexec
    exact ⟨_, hexec, CountsOnly_modMbus (mbusTaken_only 253 (sndUd fcb) 0x52 s) fun m => { m with selected := false }⟩
  · rw [mbusSessionIdle_eq, if_neg]
    rintro ⟨hon, hdue⟩
    exact h.elim (fun hoff => Bool.noConfusion (hoff.symm.trans hon)) (fun hlt => absurd hdue (Nat.not_le.mpr hlt))
  · have hexec := mbusSessionIdle_eq s
    rw [if_pos ⟨hsession, hidle⟩] at hexec
    exact ⟨_, hexec, mbusSession_ends hlen, rfl⟩
  · rw [mbusBaudRevert_eq, if_pos h]
  · rw [mbusBaudRevert_eq, if_neg (Nat.not_le.mpr h)]

end Sys2Proof.Proofs
end

section
/-! PROOF. The requests of an M-Bus master (R489, R491, R493 to R495): answered anew or repeated, the primary address, and the
dictionary block. -/

namespace Sys2Proof.Proofs

open Sys2Proof Sys2Proof.Machine Sys2Proof.Laws

/-! ### REQ_UD2 and REQ_UD1 -/

/-- The slave that meets a request with a toggled FCB: what the last RSP_UD carried is delivered. -/
def mbusToggled (fcb : Bool) (m : MBus) : MBus := { m.delivered with fcb := some (flag fcb) }

section Requests

variable {u v : State} (h : CountsOnly u v)

include h

theorem mbusReq_repeats {addr : Nat} {fcb : Bool} (hfcb : u.mbus.fcb = some (flag fcb)) (hlast : u.mbus.last ≠ []) (fresh : State → State) :
    CountsOnly { u with mbus := { u.mbus with sent := if addr = 255 then u.mbus.sent else u.mbus.last } } (v.mbusReq addr fcb fresh) := by
  have hcond : v.mbus.fcb = some (flag fcb) ∧ (!v.mbus.last.isEmpty) = true := by
    rw [CountsOnly_mbus h]
    exact ⟨hfcb, by simpa using hlast⟩
  rw [State.mbusReq, if_pos hcond, CountsOnly_mbus h]
  exact CountsOnly_mbusSend h addr u.mbus.last

theorem mbusReq_of_toggled {addr : Nat} {fcb : Bool} (hfcb : u.mbus.fcb ≠ some (flag fcb) ∨ u.mbus.last = []) (fresh : State → State) :
    v.mbusReq addr fcb fresh = fresh (v.modMbus (mbusToggled fcb)) := by
  rw [State.mbusReq, if_neg]
  · rfl
  · rw [CountsOnly_mbus h]
    rintro ⟨hsame, hsome⟩
    exact hfcb.elim (fun hne => hne hsame) fun hnil => by simp [hnil] at hsome

/-- The slave with a new RSP_UD of some octets, before it is sent. -/
theorem CountsOnly_newRsp (addr : Nat) (body : List Nat) (withFlags : Bool) :
    CountsOnly { u with mbus := { u.mbus with
        accessNo := (u.mbus.accessNo + 1) % 256, last := u.mbusHeader ((u.mbus.accessNo + 1) % 256) ++ body
        shown := if withFlags then u.mbus.flags else u.mbus.shown
        sent := if addr = 255 then u.mbus.sent else u.mbusHeader ((u.mbus.accessNo + 1) % 256) ++ body } }
      (v.newRsp addr body withFlags) := by
  have hheader : v.mbusHeader ((v.mbus.accessNo + 1) % 256) = u.mbusHeader ((u.mbus.accessNo + 1) % 256) := by rw [h]; rfl
  have hsent := CountsOnly_mbusSend (CountsOnly_modMbus h fun m =>
    { m with accessNo := (u.mbus.accessNo + 1) % 256, last := u.mbusHeader ((u.mbus.accessNo + 1) % 256) ++ body
             shown := if withFlags then m.flags else m.shown }) addr (u.mbusHeader ((u.mbus.accessNo + 1) % 256) ++ body)
  rw [← hheader, ← CountsOnly_mbus h] at hsent ⊢
  exact hsent

end Requests

/-- The telegrams of the answer under way; the first one packs the records anew. -/
def telegramPages (s : State) : List (List Nat) := if s.mbus.telegram = 1 then packItems 239 [] s.mbusItems else s.mbus.pages

/-- The slave whose next telegram is due. -/
def telegramTurned (s : State) : State := s.modMbus fun m => { m with
  pages := telegramPages s, telegram := if s.mbus.telegram < (telegramPages s).length then s.mbus.telegram + 1 else 1 }

/-- The next telegram is a new RSP_UD of the records that are due, beside what counting changes. -/
theorem nextTelegram_only (addr : Nat) (s : State) :
    CountsOnly ((telegramTurned s).newRsp addr ((telegramPages s).getD (s.mbus.telegram - 1) [])
      (decide (s.mbus.telegram = 1) && bitAt (s.on_ 0x1808 7) 11)) (s.nextTelegram addr) := by
  have heq : s.nextTelegram addr = if (telegramPages s).length ≤ s.mbus.telegram ∧ s.mbus.request.isSome
      then ((telegramTurned s).newRsp addr ((telegramPages s).getD (s.mbus.telegram - 1) [])
        (decide (s.mbus.telegram = 1) && bitAt (s.on_ 0x1808 7) 11)).count [linkAct 0x66 1]
      else (telegramTurned s).newRsp addr ((telegramPages s).getD (s.mbus.telegram - 1) [])
        (decide (s.mbus.telegram = 1) && bitAt (s.on_ 0x1808 7) 11) := rfl
  rw [heq]
  split
  · exact CountsOnly_count _ _
  · exact CountsOnly_refl _

theorem CountsOnly_telegramPages {u v : State} (h : CountsOnly u v) : telegramPages v = telegramPages u := by
  rw [h]
  rfl

theorem CountsOnly_telegramTurned {u v : State} (h : CountsOnly u v) : CountsOnly (telegramTurned u) (telegramTurned v) := by
  have hm := CountsOnly_mbus h
  unfold telegramTurned
  rw [CountsOnly_telegramPages h, hm]
  exact CountsOnly_modMbus h _

/-- The slave after a telegram: the long header with the next access number, then the records. -/
def telegramSent (addr : Nat) (u : State) : MBus :=
  { (telegramTurned u).mbus with
    accessNo := (u.mbus.accessNo + 1) % 256
    last := u.mbusHeader ((u.mbus.accessNo + 1) % 256) ++ (telegramPages u).getD (u.mbus.telegram - 1) []
    shown := if decide (u.mbus.telegram = 1) && bitAt (u.on_ 0x1808 7) 11 then u.mbus.flags else u.mbus.shown
    sent := if addr = 255 then u.mbus.sent
      else u.mbusHeader ((u.mbus.accessNo + 1) % 256) ++ (telegramPages u).getD (u.mbus.telegram - 1) [] }

theorem CountsOnly_nextTelegram {u v : State} (h : CountsOnly u v) (addr : Nat) :
    CountsOnly { u with mbus := telegramSent addr u } (v.nextTelegram addr) := by
  have hm := CountsOnly_mbus h
  have hrsp := CountsOnly_newRsp (CountsOnly_telegramTurned h) addr ((telegramPages v).getD (v.mbus.telegram - 1) [])
    (decide (v.mbus.telegram = 1) && bitAt (v.on_ 0x1808 7) 11)
  have hon : v.on_ 0x1808 7 = u.on_ 0x1808 7 := by rw [h]; rfl
  have hlast := nextTelegram_only addr v
  rw [CountsOnly_telegramPages h, hm, hon] at hrsp hlast
  exact CountsOnly_trans hrsp hlast

theorem mbusHeader_eq (s : State) (n : Nat) (body : List Nat) :
    (s.mbusHeader n ++ body).take 5 = 0x72 :: leBytes 4 (s.on_ 0x1808 2) ∧ natAt (s.mbusHeader n ++ body) 9 = n ∧
    (s.mbusHeader n ++ body).drop 13 = body := ⟨rfl, rfl, rfl⟩

/-- The device that has heard a request with a toggled FCB. -/
def toggledHeard (fcb : Bool) (s : State) : State := { mbusHeard s with mbus := mbusToggled fcb (mbusHeard s).mbus }

theorem toggledHeard_of_none {fcb : Bool} {s : State} (h : s.mbus.flags - (s.mbus.flags &&& s.mbus.shown) = 0) : toggledHeard fcb s =
    { mbusHeard s with mbus := { (mbusHeard s).mbus with fcb := some (flag fcb), flags := 0, shown := 0 } } := by
  have hflags : (mbusHeard s).mbus.flags - ((mbusHeard s).mbus.flags &&& (mbusHeard s).mbus.shown) = 0 := h
  rw [toggledHeard, mbusToggled, MBus.delivered, hflags]

theorem toggledHeard_only (fcb : Bool) (addr c : Nat) (s : State) :
    CountsOnly (toggledHeard fcb s) ((mbusTaken addr c 0 s).modMbus (mbusToggled fcb)) :=
  CountsOnly_modMbus (mbusTaken_only addr c 0 s) (mbusToggled fcb)

/-- The slave after a telegram that a toggled FCB asks for. -/
theorem telegramSent_toggled (addr : Nat) (fcb : Bool) (s : State) :
    (fun m : MBus => m.accessNo = (s.mbus.accessNo + 1) % 256 ∧ m.fcb = some (flag fcb) ∧
      m.flags = s.mbus.flags - (s.mbus.flags &&& s.mbus.shown) ∧ m.sent = (if addr = 255 then [] else m.last) ∧
      m.heard = s.frame.absTick ∧ m.last.take 5 = 0x72 :: leBytes 4 (s.on_ 0x1808 2) ∧ natAt m.last 9 = m.accessNo ∧
      m.last.drop 13 = m.pages.getD (s.mbus.telegram - 1) [] ∧ (s.mbus.telegram ≠ 1 → m.pages = s.mbus.pages))
    (telegramSent addr (toggledHeard fcb s)) := by
  obtain ⟨htake, haccess, hdrop⟩ := mbusHeader_eq (toggledHeard fcb s) ((s.mbus.accessNo + 1) % 256)
    ((telegramPages (toggledHeard fcb s)).getD (s.mbus.telegram - 1) [])
  exact ⟨rfl, rfl, rfl, rfl, rfl, htake, haccess, hdrop, fun htelegram => if_neg htelegram⟩

section Toggled

variable {addr : Nat} {fcb : Bool} {s : State} (hup : s.lkUp = true) (haddr : s.mbusAddressed addr = true)

include hup haddr

theorem reqUd2_taken : exec (.reqUd2 addr fcb) s =
    .next ((mbusTaken addr (0x5B + flagAt fcb 5) 0 s).mbusReq addr fcb fun s2 => s2.nextTelegram addr) :=
  congrArg Host.Outcome.next (mbusTake_of_addressed hup haddr _ _ _)

/-- A REQ_UD1: the error-flags record where a flag is set, else E5. -/
def flagsAnswer (addr : Nat) (s : State) : State :=
  if s.mbus.flags = 0 then (s.modMbus fun m => { m with last := [0xE5] }).mbusAck addr else s.newRsp addr (s.mbusRecord 11) true

theorem reqUd1_taken : exec (.reqUd1 addr fcb) s =
    .next ((mbusTaken addr (0x5A + flagAt fcb 5) 0 s).mbusReq addr fcb (flagsAnswer addr)) :=
  congrArg Host.Outcome.next (mbusTake_of_addressed hup haddr _ _ _)

/-- Under an unchanged FCB the last RSP_UD is repeated. -/
theorem request_repeats {c : Instr} (hc : c = .reqUd2 addr fcb ∨ c = .reqUd1 addr fcb) (hfcb : s.mbus.fcb = some (flag fcb))
    (hlast : s.mbus.last ≠ []) : Does c s fun t => CountsOnly { s with mbus := { s.mbus with
      heard := s.frame.absTick, sent := if addr = 255 then [] else s.mbus.last } } t := by
  rcases hc with rfl | rfl
  · exact ⟨_, reqUd2_taken hup haddr, mbusReq_repeats (mbusTaken_only addr _ 0 s) hfcb hlast _⟩
  · exact ⟨_, reqUd1_taken hup haddr, mbusReq_repeats (mbusTaken_only addr _ 0 s) hfcb hlast _⟩

variable (hfcb : s.mbus.fcb ≠ some (flag fcb) ∨ s.mbus.last = [])

include hfcb

/-- REQ_UD2 under a toggled FCB makes a new RSP_UD of the telegram that is due. -/
theorem reqUd2_answers {left : Nat} (hleft : left = s.mbus.flags - (s.mbus.flags &&& s.mbus.shown)) : Does (.reqUd2 addr fcb) s fun t =>
    t.mbus.accessNo = (s.mbus.accessNo + 1) % 256 ∧ t.mbus.fcb = some (flag fcb) ∧ t.mbus.flags = left ∧
    t.mbus.sent = (if addr = 255 then [] else t.mbus.last) ∧ t.mbus.heard = s.frame.absTick ∧
    t.mbus.last.take 5 = 0x72 :: leBytes 4 (s.on_ 0x1808 2) ∧ natAt t.mbus.last 9 = t.mbus.accessNo ∧
    t.mbus.last.drop 13 = t.mbus.pages.getD (s.mbus.telegram - 1) [] ∧
    (s.mbus.telegram ≠ 1 → t.mbus.pages = s.mbus.pages) ∧ CountsOnly { s with mbus := t.mbus } t := by
  have hexec := reqUd2_taken (fcb := fcb) hup haddr
  rw [mbusReq_of_toggled (mbusTaken_only addr _ 0 s) hfcb] at hexec
  have honly := CountsOnly_nextTelegram (toggledHeard_only fcb addr (0x5B + flagAt fcb 5) s) addr
  obtain ⟨haccess, htoggled, hflags, hsent, hheard, htake, hnumber, hdrop, hpages⟩ := telegramSent_toggled addr fcb s
  refine ⟨_, hexec, ?_⟩
  simp only [CountsOnly_mbus honly]
  exact ⟨haccess, htoggled, hflags.trans hleft.symm, hsent, hheard, htake, hnumber, hdrop, hpages, honly⟩

theorem reqUd1_fresh : exec (.reqUd1 addr fcb) s =
    .next (flagsAnswer addr ((mbusTaken addr (0x5A + flagAt fcb 5) 0 s).modMbus (mbusToggled fcb))) := by
  rw [reqUd1_taken hup haddr, mbusReq_of_toggled (mbusTaken_only addr _ 0 s) hfcb]

variable {left : Nat} (hleft : left = s.mbus.flags - (s.mbus.flags &&& s.mbus.shown))

include hleft

/-- With no error flag left REQ_UD1 is answered with E5. -/
theorem reqUd1_acknowledges (hnone : left = 0) : Does (.reqUd1 addr fcb) s fun t =>
    CountsOnly { s with mbus := { s.mbus with
      heard := s.frame.absTick, last := [0xE5], sent := if addr = 255 then [] else [0xE5]
      fcb := some (flag fcb), flags := 0, shown := 0 } } t := by
  have honly := toggledHeard_only fcb addr (0x5A + flagAt fcb 5) s
  rw [toggledHeard_of_none (hleft.symm.trans hnone)] at honly
  have hexec := reqUd1_fresh hup haddr hfcb
  rw [flagsAnswer, if_pos (by rw [CountsOnly_mbus honly])] at hexec
  exact ⟨_, hexec, CountsOnly_mbusSend (CountsOnly_modMbus honly fun m => { m with last := [0xE5] }) addr [0xE5]⟩

/-- With error flags left it is answered with a new RSP_UD that carries them. -/
theorem reqUd1_answers (hsome : left ≠ 0) : Does (.reqUd1 addr fcb) s fun t =>
    t.mbus.last.drop 13 = [0x07, 0xFD, 0x17] ++ leBytes 8 left ∧ natAt t.mbus.last 9 = t.mbus.accessNo ∧
    CountsOnly { s with mbus := { s.mbus with
      heard := s.frame.absTick, last := t.mbus.last, sent := if addr = 255 then [] else t.mbus.last
      accessNo := (s.mbus.accessNo + 1) % 256, fcb := some (flag fcb), flags := left, shown := left } } t := by
  have honly := toggledHeard_only fcb addr (0x5A + flagAt fcb 5) s
  have hm := CountsOnly_mbus honly
  have hflags : (toggledHeard fcb s).mbus.flags = left := hleft.symm
  have hexec := reqUd1_fresh hup haddr hfcb
  have hrecord : ((mbusTaken addr (0x5A + flagAt fcb 5) 0 s).modMbus (mbusToggled fcb)).mbusRecord 11 =
      [0x07, 0xFD, 0x17] ++ leBytes 8 left := by
    rw [← hflags, ← hm]
    rfl
  rw [flagsAnswer, if_neg (by rw [hm, hflags]; exact hsome), hrecord] at hexec
  have hrsp := CountsOnly_newRsp honly addr ([0x07, 0xFD, 0x17] ++ leBytes 8 left) true
  obtain ⟨-, haccess, hdrop⟩ := mbusHeader_eq (toggledHeard fcb s)
    ((s.mbus.accessNo + 1) % 256) ([0x07, 0xFD, 0x17] ++ leBytes 8 left)
  refine ⟨_, hexec, ?_⟩
  simp only [CountsOnly_mbus hrsp]
  refine ⟨hdrop, haccess, ?_⟩
  subst hleft
  exact hrsp

end Toggled

/-! ### The primary address (R491) -/

/-- The line of MBUS_PRIMARY. -/
def primaryRow : Row := ⟨0x1808, 0x1808, 1, 1, .u 8, true, .operator, false, 7, 1⟩

theorem rowOf_primary : rowOf (key 0x1808 1) = some primaryRow := by decide +kernel

/-- The write that sets the primary address. -/
def primaryAsk (gen value : Nat) : Ask :=
  { via := .mbus, gen := gen, index := 0x1808, sub := 1, data := [value % 256], role := Role.operator, env := none }

theorem primaryAsk_passes {gen value : Nat} {s : State} (hlo : 1 ≤ value) (hhi : value ≤ 250) (hmode : s.mode ≠ .taper)
    (hpending : s.modePending = none) (hseal : s.acc.sealed = false) : PassesChecks s primaryRow (primaryAsk gen value) := by
  have hbyte : value % 256 = value := Nat.mod_eq_of_lt (by omega)
  have hvalue : (primaryAsk gen value).value = value := by
    show ofLe [value % 256] = value
    rw [hbyte, ofLe_singleton (by omega)]
  have hcounted : s.counted primaryRow (primaryAsk gen value) = false := by simp [State.counted, hseal, primaryAsk]
  have hmodes : s.rowModes primaryRow = 7 := if_neg (by simp [primaryRow])
  refine ⟨rowOf_primary, by rfl, ?_, by rfl, ?_, ?_, by rfl⟩
  · rw [State.sealBad, hcounted, hseal]
    rfl
  · have hrange : s.rangeOk 0x1808 1 value = true := by simpa [State.rangeOk, rangeLinks] using hhi
    have hindex : (primaryAsk gen value).index = 0x1808 := rfl
    have hsub : (primaryAsk gen value).sub = 1 := rfl
    have hallows : primaryRow.ty.allows (primaryAsk gen value).data = true := rfl
    simp [State.valueAbort, hallows, hindex, hsub, hvalue, hrange, keyEntry]
  · rw [State.modeBad, hpending, hmodes]
    cases h : s.mode <;> simp_all [Mode.bit, bitAt]

/-- The device with a new primary address in force. -/
def withPrimary (value : Nat) (s : State) : State := { s with set := s.set.write (key 0x1808 1) value }

theorem write_primary {gen value : Nat} {s : State} (hlo : 1 ≤ value) (hhi : value ≤ 250) (hmode : s.mode ≠ .taper)
    (hpending : s.modePending = none) (hseal : s.acc.sealed = false) :
    s.write (primaryAsk gen value) = (State.markUpload 0x1808 1 (withPrimary value s), abortOk) := by
  have hvalue : (primaryAsk gen value).value = value := by
    show ofLe [value % 256] = value
    rw [Nat.mod_eq_of_lt (by omega), ofLe_singleton (by omega)]
  have hcounted : s.counted primaryRow (primaryAsk gen value) = false := by simp [State.counted, hseal, primaryAsk]
  have hflow : s.flowChanged primaryRow (key 0x1808 1) value = s := if_neg (by simp [primaryRow])
  have hput : s.perform primaryRow (primaryAsk gen value) = withPrimary value s := by
    show s.putValue primaryRow (primaryAsk gen value) = _
    have hindex : (primaryAsk gen value).index = 0x1808 := rfl
    have hsub : (primaryAsk gen value).sub = 1 := rfl
    have hlater : atBoundary 0x1808 = false := by decide
    have hpl : ¬(0x1808 / 256 = 0x19 ∧ s.pl.tx.isSome) := fun h => absurd h.1 (by decide)
    simp only [State.putValue, hindex, hsub, hvalue, storedKey_eq_key s 1 (show ¬(0x1210 ≤ 0x1808 ∧ 0x1808 ≤ 0x127F) by decide), hflow,
      hlater, Bool.false_eq_true, if_false, if_neg hpl]
    rfl
  rw [write_of_passed (primaryAsk_passes hlo hhi hmode hpending hseal),
    commitWrite_eq_perform primaryRow s (by simp [primaryAsk]) (by simp [primaryAsk]), hput, hcounted]
  rfl

/-- An address that no write has set yet takes its value at once. -/
theorem mbusSetPrimaryAddress_sets {addr value : Nat} {fcb : Bool} {s : State} (hup : s.lkUp = true) (haddr : s.mbusAddressed addr = true)
    (hnone : s.on_ 0x1808 1 = 0) (hlo : 1 ≤ value) (hhi : value ≤ 250) (hmode : s.mode ≠ .taper) (hpending : s.modePending = none)
    (hseal : s.acc.sealed = false) : Does (.mbusSetPrimaryAddress addr value fcb) s fun t =>
      t.on_ 0x1808 1 = value ∧ t.mbus.sent = (if addr = 255 then [] else [0xE5]) ∧ t.mem = s.mem ∧ t.acc = s.acc ∧ t.frame = s.frame := by
  have honly := mbusTaken_only addr (sndUd fcb) 0x51 s
  obtain ⟨u, hu⟩ : ∃ u, u = mbusTaken addr (sndUd fcb) 0x51 s := ⟨_, rfl⟩
  rw [← hu] at honly
  have hfree : ¬(u.on_ 0x1808 1 ≠ 0 ∨ u.mode = .taper) := by
    rw [honly]
    exact fun h => h.elim (fun h => h hnone) hmode
  have hwrite := write_primary (gen := u.sessionGen .mbus) (s := u) hlo hhi (by rw [honly]; exact hmode) (by rw [honly]; exact hpending)
    (by rw [honly]; exact hseal)
  have hexec : exec (.mbusSetPrimaryAddress addr value fcb) s =
      .next ((State.markUpload 0x1808 1 (withPrimary value u)).mbusSend addr [0xE5]) := by
    refine congrArg Host.Outcome.next ((mbusTake_of_addressed hup haddr _ _ _).trans ?_)
    rw [← hu]
    show (if u.on_ 0x1808 1 ≠ 0 ∨ u.mode = .taper then u.linkError 3
      else if (u.write (primaryAsk (u.sessionGen .mbus) value)).2 = abortOk
        then (u.write (primaryAsk (u.sessionGen .mbus) value)).1.mbusAck addr
        else (u.write (primaryAsk (u.sessionGen .mbus) value)).1.linkError 3) = _
    rw [if_neg hfree, hwrite]
    rfl
  have hsent := CountsOnly_mbusSend (CountsOnly_refl (State.markUpload 0x1808 1 (withPrimary value u))) addr [0xE5]
  have hmark : State.markUpload 0x1808 1 (withPrimary value u) =
      { withPrimary value u with iol := (State.markUpload 0x1808 1 (withPrimary value u)).iol } := by
    unfold State.markUpload
    split <;> rfl
  have hset : (State.mbusSend addr [0xE5] (State.markUpload 0x1808 1 (withPrimary value u))).set = u.set.write (key 0x1808 1) value := by
    rw [hsent, hmark]
    rfl
  refine ⟨_, hexec, eff_of_written hset, ?_, ?_, ?_, ?_⟩
  · rw [hsent, hmark, honly]
    rfl
  · rw [hsent, hmark, honly]
    rfl
  · rw [hsent, hmark, honly]
    rfl
  · rw [hsent, hmark, honly]
    rfl

/-! ### The dictionary block (R495) -/

/-- The request of a dictionary block. -/
def blockRequest (op id index sub : Nat) (data : List Nat) (s : State) : Request :=
  { via := .mbus, gen := s.sessionGen .mbus, hdr := s.sessionGen .mbus, bad := decide (3 ≤ op) || decide (200 < data.length),
    op := op, index := index, sub := sub, id := id, data := data }

theorem mbusSend_sent {addr : Nat} (hto : addr ≠ 255) (s : State) (bytes : List Nat) : (s.mbusSend addr bytes).mbus.sent = bytes := by
  rw [State.mbusSend, if_neg hto, count_mbus]
  rfl

/-- In the commit slot a request by M-Bus waits, with its block open. -/
theorem take_mbus_waits {r : Request} {s : State} (hvia : r.via = .mbus) (hslot : s.frame.committing = true) :
    s.take r = { s with mbus := { s.mbus with request := some r, answer := mbusBlock r 1 0 [] }
                        acc := { s.acc with waiting := s.acc.waiting ++ [r] } } := by
  have hexpect : s.expect r = { s with mbus := { s.mbus with request := some r, answer := mbusBlock r 1 0 [] } } := by
    rw [State.expect, hvia]
  have hwaits : (s.expect r).mustWait r = true := by
    rw [hexpect, State.mustWait]
    exact Bool.or_eq_true_iff.mpr (.inl hslot)
  rw [State.take, submit_of_waits (.inl hwaits), hexpect]

theorem CountsOnly_take_mbus {u v : State} {r : Request} (h : CountsOnly u v) (hvia : r.via = .mbus) (hslot : u.frame.committing = true) :
    CountsOnly { u with mbus := { u.mbus with request := some r, answer := mbusBlock r 1 0 [] }
                        acc := { u.acc with waiting := u.acc.waiting ++ [r] } } (v.take r) := by
  rw [take_mbus_waits hvia (by rw [CountsOnly_frame h]; exact hslot), ← CountsOnly_acc h, ← CountsOnly_mbus h]
  exact CountsOnly_withAcc (CountsOnly_modMbus h fun _ => { v.mbus with request := some r, answer := mbusBlock r 1 0 [] }) _

section Block

variable {addr op id index sub : Nat} {fcb : Bool} {data : List Nat} {s : State} (hup : s.lkUp = true) (haddr : s.mbusAddressed addr = true)

include hup haddr

theorem mbusDictionaryRequest_taken : exec (.mbusDictionaryRequest addr fcb op id index sub data) s =
    .next (if s.mbus.request.isSome then (mbusTaken addr (sndUd fcb) 0x51 s).linkError 3
      else ((mbusTaken addr (sndUd fcb) 0x51 s).take
        (blockRequest op id index sub data (mbusTaken addr (sndUd fcb) 0x51 s))).mbusSend addr [0xE5]) := by
  have hrequest : (mbusTaken addr (sndUd fcb) 0x51 s).mbus.request = s.mbus.request := by
    rw [CountsOnly_mbus (mbusTaken_only addr (sndUd fcb) 0x51 s)]
    rfl
  rw [← hrequest]
  exact congrArg Host.Outcome.next (mbusTake_of_addressed hup haddr _ _ _)

/-- With a request open another one is a link error. -/
theorem mbusDictionaryRequest_refused (hopen : s.mbus.request.isSome = true) :
    Does (.mbusDictionaryRequest addr fcb op id index sub data) s fun t =>
      CountsOnly { s with mbus := { s.mbus with heard := s.frame.absTick, sent := [] }
                          q := { s.q with linkErrors := modAt s.q.linkErrors 3 fun k => min (2 ^ 32 - 1) (k + 1) } } t := by
  have hexec := mbusDictionaryRequest_taken (op := op) (id := id) (index := index) (sub := sub) (fcb := fcb) (data := data) hup haddr
  rw [hopen] at hexec
  exact ⟨_, hexec, CountsOnly_linkError (mbusTaken_only addr (sndUd fcb) 0x51 s) 3⟩

/-- With none open it is acknowledged, and in the commit slot it waits. -/
theorem mbusDictionaryRequest_acknowledges (hnone : s.mbus.request = none) :
    Does (.mbusDictionaryRequest addr fcb op id index sub data) s fun t =>
      (addr ≠ 255 → t.mbus.sent = [0xE5]) ∧
      (s.frame.committing = true →
        t.mbus.request.isSome = true ∧ t.acc.waiting.length = s.acc.waiting.length + 1 ∧
        CountsOnly { s with mbus := t.mbus, acc := { s.acc with waiting := t.acc.waiting } } t) := by
  have honly := mbusTaken_only addr (sndUd fcb) 0x51 s
  have hexec := mbusDictionaryRequest_taken (op := op) (id := id) (index := index) (sub := sub) (fcb := fcb) (data := data) hup haddr
  rw [hnone, if_neg (by decide)] at hexec
  generalize hr : blockRequest op id index sub data (mbusTaken addr (sndUd fcb) 0x51 s) = r at hexec
  refine ⟨_, hexec, fun hto => mbusSend_sent hto _ _, fun hslot => ?_⟩
  have hall := CountsOnly_mbusSend (CountsOnly_take_mbus (r := r) honly (hr ▸ rfl) hslot) addr [0xE5]
  have hmbus := CountsOnly_mbus hall
  have hacc := CountsOnly_acc hall
  refine ⟨?_, ?_, ?_⟩
  · exact congrArg (fun m : MBus => m.request.isSome) hmbus
  · exact (congrArg (fun a : Access => a.waiting.length) hacc).trans (List.length_append ..)
  · rw [hmbus, hacc]
    exact hall

end Block

/-- Settles O52: a repeat by `mbusReq_repeats`, a new RSP_UD by `CountsOnly_newRsp`, the address by `write_primary`, a block by
`take_mbus_waits`. -/
theorem mBusAnswersItsRequests : Obligations.MBusAnswersItsRequests := by
  unfold Obligations.MBusAnswersItsRequests
  exact ⟨fun addr fcb c s hup haddr hc hfcb hlast => request_repeats hup haddr hc hfcb hlast,
    fun addr left fcb s hup haddr hfcb hleft => ⟨reqUd2_answers hup haddr hfcb hleft, reqUd1_acknowledges hup haddr hfcb hleft,
      reqUd1_answers hup haddr hfcb hleft⟩,
    fun addr value fcb s hup haddr hnone hlo hhi hmode hpending hseal =>
      mbusSetPrimaryAddress_sets hup haddr hnone hlo hhi hmode hpending hseal,
    fun addr op id index sub fcb data s hup haddr => ⟨mbusDictionaryRequest_acknowledges hup haddr,
      mbusDictionaryRequest_refused hup haddr⟩⟩

end Sys2Proof.Proofs
end

section
/-! PROOF. The reset pin (R631), TESTM (R633) and the end of a back-off (R424). -/

namespace Sys2Proof.Proofs

open Sys2Proof Sys2Proof.Machine Sys2Proof.Laws

/-! ### The security block through a final commit -/

theorem finishCommit_acc (diff : List (Nat × Nat)) (s : State) : (s.finishCommit diff).acc = s.acc := by
  unfold State.finishCommit
  split
  · exact raiseAll_acc _ _
  · rfl

theorem partialCommit_acc (s : State) : s.partialCommit.acc = s.acc := by
  unfold State.partialCommit
  extract_lets o q b s1 s2 group
  have hgain : Feeds s b.1 := Feeds_trans (Feeds_accumulate o s.frame.tick s) (Feeds_billGain q.2 q.1)
  have hpulses : s1.acc = b.1.acc := raiseAll_acc _ _
  show s1.acc = s.acc
  rw [hpulses, hgain.outside]

theorem resetWith_nrst (reason logged : Nat) (s : State) : (s.resetWith reason logged).pwr.nrst = s.pwr.nrst := by
  obtain ⟨history, failed, hclose⟩ := closeEntry_only reason s.pwr
  unfold State.resetWith
  rw [hclose]
  rfl

/-! ### NRST_ASSERT -/

/-- NRST is held. -/
def withNrst (s : State) : State := { s with pwr := { s.pwr with nrst := true } }

/-- The frame has come to the time at which NRST falls. -/
def nrstAt (cyc : Nat) (s : State) : State := State.elapse { s with frame := s.frame.at_ cyc }

theorem TimePasses_nrstAt (cyc : Nat) (s : State) : TimePasses s (nrstAt cyc s) :=
  TimePasses_trans (TimePasses_at_ s cyc) (TimePasses_elapse _)

section Assert

variable {cyc : Nat} {commit final : List (Nat × Nat)} {s : State}

theorem nrstAssert_of_none (h : s.pwr.nrst = true ∨ s.pwr.state = .dark) : exec (.nrstAssert cyc commit final) s = .next s := by
  refine congrArg Host.Outcome.next (if_pos ?_)
  rcases h with h | h <;> simp [h]

variable (hfree : s.pwr.nrst = false) (hlit : s.pwr.state ≠ .dark)

include hfree hlit

theorem nrstAssert_of_open (hrun : s.frame.running = true) : exec (.nrstAssert cyc commit final) s =
    .next (State.resetWith 3 4 (State.readFinal final (withNrst ((nrstAt cyc s).finishCommit commit).partialCommit))) :=
  congrArg Host.Outcome.next ((if_neg (by simp [hfree, hlit])).trans (if_pos hrun))

theorem nrstAssert_of_closed (hstop : s.frame.running = false) : exec (.nrstAssert cyc commit final) s =
    .next (if s.pwr.state = .starting ∨ s.pwr.state = .snuff then State.resetWith 3 0 (withNrst s) else withNrst s) :=
  congrArg Host.Outcome.next ((if_neg (by simp [hfree, hlit])).trans (if_neg (by simp [hstop])))

/-- With a frame open the partial frame is committed and the device is in reset. -/
theorem nrstAssert_commits {bank : Qty} (hrun : s.frame.running = true) (hbank : bank = commitEnded commit s) :
    Does (.nrstAssert cyc commit final) s fun t =>
      t.pwr.state = .starting ∧ t.pwr.nrst = true ∧ t.pwr.endReason = 3 ∧ t.frame.running = false ∧ t.pwr.open_ = false ∧
      t.acc.replay = s.acc.replay ∧
      ∃ c, c.partial_ = true ∧ c.frame = s.frame.number ∧
        t.qty.banks = setAt bank.banks bank.nextBank (if c.checks final then some c else none) := by
  have htimed := TimePasses_nrstAt cyc s
  obtain ⟨hended, hnumber⟩ := finishCommit_keeps commit (nrstAt cyc s)
  obtain ⟨hbanks, -, -, c, hpartial, hframe, hwriting⟩ := partialCommit_keeps ((nrstAt cyc s).finishCommit commit)
  have hacc : ((nrstAt cyc s).finishCommit commit).partialCommit.acc = (nrstAt cyc s).acc :=
    (partialCommit_acc _).trans (finishCommit_acc _ _)
  have hexec := nrstAssert_of_open (cyc := cyc) (commit := commit) (final := final) hfree hlit hrun
  generalize ((nrstAt cyc s).finishCommit commit).partialCommit = v at *
  obtain ⟨b, hread⟩ := readFinal_of_writing (s := withNrst v) hwriting final
  have hreset := WasReset_resetWith 3 4 ((withNrst v).readFinal final)
  have hbanks' : v.qty.banks = bank.banks := by
    rw [hbanks, hended, hbank, htimed]
    rfl
  have hnext : v.qty.nextBank = bank.nextBank := by simp only [Qty.nextBank, Qty.latest, hbanks']
  refine ⟨_, hexec, hreset.starting, (resetWith_nrst _ _ _).trans ?_, hreset.reason, hreset.noFrame, hreset.closed,
    hreset.replay.trans ?_, c, hpartial, (hframe.trans hnumber).trans ?_, hreset.banks.trans ?_⟩
  · rw [hread]
    rfl
  · rw [hread]
    show v.acc.replay = _
    rw [hacc, htimed]
  · rw [htimed]
  · rw [hread, ← hbanks', ← hnext]
    rfl

/-- In a start sequence, a back-off or SNUFF the device is in reset with nothing committed. -/
theorem nrstAssert_resets (hstop : s.frame.running = false) (hstate : s.pwr.state = .starting ∨ s.pwr.state = .snuff) :
    Does (.nrstAssert cyc commit final) s fun t =>
      t.pwr.state = .starting ∧ t.pwr.nrst = true ∧ t.pwr.endReason = 3 ∧ t.pwr.open_ = false ∧ t.qty.banks = s.qty.banks ∧
      t.acc.replay = s.acc.replay := by
  have hexec := nrstAssert_of_closed (cyc := cyc) (commit := commit) (final := final) hfree hlit hstop
  rw [if_pos hstate] at hexec
  have hreset := WasReset_resetWith 3 0 (withNrst s)
  exact ⟨_, hexec, hreset.starting, resetWith_nrst _ _ _, hreset.reason, hreset.closed, hreset.banks, hreset.replay⟩

end Assert

/-! ### NRST_RELEASE -/

theorem waitTicks_of_none {p : Power} (h : p.failedStarts = 0) : p.waitTicks = 0 := by
  simp [Power.waitTicks, h]

theorem nrstRelease_of_held {s : State} (hheld : s.pwr.nrst = true) (hstate : s.pwr.state = .starting) : exec .nrstRelease s =
    .next { s with pwr := { s.pwr with
      nrst := false, endReason := 3, backoff := Power.waitTicks { s.pwr with nrst := false, endReason := 3 } } } := by
  show Host.Outcome.next (nrstRelease s) = _
  simp only [nrstRelease, hheld, hstate, decide_true, Bool.and_self, if_true]

theorem nrstRelease_of_other {s : State} (h : s.pwr.nrst = false ∨ s.pwr.state ≠ .starting) :
    exec .nrstRelease s = .next { s with pwr := { s.pwr with nrst := false } } :=
  congrArg Host.Outcome.next (if_neg (by rcases h with h | h <;> simp [h]))

/-- Settles O25: a frame that NRST ends by `nrstAssert_commits`, a start that it ends by `nrstAssert_resets`. -/
theorem resetPinHoldsTheDevice : Obligations.ResetPinHoldsTheDevice := by
  unfold Obligations.ResetPinHoldsTheDevice
  refine ⟨fun cyc commit final s => ⟨nrstAssert_of_none, fun bank hfree hlit hrun hbank => nrstAssert_commits hfree hlit hrun hbank,
      fun hfree hstop hstate => ?_, fun hfree hstop hstart hsnuff hlit => ?_⟩,
    fun s => ⟨fun hheld hstate => ⟨_, nrstRelease_of_held hheld hstate, rfl, rfl, rfl, fun h => waitTicks_of_none h⟩,
      nrstRelease_of_other⟩, fun s => ⟨rfl, fun h => congrArg Host.Outcome.next (if_pos h),
      fun h => congrArg Host.Outcome.next (if_neg (Nat.not_le.mpr h))⟩⟩
  · exact nrstAssert_resets hfree (by rcases hstate with h | h <;> simp [h]) hstop hstate
  · rw [nrstAssert_of_closed hfree hlit hstop, if_neg (by simp [hstart, hsnuff])]
    rfl

end Sys2Proof.Proofs
end

section
/-! PROOF. What a boundary leaves alone (Table 2.6): the marks of a frame, the security block but for the lockouts, and the event log
stand through every step of closing a frame and opening the next. -/

namespace Sys2Proof.Proofs

open Sys2Proof Sys2Proof.Machine Sys2Proof.Laws

/-! ### The marks of a frame -/

/-- What of a frame its boundary sets and nothing else of the boundary changes. -/
structure FrameMark where
  running : Bool
  number : Nat
  lengthLast : Nat
  cyc : Nat
  committing : Bool
  lantern : Bool
  synoActive : Bool

def frameMark (f : Frame) : FrameMark :=
  { running := f.running, number := f.number, lengthLast := f.lengthLast, cyc := f.cyc, committing := f.committing
    lantern := f.lantern, synoActive := f.synoActive }

/-- The marks of a frame that a record update has written out. -/
theorem frameMark_mk (running number length lengthLast base cyc done committing lantern synoActive planned dynamic tried waiting
    pulsesSent ceCyc ceFrom workSlots corFree corEnd acEnd flowStarted flowDone flowCyc cause chainDone) :
    frameMark (Frame.mk running number length lengthLast base cyc done committing lantern synoActive planned dynamic tried waiting
      pulsesSent ceCyc ceFrom workSlots corFree corEnd acEnd flowStarted flowDone flowCyc cause chainDone) =
    FrameMark.mk running number lengthLast cyc committing lantern synoActive := rfl

theorem frameMark_parts (f : Frame) :
    FrameMark.mk f.running f.number f.lengthLast f.cyc f.committing f.lantern f.synoActive = frameMark f := rfl

/-- The part of the state that a boundary carries over. -/
structure Mark where
  acc : Access
  log : EventLog
  frame : FrameMark

def mark (s : State) : Mark := { acc := { s.acc with lockout := [] }, log := s.log, frame := frameMark s.frame }

theorem mark_mk (mode modePending events bkLatches set q frame sync ledger ac sen flow qty bill clk pwr perf cal acc log core iol
    mbus pl disp mem pending) :
    mark (State.mk mode modePending events bkLatches set q frame sync ledger ac sen flow qty bill clk pwr perf cal acc log core iol
      mbus pl disp mem pending) = Mark.mk { acc with lockout := [] } log (frameMark frame) := rfl

theorem mark_parts (s : State) : Mark.mk { s.acc with lockout := [] } s.log (frameMark s.frame) = mark s := rfl

theorem mark_of_CountsOnly {u t : State} (h : CountsOnly u t) : mark t = mark u := by
  rw [h]
  rfl

theorem mark_raise (e : Raised) (s : State) : mark (s.raise e) = mark s := mark_of_CountsOnly (CountsOnly_raise e s)

theorem mark_raiseAll (es : List Raised) (s : State) : mark (s.raiseAll es) = mark s := mark_of_CountsOnly (CountsOnly_raiseAll es s)

theorem mark_raiseIf (c : Bool) (e : Raised) (s : State) : mark (s.raiseIf c e) = mark s := mark_of_CountsOnly (CountsOnly_raiseIf c e s)

theorem mark_count (acts : List Act) (s : State) : mark (s.count acts) = mark s := mark_of_CountsOnly (CountsOnly_count acts s)

theorem frameMark_request (f : Frame) (j : DynJob) : frameMark (f.request j) = frameMark f := by
  obtain ⟨_, h⟩ := request_only f j
  rw [h]
  rfl

theorem frameMark_admitChains {s : State} {sh : Shot} {kind : Nat} {moveFlow : Bool} {f : Frame}
    (h : s.admitChains sh kind moveFlow = some f) : frameMark f = frameMark s.frame := by
  obtain ⟨_, _, _, _, rfl⟩ := admitChains_only h
  rfl

theorem mark_foldl {α : Type} {f : State → α → State} (hf : ∀ s x, mark (f s x) = mark s) (l : List α) (s : State) :
    mark (l.foldl f s) = mark s := by
  induction l generalizing s with
  | nil => rfl
  | cons x xs ih => exact (ih _).trans (hf s x)

theorem mark_foldl_fst {α β : Type} {f : State × β → α → State × β} (hf : ∀ p x, mark (f p x).1 = mark p.1) (l : List α)
    (p : State × β) : mark (l.foldl f p).1 = mark p.1 := by
  induction l generalizing p with
  | nil => rfl
  | cons x xs ih => exact (ih _).trans (hf p x)

theorem mark_force (k : Key) (value : Nat) (s : State) : mark (s.force k value) = mark s := by
  unfold State.force
  split <;> rfl

theorem mark_applyEdits (even : Bool) (s : State) : mark (s.applyEdits even) = mark s := by
  simp only [State.applyEdits]
  refine mark_foldl (fun t x => ?_) _ _
  simp only [↓mark_force]

theorem mark_considerRetry (s : State) (g : Nat) : mark (s.considerRetry g) = mark s := by
  simp only [State.considerRetry]
  split
  · rfl
  · split
    next f hadmitted => exact congrArg (Mark.mk _ _) ((frameMark_admitChains hadmitted).trans (frameMark_request _ _))
    next => exact congrArg (Mark.mk _ _) (frameMark_request s.frame _)

theorem mark_requestRetry (s : State) (n : Nat) : mark (s.requestRetry n) = mark s := by
  simp only [State.requestRetry, ↓mark_considerRetry, ↓mark_mk, mark_parts]

theorem mark_considerSearch (s : State) (n : Nat) : mark (s.considerSearch n) = mark s := by
  simp only [State.considerSearch]
  split
  next f hadmitted => exact congrArg (Mark.mk _ _) ((frameMark_admitChains hadmitted).trans (frameMark_request _ _))
  next => exact congrArg (Mark.mk _ _) (frameMark_request s.frame _)

theorem mark_considerCustomer (s : State) (port : Nat) : mark (s.considerCustomer port) = mark s := by
  simp only [State.considerCustomer]
  split
  · exact congrArg (Mark.mk _ _) (frameMark_request s.frame _)
  · exact congrArg (Mark.mk _ _) (frameMark_request s.frame _)

theorem mark_reconsider (s : State) : mark s.reconsider = mark s := by
  simp only [State.reconsider]
  refine mark_foldl (fun t x => ?_) _ _
  simp only [↓mark_considerCustomer]

theorem mark_failed (s : State) (n : Nat) : mark (s.failed n) = mark s := by
  simp only [State.failed, apply_ite mark, ↓mark_requestRetry, ite_self]

theorem mark_breakPromises (s : State) (stepNo cause arg : Nat) (ms : List Nat) :
    mark (s.breakPromises stepNo cause arg ms) = mark s := by
  simp only [State.breakPromises, ↓mark_count, ↓mark_raiseAll, ↓mark_mk, mark_parts]

theorem mark_giveUpShot (s : State) (cause : Nat) (acquisition : Bool) (ms : List Nat) :
    mark (s.giveUpShot cause acquisition ms) = mark s := by
  simp only [State.giveUpShot, apply_ite mark, ↓mark_breakPromises, ↓mark_mk, mark_parts, ite_self]

theorem mark_giveUpPlanned (cause : Nat) (s : State) (p : Planned) : mark (s.giveUpPlanned cause p) = mark s := by
  simp only [State.giveUpPlanned, ↓mark_giveUpShot]

theorem mark_giveUpUnfired (s : State) : mark s.giveUpUnfired = mark s := by
  unfold State.giveUpUnfired
  extract_lets _ v w
  have hheld : mark v = mark s := mark_foldl (fun t f => mark_giveUpShot t _ _ _) _ s
  exact (show mark w = mark v from mark_foldl (fun t p => mark_giveUpPlanned _ t p) _ v).trans hheld

theorem mark_settle (s : State) (n : Nat) : mark (s.settle n) = mark s := by
  unfold State.settle
  dsimp only
  repeat' split
  all_goals simp only [↓mark_count, ↓mark_raiseAll, ↓mark_failed, ↓mark_mk, mark_parts]

theorem mark_settleAll (s : State) : mark s.settleAll = mark s :=
  mark_foldl (fun t x => mark_settle t x) _ s

theorem mark_emit (r : Record) (s : State) : mark (s.emit r) = mark s := rfl

theorem mark_emitAll (rs : List Record) (s : State) : mark (s.emitAll rs) = mark s :=
  mark_foldl (fun t x => mark_emit x t) _ s

theorem mark_closeContexts (old s : State) : mark (State.closeContexts old s).1 = mark s := by
  refine mark_foldl_fst (fun p n => ?_) _ _
  split <;> exact mark_raiseAll _ _

theorem mark_sensorFails (i code : Nat) (quiet : Bool) (e : Raised) (s : State) :
    mark (s.sensorFails i code quiet e) = mark s := by
  simp only [State.sensorFails, ↓mark_raiseIf, ↓mark_mk, mark_parts]

theorem mark_abandonSensors (now : Nat) (s : State) : mark (s.abandonSensors now).1 = mark s := by
  unfold State.abandonSensors
  split
  · rfl
  · exact mark_foldl (fun t i => mark_sensorFails i 7 false _ t) _ s

theorem mark_openSensors (s : State) : mark s.openSensors = mark s := by
  simp only [State.openSensors, ↓mark_raiseAll, ↓mark_mk, mark_parts]

theorem mark_relocked (s : State) : mark s.relocked = mark s :=
  (mark_of_CountsOnly (relocked_only s)).trans rfl

theorem mark_fallback (kind arg blocked : Nat) (s : State) : mark (s.fallback kind arg blocked) = mark s := by
  simp only [State.fallback, ↓mark_settleAll, ↓mark_relocked, ↓mark_raise, ↓mark_mk, mark_parts]

theorem mark_qualify (segments : List (List Rat)) (s : State) : mark (s.qualify segments).1 = mark s := rfl

theorem mark_judgeCrystal (k : Option Int) (s : State) : mark (s.judgeCrystal k) = mark s := by
  unfold State.judgeCrystal
  dsimp only
  repeat' split
  all_goals simp only [↓mark_raise, ↓mark_fallback, ↓mark_mk, mark_parts]

theorem mark_moveReference (s : State) : mark s.moveReference = mark s := by
  simp only [State.moveReference, apply_ite mark, ↓mark_relocked, ↓mark_mk, mark_parts, ite_self]

theorem mark_restoreLf (lfxTicks : Nat) (s : State) : mark (s.restoreLf lfxTicks) = mark s := by
  simp only [State.restoreLf, apply_ite mark, ↓mark_raise, ↓mark_mk, mark_parts, ite_self]

theorem mark_closeClocks (gate : List (List Rat)) (lfxTicks : Nat) (evenOpens : Bool) (s : State) :
    mark (s.closeClocks gate lfxTicks evenOpens) = mark s := by
  simp only [State.closeClocks, apply_ite mark, ↓mark_qualify, ↓mark_restoreLf, ↓mark_judgeCrystal,
    ↓mark_moveReference, ↓mark_mk, mark_parts, ite_self]

theorem mark_accumulate (o : FlowOut) (ticks : Nat) (s : State) : mark (s.accumulate o ticks).1 = mark s := by
  unfold State.accumulate
  split <;> rfl

theorem mark_modBill (f : BillState → BillState) (s : State) : mark (s.modBill f) = mark s := rfl

theorem mark_restartDemand (at_ : Nat) (s : State) : mark (s.restartDemand at_) = mark s := rfl

theorem mark_demandEnd (inst flags : Nat) (s : State) : mark (s.demandEnd inst flags) = mark s := rfl

theorem mark_switchTariff (inst local_ cause flags : Nat) (s : State) :
    mark (s.switchTariff inst local_ cause flags) = mark s := by
  simp only [State.switchTariff, apply_ite mark, ↓mark_raise, ↓mark_modBill, ite_self]

theorem mark_activateCalendar (inst flags : Nat) (s : State) : mark (s.activateCalendar inst flags) = mark s := rfl

theorem mark_billingClose (inst flags : Nat) (s : State) : mark (s.billingClose inst flags) = mark s := by
  unfold State.billingClose
  dsimp only
  repeat' split
  all_goals simp only [↓mark_mk, mark_parts]

theorem mark_instant (dst : Bool) (flags x : Nat) (s : State) : mark (s.instant dst flags x) = mark s := by
  unfold State.instant
  split <;> simp only [↓mark_demandEnd, ↓mark_switchTariff, ↓mark_billingClose]

theorem mark_runInstants (dst : Bool) (flags : Nat) (xs : List Nat) (s : State) :
    mark (s.runInstants dst flags xs) = mark s :=
  mark_foldl (fun t _ => mark_instant _ _ _ t) _ s

theorem mark_span (a b lb : Nat) (dst : Bool) (act : Option Nat) (flags : Nat) (s : State) :
    mark (s.span a b lb dst act flags) = mark s := by
  unfold State.span
  dsimp only
  repeat' split
  all_goals simp only [↓mark_runInstants, ↓mark_switchTariff, ↓mark_activateCalendar, ↓mark_billingClose]

theorem mark_passInstant (flags x : Nat) (s : State) : mark (s.passInstant flags x) = mark s := by
  unfold State.passInstant
  dsimp only
  repeat' split
  all_goals simp only [↓mark_demandEnd, ↓mark_activateCalendar, ↓mark_switchTariff, ↓mark_billingClose]

theorem mark_passSpan (from_ to_ : Nat) (act : Option Nat) (always : Bool) (flags : Nat) (s : State) :
    mark (s.passSpan from_ to_ act always flags) = mark s := by
  have hpass : ∀ (t : State) (x : Nat), mark (t.passInstant flags x) = mark t := fun t x => mark_passInstant flags x t
  simp only [State.passSpan, apply_ite mark, mark_restartDemand, mark_modBill, mark_foldl hpass, ite_self]

theorem mark_setForward (old new_ flags : Nat) (s : State) : mark (s.setForward old new_ flags) = mark s := by
  simp only [State.setForward, ↓mark_passSpan]

theorem mark_setBack (old new_ flags : Nat) (s : State) : mark (s.setBack old new_ flags) = mark s := by
  simp only [State.setBack, apply_ite mark, ↓mark_restartDemand, ↓mark_demandEnd, ite_self]

theorem mark_billSetting (old new_ : Nat) (stopped dstOld dstNew : Bool) (flags : Nat) (s : State) :
    mark (s.billSetting old new_ stopped dstOld dstNew flags) = mark s := by
  simp only [State.billSetting, apply_ite mark, ↓mark_setBack, ↓mark_setForward, ↓mark_switchTariff, ↓mark_mk,
    mark_parts, ite_self]

theorem mark_billDst (at_ : Nat) (auto forward : Bool) (flags : Nat) (s : State) :
    mark (s.billDst at_ auto forward flags) = mark s := by
  simp only [State.billDst, mark_switchTariff]
  split
  · rw [mark_foldl fun t _ => mark_billingClose _ _ t]
    exact mark_foldl (fun t l => mark_switchTariff _ _ _ _ t) _ s
  · rfl

theorem mark_reached (t : Nat) (s : State) : mark (s.reached t) = mark s := rfl

theorem mark_billChange (flags : Nat) (s : State) (c : TimeChange) : mark (s.billChange flags c) = mark s := by
  simp only [State.billChange, apply_ite mark, ↓mark_reached, ↓mark_billSetting, ↓mark_span, ↓mark_billDst,
    ite_self]

theorem mark_billInstants (s : State) : mark s.billInstants = mark s := by
  have hchange : ∀ (t : State) x,
    mark (t.billChange (flag s.cal.uncertain) x) = mark t := fun t x => mark_billChange _ t x
  simp only [State.billInstants, apply_ite mark, mark_billingClose, mark_mk, mark_parts, mark_reached,
    mark_span,
    mark_foldl hchange, ite_self]

theorem mark_charge (g : Gain) (s : State) : mark (s.charge g).1 = mark s := by
  unfold State.charge
  split <;> rfl

theorem mark_addTopups (s : State) : mark s.addTopups = mark s := rfl

theorem mark_judgeCredit (s : State) : mark s.judgeCredit = mark s := by
  simp only [State.judgeCredit, ↓mark_raiseAll, ↓mark_modBill]

theorem mark_startMove (target cause : Nat) (s : State) : mark (s.startMove target cause) = mark s := rfl

theorem mark_actCommand (acf0 acf1 : Bool) (s : State) : mark (s.actCommand acf0 acf1) = mark s := by
  unfold State.actCommand
  dsimp only
  repeat' split
  all_goals simp only [↓mark_startMove, ↓mark_modBill, ↓mark_mk, mark_parts]

theorem mark_decideActuator (acf0 acf1 : Bool) (s : State) : mark (s.decideActuator acf0 acf1) = mark s := by
  simp only [State.decideActuator, apply_ite mark, ↓mark_modBill, ↓mark_startMove, ↓mark_actCommand, ↓mark_mk,
    mark_parts, ite_self]

theorem mark_notePeriod (flowQ : Nat) (s : State) : mark (s.notePeriod flowQ) = mark s := rfl

theorem mark_billGain (g : Gain) (s : State) : mark (s.billGain g).1 = mark s := by
  simp only [State.billGain, ↓mark_charge, ↓mark_modBill, ↓mark_mk, mark_parts]

theorem mark_billStep1 (g : Gain) (s : State) : mark (s.billStep1 g).1 = mark s := by
  simp only [State.billStep1, ↓mark_addTopups, ↓mark_billGain]

theorem mark_billBoundary (g : Gain) (flowQ : Nat) (acf0 acf1 : Bool) (s : State) :
    mark (s.billBoundary g flowQ acf0 acf1).1 = mark s := by
  simp only [State.billBoundary, ↓mark_billStep1, ↓mark_notePeriod, ↓mark_decideActuator, ↓mark_judgeCredit,
    ↓mark_billInstants]

theorem mark_powerDisplay (s : State) : mark s.powerDisplay = mark s := by
  simp only [State.powerDisplay, apply_ite mark, ↓mark_mk, mark_parts, ite_self]

theorem mark_coreWake (s : State) : mark s.coreWake = mark s := by
  unfold State.coreWake
  split
  · rfl
  · split <;> simp only [↓mark_mk, mark_parts]

theorem mark_modPerf (f : Perf → Perf) (s : State) : mark (s.modPerf f) = mark s := rfl

theorem mark_countEdge (acts : List Act) (s : State) : mark (s.countEdge acts).1 = mark s := by
  simp only [State.countEdge, ↓mark_count, ↓mark_modPerf]

theorem mark_perfSnapshot (frame : Nat) (reconfig : Bool) (s : State) :
    mark (s.perfSnapshot frame reconfig) = mark s := rfl

theorem mark_perfRestart (changed : Nat → Bool) (wrapped : List Bool) (s : State) :
    mark (s.perfRestart changed wrapped) = mark s := rfl

theorem mark_modCore (f : AppCore → AppCore) (s : State) : mark (s.modCore f) = mark s := rfl

theorem mark_fillLines (acts : List Act) (s : State) : mark (s.fillLines acts) = mark s := rfl

theorem mark_coreBoundary (s : State) : mark s.coreBoundary = mark s := by
  simp only [State.coreBoundary, ↓mark_coreWake, ↓mark_modCore]

theorem mark_fillPd (s : State) : mark s.fillPd = mark s := rfl

theorem mark_plAdmit (s : State) : mark s.plAdmit = mark s := by
  unfold State.plAdmit
  split
  · rfl
  · split <;> rfl

theorem mark_judgeSync (f : Frame) (s : State) : mark (s.judgeSync f) = mark s := by
  unfold State.judgeSync
  split
  · rfl
  · split <;> simp only [↓mark_raiseIf, ↓mark_mk, mark_parts]

theorem mark_newSource (old : Nat) (s : State) : mark (s.newSource old) = mark s := by
  simp only [State.newSource, apply_ite mark, ↓mark_mk, mark_parts, ite_self]

theorem mark_tellSlew (s : State) : mark s.tellSlew = mark s := by
  simp only [State.tellSlew, ↓mark_raiseIf]

theorem mark_pruneSync (s : State) : mark s.pruneSync = mark s := rfl

theorem mark_admitSearches (s : State) : mark s.admitSearches = mark s :=
  mark_foldl (fun t x => mark_considerSearch t x) _ s

theorem mark_planFrame (s : State) : mark s.planFrame = mark s := by
  unfold State.planFrame
  extract_lets f extra placed shots r p
  split
  · rfl
  · split
    · exact mark_admitSearches _
    · exact mark_admitSearches _

theorem mark_openFrame (s : State) : mark s.openFrame = mark s := by
  simp only [State.openFrame, ↓mark_openSensors, ↓mark_planFrame, ↓mark_reconsider, ↓mark_plAdmit,
    ↓mark_coreBoundary, ↓mark_fillPd, ↓mark_tellSlew, ↓mark_pruneSync, ↓mark_mk, mark_parts]
  rfl

theorem mark_changeMode (s : State) : mark s.changeMode = mark s := by
  unfold State.changeMode
  dsimp only
  repeat' split
  all_goals simp only [↓mark_raiseAll, ↓mark_raise, ↓mark_mk, mark_parts]

theorem mark_settle_ (old s : State) : mark (State.settle_ old s) = mark s := by
  simp only [State.settle_, apply_ite mark, ↓mark_restartDemand, ↓mark_powerDisplay, ↓mark_newSource,
    ↓mark_mk, mark_parts, ite_self]

theorem mark_takeEdits (closed : Nat) (wrapped : List Bool) (s : State) :
    mark (s.takeEdits closed wrapped) = mark s := by
  simp only [State.takeEdits, ↓mark_applyEdits, ↓mark_perfRestart, ↓mark_perfSnapshot, ↓mark_changeMode,
    ↓mark_settle_]

theorem mark_settleSlots (slots : List SlotUse) (s0 : State) : mark (s0.settleSlots slots) = mark s0 := mark_count _ _

theorem mark_abandonJobs (old s : State) : mark (State.abandonJobs old s) = mark s := by
  simp only [State.abandonJobs, apply_ite mark, ↓mark_abandonSensors, ↓mark_raiseAll, ↓mark_mk, mark_parts,
    ite_self]

theorem mark_takeClear (s : State) : mark s.takeClear = mark s := by
  simp only [State.takeClear, apply_ite mark, ↓mark_restartDemand, ↓mark_mk, mark_parts, ite_self]

theorem mark_feedPulses (old : State) (g : Gain) (s : State) : mark (State.feedPulses old g s) = mark s := by
  simp only [State.feedPulses, ↓mark_raiseAll, ↓mark_mk, mark_parts]

theorem mark_feedFto (old : State) (g : Gain) (cycles : Nat) (s : State) :
    mark (State.feedFto old g cycles s) = mark s := by
  simp only [State.feedFto, apply_ite mark, ↓mark_raiseAll, ↓mark_mk, mark_parts, ite_self]
/-! ### The frame that ends (R88, R589) -/

/-- The issue slots that a frame settles are counted, and its core's own counts take them. -/
theorem CountsOnly_settleSlots (slots : List SlotUse) (s : State) :
    ∃ f csr, frameMark f = frameMark s.frame ∧ f.length = s.frame.length ∧
      CountsOnly { s with frame := f, core := { s.core with csr := csr } } (s.settleSlots slots) :=
  ⟨s.frame.clocked s.pwr.state, (s.settleSlots slots).core.csr, rfl, rfl, by
    rw [State.settleSlots, count_core]
    exact CountsOnly_count _ _⟩

/-- The settings and the length of a frame stand. -/
def TermsStand (u t : State) : Prop := t.set = u.set ∧ t.frame.length = u.frame.length

theorem TermsStand_trans {u v t : State} (h1 : TermsStand u v) (h2 : TermsStand v t) : TermsStand u t :=
  ⟨h2.1.trans h1.1, h2.2.trans h1.2⟩

theorem TermsStand_foldl {α : Type} {f : State → α → State} (hf : ∀ s x, TermsStand s (f s x)) (l : List α) (s : State) :
    TermsStand s (l.foldl f s) :=
  List.foldlRecOn (motive := TermsStand s) l f ⟨rfl, rfl⟩ fun _ h x _ => TermsStand_trans h (hf _ x)

theorem TermsStand_of_CountsOnly {u t : State} (h : CountsOnly u t) : TermsStand u t := by
  rw [h]
  exact ⟨rfl, rfl⟩

theorem TermsStand_giveUpShot (s : State) (cause : Nat) (acquisition : Bool) (ms : List Nat) :
    TermsStand s (s.giveUpShot cause acquisition ms) :=
  TermsStand_trans (v := givenUpBy acquisition ms s) ⟨rfl, rfl⟩ (TermsStand_of_CountsOnly (giveUpShot_only s cause acquisition ms))

theorem TermsStand_giveUpUnfired (s : State) : TermsStand s s.giveUpUnfired := by
  unfold State.giveUpUnfired
  extract_lets _ v w
  have hheld : TermsStand s v := TermsStand_foldl (fun t f => TermsStand_giveUpShot t _ _ _) _ s
  have hplanned : TermsStand v w := TermsStand_foldl (fun t p => TermsStand_giveUpShot t _ _ _) _ v
  exact TermsStand_trans hheld hplanned

/-- The state as its frame ends: the work that no command counts is counted, what is unfired is given up, and the issue slots are
settled. -/
def frameEnded (figures : List Act) (slots : List SlotUse) (s : State) : State :=
  ((((s.atCyc s.frame.endCyc).elapse).count figures).fillLines figures).giveUpUnfired.settleSlots slots

theorem mark_frameEnded (figures : List Act) (slots : List SlotUse) (s : State) :
    mark (frameEnded figures slots s) = mark (s.atCyc s.frame.endCyc).elapse := by
  simp only [frameEnded, ↓mark_settleSlots, ↓mark_giveUpUnfired, ↓mark_fillLines, ↓mark_count]

theorem TermsStand_fillLines (acts : List Act) (s : State) : TermsStand s (s.fillLines acts) := ⟨rfl, rfl⟩

theorem TermsStand_settleSlots (slots : List SlotUse) (s : State) : TermsStand s (s.settleSlots slots) := by
  obtain ⟨f, csr, -, hlen, honly⟩ := CountsOnly_settleSlots slots s
  obtain ⟨hset, hlength⟩ := TermsStand_of_CountsOnly honly
  exact ⟨hset, hlength.trans hlen⟩

theorem TermsStand_frameEnded (figures : List Act) (slots : List SlotUse) (s : State) : TermsStand s (frameEnded figures slots s) := by
  have htimed : TermsStand s (s.atCyc s.frame.endCyc).elapse := by
    rw [TimePasses_trans (TimePasses_atCyc s s.frame.endCyc) (TimePasses_elapse _)]
    exact ⟨rfl, rfl⟩
  have hcounted := TermsStand_trans htimed (TermsStand_of_CountsOnly (CountsOnly_count figures _))
  exact TermsStand_trans (TermsStand_trans (TermsStand_trans hcounted (TermsStand_fillLines figures _)) (TermsStand_giveUpUnfired _))
    (TermsStand_settleSlots slots _)

/-- A running frame has ended as its number, its level of LANTERN and the security block say. -/
theorem frameEnded_stands (figures : List Act) (slots : List SlotUse) (s : State) :
    (fun t : State => { t.acc with lockout := [] } = { s.acc with lockout := [] } ∧ t.log = s.log ∧
      t.frame.running = s.frame.running ∧ t.frame.number = s.frame.number ∧ t.frame.lantern = s.frame.lantern)
    (frameEnded figures slots s) := by
  have hmark := mark_frameEnded figures slots s
  rw [TimePasses_trans (TimePasses_atCyc s s.frame.endCyc) (TimePasses_elapse _)] at hmark
  exact ⟨congrArg Mark.acc hmark, congrArg Mark.log hmark, congrArg (fun m : Mark => m.frame.running) hmark,
    congrArg (fun m : Mark => m.frame.number) hmark, congrArg (fun m : Mark => m.frame.lantern) hmark⟩

/-! ### The boundary -/

theorem acc_of_lockout {a b : Access} (h : { a with lockout := [] } = { b with lockout := [] }) : a = { b with lockout := a.lockout } := by
  cases a
  cases b
  simp only [Access.mk.injEq] at h ⊢
  simp [h]

section Boundary

variable {gate : List (Nat × Nat)} {lfx : Nat} {a0 a1 : Bool} {acts : List Act} {slots : List SlotUse} {edge : List Act} {s : State}

/-- The boundary of a running frame takes its marks from the frame that ended. -/
theorem mark_frameBoundary (hrun : s.frame.running = true) :
    mark (frameBoundary gate lfx a0 a1 acts slots edge s) =
      mark { frameEnded acts slots s with
        frame := (frameEnded acts slots s).frame.next (field ((frameEnded acts slots s).on_ 0x0301 7) 4 0) } := by
  have hopen : (!s.frame.running) = false := by rw [hrun]; rfl
  unfold frameBoundary
  rw [hopen, if_neg Bool.false_ne_true]
  extract_lets old k measuring o flowQ qtyQ s1 ce s2 c outer sensors _ s3 clearing q b gain s4 recs emitted s5 rec_ s6 s7 s8 _ s9
  suffices hmark : mark (State.feedFto old gain s9.frame.endCyc s9).openFrame = mark s1 from hmark
  clear_value old s1
  have h2 : mark s2 = mark s1 := (mark_abandonJobs old _).trans ((mark_raise _ _).trans (mark_countEdge edge s1))
  have hclosed : mark outer = mark s2 := by
    show mark (if measuring then State.closeContexts old s2 else (s2, [])).1 = _
    split
    · exact mark_closeContexts old s2
    · rfl
  clear_value s2 outer
  have h3 : mark s3 = mark outer := rfl
  have h4 : mark s4 = mark s3 := (mark_takeClear _).trans ((mark_billBoundary _ _ _ _ _).trans (mark_accumulate _ _ _))
  clear_value s3 s4
  have hemitted : mark emitted = mark s4 := mark_emitAll recs s4
  clear_value emitted
  have h5 : mark s5 = mark emitted := mark_feedPulses old gain _
  clear_value s5
  have h7 : mark s7 = mark s5 := (mark_takeEdits _ _ _).trans (mark_judgeSync _ s6)
  clear_value s7
  have h8 : mark s8 = mark s7 := mark_closeClocks _ _ _ s7
  clear_value s8
  calc mark (State.feedFto old gain s9.frame.endCyc s9).openFrame
      = mark s8 := (mark_openFrame _).trans (mark_feedFto old gain _ s9)
    _ = mark s5 := h8.trans h7
    _ = mark s3 := h5.trans (hemitted.trans h4)
    _ = mark s1 := h3.trans (hclosed.trans h2)

/-- FRAME_BOUNDARY of a running frame outside its commit slot. -/
theorem frameBoundary_advances (hrun : s.frame.running = true) :
    (fun t : State => t.frame.number = (s.frame.number + 1) % 2 ^ 48 ∧ t.frame.lantern = (!s.frame.lantern) ∧
      t.frame.synoActive = (field (s.on_ 0x0301 7) 4 0 != 0) ∧ t.frame.lengthLast = s.frame.length ∧ t.frame.cyc = 0 ∧
      t.frame.running = true ∧ t.frame.committing = true ∧
      t.mem = s.mem ∧ t.acc = { s.acc with lockout := t.acc.lockout } ∧ t.log = s.log ∧ t.pending = s.pending)
    (frameBoundary gate lfx a0 a1 acts slots edge s) := by
  have hmark := mark_frameBoundary (gate := gate) (lfx := lfx) (a0 := a0) (a1 := a1) (acts := acts) (slots := slots) (edge := edge) hrun
  obtain ⟨hacc, hlog, hrunning, hnumber, hlantern⟩ := frameEnded_stands acts slots s
  obtain ⟨hset, hlength⟩ := TermsStand_frameEnded acts slots s
  have hwidth : (frameEnded acts slots s).on_ 0x0301 7 = s.on_ 0x0301 7 := by simp only [State.on_, State.eff, hset]
  have hguarded := guarded_frameBoundary gate lfx a0 a1 acts slots edge s
  rw [hwidth] at hmark
  have hframe := congrArg Mark.frame hmark
  refine ⟨?_, ?_, ?_, ?_, ?_, ?_, ?_, congrArg Guarded.mem hguarded, ?_, (congrArg Mark.log hmark).trans hlog,
    congrArg Guarded.pending hguarded⟩
  · rw [← hnumber]
    exact congrArg FrameMark.number hframe
  · rw [← hlantern]
    exact congrArg FrameMark.lantern hframe
  · exact congrArg FrameMark.synoActive hframe
  · rw [← hlength]
    exact congrArg FrameMark.lengthLast hframe
  · exact congrArg FrameMark.cyc hframe
  · rw [← hrun, ← hrunning]
    exact congrArg FrameMark.running hframe
  · exact congrArg FrameMark.committing hframe
  · exact acc_of_lockout ((congrArg Mark.acc hmark).trans hacc)

end Boundary

theorem commitComplete_of_done {diff : List (Nat × Nat)} {s : State} (h : s.frame.running = false ∨ s.frame.committing = false) :
    commitComplete diff s = s := if_pos (by rcases h with h | h <;> simp [h])

/-- Settles O3: what the steps of a boundary leave alone is its mark (`mark_frameBoundary`), which the frame that ended gives. -/
theorem frameBoundaryAdvancesTheFrame : Obligations.FrameBoundaryAdvancesTheFrame := by
  unfold Obligations.FrameBoundaryAdvancesTheFrame
  refine fun gate lfx a0 a1 figures edge s => ⟨fun hstop => ?_, fun hrun hslot => ?_⟩
  · refine congrArg Host.Outcome.next (?_ : frameBoundary gate lfx a0 a1 figures.acts figures.slots edge (commitComplete [] s) = s)
    rw [commitComplete_of_done (.inl hstop), frameBoundary, if_pos (by simp [hstop])]
  · have hdone := commitComplete_of_done (diff := []) (.inr hslot)
    refine ⟨frameBoundary gate lfx a0 a1 figures.acts figures.slots edge s, ?_, frameBoundary_advances hrun⟩
    show Host.Outcome.next (frameBoundary gate lfx a0 a1 figures.acts figures.slots edge (commitComplete [] s)) = _
    rw [hdone]

end Sys2Proof.Proofs
end

section
/-! PROOF. A key change while a mode to come is pending. A write that is not legal in the mode to come is refused with STATE (R461): of
a key change the pending TAPER is such a mode, so that a key that unwraps well is not installed. -/

namespace Sys2Proof.Proofs

open Sys2Proof Sys2Proof.Machine Sys2Proof.Laws

/-- A write that is not legal in the mode to come is refused with STATE, where no check before that refuses it. -/
theorem write_of_modeBad {s : State} {row : Row} {a : Ask} (hrow : rowOf (key a.index a.sub) = some row)
    (hearly : firstAbort [(accessBad row a, abortAccess), (s.sealBad row a, abortSealed), (!row.ty.fits a.data, abortType)] = abortOk)
    (hvalue : s.valueAbort row a = abortOk) (hmode : s.modeBad row = true) : s.write a = (s, abortState) := by
  simp only [State.write, hrow, hearly, hvalue, hmode, ne_eq, not_true_eq_false, if_false, Bool.true_or, if_true]

/-- The value of a key change is accepted where it unwraps under the key of the envelope's role. -/
theorem valueAbort_of_unwraps {s : State} {row : Row} {a : Ask} {role : Role} {k : List Nat} (hallows : row.ty.allows a.data = true)
    (hentry : keyEntry a.index a.sub = true) (henv : a.env = some role) (hunwraps : s.unwrapFor role.rank a.data = some k) :
    s.valueAbort row a = abortOk := by
  have hindex : a.index = 0x1520 := by
    simp only [keyEntry, Bool.and_eq_true, beq_iff_eq] at hentry
    exact hentry.1
  rw [hindex] at hentry
  simp [State.valueAbort, hallows, hindex, hentry, henv, hunwraps]

/-- The wrapped key of RFC 3394, section 4.1. -/
def wrappedVector : List Nat :=
  [0x1F, 0xA6, 0x8B, 0x0A, 0x81, 0x12, 0xB4, 0x47, 0xAE, 0xF3, 0x4B, 0xD8, 0xFB, 0x5A, 0x7B, 0x82, 0x9D, 0x3E, 0x86, 0x23, 0x71, 0xD2, 0xCF,
    0xE5]

/-- The key that it wraps. -/
def unwrappedVector : List Nat :=
  [0x00, 0x11, 0x22, 0x33, 0x44, 0x55, 0x66, 0x77, 0x88, 0x99, 0xAA, 0xBB, 0xCC, 0xDD, 0xEE, 0xFF]

theorem keyUnwrap_wrappedVector : keyUnwrap (List.range 16) wrappedVector = some unwrappedVector := by decide +kernel

/-- A device that runs in CONFIG with a METROLOGY key, and with TAPER as the mode to come. -/
def taperPending : State := { State.reset with
  pwr := { State.reset.pwr with state := .run }
  frame := { State.reset.frame with running := true }
  acc := { State.reset.acc with metrologyKey := some (List.range 16) }
  modePending := some .taper }

/-- The core with an envelope of the METROLOGY role that changes the OPERATOR key. -/
def vectorSender : Sender := sealedBy (List.range 16) .window 3 2 5 0x1520 1 wrappedVector

/-- The request that carries it. -/
def vectorRequest : Request := taperPending.carried vectorSender 0x1520 1 wrappedVector

/-- What the envelope asks for. -/
def vectorAsk : Ask :=
  { via := .window, gen := taperPending.sessionGen .window, index := 0x1520, sub := 1, data := wrappedVector, role := Role.ofCode 2
    env := some (Role.ofCode 2) }

theorem vector_served : taperPending.servesNow vectorRequest := by
  unfold State.servesNow
  decide +kernel

theorem vector_formed : (taperPending.expect vectorRequest).formAbort vectorRequest = abortOk := by decide +kernel

theorem vector_authenticated : (taperPending.expect vectorRequest).authenticate vectorRequest =
    openedBy taperPending vectorRequest 2 5 0x1520 1 wrappedVector :=
  authenticate_sealed (List.range 16) taperPending .window 3 2 5 0x1520 1 wrappedVector (by rfl) (by decide +kernel)

theorem vector_unwraps : taperPending.unwrapFor 2 wrappedVector = some unwrappedVector := by
  have hkey : taperPending.roleKey 2 = some (List.range 16) := rfl
  rw [State.unwrapFor, hkey, Option.bind_some, keyUnwrap_wrappedVector]

/-- The line of OPERATOR_KEY_CHANGE. -/
def operatorKeyRow : Row := ⟨0x1520, 0x1520, 0x01, 0x01, .octets 24, true, .operator, false, 7, 1⟩

/-- The state once the envelope has been opened. -/
def vectorOpened : State := (openedBy taperPending vectorRequest 2 5 0x1520 1 wrappedVector).1

theorem vector_opened_unwraps : vectorOpened.unwrapFor 2 wrappedVector = some unwrappedVector := by
  have hkey : vectorOpened.roleKey 2 = some (List.range 16) := rfl
  rw [State.unwrapFor, hkey, Option.bind_some, keyUnwrap_wrappedVector]

theorem vector_refused : vectorOpened.write vectorAsk = (vectorOpened, abortState) := by
  refine write_of_modeBad (row := operatorKeyRow) (by decide +kernel) (by decide +kernel) ?_ (by decide +kernel)
  exact valueAbort_of_unwraps (by decide +kernel) rfl rfl vector_opened_unwraps

theorem taperPending_stands : taperPending.ask vectorSender 0x1520 1 wrappedVector =
    vectorOpened.answer vectorRequest false abortState [] := by
  have hup : taperPending.linksUp = true := by decide +kernel
  have htake := take_authenticated vector_served vector_formed vector_authenticated rfl
  rw [ask_eq_take _ _ _ _ _ hup]
  refine htake.trans ?_
  rw [if_neg (by decide)]
  exact congrArg (fun w : State × Nat => w.1.answer vectorRequest false w.2 []) vector_refused

/-- Refutes O36: of a key change that unwraps it says that the key is installed, but a write that is not legal in the mode to come is
refused with STATE, and KEY_CHANGES stands (`taperPending_stands`). -/
theorem not_firmwareKeysAndMailbox : ¬ Obligations.FirmwareKeysAndMailbox := by
  unfold Obligations.FirmwareKeysAndMailbox
  intro h
  obtain ⟨-, -, -, -, hkey, -⟩ := h
  have hdoes := hkey vectorSender 1 2 5 _ wrappedVector vectorRequest taperPending (.inl rfl) (.inl rfl) rfl (by decide)
    (by decide) rfl (by decide) rfl vector_served vector_formed (congrArg Prod.snd vector_authenticated)
  rw [vector_unwraps] at hdoes
  obtain ⟨t, hexec, -, -, -, -, hcarried⟩ := hdoes
  obtain rfl : taperPending.ask vectorSender 0x1520 1 wrappedVector = t := Host.Outcome.next.inj hexec
  have hchanges : (taperPending.ask vectorSender 0x1520 1 wrappedVector).acc.keyChanges =
      min (2 ^ 32 - 1) (taperPending.acc.keyChanges + 1) := by rw [hcarried]
  rw [taperPending_stands, answer_acc] at hchanges
  exact absurd hchanges (by decide +kernel)

end Sys2Proof.Proofs
end

section
/-! PROOF. What the powerline link receives: a pair decides a bit, a frame is delivered or discarded, and a frame for the device opens
its partner's session (R505 to R512, R519, R520). -/

namespace Sys2Proof.Proofs

open Sys2Proof Sys2Proof.Machine Sys2Proof.Laws

/-! ### Sessions of the link -/

theorem session_modSession_same {p : Powerline} {n : Nat} (f : PlSession → PlSession) (h : n < p.sessions.length) :
    (p.modSession n f).session n = f (p.session n) := by
  have hx : p.sessions[n]? = some p.sessions[n] := List.getElem?_eq_getElem h
  simp only [Powerline.session, Powerline.modSession, List.getD_eq_getElem?_getD, modAt_getElem?_same f hx, hx, Option.getD_some]

theorem session_modSession_other (p : Powerline) {n m : Nat} (f : PlSession → PlSession) (h : m ≠ n) :
    (p.modSession n f).session m = p.session m := by
  simp only [Powerline.session, Powerline.modSession, List.getD_eq_getElem?_getD, modAt_getElem?_other _ f h]

@[simp] theorem modSession_length (p : Powerline) (n : Nat) (f : PlSession → PlSession) :
    (p.modSession n f).sessions.length = p.sessions.length :=
  modAt_length _ _ _

theorem CountsOnly_pl {u t : State} (h : CountsOnly u t) : t.pl = u.pl := by rw [h]

theorem CountsOnly_modPl {u t : State} (h : CountsOnly u t) (f : Powerline → Powerline) : CountsOnly (u.modPl f) (t.modPl f) := by
  unfold CountsOnly State.modPl
  rw [h]

theorem CountsOnly_plMaster {u t : State} (h : CountsOnly u t) : t.plMaster = u.plMaster := by
  rw [h]
  rfl

theorem CountsOnly_awaitedReply {u t : State} (h : CountsOnly u t) (b : List Nat) : t.awaitedReply b = u.awaitedReply b := by
  rw [h]
  rfl

/-! ### The session of a partner -/

/-- The place of the session idle longest among the first 24 (R520). -/
theorem longestIdle_lt (p : Powerline) (l : List Nat) (start : Nat) (hl : ∀ n ∈ l, n < 24) (hstart : start < 24) :
    l.foldl (fun best n => if (p.session n).heard < (p.session best).heard then n else best) start < 24 := by
  induction l generalizing start with
  | nil => exact hstart
  | cons n l ih =>
    rw [List.foldl_cons]
    refine ih _ (fun m hm => hl m (List.mem_cons_of_mem n hm)) ?_
    split
    · exact hl n List.mem_cons_self
    · exact hstart

/-- A frame of a partner opens the partner's session, or finds it open: it has just heard of the partner, and the other sessions
stand (R520). -/
theorem openSession_hears (now address : Nat) (p : Powerline) :
    ∃ n f, n < 24 ∧ (p.openSession now address).2 = p.modSession n f ∧ (f (p.session n)).address = address ∧
      (f (p.session n)).heard = now ∧ ((p.session n).address = address → f (p.session n) = { p.session n with heard := now }) := by
  unfold Powerline.openSession
  cases hmine : (List.range 24).find? fun n => (p.session n).address == address with
  | some n =>
    have hn : n < 24 := List.mem_range.1 (List.mem_of_find?_eq_some hmine)
    have haddress : (p.session n).address = address := by simpa using List.find?_some hmine
    exact ⟨n, _, hn, rfl, haddress, rfl, fun _ => rfl⟩
  | none =>
    have hnone : ∀ n < 24, (p.session n).address ≠ address := by simpa using hmine
    cases hfree : (List.range 24).find? fun n => (p.session n).address == 0 with
    | some n =>
      have hn : n < 24 := List.mem_range.1 (List.mem_of_find?_eq_some hfree)
      exact ⟨n, _, hn, rfl, rfl, rfl, fun h => absurd h (hnone n hn)⟩
    | none =>
      have hn := longestIdle_lt p (List.range 24) 0 (fun n hn => List.mem_range.1 hn) (by decide)
      exact ⟨_, _, hn, rfl, rfl, rfl, fun h => absurd h (hnone _ hn)⟩

/-! ### A frame -/

/-- The state after the receiver has kept the quiet values of a frame. -/
def quietKept (pairs : List (Half × Half)) (s : State) : State :=
  s.modPl fun p => { p with quietPos := (s.receive pairs).pos, quietNeg := (s.receive pairs).neg }

section
variable {pairs : List (Half × Half)} {s : State} (hon : s.plOn = true) (hlocked : s.pl.locked = true)
include hon hlocked

theorem plFrame_of_none (h : judgeFrame (s.receive pairs).bits.reverse = .none) : plFrame pairs s = quietKept pairs s := by
  simp only [plFrame, hon, hlocked, Bool.and_self, Bool.not_true, Bool.false_eq_true, if_false, h]
  rfl

theorem plFrame_of_discarded {erased crc : Bool} (h : judgeFrame (s.receive pairs).bits.reverse = .discarded erased crc) :
    ∃ t, plFrame pairs s = t ∧ CountsOnly ((quietKept pairs s).modPl fun p => { p with
      crcErrors := if crc then satInc (2 ^ 32 - 1) p.crcErrors else p.crcErrors
      erased := if erased then satInc (2 ^ 32 - 1) p.erased else p.erased }) t := by
  refine ⟨_, rfl, ?_⟩
  simp only [plFrame, hon, hlocked, Bool.and_self, Bool.not_true, Bool.false_eq_true, if_false, h]
  cases crc
  · exact CountsOnly_raiseIf _ _ _
  · exact CountsOnly_trans (CountsOnly_raiseIf _ _ _) (CountsOnly_count _ _)

theorem plFrame_of_good {b : List Nat} (h : judgeFrame (s.receive pairs).bits.reverse = .good b) :
    plFrame pairs s = if s.forDevice b then (quietKept pairs s).deliver b else quietKept pairs s := by
  simp only [plFrame, hon, hlocked, Bool.and_self, Bool.not_true, Bool.false_eq_true, if_false, h]
  rfl

end

/-- A good frame for the device is counted (R512). -/
def frameCounted (s : State) : State := s.modPl fun p => { p with rxFrames := satInc (2 ^ 32 - 1) p.rxFrames }

/-- The REPLY that a master waits for waits to be taken (R521). -/
theorem deliver_of_awaited {b : List Nat} {s : State} (h : s.awaitedReply b = true) :
    CountsOnly ((frameCounted s).modPl fun p => { p with inbox := p.inbox ++ [b] }) (s.deliver b) := by
  have hcounted : CountsOnly (frameCounted s) ((frameCounted s).count [linkAct 0x60 1]) := CountsOnly_count _ _
  have hawaited : ((frameCounted s).count [linkAct 0x60 1]).awaitedReply b = true := (CountsOnly_awaitedReply hcounted b).trans h
  have hdeliver : s.deliver b = ((frameCounted s).count [linkAct 0x60 1]).modPl fun p => { p with inbox := p.inbox ++ [b] } :=
    if_pos hawaited
  rw [hdeliver]
  exact CountsOnly_modPl hcounted _

/-- The link once a frame that no master waits for has been delivered. -/
def delivered (master : Bool) (now : Nat) (b : List Nat) (p : Powerline) : Powerline :=
  let q := if master then p else (p.openSession now (frameSrc b)).2
  if !master && frameKind b == 0 && frameDst b != 0xFFFF && pollOk (framePayload b) then { q with inbox := q.inbox ++ [b] } else q

/-- Beside the sessions a slave takes a sound POLL to its own address. -/
theorem delivered_keeps (master : Bool) (now : Nat) (b : List Nat) (p : Powerline) :
    delivered master now b p = { p with
      sessions := (delivered master now b p).sessions
      inbox := if master = false ∧ frameKind b = 0 ∧ frameDst b ≠ 0xFFFF ∧ pollOk (framePayload b) = true then p.inbox ++ [b]
        else p.inbox } := by
  obtain ⟨n, f, -, hopen, -⟩ := openSession_hears now (frameSrc b) p
  have htaken : (!master && frameKind b == 0 && frameDst b != 0xFFFF && pollOk (framePayload b)) = true ↔
      master = false ∧ frameKind b = 0 ∧ frameDst b ≠ 0xFFFF ∧ pollOk (framePayload b) = true := by
    simp [and_assoc]
  unfold delivered
  simp only [hopen, htaken]
  by_cases h : master = false ∧ frameKind b = 0 ∧ frameDst b ≠ 0xFFFF ∧ pollOk (framePayload b) = true
  · rw [if_pos h, if_pos h, h.1]
    rfl
  · rw [if_neg h, if_neg h]
    cases master <;> rfl

/-- A master's sessions stand. -/
theorem delivered_of_master (now : Nat) (b : List Nat) (p : Powerline) : (delivered true now b p).sessions = p.sessions := rfl

/-- A slave's partner has a session that has just heard of it. -/
theorem delivered_of_slave (now : Nat) (b : List Nat) {p : Powerline} (hlen : p.sessions.length = 24) :
    ∃ n, n < 24 ∧ ((delivered false now b p).session n).address = frameSrc b ∧ ((delivered false now b p).session n).heard = now ∧
      ((p.session n).address = frameSrc b → (delivered false now b p).session n = { p.session n with heard := now }) ∧
      ∀ m, m ≠ n → (delivered false now b p).session m = p.session m := by
  obtain ⟨n, f, hn, hopen, haddress, hheard, hfound⟩ := openSession_hears now (frameSrc b) p
  have hsession : ∀ m, (delivered false now b p).session m = (p.modSession n f).session m := by
    intro m
    rw [← hopen]
    unfold delivered
    dsimp only
    split <;> rfl
  have hsame : (delivered false now b p).session n = f (p.session n) := by
    rw [hsession, session_modSession_same f (by omega)]
  refine ⟨n, hn, ?_, ?_, ?_, fun m hm => ?_⟩
  · rw [hsame, haddress]
  · rw [hsame, hheard]
  · rw [hsame]
    exact hfound
  · rw [hsession, session_modSession_other p f hm]

theorem deliver_of_unawaited {b : List Nat} {s : State} (h : s.awaitedReply b = false) :
    CountsOnly ((frameCounted s).modPl (delivered s.plMaster s.frame.absTick b)) (s.deliver b) := by
  have hcounted : CountsOnly (frameCounted s) ((frameCounted s).count [linkAct 0x60 1]) := CountsOnly_count _ _
  have hawaited : ¬((frameCounted s).count [linkAct 0x60 1]).awaitedReply b = true :=
    Bool.eq_false_iff.1 ((CountsOnly_awaitedReply hcounted b).trans h)
  have hmaster : ((frameCounted s).count [linkAct 0x60 1]).plMaster = s.plMaster := (CountsOnly_plMaster hcounted).trans rfl
  have hnow : ((frameCounted s).count [linkAct 0x60 1]).frame = s.frame := (CountsOnly_frame hcounted).trans rfl
  have hdeliver : s.deliver b =
      (((frameCounted s).count [linkAct 0x60 1]).modPl (delivered s.plMaster s.frame.absTick b)).raise
        (plEvent 44 (64 * frameKind b) (frameSrc b * 65536 + frameLen b)) := by
    refine (if_neg hawaited).trans (congrArg (State.raise _) ?_)
    unfold frameCounted at hmaster hnow ⊢
    generalize State.count [linkAct 0x60 1] _ = v at hmaster hnow ⊢
    rw [hmaster, hnow]
    unfold delivered State.modPl
    cases s.plMaster <;> dsimp only <;> split <;> rfl
  rw [hdeliver]
  exact CountsOnly_trans (CountsOnly_modPl hcounted _) (CountsOnly_raise _ _)

/-! ### One pair, and the wake pattern -/

/-- With no quiet value kept there is no noise. -/
@[simp] theorem noiseOf_nil (h : Half) : noiseOf [] h = 0 := rfl

/-- A pair of sum d decides its bit by THRESHOLD (R507). -/
theorem receive_single (p1 q1 p2 q2 : Nat) {s : State} (hreps : s.plRepeat = 1) (hpos : s.pl.quietPos = []) (hneg : s.pl.quietNeg = []) :
    (s.receive [((p1, q1), (p2, q2))]).bits =
      [if (s.on_ 0x1900 5 : Int) ≤ ((p1 : Int) - q1) - ((p2 : Int) - q2) then 1
       else if ((p1 : Int) - q1) - ((p2 : Int) - q2) ≤ -(s.on_ 0x1900 5 : Int) then 0 else 2] := by
  have hquiet : ¬((s.on_ 0x1900 6 : Nat) : Rat) < 0 := not_lt.2 (Nat.cast_nonneg _)
  simp only [State.receive, hreps, hpos, hneg, List.foldl_cons, List.foldl_nil, Rx.pair, noiseOf_nil, Nat.lt_irrefl, bitOf]
  simp [flag, hquiet]

/-- With no quiet value kept THRESHOLD alone says whether a half-cycle holds a pulse. -/
theorem pulseIn_of_unquiet (positive : Bool) (h : Nat × Nat) {s : State} (hpos : s.pl.quietPos = []) (hneg : s.pl.quietNeg = []) :
    s.pulseIn positive h = true ↔ (s.on_ 0x1900 5 : Int) ≤ (h.1 : Int) - h.2 := by
  have hquiet : (if positive then s.pl.quietPos else s.pl.quietNeg) = [] := by rw [hpos, hneg, ite_self]
  simp [State.pulseIn, hquiet]

theorem wakeSeen_iff (p : Powerline) : p.wakeSeen = true ↔
    p.sensed.length = 15 ∧ ∀ i, i < 15 → ((p.sensed.getD i (false, false)).2 = true ↔ i % 2 = 0) := by
  have hplace : ∀ (x : Bool) (i : Nat), (x == (i % 2 == 0)) = true ↔ (x = true ↔ i % 2 = 0) := fun x i => by cases x <;> simp
  simp only [Powerline.wakeSeen, Bool.and_eq_true, beq_iff_eq, List.all_eq_true, List.mem_range, hplace]

/-- Settles O54, from what delivering a frame does (`deliver_of_awaited`, `deliver_of_unawaited`) and the session that it opens
(`openSession_hears`). -/
theorem powerlineFramesAreReceived : Obligations.PowerlineFramesAreReceived := by
  unfold Obligations.PowerlineFramesAreReceived
  refine ⟨fun pairs s hoff => ?_, fun p1 q1 p2 q2 s => receive_single p1 q1 p2 q2, fun s hon hlocked => ⟨fun hlen hpulses => ?_, fun hnot => ?_,
    fun positive h => pulseIn_of_unquiet positive h⟩, fun pairs s hon hlocked => ⟨fun hnone => ?_, fun erased crc hdiscarded => ?_,
    fun b hgood => ⟨fun hother => ?_, fun hmine hunawaited hlen => ?_, fun hmine hawaited => ?_⟩⟩⟩
  · have hstill : (s.plOn && s.pl.locked) = false := by
      rw [Bool.and_eq_false_iff]
      exact hoff
    have hframe : plFrame pairs s = s := if_pos (by rw [hstill, Bool.not_false])
    have hwake : plWakePattern s = s := if_neg (by rw [hstill, Bool.false_and]; exact Bool.false_ne_true)
    exact ⟨congrArg Host.Outcome.next hframe, congrArg Host.Outcome.next hwake⟩
  · have hseen : s.pl.wakeSeen = true := (wakeSeen_iff s.pl).2 ⟨hlen, hpulses⟩
    have hwake : plWakePattern s = s.raise (plEvent 44 0x0100 0) := if_pos (by rw [hon, hlocked, hseen]; rfl)
    exact congrArg Host.Outcome.next hwake
  · have hseen : ¬s.pl.wakeSeen = true := by
      rw [wakeSeen_iff]
      rintro ⟨hlen, hpulses⟩
      obtain hshort | ⟨i, hi, hi'⟩ := hnot
      · exact hshort hlen
      · exact hi' (hpulses i hi)
    have hwake : plWakePattern s = s := if_neg (by rw [Bool.and_eq_true]; exact fun h => hseen h.2)
    exact congrArg Host.Outcome.next hwake
  · exact congrArg Host.Outcome.next (plFrame_of_none hon hlocked hnone)
  · obtain ⟨t, hframe, hcounts⟩ := plFrame_of_discarded hon hlocked hdiscarded
    refine ⟨t, congrArg Host.Outcome.next hframe, ?_, ?_⟩
    · exact CountsOnly_pl hcounts
    · rw [CountsOnly_pl hcounts]
      exact hcounts
  · exact congrArg Host.Outcome.next ((plFrame_of_good hon hlocked hgood).trans (if_neg (Bool.eq_false_iff.1 hother)))
  · have hcounts := deliver_of_unawaited (b := b) (s := quietKept pairs s) hunawaited
    have hpl := CountsOnly_pl hcounts
    refine ⟨_, congrArg Host.Outcome.next ((plFrame_of_good hon hlocked hgood).trans (if_pos hmine)), ?_, ?_, ?_, ?_⟩
    · rw [hpl]
      exact delivered_keeps _ _ _ _
    · intro hmaster
      have hmaster' : (quietKept pairs s).plMaster = true := hmaster
      rw [hpl, hmaster']
      exact delivered_of_master s.frame.absTick b (frameCounted (quietKept pairs s)).pl
    · intro hslave
      have hslave' : (quietKept pairs s).plMaster = false := hslave
      rw [hpl, hslave']
      exact delivered_of_slave _ b hlen
    · rw [hpl]
      exact hcounts
  · have hcounts := deliver_of_awaited (b := b) (s := quietKept pairs s) hawaited
    refine ⟨_, congrArg Host.Outcome.next ((plFrame_of_good hon hlocked hgood).trans (if_pos hmine)), ?_, ?_⟩
    · exact CountsOnly_pl hcounts
    · rw [CountsOnly_pl hcounts]
      exact hcounts

end Sys2Proof.Proofs
end

section
/-! PROOF. The crossings of the mains and the pulses of a transmission: how a crossing is judged, what an unlock discards, and how a
transmission goes on and ends (R500 to R503, R506, R526, R527). -/

namespace Sys2Proof.Proofs

open Sys2Proof Sys2Proof.Machine Sys2Proof.Laws

/-! ### What the link reads of the settings -/

/-- Whether pulses are admitted is read from the mode and the settings alone (R525). -/
theorem admitsPulses_of_settings {s t : State} (hmode : t.mode = s.mode) (hset : t.set = s.set) : t.admitsPulses = s.admitsPulses := by
  have hread : ∀ v : State, v.admitsPulses = ({ State.reset with mode := v.mode, set := v.set } : State).admitsPulses := fun _ => rfl
  rw [hread t, hread s, hmode, hset]

theorem enabled_of_plOn {s : State} (hon : s.plOn = true) : bitAt (s.on_ 0x1900 1) 7 = true := by
  simp only [State.plOn, Bool.and_eq_true] at hon
  exact hon.1.1.1

/-- A link that is enabled does not come to rest. -/
theorem plRest_of_enabled {s : State} (h : bitAt (s.on_ 0x1900 1) 7 = true) : s.plRest = s := if_pos h

/-- Where no edit waits for the end of a transmission, none applies. -/
theorem plEdits_of_none {s : State} (h : ∀ e ∈ s.set.edits, e.due ≠ .txEnd) : s.plEdits = s := by
  have hdue : (s.set.edits.filter fun e => decide (e.due = .txEnd)) = [] :=
    List.filter_eq_nil_iff.2 fun e he => by simpa using h e he
  have hrest : (s.set.edits.filter fun e => decide (e.due ≠ .txEnd)) = s.set.edits :=
    List.filter_eq_self.2 fun e he => by simpa using h e he
  simp only [State.plEdits, hdue, hrest, List.foldl_nil]

/-! ### How a crossing is judged -/

theorem zcLine_of_short {s : State} {rising : Bool} (h : (s.pl.crossings rising).length < 3) : s.zcLine rising = none := by
  simp [State.zcLine, h]

/-- The first crossing of a polarity is its seed. -/
theorem judgeCrossing_first {s : State} {rising : Bool} (time : Nat) (h : s.pl.crossings rising = []) :
    s.judgeCrossing rising time = some ([time], true) := by
  have hline : s.zcLine rising = none := zcLine_of_short (by rw [h]; decide)
  simp only [State.judgeCrossing, hline, h, List.getLast?_nil]

section
variable {s : State} {rising : Bool} {l : Nat} (time : Nat) (hline : s.zcLine rising = none)
  (hlast : (s.pl.crossings rising).getLast? = some l)
include hline hlast

/-- Without a fitted line a crossing near 1 to 8 nominal periods after the last one is accepted. -/
theorem judgeCrossing_near (h : ∃ k : Nat, 1 ≤ k ∧ k ≤ 8 ∧ |(time : Rat) - (l : Rat) - (k : Rat) * s.mainsPeriod| ≤ s.mainsPeriod / 100) :
    s.judgeCrossing rising time = some (s.pl.crossings rising ++ [time], false) := by
  obtain ⟨k, hone, height, hnear⟩ := h
  simp only [State.judgeCrossing, hline, hlast]
  refine if_pos (List.any_eq_true.2 ⟨k - 1, List.mem_range.2 (by omega), ?_⟩)
  rw [ite_neg_eq_abs, Nat.sub_add_cancel hone]
  exact decide_eq_true hnear

/-- Without a fitted line any other crossing is the new seed. -/
theorem judgeCrossing_seed (h : ∀ k : Nat, 1 ≤ k → k ≤ 8 → s.mainsPeriod / 100 < |(time : Rat) - (l : Rat) - (k : Rat) * s.mainsPeriod|) :
    s.judgeCrossing rising time = some ([time], true) := by
  simp only [State.judgeCrossing, hline, hlast]
  refine if_neg fun hany => ?_
  obtain ⟨k, hk, hnear⟩ := List.any_eq_true.1 hany
  rw [ite_neg_eq_abs] at hnear
  exact absurd (of_decide_eq_true hnear) (not_le.2 (h (k + 1) (by omega) (by have := List.mem_range.1 hk; omega)))

end

/-- The index of a crossing on a fitted line. -/
def crossingIndex (p a : Rat) (last time : Nat) : Int := max ((last : Int) + 1) (roundAway (quo ((time : Rat) - a) p))

theorem lt_crossingIndex (p a : Rat) (last time : Nat) : (last : Int) < crossingIndex p a last time :=
  lt_of_lt_of_le (lt_add_one _) (le_max_left _ _)

/-- A crossing within 100 µs of an index after the last one has that index. -/
theorem crossingIndex_of_near {p a : Rat} {last time : Nat} {n : Int} (hp : 1000 ≤ p) (hafter : (last : Int) < n)
    (hnear : |(time : Rat) - (a + p * (n : Rat))| ≤ 1048576 / 10000) : crossingIndex p a last time = n := by
  obtain ⟨k, rfl⟩ := Int.eq_ofNat_of_zero_le (show 0 ≤ n by omega)
  have hpos : (0 : Rat) < p := by linarith
  have hoff : ((time : Rat) - a) / p - (k : Rat) = ((time : Rat) - (a + p * (k : Rat))) / p := by
    field_simp
    ring
  have hround : roundAway (quo ((time : Rat) - a) p) = (k : Int) := by
    rw [quo_of_ne_zero _ hpos.ne']
    refine roundAway_of_near (by omega) ?_
    rw [hoff, abs_div, abs_of_pos hpos, div_lt_iff₀ hpos]
    have hnear' : |(time : Rat) - (a + p * (k : Rat))| ≤ 1048576 / 10000 := by exact_mod_cast hnear
    linarith
  rw [crossingIndex, hround]
  exact max_eq_right (by omega)

section
variable {s : State} {rising : Bool} {p a : Rat} {last : Nat} (time : Nat) (hline : s.zcLine rising = some (p, a, last))
include hline

theorem judgeCrossing_line : s.judgeCrossing rising time =
    if |(time : Rat) - (a + p * (crossingIndex p a last time : Rat))| ≤ 1048576 / 10000 then
      some ((s.pl.crossings rising ++ [time]).drop ((s.pl.crossings rising).length - 15), false) else none := by
  have hspan : quo 1048576 10000 = 1048576 / 10000 := quo_of_ne_zero _ (by norm_num)
  simp only [State.judgeCrossing, hline, hspan, ite_neg_eq_abs]
  rfl

/-- With a fitted line a crossing within 100 µs of an index after the last one is accepted. -/
theorem judgeCrossing_onLine {n : Int} (hp : 1000 ≤ p) (hafter : (last : Int) < n)
    (hnear : |(time : Rat) - (a + p * (n : Rat))| ≤ 1048576 / 10000) :
    s.judgeCrossing rising time = some ((s.pl.crossings rising ++ [time]).drop ((s.pl.crossings rising).length - 15), false) := by
  rw [judgeCrossing_line time hline, crossingIndex_of_near hp hafter hnear, if_pos hnear]

/-- With a fitted line any other crossing is rejected. -/
theorem judgeCrossing_offLine (hfar : ∀ n : Int, (last : Int) < n → 1048576 / 10000 < |(time : Rat) - (a + p * (n : Rat))|) :
    s.judgeCrossing rising time = none := by
  rw [judgeCrossing_line time hline, if_neg (not_le.2 (hfar _ (lt_crossingIndex p a last time)))]

end

/-! ### What a crossing does -/

/-- The state in which a crossing is judged: the half-cycle that it ends is sensed, and its stop entered. -/
def crossingSensed (rising : Bool) (m : CrossingMeas) (s : State) : State :=
  match m.input18 with
  | none => s.senseHalf rising m.half
  | some stop =>
    if rising && ((s.senseHalf rising m.half).pwr.dom 2).on then (s.senseHalf rising m.half).stamp18 stop else s.senseHalf rising m.half

/-- What is done with a crossing that has been judged. -/
def crossingJudged (rising : Bool) (u : State) : Option (List Nat × Bool) → State
  | none =>
    if rising then (u.modPl fun p => { p with rejects := satInc (2 ^ 32 - 1) p.rejects }).badCrossing
    else u.modPl fun p => { p with rejects := satInc (2 ^ 32 - 1) p.rejects }
  | some (xs, seed) => u.crossed rising seed xs

/-- The lock after an accepted crossing: the good run is held at 16. -/
theorem locked_of_run (locked seed : Bool) (run : Nat) :
    (locked || decide (16 ≤ if seed then 1 else min 16 (run + 1))) = (locked || (!seed && decide (16 ≤ run + 1))) := by
  have hrun : 16 ≤ min 16 (run + 1) ↔ 16 ≤ run + 1 := by omega
  cases seed <;> simp [hrun]

theorem plZeroCrossing_eq (rising : Bool) (time : Nat) (m : CrossingMeas) {s : State} (hon : s.plOn = true) :
    plZeroCrossing rising time m.input18 m.half s =
      crossingJudged rising (crossingSensed rising m s) ((crossingSensed rising m s).judgeCrossing rising time) := by
  have hjudged : plZeroCrossing rising time m.input18 m.half s =
      match (crossingSensed rising m s).judgeCrossing rising time with
      | none =>
        if rising then ((crossingSensed rising m s).modPl fun p => { p with rejects := satInc (2 ^ 32 - 1) p.rejects }).badCrossing
        else (crossingSensed rising m s).modPl fun p => { p with rejects := satInc (2 ^ 32 - 1) p.rejects }
      | some (xs, seed) =>
        if rising then
          (crossingSensed rising m s).modPl fun p =>
            let run := if seed then 1 else min 16 (p.goodRun + 1)
            { p with rising := xs, goodRun := run, badRun := 0, locked := p.locked || decide (16 ≤ run) }
        else (crossingSensed rising m s).modPl fun p => { p with falling := xs } :=
    if_neg (by rw [hon]; decide)
  rw [hjudged]
  cases (crossingSensed rising m s).judgeCrossing rising time with
  | none => rfl
  | some r =>
    obtain ⟨xs, seed⟩ := r
    unfold crossingJudged State.crossed State.modPl
    dsimp only
    rw [locked_of_run]

/-- The half-cycle that a crossing ends is kept where the tracker is locked. -/
theorem senseHalf_eq (rising : Bool) (half : Option Half) (s : State) :
    s.senseHalf rising half = { s with pl := { s.pl with
      sensed := match half with
        | none => []
        | some h => if s.pl.locked then (((!rising), s.pulseIn (!rising) h) ::
            (if s.pl.sensed.head?.map Prod.fst = some (!rising) then [] else s.pl.sensed)).take 15 else [] } } := by
  cases half with
  | none => rfl
  | some h =>
    unfold State.senseHalf
    dsimp only
    split <;> rfl

theorem stamp18_eq (stop : Nat × Nat) (s : State) : s.stamp18 stop = { s with
    ac := { s.ac with gate18 := gateLast 16 (gateStops [stop] s.ac.gate18) }
    pl := { s.pl with
      period18 := ((s.period18Of (gateLast 16 (gateStops [stop] s.ac.gate18))).map fun p => (p, s.frame.number)).or s.pl.period18 } } := by
  unfold State.stamp18
  dsimp only
  cases s.period18Of (gateLast 16 (gateStops [stop] s.ac.gate18)) <;> rfl

theorem crossingSensed_of_unstamped {rising : Bool} {m : CrossingMeas} {s : State}
    (h : m.input18 = none ∨ rising = false ∨ (s.pwr.dom 2).on = false) : crossingSensed rising m s = s.senseHalf rising m.half := by
  unfold crossingSensed
  cases hstop : m.input18 with
  | none => rfl
  | some stop =>
    rw [hstop] at h
    refine if_neg ?_
    rw [senseHalf_eq, Bool.and_eq_true]
    rintro ⟨hrising, hdom⟩
    obtain h | h | h := h
    · exact Option.some_ne_none _ h
    · exact Bool.false_ne_true (h.symm.trans hrising)
    · exact Bool.false_ne_true (h.symm.trans hdom)

theorem crossingSensed_of_stop {m : CrossingMeas} {s : State} {stop : Nat × Nat} (hstop : m.input18 = some stop)
    (hdom : (s.pwr.dom 2).on = true) : crossingSensed true m s = (s.senseHalf true m.half).stamp18 stop := by
  unfold crossingSensed
  rw [hstop]
  refine if_pos ?_
  rw [senseHalf_eq]
  exact hdom

/-- The state in which a crossing is judged, by what it brings. -/
theorem crossingSensed_eq {rising : Bool} {m : CrossingMeas} {s w u : State}
    (hw : w = { s with pl := { s.pl with
      sensed := match m.half with
        | none => []
        | some h => if s.pl.locked then (((!rising), s.pulseIn (!rising) h) ::
            (if s.pl.sensed.head?.map Prod.fst = some (!rising) then [] else s.pl.sensed)).take 15 else [] } })
    (hplain : m.input18 = none ∨ rising = false ∨ (s.pwr.dom 2).on = false → u = w)
    (hstamp : ∀ stop : Nat × Nat, m.input18 = some stop → rising = true → (s.pwr.dom 2).on = true →
      u = { w with
        ac := { s.ac with gate18 := gateLast 16 (gateStops [stop] s.ac.gate18) }
        pl := { w.pl with
          period18 := ((s.period18Of (gateLast 16 (gateStops [stop] s.ac.gate18))).map fun p => (p, s.frame.number)).or s.pl.period18 } }) :
    crossingSensed rising m s = u := by
  have hsensed : s.senseHalf rising m.half = w := (senseHalf_eq rising m.half s).trans hw.symm
  by_cases hunstamped : m.input18 = none ∨ rising = false ∨ (s.pwr.dom 2).on = false
  · rw [crossingSensed_of_unstamped hunstamped, hplain hunstamped, hsensed]
  · simp only [not_or, Bool.not_eq_false] at hunstamped
    obtain ⟨hstop, rfl, hdom⟩ := hunstamped
    obtain ⟨stop, hstop⟩ := Option.ne_none_iff_exists'.1 hstop
    rw [crossingSensed_of_stop hstop hdom, hstamp stop hstop rfl hdom, hsensed, stamp18_eq, hw]
    rfl

theorem crossingSensed_keeps (rising : Bool) (m : CrossingMeas) (s : State) :
    (crossingSensed rising m s).pl.tx = s.pl.tx ∧ (crossingSensed rising m s).set = s.set := by
  unfold crossingSensed
  cases m.input18 with
  | none => rw [senseHalf_eq]; exact ⟨rfl, rfl⟩
  | some stop =>
    dsimp only
    split
    · rw [stamp18_eq, senseHalf_eq]; exact ⟨rfl, rfl⟩
    · rw [senseHalf_eq]; exact ⟨rfl, rfl⟩

/-! ### A missing or rejected rising crossing -/

theorem badCrossing_of_few {v : State} (h : v.pl.badRun < 7) :
    v.badCrossing = { v with pl := { v.pl with badRun := v.pl.badRun + 1, goodRun := 0 } } :=
  if_pos (by omega)

theorem badCrossing_of_many {v : State} (h : 7 ≤ v.pl.badRun) : v.badCrossing = v.plUnlock := if_neg (by omega)

/-- An unlock with no transmission discards the fits (R503). -/
theorem plUnlock_of_silent {v : State} (h : v.pl.tx = none) : v.plUnlock = { v with pl := v.pl.unlocked } := by
  unfold State.plUnlock State.modPl Powerline.unlocked
  simp [h]

/-- An unlock withdraws the transmission and counts it, and its edits apply (R503, R526, R527). -/
theorem plUnlock_of_sending {v : State} (h : v.pl.tx ≠ none) :
    v.plUnlock = ({ v with pl := v.pl.unlocked } : State).plEdits.plRest := by
  obtain ⟨x, hx⟩ := Option.ne_none_iff_exists'.1 h
  unfold State.plUnlock State.plRefuse State.modPl Powerline.unlocked Powerline.silent
  simp [hx, satInc]

/-- With the link enabled and no edit that waits, an unlock is no more than that. -/
theorem plUnlock_of_unedited {v : State} (hon : bitAt (v.on_ 0x1900 1) 7 = true) (hedits : ∀ e ∈ v.set.edits, e.due ≠ .txEnd) :
    v.plUnlock = { v with pl := v.pl.unlocked } := by
  by_cases h : v.pl.tx = none
  · exact plUnlock_of_silent h
  · rw [plUnlock_of_sending h, plEdits_of_none (s := { v with pl := v.pl.unlocked }) hedits]
    exact plRest_of_enabled (s := { v with pl := v.pl.unlocked }) hon

/-- A missing crossing counts, where the tracker has one to predict it from. -/
theorem plCrossingMissed_of_rising {s : State} (hon : s.plOn = true) (h : s.pl.rising ≠ []) :
    plCrossingMissed s = ({ s with pl := { s.pl with sensed := [] } } : State).badCrossing :=
  if_pos (by simp [hon, h])

/-! ### Pulses -/

theorem plTransmitPulse_of_undue {cyc : Nat} {s : State} (h : s.pulseDue (s.frame.base + 8 * cyc) = false) :
    plTransmitPulse cyc s = s := by
  unfold plTransmitPulse
  cases s.pl.tx with
  | none => rfl
  | some x => exact if_neg (Bool.eq_false_iff.1 h)

theorem pulseDue_iff (s : State) (start : Nat) : s.pulseDue start = true ↔
    s.plOn = true ∧ s.pl.locked = true ∧ ∃ p, s.nextPulse = some p ∧ p ≤ start + usNow 20 ∧ start ≤ p + usNow 20 := by
  unfold State.pulseDue
  cases s.nextPulse <;> simp [and_assoc]

/-- The state in which the next pulse has started, not counted. -/
def pulseStarted (cyc : Nat) (x : PlTx) (after : Nat) (s : State) : State := { s with
  frame := { s.frame.at_ cyc with pulsesSent := s.frame.pulsesSent + 1 }
  pl := { s.pl with ple := true, pulseAt := some (s.frame.base + 8 * cyc), tx := some { x with sent := x.sent + 1, after := after } } }

theorem plTransmitPulse_of_due {cyc : Nat} {x : PlTx} {s : State} (hx : s.pl.tx = some x)
    (h : s.pulseDue (s.frame.base + 8 * cyc) = true) : ∃ after, CountsOnly (pulseStarted cyc x after s) (plTransmitPulse cyc s) := by
  unfold plTransmitPulse
  rw [hx]
  dsimp only
  rw [if_pos h]
  exact ⟨_, CountsOnly_count _ _⟩

/-! ### The end of a transmission -/

/-- The last pulse has been sent, and PLE falls in this frame. -/
def transmissionDue (s : State) (x : PlTx) : Bool :=
  x.admitted && decide (x.sent = x.halves.length) && (!s.frame.running || decide (s.pleFall ≤ s.frame.endCyc))

/-- The state in which the transmission is over, not counted. -/
def transmissionOver (s : State) : State := { s with
  frame := s.frame.at_ s.pleFall
  pl := { s.pl.silent with txFrames := satInc (2 ^ 32 - 1) s.pl.txFrames } }

theorem transmissionOver_of_last {s : State} (hnext : s.pl.txNext = none) : transmissionOver s = { s with
    frame := s.frame.at_ s.pleFall
    pl := { s.pl with tx := none, pulseAt := none, ple := false, txFrames := min (2 ^ 32 - 1) (s.pl.txFrames + 1) } } := by
  simp only [transmissionOver, Powerline.silent, hnext, satInc]

theorem plTransmissionEnd_of_none {s : State} (h : s.pl.tx = none) : plTransmissionEnd s = s := by
  unfold plTransmissionEnd
  rw [h]

theorem plTransmissionEnd_of_undue {s : State} {x : PlTx} (hx : s.pl.tx = some x) (h : transmissionDue s x = false) : plTransmissionEnd s = s := by
  unfold plTransmissionEnd
  rw [hx]
  exact if_neg (Bool.eq_false_iff.1 h)

theorem plTransmissionEnd_of_last {s : State} {x : PlTx} (hx : s.pl.tx = some x) (h : transmissionDue s x = true) (hnext : s.pl.txNext = none) :
    plTransmissionEnd s = ((transmissionOver s).count [linkAct 0x61 1]).plEdits.plRest := by
  unfold plTransmissionEnd
  rw [hx]
  refine (if_pos h).trans ?_
  dsimp only
  rw [hnext]
  rfl

/-- The POLL after a wake pattern follows (R519). -/
theorem plTransmissionEnd_of_next {s : State} {x n : PlTx} (hx : s.pl.tx = some x) (h : transmissionDue s x = true)
    (hnext : s.pl.txNext = some n) :
    plTransmissionEnd s = (((transmissionOver s).count [linkAct 0x61 1]).modPl fun p => { p with tx := some n }).plAdmit := by
  unfold plTransmissionEnd
  rw [hx]
  refine (if_pos h).trans ?_
  dsimp only
  rw [hnext]
  rfl

/-- A transmission that is considered is admitted where the link is locked and its pulses have room (R525). -/
theorem plAdmit_of_waiting {s : State} {n : PlTx} (hn : s.pl.tx = some n) (hwaits : n.admitted = false) :
    ∃ y, y.bytes = n.bytes ∧ y.sent = n.sent ∧ y.halves = n.halves ∧ y.admitted = (s.pl.locked && s.admitsPulses) ∧
      s.plAdmit = s.modPl fun p => { p with tx := some y } := by
  unfold State.plAdmit
  rw [hn]
  dsimp only
  by_cases hroom : (s.pl.locked && s.admitsPulses) = true
  · rw [if_neg (by simp [hwaits, Bool.and_eq_true] at hroom ⊢; exact hroom)]
    exact ⟨{ n with admitted := true, after := max n.after (s.plAfter 1) }, rfl, rfl, rfl, hroom.symm, rfl⟩
  · have hroom' := Bool.eq_false_iff.2 hroom
    rw [if_pos (by cases hl : s.pl.locked <;> simp_all)]
    refine ⟨n, rfl, rfl, rfl, hwaits.trans hroom'.symm, ?_⟩
    unfold State.modPl
    rw [← hn]

/-- Settles O53, from how a crossing is judged (`judgeCrossing_near`, `judgeCrossing_onLine` and their like), what an unlock discards
(`plUnlock_of_sending`), and how a transmission ends (`plTransmissionEnd_of_last`, `plTransmissionEnd_of_next`). -/
theorem crossingsAndPulsesOfTheMains : Obligations.CrossingsAndPulsesOfTheMains := by
  unfold Obligations.CrossingsAndPulsesOfTheMains
  refine ⟨fun rising time m s => ⟨fun hoff => ?_, fun hoff => ?_⟩, fun rising time m s w u hon hw hplain hstamp => ?_,
    fun cyc s => ⟨fun hundue => ?_, fun p x hon hlocked hx hp hlow hhigh => ?_⟩,
    fun s => ⟨fun hundue => ?_, fun x hx hadmitted hsent hfall => ⟨fun hlast => ?_, fun n hn hwaits => ?_⟩⟩⟩
  · have hstill : plZeroCrossing rising time m.input18 m.half s = s := if_pos (by rw [hoff]; rfl)
    exact congrArg Host.Outcome.next hstill
  · have hstill : plCrossingMissed s = s := by
      refine if_neg ?_
      obtain h | h := hoff <;> simp [h]
    exact congrArg Host.Outcome.next hstill
  · have hsensed := crossingSensed_eq hw hplain hstamp
    have hexec : ∀ r, u.judgeCrossing rising time = r →
        exec (.plZeroCrossing rising time m) s = .next (crossingJudged rising u r) := by
      rintro r rfl
      rw [← hsensed]
      exact congrArg Host.Outcome.next (plZeroCrossing_eq rising time m hon)
    refine ⟨fun hfirst => hexec _ (judgeCrossing_first time hfirst), fun l hshort hlast => ?_, fun p a last hline => ⟨?_, ?_⟩,
      fun c v hbad => ?_⟩
    · have hline : u.zcLine rising = none := hshort.elim zcLine_of_short id
      exact ⟨fun hnear => hexec _ (judgeCrossing_near time hline hlast hnear), fun hfar => hexec _ (judgeCrossing_seed time hline hlast hfar)⟩
    · exact fun n hp hafter hnear => hexec _ (judgeCrossing_onLine time hline hp hafter hnear)
    · rintro hfar rfl
      exact hexec _ (judgeCrossing_offLine time hline hfar)
    · have hbad' : exec c s = .next v.badCrossing ∧ v.pl.tx = s.pl.tx ∧ v.set = s.set := by
        obtain ⟨rfl, hrising, rfl⟩ | ⟨rfl, rfl, ⟨p, a, last, hline, hfar⟩, rfl⟩ := hbad
        · exact ⟨congrArg Host.Outcome.next (plCrossingMissed_of_rising hon hrising), rfl, rfl⟩
        · exact ⟨hexec _ (judgeCrossing_offLine time hline hfar), hsensed ▸ crossingSensed_keeps true m s⟩
      obtain ⟨hdone, htx, hset⟩ := hbad'
      have hon' : bitAt (v.on_ 0x1900 1) 7 = true := by
        rw [State.on_, State.eff, hset]
        exact enabled_of_plOn hon
      rw [hdone]
      refine ⟨fun hfew => congrArg _ (badCrossing_of_few hfew), fun hmany => ?_⟩
      rw [badCrossing_of_many hmany]
      refine ⟨fun hsilent => congrArg _ (plUnlock_of_silent (htx.trans hsilent)),
        fun hsending => congrArg _ (plUnlock_of_sending (by rwa [htx])),
        fun hedits => congrArg _ (plUnlock_of_unedited hon' (by rwa [hset]))⟩
  · have hundue' : s.pulseDue (s.frame.base + 8 * cyc) = false := by
      rw [Bool.eq_false_iff, ne_eq, pulseDue_iff]
      rintro ⟨hon, hlocked, p, hp, hlow, hhigh⟩
      obtain h | h | h | ⟨q, hq, h⟩ := hundue
      · exact Bool.false_ne_true (h.symm.trans hon)
      · exact Bool.false_ne_true (h.symm.trans hlocked)
      · exact Option.some_ne_none _ (hp.symm.trans h)
      · obtain rfl : p = q := Option.some.inj (hp.symm.trans hq)
        omega
    exact congrArg Host.Outcome.next (plTransmitPulse_of_undue hundue')
  · obtain ⟨after, hcounts⟩ := plTransmitPulse_of_due hx ((pulseDue_iff s _).2 ⟨hon, hlocked, p, hp, hlow, hhigh⟩)
    have hpl := CountsOnly_pl hcounts
    refine ⟨_, rfl, ⟨after, ?_⟩, ?_, ?_⟩
    · rw [hpl]
      rfl
    · rw [hpl]
      rfl
    · rw [hpl]
      exact hcounts
  · have hstill : plTransmissionEnd s = s := by
      obtain h | ⟨x, hx, h⟩ | ⟨hrunning, hlate⟩ := hundue
      · exact plTransmissionEnd_of_none h
      · refine plTransmissionEnd_of_undue hx ?_
        obtain h | h := h <;> simp [transmissionDue, h]
      · cases hx : s.pl.tx with
        | none => exact plTransmissionEnd_of_none hx
        | some x => exact plTransmissionEnd_of_undue hx (by simp [transmissionDue, hrunning, hlate])
    exact congrArg Host.Outcome.next hstill
  · have hdue : transmissionDue s x = true := by
      obtain h | h := hfall <;> simp [transmissionDue, hadmitted, hsent, h]
    have hcounts := CountsOnly_count [linkAct 0x61 1] (transmissionOver s)
    refine ⟨(transmissionOver s).count [linkAct 0x61 1], ?_, ?_, fun hon hedits => ?_⟩
    · rw [← transmissionOver_of_last hlast]
      exact hcounts
    · exact congrArg Host.Outcome.next (plTransmissionEnd_of_last hx hdue hlast)
    · rw [plEdits_of_none (by rw [count_set]; exact hedits)]
      exact plRest_of_enabled (by rw [State.on_, CountsOnly_eff hcounts]; exact enabled_of_plOn hon)
  · have hdue : transmissionDue s x = true := by
      obtain h | h := hfall <;> simp [transmissionDue, hadmitted, hsent, h]
    have hcounts := CountsOnly_modPl (CountsOnly_count [linkAct 0x61 1] (transmissionOver s)) fun p => { p with tx := some n }
    have hset : (((transmissionOver s).count [linkAct 0x61 1]).modPl fun p => { p with tx := some n }).set = s.set := by
      rw [modPl_set, count_set]
      rfl
    have hmode : (((transmissionOver s).count [linkAct 0x61 1]).modPl fun p => { p with tx := some n }).mode = s.mode := by
      rw [modPl_mode, count_mode]
      rfl
    have hlocked : (((transmissionOver s).count [linkAct 0x61 1]).modPl fun p => { p with tx := some n }).pl.locked = s.pl.locked := by
      rw [CountsOnly_pl hcounts]
      rfl
    obtain ⟨y, hbytes, hsent', -, hroom, hadmit⟩ := plAdmit_of_waiting
      (s := ((transmissionOver s).count [linkAct 0x61 1]).modPl fun p => { p with tx := some n }) rfl hwaits
    rw [hlocked, admitsPulses_of_settings hmode hset] at hroom
    have hend := (plTransmissionEnd_of_next hx hdue hn).trans hadmit
    have hcounts' := CountsOnly_modPl hcounts fun p => { p with tx := some y }
    rw [← hend] at hcounts'
    have hpl := CountsOnly_pl hcounts'
    refine ⟨_, rfl, ⟨y, ?_, hbytes, hsent', hroom⟩, ?_⟩
    · rw [hpl]
      rfl
    · rw [hpl]
      exact hcounts'

end Sys2Proof.Proofs
end

section
/-! PROOF. How a slave answers the POLLs of its masters: what serving a POLL prepares, what a REPLY keeps and sends, and the requests
that a POLL carries (R513, R514, R516 to R518, R520). -/

namespace Sys2Proof.Proofs

open Sys2Proof Sys2Proof.Machine Sys2Proof.Laws

/-! ### What serving a POLL prepares -/

/-- Before its REPLY a POLL has touched of the link only its own session, and the events that an earlier REPLY of it confirmed. -/
structure LinkPrepared (n : Nat) (p q : Powerline) : Prop where
  link : q = { p with sessions := q.sessions, events := q.events }
  others : ∀ m, m ≠ n → q.session m = p.session m
  length : q.sessions.length = p.sessions.length
  gen : (q.session n).gen = (p.session n).gen
  address : (q.session n).address = (p.session n).address

/-- Beside the link only counting and events change. -/
structure Prepared (n : Nat) (s t : State) : Prop extends LinkPrepared n s.pl t.pl where
  rest : CountsOnly { s with pl := t.pl } t

theorem LinkPrepared_refl (n : Nat) (p : Powerline) : LinkPrepared n p p := ⟨rfl, fun _ _ => rfl, rfl, rfl, rfl⟩

theorem LinkPrepared_trans {n : Nat} {p q r : Powerline} (h1 : LinkPrepared n p q) (h2 : LinkPrepared n q r) : LinkPrepared n p r where
  link := by rw [h2.link, h1.link]
  others m hm := (h2.others m hm).trans (h1.others m hm)
  length := h2.length.trans h1.length
  gen := h2.gen.trans h1.gen
  address := h2.address.trans h1.address

/-- Changing the POLL's own session, but for its GEN and its partner. -/
theorem LinkPrepared_modSession {n : Nat} {p : Powerline} (f : PlSession → PlSession) (hn : n < p.sessions.length)
    (hgen : (f (p.session n)).gen = (p.session n).gen) (haddress : (f (p.session n)).address = (p.session n).address) :
    LinkPrepared n p (p.modSession n f) where
  link := rfl
  others _ hm := session_modSession_other p f hm
  length := modSession_length p n f
  gen := (congrArg PlSession.gen (session_modSession_same f hn)).trans hgen
  address := (congrArg PlSession.address (session_modSession_same f hn)).trans haddress

theorem CountsOnly_withPl {u t : State} (h : CountsOnly u t) (p : Powerline) : CountsOnly { u with pl := p } { t with pl := p } := by
  unfold CountsOnly
  rw [h]

theorem Prepared_refl (n : Nat) (s : State) : Prepared n s s := ⟨LinkPrepared_refl n s.pl, rfl⟩

theorem Prepared_trans {n : Nat} {s u t : State} (h1 : Prepared n s u) (h2 : Prepared n u t) : Prepared n s t where
  toLinkPrepared := LinkPrepared_trans h1.toLinkPrepared h2.toLinkPrepared
  rest := CountsOnly_trans (CountsOnly_withPl h1.rest t.pl) h2.rest

theorem Prepared_of_CountsOnly {u t : State} (n : Nat) (h : CountsOnly u t) : Prepared n u t where
  toLinkPrepared := by
    rw [CountsOnly_pl h]
    exact LinkPrepared_refl n u.pl
  rest := by
    rw [CountsOnly_pl h]
    exact h

theorem Prepared_modSession {n : Nat} {s : State} (f : PlSession → PlSession) (hn : n < s.pl.sessions.length)
    (hgen : (f (s.pl.session n)).gen = (s.pl.session n).gen) (haddress : (f (s.pl.session n)).address = (s.pl.session n).address) :
    Prepared n s (s.modPl fun p => p.modSession n f) :=
  ⟨LinkPrepared_modSession f hn hgen haddress, rfl⟩

theorem confirm_session {n : Nat} {s : State} (hn : n < s.pl.sessions.length) :
    (s.confirm n).pl.session n = { s.pl.session n with told := 0 } :=
  session_modSession_same _ hn

theorem confirm_events (n : Nat) (s : State) : (s.confirm n).pl.events = s.confirmed n := rfl

theorem Prepared_confirm {n : Nat} {s : State} (hn : n < s.pl.sessions.length) : Prepared n s (s.confirm n) where
  rest := rfl
  link := rfl
  others _ hm := session_modSession_other s.pl _ hm
  length := modSession_length s.pl n _
  gen := (congrArg PlSession.gen (confirm_session hn)).trans rfl
  address := (congrArg PlSession.address (confirm_session hn)).trans rfl

/-! ### What a REPLY leaves -/

/-- A REPLY has been kept in its session and sent, or counted as refused, and its POLL has left the queue. -/
structure Replied (b : List Nat) (n told : Nat) (payload : List Nat) (s t : State) : Prop where
  session : t.pl.session n = { s.pl.session n with tog := frameTog b, reply := some payload, told := told }
  others : ∀ m, m ≠ n → t.pl.session m = s.pl.session m
  inbox : t.pl.inbox = s.pl.inbox.drop 1
  events : t.pl.events = s.pl.events
  sent : s.Sent b n payload t
  link : Answered s.pl t.pl
  rest : t = { s with pl := t.pl }

/-- A REPLY in pair p + 2 is admitted whole or counted as refused (R513, R526). -/
theorem plSendReply_eq (bytes : List Nat) (s : State) : s.plSendReply bytes =
    if s.pl.tx = none ∧ s.pl.locked = true ∧ s.admitsPulses = true then
      s.modPl fun p => { p with tx := some { s.plFrameTx bytes 2 with admitted := true } }
    else s.modPl fun p => { p with refused := satInc (2 ^ 32 - 1) p.refused } := by
  have hfree : (s.pl.tx.isNone && s.pl.locked && s.admitsPulses) = true ↔
      s.pl.tx = none ∧ s.pl.locked = true ∧ s.admitsPulses = true := by simp [and_assoc]
  unfold State.plSendReply
  simp only [hfree]

/-- The state in which a REPLY is kept and its POLL has left the queue. -/
def replyKept (b : List Nat) (n told : Nat) (payload : List Nat) (s : State) : State :=
  s.modPl fun p => p.popped.modSession n fun y => { y with tog := frameTog b, reply := some payload, told := told }

theorem plReplyNow_replied (b : List Nat) {n : Nat} (told : Nat) (payload : List Nat) {s : State} (hn : n < s.pl.sessions.length) :
    Replied b n told payload s (s.plReplyNow b n told payload) := by
  have hsame : (replyKept b n told payload s).pl.session n =
      { s.pl.session n with tog := frameTog b, reply := some payload, told := told } := session_modSession_same (p := s.pl.popped) _ hn
  have hother : ∀ m, m ≠ n → (replyKept b n told payload s).pl.session m = s.pl.session m :=
    fun m hm => session_modSession_other s.pl.popped _ hm
  by_cases hroom : s.pl.tx = none ∧ s.pl.locked = true ∧ s.admitsPulses = true
  · have hreply : s.plReplyNow b n told payload = (replyKept b n told payload s).modPl fun p => { p with
        tx := some { (replyKept b n told payload s).plFrameTx ([(s.pl.session n).gen % 16 * 16 + 1, frameTog b * 128 + payload.length] ++
          leBytes 2 (s.pl.session n).address ++ leBytes 2 s.plAddress ++ payload) 2 with admitted := true } } :=
      (plSendReply_eq _ (replyKept b n told payload s)).trans (if_pos hroom)
    rw [hreply]
    exact ⟨hsame, hother, rfl, rfl, (if_pos hroom).mpr ⟨rfl, _, rfl, rfl, rfl, rfl⟩, rfl, rfl⟩
  · have hreply : s.plReplyNow b n told payload =
        (replyKept b n told payload s).modPl fun p => { p with refused := satInc (2 ^ 32 - 1) p.refused } :=
      (plSendReply_eq _ (replyKept b n told payload s)).trans (if_neg hroom)
    rw [hreply]
    exact ⟨hsame, hother, rfl, rfl, (if_neg hroom).mpr ⟨rfl, rfl⟩, rfl, rfl⟩

/-- What of a REPLY a POLL that prepared for it leaves. -/
structure Served (b : List Nat) (n told : Nat) (payload : List Nat) (s u t : State) : Prop where
  kept : s.Kept b n told payload t
  sent : s.Sent b n payload t
  link : Answered s.pl t.pl
  session : t.pl.session n = { u.pl.session n with tog := frameTog b, reply := some payload, told := told }
  events : t.pl.events = u.pl.events
  counts : CountsOnly { s with pl := t.pl } t
  exact_ : u = { s with pl := u.pl } → t = { s with pl := t.pl }

theorem CountsOnly_settings {u t : State} (h : CountsOnly u t) : t.mode = u.mode ∧ t.set = u.set := by
  rw [h]
  exact ⟨rfl, rfl⟩

theorem Sent_of_prepared {b : List Nat} {n : Nat} {payload : List Nat} {s u t : State} (hu : Prepared n s u)
    (ht : u.Sent b n payload t) : s.Sent b n payload t := by
  have htx : u.pl.tx = s.pl.tx := (congrArg Powerline.tx hu.link).trans rfl
  have hlocked : u.pl.locked = s.pl.locked := (congrArg Powerline.locked hu.link).trans rfl
  have hrefused : u.pl.refused = s.pl.refused := (congrArg Powerline.refused hu.link).trans rfl
  obtain ⟨hmode, hset⟩ := CountsOnly_settings hu.rest
  have hroom : u.admitsPulses = s.admitsPulses := admitsPulses_of_settings hmode hset
  have haddress : u.plAddress = s.plAddress := by
    unfold State.plAddress State.on_ State.eff
    rw [hset]
  unfold State.Sent at ht ⊢
  rwa [htx, hlocked, hrefused, hroom, haddress, hu.gen, hu.address] at ht

theorem Answered_of_prepared {b : List Nat} {n told : Nat} {payload : List Nat} {s u t : State} (hu : Prepared n s u)
    (ht : Replied b n told payload u t) : Answered s.pl t.pl := by
  have h := ht.link
  unfold Answered at h ⊢
  rw [h, hu.link]

theorem Kept_of_replied {b : List Nat} {n told : Nat} {payload : List Nat} {s u t : State} (hu : LinkPrepared n s.pl u.pl)
    (ht : Replied b n told payload u t) : s.Kept b n told payload t :=
  ⟨by rw [ht.inbox, hu.link], by rw [ht.session], by rw [ht.session], by rw [ht.session],
    fun m hm => (ht.others m hm).trans (hu.others m hm)⟩

theorem Served_of_replied {b : List Nat} {n told : Nat} {payload : List Nat} {s u t : State} (hu : Prepared n s u)
    (ht : Replied b n told payload u t) : Served b n told payload s u t where
  kept := Kept_of_replied hu.toLinkPrepared ht
  sent := Sent_of_prepared hu ht.sent
  link := Answered_of_prepared hu ht
  session := ht.session
  events := ht.events
  counts := by
    have h := CountsOnly_withPl hu.rest t.pl
    rwa [← ht.rest] at h
  exact_ h := by
    rw [ht.rest, h]

/-- A REPLY to a POLL that has prepared for it. -/
theorem plReplyNow_served (b : List Nat) {n : Nat} (told : Nat) (payload : List Nat) {s u : State} (hu : Prepared n s u)
    (hn : n < s.pl.sessions.length) : Served b n told payload s u (u.plReplyNow b n told payload) :=
  Served_of_replied hu (plReplyNow_replied b told payload (hu.length ▸ hn))

/-- A finished response is delivered: its session waits for none. -/
theorem plDeliver_served (b : List Nat) {n : Nat} (r : List Nat) {s u : State} (hu : Prepared n s u) (hn : n < s.pl.sessions.length) :
    Served b n 0 r s (u.modPl fun p => p.modSession n fun x => { x with wait := .none }) (u.plDeliver b n r) :=
  plReplyNow_served b 0 r (Prepared_trans hu (Prepared_modSession _ (hu.length ▸ hn) rfl rfl)) hn

/-! ### Which POLL is served, and how -/

section
variable {op : Nat} {new : List Nat → Nat → State → State} {b : List Nat} {n : Nat} {s : State}

theorem servePoll_of_idle (h : s.plOn = false ∨ s.frontPoll = none ∨ ∃ b n, s.frontPoll = some (b, n) ∧ natAt (framePayload b) 0 ≠ op) :
    s.servePoll op new = s := by
  unfold State.servePoll
  cases hfront : s.frontPoll with
  | none => rfl
  | some x =>
    obtain ⟨b, n⟩ := x
    refine if_pos ?_
    obtain h | h | ⟨c, m, hc, h⟩ := h
    · simp [h]
    · exact absurd (hfront.symm.trans h) (Option.some_ne_none _)
    · obtain ⟨rfl, rfl⟩ := Prod.mk.inj (Option.some.inj (hfront.symm.trans hc))
      simp [h]

/-- What serving the POLL at the front comes to. -/
def pollServed (op : Nat) (new : List Nat → Nat → State → State) (b : List Nat) (n : Nat) (again : Bool) (s : State) : State :=
  match (s.pl.session n).wait with
  | .ready r => (if again then s else s.confirm n).plDeliver b n r
  | .busy _ _ =>
    if op ≠ 1 then (if again then s else s.confirm n)
    else if again then s.plReplyNow b n (s.pl.session n).told ((s.pl.session n).reply.getD []) else new b n (s.confirm n)
  | .none =>
    if again then s.plReplyNow b n (s.pl.session n).told ((s.pl.session n).reply.getD [])
    else if (s.pl.session n).gen < frameGen b then (s.confirm n).plReplyNow b n 0 (plReply op (pollSeg b) abortGeneration 0 0 [])
    else new b n (s.confirm n)

theorem servePoll_eq (hon : s.plOn = true) (hfront : s.frontPoll = some (b, n)) (hop : natAt (framePayload b) 0 = op) :
    s.servePoll op new = pollServed op new b n ((s.pl.session n).reply.isSome && (s.pl.session n).tog == frameTog b) s := by
  unfold State.servePoll
  rw [hfront]
  dsimp only
  rw [if_neg (by simp [hon, hop])]
  unfold pollServed
  cases ((s.pl.session n).reply.isSome && (s.pl.session n).tog == frameTog b) <;> rfl

end

theorem frontPoll_lt {b : List Nat} {n : Nat} {s : State} (h : s.frontPoll = some (b, n)) : n < 24 := by
  unfold State.frontPoll at h
  split at h
  · exact absurd h.symm (Option.some_ne_none _)
  · split at h
    · exact absurd h.symm (Option.some_ne_none _)
    · obtain ⟨m, hm, he⟩ := Option.map_eq_some_iff.1 h
      obtain ⟨-, rfl⟩ := Prod.mk.inj he
      exact List.mem_range.1 (List.mem_of_find?_eq_some hm)

/-- The POLL repeats the one whose REPLY is kept. -/
theorem again_of_same {x : PlSession} {r : List Nat} {tog : Nat} (hr : x.reply = some r) (htog : x.tog = tog) :
    (x.reply.isSome && x.tog == tog) = true := by
  simp [hr, htog]

theorem again_of_new {x : PlSession} {tog : Nat} (h : x.reply = none ∨ x.tog ≠ tog) : (x.reply.isSome && x.tog == tog) = false := by
  obtain h | h := h <;> simp [h]

/-- A POLL that is a new one goes to what its OP asks, with the events of the REPLY before confirmed. -/
theorem servePoll_new {op : Nat} {new : List Nat → Nat → State → State} {b : List Nat} {n : Nat} {s : State}
    (h : s.pollToServe op n b) : s.servePoll op new = new b n (s.confirm n) := by
  obtain ⟨hon, hlen, hfront, hop, hwait, hnew, hgen⟩ := h
  rw [servePoll_eq hon hfront hop, again_of_new hnew, pollServed, hwait]
  exact if_neg (Nat.not_lt.2 hgen)

theorem lt_of_pollToServe {op n : Nat} {b : List Nat} {s : State} (h : s.pollToServe op n b) : n < s.pl.sessions.length := by
  obtain ⟨-, hlen, hfront, -⟩ := h
  rw [hlen]
  exact frontPoll_lt hfront

end Sys2Proof.Proofs
end

section
/-! PROOF. The answers of a slave, POLL by POLL: STATUS, READ and READ_NEXT, WRITE and WRITE_MORE, and the deadline of a REPLY (R513,
R514, R516 to R518, R520). -/

namespace Sys2Proof.Proofs

open Sys2Proof Sys2Proof.Machine Sys2Proof.Laws

/-! ### Repeats, finished and pending responses -/

section
variable {op : Nat} {new : List Nat → Nat → State → State} {b : List Nat} {n : Nat} {s : State} (hon : s.plOn = true)
  (hfront : s.frontPoll = some (b, n)) (hop : natAt (framePayload b) 0 = op)
include hon hfront hop

/-- A POLL whose TOG is that of the kept REPLY has it again (R514). -/
theorem servePoll_again {r : List Nat} (hwait : (s.pl.session n).wait = .none ∨ op = 1 ∧ ∃ o g, (s.pl.session n).wait = .busy o g)
    (hr : (s.pl.session n).reply = some r) (htog : (s.pl.session n).tog = frameTog b) :
    s.servePoll op new = s.plReplyNow b n (s.pl.session n).told r := by
  rw [servePoll_eq hon hfront hop, again_of_same hr htog, pollServed]
  obtain hwait | ⟨rfl, o, g, hwait⟩ := hwait
  · simp only [hwait, hr, if_true, Option.getD_some]
  · simp only [hwait, hr, if_true, Option.getD_some]
    rfl

/-- A finished response goes first (R517). -/
theorem servePoll_ready {r : List Nat} (hlen : s.pl.sessions.length = 24) (hwait : (s.pl.session n).wait = .ready r) :
    ∃ u, Prepared n s u ∧ u = { s with pl := u.pl } ∧ s.servePoll op new = u.plDeliver b n r := by
  have hn : n < s.pl.sessions.length := hlen ▸ frontPoll_lt hfront
  rw [servePoll_eq hon hfront hop, pollServed, hwait]
  cases (s.pl.session n).reply.isSome && (s.pl.session n).tog == frameTog b with
  | true => exact ⟨s, Prepared_refl n s, rfl, rfl⟩
  | false => exact ⟨s.confirm n, Prepared_confirm hn, rfl, rfl⟩

/-- A response that is not ready is awaited, but of a STATUS POLL (R517). -/
theorem servePoll_pending {o g : Nat} (hlen : s.pl.sessions.length = 24) (hnot : op ≠ 1) (hwait : (s.pl.session n).wait = .busy o g) :
    ∃ u, Prepared n s u ∧ u = { s with pl := u.pl } ∧ (u.pl.session n).wait = .busy o g ∧ s.servePoll op new = u := by
  have hn : n < s.pl.sessions.length := hlen ▸ frontPoll_lt hfront
  rw [servePoll_eq hon hfront hop, pollServed, hwait]
  dsimp only
  rw [if_pos hnot]
  cases (s.pl.session n).reply.isSome && (s.pl.session n).tog == frameTog b with
  | true => exact ⟨s, Prepared_refl n s, rfl, hwait, rfl⟩
  | false => exact ⟨s.confirm n, Prepared_confirm hn, rfl, (congrArg PlSession.wait (confirm_session hn)).trans hwait, rfl⟩

/-- A STATUS POLL is answered while a response is pending. -/
theorem servePoll_status_pending {o g : Nat} (hone : op = 1) (hwait : (s.pl.session n).wait = .busy o g)
    (hnew : (s.pl.session n).reply = none ∨ (s.pl.session n).tog ≠ frameTog b) : s.servePoll op new = new b n (s.confirm n) := by
  subst hone
  rw [servePoll_eq hon hfront hop, again_of_new hnew, pollServed, hwait]
  rfl

/-- A POLL of a GEN that the session does not know is refused (R520). -/
theorem servePoll_newer (hwait : (s.pl.session n).wait = .none)
    (hnew : (s.pl.session n).reply = none ∨ (s.pl.session n).tog ≠ frameTog b) (hgen : (s.pl.session n).gen < frameGen b) :
    s.servePoll op new = (s.confirm n).plReplyNow b n 0 (plReply op (pollSeg b) abortGeneration 0 0 []) := by
  rw [servePoll_eq hon hfront hop, again_of_new hnew, pollServed, hwait]
  exact if_pos hgen

end

/-- A kept REPLY that is sent again leaves the sessions as they are. -/
theorem sessions_of_again {b : List Nat} {n : Nat} {r : List Nat} {s : State} (hn : n < s.pl.sessions.length)
    (hr : (s.pl.session n).reply = some r) (htog : (s.pl.session n).tog = frameTog b) :
    (s.plReplyNow b n (s.pl.session n).told r).pl.sessions = s.pl.sessions := by
  have hsessions : (s.plReplyNow b n (s.pl.session n).told r).pl.sessions =
      modAt s.pl.sessions n fun y => { y with tog := frameTog b, reply := some r, told := (s.pl.session n).told } := by
    unfold State.plReplyNow State.plSendReply
    dsimp only
    split <;> rfl
  have hsame : ({ s.pl.session n with tog := frameTog b, reply := some r, told := (s.pl.session n).told } : PlSession) =
      s.pl.session n := by
    rw [← hr, ← htog]
  have hplace : s.pl.sessions[n]? = some (s.pl.session n) := by
    rw [Powerline.session, List.getD_eq_getElem?_getD, List.getElem?_eq_getElem hn, Option.getD_some]
  rw [hsessions]
  refine List.ext_getElem? fun m => ?_
  by_cases hm : m = n
  · rw [hm, modAt_getElem?_same _ hplace, hsame, hplace]
  · exact modAt_getElem?_other _ _ hm

/-! ### Requests -/

theorem answer_powerline {r : Request} {n abort : Nat} {data : List Nat} (hvia : r.via = .powerline n) (s : State) :
    s.answer r false abort data = (s.modPl fun p => p.modSession n (PlSession.answered abort data)).count [linkAct 0x63 1] := by
  unfold State.answer
  rw [hvia]
  rfl

/-- What the REPLY to a request shows of its answer. -/
def answeredReply (op seg abort : Nat) (data : List Nat) : List Nat :=
  if op = 2 then plReply op seg abort 0 (if abort = abortOk then data.length else 0) (data.take 16) else plReply op seg abort 0 0 []

theorem answered_wait {op seg : Nat} {x : PlSession} (h : x.wait = .busy op seg) (abort : Nat) (data : List Nat) :
    (x.answered abort data).wait = .ready (answeredReply op seg abort data) := by
  unfold PlSession.answered answeredReply
  rw [h]
  dsimp only
  split <;> rfl

/-- An answer changes of the session only its wait and, of a READ, its copy. -/
theorem answered_keeps (abort : Nat) (data : List Nat) (x : PlSession) :
    x.answered abort data = { x with wait := (x.answered abort data).wait, copy := (x.answered abort data).copy } := by
  unfold PlSession.answered
  split
  · split <;> rfl
  · rfl

theorem answered_copy {seg : Nat} {x : PlSession} (h : x.wait = .busy 2 seg) (data : List Nat) :
    (x.answered abortOk data).copy = some data := by
  unfold PlSession.answered
  rw [h]
  rfl

/-- The state in which a request waits for its answer. -/
def requestPending (b : List Nat) (n : Nat) (s : State) : State :=
  s.modPl fun p => p.modSession n fun x => { x with wait := .busy (natAt (framePayload b) 0) (pollSeg b) }

/-- The request that a POLL brings. -/
def pollRequest (s : State) (b : List Nat) (n op index sub : Nat) (data : List Nat) : Request :=
  s.asked (.powerline n) (frameGen b) op index sub 0 data

/-- An answer that is ready is delivered at once (R517). -/
theorem plRequest_of_answered {b : List Nat} {n op index sub abort : Nat} {data result : List Nat} {s u : State}
    (hn : n < u.pl.sessions.length)
    (hserved : (requestPending b n s).submit (pollRequest s b n op index sub data) =
      u.answer (pollRequest s b n op index sub data) false abort result)
    (hwait : (u.pl.session n).wait = .busy (natAt (framePayload b) 0) (pollSeg b)) :
    s.plRequest b n op index sub data = (u.answer (pollRequest s b n op index sub data) false abort result).plDeliver b n
      (answeredReply (natAt (framePayload b) 0) (pollSeg b) abort result) := by
  have hsession : ((u.answer (pollRequest s b n op index sub data) false abort result).pl.session n).wait =
      .ready (answeredReply (natAt (framePayload b) 0) (pollSeg b) abort result) := by
    rw [answer_powerline rfl, count_pl, modPl_pl, session_modSession_same _ hn, answered_wait hwait]
  have hrequest : s.plRequest b n op index sub data =
      match (((requestPending b n s).submit (pollRequest s b n op index sub data)).pl.session n).wait with
      | .ready r => ((requestPending b n s).submit (pollRequest s b n op index sub data)).plDeliver b n r
      | _ => (requestPending b n s).submit (pollRequest s b n op index sub data) := rfl
  rw [hrequest, hserved, hsession]

theorem Prepared_answer {r : Request} {n abort : Nat} {data : List Nat} {s : State} (hvia : r.via = .powerline n)
    (hn : n < s.pl.sessions.length) : Prepared n s (s.answer r false abort data) := by
  have hkeeps := answered_keeps abort data (s.pl.session n)
  rw [answer_powerline hvia]
  exact Prepared_trans (Prepared_modSession (PlSession.answered abort data) hn (by rw [hkeeps]) (by rw [hkeeps]))
    (Prepared_of_CountsOnly n (CountsOnly_count _ _))

theorem answer_session {r : Request} {n abort : Nat} {data : List Nat} {s : State} (hvia : r.via = .powerline n)
    (hn : n < s.pl.sessions.length) : ((s.answer r false abort data).pl.session n) = (s.pl.session n).answered abort data := by
  rw [answer_powerline hvia, count_pl, modPl_pl, session_modSession_same _ hn]

theorem pending_session {b : List Nat} {n : Nat} {s : State} (hn : n < s.pl.sessions.length) :
    (requestPending b n s).pl.session n = { s.pl.session n with wait := .busy (natAt (framePayload b) 0) (pollSeg b) } :=
  session_modSession_same _ hn

theorem Prepared_pending {b : List Nat} {n : Nat} {s : State} (hn : n < s.pl.sessions.length) : Prepared n s (requestPending b n s) :=
  Prepared_modSession _ hn rfl rfl

/-- A request that is answered without touching anything else is delivered with its answer. -/
theorem plRequest_served {b : List Nat} {n op index sub abort : Nat} {data result : List Nat} {s u : State} (hu : Prepared n s u)
    (hn : n < s.pl.sessions.length)
    (hserved : (requestPending b n u).submit (pollRequest u b n op index sub data) =
      (requestPending b n u).answer (pollRequest u b n op index sub data) false abort result) :
    ∃ v, Served b n 0 (answeredReply (natAt (framePayload b) 0) (pollSeg b) abort result) s v (u.plRequest b n op index sub data) ∧
      v.pl.session n = { (PlSession.answered abort result
        { u.pl.session n with wait := .busy (natAt (framePayload b) 0) (pollSeg b) }) with wait := .none } ∧
      v.pl.events = u.pl.events := by
  have hnu : n < u.pl.sessions.length := hu.length ▸ hn
  have hpending := Prepared_pending (b := b) hnu
  have hnp : n < (requestPending b n u).pl.sessions.length := hpending.length ▸ hnu
  have hwait := congrArg PlSession.wait (pending_session (b := b) hnu)
  have hanswer := Prepared_answer (r := pollRequest u b n op index sub data) (abort := abort) (data := result) rfl hnp
  have hsession := answer_session (r := pollRequest u b n op index sub data) (abort := abort) (data := result) rfl hnp
  rw [plRequest_of_answered hnp hserved hwait]
  refine ⟨_, plDeliver_served b _ (Prepared_trans hu (Prepared_trans hpending hanswer)) hn, ?_, ?_⟩
  · refine (session_modSession_same _ (hanswer.length ▸ hnp)).trans ?_
    rw [hsession, pending_session hnu]
  · show (State.answer _ _ _ _ _).pl.events = _
    rw [answer_powerline rfl, count_pl]
    rfl

/-- The request that a POLL brings is the one that its session asks (R516). -/
theorem pollRequest_prepared {b : List Nat} {n op index sub : Nat} {data : List Nat} {s u : State} (hu : Prepared n s u) :
    pollRequest u b n op index sub data = s.asked (.powerline n) (frameGen b) op index sub 0 data := by
  have hgen : u.sessionGen (.powerline n) = s.sessionGen (.powerline n) := hu.gen
  unfold pollRequest State.asked
  rw [hgen]

theorem serveNow_authenticated {s u : State} {r : Request} {a : Ask} (hform : s.formAbort r = abortOk)
    (hauth : s.authenticate r = (u, abortOk, a)) (hcustomer : customerIndex a.index = false) :
    s.serveNow r = if r.op = 1 then (u.afterRead a.via a.index a.sub).answer r false abortOk (u.readValue a.via a.gen a.index a.sub)
      else (u.write a).1.answer r false (u.write a).2 [] := by
  simp only [State.serveNow, hform, hauth, hcustomer, ne_eq, not_true_eq_false, Bool.false_eq_true, if_false]

/-- A request that is served as it arrives is served so whatever the link holds. -/
theorem submit_withPl {s : State} {r : Request} (q : Powerline) (h : s.servesNow r) :
    ({ s with pl := q } : State).submit r = ({ s with pl := q } : State).serveNow r :=
  submit_of_free (s := { s with pl := q }) h.2.1 h.2.2

section
variable {b : List Nat} {n : Nat} {s : State} (q : Powerline)

/-- READ takes its value from the entry (R516). -/
theorem submit_read {row : Row}
    (hserves : s.servesNow (s.asked (.powerline n) (frameGen b) 1 (pollIndex b) (pollSub b) 0 []))
    (hform : s.formAbort (s.asked (.powerline n) (frameGen b) 1 (pollIndex b) (pollSub b) 0 []) = abortOk)
    (hrow : rowOf (key (pollIndex b) (pollSub b)) = some row) (hrw : row.rw = true) (hsub : 1 ≤ pollSub b)
    (hzero : readsZero (pollIndex b) (pollSub b) = false) (hempty : readsEmpty (pollIndex b) (pollSub b) = false)
    (hcustomer : customerIndex (pollIndex b) = false) (hbank : ¬(0x1210 ≤ pollIndex b ∧ pollIndex b ≤ 0x127F))
    (hheld : (pollIndex b, pollSub b) ∉ [(0x0140, 4), (0x1200, 2), (0x1530, 1), (0x1801, 1), (0x1D00, 6)]) :
    ({ s with pl := q } : State).submit (s.asked (.powerline n) (frameGen b) 1 (pollIndex b) (pollSub b) 0 []) =
      ({ s with pl := q } : State).answer (s.asked (.powerline n) (frameGen b) 1 (pollIndex b) (pollSub b) 0 []) false abortOk
        (row.ty.encode (s.at_ (pollIndex b) (pollSub b))) := by
  have hauth := authenticate_plain (via := .powerline n) (gen := frameGen b) (id := 0) (index := pollIndex b) (sub := pollSub b)
    (data := []) s ({ s with pl := q } : State) (.inl rfl) nofun
  have hform' : ({ s with pl := q } : State).formAbort (s.asked (.powerline n) (frameGen b) 1 (pollIndex b) (pollSub b) 0 []) =
      abortOk := hform
  have hvalue := readValue_of_stored hrow hrw hsub hzero hempty hbank hheld (.powerline n) (s.sessionGen (.powerline n))
    ({ s with pl := q } : State)
  refine (submit_withPl q hserves).trans ((serveNow_authenticated hform' hauth hcustomer).trans ((if_pos rfl).trans ?_))
  simp only [plainAsk, afterRead_of_writable hrow hrw hsub, hvalue]
  rfl

/-- A write of an entry that needs a role carries no envelope to AUTH_ENVELOPE, which needs none. -/
theorem authenticate_of_role {row : Row} {index sub : Nat} {via : Via} {gen id : Nat} {data : List Nat} (u : State)
    (hrow : rowOf (key index sub) = some row) (hrole : row.role ≠ .pub) :
    u.authenticate (s.asked via gen 2 index sub id data) = (u, abortOk, plainAsk s via index sub data) := by
  have hother : ¬(index = 0x0150 ∧ sub = 1) := by
    rintro ⟨rfl, rfl⟩
    have hpub : (rowOf (key 0x0150 1)).map Row.role = some .pub := by decide +kernel
    rw [hrow] at hpub
    exact hrole (Option.some.inj hpub)
  have hcarries : (s.asked via gen 2 index sub id data).carries = false := by
    have h : (index == 0x0150 && sub == 1) = false := by simpa using hother
    simp only [State.asked, Request.carries, Request.toEnvelope, beq_self_eq_true, Bool.true_and, h]
    rfl
  have hnone : (s.asked via gen 2 index sub id data).envelope = none := by
    simp only [Request.envelope, hcarries, Bool.false_and, Bool.false_eq_true, if_false]
  simp only [State.authenticate, hnone]
  rfl

/-- The powerline link is PUBLIC (R440). -/
theorem accessBad_of_role {row : Row} {index sub : Nat} {data : List Nat} (hrole : row.role ≠ .pub) :
    accessBad row (plainAsk s (.powerline n) index sub data) = true := by
  refine accessBad_of_rank (show 0 < row.role.rank from ?_)
  cases h : row.role
  case pub => exact absurd h hrole
  all_goals decide

/-- A WRITE of an entry that needs a role is refused (R440, R516). -/
theorem submit_write_refused {row : Row} {data : List Nat}
    (hserves : s.servesNow (s.asked (.powerline n) (frameGen b) 2 (pollIndex b) (pollSub b) 0 data))
    (hform : s.formAbort (s.asked (.powerline n) (frameGen b) 2 (pollIndex b) (pollSub b) 0 data) = abortOk)
    (hrow : rowOf (key (pollIndex b) (pollSub b)) = some row) (hrole : row.role ≠ .pub)
    (hcustomer : customerIndex (pollIndex b) = false) :
    ({ s with pl := q } : State).submit (s.asked (.powerline n) (frameGen b) 2 (pollIndex b) (pollSub b) 0 data) =
      ({ s with pl := q } : State).answer (s.asked (.powerline n) (frameGen b) 2 (pollIndex b) (pollSub b) 0 data) false
        abortAccess [] := by
  have hauth := authenticate_of_role (s := s) (via := .powerline n) (gen := frameGen b) (id := 0) (data := data)
    ({ s with pl := q } : State) hrow hrole
  have hform' : ({ s with pl := q } : State).formAbort (s.asked (.powerline n) (frameGen b) 2 (pollIndex b) (pollSub b) 0 data) =
      abortOk := hform
  refine (submit_withPl q hserves).trans ((serveNow_authenticated hform' hauth hcustomer).trans ((if_neg nofun).trans ?_))
  rw [write_of_accessBad (a := plainAsk s (.powerline n) (pollIndex b) (pollSub b) data) hrow (accessBad_of_role hrole)]

end


/-! ### Segments of a write -/

/-- The assembly of a session is let go. -/
def assemblyDropped (n : Nat) (s : State) : State := s.modPl fun p => p.modSession n fun x => { x with assembly := none }

theorem Prepared_dropped {n : Nat} {s : State} (hn : n < s.pl.sessions.length) : Prepared n s (assemblyDropped n s) :=
  Prepared_modSession _ hn rfl rfl

theorem dropped_session {n : Nat} {s : State} (hn : n < s.pl.sessions.length) :
    (assemblyDropped n s).pl.session n = { s.pl.session n with assembly := none } :=
  session_modSession_same _ hn

/-- The assembly of a session holds the bytes so far, and awaits the next segment. -/
def assemblyGrown (b : List Nat) (n index sub total : Nat) (data : List Nat) (s : State) : State :=
  s.modPl fun p => p.modSession n fun x => { x with assembly := some (index, sub, total, data), seg := pollSeg b + 1 }

section
variable {b : List Nat} {n op index sub total : Nat} {sofar : List Nat} {s : State}

theorem plSegment_of_type (h : (pollData b).length ≠ min 16 (total - sofar.length) ∨ 1044 < total) :
    s.plSegment b n op index sub total sofar = (assemblyDropped n s).plReplyNow b n 0 (plReply op (pollSeg b) abortType 0 0 []) :=
  if_pos h

theorem plSegment_of_part (hfull : (pollData b).length = min 16 (total - sofar.length)) (htotal : total ≤ 1044)
    (hpart : (sofar ++ pollData b).length < total) :
    s.plSegment b n op index sub total sofar =
      (assemblyGrown b n index sub total (sofar ++ pollData b) s).plReplyNow b n 0 (plReply op (pollSeg b) abortOk 1 0 []) :=
  (if_neg (by omega)).trans (if_pos hpart)

theorem plSegment_of_last (hfull : (pollData b).length = min 16 (total - sofar.length)) (htotal : total ≤ 1044)
    (hlast : ¬(sofar ++ pollData b).length < total) :
    s.plSegment b n op index sub total sofar = (assemblyDropped n s).plRequest b n 2 index sub (sofar ++ pollData b) :=
  (if_neg (by omega)).trans (if_neg hlast)

end

/-- What a POLL whose write is of the wrong shape leaves: the assembly is let go and TYPE returned (R516). -/
theorem typed_served (b : List Nat) {n : Nat} (op : Nat) {s u : State} (hu : Prepared n s u) (hn : n < s.pl.sessions.length) :
    Served b n 0 (plReply op (pollSeg b) abortType 0 0 []) s (assemblyDropped n u)
      ((assemblyDropped n u).plReplyNow b n 0 (plReply op (pollSeg b) abortType 0 0 [])) :=
  plReplyNow_served b 0 _ (Prepared_trans hu (Prepared_dropped (hu.length ▸ hn))) hn

theorem typed_assembly {b : List Nat} {n op : Nat} {s u t : State} (hu : Prepared n s u) (hn : n < s.pl.sessions.length)
    (h : Served b n 0 (plReply op (pollSeg b) abortType 0 0 []) s (assemblyDropped n u) t) : (t.pl.session n).assembly = none := by
  rw [h.session, dropped_session (hu.length ▸ hn)]

/-- What a POLL that brings a segment in order leaves: STATUS 1 is returned (R516). -/
theorem grown_served (b : List Nat) {n : Nat} (op index sub total : Nat) (data : List Nat) {s u : State} (hu : Prepared n s u)
    (hn : n < s.pl.sessions.length) :
    Served b n 0 (plReply op (pollSeg b) abortOk 1 0 []) s (assemblyGrown b n index sub total data u)
      ((assemblyGrown b n index sub total data u).plReplyNow b n 0 (plReply op (pollSeg b) abortOk 1 0 [])) :=
  plReplyNow_served b 0 _ (Prepared_trans hu (Prepared_modSession _ (hu.length ▸ hn) rfl rfl)) hn

theorem grown_assembly {b : List Nat} {n op index sub total : Nat} {data : List Nat} {s u t : State} (hu : Prepared n s u)
    (hn : n < s.pl.sessions.length)
    (h : Served b n 0 (plReply op (pollSeg b) abortOk 1 0 []) s (assemblyGrown b n index sub total data u) t) :
    (t.pl.session n).assembly = some (index, sub, total, data) ∧ (t.pl.session n).seg = pollSeg b + 1 := by
  have hgrown : (assemblyGrown b n index sub total data u).pl.session n =
      { u.pl.session n with assembly := some (index, sub, total, data), seg := pollSeg b + 1 } :=
    session_modSession_same _ (hu.length ▸ hn)
  rw [h.session, hgrown]
  exact ⟨rfl, rfl⟩

/-! ### An accepted write of a clock setting -/

/-- An envelope is verified alike whatever the link holds. -/
theorem authenticate_withPl {r : Request} {s : State} (p : Powerline) (h : (s.authenticate r).2.1 = abortOk) :
    ({ s with pl := p } : State).authenticate r = ({ (s.authenticate r).1 with pl := p }, (s.authenticate r).2) := by
  have hauth : abortAuth ≠ abortOk := by decide
  have haccess : abortAccess ≠ abortOk := by decide
  cases he : r.envelope with
  | none => simp only [State.authenticate, he]
  | some e =>
    simp only [State.authenticate, he, State.verifyEnvelope] at h ⊢
    have hmac : ({ s with pl := p } : State).macOk e = s.macOk e := rfl
    rw [hmac]
    split_ifs at h ⊢
    · exact absurd h haccess
    · exact absurd h hauth
    · exact absurd h hauth
    · exact absurd h hauth
    · rfl

/-- The checks of a write outside PL_MASTER_REQUEST do not look at the link. -/
theorem PassesChecks_withPl {s : State} {row : Row} {a : Ask} (p : Powerline) (h : PassesChecks s row a) (hindex : a.index < 0x1900) :
    PassesChecks { s with pl := p } row a where
  listed := h.listed
  access := h.access
  unsealed := h.unsealed
  fits := h.fits
  inRange := h.inRange
  inMode := h.inMode
  inState := by
    obtain ⟨via, gen, index, sub, data, role, env⟩ := a
    refine Eq.trans ?_ h.inState
    unfold State.stateBad
    dsimp only at hindex ⊢
    split
    case h_9 => exact absurd hindex (by decide)
    all_goals rfl

/-- Of the clock settings a value is stored and in force at once (R452). -/
theorem perform_clock {a : Ask} (row : Row) (s : State) (hlow : 0x0400 ≤ a.index) (hhigh : a.index ≤ 0x04FF) :
    s.perform row a = { s.flowChanged row (key a.index a.sub) a.value with
      set := s.set.write (key a.index a.sub) a.value } := by
  obtain ⟨via, gen, index, sub, data, role, env⟩ := a
  dsimp only at hlow hhigh
  have hput : s.perform row ⟨via, gen, index, sub, data, role, env⟩ = s.putValue row ⟨via, gen, index, sub, data, role, env⟩ := by
    unfold State.perform
    dsimp only
    split
    case h_26 => exact if_neg (by omega)
    all_goals omega
  have hlater : atBoundary index = false := by
    simp [atBoundary, within]
    omega
  have hset : ∀ v, (s.flowChanged row (key index sub) v).set = s.set := by
    intro v
    unfold State.flowChanged
    split <;> rfl
  rw [hput]
  simp only [State.putValue, storedKey_eq_key s sub (show ¬(0x1210 ≤ index ∧ index ≤ 0x127F) by omega), hlater,
    Bool.false_eq_true, if_false, if_neg (show ¬(index / 256 = 0x19 ∧ s.pl.tx.isSome) by omega),
    if_neg (show ¬index = 0x1900 by omega), if_neg (show ¬(index = 0x1808 ∧ sub = 6) by omega)]
  simp only [hset]

theorem write_pl {s : State} {row : Row} {a : Ask} (h : PassesChecks s row a) : (s.write a).1.pl = (s.commitWrite row a).1.pl := by
  rw [write_of_passed h]
  unfold State.markUpload State.countChange
  split
  · rfl
  · dsimp only
    split <;> split <;> rfl

theorem flowChanged_keeps (row : Row) (k v : Nat) (s : State) :
    (s.flowChanged row k v).pl = s.pl ∧ (s.flowChanged row k v).mem = s.mem := by
  unfold State.flowChanged
  split <;> exact ⟨rfl, rfl⟩

/-- An accepted write of a clock setting stores its value, which is in force at once, and leaves the memory and the link. -/
theorem write_clock {s : State} {row : Row} {a : Ask} (h : PassesChecks s row a) (hlow : 0x0400 ≤ a.index) (hhigh : a.index ≤ 0x04FF) :
    (s.write a).2 = abortOk ∧ (s.write a).1.set = s.set.write (key a.index a.sub) a.value ∧ (s.write a).1.mem = s.mem ∧
      (s.write a).1.pl = s.pl := by
  have hcommit := commitWrite_eq_perform (a := a) row s (by omega) (by omega)
  have hcarried := Carried_write h
  have hpl := write_pl h
  have hok : (s.write a).2 = abortOk := by rw [write_of_passed h, hcommit]; rfl
  obtain ⟨hpl', hmem'⟩ := flowChanged_keeps row (key a.index a.sub) a.value s
  rw [hcommit, perform_clock row s hlow hhigh] at hcarried hpl
  exact ⟨hok, Carried_set hcarried, (congrArg State.mem hcarried).trans hmem', hpl.trans hpl'⟩

/-- The write that a POLL's last segment completes is served at once (R516). -/
theorem submit_written {b : List Nat} {n i j index sub : Nat} {data value : List Nat} {s u : State}
    (hlink : u = { s with pl := u.pl })
    (haccepts : s.accepts (s.asked (.powerline n) (frameGen b) 2 i j 0 data) index sub value) (hlow : 0x0400 ≤ index)
    (hhigh : index ≤ 0x04FF) :
    ∃ y : State, (requestPending b n u).submit (s.asked (.powerline n) (frameGen b) 2 i j 0 data) =
        y.answer (s.asked (.powerline n) (frameGen b) 2 i j 0 data) false abortOk [] ∧
      y.pl = (requestPending b n u).pl ∧ y.set = s.set.write (key index sub) (ofLe value) ∧ y.mem = s.mem := by
  obtain ⟨hserves, hform, row, role, env, hrow, hauth, hcustomer, hop, haccess, hseal, hfits, hvalue, hmode, hstate⟩ := haccepts
  generalize hr : s.asked (.powerline n) (frameGen b) 2 i j 0 data = r at *
  have hvia : r.via = .powerline n := by rw [← hr]; rfl
  generalize hq : (requestPending b n u).pl = q
  have hw : requestPending b n u = { s with pl := q } := by
    rw [← hq, hlink]
    rfl
  have hexpect : ({ s.expect r with pl := q } : State) = { s with pl := q } := by
    unfold State.expect
    rw [hvia]
  have hok : ((s.expect r).authenticate r).2.1 = abortOk := by rw [hauth]
  have hopened := authenticate_withPl q hok
  rw [hexpect, hauth] at hopened
  have hcarried := Carried_trans (Carried_expect r s) (Carried_authenticate r _ hok)
  have hpass := PassesChecks_withPl (s := ((s.expect r).authenticate r).1) (row := row)
    (a := { via := r.via, gen := r.gen, index := index, sub := sub, data := value, role := role, env := env }) q
    ⟨hrow, haccess, hseal, hfits, hvalue, hmode, hstate⟩ (show index < 0x1900 by omega)
  obtain ⟨hdone, hset, hmem, hpl⟩ := write_clock hpass hlow hhigh
  refine ⟨_, ?_, hpl, hset.trans ?_, hmem.trans ?_⟩
  · have hform' : ({ s with pl := q } : State).formAbort r = abortOk := by
      rw [← hexpect]
      exact hform
    rw [hw, submit_withPl q hserves, serveNow_authenticated hform' hopened hcustomer, if_neg hop,
      hdone]
  · show ((s.expect r).authenticate r).1.set.write _ _ = _
    rw [Carried_set hcarried]
    rfl
  · show ((s.expect r).authenticate r).1.mem = _
    rw [hcarried]

/-- The write that a POLL's last segment completes, answered and delivered: the value is stored and in force, and every other
setting stands. -/
theorem plRequest_written {b : List Nat} {n i j index sub : Nat} {data value : List Nat} {s u : State} (hu : Prepared n s u)
    (hlink : u = { s with pl := u.pl }) (hn : n < s.pl.sessions.length)
    (haccepts : s.accepts (s.asked (.powerline n) (frameGen b) 2 i j 0 data) index sub value) (hlow : 0x0400 ≤ index)
    (hhigh : index ≤ 0x04FF) :
    (u.plRequest b n 2 i j data).set = s.set.write (key index sub) (ofLe value) ∧ (u.plRequest b n 2 i j data).mem = s.mem ∧
      ((u.plRequest b n 2 i j data).pl.session n).assembly = (u.pl.session n).assembly ∧
      s.Kept b n 0 (answeredReply (natAt (framePayload b) 0) (pollSeg b) abortOk []) (u.plRequest b n 2 i j data) := by
  obtain ⟨y, hsubmit, hpl, hset, hmem⟩ := submit_written (b := b) hlink haccepts hlow hhigh
  have hnu : n < u.pl.sessions.length := hu.length ▸ hn
  have hpending := Prepared_pending (b := b) hnu
  have hny : n < y.pl.sessions.length := by
    rw [hpl, hpending.length]
    exact hnu
  have hwait : (y.pl.session n).wait = .busy (natAt (framePayload b) 0) (pollSeg b) := by
    rw [hpl, pending_session hnu]
  rw [← pollRequest_prepared hu] at hsubmit
  rw [plRequest_of_answered hny hsubmit hwait]
  generalize hr : pollRequest u b n 2 i j data = r
  have hvia : r.via = .powerline n := by rw [← hr]; rfl
  have hanswer := Prepared_answer (s := y) (abort := abortOk) (data := []) hvia hny
  have hna : n < (y.answer r false abortOk []).pl.sessions.length := hanswer.length ▸ hny
  have hended := Prepared_modSession (s := y.answer r false abortOk []) (fun x => { x with wait := .none }) hna rfl rfl
  have hreplied := plReplyNow_replied b 0 (answeredReply (natAt (framePayload b) 0) (pollSeg b) abortOk [])
    (s := (y.answer r false abortOk []).modPl fun p => p.modSession n fun x => { x with wait := .none }) (hended.length ▸ hna)
  have hprepared : LinkPrepared n s.pl ((y.answer r false abortOk []).modPl fun p => p.modSession n fun x => { x with wait := .none }).pl :=
    LinkPrepared_trans (LinkPrepared_trans hu.toLinkPrepared (hpl ▸ hpending.toLinkPrepared))
      (LinkPrepared_trans hanswer.toLinkPrepared hended.toLinkPrepared)
  refine ⟨?_, ?_, ?_, Kept_of_replied hprepared hreplied⟩
  · exact (congrArg State.set hreplied.rest).trans ((answer_set r false abortOk [] y).trans hset)
  · exact (congrArg State.mem hreplied.rest).trans ((answer_mem r false abortOk [] y).trans hmem)
  · refine (congrArg PlSession.assembly hreplied.session).trans ?_
    refine (congrArg PlSession.assembly (session_modSession_same (p := (y.answer r false abortOk []).pl) _ hna)).trans ?_
    refine (congrArg PlSession.assembly ((answer_session hvia hny).trans (answered_keeps _ _ _))).trans ?_
    rw [hpl, pending_session hnu]

end Sys2Proof.Proofs
end

section
/-! PROOF. The POLLs of a slave are answered: each command with what it returns (R513, R514, R516 to R518, R520). -/

namespace Sys2Proof.Proofs

open Sys2Proof Sys2Proof.Machine Sys2Proof.Laws

/-! ### STATUS -/

/-- The events that a STATUS REPLY carries (R518). -/
def statusEvents (n : Nat) (s : State) : List Pend := if s.pl.toldElsewhere n then [] else s.pl.events.take 2

/-- The payload of a STATUS REPLY (Table 15.6). -/
def statusPayload (pending : Bool) (n : Nat) (s : State) : List Nat :=
  [1, flag (decide ((statusEvents n s).length < s.pl.events.length)) + flagAt (decide (s.mode = .taper)) 1 + flagAt pending 2, s.mode.code,
    (statusEvents n s).length] ++ (statusEvents n s).flatMap Pend.statusBytes

/-- A STATUS POLL that is served is answered with the oldest events. -/
def statusReply (b : List Nat) (n : Nat) (s : State) : State :=
  s.plReplyNow b n (statusEvents n s).length (statusPayload (match (s.pl.session n).wait with | .none => false | _ => true) n s)

theorem plPollStatus_eq (s : State) : plPollStatus s = s.servePoll 1 statusReply := rfl

theorem toldElsewhere_confirm (n : Nat) (s : State) : (s.confirm n).pl.toldElsewhere n = s.pl.toldElsewhere n := by
  unfold Powerline.toldElsewhere
  refine congrArg (List.any (List.range 24)) (funext fun m => ?_)
  by_cases hm : m = n
  · simp [hm]
  · have hother : (s.confirm n).pl.session m = s.pl.session m := session_modSession_other s.pl _ hm
    rw [hother]

theorem statusEvents_confirm (n : Nat) (s : State) :
    statusEvents n (s.confirm n) = if s.pl.toldElsewhere n then [] else (s.confirmed n).take 2 := by
  unfold statusEvents
  rw [toldElsewhere_confirm]
  rfl

/-- The answer to a STATUS POLL, while a response is pending and while none is. -/
theorem statusReply_served {b : List Nat} {n : Nat} {pending : Bool} {s : State} (hn : n < s.pl.sessions.length)
    (hwait : (s.pl.session n).wait = .none ∧ pending = false ∨ (∃ o g, (s.pl.session n).wait = .busy o g) ∧ pending = true) :
    Served b n (statusEvents n (s.confirm n)).length (statusPayload pending n (s.confirm n)) s (s.confirm n) (statusReply b n (s.confirm n)) := by
  have hpending : (match ((s.confirm n).pl.session n).wait with | .none => false | _ => true) = pending := by
    rw [confirm_session hn]
    obtain ⟨hnone, rfl⟩ | ⟨⟨o, g, hbusy⟩, rfl⟩ := hwait
    · rw [hnone]
    · rw [hbusy]
  have hserved := plReplyNow_served b (statusEvents n (s.confirm n)).length (statusPayload pending n (s.confirm n)) (Prepared_confirm hn) hn
  unfold statusReply
  rwa [hpending]

theorem statusPayload_confirm (pending : Bool) (n : Nat) (s : State) :
    statusPayload pending n (s.confirm n) =
      [1, (if (statusEvents n (s.confirm n)).length < (s.confirmed n).length then 1 else 0) + (if s.mode = .taper then 2 else 0) +
        (if pending then 4 else 0), s.mode.code, (statusEvents n (s.confirm n)).length] ++
        (statusEvents n (s.confirm n)).flatMap Pend.statusBytes := by
  have hmode : (s.confirm n).mode = s.mode := rfl
  unfold statusPayload
  rw [confirm_events, hmode]
  simp [flag, flagAt]

/-! ### READ_NEXT -/

/-- The segment of the copy that READ_NEXT returns (R516). -/
def nextSegment (seg : Nat) : Option (List Nat) → List Nat
  | none => plReply 4 seg abortRange 0 0 []
  | some c => if 16 * seg < c.length then plReply 4 seg abortOk 0 c.length ((c.drop (16 * seg)).take 16)
      else plReply 4 seg abortRange 0 0 []

theorem plPollReadNext_eq (s : State) :
    plPollReadNext s = s.servePoll 4 fun b n u => u.plReplyNow b n 0 (nextSegment (pollSeg b) (u.pl.session n).copy) := by
  unfold plPollReadNext
  refine congrArg (fun f => s.servePoll 4 f) (funext fun b => funext fun n => funext fun u => ?_)
  dsimp only
  cases (u.pl.session n).copy <;> rfl

theorem get_of_written {s t : State} {k v : Nat} (h : t.set = s.set.write k v) : t.get k = v := by
  simp only [State.get, h]
  exact Pairs_get_set_same _ _ _ _

/-! ### The deadline of a REPLY -/

theorem Kept_count {b : List Nat} {n told : Nat} {payload : List Nat} {s t : State} (acts : List Act) (h : s.Kept b n told payload t) :
    s.Kept b n told payload (t.count acts) := by
  unfold State.Kept at h ⊢
  rwa [count_pl]

theorem Sent_count {b : List Nat} {n : Nat} {payload : List Nat} {s t : State} (acts : List Act) (h : s.Sent b n payload t) :
    s.Sent b n payload (t.count acts) := by
  unfold State.Sent at h ⊢
  rwa [count_pl]

theorem plReplyDeadline_of_pending {b : List Nat} {n o g : Nat} {s : State} (hfront : s.frontPoll = some (b, n))
    (hwait : (s.pl.session n).wait = .busy o g) :
    plReplyDeadline s =
      (s.plReplyNow b n 0 (plReply (natAt (framePayload b) 0) (pollSeg b) abortOk 2 0 [])).count [linkAct 0x66 1] := by
  unfold plReplyDeadline
  rw [hfront]
  dsimp only
  rw [hwait]

theorem plReplyDeadline_of_ready {b r : List Nat} {n : Nat} {s : State} (hfront : s.frontPoll = some (b, n))
    (hwait : (s.pl.session n).wait = .ready r) : plReplyDeadline s = s.plDeliver b n r := by
  unfold plReplyDeadline
  rw [hfront]
  dsimp only
  rw [hwait]

theorem plReplyDeadline_of_idle {s : State}
    (h : s.frontPoll = none ∨ ∃ b n, s.frontPoll = some (b, n) ∧ (s.pl.session n).wait = .none) : plReplyDeadline s = s := by
  unfold plReplyDeadline
  obtain h | ⟨b, n, hfront, hwait⟩ := h
  · rw [h]
  · rw [hfront]
    dsimp only
    rw [hwait]

/-! ### WRITE_MORE -/

section
variable {b : List Nat} {n : Nat} {s : State} (hserve : s.pollToServe 5 n b)
include hserve

theorem plPollWriteMore_of_none (hassembly : (s.pl.session n).assembly = none) :
    plPollWriteMore s = (s.confirm n).plReplyNow b n 0 (plReply 5 (pollSeg b) abortType 0 0 []) := by
  refine (servePoll_new hserve).trans ?_
  rw [confirm_session (lt_of_pollToServe hserve)]
  dsimp only
  rw [hassembly]

/-- What WRITE_MORE comes to with an assembly under way. -/
theorem plPollWriteMore_of_some {i j total : Nat} {sofar : List Nat} (hassembly : (s.pl.session n).assembly = some (i, j, total, sofar)) :
    plPollWriteMore s =
      if pollSeg b = (s.pl.session n).seg then (s.confirm n).plSegment b n 5 i j total sofar
      else (assemblyDropped n (s.confirm n)).plReplyNow b n 0 (plReply 5 (pollSeg b) abortType 0 0 []) := by
  refine (servePoll_new hserve).trans ?_
  rw [confirm_session (lt_of_pollToServe hserve)]
  dsimp only
  rw [hassembly]
  rfl

end

/-- Settles O55, from what a REPLY keeps and sends (`plReplyNow_served`), what serving a POLL comes to (`servePoll_new` and its like),
and how a request that a POLL brings is answered (`plRequest_served`, `plRequest_written`). -/
theorem pollsAreAnswered : Obligations.PollsAreAnswered := by
  unfold Obligations.PollsAreAnswered
  refine ⟨fun c op s hc => ?anyPoll, fun s hidle => ?noDeadline, fun b n s => ⟨fun pending hserve => ?status,
    fun row hserve hserves hform hrow hrw hsub hzero hempty hcustomer hbank hheld => ?read, fun hserve => ?readNext,
    fun hserve => ⟨fun hseg hbig htotal hdata => ?writeOpens, fun hwrong => ?writeWrong⟩,
    fun row hserve hseg hdata htotal hserves hform hrow hrole hcustomer => ?writeRefused,
    fun i j total index sub sofar value hserve hseg hassembly hlast hdata htotal haccepts hlow hhigh => ?writeDone,
    fun hserve => ⟨fun i j total sofar hassembly hseg hpart htotal hdata => ?moreTaken, fun hwrong => ?moreWrong⟩,
    fun hlen hfront => ⟨fun op seg hwait => ?deadlinePending, fun r hwait => ?deadlineReady⟩⟩⟩
  case anyPoll =>
    obtain ⟨new, hcmd⟩ : ∃ new, exec c s = .next (s.servePoll op new) := by
      obtain ⟨rfl, rfl⟩ | ⟨rfl, rfl⟩ | ⟨rfl, rfl⟩ | ⟨rfl, rfl⟩ | ⟨rfl, rfl⟩ := hc <;> exact ⟨_, rfl⟩
    refine ⟨fun hidle => hcmd.trans (congrArg _ (servePoll_of_idle hidle)), fun b n hon hlen hfront hop => ?_⟩
    have hn : n < s.pl.sessions.length := hlen ▸ frontPoll_lt hfront
    refine ⟨fun r hwait hr htog => ?_, fun r hwait => ?_, fun o g hnot hwait => ?_, fun hwait hnew hgen => ?_⟩
    · have hreplied := plReplyNow_replied b (s.pl.session n).told r hn
      refine ⟨_, hcmd.trans (congrArg _ (servePoll_again hon hfront hop hwait hr htog)), sessions_of_again hn hr htog, hreplied.inbox,
        hreplied.sent, hreplied.events, hreplied.link, hreplied.rest⟩
    · obtain ⟨u, hu, hlink, hserved⟩ := servePoll_ready (new := new) hon hfront hop hlen hwait
      have h := plDeliver_served b r hu hn
      refine ⟨_, hcmd.trans (congrArg _ hserved), h.kept, h.sent, ?_, h.link, h.exact_ (by rw [hlink]; rfl)⟩
      rw [h.session, modPl_pl, session_modSession_same _ (hu.length ▸ hn)]
    · obtain ⟨u, hu, hlink, hbusy, hserved⟩ := servePoll_pending (new := new) hon hfront hop hlen hnot hwait
      have hp := hu.link
      refine ⟨_, hcmd.trans (congrArg _ hserved), by rw [hp], hbusy, by rw [hp], by rw [hp], hu.others, ?_, hlink⟩
      unfold Answered
      rw [hp]
    · have h := plReplyNow_served b 0 (plReply op (pollSeg b) abortGeneration 0 0 []) (Prepared_confirm hn) hn
      exact ⟨_, hcmd.trans (congrArg _ (servePoll_newer hon hfront hop hwait hnew hgen)), h.kept, h.sent, h.link, h.exact_ rfl⟩
  case noDeadline =>
    exact congrArg Host.Outcome.next (plReplyDeadline_of_idle hidle)
  case status =>
    have hcase : ((s.pl.session n).wait = .none ∧ pending = false ∨ (∃ o g, (s.pl.session n).wait = .busy o g) ∧ pending = true) ∧
        plPollStatus s = statusReply b n (s.confirm n) ∧ n < s.pl.sessions.length := by
      obtain ⟨hserve, hpending⟩ | ⟨hon, hlen, hfront, hop, ⟨o, g, hbusy⟩, hnew, hpending⟩ := hserve
      · exact ⟨.inl ⟨hserve.2.2.2.2.1, hpending⟩, servePoll_new hserve, lt_of_pollToServe hserve⟩
      · exact ⟨.inr ⟨⟨o, g, hbusy⟩, hpending⟩, servePoll_status_pending hon hfront hop rfl hbusy hnew, hlen ▸ frontPoll_lt hfront⟩
    obtain ⟨hwait, hstatus, hn⟩ := hcase
    have h := statusReply_served (b := b) hn hwait
    refine ⟨_, congrArg Host.Outcome.next hstatus, statusEvents n (s.confirm n), statusPayload pending n (s.confirm n),
      statusEvents_confirm n s, statusPayload_confirm pending n s, h.kept, h.sent, ?_, h.events, h.link, h.exact_ rfl⟩
    rw [h.session, confirm_session hn]
  case read =>
    have hn := lt_of_pollToServe hserve
    have hop : natAt (framePayload b) 0 = 2 := hserve.2.2.2.1
    have hsubmit := submit_read (requestPending b n (s.confirm n)).pl hserves hform hrow hrw hsub hzero hempty hcustomer hbank hheld
    rw [← pollRequest_prepared (Prepared_confirm hn)] at hsubmit
    obtain ⟨v, h, hsession, hevents⟩ := plRequest_served (Prepared_confirm hn) hn hsubmit
    rw [hop] at h hsession
    refine ⟨_, congrArg Host.Outcome.next (servePoll_new hserve), _, rfl, ?_, h.kept, h.sent, ?_, h.events.trans hevents, h.link, h.counts⟩
    · rw [h.session, hsession]
      exact answered_copy rfl _
    · rw [h.session, hsession]
  case readNext =>
    have hn := lt_of_pollToServe hserve
    have h := plReplyNow_served b 0 (nextSegment (pollSeg b) ((s.confirm n).pl.session n).copy) (Prepared_confirm hn) hn
    have hcopy : ((s.confirm n).pl.session n).copy = (s.pl.session n).copy := by rw [confirm_session hn]
    refine ⟨_, congrArg Host.Outcome.next ((plPollReadNext_eq s).trans (servePoll_new hserve)), _, fun c hc => ?_, fun hc => ?_, h.kept,
      h.sent, ?_, h.events, h.link, h.exact_ rfl⟩
    · rw [hcopy, hc]
      rfl
    · rw [hcopy, hc]
      rfl
    · rw [h.session, hcopy]
  case writeOpens =>
    have hn := lt_of_pollToServe hserve
    have hpart := plSegment_of_part (b := b) (n := n) (op := 3) (index := pollIndex b) (sub := pollSub b) (total := pollTotal b) (sofar := [])
      (s := s.confirm n) (by rw [hdata, List.length_nil]; omega) htotal (by rw [List.nil_append, hdata]; omega)
    have h := grown_served b 3 (pollIndex b) (pollSub b) (pollTotal b) ([] ++ pollData b) (Prepared_confirm hn) hn
    obtain ⟨hassembly, hnext⟩ := grown_assembly (Prepared_confirm hn) hn h
    have hwrite : plPollWrite s = _ := (servePoll_new hserve).trans ((if_neg (not_not.2 hseg)).trans hpart)
    rw [hseg] at h hwrite hnext hassembly
    exact ⟨_, congrArg Host.Outcome.next hwrite, hassembly, hnext, h.kept, h.sent, h.events, h.link, h.exact_ rfl⟩
  case writeWrong =>
    have hn := lt_of_pollToServe hserve
    have h := typed_served b 3 (Prepared_confirm hn) hn
    have hwrite : plPollWrite s = (assemblyDropped n (s.confirm n)).plReplyNow b n 0 (plReply 3 (pollSeg b) abortType 0 0 []) := by
      refine (servePoll_new hserve).trans ?_
      by_cases hseg : pollSeg b = 0
      · refine (if_neg (not_not.2 hseg)).trans (plSegment_of_type ?_)
        obtain h | h | h := hwrong
        · exact absurd hseg h
        · exact .inr h
        · exact .inl h
      · exact if_pos hseg
    exact ⟨_, congrArg Host.Outcome.next hwrite, typed_assembly (Prepared_confirm hn) hn h, h.kept, h.sent, h.events, h.link, h.exact_ rfl⟩
  case writeRefused =>
    have hn := lt_of_pollToServe hserve
    have hop : natAt (framePayload b) 0 = 3 := hserve.2.2.2.1
    have hnc : n < (s.confirm n).pl.sessions.length := (Prepared_confirm hn).length ▸ hn
    have hdropped := Prepared_trans (Prepared_confirm hn) (Prepared_dropped hnc)
    have hsubmit := submit_write_refused (requestPending b n (assemblyDropped n (s.confirm n))).pl hserves hform hrow hrole hcustomer
    rw [← pollRequest_prepared hdropped] at hsubmit
    obtain ⟨v, h, hsession, hevents⟩ := plRequest_served hdropped hn hsubmit
    have hwrite : plPollWrite s = (assemblyDropped n (s.confirm n)).plRequest b n 2 (pollIndex b) (pollSub b) (pollData b) :=
      (servePoll_new hserve).trans ((if_neg (not_not.2 hseg)).trans (plSegment_of_last (by rw [List.length_nil]; omega) (by omega)
        (by rw [List.nil_append]; omega)))
    rw [hop, hseg] at h
    refine ⟨_, congrArg Host.Outcome.next hwrite, ?_, h.kept, h.sent, ?_, h.events.trans hevents, h.link, h.counts⟩
    · rw [h.session, hsession, answered_keeps, dropped_session hnc]
    · rw [h.session, hsession]
  case writeDone =>
    have hn := lt_of_pollToServe hserve
    have hop : natAt (framePayload b) 0 = 5 := hserve.2.2.2.1
    have hnc : n < (s.confirm n).pl.sessions.length := (Prepared_confirm hn).length ▸ hn
    have hdropped := Prepared_trans (Prepared_confirm hn) (Prepared_dropped hnc)
    obtain ⟨hset, hmem, hgone, hkept⟩ := plRequest_written hdropped rfl hn haccepts hlow hhigh
    rw [hop] at hkept
    have hmore : plPollWriteMore s = (assemblyDropped n (s.confirm n)).plRequest b n 2 i j (sofar ++ pollData b) := by
      refine (plPollWriteMore_of_some hserve hassembly).trans ((if_pos hseg).trans (plSegment_of_last ?_ htotal ?_))
      · omega
      · rw [List.length_append]
        omega
    refine ⟨_, congrArg Host.Outcome.next hmore, get_of_written hset, eff_of_written hset,
      fun k hk => ⟨(other_of_written hset hk).2, (other_of_written hset hk).1⟩, ?_, hkept, hmem⟩
    rw [hgone, dropped_session hnc]
  case moreTaken =>
    have hn := lt_of_pollToServe hserve
    have h := grown_served b 5 i j total (sofar ++ pollData b) (Prepared_confirm hn) hn
    obtain ⟨hgrown, hnext⟩ := grown_assembly (Prepared_confirm hn) hn h
    have hmore : plPollWriteMore s = (assemblyGrown b n i j total (sofar ++ pollData b) (s.confirm n)).plReplyNow b n 0
        (plReply 5 (pollSeg b) abortOk 1 0 []) := by
      refine (plPollWriteMore_of_some hserve hassembly).trans ((if_pos hseg).trans (plSegment_of_part ?_ htotal ?_))
      · omega
      · rw [List.length_append]
        omega
    exact ⟨_, congrArg Host.Outcome.next hmore, hgrown, hnext, h.kept, h.sent, h.events, h.link, h.exact_ rfl⟩
  case moreWrong =>
    have hn := lt_of_pollToServe hserve
    cases hassembly : (s.pl.session n).assembly with
    | none =>
      have h := plReplyNow_served b 0 (plReply 5 (pollSeg b) abortType 0 0 []) (Prepared_confirm hn) hn
      refine ⟨_, congrArg Host.Outcome.next (plPollWriteMore_of_none hserve hassembly), ?_, h.kept, h.sent, h.events, h.link, h.exact_ rfl⟩
      rw [h.session, confirm_session hn]
      exact hassembly
    | some x =>
      obtain ⟨i, j, total, sofar⟩ := x
      have h := typed_served b 5 (Prepared_confirm hn) hn
      have hmore : plPollWriteMore s = (assemblyDropped n (s.confirm n)).plReplyNow b n 0 (plReply 5 (pollSeg b) abortType 0 0 []) := by
        rw [plPollWriteMore_of_some hserve hassembly]
        split
        · next hseg =>
          refine plSegment_of_type ?_
          obtain h | h | ⟨i', j', total', sofar', h, hwrong⟩ := hwrong
          · exact absurd (hassembly.symm.trans h) (Option.some_ne_none _)
          · exact absurd hseg h
          · obtain ⟨rfl, rfl, rfl, rfl⟩ := Prod.mk.inj (Option.some.inj (hassembly.symm.trans h))
            exact hwrong.symm
        · rfl
      exact ⟨_, congrArg Host.Outcome.next hmore, typed_assembly (Prepared_confirm hn) hn h, h.kept, h.sent, h.events, h.link, h.exact_ rfl⟩
  case deadlinePending =>
    have hn : n < s.pl.sessions.length := hlen ▸ frontPoll_lt hfront
    have h := plReplyNow_served b 0 (plReply (natAt (framePayload b) 0) (pollSeg b) abortOk 2 0 []) (Prepared_refl n s) hn
    refine ⟨_, congrArg Host.Outcome.next (plReplyDeadline_of_pending hfront hwait), Kept_count _ h.kept, Sent_count _ h.sent, ?_, ?_, ?_, ?_⟩
    · rw [count_pl, h.session, hwait]
    · rw [count_pl, h.events]
    · rw [count_pl]
      exact h.link
    · rw [count_pl]
      exact CountsOnly_trans h.counts (CountsOnly_count _ _)
  case deadlineReady =>
    have hn : n < s.pl.sessions.length := hlen ▸ frontPoll_lt hfront
    have h := plDeliver_served b r (Prepared_refl n s) hn
    refine ⟨_, congrArg Host.Outcome.next (plReplyDeadline_of_ready hfront hwait), h.kept, h.sent, ?_, h.events, h.link, h.exact_ rfl⟩
    rw [h.session, modPl_pl, session_modSession_same _ hn]

end Sys2Proof.Proofs
end

section
/-! PROOF. The master role: how a cycle goes from slave to slave, what a REPLY and a silent slave leave, and the request of the master
(R515, R519 to R522). -/

namespace Sys2Proof.Proofs

open Sys2Proof Sys2Proof.Machine Sys2Proof.Laws

/-! ### Sending a POLL -/

/-- A POLL that is sent waits to be admitted, or is admitted at once, after the wake pattern where one is asked for (R515, R519). -/
theorem sendPoll_eq (wake : Bool) (q : PlPoll) (s : State) :
    ∃ x, s.sendPoll wake q = (s.modPl fun p => { p with
        poll := some q, tx := some x, txNext := if wake then some (s.plFrameTx (s.pollBytes q) 1) else none }) ∧
      x.sent = 0 ∧ x.admitted = (s.pl.locked && s.admitsPulses) ∧ x.bytes = (if wake then [] else s.pollBytes q) ∧
      (wake = true → x.halves = List.replicate 8 true) := by
  have hsend : ∀ n : PlTx, n.admitted = false →
      ∃ y, y.bytes = n.bytes ∧ y.sent = n.sent ∧ y.halves = n.halves ∧ y.admitted = (s.pl.locked && s.admitsPulses) ∧
        (s.modPl fun p => { p with
          poll := some q, tx := some n, txNext := if wake then some (s.plFrameTx (s.pollBytes q) 1) else none }).plAdmit =
        s.modPl fun p => { p with
          poll := some q, tx := some y, txNext := if wake then some (s.plFrameTx (s.pollBytes q) 1) else none } := by
    intro n hn
    obtain ⟨y, hbytes, hsent, hhalves, hroom, hadmit⟩ := plAdmit_of_waiting (s := s.modPl fun p => { p with
      poll := some q, tx := some n, txNext := if wake then some (s.plFrameTx (s.pollBytes q) 1) else none }) rfl hn
    exact ⟨y, hbytes, hsent, hhalves, hroom, hadmit⟩
  cases wake with
  | true =>
    obtain ⟨y, hbytes, hsent, hhalves, hroom, hadmit⟩ := hsend s.wakeTx rfl
    exact ⟨y, hadmit, hsent, hroom, hbytes, fun _ => hhalves⟩
  | false =>
    obtain ⟨y, hbytes, hsent, -, hroom, hadmit⟩ := hsend (s.plFrameTx (s.pollBytes q) 1) rfl
    exact ⟨y, hadmit, hsent, hroom, hbytes, nofun⟩

/-! ### Going on to the next slave -/

/-- A slave's session as its POLL is asked for (R515, R520). -/
def sessionPolled (address now : Nat) (x : PlSession) : PlSession :=
  { x with address := address, tog := 1 - x.tog % 2, heard := if x.address = 0 then now else x.heard }

/-- The next slave is polled, or the cycle ends: beside the POLL and its transmission only the session of the slave polled has
changed. -/
structure GoesOn (k : Nat) (first : Bool) (u t : State) : Prop where
  polled : State.Polled u k first t
  others : ∀ m, (∀ q, t.pl.poll = some q → q.slave ≠ m) → t.pl.session m = u.pl.session m
  before : ∀ m, m < k → t.pl.session m = u.pl.session m
  link : t.pl = { u.pl with sessions := t.pl.sessions, poll := t.pl.poll, tx := t.pl.tx, txNext := t.pl.txNext, cycleOn := t.pl.cycleOn }
  rest : t = { u with pl := t.pl }

/-- The first slave at or after an index. -/
theorem nextSlave_iff (u : State) (k n : Nat) :
    ((List.range 24).find? fun n => decide (k ≤ n) && u.on_ 0x1920 (n + 1) != 0) = some n ↔
      (k ≤ n ∧ n < 24 ∧ u.on_ 0x1920 (n + 1) ≠ 0) ∧ ∀ m, k ≤ m → m < n → u.on_ 0x1920 (m + 1) = 0 := by
  rw [List.find?_range_eq_some]
  simp only [Bool.and_eq_true, decide_eq_true_eq, bne_iff_ne, List.mem_range, Bool.not_eq_true', Bool.and_eq_false_iff,
    decide_eq_false_iff_not, bne_eq_false_iff_eq]
  constructor
  · rintro ⟨⟨hk, hn⟩, hlt, hfirst⟩
    exact ⟨⟨hk, hlt, hn⟩, fun m hm hmn => (hfirst m hmn).resolve_left (not_not.2 hm)⟩
  · rintro ⟨⟨hk, hlt, hn⟩, hfirst⟩
    exact ⟨⟨hk, hn⟩, hlt, fun m hmn => (em (k ≤ m)).symm.imp_right fun hm => hfirst m hm hmn⟩

/-- Whether the POLL carries the waiting request (R522). -/
def carriesRequest (u : State) (n : Nat) : Bool := (u.pl.request.map fun r => r.1 == n).getD false

theorem carriesRequest_iff (u : State) (n : Nat) : carriesRequest u n = true ↔ ∃ data, u.pl.request = some (n, data) := by
  unfold carriesRequest
  cases u.pl.request with
  | none => simp
  | some r =>
    obtain ⟨m, data⟩ := r
    simp only [Option.map_some, Option.getD_some, beq_iff_eq, Option.some.injEq, Prod.mk.injEq]
    exact ⟨fun h => ⟨data, h, rfl⟩, fun ⟨_, h, _⟩ => h⟩

/-- The payload of a POLL: the waiting request or STATUS. -/
def pollPayload (u : State) (n : Nat) : List Nat :=
  if carriesRequest u n then requestPayload ((u.pl.request.map Prod.snd).getD []) else [1]

/-- The POLL to a slave. -/
def nextPoll (u : State) (n : Nat) : PlPoll :=
  { slave := n, payload := pollPayload u n, repeats := 0, request := carriesRequest u n }

/-- The POLL is preceded by the wake pattern (R519). -/
def wakesFirst (first : Bool) (u : State) (n : Nat) : Bool := bitAt (u.on_ 0x1900 1) 2 && (first || (u.pl.session n).lost)

theorem wakesFirst_iff (first : Bool) (u : State) (n : Nat) : wakesFirst first u n = true ↔
    bitAt (u.on_ 0x1900 1) 2 = true ∧ (first = true ∨ (u.pl.session n).lost = true) := by
  simp [wakesFirst]

/-- The session of the slave to poll has been prepared. -/
def slaveChosen (u : State) (n : Nat) : State :=
  u.modPl fun p => p.modSession n (sessionPolled (u.on_ 0x1920 (n + 1)) u.frame.absTick)

theorem pollFrom_of_some {k n : Nat} {first : Bool} {u : State}
    (h : ((List.range 24).find? fun n => decide (k ≤ n) && u.on_ 0x1920 (n + 1) != 0) = some n) :
    u.pollFrom k first = (slaveChosen u n).sendPoll (wakesFirst first u n) (nextPoll u n) := by
  unfold State.pollFrom
  rw [h]
  rfl

theorem slaveChosen_session {u : State} {n : Nat} (hn : n < u.pl.sessions.length) :
    (slaveChosen u n).pl.session n = sessionPolled (u.on_ 0x1920 (n + 1)) u.frame.absTick (u.pl.session n) :=
  session_modSession_same _ hn

/-- The POLL frame under its toggled TOG. -/
theorem pollBytes_chosen {u : State} {n : Nat} (hn : n < u.pl.sessions.length) :
    (slaveChosen u n).pollBytes (nextPoll u n) =
      [(u.pl.session n).gen % 16 * 16, (1 - (u.pl.session n).tog % 2) * 128 + (pollPayload u n).length] ++
        leBytes 2 (u.on_ 0x1920 (n + 1)) ++ leBytes 2 u.plAddress ++ pollPayload u n := by
  have hslave : (nextPoll u n).slave = n := rfl
  unfold State.pollBytes
  rw [hslave, slaveChosen_session hn]
  rfl

theorem pollFrom_goesOn {k : Nat} {first : Bool} {u : State} (hlen : u.pl.sessions.length = 24) : GoesOn k first u (u.pollFrom k first) := by
  cases hnext : (List.range 24).find? fun n => decide (k ≤ n) && u.on_ 0x1920 (n + 1) != 0 with
  | none =>
    have hnone : ∀ m, k ≤ m → m < 24 → u.on_ 0x1920 (m + 1) = 0 := by
      intro m hk hm
      simpa [hk] using List.find?_eq_none.1 hnext m (List.mem_range.2 hm)
    have hover : u.pollFrom k first = u.modPl fun p => { p with poll := none, cycleOn := false } := by
      unfold State.pollFrom
      rw [hnext]
    rw [hover]
    exact ⟨⟨fun _ => ⟨rfl, rfl, rfl, rfl⟩, fun n hk hn _ hset => absurd (hnone n hk hn) hset⟩, fun _ _ => rfl, fun _ _ => rfl, rfl, rfl⟩
  | some n =>
    obtain ⟨⟨hk, hn, hset⟩, hfirst⟩ := (nextSlave_iff u k n).1 hnext
    have hnu : n < u.pl.sessions.length := hlen ▸ hn
    obtain ⟨x, hsend, hsent, hroom, hbytes, hhalves⟩ := sendPoll_eq (wakesFirst first u n) (nextPoll u n) (slaveChosen u n)
    have hother : ∀ m, m ≠ n → (slaveChosen u n).pl.session m = u.pl.session m := fun m hm => session_modSession_other u.pl _ hm
    rw [pollBytes_chosen hnu] at hbytes
    rw [pollFrom_of_some hnext, hsend]
    refine ⟨⟨fun hnone => absurd (hnone n hk hn) hset, fun n' hk' hn' hfirst' hset' => ?_⟩,
      fun m hm => hother m (hm (nextPoll u n) rfl).symm, fun m hm => hother m (by omega), rfl, rfl⟩
    obtain rfl : n' = n := by
      rcases Nat.lt_trichotomy n' n with h | h | h
      · exact absurd (hfirst n' hk' h) hset'
      · exact h
      · exact absurd (hfirst' n hk h) hset
    refine ⟨carriesRequest u n', pollPayload u n', x, (slaveChosen u n').plFrameTx ((slaveChosen u n').pollBytes (nextPoll u n')) 1,
      carriesRequest_iff u n', rfl, rfl, rfl, slaveChosen_session hnu, rfl, pollBytes_chosen hnu, rfl, hsent, hroom, ?_⟩
    have hwake := wakesFirst_iff first u n'
    by_cases h : wakesFirst first u n' = true
    · rw [if_pos (hwake.1 h)]
      rw [h] at hbytes ⊢
      exact ⟨hbytes, hhalves h, rfl, rfl⟩
    · rw [if_neg fun h' => h (hwake.2 h')]
      rw [Bool.not_eq_true] at h
      rw [h] at hbytes ⊢
      exact ⟨hbytes.trans (pollBytes_chosen hnu).symm, rfl⟩

/-- Going on looks at the settings, the mode, the time, the request, the transmission, and the sessions of the slaves to come. -/
theorem Polled_of_alike {k : Nat} {first : Bool} {u v t : State} (hset : v.set = u.set) (hmode : v.mode = u.mode)
    (hnow : v.frame.absTick = u.frame.absTick) (hlocked : v.pl.locked = u.pl.locked) (hrequest : v.pl.request = u.pl.request)
    (htx : v.pl.tx = u.pl.tx) (hnext : v.pl.txNext = u.pl.txNext) (hcycle : v.pl.cycleOn = u.pl.cycleOn)
    (hsession : ∀ n, k ≤ n → v.pl.session n = u.pl.session n) (h : State.Polled u k first t) : State.Polled v k first t := by
  have hon : ∀ i j, v.on_ i j = u.on_ i j := fun i j => by unfold State.on_ State.eff; rw [hset]
  have haddress : v.plAddress = u.plAddress := hon 0x1900 4
  have hroom : v.admitsPulses = u.admitsPulses := admitsPulses_of_settings hmode hset
  unfold State.Polled at h ⊢
  simp only [hon, haddress, hroom, hnow, hlocked, hrequest, htx, hnext, hcycle]
  refine ⟨h.1, fun n hk => ?_⟩
  rw [hsession n hk]
  exact h.2 n hk

/-! ### The commands of the master -/

theorem plCycleStart_of_due {s : State} (hon : s.plOn = true) (hmaster : s.plMaster = true) (hidle : s.pl.cycleOn = false)
    (htx : s.pl.tx = none) (hdue : s.cycleDue = true) :
    plCycleStart s = (s.modPl fun p => { p with cycleOn := true, cycleAt := some s.frame.absTick }).pollFrom 0 true :=
  if_pos (by simp [hon, hmaster, hidle, htx, hdue])

theorem cycleDue_iff (s : State) : s.cycleDue = true ↔
    s.pl.cycleAt = none ∨ ∃ a, s.pl.cycleAt = some a ∧ a + 32768 * s.on_ 0x1900 9 ≤ s.frame.absTick := by
  unfold State.cycleDue
  cases s.pl.cycleAt <;> simp

theorem plCycleStart_of_undue {s : State} (h : s.plOn = false ∨ s.plMaster = false ∨ s.pl.cycleOn = true ∨ s.pl.tx ≠ none ∨
    ∃ a, s.pl.cycleAt = some a ∧ s.frame.absTick < a + 32768 * s.on_ 0x1900 9) : plCycleStart s = s := by
  refine if_neg ?_
  rw [Bool.and_eq_true, Bool.and_eq_true, Bool.and_eq_true, Bool.and_eq_true, cycleDue_iff]
  rintro ⟨⟨⟨⟨hon, hmaster⟩, hidle⟩, htx⟩, hdue⟩
  obtain h | h | h | h | ⟨a, ha, h⟩ := h
  · exact Bool.false_ne_true (h.symm.trans hon)
  · exact Bool.false_ne_true (h.symm.trans hmaster)
  · rw [h] at hidle
    exact Bool.false_ne_true hidle
  · exact h (Option.isNone_iff_eq_none.1 htx)
  · obtain hnone | ⟨c, hc, hlate⟩ := hdue
    · exact Option.some_ne_none _ (ha.symm.trans hnone)
    · obtain rfl : a = c := Option.some.inj (ha.symm.trans hc)
      omega

/-- A payload filled to 24 bytes. -/
def padded (b : List Nat) : List Nat := framePayload b ++ List.replicate (24 - (framePayload b).length) 0

/-- The REPLY of a slave has been taken (R521, R522). -/
def replyTaken (b : List Nat) (rest : List (List Nat)) (q : PlPoll) (s : State) : State :=
  (s.modPl fun p => { (p.modSession q.slave fun x => { x with lost := false, heard := s.frame.absTick }) with
    inbox := rest
    response := if q.request then [q.slave, 1] ++ padded b else p.response
    request := if q.request then none else p.request
    status := if q.request then p.status else setAt p.status q.slave (padded b) }).raise
      (plEvent 44 (128 + 64 + q.slave) (frameSrc b * 65536 + frameLen b))

theorem plReplyReceived_of_awaited {b : List Nat} {rest : List (List Nat)} {q : PlPoll} {s : State} (hinbox : s.pl.inbox = b :: rest)
    (hpoll : s.pl.poll = some q) (h : s.awaitedReply b = true) :
    plReplyReceived s = (replyTaken b rest q s).pollFrom (q.slave + 1) false := by
  unfold plReplyReceived
  rw [hinbox, hpoll]
  exact if_pos h

theorem plReplyReceived_of_none {s : State}
    (h : s.pl.inbox = [] ∨ s.pl.poll = none ∨ ∃ b rest, s.pl.inbox = b :: rest ∧ s.awaitedReply b = false) : plReplyReceived s = s := by
  unfold plReplyReceived
  cases hinbox : s.pl.inbox with
  | nil => rfl
  | cons b rest =>
    cases hpoll : s.pl.poll with
    | none => rfl
    | some q =>
      obtain h | h | ⟨c, rest', h, hnot⟩ := h
      · exact absurd (hinbox.symm.trans h) nofun
      · exact absurd (hpoll.symm.trans h) nofun
      · obtain ⟨rfl, -⟩ := List.cons.inj (hinbox.symm.trans h)
        exact if_neg (Bool.eq_false_iff.1 hnot)

theorem EventsOnly_withPl {u v : State} (h : EventsOnly u v) (p : Powerline) : EventsOnly { u with pl := p } { v with pl := p } := by
  unfold EventsOnly
  rw [h]

theorem EventsOnly_replyTaken (b : List Nat) (rest : List (List Nat)) (q : PlPoll) (s : State) :
    EventsOnly { s with pl := (replyTaken b rest q s).pl } (replyTaken b rest q s) :=
  EventsOnly_raise _ _

/-- A slave has not answered: its session is lost (R515, R522). -/
def slaveLost (q : PlPoll) (s : State) : State :=
  (s.modPl fun p => { (p.modSession q.slave fun x => { x with lost := true }) with
    response := if q.request then [q.slave, 2] ++ List.replicate 24 0 else p.response
    request := if q.request then none else p.request }).raise (plEvent 45 q.slave (s.on_ 0x1920 (q.slave + 1)))

theorem EventsOnly_slaveLost (q : PlPoll) (s : State) : EventsOnly { s with pl := (slaveLost q s).pl } (slaveLost q s) :=
  EventsOnly_raise _ _

theorem plPollTimeout_of_none {s : State} (h : s.pl.poll = none ∨ s.pl.tx ≠ none) : plPollTimeout s = s := by
  unfold plPollTimeout
  cases hpoll : s.pl.poll with
  | none => rfl
  | some q =>
    obtain h | h := h
    · exact absurd (hpoll.symm.trans h) nofun
    · exact if_pos (Option.isSome_iff_ne_none.2 h)

section
variable {q : PlPoll} {s : State} (hpoll : s.pl.poll = some q) (htx : s.pl.tx = none)
include hpoll htx

theorem plPollTimeout_of_repeats (h : q.repeats < s.on_ 0x1900 7) :
    plPollTimeout s = s.sendPoll false { q with repeats := q.repeats + 1 } := by
  unfold plPollTimeout
  rw [hpoll]
  dsimp only
  rw [if_neg (by simp [htx]), if_pos h]

theorem plPollTimeout_of_spent (h : s.on_ 0x1900 7 ≤ q.repeats) : plPollTimeout s = (slaveLost q s).pollFrom (q.slave + 1) false := by
  unfold plPollTimeout
  rw [hpoll]
  dsimp only
  rw [if_neg (by simp [htx]), if_neg (Nat.not_lt.2 h)]
  rfl

end

/-- A session that is idle long enough closes (R520). -/
theorem plSessionIdle_of_idle {n : Nat} {s : State} (haddress : (s.pl.session n).address ≠ 0)
    (hidle : (s.pl.session n).heard + 32768 * s.on_ 0x1900 8 ≤ s.frame.absTick) :
    plSessionIdle n s = s.modPl fun p => p.modSession n fun _ => PlSession.free := if_pos ⟨haddress, hidle⟩

/-! ### The request of the master -/

/-- An accepted write is answered in a state that opening its envelope has changed, where it passes the checks with its value. -/
theorem take_accepted_value {s : State} {r : Request} {index sub : Nat} {value : List Nat} (h : s.accepts r index sub value) :
    ∃ (u : State) (row : Row) (a : Ask), Carried s u ∧ PassesChecks u row a ∧ a.index = index ∧ a.sub = sub ∧ a.data = value ∧
      Carried (u.commitWrite row a).1 (s.take r) := by
  obtain ⟨hserves, hform, row, role, env, hrow, hauth, hcustomer, hop, haccess, hseal, hfits, hvalue, hmode, hstate⟩ := h
  have hok : ((s.expect r).authenticate r).2.1 = abortOk := by rw [hauth]
  have hpass : PassesChecks ((s.expect r).authenticate r).1 row
      { via := r.via, gen := r.gen, index := index, sub := sub, data := value, role := role, env := env } :=
    ⟨hrow, haccess, hseal, hfits, hvalue, hmode, hstate⟩
  have hopened : (s.expect r).authenticate r = (((s.expect r).authenticate r).1, abortOk, _) := Prod.ext rfl hauth
  have htake := (take_authenticated hserves hform hopened hcustomer).trans (if_neg hop)
  refine ⟨_, row, _, Carried_trans (Carried_expect r s) (Carried_authenticate r _ hok), hpass, rfl, rfl, rfl, ?_⟩
  rw [htake]
  exact Carried_trans (Carried_write hpass) (Carried_answer _ _ _ _ _)

theorem Carried_masterRequest {s u : State} (h : Carried s u) (data : List Nat) (w : Settings) :
    Carried { s.putMasterRequest data with set := w } { u.putMasterRequest data with set := w } := by
  unfold Carried State.putMasterRequest
  rw [h]

/-- The line of PL_MASTER_REQUEST holds no setting of the flow engine. -/
theorem perform_masterRequest {row : Row} {a : Ask} (s : State) (hrow : rowOf (key 0x1921 1) = some row) (hindex : a.index = 0x1921)
    (hsub : a.sub = 1) :
    ∃ w : Settings, s.perform row a = { s.putMasterRequest a.data with set := w } ∧
      Pairs.get defaultOf w.stored (key 0x1921 1) = ofLe a.data := by
  obtain ⟨via, gen, index, sub, data, role, env⟩ := a
  dsimp only at hindex hsub
  subst hindex hsub
  have hline : (rowOf (key 0x1921 1)).map Row.index = some 0x1921 := by decide +kernel
  rw [hrow] at hline
  have hflow : ¬(0x0C00 ≤ row.index ∧ row.index < 0x0D00) := by
    rw [Option.some.inj hline]
    decide
  have hstands : (s.putMasterRequest data).flowChanged row (key 0x1921 1) (ofLe data) = s.putMasterRequest data :=
    if_neg fun h => hflow ⟨h.1, h.2.1⟩
  have hlater : ¬atBoundary 0x1921 = true := by decide
  have hput : s.perform row ⟨via, gen, 0x1921, 1, data, role, env⟩ =
      (s.putMasterRequest data).putValue row ⟨via, gen, 0x1921, 1, data, role, env⟩ := rfl
  rw [hput]
  unfold State.putValue
  dsimp only
  rw [storedKey_eq_key _ 1 (show ¬(0x1210 ≤ 0x1921 ∧ 0x1921 ≤ 0x127F) by decide), if_neg hlater]
  simp only [Ask.value, hstands]
  split
  · exact ⟨_, rfl, Pairs_get_set_same _ _ _ _⟩
  · exact ⟨_, rfl, Pairs_get_set_same _ _ _ _⟩

/-- Settles O56, from how the cycle goes on (`pollFrom_goesOn`), and how a POLL is sent (`sendPoll_eq`). -/
theorem theMasterPollsItsSlaves : Obligations.TheMasterPollsItsSlaves := by
  unfold Obligations.TheMasterPollsItsSlaves
  refine ⟨fun s => ⟨fun hundue => ?undue, fun hon hmaster hidle htx hlen hdue => ?due⟩, fun s hnone => ?noReply,
    fun b rest q s hinbox hpoll hawaited hslave hlen hstatus => ?reply, fun s hnone => ?noTimeout,
    fun q s hpoll htx hslave hlen => ⟨fun hleft => ?again, fun hspent => ?lost⟩, fun p data s haccepts => ?request,
    fun n s hn => ⟨fun hfresh => ?heard, fun haddress hidle => ?idle⟩⟩
  case undue => exact congrArg Host.Outcome.next (plCycleStart_of_undue hundue)
  case due =>
    have h := pollFrom_goesOn (k := 0) (first := true)
      (u := s.modPl fun p => { p with cycleOn := true, cycleAt := some s.frame.absTick }) hlen
    refine ⟨_, congrArg Host.Outcome.next (plCycleStart_of_due hon hmaster hidle htx ((cycleDue_iff s).2 hdue)),
      Polled_of_alike rfl rfl rfl rfl rfl rfl rfl rfl (fun _ _ => rfl) h.polled, h.others, ?_, h.rest⟩
    exact h.link
  case noReply => exact congrArg Host.Outcome.next (plReplyReceived_of_none hnone)
  case reply =>
    have hslave' : q.slave < s.pl.sessions.length := hlen ▸ hslave
    have h := pollFrom_goesOn (k := q.slave + 1) (first := false) (u := replyTaken b rest q s)
      ((modSession_length s.pl q.slave _).trans hlen)
    have hother : ∀ m, m ≠ q.slave → (replyTaken b rest q s).pl.session m = s.pl.session m :=
      fun m hm => session_modSession_other s.pl _ hm
    have hevents := EventsOnly_withPl (EventsOnly_replyTaken b rest q s) ((replyTaken b rest q s).pollFrom (q.slave + 1) false).pl
    rw [← h.rest] at hevents
    generalize ht : (replyTaken b rest q s).pollFrom (q.slave + 1) false = t at h hevents
    have hdone := (plReplyReceived_of_awaited hinbox hpoll hawaited).trans ht
    have hinbox' : t.pl.inbox = rest := by rw [h.link]; rfl
    have hresponse : t.pl.response = if q.request then [q.slave, 1] ++ padded b else s.pl.response := by rw [h.link]; rfl
    have hrequest : t.pl.request = if q.request then none else s.pl.request := by rw [h.link]; rfl
    have hstatus' : t.pl.status = if q.request then s.pl.status else setAt s.pl.status q.slave (padded b) := by rw [h.link]; rfl
    refine ⟨t, congrArg Host.Outcome.next hdone, hinbox', (h.before q.slave (Nat.lt_succ_self _)).trans (session_modSession_same _ hslave'),
      fun hq => ?_, fun hq => ?_, Polled_of_alike (u := replyTaken b rest q s) rfl rfl rfl rfl hrequest rfl rfl rfl
        (fun n hn => (hother n (by omega)).symm) h.polled,
      fun m hm hpolled => (h.others m hpolled).trans (hother m hm), ?_⟩
    · rw [hresponse, hrequest, hstatus', hq]
      exact ⟨(List.append_assoc _ _ _).symm, rfl, rfl⟩
    · rw [hresponse, hrequest, hstatus', hq, if_neg Bool.false_ne_true, if_neg Bool.false_ne_true, if_neg Bool.false_ne_true, setAt_eq_set]
      exact ⟨List.getElem?_set_self (hstatus ▸ hslave), fun m hm => List.getElem?_set_ne hm.symm, rfl, rfl⟩
    · have hpl : t.pl = { s.pl with
          inbox := rest, sessions := t.pl.sessions, poll := t.pl.poll, tx := t.pl.tx, txNext := t.pl.txNext, cycleOn := t.pl.cycleOn
          response := t.pl.response, request := t.pl.request, status := t.pl.status } := by
        rw [h.link]
        rfl
      rw [← hpl]
      exact hevents
  case noTimeout => exact congrArg Host.Outcome.next (plPollTimeout_of_none hnone)
  case again =>
    obtain ⟨x, hsend, hsent, hroom, hbytes, -⟩ := sendPoll_eq false { q with repeats := q.repeats + 1 } s
    have hagain := (plPollTimeout_of_repeats hpoll htx hleft).trans hsend
    refine ⟨_, congrArg Host.Outcome.next hagain, rfl, ⟨x, rfl, hsent, hroom, hbytes⟩, rfl, rfl⟩
  case lost =>
    have hslave' : q.slave < s.pl.sessions.length := hlen ▸ hslave
    have h := pollFrom_goesOn (k := q.slave + 1) (first := false) (u := slaveLost q s) ((modSession_length s.pl q.slave _).trans hlen)
    have hother : ∀ m, m ≠ q.slave → (slaveLost q s).pl.session m = s.pl.session m :=
      fun m hm => session_modSession_other s.pl _ hm
    have hevents := EventsOnly_withPl (EventsOnly_slaveLost q s) ((slaveLost q s).pollFrom (q.slave + 1) false).pl
    rw [← h.rest] at hevents
    generalize ht : (slaveLost q s).pollFrom (q.slave + 1) false = t at h hevents
    have hdone := (plPollTimeout_of_spent hpoll htx hspent).trans ht
    have hresponse : t.pl.response = if q.request then [q.slave, 2] ++ List.replicate 24 0 else s.pl.response := by rw [h.link]; rfl
    have hrequest : t.pl.request = if q.request then none else s.pl.request := by rw [h.link]; rfl
    refine ⟨t, congrArg Host.Outcome.next hdone, (h.before q.slave (Nat.lt_succ_self _)).trans (session_modSession_same _ hslave'),
      fun hq => ?_, fun hq => ?_, Polled_of_alike (u := slaveLost q s) rfl rfl rfl rfl hrequest rfl rfl rfl
        (fun n hn => (hother n (by omega)).symm) h.polled,
      fun m hm hpolled => (h.others m hpolled).trans (hother m hm), ?_⟩
    · rw [hresponse, hrequest, hq]
      exact ⟨rfl, rfl⟩
    · rw [hresponse, hrequest, hq]
      exact ⟨rfl, rfl⟩
    · have hpl : t.pl = { s.pl with
          sessions := t.pl.sessions, poll := t.pl.poll, tx := t.pl.tx, txNext := t.pl.txNext, cycleOn := t.pl.cycleOn
          response := t.pl.response, request := t.pl.request } := by
        rw [h.link]
        rfl
      rw [← hpl]
      exact hevents
  case request =>
    obtain ⟨u, row, a, hu, hpass, hindex, hsub, hdata, hcarried⟩ := take_accepted_value haccepts
    rw [← ask_eq_take_accepted haccepts, commitWrite_eq_perform row u (by omega) (by omega)] at hcarried
    have hrow : rowOf (key 0x1921 1) = some row := by
      rw [← hindex, ← hsub]
      exact hpass.listed
    obtain ⟨w, hperform, hstored⟩ := perform_masterRequest u hrow hindex hsub
    rw [hperform, hdata] at hcarried
    have hset : (s.ask p 0x1921 1 data).set = w := Carried_set hcarried
    refine ⟨_, rfl, ?_, ?_⟩
    · rw [hset]
      exact Carried_trans (Carried_masterRequest hu data w) hcarried
    · show Pairs.get defaultOf (s.ask p 0x1921 1 data).set.stored (key 0x1921 1) = ofLe data
      rw [hset, hstored, hdata]
  case heard =>
    have hstill : plSessionIdle n s = s := if_neg fun h => hfresh.elim h.1 fun hlate => Nat.not_le.2 hlate h.2
    exact congrArg Host.Outcome.next hstill
  case idle =>
    refine ⟨_, congrArg Host.Outcome.next (plSessionIdle_of_idle haddress hidle), session_modSession_same _ hn,
      fun m hm => session_modSession_other s.pl _ hm, rfl⟩

end Sys2Proof.Proofs
end

section
/-! PROOF. Display updates: how a request begins to wait or is queued, how the ledger places its bursts and admits it, and what a burst
does (R530 to R532, R538 to R541). -/

namespace Sys2Proof.Proofs

open Sys2Proof Sys2Proof.Machine Sys2Proof.Laws

/-! ### Regions -/

theorem region_modRegion_same {d : Display} {r : Nat} (f : Region → Region) (h : r < d.regions.length) :
    (d.modRegion r f).region r = f (d.region r) := by
  have hx : d.regions[r]? = some d.regions[r] := List.getElem?_eq_getElem h
  simp only [Display.region, Display.modRegion, List.getD_eq_getElem?_getD, modAt_getElem?_same f hx, hx, Option.getD_some]

theorem region_modRegion_other (d : Display) {r q : Nat} (f : Region → Region) (h : q ≠ r) :
    (d.modRegion r f).region q = d.region q := by
  simp only [Display.region, Display.modRegion, List.getD_eq_getElem?_getD, modAt_getElem?_other _ f h]

theorem modAt_congr {α : Type} {l : List α} {n : Nat} {f g : α → α} (h : ∀ x, l[n]? = some x → f x = g x) : modAt l n f = modAt l n g := by
  refine List.ext_getElem? fun m => ?_
  by_cases hm : m = n
  · subst hm
    cases hx : l[m]? with
    | none => rw [modAt_eq_modify, modAt_eq_modify, List.getElem?_modify_eq, List.getElem?_modify_eq, hx]; rfl
    | some x => rw [modAt_getElem?_same f hx, modAt_getElem?_same g hx, h x hx]
  · rw [modAt_getElem?_other l f hm, modAt_getElem?_other l g hm]

/-- Two changes of a region that agree on it are the same. -/
theorem modRegion_congr {d : Display} {r : Nat} {f g : Region → Region} (h : f (d.region r) = g (d.region r)) :
    d.modRegion r f = d.modRegion r g := by
  unfold Display.modRegion
  rw [modAt_congr (f := f) (g := g) fun x hx => ?_]
  have hregion : d.region r = x := by
    simp only [Display.region, List.getD_eq_getElem?_getD, hx, Option.getD_some]
  rwa [hregion] at h

/-! ### Requests -/

/-- The frame in which a display job begins to wait, whatever came of it before. -/
def jobWaits (r : Nat) (f : Frame) : Frame := { f with
  dynamic := f.dynamic.filter (fun j => j != dispJob r) ++ [dispJob r]
  tried := f.tried.filter (fun j => j != dispJob r)
  waiting := f.waiting.filter (fun j => j != dispJob r) }

theorem request_of_finished (r : Nat) (f : Frame) : (f.finish (dispJob r)).request (dispJob r) = jobWaits r f := by
  have hgone : ((f.finish (dispJob r)).dynamic.contains (dispJob r) || (f.finish (dispJob r)).waiting.contains (dispJob r)) = false := by
    simp [Frame.finish]
  unfold Frame.request
  rw [hgone]
  rfl

/-- The state in which a region's update begins to wait, one that it replaces counted (R531). -/
def updateAwaits (r : Nat) (target : List Nat) (s : State) : State := { s with
  disp := { s.disp.modRegion r (fun g => { g with run := some (DispRun.wait target s.disp.credit) }) with
    superseded := if (s.disp.region r).run = none then s.disp.superseded else min (2 ^ 32 - 1) (s.disp.superseded + 1) }
  pwr := s.pwr.switchOn s.frame.now 5
  frame := jobWaits r s.frame }

/-- The state in which the targets are queued behind a running update (R532). -/
def updateQueued (r : Nat) (target : List Nat) (s : State) : State := { s with
  disp := { s.disp.modRegion r (fun g => { g with queued := some target }) with
    superseded := if (s.disp.region r).queued = none then s.disp.superseded else min (2 ^ 32 - 1) (s.disp.superseded + 1) } }

theorem requestUpdate_of_free {r : Nat} {s : State} (target : List Nat)
    (h : (s.disp.region r).run = none ∨ ∃ u, (s.disp.region r).run = some u ∧ u.started = false) :
    EventsOnly (updateAwaits r target s) (s.requestUpdate target r) := by
  unfold State.requestUpdate updateAwaits State.awaitUpdate
  rw [request_of_finished]
  dsimp only
  obtain h | ⟨u, h, hwaits⟩ := h
  · rw [h, if_pos rfl]
    exact EventsOnly_refl _
  · rw [h, if_neg (Option.some_ne_none u)]
    dsimp only
    rw [if_pos (by rw [hwaits]; rfl)]
    exact EventsOnly_raise _ _

theorem requestUpdate_of_started {r : Nat} {u : DispRun} {s : State} (target : List Nat) (h : (s.disp.region r).run = some u)
    (hstarted : u.started = true) : EventsOnly (updateQueued r target s) (s.requestUpdate target r) := by
  unfold State.requestUpdate updateQueued
  dsimp only
  rw [h]
  dsimp only
  rw [if_neg (show ¬(!u.started) = true by rw [hstarted]; decide)]
  refine EventsOnly_trans ?_ (EventsOnly_raise _ _)
  cases (s.disp.region r).queued <;> exact EventsOnly_refl _

/-- A word that names one region asks for that region. -/
theorem dispUpdate_one {r : Nat} {s : State} (hr : r < 16) (hmode : s.dispMode = 1) :
    s.dispUpdate (2 ^ r) = s.requestUpdate (levelsOf (s.at_ 0x1A02 1)) r := by
  have hone : ∀ r < 16, (List.range 16).filter (fun q => bitAt (2 ^ r) q) = [r] := by decide
  unfold State.dispUpdate
  rw [if_pos hmode, hone r hr]
  rfl

theorem Carried_dispMode {s u : State} (h : Carried s u) : u.dispMode = s.dispMode := by
  rw [h]
  rfl

theorem Carried_disp {s u : State} (h : Carried s u) : u.disp = s.disp := by rw [h]

theorem Carried_updateAwaits {s u : State} (h : Carried s u) (r : Nat) (target : List Nat) :
    Carried (updateAwaits r target s) (updateAwaits r target u) := by
  unfold Carried updateAwaits
  rw [h]
  rfl

theorem Carried_updateQueued {s u : State} (h : Carried s u) (r : Nat) (target : List Nat) :
    Carried (updateQueued r target s) (updateQueued r target u) := by
  unfold Carried updateQueued
  rw [h]

section
variable {p : Sender} {w : Nat} {s : State} (hw : w < 65536) (haccepts : s.acceptsWrite p 0x1A02 2 (leBytes 2 w))
include hw haccepts

/-- DISP_UPDATE is carried out in a state that carrying it has changed. -/
theorem ask_dispUpdate : ∃ u, Carried s u ∧ Carried (u.dispUpdate w) (s.ask p 0x1A02 2 (leBytes 2 w)) := by
  obtain ⟨u, hu, hcarried⟩ := ask_effect (fun w => State.dispUpdate w) haccepts (fun _ _ _ _ _ _ _ => rfl)
  rw [ofLe_leBytes2 w hw] at hcarried
  exact ⟨u, hu, hcarried⟩

theorem ask_dispUpdate_unpapered (hmode : s.dispMode ≠ 1) : Carried s (s.ask p 0x1A02 2 (leBytes 2 w)) := by
  obtain ⟨u, hu, hcarried⟩ := ask_dispUpdate hw haccepts
  have hstands : u.dispUpdate w = u := if_neg (by rwa [Carried_dispMode hu])
  exact Carried_trans hu (hstands ▸ hcarried)

end

section
variable {p : Sender} {r : Nat} {s : State} (hr : r < 16) (haccepts : s.acceptsWrite p 0x1A02 2 (leBytes 2 (2 ^ r))) (hmode : s.dispMode = 1)
include hr haccepts hmode

theorem ask_dispUpdate_of_free (h : (s.disp.region r).run = none ∨ ∃ u, (s.disp.region r).run = some u ∧ u.started = false) :
    Carried (updateAwaits r (levelsOf (s.at_ 0x1A02 1)) s) (s.ask p 0x1A02 2 (leBytes 2 (2 ^ r))) := by
  obtain ⟨u, hu, hcarried⟩ := ask_dispUpdate (Nat.pow_lt_pow_right (by decide) hr) haccepts
  have hat : u.at_ 0x1A02 1 = s.at_ 0x1A02 1 := congrFun (Carried_get hu) _
  rw [dispUpdate_one hr ((Carried_dispMode hu).trans hmode), hat] at hcarried
  exact Carried_trans (Carried_updateAwaits hu r _) (Carried_trans
    (Carried_of_EventsOnly (requestUpdate_of_free _ (by rwa [Carried_disp hu]))) hcarried)

theorem ask_dispUpdate_of_started {x : DispRun} (h : (s.disp.region r).run = some x) (hstarted : x.started = true) :
    Carried (updateQueued r (levelsOf (s.at_ 0x1A02 1)) s) (s.ask p 0x1A02 2 (leBytes 2 (2 ^ r))) := by
  obtain ⟨u, hu, hcarried⟩ := ask_dispUpdate (Nat.pow_lt_pow_right (by decide) hr) haccepts
  have hat : u.at_ 0x1A02 1 = s.at_ 0x1A02 1 := congrFun (Carried_get hu) _
  rw [dispUpdate_one hr ((Carried_dispMode hu).trans hmode), hat] at hcarried
  exact Carried_trans (Carried_updateQueued hu r _) (Carried_trans
    (Carried_of_EventsOnly (requestUpdate_of_started _ (by rwa [Carried_disp hu]) hstarted)) hcarried)

end

/-! ### Placing the bursts of an update (R539, R540) -/

/-- Where a burst can be placed: clear of the commit slot, of the shots of the frame and of the other bursts, and ended by E_k. -/
theorem clear_of_unblocked {taken : List Nat} {b : Nat} {s : State} (h : s.burstBlocked taken b = none) :
    (∀ o ∈ taken, o + burstCycles ≤ b ∨ b + burstCycles ≤ o) ∧
      (b < s.frame.length * 15625 / 8 → 3840 ≤ b ∧ (b + burstCycles) * 125 + s.plSetAside ≤ s.limit ∧
        ∀ q ∈ s.frame.planned, q.start + q.length ≤ b * 125 ∨ (b + burstCycles) * 125 ≤ q.start) := by
  unfold State.burstBlocked at h
  dsimp only at h
  by_cases hopen : (s.frameAt b).2 < 3840
  · rw [if_pos hopen] at h
    exact absurd h (Option.some_ne_none _)
  rw [if_neg hopen] at h
  by_cases hends : (if (s.frameAt b).1 = 0 then s.limit else closingLimit s.period s.period) <
      ((s.frameAt b).2 + burstCycles) * 125 + s.plSetAside
  · rw [if_pos hends] at h
    exact absurd h (Option.some_ne_none _)
  rw [if_neg hends, Option.or_eq_none_iff, Option.map_eq_none_iff, Option.map_eq_none_iff, List.find?_eq_none, List.find?_eq_none] at h
  obtain ⟨hshots, htaken⟩ := h
  refine ⟨fun o ho => ?_, fun hin => ?_⟩
  · have hclear := htaken o ho
    simp only [Bool.and_eq_true, decide_eq_true_eq] at hclear
    omega
  · have hframe : s.frameAt b = (0, b) := if_pos hin
    rw [hframe] at hopen hends hshots
    rw [if_pos rfl] at hends
    refine ⟨Nat.not_lt.1 hopen, Nat.not_lt.1 hends, fun q hq => ?_⟩
    have hclear := hshots q hq
    simp only [Bool.and_eq_true, decide_eq_true_eq] at hclear
    omega

/-- The earliest place of a burst is free, and no earlier than asked. -/
theorem earliestBurst_spec {taken : List Nat} {trials cyc t : Nat} {s : State} (h : s.earliestBurst taken trials cyc = some t) :
    s.burstBlocked taken t = none ∧ cyc ≤ t := by
  induction trials generalizing cyc with
  | zero => exact absurd h nofun
  | succ n ih =>
    unfold State.earliestBurst at h
    split at h
    · next hfree =>
      obtain rfl : cyc = t := Option.some.inj h
      exact ⟨hfree, Nat.le_refl _⟩
    · next u _ =>
      split at h
      · exact absurd h nofun
      · obtain ⟨hfree, hle⟩ := ih h
        exact ⟨hfree, by omega⟩

theorem placePre_spec {taken : List Nat} {n cyc : Nat} {ts : List Nat} {s : State} (h : s.placePre taken n cyc = some ts) :
    ts.length = n ∧ ∀ b ∈ ts, s.burstBlocked taken b = none := by
  induction n generalizing cyc ts with
  | zero =>
    obtain rfl : [] = ts := Option.some.inj h
    exact ⟨rfl, nofun⟩
  | succ n ih =>
    unfold State.placePre at h
    split at h
    · exact absurd h nofun
    · next t hfirst =>
      obtain ⟨l, hl, rfl⟩ := Option.map_eq_some_iff.1 h
      obtain ⟨hlength, hrest⟩ := ih hl
      exact ⟨by rw [List.length_cons, hlength], List.forall_mem_cons.2 ⟨(earliestBurst_spec hfirst).1, hrest⟩⟩

/-- In-run bursts lie in their spans. -/
theorem placeRun_spec {taken : List Nat} {start : Nat → Nat} {added : List Nat} {n i cyc : Nat} {ts : List Nat} {s : State}
    (h : s.placeRun taken start added n i cyc = some ts) :
    ts.length = n ∧ (∀ b ∈ ts, s.burstBlocked taken b = none) ∧
      ∀ k b, ts[k]? = some b → start (natAt added (i + k)) ≤ b ∧ b + burstCycles ≤ start (natAt added (8 + (i + k))) := by
  induction n generalizing i cyc ts with
  | zero =>
    obtain rfl : [] = ts := Option.some.inj h
    exact ⟨rfl, nofun, fun k b hb => absurd hb nofun⟩
  | succ n ih =>
    unfold State.placeRun at h
    split at h
    · exact absurd h nofun
    · next t hfirst =>
      split at h
      · next hspan =>
        obtain ⟨l, hl, rfl⟩ := Option.map_eq_some_iff.1 h
        obtain ⟨hlength, hrest, hspans⟩ := ih hl
        obtain ⟨hfree, hle⟩ := earliestBurst_spec hfirst
        refine ⟨by rw [List.length_cons, hlength], List.forall_mem_cons.2 ⟨hfree, hrest⟩, fun k b hb => ?_⟩
        cases k with
        | zero =>
          obtain rfl : t = b := Option.some.inj hb
          exact ⟨le_trans (le_max_right _ _) hle, hspan⟩
        | succ k =>
          have hspan' := hspans k b hb
          rwa [Nat.add_assoc, Nat.add_comm 1 k] at hspan'
      · exact absurd h nofun

/-- The plan of an update, with every burst at its place (R540). -/
theorem placeUpdate_spec {r : Nat} {u v : DispRun} {ts : List Nat} {s : State} (h : s.placeUpdate r u = some (v, ts)) :
    (∀ b ∈ ts, s.burstBlocked (s.otherBursts r) b = none) ∧
      ∀ w clock added, s.planUpdate r u (ts.take u.pre) = (w, clock, added) →
        v = w ∧ ts.length = u.pre + (added.length - 8) ∧
        ∀ i b, i < added.length - 8 → ts[u.pre + i]? = some b →
          s.frame.cycOfTick (phaseTick clock (v.first + natAt added i)) ≤ b ∧
          b + burstCycles ≤ s.frame.cycOfTick (phaseTick clock (v.first + natAt added (8 + i))) := by
  unfold State.placeUpdate at h
  split at h
  · exact absurd h nofun
  · next pre hpre =>
    obtain ⟨run, hrun, hpair⟩ := Option.map_eq_some_iff.1 h
    obtain ⟨rfl, rfl⟩ := Prod.mk.inj hpair
    obtain ⟨hlength, hfree⟩ := placePre_spec hpre
    obtain ⟨hlength', hfree', hspans⟩ := placeRun_spec hrun
    refine ⟨fun b hb => (List.mem_append.1 hb).elim (hfree b) (hfree' b), fun w clock added hplan => ?_⟩
    rw [List.take_append_of_le_length (by omega), List.take_of_length_le (by omega)] at hplan
    rw [hplan] at hlength' hspans
    refine ⟨by rw [hplan], by rw [List.length_append, hlength, hlength'], fun i b hi hb => ?_⟩
    rw [List.getElem?_append_right (by omega), hlength, Nat.add_sub_cancel_left] at hb
    have hspan := hspans i b hb
    rw [Nat.zero_add] at hspan
    rwa [hplan]

theorem planUpdate_bursts {r : Nat} {u w : DispRun} {clock : Nat} {pre added : List Nat} {s : State}
    (h : s.planUpdate r u pre = (w, clock, added)) : w.bursts = u.pre + (added.length - 8) := by
  have hrun : (s.planUpdate r u pre).1 = w := by rw [h]
  have hadded : (s.planUpdate r u pre).2.2 = added := by rw [h]
  rw [← hrun, ← hadded]
  rfl

/-! ### Admission (R540) -/

section
variable {r : Nat} {starts : List Nat} {s : State}

theorem displayUpdateAdmitted_of_idle
    (h : (s.disp.region r).run = none ∨ (∃ u, (s.disp.region r).run = some u ∧ u.started = true) ∨ dispJob r ∉ s.frame.dynamic ∨
      dispJob r ∈ s.frame.tried ∨ s.updateNext r = false ∨ s.dispMode ≠ 1 ∨ s.frame.running = false) :
    displayUpdateAdmitted r starts s = s := by
  unfold displayUpdateAdmitted
  cases hrun : (s.disp.region r).run with
  | none => rfl
  | some u =>
    refine if_pos ?_
    obtain h | ⟨x, hx, h⟩ | h | h | h | h | h := h
    · exact absurd (hrun.symm.trans h) (Option.some_ne_none u)
    · obtain rfl : u = x := Option.some.inj (hrun.symm.trans hx)
      simp [h]
    all_goals simp [h]

/-- What considering an update comes to, once its bursts are placed. -/
def updatePlaced (r : Nat) (starts : List Nat) (s : State) : Option (DispRun × List Nat) → State
  | none => { s with frame := s.frame.refuse (dispJob r) }
  | some (v, ts) =>
    if s.limit < max s.frame.acEnd s.frame.nowQ + (s.burstSlack (ts ++ s.otherBursts r) - s.burstSlack (s.otherBursts r)) + s.plSetAside then
      { s with frame := s.frame.refuse (dispJob r) }
    else if starts = ts then
      { s with
        disp := s.disp.modRegion r fun g => { g with run := some { v with at_ := ts.map fun t => s.frame.base + 8 * t } }
        frame := { s.frame.accept (dispJob r) with
          acEnd := s.frame.acEnd + (s.burstSlack (ts ++ s.otherBursts r) - s.burstSlack (s.otherBursts r)) } }
    else s

theorem displayUpdateAdmitted_of_next {u : DispRun} (hrun : (s.disp.region r).run = some u) (hwaits : u.started = false)
    (hdynamic : dispJob r ∈ s.frame.dynamic) (htried : dispJob r ∉ s.frame.tried) (hnext : s.updateNext r = true) (hmode : s.dispMode = 1)
    (hrunning : s.frame.running = true) : displayUpdateAdmitted r starts s = updatePlaced r starts s (s.placeUpdate r u) := by
  unfold displayUpdateAdmitted
  rw [hrun]
  dsimp only
  rw [if_neg (by simp [hwaits, hdynamic, htried, hnext, hmode, hrunning])]
  cases s.placeUpdate r u <;> rfl

end

/-! ### Pump bursts (R538, R541) -/

section
variable {r cyc : Nat} {s : State}

theorem burstTime_iff (u : DispRun) (now : Nat) : u.burstTime now = true ↔ ∀ b, u.at_[u.done]? = some b → b = now := by
  unfold DispRun.burstTime
  cases u.at_[u.done]? <;> simp

theorem pumpBurst_of_idle (h : (s.disp.region r).run = none ∨ ∃ u, (s.disp.region r).run = some u ∧
    (s.updateOn r u = false ∨ s.disp.burstDue u = false ∨ ∃ b, u.at_[u.done]? = some b ∧ b ≠ s.frame.base + 8 * cyc)) :
    pumpBurst r cyc s = s := by
  unfold pumpBurst
  obtain h | ⟨u, hrun, h⟩ := h
  · rw [h]
  · rw [hrun]
    refine if_neg ?_
    rw [Bool.and_eq_true, Bool.and_eq_true, burstTime_iff]
    rintro ⟨⟨hon, hdue⟩, htime⟩
    obtain h | h | ⟨b, hb, h⟩ := h
    · exact Bool.false_ne_true (h.symm.trans hon)
    · exact Bool.false_ne_true (h.symm.trans hdue)
    · exact h (htime b hb)

/-- A burst has run: the update has started, and the reservoirs hold one credit more. -/
def burstRun (r cyc : Nat) (u : DispRun) (s : State) : State := { s with
  frame := { s.frame.at_ cyc with waiting := s.frame.waiting.filter (fun j => j != dispJob r) }
  disp := { s.disp.modRegion r (fun g => { g with run := some { u with done := u.done + 1, started := true } }) with
    credit := min 8 (s.disp.credit + 1), pumping := true } }

theorem pumpBurst_of_due {u : DispRun} (hrun : (s.disp.region r).run = some u) (hon : s.updateOn r u = true)
    (hdue : s.disp.burstDue u = true) (htime : ∀ b, u.at_[u.done]? = some b → b = s.frame.base + 8 * cyc) :
    CountsOnly (burstRun r cyc u s) (pumpBurst r cyc s) := by
  unfold pumpBurst
  rw [hrun]
  dsimp only
  rw [if_pos (by rw [hon, hdue, (burstTime_iff u _).2 htime]; rfl)]
  have hstart : ({ s with frame := s.frame.at_ cyc } : State).startUpdate r (fun u => { u with done := u.done + 1 }) = { s with
      frame := { s.frame.at_ cyc with waiting := s.frame.waiting.filter (fun j => j != dispJob r) }
      disp := s.disp.modRegion r (fun g => { g with run := some { u with done := u.done + 1, started := true } }) } := by
    unfold State.startUpdate
    dsimp only
    rw [modRegion_congr (g := fun g => { g with run := some { u with done := u.done + 1, started := true } }) (by rw [hrun]; rfl)]
    rfl
  rw [hstart]
  exact CountsOnly_count _ _

end

/-- Settles O57, from how a request begins to wait (`requestUpdate_of_free`), where the ledger places the bursts of an update
(`placeUpdate_spec`), and what a burst does (`pumpBurst_of_due`). -/
theorem updatesAreRequestedAdmittedAndPumped : Obligations.UpdatesAreRequestedAdmittedAndPumped := by
  unfold Obligations.UpdatesAreRequestedAdmittedAndPumped
  refine ⟨fun p w s hw haccepts hmode => ⟨_, rfl, ask_dispUpdate_unpapered hw haccepts hmode⟩,
    fun p r s hr hlen haccepts hmode => ⟨fun hfree => ?free, fun u hrun hstarted => ?started⟩,
    fun r starts s => ⟨fun hidle => ?idle, fun u hrun hwaits hdynamic htried hnext hmode hrunning => ⟨fun hnone => ?unplaced,
      fun v ts extra hplaced hextra => ⟨fun b hb => ?clear, fun w clock added hplan => ?plan, fun hfull => ?full, fun hroom hother => ?otherTimes,
        fun hroom htimes hr hlen => ?admitted⟩⟩⟩,
    fun r cyc s => ⟨fun hidle => ?noBurst, fun u hr hlen hrun hon hdue htime => ?burst⟩⟩
  case free =>
    have hcarried := ask_dispUpdate_of_free hr haccepts hmode hfree
    have hdisp := Carried_disp hcarried
    refine ⟨_, rfl, ⟨DispRun.wait (levelsOf (s.at_ 0x1A02 1)) s.disp.credit, ?_, rfl, rfl, rfl, rfl, rfl, rfl⟩, fun q hq => ?_, ?_⟩
    · rw [hdisp]
      exact region_modRegion_same _ (hlen ▸ hr)
    · rw [hdisp]
      exact region_modRegion_other s.disp _ hq
    · rw [hdisp]
      exact hcarried
  case started =>
    have hcarried := ask_dispUpdate_of_started hr haccepts hmode hrun hstarted
    have hdisp := Carried_disp hcarried
    refine ⟨_, rfl, ?_, fun q hq => ?_, ?_⟩
    · rw [hdisp]
      exact region_modRegion_same _ (hlen ▸ hr)
    · rw [hdisp]
      exact region_modRegion_other s.disp _ hq
    · rw [hdisp]
      exact hcarried
  case idle => exact congrArg Host.Outcome.next (displayUpdateAdmitted_of_idle hidle)
  case unplaced =>
    have hdone := displayUpdateAdmitted_of_next (starts := starts) hrun hwaits hdynamic htried hnext hmode hrunning
    rw [hnone] at hdone
    exact congrArg Host.Outcome.next hdone
  case clear => exact clear_of_unblocked ((placeUpdate_spec hplaced).1 b hb)
  case plan =>
    obtain ⟨rfl, hcount, hspans⟩ := (placeUpdate_spec hplaced).2 w clock added hplan
    exact ⟨rfl, hcount, (planUpdate_bursts hplan).trans hcount.symm, hspans⟩
  case full =>
    have hdone := displayUpdateAdmitted_of_next (starts := starts) hrun hwaits hdynamic htried hnext hmode hrunning
    rw [hplaced] at hdone
    subst hextra
    exact congrArg Host.Outcome.next (hdone.trans (if_pos hfull))
  case otherTimes =>
    have hdone := displayUpdateAdmitted_of_next (starts := starts) hrun hwaits hdynamic htried hnext hmode hrunning
    rw [hplaced] at hdone
    subst hextra
    exact congrArg Host.Outcome.next (hdone.trans ((if_neg (Nat.not_lt.2 hroom)).trans (if_neg hother)))
  case admitted =>
    have hdone := displayUpdateAdmitted_of_next (starts := starts) hrun hwaits hdynamic htried hnext hmode hrunning
    rw [hplaced] at hdone
    subst hextra
    refine ⟨_, congrArg Host.Outcome.next (hdone.trans ((if_neg (Nat.not_lt.2 hroom)).trans (if_pos htimes))), ?_, fun q hq => ?_, rfl⟩
    · exact congrArg Region.run (region_modRegion_same _ (hlen ▸ hr))
    · exact region_modRegion_other s.disp _ hq
  case noBurst => exact congrArg Host.Outcome.next (pumpBurst_of_idle hidle)
  case burst =>
    have hcounts := pumpBurst_of_due hrun hon hdue htime
    have hdisp : (pumpBurst r cyc s).disp = (burstRun r cyc u s).disp := by rw [hcounts]
    have hframe := CountsOnly_frame hcounts
    refine ⟨_, rfl, ?_, fun q hq => ?_, ?_, hframe, ?_⟩
    · rw [hdisp]
      exact region_modRegion_same _ (hlen ▸ hr)
    · rw [hdisp]
      exact region_modRegion_other s.disp _ hq
    · rw [hdisp]
      rfl
    · rw [hdisp, hframe]
      exact hcounts

end Sys2Proof.Proofs
end

section
/-! PROOF. The waveforms: the start of a run, a phase of the phase clock, the end of a run, and the frames of a multiplexed LCD (R532 to
R535, R541 to R550). -/

namespace Sys2Proof.Proofs

open Sys2Proof Sys2Proof.Machine Sys2Proof.Laws

/-! ### Folds that write places of a list -/

section
variable {α β : Type} {place : β → Nat}

theorem foldl_setAt_length (place : β → Nat) (value : β → α) (cs : List β) (l : List α) :
    (cs.foldl (fun l c => setAt l (place c) (value c)) l).length = l.length :=
  List.foldlRecOn (motive := fun m : List α => m.length = l.length) _ _ rfl fun m hm c _ => by
    rw [setAt_eq_set, List.length_set, hm]

theorem foldl_setAt_getElem?_of_unnamed (value : β → α) {cs : List β} (l : List α) {i : Nat} (h : ∀ c ∈ cs, place c ≠ i) :
    (cs.foldl (fun l c => setAt l (place c) (value c)) l)[i]? = l[i]? :=
  List.foldlRecOn (motive := fun m : List α => m[i]? = l[i]?) _ _ rfl fun m hm c hc => by
    rw [setAt_eq_set, List.getElem?_set_ne (h c hc), hm]

/-- Where all that name a place agree on its value, it holds that value. -/
theorem foldl_setAt_getElem?_of_named {value : β → α} {cs : List β} {l : List α} {c : β} (hc : c ∈ cs) (hlen : place c < l.length)
    (hagree : ∀ b ∈ cs, place b = place c → value b = value c) :
    (cs.foldl (fun l c => setAt l (place c) (value c)) l)[place c]? = some (value c) := by
  induction cs using List.reverseRecOn with
  | nil => exact absurd hc List.not_mem_nil
  | append_singleton cs b ih =>
    rw [List.foldl_append, List.foldl_cons, List.foldl_nil, setAt_eq_set]
    by_cases hplace : place b = place c
    · rw [hplace, List.getElem?_set_self (by rwa [foldl_setAt_length]),
        hagree b (List.mem_append_right _ (List.mem_singleton_self b)) hplace]
    · rw [List.getElem?_set_ne hplace]
      refine ih ((List.mem_append.1 hc).resolve_right fun h => ?_) fun d hd => hagree d (List.mem_append_left _ hd)
      exact hplace (by rw [List.mem_singleton.1 h])

theorem foldl_modAt_getElem?_of_unnamed (change : β → α → α) {cs : List β} (l : List α) {i : Nat} (h : ∀ c ∈ cs, place c ≠ i) :
    (cs.foldl (fun l c => modAt l (place c) (change c)) l)[i]? = l[i]? :=
  List.foldlRecOn (motive := fun m : List α => m[i]? = l[i]?) _ _ rfl fun m hm c hc => by
    rw [modAt_getElem?_other m _ (h c hc).symm, hm]

/-- A place that is named once is changed once. -/
theorem foldl_modAt_getElem?_of_named (change : β → α → α) {cs : List β} (l : List α) {c : β} (hc : c ∈ cs)
    (honce : (cs.map place).Nodup) :
    (cs.foldl (fun l c => modAt l (place c) (change c)) l)[place c]? = l[place c]?.map (change c) := by
  induction cs generalizing l with
  | nil => exact absurd hc List.not_mem_nil
  | cons b cs ih =>
    rw [List.map_cons, List.nodup_cons] at honce
    obtain ⟨hfresh, hrest⟩ := honce
    rw [List.foldl_cons]
    obtain rfl | hc := List.mem_cons.1 hc
    · rw [foldl_modAt_getElem?_of_unnamed change _ fun d hd (h : place d = place c) => hfresh (h ▸ List.mem_map_of_mem hd), modAt_eq_modify,
        List.getElem?_modify_eq]
      rfl
    · have hplace : place c ≠ place b := fun h => hfresh (h ▸ List.mem_map_of_mem hc)
      rw [ih _ hc hrest, modAt_getElem?_other l _ hplace]

end

theorem modRegion_modRegion (d : Display) (r : Nat) (f g : Region → Region) :
    (d.modRegion r f).modRegion r g = d.modRegion r fun x => g (f x) := by
  simp only [Display.modRegion, modAt_eq_modify, List.modify_modify_eq]
  rfl

/-! ### The start of a waveform (R534, R535, R544, R545) -/

/-- The run from S on: its waveforms planned in the band of that moment. -/
def waveRun (r cyc : Nat) (u : DispRun) (s : State) : DispRun :=
  let p := s.planRun r u.target s.disp.band
  let u1 := { u with
    waving := true, band := s.disp.band, first := (s.startPhase u cyc).1, nbal := p.1, length := p.2.1, plan := p.2.2 }
  { u1 with bursts := u.pre + ((s.disp.addedPhases r u1).length - 8), started := true }

/-- The engine from S on. -/
def waveDisplay (r cyc : Nat) (u : DispRun) (s : State) : Display :=
  { s.disp.modRegion r (fun g => { g with run := some (waveRun r cyc u s), latched := s.disp.band }) with
    clock := if s.disp.clockRuns then s.disp.clock else (s.startPhase u cyc).2
    phase := if s.disp.clockRuns then s.disp.phase else 0
    balPhases := min (2 ^ 32 - 1) (s.disp.balPhases + (s.planRun r u.target s.disp.band).1) }

theorem startPhase_first (u : DispRun) (cyc : Nat) (s : State) : (s.startPhase u cyc).1 =
    if s.disp.clockRuns then max s.disp.phase (phaseFrom s.disp.clock (s.preTick u cyc)) else 0 := by
  unfold State.startPhase
  split <;> rfl

theorem waveDisplay_only (r cyc : Nat) (u : DispRun) (s : State) : waveDisplay r cyc u s = { s.disp with
    regions := (waveDisplay r cyc u s).regions, clock := (waveDisplay r cyc u s).clock, phase := (waveDisplay r cyc u s).phase
    balPhases := (waveDisplay r cyc u s).balPhases } := rfl

section
variable {r cyc : Nat} {s : State}

theorem waveformStart_of_idle (h : (s.disp.region r).run = none ∨ ∃ u, (s.disp.region r).run = some u ∧ (s.updateOn r u = false ∨
    u.done < u.pre ∨ u.waving = true ∨ s.dispMode ≠ 1 ∨ s.frame.tickFrom cyc ≠ (s.startPhase u cyc).2)) : waveformStart r cyc s = s := by
  unfold waveformStart
  obtain h | ⟨u, hrun, h⟩ := h
  · rw [h]
  · rw [hrun]
    refine if_neg ?_
    simp only [Bool.and_eq_true, decide_eq_true_eq, Bool.not_eq_true', beq_iff_eq]
    rintro ⟨⟨⟨⟨hon, hpre⟩, hwaving⟩, hmode⟩, htick⟩
    obtain h | h | h | h | h := h
    · exact Bool.false_ne_true (h.symm.trans hon)
    · exact absurd hpre (Nat.not_le.2 h)
    · exact Bool.false_ne_true (hwaving.symm.trans h)
    · exact h hmode
    · exact h htick

theorem waveformStart_of_due {u : DispRun} (hrun : (s.disp.region r).run = some u) (hon : s.updateOn r u = true) (hpre : u.pre ≤ u.done)
    (hwaving : u.waving = false) (hmode : s.dispMode = 1) (htick : s.frame.tickFrom cyc = (s.startPhase u cyc).2) :
    waveformStart r cyc s = { s with
      frame := { s.frame.at_ cyc with waiting := s.frame.waiting.filter (fun j => j != dispJob r) }
      disp := waveDisplay r cyc u s, mem := s.mem.writeBytes 0x1005FE00 (waveDisplay r cyc u s).area } := by
  have hregions : ((s.disp.modRegion r fun g => { g with run := g.run.map fun _ => waveRun r cyc u s }).modRegion r fun g =>
      { g with latched := s.disp.band }) =
      s.disp.modRegion r fun g => { g with run := some (waveRun r cyc u s), latched := s.disp.band } := by
    rw [modRegion_modRegion]
    exact modRegion_congr (by rw [hrun]; rfl)
  have hdisp : waveDisplay r cyc u s = { (s.disp.modRegion r fun g => { g with run := g.run.map fun _ => waveRun r cyc u s }).modRegion r
      (fun g => { g with latched := s.disp.band }) with
      clock := if s.disp.clockRuns then s.disp.clock else (s.startPhase u cyc).2
      phase := if s.disp.clockRuns then s.disp.phase else 0
      balPhases := min (2 ^ 32 - 1) (s.disp.balPhases + (s.planRun r u.target s.disp.band).1) } := by
    rw [hregions]
    rfl
  rw [hdisp]
  unfold waveformStart
  rw [hrun]
  dsimp only
  rw [if_pos (by simp [hon, hpre, hwaving, hmode, htick])]
  rfl

end

/-! ### A phase of the phase clock (R533, R534, R541, R542) -/

section
variable {vep ven : Nat} {s : State}

theorem drivenPhase_of_idle (h : s.disp.clockRuns = false ∨ s.frame.baseTick + s.frame.length < phaseTick s.disp.clock s.disp.phase) :
    drivenPhase vep ven s = s := by
  refine if_neg ?_
  rw [Bool.and_eq_true, decide_eq_true_eq]
  rintro ⟨hruns, hends⟩
  obtain h | h := h
  · exact Bool.false_ne_true (h.symm.trans hruns)
  · exact absurd hends (Nat.not_le.2 h)

/-- Some segment is driven in the phase. -/
theorem any_driven_iff (codes : List (Nat × Nat)) : (codes.any fun c => c.2 != 0) = true ↔ ∃ p ∈ codes, p.2 ≠ 0 := by
  simp only [List.any_eq_true, bne_iff_ne]

/-- The engine after a phase. -/
def phaseDisplay (vep ven : Nat) (d : Display) : Display :=
  let driven := d.codesNow.any fun c => c.2 != 0
  let low := driven && (decide (vep < 13500) || decide (ven < 13500))
  { d with
    driven := d.codesNow.foldl (fun l c => setAt l c.1 c.2) d.driven
    dc := d.codesNow.foldl (fun l c => modAt l c.1 fun x => x + codeDc c.2) d.dc
    credit := if driven then d.credit - 1 else d.credit
    pumpLow := d.pumpLow || low
    phase := d.phase + 1
    regions := d.regions.map fun g => { g with run := g.run.map fun u =>
      { u with low := u.low || (low && u.waving && decide (u.first ≤ d.phase) && u.drives (d.phase - u.first)) } } }

theorem drivenPhase_of_due (hruns : s.disp.clockRuns = true)
    (hends : phaseTick s.disp.clock s.disp.phase ≤ s.frame.baseTick + s.frame.length) :
    drivenPhase vep ven s = { s with
      frame := s.frame.at_ (s.frame.cycOfTick (phaseTick s.disp.clock s.disp.phase)), disp := phaseDisplay vep ven s.disp } :=
  if_pos (by rw [hruns, decide_eq_true hends]; rfl)

section
variable {d : Display} {i c : Nat} (hc : (i, c) ∈ d.codesNow) (honce : (d.codesNow.map Prod.fst).Nodup)
include hc honce

theorem phaseDisplay_dc_of_coded (vep ven : Nat) (hi : i < d.dc.length) :
    (phaseDisplay vep ven d).dc.getD i 0 = d.dc.getD i 0 + codeDc c := by
  have hread := foldl_modAt_getElem?_of_named (fun (p : Nat × Nat) x => x + codeDc p.2) d.dc hc honce
  rw [List.getElem?_eq_getElem hi, Option.map_some] at hread
  rw [List.getD_eq_getElem?_getD, List.getD_eq_getElem?_getD, List.getElem?_eq_getElem hi]
  exact congrArg (·.getD 0) hread

theorem phaseDisplay_driven_of_coded (vep ven : Nat) (hi : i < d.driven.length) : (phaseDisplay vep ven d).driven[i]? = some c :=
  foldl_setAt_getElem?_of_named hc hi fun _ hb h => congrArg Prod.snd (List.inj_on_of_nodup_map honce hb hc h)

end

theorem phaseDisplay_of_uncoded (vep ven : Nat) {d : Display} {i : Nat} (hi : i ∉ d.codesNow.map Prod.fst) :
    (phaseDisplay vep ven d).dc[i]? = d.dc[i]? ∧ (phaseDisplay vep ven d).driven[i]? = d.driven[i]? :=
  have hunnamed : ∀ p ∈ d.codesNow, p.1 ≠ i := fun _ hp h => hi (h ▸ List.mem_map_of_mem hp)
  ⟨foldl_modAt_getElem?_of_unnamed _ _ hunnamed, foldl_setAt_getElem?_of_unnamed _ _ hunnamed⟩

theorem phaseDisplay_credit (vep ven : Nat) (d : Display) [Decidable (∃ p ∈ d.codesNow, p.2 ≠ 0)] :
    (phaseDisplay vep ven d).credit = if ∃ p ∈ d.codesNow, p.2 ≠ 0 then d.credit - 1 else d.credit :=
  if_congr (any_driven_iff _) rfl rfl

theorem phaseDisplay_pumpLow (vep ven : Nat) (d : Display) [Decidable ((∃ p ∈ d.codesNow, p.2 ≠ 0) ∧ (vep < 13500 ∨ ven < 13500))] :
    (phaseDisplay vep ven d).pumpLow =
      (d.pumpLow || decide ((∃ p ∈ d.codesNow, p.2 ≠ 0) ∧ (vep < 13500 ∨ ven < 13500))) := by
  refine congrArg (d.pumpLow || ·) ?_
  rw [Bool.eq_iff_iff, Bool.and_eq_true, any_driven_iff, Bool.or_eq_true, decide_eq_true_eq, decide_eq_true_eq, decide_eq_true_eq]

end

/-! ### The end of a run (R532, R535, R538, R543) -/

/-- The engine at the end of a run: the levels of its segments are the targets, and their pins are at 0 V. -/
def runEnded (r : Nat) (u : DispRun) (d : Display) : Display :=
  let segs := u.plan.map Prod.fst
  let far := segs.filter fun i => decide (2000 < (d.dc.getD i 0).natAbs)
  { d.modRegion r (fun g => { g with run := none }) with
    levels := segs.foldl (fun l i => setAt l i (natAt u.target i)) d.levels
    balDue := segs.foldl (fun l i => setAt l i (far.contains i)) d.balDue
    driven := segs.foldl (fun l i => setAt l i 0) d.driven
    pumpLow := d.pumpLow && u.low
    interrupted := d.interrupted.filter fun x => x != r
    updates := satInc (2 ^ 32 - 1) d.updates }

/-- The state in which the run has ended, before what follows it, with the memory as the engine leaves it. -/
def doneState (r : Nat) (u : DispRun) (m : Memory) (s : State) : State := { s with
  frame := s.frame.at_ (s.frame.cycOfTick (phaseTick s.disp.clock (u.first + u.length)))
  disp := runEnded r u s.disp
  mem := m }

/-- The state in which the queued update of a region waits. -/
def queuedWaits (r : Nat) (x : List Nat) (s : State) : State := { s with
  disp := s.disp.modRegion r (fun g => { g with run := some (DispRun.wait x s.disp.credit), queued := none })
  frame := jobWaits r s.frame
  pwr := s.pwr.switchOn s.frame.now 5 }

theorem nextUpdate_of_none {r : Nat} {s : State} (h : (s.disp.region r).queued = none) : s.nextUpdate r = s := by
  unfold State.nextUpdate
  rw [h]

theorem nextUpdate_of_queued {r : Nat} {x : List Nat} {s : State} (h : (s.disp.region r).queued = some x) :
    s.nextUpdate r = queuedWaits r x s := by
  unfold State.nextUpdate
  rw [h]
  unfold State.modDisp State.awaitUpdate
  rw [request_of_finished]
  dsimp only
  rw [modRegion_modRegion]
  rfl

theorem dispMode_of_set {s t : State} (h : t.set = s.set) : t.dispMode = s.dispMode := by
  unfold State.dispMode State.on_ State.eff
  rw [h]

theorem dpNeeded_iff (s : State) : s.dpNeeded = true ↔ s.dispMode = 2 ∨ s.disp.busy = true := by
  rw [← beq_iff_eq (a := s.dispMode), ← Bool.or_eq_true]
  rfl

/-- Whether DP is on or goes off, only its domain and the pump change. -/
theorem powerDisplay_only (s : State) : ∃ ds credit pumping lcdAt, s.powerDisplay = { s with
    pwr := { s.pwr with doms := ds }, disp := { s.disp with credit := credit, pumping := pumping, lcdAt := lcdAt } } := by
  unfold State.powerDisplay
  split
  · split
    · exact ⟨_, _, _, _, rfl⟩
    · exact ⟨_, _, _, _, rfl⟩
  · exact ⟨_, _, _, _, rfl⟩

theorem powerDisplay_of_needed {s : State} (h : s.dpNeeded = true) (hdoms : s.pwr.doms.length = 6) :
    (s.powerDisplay.pwr.dom 5).on = true ∧ s.powerDisplay.disp = s.disp := by
  unfold State.powerDisplay
  rw [if_pos h]
  split
  · next hon => exact ⟨hon, rfl⟩
  · exact ⟨switchOn_on (List.mem_singleton_self 5) (by omega), rfl⟩

theorem powerDisplay_of_idle {s : State} (h : s.dpNeeded = false) : s.powerDisplay = { s with
    pwr := s.pwr.switchOff 5, disp := { s.disp with credit := 0, pumping := false, lcdAt := none } } :=
  if_neg (by rw [h]; decide)

/-- The area holds the levels, the ledger, the marks and what the running waveforms will make of them, and nothing else. -/
theorem area_congr {d e : Display} (hwaving : d.waving = e.waving) (hlevels : d.levels = e.levels) (hdc : d.dc = e.dc)
    (hdue : d.balDue = e.balDue) (hphase : d.phase = e.phase) : d.area = e.area := by
  have houtcome : d.outcome = e.outcome := by
    unfold Display.outcome
    rw [hwaving, hlevels, hdc, hdue, hphase]
  unfold Display.area
  rw [houtcome, hwaving]

/-- An update that waits does not wave. -/
theorem area_of_waiting {d : Display} {r : Nat} (x : List Nat) (hlen : r < d.regions.length) (hrun : (d.region r).run = none) :
    (d.modRegion r fun g => { g with run := some (DispRun.wait x d.credit), queued := none }).area = d.area := by
  refine area_congr (List.filterMap_congr fun q _ => ?_) rfl rfl rfl rfl
  by_cases hq : q = r
  · rw [hq, region_modRegion_same _ hlen, hrun]
    rfl
  · rw [region_modRegion_other d _ hq]

section
variable {r : Nat} {s : State}

theorem EventsOnly_nextUpdate {u v : State} (r : Nat) (h : EventsOnly u v) : EventsOnly (u.nextUpdate r) (v.nextUpdate r) := by
  unfold EventsOnly at h
  have hqueued : (v.disp.region r).queued = (u.disp.region r).queued := by rw [h]
  cases hx : (u.disp.region r).queued with
  | none =>
    rw [nextUpdate_of_none hx, nextUpdate_of_none (hqueued.trans hx)]
    exact h
  | some x =>
    rw [nextUpdate_of_queued hx, nextUpdate_of_queued (hqueued.trans hx), h]
    rfl

theorem EventsOnly_powerDisplay {u v : State} (h : EventsOnly u v) : EventsOnly u.powerDisplay v.powerDisplay := by
  have heq := h
  unfold EventsOnly at heq
  have hneeded : v.dpNeeded = u.dpNeeded := by rw [heq]; rfl
  have hdom : v.pwr.dom 5 = u.pwr.dom 5 := by rw [heq]; rfl
  unfold State.powerDisplay
  rw [hneeded, hdom]
  split
  · split
    · exact h
    · rw [heq]
      rfl
  · rw [heq]
    rfl

theorem EventsOnly_keeps {u t : State} (h : EventsOnly u t) :
    t.disp = u.disp ∧ t.frame = u.frame ∧ t.mem = u.mem ∧ t.pwr.doms = u.pwr.doms := by
  unfold EventsOnly at h
  rw [h]
  exact ⟨rfl, rfl, rfl, rfl⟩

theorem EventsOnly_withMem {u v : State} (h : EventsOnly u v) (m : Memory) : EventsOnly { u with mem := m } { v with mem := m } := by
  unfold EventsOnly at h
  rw [h]
  rfl

theorem EventsOnly_saveDisplay {u v : State} (h : EventsOnly u v) : EventsOnly u.saveDisplay v.saveDisplay := by
  obtain ⟨hdisp, -, hmem, -⟩ := EventsOnly_keeps h
  have hbytes : v.mem.writeBytes areaBase v.disp.area = u.mem.writeBytes areaBase u.disp.area := by rw [hmem, hdisp]
  unfold State.saveDisplay
  rw [hbytes]
  exact EventsOnly_withMem h _

theorem displayDone_of_idle (h : (s.disp.region r).run = none ∨ ∃ u, (s.disp.region r).run = some u ∧ (u.waving = false ∨
    s.disp.phase < u.first + u.length ∨ s.frame.baseTick + s.frame.length < phaseTick s.disp.clock (u.first + u.length))) :
    displayDone r s = s := by
  unfold displayDone
  obtain h | ⟨u, hrun, h⟩ := h
  · rw [h]
  · rw [hrun]
    refine if_neg ?_
    simp only [Bool.and_eq_true, decide_eq_true_eq]
    rintro ⟨⟨hwaving, hphase⟩, hends⟩
    obtain h | h | h := h
    · exact Bool.false_ne_true (h.symm.trans hwaving)
    · exact absurd hphase (Nat.not_le.2 h)
    · exact absurd hends (Nat.not_le.2 h)

/-- The state in which the run has ended and what waits behind it is settled. -/
def settledState (r : Nat) (u : DispRun) (m : Memory) (s : State) : State := ((doneState r u m s).nextUpdate r).powerDisplay

theorem displayDone_of_over {u : DispRun} (hrun : (s.disp.region r).run = some u) (hwaving : u.waving = true)
    (hphase : u.first + u.length ≤ s.disp.phase)
    (hends : phaseTick s.disp.clock (u.first + u.length) ≤ s.frame.baseTick + s.frame.length) :
    EventsOnly (settledState r u (s.mem.writeBytes 0x1005FE00 (runEnded r u s.disp).area) s) (displayDone r s) := by
  unfold displayDone
  rw [hrun]
  dsimp only
  rw [if_pos (by simp [hwaving, hphase, hends])]
  refine EventsOnly_powerDisplay (EventsOnly_nextUpdate r ?_)
  exact EventsOnly_saveDisplay (u := { s with
      frame := s.frame.at_ (s.frame.cycOfTick (phaseTick s.disp.clock (u.first + u.length))), disp := runEnded r u s.disp })
    (EventsOnly_trans (EventsOnly_raise _ _) (EventsOnly_raiseIf _ _ _))

theorem doneState_region {u : DispRun} (hlen : r < s.disp.regions.length) :
    (doneState r u m s).disp.region r = { s.disp.region r with run := none } :=
  region_modRegion_same (fun g => { g with run := none }) hlen

/-- What changes where a region without a run takes its queued update up. -/
theorem nextUpdate_only (hlen : r < s.disp.regions.length) (hrun : (s.disp.region r).run = none) : ∃ regions doms dynamic tried waiting,
    s.nextUpdate r = { s with
      disp := { s.disp with regions := regions }, pwr := { s.pwr with doms := doms }
      frame := { s.frame with dynamic := dynamic, tried := tried, waiting := waiting } } ∧
    (s.nextUpdate r).disp.area = s.disp.area ∧ doms.length = s.pwr.doms.length ∧
    ∀ q, q ≠ r → (s.nextUpdate r).disp.region q = s.disp.region q := by
  cases hx : (s.disp.region r).queued with
  | none =>
    rw [nextUpdate_of_none hx]
    exact ⟨_, _, _, _, _, rfl, rfl, rfl, fun _ _ => rfl⟩
  | some x =>
    rw [nextUpdate_of_queued hx]
    exact ⟨_, _, _, _, _, rfl, area_of_waiting x hlen hrun, switchOn_length s.frame.now 5 s.pwr, fun q hq => region_modRegion_other _ _ hq⟩

section
variable (u : DispRun) (m : Memory) (hlen : r < s.disp.regions.length)
include hlen

theorem doneState_free : r < (doneState r u m s).disp.regions.length ∧ ((doneState r u m s).disp.region r).run = none :=
  ⟨hlen.trans_eq (modAt_length _ _ _).symm, congrArg Region.run (doneState_region hlen)⟩

/-- What settling leaves of the state in which the run has ended. -/
theorem settledState_only : ∃ regions doms dynamic tried waiting credit pumping lcdAt, settledState r u m s = { doneState r u m s with
    disp := { runEnded r u s.disp with regions := regions, credit := credit, pumping := pumping, lcdAt := lcdAt }
    pwr := { s.pwr with doms := doms }
    frame := { (doneState r u m s).frame with dynamic := dynamic, tried := tried, waiting := waiting } } := by
  obtain ⟨hlen', hfree⟩ := doneState_free u m hlen
  obtain ⟨regions, doms, dynamic, tried, waiting, hnext, -, -, -⟩ := nextUpdate_only hlen' hfree
  obtain ⟨ds, credit, pumping, lcdAt, hpower⟩ := powerDisplay_only ((doneState r u m s).nextUpdate r)
  refine ⟨regions, ds, dynamic, tried, waiting, credit, pumping, lcdAt, hpower.trans ?_⟩
  rw [hnext]
  rfl

/-- Settling changes the time, the jobs, the engine, the area and the domains, and nothing else. -/
theorem settledState_frame : settledState r u m s = { s with
    frame := { s.frame.at_ (s.frame.cycOfTick (phaseTick s.disp.clock (u.first + u.length))) with
      dynamic := (settledState r u m s).frame.dynamic, tried := (settledState r u m s).frame.tried
      waiting := (settledState r u m s).frame.waiting }
    disp := (settledState r u m s).disp, mem := (settledState r u m s).mem
    pwr := { s.pwr with doms := (settledState r u m s).pwr.doms } } := by
  obtain ⟨_, _, _, _, _, _, _, _, h⟩ := settledState_only u m hlen
  rw [h]
  rfl

omit hlen in
/-- The regions that settling leaves are those of the next update. -/
theorem settledState_regions : (settledState r u m s).disp.regions = ((doneState r u m s).nextUpdate r).disp.regions := by
  obtain ⟨_, _, _, _, hpower⟩ := powerDisplay_only ((doneState r u m s).nextUpdate r)
  rw [settledState, hpower]

theorem settledState_other {q : Nat} (hq : q ≠ r) : (settledState r u m s).disp.region q = s.disp.region q := by
  obtain ⟨hlen', hfree⟩ := doneState_free u m hlen
  obtain ⟨_, _, _, _, _, _, -, -, hother⟩ := nextUpdate_only hlen' hfree
  rw [Display.region, settledState_regions u m]
  exact (hother q hq).trans (region_modRegion_other s.disp _ hq)

theorem settledState_area : (settledState r u m s).disp.area = (runEnded r u s.disp).area := by
  obtain ⟨hlen', hfree⟩ := doneState_free u m hlen
  obtain ⟨_, _, _, _, _, _, harea, -, -⟩ := nextUpdate_only hlen' hfree
  obtain ⟨_, _, _, _, hpower⟩ := powerDisplay_only ((doneState r u m s).nextUpdate r)
  rw [settledState, hpower]
  exact harea

theorem settledState_mem : (settledState r u m s).mem = m := by
  obtain ⟨_, _, _, _, _, _, _, _, h⟩ := settledState_only u m hlen
  rw [h]
  rfl

theorem settledState_of_unqueued (h : (s.disp.region r).queued = none) :
    (settledState r u m s).disp.region r = { s.disp.region r with run := none } ∧ (settledState r u m s).frame = (doneState r u m s).frame := by
  have hnext : (doneState r u m s).nextUpdate r = doneState r u m s :=
    nextUpdate_of_none ((congrArg Region.queued (doneState_region hlen)).trans h)
  obtain ⟨_, _, _, _, hpower⟩ := powerDisplay_only ((doneState r u m s).nextUpdate r)
  refine ⟨?_, ?_⟩
  · rw [Display.region, settledState_regions u m, hnext]
    exact doneState_region hlen
  · rw [settledState, hpower, hnext]

theorem settledState_of_queued {x : List Nat} (h : (s.disp.region r).queued = some x) :
    (settledState r u m s).disp.region r =
      { s.disp.region r with run := some (DispRun.wait x s.disp.credit), queued := none } ∧
    dispJob r ∈ (settledState r u m s).frame.dynamic := by
  have hnext : (doneState r u m s).nextUpdate r = queuedWaits r x (doneState r u m s) :=
    nextUpdate_of_queued ((congrArg Region.queued (doneState_region hlen)).trans h)
  obtain ⟨_, _, _, _, hpower⟩ := powerDisplay_only ((doneState r u m s).nextUpdate r)
  refine ⟨?_, ?_⟩
  · rw [Display.region, settledState_regions u m, hnext]
    refine (region_modRegion_same _ (doneState_free u m hlen).1).trans ?_
    rw [doneState_region hlen]
    rfl
  · rw [settledState, hpower, hnext]
    exact List.mem_append_right _ (List.mem_singleton_self _)

/-- DP is needed after the run's end on an LCD, or while an update runs or waits. -/
theorem settledState_needed_iff :
    ((doneState r u m s).nextUpdate r).dpNeeded = true ↔ s.dispMode = 2 ∨ (settledState r u m s).disp.busy = true := by
  obtain ⟨hlen', hfree⟩ := doneState_free u m hlen
  obtain ⟨_, _, _, _, _, hnext, -, -, -⟩ := nextUpdate_only hlen' hfree
  have hmode : ((doneState r u m s).nextUpdate r).dispMode = s.dispMode := dispMode_of_set (by rw [hnext]; rfl)
  have hbusy : (settledState r u m s).disp.busy = ((doneState r u m s).nextUpdate r).disp.busy := by
    unfold Display.busy Display.running Display.waits
    rw [settledState_regions u m]
  rw [dpNeeded_iff, hmode, hbusy]

theorem settledState_of_needed (hdoms : s.pwr.doms.length = 6) (h : s.dispMode = 2 ∨ (settledState r u m s).disp.busy = true) :
    ((settledState r u m s).pwr.dom 5).on = true ∧ (settledState r u m s).disp.credit = s.disp.credit := by
  obtain ⟨hlen', hfree⟩ := doneState_free u m hlen
  obtain ⟨_, doms, _, _, _, hnext, -, hlength, -⟩ := nextUpdate_only hlen' hfree
  obtain ⟨hon, hdisp⟩ := powerDisplay_of_needed ((settledState_needed_iff u m hlen).2 h) (by rw [hnext]; exact hlength.trans hdoms)
  refine ⟨hon, (congrArg Display.credit hdisp).trans ?_⟩
  rw [hnext]
  rfl

theorem settledState_of_idle (hmode : s.dispMode ≠ 2) (h : (settledState r u m s).disp.busy = false) :
    ((settledState r u m s).pwr.dom 5).on = false ∧ (settledState r u m s).disp.credit = 0 ∧ (settledState r u m s).disp.pumping = false ∧
      (settledState r u m s).disp.lcdAt = none := by
  have hidle : ((doneState r u m s).nextUpdate r).dpNeeded = false := by
    rw [← Bool.not_eq_true, settledState_needed_iff u m hlen, h]
    exact fun hneeded => hneeded.elim hmode Bool.false_ne_true
  rw [settledState, powerDisplay_of_idle hidle]
  refine ⟨?_, rfl, rfl, rfl⟩
  dsimp only
  rw [switchOff_dom, if_pos (mem_offWith.2 (.inl rfl))]
  rfl

end

/-- The marks of the segments of a run at its end, each read at its place. -/
theorem runEnded_of_planned {u : DispRun} {d : Display} {i : Nat} (hi : i ∈ u.plan.map Prod.fst) (hlevels : i < d.levels.length)
    (hdue : i < d.balDue.length) (hdriven : i < d.driven.length) :
    (runEnded r u d).levels[i]? = some (natAt u.target i) ∧ (runEnded r u d).driven[i]? = some 0 ∧
      (runEnded r u d).balDue[i]? = some (decide (2000 < (d.dc.getD i 0).natAbs)) := by
  refine ⟨foldl_setAt_getElem?_of_named (place := id) hi hlevels fun b _ h => congrArg _ h,
    foldl_setAt_getElem?_of_named (place := id) hi hdriven fun _ _ _ => rfl, ?_⟩
  have hfar : ((u.plan.map Prod.fst).filter fun i => decide (2000 < (d.dc.getD i 0).natAbs)).contains i =
      decide (2000 < (d.dc.getD i 0).natAbs) := by
    rw [Bool.eq_iff_iff, List.contains_iff_mem, List.mem_filter]
    exact and_iff_right hi
  rw [← hfar]
  exact foldl_setAt_getElem?_of_named (place := id) hi hdue fun b _ h => congrArg _ h

theorem runEnded_of_unplanned {u : DispRun} (d : Display) {i : Nat} (hi : i ∉ u.plan.map Prod.fst) :
    (runEnded r u d).levels[i]? = d.levels[i]? ∧ (runEnded r u d).balDue[i]? = d.balDue[i]? :=
  have hunnamed : ∀ c ∈ u.plan.map Prod.fst, id c ≠ i := fun _ hc h => hi (h ▸ hc)
  ⟨foldl_setAt_getElem?_of_unnamed _ _ hunnamed, foldl_setAt_getElem?_of_unnamed _ _ hunnamed⟩

end

theorem EventsOnly_settled {r : Nat} {s t : State} (u : DispRun) {m : Memory} (hlen : r < s.disp.regions.length)
    (h : EventsOnly (settledState r u m s) t) : EventsOnly { s with
      frame := { s.frame.at_ (s.frame.cycOfTick (phaseTick s.disp.clock (u.first + u.length))) with
        dynamic := t.frame.dynamic, tried := t.frame.tried, waiting := t.frame.waiting }
      disp := t.disp, mem := t.mem, pwr := { s.pwr with doms := t.pwr.doms } } t := by
  obtain ⟨hdisp, hframe, hmem, hpwr⟩ := EventsOnly_keeps h
  have honly := settledState_frame u m hlen
  rw [← hdisp, ← hframe, ← hmem, ← hpwr] at honly
  exact honly ▸ h

/-! ### Frames of a multiplexed LCD (R548 to R550) -/

theorem lcdDue_eq {s : State} {cyc due : Nat} (hafter : ∀ a, s.disp.lcdAt = some a → due = a + s.lcdTicks)
    (hfirst : s.disp.lcdAt = none → due = s.frame.tickFrom cyc) : s.lcdDue cyc = due := by
  unfold State.lcdDue
  cases h : s.disp.lcdAt with
  | none => exact (hfirst h).symm
  | some a => exact (hafter a h).symm

theorem lcdFrameStart_of_idle {s : State} {cyc : Nat} (h : s.dispMode ≠ 2 ∨ s.frame.running = false ∨
    ∃ a, s.disp.lcdAt = some a ∧ s.frame.tickFrom cyc < a + s.lcdTicks) : lcdFrameStart cyc s = s := by
  refine if_neg ?_
  rintro ⟨hmode, hrunning, hdue⟩
  obtain h | h | ⟨a, ha, h⟩ := h
  · exact h hmode
  · exact Bool.false_ne_true (h.symm.trans hrunning)
  · rw [State.lcdDue, ha] at hdue
    exact absurd hdue (Nat.not_le.2 h)

/-- The state at the start of an LCD frame whose data the time `v` gives. -/
def lcdFrame (due : Nat) (v : State) : State := { v with
  disp := { v.disp with
    lcdAt := some due
    lcdShown := v.lcdData
    lcdOn := if v.blinkOn then v.lcdData else List.zipWith (fun a b => a &&& (255 ^^^ b)) v.lcdData v.lcdBlink
    lcdPolarity := !v.disp.lcdPolarity } }

theorem lcdFrameStart_of_due {s : State} {cyc due : Nat} (hmode : s.dispMode = 2) (hrunning : s.frame.running = true)
    (hle : due ≤ s.frame.tickFrom cyc) (hdue : s.lcdDue cyc = due) :
    lcdFrameStart cyc s = lcdFrame due ({ s with frame := s.frame.at_ cyc } : State).elapse := by
  subst hdue
  exact if_pos ⟨hmode, hrunning, hle⟩

/-- What an LCD shows is read from the mode, the settings and TAPER_CODE. -/
theorem lcdData_of_read {s t : State} (hmode : t.mode = s.mode) (hset : t.set = s.set) (hcode : t.pwr.taperCode = s.pwr.taperCode) :
    t.lcdData = s.lcdData ∧ t.lcdBlink = s.lcdBlink := by
  unfold State.lcdData State.lcdBlink State.digits State.at_ State.on_ State.get State.eff
  rw [hmode, hset, hcode]
  exact ⟨rfl, rfl⟩

theorem blinkOn_lcdFrame (due : Nat) (v : State) : (lcdFrame due v).blinkOn = v.blinkOn := rfl

theorem Ticked_lcdFrame (due : Nat) (w : State) : Ticked { w with
    disp := { w.disp with
      lcdAt := some due, lcdShown := (lcdFrame due w.elapse).disp.lcdShown, lcdOn := (lcdFrame due w.elapse).disp.lcdOn
      lcdPolarity := !w.disp.lcdPolarity } } (lcdFrame due w.elapse) := by
  obtain ⟨_, _, _, _, _, _, _, _, _, _, _, _, _, _, h⟩ := elapse_only w
  rw [h]
  rfl

/-- Settles O58, from what each command leaves: S of a run (`waveformStart_of_due`), a phase (`drivenPhase_of_due`), the end of a run with
what waits behind it (`displayDone_of_over`, `nextUpdate_only`, `powerDisplay_only`), and an LCD frame (`lcdFrameStart_of_due`). -/
theorem waveformsDriveTheSegments : Obligations.WaveformsDriveTheSegments := by
  unfold Obligations.WaveformsDriveTheSegments
  refine ⟨fun r cyc s => ⟨fun hidle => congrArg Host.Outcome.next (waveformStart_of_idle hidle),
      fun u hr hlen hrun hon hpre hwaving hmode htick => ⟨_, congrArg Host.Outcome.next (waveformStart_of_due hrun hon hpre hwaving hmode htick),
        ⟨waveRun r cyc u s, ?waveRegion, rfl, ?waveFirst, rfl, rfl⟩, fun q hq => region_modRegion_other s.disp _ hq,
        fun hruns => ⟨if_pos hruns, if_pos hruns⟩, fun hruns => ⟨?waveClock, if_neg (by rw [hruns]; decide)⟩, ?waveMem, ?waveFrame⟩⟩,
    fun vep ven s => ⟨fun hidle => congrArg Host.Outcome.next (drivenPhase_of_idle hidle),
      fun hruns hends honce hdc hdriven => ⟨_, congrArg Host.Outcome.next (drivenPhase_of_due hruns hends),
        fun i c hc hi => ⟨?phaseDc, ?phaseDriven⟩, fun i hi => ⟨?standsDc, ?standsDriven⟩, phaseDisplay_credit vep ven s.disp, rfl,
        phaseDisplay_pumpLow vep ven s.disp, rfl, rfl, rfl, rfl, rfl⟩⟩,
    fun r s => ⟨fun hidle => congrArg Host.Outcome.next (displayDone_of_idle hidle),
      fun u hr hlen hrun hwaving hphase hends hlevels hdue hdriven hdoms => ?done⟩,
    fun cyc s => ⟨fun hidle => congrArg Host.Outcome.next (lcdFrameStart_of_idle hidle),
      fun due hmode hrunning hle hafter hfirst =>
        ⟨_, congrArg Host.Outcome.next (lcdFrameStart_of_due hmode hrunning hle (lcdDue_eq hafter hfirst)), ?lcd⟩⟩⟩
  case waveRegion => exact region_modRegion_same _ (hlen ▸ hr)
  case waveMem => dsimp only
  case waveFrame =>
    dsimp only
    rw [← waveDisplay_only]
  case waveFirst => exact startPhase_first u cyc s
  case waveClock => exact (if_neg (by rw [hruns]; decide)).trans htick.symm
  case phaseDc => exact phaseDisplay_dc_of_coded hc honce vep ven (hdc ▸ hi)
  case phaseDriven => exact phaseDisplay_driven_of_coded hc honce vep ven (hdriven ▸ hi)
  case standsDc => exact (phaseDisplay_of_uncoded vep ven hi).1
  case standsDriven => exact (phaseDisplay_of_uncoded vep ven hi).2
  case done =>
    have hlen' : r < s.disp.regions.length := hlen ▸ hr
    have hevents := displayDone_of_over hrun hwaving hphase hends
    obtain ⟨hdisp, hframe, hmem, hpwr⟩ := EventsOnly_keeps hevents
    obtain ⟨_, _, _, _, _, _, _, _, honly⟩ := settledState_only u _ hlen'
    refine ⟨_, rfl, fun hnone => ?unqueued, fun x hx => ?queued, fun q hq => ?others, fun i hi hi96 => ?planned, fun i hi => ?unplanned,
      ?updates, ?dc, ?pumpLow, fun hneeded => ?needed, fun hpanel hbusy => ?idle, ?area, ?frame⟩
    case unqueued =>
      obtain ⟨hregion, htime⟩ := settledState_of_unqueued u _ hlen' hnone
      exact ⟨hdisp ▸ hregion, hframe.trans htime⟩
    case queued =>
      obtain ⟨hregion, hjob⟩ := settledState_of_queued u _ hlen' hx
      exact ⟨hdisp ▸ hregion, hframe ▸ hjob⟩
    case others => exact hdisp ▸ settledState_other u _ hlen' hq
    case planned =>
      rw [hdisp, honly]
      exact runEnded_of_planned (r := r) hi (hlevels ▸ hi96) (hdue ▸ hi96) (hdriven ▸ hi96)
    case unplanned =>
      rw [hdisp, honly]
      exact runEnded_of_unplanned (r := r) s.disp hi
    case updates =>
      rw [hdisp, honly]
      rfl
    case dc =>
      rw [hdisp, honly]
      rfl
    case pumpLow =>
      rw [hdisp, honly]
      rfl
    case needed =>
      rw [hdisp] at hneeded
      obtain ⟨hon, hcredit⟩ := settledState_of_needed u _ hlen' hdoms hneeded
      rw [Power.dom, hpwr, hdisp]
      exact ⟨hon, hcredit⟩
    case idle =>
      rw [hdisp] at hbusy
      rw [Power.dom, hpwr, hdisp]
      exact settledState_of_idle u _ hlen' hpanel hbusy
    case area => rw [hmem, hdisp, settledState_area u _ hlen', settledState_mem u _ hlen']
    case frame => exact EventsOnly_settled u hlen' hevents
  case lcd =>
    have hmode' : ({ s with frame := s.frame.at_ cyc } : State).elapse.mode = s.mode := elapse_mode _
    obtain ⟨hdata, hblink⟩ := lcdData_of_read hmode' (elapse_set _) (elapse_pwr_taperCode _)
    refine ⟨fun houtside => ⟨?_, if_neg houtside⟩, fun htaper => ?_, ?_, Ticked_lcdFrame due _⟩
    · exact hdata.trans (if_neg houtside)
    · exact hdata.trans (if_pos htaper)
    · rw [← hblink]
      rfl

end Sys2Proof.Proofs
end
